-- ==== Sys2Proof/Word.lean ====
section
/-! DEFINITION. Word.lean: the word types of the control space and the plainest list helpers over bytes. -/
namespace Sys2Proof

/-- One byte. -/
abbrev Byte := BitVec 8

/-- One 32-bit word of the control space (R10). -/
abbrev Word := BitVec 32

/-- One 256-byte flit, or any other run of bytes, lowest address first. -/
abbrev Bytes := List Byte

end Sys2Proof
end

