-- ==== Sys2Proof/Syntax0.lean ====
section
/-! DEFINITION. Syntax0.lean: the operand types of the commands: blocks, tokens, events, command tags and statuses. -/
namespace Sys2Proof

/-- The blocks of Table 1.1. -/
inductive Blk where
  | fab | knl | ch (n : Fin 20) | dec | wrp | srv | spn | act | buf | mdc | scb | dma | hst | zne | rng | ece | seq | flc | log | pwr | sec
deriving DecidableEq, Repr

/-- The four credit classes of Table 2.1, by CLASS code of Table 2.2. -/
inductive Cls where
  | cmd | data | rsp | mgt
deriving DecidableEq, Repr

/-- Kinds of background requests (Table 2.3). -/
inductive BgKind where
  | scan | scrub | roll | flush
deriving DecidableEq, Repr

/-- The outcome of a read of an on-die SRAM block (R246): no error, one bit mended in a data byte or in the column byte, or an
uncorrectable pattern. `blk` is the 64-byte block index of the memory read. -/
inductive SramRead where
  | ok
  | mended (blk byte bit : Nat)
  | uncorrectable (blk pattern : Nat)
deriving DecidableEq, Repr

/-- What a read of an on-die SRAM finds (R246): block `block` of the memory with the bits `flips` flipped since they were written, each a byte (0 to 63 data, 64 the
column byte) and a bit (0 to 7, or 8 for the byte's parity bit). -/
structure SramBits where
  block : Nat := 0
  flips : List (Nat × Nat) := []
deriving DecidableEq, Repr

/-- The identity of a host command: controller (0 = CNTLID 0x0001), submission queue and command identifier. -/
structure Tag where
  ctrl : Fin 2
  sq : Nat
  cid : Nat
deriving DecidableEq, Repr

/-- A completion status: status code type, status code and Do Not Retry. -/
structure Status where
  sct : Nat
  sc : Nat
  dnr : Bool
deriving DecidableEq, Repr

/-- The parties that make control-space accesses, by requester code of R435. -/
inductive Requester where
  | seq (s : Fin 8) | loader | ctrl (c : Fin 2)
deriving DecidableEq, Repr

end Sys2Proof
end

