-- ==== Sys2Proof/Syntax1.lean ====
section
/-! DEFINITION. Syntax1.lean: the operands of the commands that carry more than numbers: what the outside world does at that moment. -/
namespace Sys2Proof
/-- A burst of a device whose EDC fails `fails` times in a row: the line, the device (R220). -/
structure EdcFail where
  line : Nat
  dev : Nat
  fails : Nat
deriving DecidableEq, Repr

/-- A flip of stored symbol bits of the GDDR7 memory. -/
structure Upset where
  line : Nat
  beat : Nat
  dev : Nat
  xor : Nat
deriving DecidableEq, Repr
/-- A sector-run order (Table 4.9). -/
structure RunOrder where
  tag : Nat
  freezeImg : Bool := false
  ssmOnly : Bool := false
  ext : Bool := false
  reader : Nat := 0
  retain : Bool := false
  step : Nat := 0
  stripe : Nat := 0
  track : Nat := 0
  band : Nat := 0
  w : Nat := 1
  first : Nat := 0
  count : Nat := 1
  lba : Nat := 0
  nsid : Nat := 0
  keySlot : Nat := 0xFFFF
  tbufFirst : Nat := 0
  tbufSize : Nat := 16
deriving DecidableEq, Repr

/-- What a channel takes from one wedge (Table 3.1), the symbol written first in the most significant bit: the symbols of the servo address mark, of the index
and wedge number, of the track ID and of the RRO field, the amplitudes of the two bursts (two's complement) and the quality of the mark's correlation. -/
structure WedgeRaw where
  sam : BitVec 12
  number : BitVec 22
  track : BitVec 48
  ampN : BitVec 16
  ampQ : BitVec 16
  rro : BitVec 26
  samQ : BitVec 16
deriving DecidableEq, Repr

/-- The detector's hard decisions (true = bit 1) at the marks of a sector (R102 to R107): those of its head, from the start of its preamble on, and for each wedge that
splits it those behind the wedge, from the start of the resync preamble on. -/
structure SectorView where
  head : List Bool
  rsm : List (List Bool)
deriving DecidableEq, Repr

/-- How a host-memory read ends (R311): with data, Unsupported Request, Completer Abort, or a poisoned completion. -/
inductive HostRes where
  | ok (data : Bytes)
  | ur | ca | poisoned
deriving DecidableEq, Repr

/-- What the host has set in a function's configuration space when it enables the controller (R296): Max Payload Size and Max Read Request Size
in bytes, MSI-X enabled, and the interrupt mask of INTMS (R301). -/
structure HostCfg where
  mps : Nat
  mrrs : Nat
  msix : Bool
  intms : Nat := 0
deriving DecidableEq, Repr

/-- A ring frame (Tables 13.2 to 13.4): FTYPE, FLAGS, SEQ, EPOCH, SRC, DST, TGT, JOB, BLOCK and FCNT of a block frame, HOPS of a HELLO, and its contents:
bytes 12 to 27 of a control frame (ACK: bytes 4 to 27; HELLO: the SERIAL), the plaintext PAYLOAD of a block frame; the TAG of a sealed one, whether the
CRC goes out inverted, and whether an injection has touched it. -/
structure RFrame where
  ftype : Nat
  flags : Nat := 0
  seq : Nat := 0
  epoch : Nat := 0
  src : Nat := 0
  dst : Nat := 0
  tgt : Nat := 0
  job : Nat := 0
  block : Nat := 0
  fcnt : Nat := 0
  hops : Nat := 0
  body : List (BitVec 8) := []
  tag : List (BitVec 8) := []
  badCrc : Bool := false
  inj : Bool := false
deriving DecidableEq, Repr

/-- The 16 even-parity bits of a ROM word, one for each byte (R425). -/
def romParity (w : BitVec 128) : BitVec 16 :=
  (List.range 16).foldl (fun p i => if ((List.range 8).filter fun b => w.getLsbD (8 * i + b)).length % 2 = 1 then p ||| BitVec.ofNat 16 (2 ^ i) else p) 0

/-- What a sequencer finds when it fetches a microword (R425, R426): the word of the ROM (the ROMs are not published) with its parity bits as they are read, and what it reads in
the patch SRAM, the register file and, for an LDC or a COMMIT, the context store. -/
structure Fetch where
  rom : BitVec 128 := 0
  parity : BitVec 16 := romParity rom
  patch : SramBits := {}
  regs : SramBits := {}
  ctx : SramBits := {}
deriving DecidableEq, Repr

/-- The check of R425: every byte of the word agrees with its parity bit. -/
def Fetch.parityOk (f : Fetch) : Bool := f.parity == romParity f.rom

/-- What reaches a sequencer and needs a thread (R414, R421): a token that starts a routine at a dispatch entry on a context, or a response to
a run of a thread. -/
inductive Arrival where
  | start (entry : BitVec 8) (ctx : BitVec 12)
  | resp (thread : Fin 32) (run : Nat) (words : List (BitVec 32))
deriving DecidableEq, Repr

/-- The outcome of a scan (R358): context, sectors found OK from the scan start on, why it ended (Table 12.13). -/
structure ScanEnd where
  ctx : Nat
  good : Nat
  reason : Nat
deriving DecidableEq, Repr

end Sys2Proof
end

