-- ==== Sys2Proof/Syntax.lean ====
section
/-! DEFINITION. Syntax.lean: the commands of the block, one constructor for each row of spec/opcode_table.json and in its order. An operand is what
the rules of the row say that the sender, the host, the media or the device's surroundings supply at that moment. Names used throughout: `t` the host
command's controller, queue and identifier; `who` the requester of a control-space write; `v` the value written; `n` a channel or head; `a` an actuator (an
address where `v` or `who` stands with it); `k` a servo loop, a decoder slot or a bank; `p` a port; `c` a controller; `q` a sequencer with `t` its thread. -/
namespace Sys2Proof

/-- A command of the EO7260 (the rows of spec/opcode_table.json). -/
inductive Instr where
  /-- REGISTER_WRITE: A control-space write to a register that has no row of its own (R13). -/
  | registerWrite (a v : Word) (who : Requester)
  /-- TOKEN_SEND: A producer sends a token on pool `j` of block `b`, with DATA on pool `data` and a response slot if `rsp`; or the block sends the response to one (`back`) (R16, R39). -/
  | tokenSend (b : Blk) (j : Fin 32) (payload : Bytes) (data : Option (Fin 32 × Bytes)) (rsp back : Bool)
  /-- TOKEN_ACCEPT: A consumer takes a token, or with `back` a requester a response, and checks its parity (R37). -/
  | tokenAccept (b : Blk) (j : Fin 32) (back : Bool) (flip : Option Nat) (sram : SramBits)
  /-- CREDIT_RETURN: A consumer frees a slot and returns its credit (R38). -/
  | creditReturn (b : Blk) (j : Fin 32)
  /-- EVENT_OFFER: A block raises event number `n` (R42). -/
  | eventOffer (b : Blk) (n : Byte) (p1 p2 p3 : Word)
  /-- EVENT_CREDIT_REGAINED: A block regains a LOG credit (R517). -/
  | eventCreditRegained (b : Blk)
  /-- BACKGROUND_PROMOTION: Background requests of a kind that have waited their interval are promoted (R50). -/
  | backgroundPromotion (k : BgKind)
  /-- STALL_DETECTED: The stall detector of pool `j` sees a handshake stuck `since` an instant, at the queue's input or a `lane` boundary; `cmds` are commands whose microcode waits on the pool (R52). -/
  | stallDetected (b : Blk) (j : Fin 32) (lane : Bool) (since : BitVec 64) (cmds : List Tag)
  /-- REGISTER_PARITY_SWEEP: A register sweep; `bad` is a register, and the bit of it that has flipped in storage (R55). -/
  | registerParitySweep (b : Blk) (bad : Option (Word × Fin 32))
  /-- TBASE_DUP_MISMATCH: The duplicated time-base counters disagree (R26). -/
  | tbaseDupMismatch
  /-- XTAL_LOST: No crystal edge for 1,000 ns (R27). -/
  | xtalLost
  /-- TBASE_LO_READ: A read of KNL.TBASE_LO (R28). -/
  | tbaseLoRead
  /-- ROLL_CALL_REQUEST: A write of START to FAB.RC_CTRL (R60). -/
  | rollCallRequest
  /-- ROLL_TOKEN_AT_BANK: The roll-call token reaches the bank of a block (R58). -/
  | rollTokenAtBank (b : Blk)
  /-- ROLL_CALL_COMPLETE: The token returns to FAB (R59). -/
  | rollCallComplete
  /-- ROLL_PERIOD_DUE: The roll-call period expires (R58). -/
  | rollPeriodDue
  /-- ROLL_CALL_CMD: The Roll Call command (R61). -/
  | rollCallCmd (t : Tag)
  /-- WEDGE_DEMODULATED: Channel n finds a SAM and demodulates the wedge (R67). -/
  | wedgeDemodulated (n : Fin 20) (w : WedgeRaw)
  /-- SAM_WINDOW_MISS: The SAM search window of channel n closes without a SAM (R68). -/
  | samWindowMiss (n : Fin 20)
  /-- SECTOR_RUN_ORDER: MSQa orders the read run of a head whose heater notice has been answered first, from a track-buffer slot on. -/
  | sectorRunOrder (n : Fin 20) (tbuf : BitVec 16)
  /-- SECTOR_START: The next sector of the run begins under the head; `v` is what the detector sees at its marks (R111). -/
  | sectorStart (n : Fin 20) (v : SectorView)
  /-- THERMAL_ASPERITY: The baseline departs by `depart` ADC LSB for `len` bits from codeword bit `first` (R109). -/
  | thermalAsperity (n : Fin 20) (first len depart : Nat)
  /-- PLL_LOCK_LOST: Over 256 bits up to bit pos of the sector's present part the phase error has been at least |phase| / 1,024 channel bit. -/
  | pllLockLost (n : Fin 20) (pos : Nat) (phase : Int)
  /-- LOOP_UPDATE_BLOCK: 64 channel bits of the sector pass: the lanes' 7-bit samples from 25 bits before the block to 8 after it; resync: the block begins the remainder behind a wedge. -/
  | loopUpdateBlock (n : Fin 20) (a b : List Int) (resync : Bool)
  /-- SOFT_BLOCK_SEND: The framed soft-value block of the sector that has passed goes to DEC. -/
  | softBlockSend (n : Fin 20)
  /-- CH_RUN_END: The run of channel n ends (R113). -/
  | chRunEnd (n : Fin 20)
  /-- DEC_BLOCK_ACCEPT: DEC takes the next block of channel n; flip: a payload bit that the lane has flipped. -/
  | decBlockAccept (n : Fin 20) (flip : Option Nat)
  /-- DECODER_SLOT_TAKE: Decoder slot k takes a block (R118). -/
  | decoderSlotTake (k : Fin 48)
  /-- DECODE_END: A decoder slot stops. -/
  | decodeEnd (k : Fin 48)
  /-- PARKED_REDECODE: Decoder slot k takes a parked block (R118). -/
  | parkedRedecode (k : Fin 48)
  /-- DEC_SECTOR_WRITE_RESPONSE: BUF's response to a decoded sector's write is back (R119). -/
  | decSectorWriteResponse
  /-- SECTOR_REPORT_RECEIVE: MSQa takes its oldest report (R121, R122, R434). -/
  | sectorReportReceive (a : Fin 2)
  /-- RETRY_LADDER_STEP: MSQa goes on with the ladder of a sector of a namespace; a ladder that nobody awaits any more stops (R122 to R126, R553). -/
  | retryLadderStep (nsid lba : Nat)
  /-- DEC_INJECT_ARM: A write to DEC.INJECT (R129). -/
  | decInjectArm (v : Word) (who : Requester)
  /-- ALINK_COMMAND_SEND: WRP sends the next waiting command on arm link a (R131). -/
  | alinkCommandSend (a : Fin 2)
  /-- ALINK_REPLY_RECEIVE: Level changes arrive on RXD and RXS: ns since the change before, D, S. -/
  | alinkReplyReceive (a : Fin 2) (wave : List (Nat × Bool × Bool))
  /-- ALINK_REPLY_TIMEOUT: No reply has begun in time (R132). -/
  | alinkReplyTimeout (a : Fin 2)
  /-- PREAMP_FAULT_INPUT: ALa_FLT_N changes (R133). -/
  | preampFaultInput (a : Fin 2) (low : Bool)
  /-- ARM_LINK_BRINGUP: WRP begins to bring up an arm link. -/
  | armLinkBringup (a : Fin 2)
  /-- WRITE_RUN_ORDER: MSQa orders a write run of count sectors of a track from an LBA on. -/
  | writeRunOrder (n : Fin 20) (nsid : Word) (lba : BitVec 64) (count : Nat)
  /-- HEATER_NOTICE: MSQa forms a read run of count sectors of a track from an LBA on and sends its heater notice. -/
  | heaterNotice (n : Fin 20) (nsid : Word) (lba : BitVec 64) (count : Nat)
  /-- HEATER_PREHEAT_DONE: The heater code of head n has stood for PREHEAT_US µs (R140). -/
  | heaterPreheatDone (n : Fin 20)
  /-- WRP_SECTOR_DATA: A sector's flits are back from BUF (R136). -/
  | wrpSectorData (n : Fin 20)
  /-- WRITE_SECTOR_START: The preamble of the run's next sector begins (R141). -/
  | writeSectorStart (n : Fin 20)
  /-- WRITE_GATE_DROP: A condition fails under the raised gate of head n (R142). -/
  | writeGateDrop (n : Fin 20)
  /-- WRITE_RUN_END: The write run of head n ends (R146). -/
  | writeRunEnd (n : Fin 20)
  /-- WRITE_RETRY: MSQa orders again what the oldest write report of actuator a leaves unwritten (R147). -/
  | writeRetry (a : Fin 2)
  /-- SHOCK_COMPARATOR_TRIP: The level at SHKa_IN, in mV, meets the comparator (R144, R181). -/
  | shockComparatorTrip (a : Fin 2) (mv : Nat)
  /-- SHOCK_INHIBIT_RELEASE: The hold of a shock inhibit ends (R144). -/
  | shockInhibitRelease (a : Fin 2)
  /-- WRP_INJECT_ARM: A write to WRP.INJECT (R149). -/
  | wrpInjectArm (v : Word) (who : Requester)
  /-- SERVO_WEDGE_ACCEPT: SRV takes head n's token, `flip` a bit the lane has flipped; a compare pair computes, `mismatch` if its lanes disagree, with latency `ns` (R153, R175). -/
  | servoWedgeAccept (n : Fin 20) (flip : Option Nat) (pair : Fin 4) (mismatch : Bool) (ns : Nat)
  /-- GATHER_CLOSE: The comb gather of actuator a closes (R154). -/
  | gatherClose (a : Fin 2) (pair : Fin 4) (mismatch : Bool) (ns : Nat)
  /-- SERVO_TICK: A VCM loop computes on TICK_US (R161). -/
  | servoTick (a : Fin 2) (pair : Fin 4) (mismatch : Bool)
  /-- LOOP_FAULT_INNOV: The third consecutive implausible wedge of loop k (R167). -/
  | loopFaultInnov (k : Fin 22)
  /-- LOOP_FAULT_LOST: The fifth consecutive unused wedge of loop k (R167). -/
  | loopFaultLost (k : Fin 22)
  /-- LOOP_FAULT_SAT: SAT_N wedges of loop k at ±UMAX (R170). -/
  | loopFaultSat (k : Fin 22)
  /-- INTEGRATOR_CLAMP_WARN: ICL_N wedges of loop k at ICLAMP (R170). -/
  | integratorClampWarn (k : Fin 22)
  /-- FETCH_TMO: FETCH_EXTRA wedges after the profile's end (R177). -/
  | fetchTmo (a : Fin 2)
  /-- SIT_TMO: SIT_MAX wedges in SIT (R177). -/
  | sitTmo (k : Fin 22)
  /-- LOAD_TMO: LOAD_TMO ms in LOAD (R168). -/
  | loadTmo (a : Fin 2)
  /-- REACQ_TMO: REACQ_MS ms of holding (R168). -/
  | reacqTmo (a : Fin 2)
  /-- UNLOAD_TMO: UNLOAD_TMO ms in UNLOAD (R168). -/
  | unloadTmo (a : Fin 2)
  /-- SERVO_LOAD_ORDER: The order of MSQj in front is a LOAD order (R168). -/
  | servoLoadOrder (j : Fin 2) (flip : Option Nat)
  /-- SERVO_FETCH_ORDER: The order of MSQj in front is a FETCH order (R166). -/
  | servoFetchOrder (j : Fin 2) (flip : Option Nat)
  /-- SERVO_STAY_ORDER: The order of MSQj in front is a STAY order (R168). -/
  | servoStayOrder (j : Fin 2) (flip : Option Nat)
  /-- SERVO_UNLOAD_ORDER: The order of MSQj in front is an UNLOAD order, or the retract order goes to VCM loop j (R168, R209). -/
  | servoUnloadOrder (j : Fin 2) (retract : Bool) (flip : Option Nat)
  /-- SERVO_OFFSET_ORDER: The order of MSQj in front is an OFFSET order (R165). -/
  | servoOffsetOrder (j : Fin 2) (flip : Option Nat)
  /-- SERVO_ORDER_REFUSED: The order of MSQj in front has another code or names an absent loop (R171). -/
  | servoOrderRefused (j : Fin 2) (flip : Option Nat)
  /-- COEF_MEMORY_WRITE: A write to coefficient memory (R163). -/
  | coefMemoryWrite (a v : Word) (who : Requester)
  /-- SRV_INJECT_ARM: A write to SRV.INJECT (R182). -/
  | srvInjectArm (v : Word) (who : Requester)
  /-- ACT_SET_FRAME: ACT sends a mailbox as a SET frame (R178). -/
  | actSetFrame (a : Fin 2) (ch : Fin 11)
  /-- ACT_REPLY_RECEIVE: A reply frame: its characters 1 to 6 (R178). -/
  | actReplyReceive (a : Fin 2) (chars : Bytes)
  /-- ACT_REPLY_TIMEOUT: No reply within ACK_NS (R178). -/
  | actReplyTimeout (a : Fin 2)
  /-- ACT_FAULT_INPUT: The level of ACT_FLT_N (R178). -/
  | actFaultInput (low : Bool)
  /-- POWER_STAGE_DISCOVERY: Lane a is discovered (R180). -/
  | powerStageDiscovery (a : Fin 2)
  /-- FUNCTION_CHANNEL_REFRESH: SET on function channel 11 + c (R207). -/
  | functionChannelRefresh (c : Fin 5)
  /-- ACT_INJECT_ARM: A write to ACT.INJECT (R184). -/
  | actInjectArm (v : Word) (who : Requester)
  /-- ACCEL_SAMPLE: An accelerometer sample of six bytes (R181). -/
  | accelSample (b : Bytes)
  /-- RESOLVER_SAMPLE: A sample of the resolver's sine and cosine, in 1/32,768 of full scale (R188). -/
  | resolverSample (sn cs : BitVec 16)
  /-- REVOLUTION_COMPLETE: θr has advanced by a mechanical revolution (R191). -/
  | revolutionComplete
  /-- LOCK_TIMEOUT: LOCK_TMO seconds after RUN (R191). -/
  | lockTimeout
  /-- PWM_PERIOD: A PWM period; samples of the phase currents at its centre, in 1/32,768 of full scale (R192). -/
  | pwmPeriod (cu cv cw : BitVec 16)
  /-- SPN_DEMAND_WRITE: A write to SPN.DEMAND (R194). -/
  | spnDemandWrite (v : Word) (who : Requester)
  /-- START_MEASURE_DONE: The speed measurement ends (R197). -/
  | startMeasureDone
  /-- ALIGN_DONE: ALIGN_MS ends (R198). -/
  | alignDone
  /-- SPINDLE_STOPPED: Braking has brought the spindle below 30 rpm (R195). -/
  | spindleStopped
  /-- VBUS_SAMPLE: A sample of SPN_VBUS, in 1/65,536 of full scale (R200). -/
  | vbusSample (c : BitVec 16)
  /-- CHOPPER_WINDOW_END: A window of the chopper check ends (R201). -/
  | chopperWindowEnd
  /-- OV_HOLD_END: VBUS has stayed below OV_CLR for SB_HOLD_MS (R203). -/
  | ovHoldEnd
  /-- REGEN_END: Below REGEN_MIN in PFREGEN (R210). -/
  | regenEnd
  /-- SPN_INJECT_ARM: A write to SPN.INJECT (R213). -/
  | spnInjectArm (v : Word) (who : Requester)
  /-- BUFFER_BRINGUP: The buffer's training begins, at load or KENNEL exit, or at a self-refresh exit (R218). -/
  | bufferBringup (selfRefresh : Bool)
  /-- TRAINING_DONE: The training ends; for each device the phase that failed, if one did (R218). -/
  | trainingDone (fails : List (Option (Fin 4)))
  /-- BUF_REQUEST_GRANT: The arbiter grants one request (R237); `edc` are bursts that fail, `upsets` flips of stored bits. -/
  | bufRequestGrant (edc : List EdcFail) (upsets : List Upset) (bad : Bool)
  /-- FILL_TRACKER_TIMEOUT: The oldest fill-tracker entry has been open for FILL_NS (R229). -/
  | fillTrackerTimeout
  /-- BUF_PERIODIC_RETRAIN: The period of a device's retraining expires (R221). -/
  | bufPeriodicRetrain
  /-- VCLR_CNT_WRITE: A write to BUF.VCLR_CNT (R231). -/
  | vclrCntWrite (v : Word) (who : Requester)
  /-- VCLR_DONE: The clear of valid bits is done (R231). -/
  | vclrDone
  /-- TBUF_CONFIG_WRITE: A write to BUF.TBUFa (R232). -/
  | tbufConfigWrite (a : Fin 2) (v : Word) (who : Requester)
  /-- TBCLR_WRITE: A write to BUF.TBCLRa (R232). -/
  | tbclrWrite (a : Fin 2) (v : Word) (who : Requester)
  /-- MARK_DEVICE_DEAD: Buffer Device State, mark dead (R234). -/
  | markDeviceDead (t : Tag) (x : Fin 8)
  /-- MARK_DEVICE_ALIVE: Buffer Device State, mark alive; `fail` is the training phase that fails (R234). -/
  | markDeviceAlive (t : Tag) (x : Fin 8) (fail : Option (Fin 4))
  /-- RESILVER_GRANULE: SCB rewrites the next valid granule of a resilver (R234). -/
  | resilverGranule (edc : List EdcFail)
  /-- SCRUB_SLOT: A scrub slot falls due (R239). -/
  | scrubSlot (edc : List EdcFail) (upsets : List Upset)
  /-- SCRUB_PASS_OVERRUN: A pass has lasted PASS_H hours (R241). -/
  | scrubPassOverrun
  /-- BUF_INJECT_ARM: A write to BUF.INJECT (R248). -/
  | bufInjectArm (v : Word) (who : Requester)
  /-- MDC_LINE_READ: A READ line request (R257). -/
  | mdcLineRead (tag : BitVec 16) (stream : Bool) (line : BitVec 27) (sram tags : SramBits) (bad : Bool)
  /-- MDC_LINE_WRITE: A WRITE line request (R257). -/
  | mdcLineWrite (tag : BitVec 16) (stream : Bool) (line : BitVec 27) (mask : BitVec 128) (data : Bytes) (sram tags : SramBits) (bad : Bool)
  /-- MDC_BAD_OP: A line request with a reserved OP (R256). -/
  | mdcBadOp (tag : BitVec 16)
  /-- MDC_FILL_LAND: A response of BUF reaches MDC (R258). -/
  | mdcFillLand
  /-- MOP_FETCH: Maintenance FETCH (R265). -/
  | mopFetch (who : Requester)
  /-- MOP_ZERO: Maintenance ZERO (R265). -/
  | mopZero (who : Requester)
  /-- MOP_CLEAN: Maintenance CLEAN (R265). -/
  | mopClean (who : Requester)
  /-- MOP_INVAL: Maintenance INVAL (R265). -/
  | mopInval (who : Requester)
  /-- MOP_CLEAN_INVAL: Maintenance CLEAN_INVAL (R265). -/
  | mopCleanInval (who : Requester)
  /-- MOP_RESERVED: A GO with OP 5, 6 or 7 (R266). -/
  | mopReserved (op : Fin 3) (who : Requester)
  /-- MOP_DONE: The end of a maintenance operation (R266). -/
  | mopDone
  /-- MDC_INJECT_ARM: A write to MDC.INJECT (R275). -/
  | mdcInjectArm (v : Word) (who : Requester)
  /-- DMA_POST: A sequencer posts a descriptor token of 40 bytes (R281). -/
  | dmaPost (seq : Fin 8) (post : Bytes)
  /-- DMA_BURST_ISSUE: Engine e grants a ready channel (R285). -/
  | dmaBurstIssue (e : Fin 2)
  /-- DMA_READ_DATA: BUF's data for the read engine arrives in staging (R286). -/
  | dmaReadData (sram : SramBits)
  /-- DMA_WRITE_RESPONSE: A write response for engine e (R287). -/
  | dmaWriteResponse (e : Fin 2)
  /-- DMA_STOP: A write of STOP (R289). -/
  | dmaStop (x : Fin 64) (who : Requester)
  /-- DMA_RESUME: A write of RESUME (R288). -/
  | dmaResume (x : Fin 64) (who : Requester)
  /-- DMA_DOORBELL: A write of DOOR (R283). -/
  | dmaDoorbell (x : Fin 64) (who : Requester)
  /-- DMA_HOST_DESCRIPTOR_FETCHED: The descriptor that channel x has read from host memory (R283). -/
  | dmaHostDescriptorFetched (x : Fin 64) (desc : Bytes)
  /-- DMA_INJECT_ARM: A write to DMA.INJECT (R291). -/
  | dmaInjectArm (v : Word) (who : Requester)
  /-- SQ_TAIL_DOORBELL: The host writes the tail doorbell of submission queue q (R306). -/
  | sqTailDoorbell (c : Fin 2) (q v : BitVec 16)
  /-- CQ_HEAD_DOORBELL: The host writes the head doorbell of completion queue q (R307). -/
  | cqHeadDoorbell (c : Fin 2) (q v : BitVec 16)
  /-- SQ_ENTRY_FETCH: HST fetches entries with these command identifiers in one turn (R306). -/
  | sqEntryFetch (c : Fin 2) (cids : List (BitVec 16))
  /-- CQ_ENTRY_POST: HST writes the next entry of completion queue q (R307). -/
  | cqEntryPost (c : Fin 2) (q : BitVec 16)
  /-- COALESCE_TIMEOUT: The aggregation window of a vector closes (R310). -/
  | coalesceTimeout (c : Fin 2) (v : BitVec 16)
  /-- HOST_READ_COMPLETION: The completion of host read `id` (R311). -/
  | hostReadCompletion (id : Nat) (res : HostRes)
  /-- HOST_COMPLETION_TIMEOUT: Host read `id` times out (R311). -/
  | hostCompletionTimeout (id : Nat)
  /-- HOST_WRITE_POISONED: A poisoned posted write of the host of controller c (R312). -/
  | hostWritePoisoned (c : Fin 2)
  /-- BAR2_ACCESS: A host access of `size` bytes at an offset of BAR2 of function c; a write if it has a value (R299). -/
  | bar2Access (c : Fin 2) (a : BitVec 28) (size : Nat) (wr : Option Word)
  /-- CC_ENABLE: CC.EN goes from 0 to 1 (R302). -/
  | ccEnable (c : Fin 2) (cc aqa : Word) (asq acq : BitVec 64) (cfg : HostCfg)
  /-- CONTROLLER_RESET: CC.EN goes from 1 to 0 (R315). -/
  | controllerReset (c : Fin 2)
  /-- FUNCTION_LEVEL_RESET: Function Level Reset (R315). -/
  | functionLevelReset (c : Fin 2)
  /-- PORT_HOT_RESET: Hot Reset, or PERSTp_N low (R315). -/
  | portHotReset (p : Fin 2) (perst : Bool)
  /-- SHUTDOWN_NOTIFY: CC.SHN is set (R316). -/
  | shutdownNotify (c : Fin 2)
  /-- NVM_SUBSYSTEM_RESET: NSSR of controller c, or an MI Reset (R317). -/
  | nvmSubsystemReset
  /-- LINK_UP: Port p has trained (R314). -/
  | linkUp (p : Fin 2) (speed : Fin 7) (width : Fin 5) (flit : Bool)
  /-- PORT_DL_DOWN: The data link layer of port p leaves DL_Active (R314). -/
  | portDlDown (p : Fin 2)
  /-- LINK_RECOVERY_TIMEOUT: The LTSSM of port p stays out of L0 and L1 (R314). -/
  | linkRecoveryTimeout (p : Fin 2)
  /-- LINK_RETRAINED: A retrain of port p returns to L0 after `us` µs (R314). -/
  | linkRetrained (p : Fin 2) (us : BitVec 32)
  /-- MI_MESSAGE: An NVMe-MI request (R319). -/
  | miMessage (msg : Bytes)
  /-- BMC_BASIC_READ: A Basic Management Command read (R318). -/
  | bmcBasicRead
  /-- DIAG_CHALLENGE: Security Receive 0x0100 (R300). -/
  | diagChallenge (t : Tag)
  /-- DIAG_UNLOCK: Security Send 0x0101 (R300). -/
  | diagUnlock (t : Tag) (answer : Bytes)
  /-- DIAG_LOCK: Security Send 0x0102 (R300). -/
  | diagLock (t : Tag)
  /-- CREATE_IO_SQ: At most 128 queues of at most 4,096 entries, contiguous, on a completion queue that exists (R304). -/
  | createIoSq (t : Tag) (qid size cqid : BitVec 16) (base : BitVec 64) (pc : Bool)
  /-- CREATE_IO_CQ: Vectors 0 to 128 (R304, R309). -/
  | createIoCq (t : Tag) (qid size iv : BitVec 16) (base : BitVec 64) (ien pc : Bool)
  /-- DELETE_IO_SQ: The queue goes. Its commands that are not committed are abandoned, the others run on without a completion (R304). -/
  | deleteIoSq (t : Tag) (qid : BitVec 16)
  /-- DELETE_IO_CQ: A queue that a submission queue still uses cannot be deleted (R304). -/
  | deleteIoCq (t : Tag) (qid : BitVec 16)
  /-- INVALID_OPCODE: A command with an unsupported opcode completes with Invalid Command Opcode (R323). -/
  | invalidOpcode (t : Tag)
  /-- IDENTIFY: Identify returns the requested structure with the stated values (R325). -/
  | identify (t : Tag) (cns csi : Byte) (nsid : Word) (cntid : BitVec 16)
  /-- GET_LOG_ERROR_INFO: Get Log Page 0x01 returns the Error Information entries (R524). -/
  | getLogErrorInfo (t : Tag) (rae : Bool) (lpo : BitVec 64) (len : Word)
  /-- GET_LOG_SMART_HEALTH: Device-wide; the composite temperature is TJ + 273 K. Bytes that the spec does not fix are free (R324, R547). -/
  | getLogSmartHealth (t : Tag) (rae : Bool) (nsid : Word) (lpo : BitVec 64) (len : Word)
  /-- GET_LOG_FIRMWARE_SLOT: Get Log Page 0x03 returns the firmware slot information for copies A and B (R481). -/
  | getLogFirmwareSlot (t : Tag) (rae : Bool) (lpo : BitVec 64) (len : Word)
  /-- GET_LOG_CHANGED_NS: The list is cleared by a read with RAE = 0 (R324). -/
  | getLogChangedNs (t : Tag) (rae : Bool) (lpo : BitVec 64) (len : Word)
  /-- GET_LOG_CMD_EFFECTS: Get Log Page 0x05 returns Commands Supported and Effects (R324). -/
  | getLogCmdEffects (t : Tag) (rae : Bool) (lpo : BitVec 64) (len : Word)
  /-- GET_LOG_WP_RECOVERY: The entries remain until the page is read with RAE = 0 (R359). -/
  | getLogWpRecovery (t : Tag) (rae : Bool) (lpo : BitVec 64) (len : Word)
  /-- GET_LOG_FORMAT_TABLES: LSP selects the actuator (R85). -/
  | getLogFormatTables (t : Tag) (rae : Bool) (lsp : Byte) (lpo : BitVec 64) (len : Word)
  /-- GET_LOG_BUFFER_HEALTH: Get Log Page 0xD3 returns the buffer device states, counts and error tables (R245). -/
  | getLogBufferHealth (t : Tag) (rae : Bool) (lpo : BitVec 64) (len : Word)
  /-- GET_LOG_HELD_RUNS: Get Log Page 0xD4 returns one entry per held run (R346). -/
  | getLogHeldRuns (t : Tag) (rae : Bool) (lpo : BitVec 64) (len : Word)
  /-- GET_LOG_INVALID: Invalid Log Page (R324). -/
  | getLogInvalid (t : Tag)
  /-- GET_FEATURES: Select is not supported (R323). -/
  | getFeatures (t : Tag) (fid : Byte) (sel : Fin 8) (arg : Word)
  /-- SET_FEATURE_ARBITRATION: Set Features 0x01 sets the Arbitration Burst (R306). -/
  | setFeatureArbitration (t : Tag) (save : Bool) (w : Word)
  /-- SET_FEATURE_POWER_MGMT: The controller's vote; it completes when the device has reached the target (R485, R490). -/
  | setFeaturePowerMgmt (t : Tag) (save : Bool) (w : Word)
  /-- SET_FEATURE_TEMP_THRESHOLD: The composite temperature's over and under thresholds (R547). -/
  | setFeatureTempThreshold (t : Tag) (save : Bool) (w : Word)
  /-- SET_FEATURE_WRITE_CACHE: Set Features 0x06 enables or disables the volatile write cache (R343). -/
  | setFeatureWriteCache (t : Tag) (save : Bool) (w : Word)
  /-- SET_FEATURE_NUM_QUEUES: 127 of each, zero-based; not after an I/O queue has been created (R304). -/
  | setFeatureNumQueues (t : Tag) (save : Bool) (w : Word)
  /-- SET_FEATURE_INT_COALESCING: Set Features 0x08 sets interrupt aggregation time and threshold (R310). -/
  | setFeatureIntCoalescing (t : Tag) (save : Bool) (w : Word)
  /-- SET_FEATURE_INT_VECTOR_CFG: Set Features 0x09 configures coalescing per interrupt vector (R310). -/
  | setFeatureIntVectorCfg (t : Tag) (save : Bool) (w : Word)
  /-- SET_FEATURE_ASYNC_EVENT_CFG: Set Features 0x0B enables asynchronous event notices (R308). -/
  | setFeatureAsyncEventCfg (t : Tag) (save : Bool) (w : Word)
  /-- SET_FEATURE_HOST_BEHAVIOR: Feature 0x19 takes profile 0 only (R323). -/
  | setFeatureHostBehavior (t : Tag) (save : Bool) (w : Word)
  /-- SET_FEATURE_ORDERED_QUEUE: Set Features 0xC0 makes a submission queue ordered for zone checks (R338). -/
  | setFeatureOrderedQueue (t : Tag) (save : Bool) (w : Word)
  /-- ASYNC_EVENT_REQUEST: At most 8 are outstanding; one that finds an event waiting completes with it (R323). -/
  | asyncEventRequest (t : Tag)
  /-- ABORT: At most four are outstanding (R349). -/
  | abort (t : Tag) (sqid cid : BitVec 16)
  /-- CONTEXT_INTERRUPT: The interrupt's flag is set in word 0 of the context; a routine running on it restarts from its entry, else the interrupt's
  entry is dispatched. `victim` is the uncommitted command that the interrupt aborts (R348, R349). -/
  | contextInterrupt (q : Fin 8) (c : BitVec 12) (entry : BitVec 8) (victim : Option Tag)
  /-- NAMESPACE_LAYOUT: The region is checked and held as the controller's staged layout; Dword 0 is its zones (R327). -/
  | namespaceLayout (t : Tag) (w10 w11 w12 : Word)
  /-- NAMESPACE_CREATE: NSZE and NCAP are the data structure's fields (R328). -/
  | namespaceCreate (t : Tag) (nsze ncap : BitVec 64)
  /-- NAMESPACE_DELETE: The namespace is detached at once; the delete completes when none of its commands is in flight (R330). -/
  | namespaceDelete (t : Tag) (nsid : Word)
  /-- NAMESPACE_ATTACH: Namespace Attachment attaches a namespace to a controller (R329). -/
  | namespaceAttach (t : Tag) (nsid : Word) (ids : List (BitVec 16))
  /-- NAMESPACE_DETACH: Namespace Attachment detaches a namespace from a controller (R329). -/
  | namespaceDetach (t : Tag) (nsid : Word) (ids : List (BitVec 16))
  /-- NVM_READ: Zeros are sent at once, cached sectors are posted on the CSQ's own even channels, and the rest waits for the media (R30, R334, R347,
  Table 1.7). -/
  | nvmRead (t : Tag) (nsid : Word) (slba : BitVec 64) (nlb0 : BitVec 16) (segs : List (Nat × Nat))
  /-- NVM_WRITE: Write passes the zone checks, reserves its range at WP and moves its data into the write cache (R335). -/
  | nvmWrite (t : Tag) (nsid : Word) (slba : BitVec 64) (nlb0 : BitVec 16) (fua : Bool) (segs : List (Nat × Nat)) (buf : Nat)
  /-- WRITE_ZEROES: Write Zeroes passes the zone checks of Write and reserves its range (R335). -/
  | writeZeroes (t : Tag) (nsid : Word) (slba : BitVec 64) (nlb0 : BitVec 16) (fua : Bool)
  /-- ZONE_APPEND: Zone Append reserves at the write pointer and returns the assigned LBA (R336). -/
  | zoneAppend (t : Tag) (nsid : Word) (zslba : BitVec 64) (nlb0 : BitVec 16) (fua : Bool) (segs : List (Nat × Nat)) (buf : Nat)
  /-- NVM_FLUSH: Covers every completed write to the namespace, or to all; held runs get a fresh try (R148, R344). -/
  | nvmFlush (t : Tag) (nsid : Word)
  /-- ZONE_CONTEXT_REQUEST: The line of the context table that holds context `ctx` is read through MDC (R331). -/
  | zoneContextRequest (ctx : BitVec 18) (tag : BitVec 16) (put stream : Bool) (sram tags : SramBits)
  /-- JOURNAL_HALF_SWITCH: The half in use is full (R357). -/
  | journalHalfSwitch
  /-- DESTAGE_ORDER: CSQ `q` places an order for a run of cached sectors all of whose data is in the buffer and that no order holds (R35). -/
  | destageOrder (q : Fin 4) (nsid : Word) (slba : BitVec 64) (n : Nat)
  /-- MEDIA_ORDER: A CSQ places a read order for sectors that a command awaits, or (no command) that an internal read of the ring does (R19, R436). -/
  | mediaOrder (t : Option Tag) (q : Fin 4) (nsid : Word) (slba : BitVec 64) (n : Nat)
  /-- ZONE_CLOSE: Zone Management Send Close closes an open zone (R340). -/
  | zoneClose (t : Tag) (nsid : Word) (slba : BitVec 64) (all : Bool)
  /-- ZONE_FINISH: Held runs of the zone get one fresh try, and every run of it is destaged before the zone becomes Full (R341). -/
  | zoneFinish (t : Tag) (nsid : Word) (slba : BitVec 64) (all : Bool)
  /-- ZONE_OPEN: An Empty zone becomes active, so ACT_MAX counts (R340). -/
  | zoneOpen (t : Tag) (nsid : Word) (slba : BitVec 64) (all : Bool)
  /-- ZONE_RESET: It waits until every write reserved in the zone has all its data or has been abandoned, then acts (R341). -/
  | zoneReset (t : Tag) (nsid : Word) (slba : BitVec 64) (all : Bool)
  /-- ZONE_OFFLINE: It always fails (R340). -/
  | zoneOffline (t : Tag) (nsid : Word)
  /-- SET_ZONE_DESC_EXT: Set Zone Descriptor Extension fails with Invalid Field in Command (R340). -/
  | setZoneDescExt (t : Tag)
  /-- REPORT_ZONES: The zones from SLBA's on that the option selects, as many as `len` bytes hold; without Partial Report the count is of all
  (R342). -/
  | reportZones (t : Tag) (nsid : Word) (slba : BitVec 64) (opt : Byte) (part : Bool) (len : Word)
  /-- EXTENDED_REPORT_ZONES: Extended Report Zones fails with Invalid Field in Command (R342). -/
  | extendedReportZones (t : Tag)
  /-- CONTROL_SPACE_READ_CMD: Control Space Read (R350). -/
  | controlSpaceReadCmd (t : Tag) (a : Word)
  /-- CONTROL_SPACE_WRITE_CMD: Control Space Write (R350). -/
  | controlSpaceWriteCmd (t : Tag) (a v : Word)
  /-- COMMIT_CMD: The Commit command (R474). -/
  | commitCmd (t : Tag) (cdw10 : Word)
  /-- BLOCK_COMMIT: GO to a block's COMMIT (R472). -/
  | blockCommit (b : Blk) (who : Requester)
  /-- DOMAIN_COMMIT: GO to FAB.CDGO (R477). -/
  | domainCommit (i : Fin 8) (who : Requester)
  /-- BUFFER_DEVICE_STATE_CMD: Buffer Device State with no device or leaving two not LIVE (R233). -/
  | bufferDeviceStateCmd (t : Tag) (x : Fin 8) (alive : Bool)
  /-- CRYPTO_ERASE: A namespace that exists and is encrypted gets a new key once none of its commands is in flight (R353). -/
  | cryptoErase (t : Tag) (nsid : Word)
  /-- KEY_STATE_RECEIVE: 64 entries of 8 bytes (R352). -/
  | keyStateReceive (t : Tag) (len : Word)
  /-- SECURITY_PROTOCOL_LIST: Protocols 0x00 and 0xEA (R352). -/
  | securityProtocolList (t : Tag) (len : Word)
  /-- ZONE_RECOVERY: Once the image is loaded and the buffer is ready, ZNE replays the journal, recovers every zone and is ready. `ends` are the
  outcomes of the scans (R357 to R359). -/
  | zoneRecovery (ends : List ScanEnd)
  /-- ZNE_INJECT_ARM: A write to ZNE.INJECT (R360). -/
  | zneInjectArm (v : Word) (who : Requester)
  /-- RING_LINK_UP: 1,024 control frames in a row have passed their CRC on a port; `skew` is the lane skew in ns, `first` the lane number in the markers that lane 0 brings (R364, R365). -/
  | ringLinkUp (p : Fin 2) (skew : BitVec 8) (first : Fin 2)
  /-- RING_FRAME_CRC_FAIL: a bad CRC or an unknown FTYPE; `a` and `b` are the frame's bytes on lanes 0 and 1 (R364, R367, R370). -/
  | ringFrameCrcFail (p : Fin 2) (a b : List (BitVec 8))
  /-- RING_FRAME_FORWARD: A CMD, DATA or RSP frame whose DST is neither this node's ID nor 0xFF (R369). -/
  | ringFrameForward (p : Fin 2) (f : RFrame)
  /-- IDLE_FRAME: It takes no SEQ and is not acknowledged (R365, R371). -/
  | idleFrame (p : Fin 2)
  /-- ACK_FRAME: ACKSEQ, HELD, CRET for CMD, DATA, RSP and MGT, and whether a re-send is asked for at once (R372, R373, R375). -/
  | ackFrame (p : Fin 2) (ackseq : BitVec 16) (held : Word) (cret : List Byte) (again : Bool)
  /-- ACK_TIMER: An ACK is owed (R372). -/
  | ackTimer (p : Fin 2)
  /-- FRAME_RESEND_TIMEOUT: Frames unacknowledged for ACK_US since they were last sent (R373). -/
  | frameResendTimeout (p : Fin 2)
  /-- RING_PORT_FAILED: Reason 0 retry limit, 1 ACK timeout, 2 tag failures, 3 lock lost for 1 ms, which the receiver tells (R374). -/
  | ringPortFailed (p : Fin 2) (why : Fin 4)
  /-- RING_PORT_RETRAIN: The transmitter has been off for 1 ms (R374). -/
  | ringPortRetrain (p : Fin 2)
  /-- JOIN_CHAL_FRAME: A received JOIN_CHAL is checked, and JOIN_RESP is sent (R379). -/
  | joinChalFrame (p : Fin 2) (f : RFrame)
  /-- JOIN_RESP_FRAME: A received JOIN_RESP MAC is checked, and hop keys are derived (R379, R380). -/
  | joinRespFrame (p : Fin 2) (f : RFrame)
  /-- JOIN_CONF_FRAME: A received JOIN_CONF with a correct tag makes the port JOINED and starts an enumeration (R379, R384). -/
  | joinConfFrame (p : Fin 2) (f : RFrame)
  /-- JOIN_TIMEOUT: 1 ms from step 1 (R379). -/
  | joinTimeout (p : Fin 2)
  /-- JOIN_BACKOFF_EXPIRY: The port trains again (R379). -/
  | joinBackoffExpiry (p : Fin 2)
  /-- BLOCK_TAG_FAIL: A sealed frame whose tag is wrong (R381). -/
  | blockTagFail (p : Fin 2) (f : RFrame)
  /-- HELLO_FRAME: A HELLO is adopted, added to the member set, forwarded or discarded by its epoch (R384). -/
  | helloFrame (p : Fin 2) (f : RFrame)
  /-- ENUM_QUIET_EXPIRY: No new member arrives for QUIET_US; the node enters RING, CHAIN or OVER and takes its ID (R385, R386, R388). -/
  | enumQuietExpiry
  /-- RREQ_FRAME: A node receives a remote-read request, checks it, and reads and sends RDATA or refuses (R390). -/
  | rreqFrame (p : Fin 2) (f : RFrame)
  /-- RDATA_FRAME: A requester receives remote-read data into its landing space (R390). -/
  | rdataFrame (p : Fin 2) (f : RFrame)
  /-- JOB_START_FRAME: A listed participant reads JOB_START, and accepts the job with a chunk read or refuses it (R395). -/
  | jobStartFrame (p : Fin 2) (f : RFrame)
  /-- ACC_FRAME: An accumulator block arrives for folding or combining within its window (R396, R397). -/
  | accFrame (p : Fin 2) (f : RFrame)
  /-- JCREDIT_FRAME: A JCREDIT returns freed blocks and opens the sender's window (R397). -/
  | jcreditFrame (p : Fin 2) (f : RFrame)
  /-- JEND_FRAME: A JEND reports a participant done or refused, or orders abandonment (R400, R401). -/
  | jendFrame (p : Fin 2) (f : RFrame)
  /-- ECE_FOLD: Block b of a job, at a participant (the target `tgt` is another node) or at the target itself (`own`). `mism` says that the lanes
  disagree. It acts once the inputs are in the buffer and the window is open (R396 to R398, R403). -/
  | eceFold (own : Bool) (tgt : Byte) (job : BitVec 16) (b : Nat) (edc : List EdcFail) (mism : Bool)
  /-- JOB_TIMEOUT: No ACC block on a side that still owes some (R401). -/
  | jobTimeout (job : BitVec 16)
  /-- PARTICIPANT_TIMEOUT: No block sent, no JCREDIT or ACC received. The job is abandoned, and the target is told with JEND STATUS 2 (R401). -/
  | participantTimeout (tgt : Byte) (job : BitVec 16)
  /-- RING_ADMIN_STATUS: Ring Administration STATUS returns membership and re-arms the topology event (Table 13.12, R388). -/
  | ringAdminStatus (t : Tag) (len : Word)
  /-- RING_ADMIN_SET_KEY: 64 bytes of data; KEY_ID 0 removes the key. The key is stored wrapped (R378). -/
  | ringAdminSetKey (t : Tag) (data : Bytes)
  /-- RING_ADMIN_PORTS: Ring Administration PORTS enables ports or restarts their joins (Table 13.12). -/
  | ringAdminPorts (t : Tag) (cdw12 : Word)
  /-- RING_ADMIN_EXPORT: Ring Administration EXPORT sets or clears a namespace's export (R389). -/
  | ringAdminExport (t : Tag) (nsid : Word) (on : Bool)
  /-- RING_ADMIN_RECONSTRUCT: CDW11, the descriptor's host address, the descriptor, and for DEST 1 the buffer granule of the reservation (R392,
  R393). -/
  | ringAdminReconstruct (t : Tag) (len : Word) (dptr : BitVec 64) (desc : Bytes) (buf : Nat)
  /-- RING_ADMIN_REMOTE_READ: Node, NLB, NSID and SLBA there, and the host's address list (R390, Table 13.12). -/
  | ringAdminRemoteRead (t : Tag) (node : Byte) (nlb : BitVec 16) (nsid : Word) (slba : BitVec 64) (segs : List (Nat × Nat))
  /-- RING_ADMIN_WHISTLE: Ring Administration WHISTLE sends the whistle on a down port (R407). -/
  | ringAdminWhistle (t : Tag) (cdw12 : Word)
  /-- RING_ADMIN_INVALID: Ring Administration with another action fails with Invalid Field in Command (R404). -/
  | ringAdminInvalid (t : Tag)
  /-- WHISTLE_GO_WRITE: A write of EAST_GO or WEST_GO whistles on a port that is down or failed (R407). -/
  | whistleGoWrite (v : Word) (who : Requester)
  /-- WHISTLE_DETECTED: 16 ON and OFF periods in a row, each in [3,000, 5,000) ns. In KENNEL it is wake source 5 or 6; otherwise it powers the port,
  if its PHY is off (R406, R498). -/
  | whistleDetected (p : Fin 2) (periods : List Nat)
  /-- RNG_INJECT_ARM: A write to RNG.INJECT arms a CRC, tag or MAC fault on a port (Table 13.13). -/
  | rngInjectArm (v : Word) (who : Requester)
  /-- ECE_INJECT_ARM: A write to ECE.INJECT arms a fold result bit flip (Table 13.14). -/
  | eceInjectArm (v : Word) (who : Requester)
  /-- ROUTINE_DISPATCH: A token starts a routine; a response goes to its thread, or is dropped if its run has ended (R414, R421). -/
  | routineDispatch (q : Fin 8) (a : Arrival)
  /-- UWORD_WAIT_UNTIL: A microword with WMODE UNTIL waits until its condition is true (R420). -/
  | uwordWaitUntil (q : Fin 8) (t : Fin 32) (f : Fetch)
  /-- UWORD_WAIT_WHILE: A microword with WMODE WHILE waits until its condition is false (R420). -/
  | uwordWaitWhile (q : Fin 8) (t : Fin 32) (f : Fetch)
  /-- UWORD_BRANCH: A microword with WMODE BRANCH takes its FLOW if the condition is true (R418). -/
  | uwordBranch (q : Fin 8) (t : Fin 32) (f : Fetch)
  /-- UWORD_JUMP: FLOW JUMP goes to NEXT (R418). -/
  | uwordJump (q : Fin 8) (t : Fin 32) (f : Fetch)
  /-- UWORD_CALL: FLOW CALL pushes the return address and goes to NEXT (R418, R419). -/
  | uwordCall (q : Fin 8) (t : Fin 32) (f : Fetch)
  /-- UWORD_RETURN: FLOW RETURN pops the return address (R418, R419). -/
  | uwordReturn (q : Fin 8) (t : Fin 32) (f : Fetch)
  /-- UWORD_MOV: ALU MOV copies operand B to the destination register (R417). -/
  | uwordMov (q : Fin 8) (t : Fin 32) (f : Fetch)
  /-- UWORD_ADD: ALU ADD adds and sets Z, N and C (R417). -/
  | uwordAdd (q : Fin 8) (t : Fin 32) (f : Fetch)
  /-- UWORD_SUB: ALU SUB subtracts and sets Z, N and C (R417). -/
  | uwordSub (q : Fin 8) (t : Fin 32) (f : Fetch)
  /-- UWORD_AND: ALU AND forms the bitwise and, and sets Z and N (R417). -/
  | uwordAnd (q : Fin 8) (t : Fin 32) (f : Fetch)
  /-- UWORD_OR: ALU OR forms the bitwise or, and sets Z and N (R417). -/
  | uwordOr (q : Fin 8) (t : Fin 32) (f : Fetch)
  /-- UWORD_XOR: ALU XOR forms the bitwise exclusive or, and sets Z and N (R417). -/
  | uwordXor (q : Fin 8) (t : Fin 32) (f : Fetch)
  /-- UWORD_SHL: ALU SHL shifts left by B[4:0] (R417). -/
  | uwordShl (q : Fin 8) (t : Fin 32) (f : Fetch)
  /-- UWORD_SHR: ALU SHR shifts right by B[4:0] (R417). -/
  | uwordShr (q : Fin 8) (t : Fin 32) (f : Fetch)
  /-- UWORD_CMP: ALU CMP sets flags from A − B without writing a register (R417). -/
  | uwordCmp (q : Fin 8) (t : Fin 32) (f : Fetch)
  /-- UWORD_LDC: ALU LDC loads a context word into a register (R417). -/
  | uwordLdc (q : Fin 8) (t : Fin 32) (f : Fetch)
  /-- UWORD_STC: ALU STC places a context-word write in the outbox (R421). -/
  | uwordStc (q : Fin 8) (t : Fin 32) (f : Fetch)
  /-- UWORD_MIN: ALU MIN takes the unsigned minimum (R417). -/
  | uwordMin (q : Fin 8) (t : Fin 32) (f : Fetch)
  /-- UWORD_MAX: ALU MAX takes the unsigned maximum (R417). -/
  | uwordMax (q : Fin 8) (t : Fin 32) (f : Fetch)
  /-- UWORD_SENDQ: IO SENDQ sends an idempotent query token at once (R421). -/
  | uwordSendq (q : Fin 8) (t : Fin 32) (f : Fetch)
  /-- UWORD_SEND: IO SEND places a token in the outbox (R421). -/
  | uwordSend (q : Fin 8) (t : Fin 32) (f : Fetch)
  /-- UWORD_RECV: IO RECV moves the oldest response for the thread into registers (R421). -/
  | uwordRecv (q : Fin 8) (t : Fin 32) (f : Fetch)
  /-- UWORD_CSR_RD: IO CSR_RD reads a control-space word and ends when the reply arrives (R417). -/
  | uwordCsrRd (q : Fin 8) (t : Fin 32) (f : Fetch)
  /-- UWORD_CSR_WR: IO CSR_WR places a control-space write in the outbox (R421). -/
  | uwordCsrWr (q : Fin 8) (t : Fin 32) (f : Fetch)
  /-- UWORD_LOCK: IO LOCK requests a context mutex or claims a SEQ mutex (R435). -/
  | uwordLock (q : Fin 8) (t : Fin 32) (f : Fetch)
  /-- UWORD_COMMIT: MARK COMMIT applies the context writes at one instant, releases the outbox tokens and ends the routine (R422). -/
  | uwordCommit (q : Fin 8) (t : Fin 32) (f : Fetch)
  /-- UWORD_DROP: MARK DROP discards the outbox and ends the routine (R422). -/
  | uwordDrop (q : Fin 8) (t : Fin 32) (f : Fetch)
  /-- THREAD_TIMER_EXPIRY: TBASE has reached the timer's value (R416). -/
  | threadTimerExpiry (q : Fin 8) (t : Fin 32)
  /-- MUTEX_CLAIM_WRITE: A write of CLAIM requests a SEQ mutex for the host (R435). -/
  | mutexClaimWrite (m : Fin 8) (who : Requester)
  /-- MUTEX_RELEASE_WRITE: A write of RELEASE frees a SEQ mutex if the writer is its owner (R435). -/
  | mutexReleaseWrite (m : Fin 8) (who : Requester)
  /-- FLAG_SET_WRITE: A write to SEQ.FLAGSETs sets sequencer flags (R437). -/
  | flagSetWrite (q : Fin 8) (v : BitVec 16) (who : Requester)
  /-- FLAG_CLEAR_WRITE: A write to SEQ.FLAGCLRs clears sequencer flags (R437). -/
  | flagClearWrite (q : Fin 8) (v : BitVec 16) (who : Requester)
  /-- SEQ_INJECT_ARM: A write to SEQ.INJECT (R437). -/
  | seqInjectArm (v : Word) (who : Requester)
  /-- FLASH_READ: READ on slot `s`; `flips` are bits of the 272 that read wrongly (R441). -/
  | flashRead (slot : Fin 9) (flips : List Nat)
  /-- FLASH_PROGRAM: PROGRAM on slot `s` (R446). -/
  | flashProgram (slot : Fin 9)
  /-- FLASH_ERASE: ERASE on slot `s` (R447). -/
  | flashErase (slot : Fin 9)
  /-- FLASH_SUSPEND: SUSPEND on slot `s` (R451). -/
  | flashSuspend (slot : Fin 9)
  /-- FLASH_RESUME: RESUME on slot `s` (R451). -/
  | flashResume (slot : Fin 9)
  /-- FLASH_BAD_OP: GO with reserved OP 5 + `op` (R445). -/
  | flashBadOp (slot : Fin 9) (op : Fin 3)
  /-- FLASH_PROGRAM_VERIFY: A program pulse of bank `k` and its verify end (R446). -/
  | flashProgramVerify (k : Fin 2) (same : Bool)
  /-- FLASH_ERASE_VERIFY: An erase pulse of bank `k` and its verify end (R447). -/
  | flashEraseVerify (k : Fin 2) (blank : Bool)
  /-- FLASH_AUTO_SUSPEND: A waiting READ suspends the erase of bank `k` (R452). -/
  | flashAutoSuspend (k : Fin 2)
  /-- FLASH_AUTO_RESUME: An automatically suspended erase resumes (R452). -/
  | flashAutoResume (k : Fin 2)
  /-- FLASH_INTENT_SCAN: FLC redoes interrupted erases at load and sets READY (R454). -/
  | flashIntentScan
  /-- FLASH_EXEC_START: A write of START to FLC.EXEC (R458). -/
  | flashExecStart (region : Fin 8)
  /-- FLASH_EXEC_STOP: A write of STOP to FLC.EXEC (R458). -/
  | flashExecStop
  /-- FLASH_EXEC_FETCH: The calibration interpreter fetches a word (R458). -/
  | flashExecFetch (word : Fin 2097152) (flips : List Nat)
  /-- FLC_INJECT_ARM: A write to FLC.INJECT (R460). -/
  | flcInjectArm (v : Word) (who : Requester)
  /-- IMAGE_LOAD: Once FLC is ready after a device reset or a kennel restart, the loader chooses, proves and applies a copy. A kennel restart proves
  only the copy that FAB.LOAD.COPY, restored, names (R491), if the retention store holds anything. -/
  | imageLoad
  /-- FIRMWARE_IMAGE_DOWNLOAD: A piece of the target copy, written into its IMAGE partition. A piece with OFST 0 first erases the partition, which
  waits while an execution is open (R480). -/
  | firmwareImageDownload (t : Tag) (ofs : BitVec 34) (piece : Bytes)
  /-- FIRMWARE_COMMIT_CA0: Checked, not activated (R479). -/
  | firmwareCommitCa0 (t : Tag) (fs : Fin 8)
  /-- FIRMWARE_COMMIT_CA1: Firmware Commit CA 1 checks the target and programs its activation word (R479). -/
  | firmwareCommitCa1 (t : Tag) (fs : Fin 8)
  /-- FIRMWARE_COMMIT_CA2: The image already in the slot is activated (R479). -/
  | firmwareCommitCa2 (t : Tag) (fs : Fin 8)
  /-- FIRMWARE_COMMIT_OTHER: Firmware Commit with another CA fails with Invalid Field in Command (R479). -/
  | firmwareCommitOther (t : Tag) (ca : Fin 8)
  /-- POWER_MOVE_STEP: A move begins if the target state is not the present one, and its present step runs. From KENNEL only a wake leads back (R488
  to R490). -/
  | powerMoveStep
  /-- SPINDLE_STOP_TIMEOUT: The bound of step 4 has ended without STOP; event 0x1409, and the move goes on (R554). -/
  | spindleStopTimeout
  /-- HEAD_REQUEST_READ: PWR.HEADREQ OP 1 requests a read grant for a head (R494). -/
  | headRequestRead (n : Fin 20) (who : Requester)
  /-- HEAD_REQUEST_WRITE: PWR.HEADREQ OP 2 requests a write grant for a head (R494). -/
  | headRequestWrite (n : Fin 20) (who : Requester)
  /-- HEAD_RELEASE: PWR.HEADREQ OP 3 releases a head's grant (R494). -/
  | headRelease (n : Fin 20) (who : Requester)
  /-- VCORE_THRESHOLD_CROSS: KNL.VCORE.MEAS takes the measured code, and the governor looks again (R495, R539). -/
  | vcoreThresholdCross (meas : BitVec 7)
  /-- PAD_RELEASE_WRITE: A write to PWR.PADREL releases a powered domain's held pads (R496). -/
  | padReleaseWrite (v : Word) (who : Requester)
  /-- WAKE_SOURCE: An enabled wake source in KENNEL starts the kennel restart (R497, Table 17.5). -/
  | wakeSource (src : Fin 9)
  /-- SMBUS_ADDRESS_MATCH: In KENNEL the matcher compares an address byte with HST.MI.ADDR, and with 0x35 where BMC_EN is 1 (R501). -/
  | smbusAddressMatch (addr : BitVec 7)
  /-- POWER_FAIL_SEQUENCE: After SPN's declaration steps 2 to 6 run; once every VCM loop is in DOWN, steps 7 and 8. `vb` is VBUS in 20 mV (R502,
  R503, R520). -/
  | powerFailSequence (vb : BitVec 16)
  /-- PWR_INJECT_ARM: A write to PWR.INJECT (R506). -/
  | pwrInjectArm (v : Word) (who : Requester)
  /-- LOG_EVENT_ACCEPT: LOG takes the first event of its pool; `sram` is the outcome of its record-store access (R511). -/
  | logEventAccept (bad : Bool) (sram : SramBits)
  /-- BUCKET_REFILL: Bucket `b` may gain a token (R516). -/
  | bucketRefill (b : Fin 4096)
  /-- LOG_FLUSH_BATCH: The HSQ writes the batch that LOG has requested (R518). -/
  | logFlushBatch
  /-- LOG_EPOCH_SCAN: LOG scans the flush slots at the first kennel power-up (R522). -/
  | logEpochScan
  /-- LOGBOOK_READ: Logbook Read: CDW10, NUMR, first SEQ, data length (R523). -/
  | logbookRead (t : Tag) (cdw10 numr : Word) (first : BitVec 64) (len : Nat)
  /-- LOG_INJECT_ARM: A write to LOG.INJECT (R526). -/
  | logInjectArm (v : Word) (who : Requester)
  /-- KENNEL_POWER_ON: Kennel power is applied; TBASE starts and the core supplies are enabled (R543). -/
  | kennelPowerOn
  /-- KENNEL_SUPPLY_SWITCH: TBASE goes on (R482, R538). -/
  | kennelSupplySwitch (vaux : Bool)
  /-- CORE_PG_RISE: CORE_PG has been high for 1 ms: the kennel restart goes on, or a device reset ends (R491, R544, R545). -/
  | corePgRise
  /-- CORE_PG_LATE: 100 ms after CORE_EN; once (R544). -/
  | corePgLate
  /-- CORE_PG_FALL: Domains 1 to 8 are held in reset with their balls held; the buffer is lost; a power-fail sequence ends (R545). -/
  | corePgFall
  /-- OVER_TEMP_RISE: Critical warning bit 1 and event 0x0222 (R547). -/
  | overTempRise (tj : Byte) (sensor : Fin 8)
  /-- OVER_TEMP_FALL: The warning ends; event 0x0223 with the seconds above (R547). -/
  | overTempFall (tj : Byte)
  /-- RING_LINK_DOWN: A joined port's link goes down (R384). -/
  | ringLinkDown (p : Fin 2)
  /-- WHISTLE_END: WHISTLE_MS have passed; the port tries to train (R406, R407). -/
  | whistleEnd (p : Fin 2)
  /-- PERST_RELEASE: PERSTp_N rises outside KENNEL; the function no longer votes PS4 (R485, R499). -/
  | perstRelease (p : Fin 2)
  /-- PCI_POWER_STATE_WRITE: D0 or D3hot, and PME enable (R485, R499). -/
  | pciPowerStateWrite (c : Fin 2) (d3 pme : Bool)
  /-- KENNEL_POWER_LOST: Nothing is left but what is in flash (R538). -/
  | kennelPowerLost
  /-- NSSR_DESTAGE_LIMIT: 10 s after its begin (R317). -/
  | nssrDestageLimit
deriving DecidableEq, Repr

end Sys2Proof
end

