-- ==== Sys2Proof/Config.lean ====
section
/-! DEFINITION. Config.lean: what the spec leaves open, as constants without a body: a claim holds whatever they are. The counter `free` of
the state is the argument of those that differ from use to use. -/
namespace Sys2Proof

/-- A number the spec does not fix, different at each use (argument: the counter). (DESIGN CHOICE, log entry 4) -/
opaque Config.freeNat : Nat → Nat

/-- Bytes the spec does not fix: drawn by SEC's random source (R300, R351, R376), or contents the spec leaves undefined. Arguments: counter, length. (DESIGN CHOICE, log entry 4) -/
opaque Config.freeBytes : Nat → Nat → List (BitVec 8)

/-- A choice the spec leaves to the implementation at an instant. (DESIGN CHOICE, log entry 4) -/
opaque Config.freeBool : Nat → Bool

/-- HMAC-SHA-256 (key, message): 32 bytes, the first one in the lowest bits. (DESIGN CHOICE, log entry 6) -/
opaque Config.hmac : List (BitVec 8) → List (BitVec 8) → BitVec 256

/-- SHA-384 of a message. (DESIGN CHOICE, log entry 6) -/
opaque Config.sha384 : List (BitVec 8) → List (BitVec 8)

/-- ECDSA P-384 verification (public key, hash, signature). (DESIGN CHOICE, log entry 6) -/
opaque Config.ecdsa : List (BitVec 8) → List (BitVec 8) → List (BitVec 8) → Bool

/-- The hash in the key fuses (R8, R466). (DESIGN CHOICE, log entry 6) -/
opaque Config.fuseHash : List (BitVec 8)

/-- AES-256-XTS of a sector (encrypt, key, tweak, data). (DESIGN CHOICE, log entry 6) -/
opaque Config.xts : Bool → List (BitVec 8) → Nat → List (BitVec 8) → List (BitVec 8)

/-- AES key wrap under the device key, and its inverse (none when the integrity check fails), R351. (DESIGN CHOICE, log entry 6) -/
opaque Config.wrap : List (BitVec 8) → List (BitVec 8)
opaque Config.unwrap : List (BitVec 8) → Option (List (BitVec 8))

/-- AES-256-GCM tag of a ring frame (key, nonce, data), R381. (DESIGN CHOICE, log entry 6) -/
opaque Config.gcmTag : List (BitVec 8) → Nat → List (BitVec 8) → List (BitVec 8)

/-- Gains of the resolver's tracking observer (R188 gives its order and bandwidth, no form): what one 1/65,536 cycle of angle error adds to the angle, and to the
speed per sample, in 2^-32 cycles. FREE VALUES (log entry 79). -/
opaque Config.observerAngle : Int
opaque Config.observerSpeed : Int

/-- The Do Not Retry bit of a status for which the spec gives none. Arguments: status code type, status code. (DESIGN CHOICE, log entry 14) -/
opaque Config.dnr : Nat → Nat → Bool

/-- The serial number of the drive (R368): the 20 characters of the NVMe Identify Controller SN field. (DESIGN CHOICE, log entry 6) -/
opaque Config.serial : List (BitVec 8)

/-- Whether the C flag of a subtraction means no borrow (true) or a borrow (false): Table 14.4 does not say. (DESIGN CHOICE, log entry 61) -/
opaque Config.subCarry : Bool

/-- The bit of context word 0 that a CONTEXT_INTERRUPT sets (R423): the spec does not say which. (DESIGN CHOICE, log entry 61) -/
opaque Config.intrBit : Nat

/-- Most symbols of a servo address mark that may be wrong where it is still found: R66 and R68 give no threshold. (DESIGN CHOICE, log entry 72) -/
opaque Config.samSlack : Nat

/-- The data bit that a channel takes from the symbols 0b00 (false) or 0b11 (true), which encode none (R66). (DESIGN CHOICE, log entry 72) -/
opaque Config.badPair : Bool → Bool

/-- The queue that an IOQ number of a sequencer names, as a block's index and one of its pools: the numbers are published with the ROM (R418). Arguments: sequencer, IOQ. (DESIGN
CHOICE, log entry 62) -/
opaque Config.ioqPool : Nat → Nat → Nat × Nat

/-- The interpolator of R90: a sample delayed by n / 16 channel bit (0 < n < 16), from the sample one bit earlier and the sample itself. (DESIGN CHOICE, log entry 73) -/
opaque Config.interpolate : Nat → Int → Int → Int

/-- The confidence that the detector of R91 gives a difference of path metrics, before it saturates at 31. (DESIGN CHOICE, log entry 73) -/
opaque Config.confidence : Nat → Nat

/-- Whether 0.75 times a message of this magnitude is rounded up where it is not whole (R115). (DESIGN CHOICE, log entry 19) -/
opaque Config.normUp : Nat → Bool

/-- Byte i of the alignment marker of a lane of a ring port (R364 gives its length and that it carries the lane number). (DESIGN CHOICE, log entry 80) -/
opaque Config.laneMarker : Fin 2 → Nat → BitVec 8

/-- The response data of an NVMe-MI request (arguments: the counter, the request): the spec names the commands (Table 11.9) and prints no data of them. (PRESUMED, log
entry 36) -/
opaque Config.miData : Nat → List (BitVec 8) → List (BitVec 8)

end Sys2Proof
end

