-- ==== Sys2Proof/Machine/Bits.lean ====
section
/-! DEFINITION. Machine/Bits.lean: bit fields of words, sign extension, byte order, parity and the CRC of R78. -/
namespace Sys2Proof.Machine

/-- Field of `n` bits from bit `lo` of a natural number. -/
def bitsAt (x lo n : Nat) : Nat := (x >>> lo) % 2 ^ n

/-- Field of `n` bits from bit `lo` of a word. -/
def getBits (w : Word) (lo n : Nat) : Nat := bitsAt w.toNat lo n

/-- The mask of `n` ones from bit `lo`. -/
def onesAt (lo n : Nat) : Nat := (2 ^ n - 1) <<< lo

/-- Replace the field of `n` bits from bit `lo` of a word; the value is cut to the field. -/
def putBits (w : Word) (lo n v : Nat) : Word :=
  BitVec.ofNat 32 ((w.toNat &&& ((2 ^ 32 - 1) ^^^ onesAt lo n)) ||| ((v % 2 ^ n) <<< lo))

/-- Bit `i` of a natural number. -/
def bitAt (x i : Nat) : Bool := x.testBit i

/-- An `n`-bit pattern read as a two's-complement number. -/
def sext (n v : Nat) : Int := if v % 2 ^ n < 2 ^ (n - 1) then ((v % 2 ^ n : Nat) : Int) else ((v % 2 ^ n : Nat) : Int) - 2 ^ n

/-- The `n`-bit two's-complement pattern of a number (wrapping). -/
def tc (n : Nat) (x : Int) : Nat := (x % (2 ^ n : Nat)).toNat

/-- Clamp to the range of an `n`-bit two's-complement number. -/
def sat (n : Nat) (x : Int) : Int :=
  if x < -(2 ^ (n - 1) : Int) then -(2 ^ (n - 1) : Int) else if x > 2 ^ (n - 1) - 1 then 2 ^ (n - 1) - 1 else x

/-- Clamp a number to `[-m, m]`. -/
def clampAbs (m : Int) (x : Int) : Int := if x < -m then -m else if x > m then m else x

/-- Little-endian number of a run of bytes (R510). -/
def leNat : Bytes → Nat
  | [] => 0
  | b :: r => b.toNat + 256 * leNat r

/-- The `n` little-endian bytes of a number. -/
def leBytes : Nat → Nat → Bytes
  | 0, _ => []
  | n + 1, x => BitVec.ofNat 8 (x % 256) :: leBytes n (x / 256)

/-- Big-endian number of a run of bytes. -/
def beNat (b : Bytes) : Nat := leNat b.reverse

/-- The field of `len` bytes from byte `ofs`. -/
def slice (b : Bytes) (ofs len : Nat) : Bytes := (b.drop ofs).take len

/-- Little-endian field of `len` bytes from byte `ofs`. -/
def leAt (b : Bytes) (ofs len : Nat) : Nat := leNat (slice b ofs len)

/-- Replace the bytes from `ofs` on by `v`. -/
def splice (b : Bytes) (ofs : Nat) (v : Bytes) : Bytes := b.take ofs ++ v ++ b.drop (ofs + v.length)

/-- Number of one bits among the lowest `n` bits. -/
def popcount : Nat → Nat → Nat
  | 0, _ => 0
  | n + 1, x => x % 2 + popcount n (x / 2)

/-- Even-parity bit of a byte (R37): the bit that makes the number of ones even. -/
def byteParity (b : Byte) : Bool := popcount 8 b.toNat % 2 = 1

/-- Bit-reversed CRC-32C polynomial 0x1EDC6F41 of R78. -/
def crcPoly : Nat := 0x82F63B78

/-- Shift a reflected CRC register by `n` bits. -/
def crcShift : Nat → Nat → Nat
  | 0, c => c
  | n + 1, c => crcShift n (if c % 2 = 1 then (c / 2) ^^^ crcPoly else c / 2)

/-- CRC-32C over bytes from a given register value, before the final inversion. -/
def crcRun : Nat → Bytes → Nat
  | c, [] => c
  | c, b :: r => crcRun (crcShift 8 (c ^^^ b.toNat)) r

/-- CRC-32C with the register starting at `init` and the final XOR of R78. -/
def crc32c (init : Nat) (b : Bytes) : Nat := crcRun init b ^^^ 0xFFFFFFFF

/-- The seed of R78: the register starts at all ones XOR L, L = LBA[31:0] XOR LBA[63:32] XOR (NSID << 24). -/
def crcSeed (lba nsid : Nat) : Nat :=
  (0xFFFFFFFF ^^^ ((lba % 2 ^ 32) ^^^ (lba / 2 ^ 32 % 2 ^ 32) ^^^ ((nsid <<< 24) % 2 ^ 32))) % 2 ^ 32

/-- Ceiling division. -/
def cdiv (a b : Nat) : Nat := (a + b - 1) / b

/-- Number of bits needed to hold `n` (0 for 0), by fuel. -/
def log2c : Nat → Nat → Nat
  | 0, _ => 0
  | f + 1, n => if n ≤ 1 then 0 else 1 + log2c f ((n + 1) / 2)

/-- The first index below `n` from `i` on for which `p` holds, searching in round-robin order (R49). -/
def rrFirst (p : Nat → Bool) (n : Nat) : Nat → Nat → Option Nat
  | 0, _ => none
  | f + 1, i => if p (i % n) then some (i % n) else rrFirst p n f (i + 1)

end Sys2Proof.Machine
end

