-- ==== Sys2Proof/Machine/RegNames.lean ====
section
/-! DEFINITION. Machine/RegNames.lean: the names of the register fields, each with its address and place (the register tables of the chapters). -/
namespace Sys2Proof.Machine

/-- A register field: control-space address of its word, lowest bit, width. -/
structure RF where
  a : Nat
  lo : Nat
  n : Nat
deriving DecidableEq, Repr

def F.FAB_CHIPID_PART : RF := ⟨0x100000, 16, 16⟩
def F.FAB_CHIPID_ACTS : RF := ⟨0x100000, 12, 4⟩
def F.FAB_CHIPID_STEP_MAJ : RF := ⟨0x100000, 8, 4⟩
def F.FAB_CHIPID_STEP_MIN : RF := ⟨0x100000, 4, 4⟩
def F.FAB_CHIPID_JTAG_FUSED : RF := ⟨0x100000, 0, 1⟩
def F.KNL_TBASE_LO_NS_LO : RF := ⟨0x200010, 0, 32⟩
def F.KNL_TBASE_HI_NS_HI : RF := ⟨0x200014, 0, 32⟩
def F.KNL_TBASE_STAT_XTAL_LOST : RF := ⟨0x200018, 2, 1⟩
def F.KNL_TBASE_STAT_DUP_MISMATCH : RF := ⟨0x200018, 1, 1⟩
def F.KNL_TBASE_STAT_RUNNING : RF := ⟨0x200018, 0, 1⟩
def F.FAB_PROMOTE_SCAN_MS : RF := ⟨0x100110, 24, 8⟩
def F.FAB_PROMOTE_SCRUB_MS : RF := ⟨0x100110, 16, 8⟩
def F.FAB_PROMOTE_ROLL_MS : RF := ⟨0x100110, 8, 8⟩
def F.FAB_PROMOTE_FLUSH_MS : RF := ⟨0x100110, 0, 8⟩
def F.FAB_RC_CTRL_START : RF := ⟨0x100100, 0, 1⟩
def F.FAB_RC_STAT_BUSY : RF := ⟨0x100104, 31, 1⟩
def F.FAB_RC_STAT_PENDING : RF := ⟨0x100104, 30, 1⟩
def F.FAB_RC_STAT_BANKS : RF := ⟨0x100104, 16, 10⟩
def F.FAB_RC_STAT_DUR_NS : RF := ⟨0x100104, 0, 16⟩
def F.FAB_RC_EPOCH_EPOCH : RF := ⟨0x100108, 0, 32⟩
def F.FAB_RC_PERIOD_PERIOD_MS : RF := ⟨0x10010C, 0, 16⟩
def F.CH_CTRL_LEARN (n : Nat) : RF := ⟨0x1000000 + 0x10000 * n, 2, 1⟩
def F.CH_CTRL_TA_EN (n : Nat) : RF := ⟨0x1000000 + 0x10000 * n, 1, 1⟩
def F.CH_CTRL_PRESENT (n : Nat) : RF := ⟨0x1000000 + 0x10000 * n, 0, 1⟩
def F.CH_STAT_RUN (n : Nat) : RF := ⟨0x1000004 + 0x10000 * n, 31, 1⟩
def F.CH_STAT_PLL_LOCK (n : Nat) : RF := ⟨0x1000004 + 0x10000 * n, 30, 1⟩
def F.CH_STAT_FROZEN (n : Nat) : RF := ⟨0x1000004 + 0x10000 * n, 29, 1⟩
def F.CH_STAT_REVERTS (n : Nat) : RF := ⟨0x1000004 + 0x10000 * n, 16, 8⟩
def F.CH_STAT_TAG (n : Nat) : RF := ⟨0x1000004 + 0x10000 * n, 0, 16⟩
def F.CH_AFE_A_LANE_OFF (n : Nat) : RF := ⟨0x1000010 + 0x10000 * n, 31, 1⟩
def F.CH_AFE_A_HPF (n : Nat) : RF := ⟨0x1000010 + 0x10000 * n, 24, 4⟩
def F.CH_AFE_A_FS (n : Nat) : RF := ⟨0x1000010 + 0x10000 * n, 20, 4⟩
def F.CH_AFE_B_LANE_OFF (n : Nat) : RF := ⟨0x1000014 + 0x10000 * n, 31, 1⟩
def F.CH_AFE_B_HPF (n : Nat) : RF := ⟨0x1000014 + 0x10000 * n, 24, 4⟩
def F.CH_AFE_B_FS (n : Nat) : RF := ⟨0x1000014 + 0x10000 * n, 20, 4⟩
def F.CH_LCTL_FREEZE (n k : Nat) : RF := ⟨0x1000040 + 0x10000 * n + 0x4 * k, 31, 1⟩
def F.CH_LCTL_ACQ_EN (n k : Nat) : RF := ⟨0x1000040 + 0x10000 * n + 0x4 * k, 30, 1⟩
def F.CH_LCTL_STEP (n k : Nat) : RF := ⟨0x1000040 + 0x10000 * n + 0x4 * k, 24, 4⟩
def F.CH_LCTL_ACQ_STEP (n k : Nat) : RF := ⟨0x1000040 + 0x10000 * n + 0x4 * k, 20, 4⟩
def F.CH_LCTL_LEAK (n k : Nat) : RF := ⟨0x1000040 + 0x10000 * n + 0x4 * k, 16, 4⟩
def F.CH_LCTL_CLAMP (n k : Nat) : RF := ⟨0x1000040 + 0x10000 * n + 0x4 * k, 0, 16⟩
def F.CH_LVAL_VALUE (n k : Nat) : RF := ⟨0x1000060 + 0x10000 * n + 0x4 * k, 0, 32⟩
def F.CH_GUARD_MSE_LIM (n : Nat) : RF := ⟨0x1000028 + 0x10000 * n, 24, 8⟩
def F.CH_GUARD_NCONS (n : Nat) : RF := ⟨0x1000028 + 0x10000 * n, 20, 4⟩
def F.CH_GUARD_REVERT_MAX (n : Nat) : RF := ⟨0x1000028 + 0x10000 * n, 16, 4⟩
def F.CH_GUARD_CONF (n : Nat) : RF := ⟨0x1000028 + 0x10000 * n, 8, 8⟩
def F.CH_SYNC_PSM_WIN (n : Nat) : RF := ⟨0x1000020 + 0x10000 * n, 24, 8⟩
def F.CH_SYNC_PSM_THR (n : Nat) : RF := ⟨0x1000020 + 0x10000 * n, 20, 4⟩
def F.CH_SYNC_SSM_THR (n : Nat) : RF := ⟨0x1000020 + 0x10000 * n, 16, 4⟩
def F.CH_SYNC_RSM_THR (n : Nat) : RF := ⟨0x1000020 + 0x10000 * n, 12, 4⟩
def F.CH_SYNC_SSM_WIN (n : Nat) : RF := ⟨0x1000020 + 0x10000 * n, 0, 8⟩
def F.CH_TA_TA_THR (n : Nat) : RF := ⟨0x1000024 + 0x10000 * n, 24, 8⟩
def F.CH_TA_TA_MIN (n : Nat) : RF := ⟨0x1000024 + 0x10000 * n, 16, 8⟩
def F.CH_TA_TA_TAIL (n : Nat) : RF := ⟨0x1000024 + 0x10000 * n, 8, 8⟩
def F.DEC_CTRL_ITER_MAX : RF := ⟨0x2000000, 26, 6⟩
def F.DEC_CTRL_ITER_PRESS : RF := ⟨0x2000000, 20, 6⟩
def F.DEC_CTRL_ITER_RETRY : RF := ⟨0x2000000, 14, 6⟩
def F.DEC_CTRL_PRESS_THR : RF := ⟨0x2000000, 7, 7⟩
def F.DEC_RETRY_BUDGET : RF := ⟨0x2000004, 24, 8⟩
def F.DEC_RETRY_STEPS : RF := ⟨0x2000004, 16, 8⟩
def F.DEC_RETRY_COMB_READS : RF := ⟨0x2000004, 12, 4⟩
def F.DEC_RETRY_OFF_STEP : RF := ⟨0x2000004, 8, 4⟩
def F.DEC_STAT_STORE : RF := ⟨0x2000010, 16, 8⟩
def F.DEC_STAT_PARK : RF := ⟨0x2000010, 8, 8⟩
def F.DEC_STAT_BUSY : RF := ⟨0x2000010, 0, 6⟩
def F.DEC_INJECT_ARM : RF := ⟨0x2000020, 31, 1⟩
def F.DEC_INJECT_KIND : RF := ⟨0x2000020, 29, 2⟩
def F.DEC_INJECT_CH : RF := ⟨0x2000020, 24, 5⟩
def F.DEC_INJECT_COUNT : RF := ⟨0x2000020, 0, 16⟩
def F.WRP_CTRL_PCOMP_EN : RF := ⟨0x2100000, 2, 1⟩
def F.WRP_CTRL_HEAT_EN : RF := ⟨0x2100000, 1, 1⟩
def F.WRP_CTRL_WR_EN : RF := ⟨0x2100000, 0, 1⟩
def F.WRP_STAT_AL_FAIL : RF := ⟨0x2100004, 22, 2⟩
def F.WRP_STAT_AL_UP : RF := ⟨0x2100004, 20, 2⟩
def F.WRP_STAT_INH : RF := ⟨0x2100004, 0, 20⟩
def F.WRP_ALINK_BITNS : RF := ⟨0x2100010, 24, 8⟩
def F.WRP_ALINK_ACK_US : RF := ⟨0x2100010, 16, 8⟩
def F.WRP_ALINK_RESENDS : RF := ⟨0x2100010, 12, 4⟩
def F.WRP_WINH_WIL_ON : RF := ⟨0x2100020, 20, 12⟩
def F.WRP_WINH_WIL_OFF : RF := ⟨0x2100020, 8, 12⟩
def F.WRP_WINH_REARM : RF := ⟨0x2100020, 4, 4⟩
def F.WRP_SHOCK_ACC_THR : RF := ⟨0x2100024, 16, 16⟩
def F.WRP_SHOCK_HOLD : RF := ⟨0x2100024, 4, 12⟩
def F.WRP_SHOCK_CMP_EN : RF := ⟨0x2100024, 1, 1⟩
def F.WRP_SHOCK_ACC_EN : RF := ⟨0x2100024, 0, 1⟩
def F.WRP_RETRY_BUDGET : RF := ⟨0x2100028, 24, 8⟩
def F.WRP_HEAT_PREHEAT_US : RF := ⟨0x210002C, 0, 16⟩
def F.WRP_PREID_FOUND (a : Nat) : RF := ⟨0x2100040 + 0x4 * a, 31, 1⟩
def F.WRP_PREID_HEADS (a : Nat) : RF := ⟨0x2100040 + 0x4 * a, 16, 4⟩
def F.WRP_PREID_ID (a : Nat) : RF := ⟨0x2100040 + 0x4 * a, 0, 16⟩
def F.WRP_INJECT_ARM : RF := ⟨0x2100060, 31, 1⟩
def F.WRP_INJECT_HEAD : RF := ⟨0x2100060, 20, 5⟩
def F.WRP_INJECT_SECTORS : RF := ⟨0x2100060, 0, 16⟩
def F.CH_PLIN_PT_HI (n i : Nat) : RF := ⟨0x1005000 + 0x10000 * n + 0x4 * i, 16, 16⟩
def F.CH_PLIN_PT_LO (n i : Nat) : RF := ⟨0x1005000 + 0x10000 * n + 0x4 * i, 0, 16⟩
def F.CH_PLIN8_PT_LO (n : Nat) : RF := ⟨0x1005020 + 0x10000 * n, 0, 16⟩
def F.CH_SVO_FLOOR (n : Nat) : RF := ⟨0x1005040 + 0x10000 * n, 0, 16⟩
def F.SRV_CTRL_GATHER_NS : RF := ⟨0x3000000, 8, 8⟩
def F.SRV_CTRL_LINCHK_EN : RF := ⟨0x3000000, 0, 1⟩
def F.SRV_STAT_ACC_FAIL : RF := ⟨0x3000004, 8, 1⟩
def F.SRV_STAT_PAIR_OK : RF := ⟨0x3000004, 4, 4⟩
def F.SRV_LATMAX_MAX_NS : RF := ⟨0x3000008, 0, 16⟩
def F.SRV_LFAULT_FAULT : RF := ⟨0x300000C, 0, 22⟩
def F.SRV_CONTRIB_HEADS (a : Nat) : RF := ⟨0x3000010 + 0x4 * a, 0, 10⟩
def F.SRV_RVTHR_THR1 : RF := ⟨0x3000020, 8, 8⟩
def F.SRV_RVTHR_THR0 : RF := ⟨0x3000020, 0, 8⟩
def F.SRV_ACCEL_PERIOD_US : RF := ⟨0x3000024, 24, 8⟩
def F.SRV_ACCEL_MISS_N : RF := ⟨0x3000024, 20, 4⟩
def F.SRV_ACCEL_RDCMD : RF := ⟨0x3000024, 8, 8⟩
def F.SRV_INJECT_ARM : RF := ⟨0x3000030, 31, 1⟩
def F.SRV_INJECT_KIND : RF := ⟨0x3000030, 28, 3⟩
def F.SRV_INJECT_PAIR : RF := ⟨0x3000030, 24, 2⟩
def F.SRV_INJECT_LOOP : RF := ⟨0x3000030, 16, 5⟩
def F.SRV_INJECT_VALUE : RF := ⟨0x3000030, 0, 16⟩
def F.SRV_LSTAT_MODE (k : Nat) : RF := ⟨0x3000400 + 0x80 * k, 29, 3⟩
def F.SRV_LSTAT_FAULT (k : Nat) : RF := ⟨0x3000400 + 0x80 * k, 24, 5⟩
def F.SRV_LSTAT_HEEL_ACT (k : Nat) : RF := ⟨0x3000400 + 0x80 * k, 23, 1⟩
def F.SRV_LSTAT_FETCH_ACT (k : Nat) : RF := ⟨0x3000400 + 0x80 * k, 22, 1⟩
def F.SRV_LSTAT_HEEL_PEND (k : Nat) : RF := ⟨0x3000400 + 0x80 * k, 21, 1⟩
def F.SRV_LSTAT_FETCH_PEND (k : Nat) : RF := ⟨0x3000400 + 0x80 * k, 20, 1⟩
def F.SRV_LSTAT_COAST (k : Nat) : RF := ⟨0x3000400 + 0x80 * k, 9, 3⟩
def F.SRV_LSTAT_IMPL (k : Nat) : RF := ⟨0x3000400 + 0x80 * k, 7, 2⟩
def F.SRV_LSTAT_SAT (k : Nat) : RF := ⟨0x3000400 + 0x80 * k, 6, 1⟩
def F.SRV_LSTAT_ICL (k : Nat) : RF := ⟨0x3000400 + 0x80 * k, 5, 1⟩
def F.SRV_LBANK_HEEL_NEXT (k : Nat) : RF := ⟨0x3000404 + 0x80 * k, 1, 1⟩
def F.SRV_LBANK_FETCH_NEXT (k : Nat) : RF := ⟨0x3000404 + 0x80 * k, 0, 1⟩
def F.SRV_LWIN_SETTLE_WIN (k : Nat) : RF := ⟨0x3000408 + 0x80 * k, 20, 12⟩
def F.SRV_LWIN_SETTLE_N (k : Nat) : RF := ⟨0x3000408 + 0x80 * k, 16, 4⟩
def F.SRV_LWIN_SIT_MAX (k : Nat) : RF := ⟨0x3000408 + 0x80 * k, 8, 8⟩
def F.SRV_LRAMP_RAMP_STEP (k : Nat) : RF := ⟨0x300040C + 0x80 * k, 16, 16⟩
def F.SRV_LRAMP_ICL_N (k : Nat) : RF := ⟨0x300040C + 0x80 * k, 8, 8⟩
def F.SRV_LRAMP_SAT_N (k : Nat) : RF := ⟨0x300040C + 0x80 * k, 0, 8⟩
def F.SRV_LPROF_VMAX (k : Nat) : RF := ⟨0x3000410 + 0x80 * k, 16, 16⟩
def F.SRV_LPROF_AMAX (k : Nat) : RF := ⟨0x3000410 + 0x80 * k, 0, 16⟩
def F.SRV_LFETCH_SIT_POS (k : Nat) : RF := ⟨0x3000414 + 0x80 * k, 20, 12⟩
def F.SRV_LFETCH_SIT_VEL (k : Nat) : RF := ⟨0x3000414 + 0x80 * k, 8, 12⟩
def F.SRV_LFETCH_FETCH_EXTRA (k : Nat) : RF := ⟨0x3000414 + 0x80 * k, 0, 8⟩
def F.SRV_LPARK_TICK_US (k : Nat) : RF := ⟨0x3000418 + 0x80 * k, 24, 8⟩
def F.SRV_LPARK_LOAD_TMO (k : Nat) : RF := ⟨0x3000418 + 0x80 * k, 16, 8⟩
def F.SRV_LPARK_REACQ_MS (k : Nat) : RF := ⟨0x3000418 + 0x80 * k, 8, 8⟩
def F.SRV_LPARK_UNLOAD_TMO (k : Nat) : RF := ⟨0x3000418 + 0x80 * k, 0, 8⟩
def F.SRV_LVEL_LOAD_VREF (k : Nat) : RF := ⟨0x300041C + 0x80 * k, 16, 16⟩
def F.SRV_LVEL_UNLOAD_VREF (k : Nat) : RF := ⟨0x300041C + 0x80 * k, 0, 16⟩
def F.SRV_LHEAD_GAIN_NM (k : Nat) : RF := ⟨0x3000420 + 0x80 * k, 16, 16⟩
def F.SRV_LHEAD_DRIFT_WARN (k : Nat) : RF := ⟨0x3000420 + 0x80 * k, 0, 16⟩
def F.SRV_LERR_PEAK (k : Nat) : RF := ⟨0x3000424 + 0x80 * k, 16, 16⟩
def F.SRV_LERR_LAST (k : Nat) : RF := ⟨0x3000424 + 0x80 * k, 0, 16⟩
def F.SRV_XH_XH (k i : Nat) : RF := ⟨0x3000440 + 0x80 * k + 0x4 * i, 0, 32⟩
def F.SRV_INT_I (k : Nat) : RF := ⟨0x3000460 + 0x80 * k, 0, 32⟩
def F.SRV_UOUT_U (k : Nat) : RF := ⟨0x3000464 + 0x80 * k, 0, 32⟩
def F.SRV_Z0_Z (k : Nat) : RF := ⟨0x3000468 + 0x80 * k, 0, 32⟩
def F.SRV_Z1_Z (k : Nat) : RF := ⟨0x300046C + 0x80 * k, 0, 32⟩
def F.ACT_CTRL_ACK_NS : RF := ⟨0x3200000, 8, 8⟩
def F.ACT_CTRL_MISS_N : RF := ⟨0x3200000, 4, 4⟩
def F.ACT_STAT_FAILED : RF := ⟨0x3200004, 4, 2⟩
def F.ACT_STAT_UP : RF := ⟨0x3200004, 2, 2⟩
def F.ACT_STAT_FLT : RF := ⟨0x3200004, 1, 1⟩
def F.ACT_PSID_FOUND (a : Nat) : RF := ⟨0x3200010 + 0x4 * a, 31, 1⟩
def F.ACT_PSID_ID (a : Nat) : RF := ⟨0x3200010 + 0x4 * a, 0, 16⟩
def F.ACT_INJECT_ARM : RF := ⟨0x3200020, 31, 1⟩
def F.ACT_INJECT_LANE : RF := ⟨0x3200020, 24, 1⟩
def F.ACT_INJECT_CH : RF := ⟨0x3200020, 16, 5⟩
def F.SPN_CTRL_CHOP_EN : RF := ⟨0x3100000, 1, 1⟩
def F.SPN_CTRL_EN : RF := ⟨0x3100000, 0, 1⟩
def F.SPN_STAT_STATE : RF := ⟨0x3100004, 28, 4⟩
def F.SPN_STAT_LOCKED : RF := ⟨0x3100004, 27, 1⟩
def F.SPN_STAT_DIR : RF := ⟨0x3100004, 26, 1⟩
def F.SPN_STAT_PF : RF := ⟨0x3100004, 25, 1⟩
def F.SPN_STAT_CHOP_FAIL : RF := ⟨0x3100004, 24, 1⟩
def F.SPN_STAT_RSV_FAIL : RF := ⟨0x3100004, 23, 1⟩
def F.SPN_STAT_OV : RF := ⟨0x3100004, 22, 1⟩
def F.SPN_SPEED_RPM_MEAS : RF := ⟨0x3100008, 16, 16⟩
def F.SPN_SPEED_RPM_TGT : RF := ⟨0x3100008, 0, 16⟩
def F.SPN_VBUS_NOW : RF := ⟨0x310000C, 16, 10⟩
def F.SPN_VBUS_PEAK : RF := ⟨0x310000C, 0, 10⟩
def F.SPN_MOTOR_POLES : RF := ⟨0x3100010, 28, 4⟩
def F.SPN_MOTOR_RSV_NR : RF := ⟨0x3100010, 24, 4⟩
def F.SPN_MOTOR_ANG_OFS : RF := ⟨0x3100010, 0, 16⟩
def F.SPN_PWM_PWM_KHZ : RF := ⟨0x3100014, 24, 8⟩
def F.SPN_PWM_DEAD_NS : RF := ⟨0x3100014, 16, 8⟩
def F.SPN_CURR_I_RUN : RF := ⟨0x3100018, 16, 16⟩
def F.SPN_CURR_I_START : RF := ⟨0x3100018, 0, 16⟩
def F.SPN_ALIGN_ALIGN_MA : RF := ⟨0x310001C, 16, 16⟩
def F.SPN_ALIGN_ALIGN_MS : RF := ⟨0x310001C, 8, 8⟩
def F.SPN_ALIGN_ALIGN_TOL : RF := ⟨0x310001C, 0, 8⟩
def F.SPN_RAMP_ACCEL : RF := ⟨0x3100020, 16, 16⟩
def F.SPN_RAMP_DECEL : RF := ⟨0x3100020, 0, 16⟩
def F.SPN_LOCK_LOCK_TOL : RF := ⟨0x3100024, 24, 8⟩
def F.SPN_LOCK_UNLOCK_TOL : RF := ⟨0x3100024, 16, 8⟩
def F.SPN_LOCK_LOCK_REVS : RF := ⟨0x3100024, 8, 8⟩
def F.SPN_LOCK_LOCK_TMO : RF := ⟨0x3100024, 0, 8⟩
def F.SPN_ONOFF_ON_THR : RF := ⟨0x3100028, 24, 8⟩
def F.SPN_ONOFF_OFF_THR : RF := ⟨0x3100028, 16, 8⟩
def F.SPN_RSV_AMP_LO : RF := ⟨0x310002C, 24, 8⟩
def F.SPN_RSV_AMP_HI : RF := ⟨0x310002C, 16, 8⟩
def F.SPN_RSV_TRK_TOL : RF := ⟨0x310002C, 8, 8⟩
def F.SPN_RSV_EXC_KHZ : RF := ⟨0x310002C, 0, 8⟩
def F.SPN_INJECT_ARM : RF := ⟨0x3100030, 31, 1⟩
def F.SPN_INJECT_KIND : RF := ⟨0x3100030, 29, 2⟩
def F.SPN_INJECT_VALUE : RF := ⟨0x3100030, 0, 10⟩
def F.SPN_DEMAND_DEMAND : RF := ⟨0x3100034, 0, 8⟩
def F.SPN_KE_KE : RF := ⟨0x3100038, 0, 16⟩
def F.SPN_SPC_DMD (i : Nat) : RF := ⟨0x3100040 + 0x4 * i, 24, 8⟩
def F.SPN_SPC_RPM (i : Nat) : RF := ⟨0x3100040 + 0x4 * i, 0, 16⟩
def F.SPN_ADV_RPM (i : Nat) : RF := ⟨0x3100080 + 0x4 * i, 16, 16⟩
def F.SPN_ADV_ADV (i : Nat) : RF := ⟨0x3100080 + 0x4 * i, 0, 16⟩
def F.SPN_VTHR1_CHOP_ON : RF := ⟨0x31000C0, 16, 10⟩
def F.SPN_VTHR1_CHOP_OFF : RF := ⟨0x31000C0, 0, 10⟩
def F.SPN_VTHR2_OV_THR : RF := ⟨0x31000C4, 16, 10⟩
def F.SPN_VTHR2_OV_CLR : RF := ⟨0x31000C4, 0, 10⟩
def F.SPN_VTHR3_PF_THR : RF := ⟨0x31000C8, 16, 10⟩
def F.SPN_VTHR3_REGEN_V : RF := ⟨0x31000C8, 0, 10⟩
def F.SPN_CHOP_RBRK_MOHM : RF := ⟨0x31000CC, 16, 16⟩
def F.SPN_CHOP_CBUS_UF : RF := ⟨0x31000CC, 0, 16⟩
def F.SPN_HOLD_REGEN_MIN : RF := ⟨0x31000D0, 16, 16⟩
def F.SPN_HOLD_SB_HOLD_MS : RF := ⟨0x31000D0, 8, 8⟩
def F.SPN_HOLD_ILOAD : RF := ⟨0x31000D0, 0, 8⟩
def F.SPN_KSPD_KP_K : RF := ⟨0x3100100, 0, 32⟩
def F.SPN_KSPD_KI_K : RF := ⟨0x3100104, 0, 32⟩
def F.SPN_KCUR_KP_K : RF := ⟨0x3100108, 0, 32⟩
def F.SPN_KCUR_KI_K : RF := ⟨0x310010C, 0, 32⟩
def F.SPN_KBUS_KP_K : RF := ⟨0x3100110, 0, 32⟩
def F.SPN_KBUS_KI_K : RF := ⟨0x3100114, 0, 32⟩
def F.BUF_INJECT_ARM : RF := ⟨0x4000030, 31, 1⟩
def F.BUF_INJECT_KIND : RF := ⟨0x4000030, 28, 3⟩
def F.BUF_INJECT_TWO : RF := ⟨0x4000030, 27, 1⟩
def F.BUF_INJECT_DEV : RF := ⟨0x4000030, 24, 3⟩
def F.BUF_INJECT_DEV2 : RF := ⟨0x4000030, 21, 3⟩
def F.BUF_INJECT_BEAT : RF := ⟨0x4000030, 17, 4⟩
def F.BUF_INJECT_PATTERN : RF := ⟨0x4000030, 0, 16⟩
def F.BUF_CTRL_SUSPECT : RF := ⟨0x4000000, 0, 8⟩
def F.BUF_STAT_READY : RF := ⟨0x4000004, 31, 1⟩
def F.BUF_STAT_TRAINED : RF := ⟨0x4000004, 30, 1⟩
def F.BUF_STAT_VCLR_BUSY : RF := ⟨0x4000004, 29, 1⟩
def F.BUF_STAT_FILLS : RF := ⟨0x4000004, 0, 7⟩
def F.BUF_DEVSTATE_LINK_FAIL : RF := ⟨0x4000008, 18, 6⟩
def F.BUF_DEVSTATE_ST : RF := ⟨0x4000008, 0, 18⟩
def F.BUF_RSLV_PTR : RF := ⟨0x400000C, 0, 22⟩
def F.BUF_PHY_RATE : RF := ⟨0x4000010, 30, 2⟩
def F.BUF_PHY_DENS : RF := ⟨0x4000010, 29, 1⟩
def F.BUF_PHY_RETRAIN_MS : RF := ⟨0x4000010, 16, 8⟩
def F.BUF_PHY_EDC_RETRY : RF := ⟨0x4000010, 12, 4⟩
def F.BUF_LINK_LINK_LIM : RF := ⟨0x4000014, 16, 16⟩
def F.BUF_FILL_FILL_NS : RF := ⟨0x4000018, 16, 16⟩
def F.BUF_VCLR_FIRST_FIRST : RF := ⟨0x4000020, 0, 22⟩
def F.BUF_VCLR_CNT_CNT : RF := ⟨0x4000024, 0, 22⟩
def F.BUF_SHARE_SHARE (c : Nat) : RF := ⟨0x4000040 + 0x4 * c, 0, 11⟩
def F.BUF_TBUF_SIZE_LOG2 (a : Nat) : RF := ⟨0x4000080 + 0x4 * a, 28, 4⟩
def F.BUF_TBUF_GRANULE (a : Nat) : RF := ⟨0x4000080 + 0x4 * a, 0, 22⟩
def F.BUF_TBCLR_COUNT (a : Nat) : RF := ⟨0x4000088 + 0x4 * a, 16, 12⟩
def F.BUF_TBCLR_FIRST (a : Nat) : RF := ⟨0x4000088 + 0x4 * a, 0, 12⟩
def F.BUF_TBSTAT_BUSY (a : Nat) : RF := ⟨0x4000090 + 0x4 * a, 0, 13⟩
def F.SCB_CTRL_EN : RF := ⟨0x4200000, 0, 1⟩
def F.SCB_PACE_PASS_H : RF := ⟨0x4200004, 0, 16⟩
def F.SCB_POS_RESILVERING : RF := ⟨0x4200008, 31, 1⟩
def F.SCB_POS_GRANULE : RF := ⟨0x4200008, 0, 22⟩
def F.SCB_PASSES_PASSES : RF := ⟨0x420000C, 0, 32⟩
def F.MDC_CTRL_EN : RF := ⟨0x4100000, 0, 1⟩
def F.MDC_STAT_READY : RF := ⟨0x4100004, 31, 1⟩
def F.MDC_STAT_MOP_BUSY : RF := ⟨0x4100004, 30, 1⟩
def F.MDC_STAT_PASSED : RF := ⟨0x4100004, 29, 1⟩
def F.MDC_STAT_VALID : RF := ⟨0x4100004, 0, 18⟩
def F.MDC_DIRTY_LINES : RF := ⟨0x4100008, 0, 18⟩
def F.MDC_WAYS_ALLOC : RF := ⟨0x4100010, 16, 12⟩
def F.MDC_WAYS_LOCK : RF := ⟨0x4100010, 0, 12⟩
def F.MDC_REPL_INS_AGE : RF := ⟨0x4100014, 0, 2⟩
def F.MDC_MOP_ADDR_LINE : RF := ⟨0x4100020, 0, 27⟩
def F.MDC_MOP_CNT_CNT : RF := ⟨0x4100024, 0, 27⟩
def F.MDC_MOP_CTRL_OP : RF := ⟨0x4100028, 1, 3⟩
def F.MDC_MOP_CTRL_GO : RF := ⟨0x4100028, 0, 1⟩
def F.MDC_MOP_STAT_BUSY : RF := ⟨0x410002C, 31, 1⟩
def F.MDC_MOP_STAT_DONE : RF := ⟨0x410002C, 30, 1⟩
def F.MDC_MOP_STAT_ERR : RF := ⟨0x410002C, 28, 2⟩
def F.MDC_MOP_SKIP_SKIP : RF := ⟨0x4100030, 0, 32⟩
def F.MDC_MOP_DROP_DROP : RF := ⟨0x4100034, 0, 32⟩
def F.MDC_MOP_WB_WB : RF := ⟨0x4100038, 0, 32⟩
def F.MDC_INJECT_ARM : RF := ⟨0x4100060, 31, 1⟩
def F.MDC_INJECT_MEM : RF := ⟨0x4100060, 30, 1⟩
def F.MDC_INJECT_TWO : RF := ⟨0x4100060, 29, 1⟩
def F.MDC_INJECT_BIT2 : RF := ⟨0x4100060, 9, 9⟩
def F.MDC_INJECT_BIT : RF := ⟨0x4100060, 0, 9⟩
def F.DMA_STAGE_RD_FLITS : RF := ⟨0x5000004, 16, 14⟩
def F.DMA_STAGE_WR_FLITS : RF := ⟨0x5000004, 0, 14⟩
def F.DMA_STAT_RD_USED : RF := ⟨0x5000008, 16, 14⟩
def F.DMA_STAT_WR_USED : RF := ⟨0x5000008, 0, 14⟩
def F.DMA_HALT_LO_HALTED : RF := ⟨0x5000010, 0, 32⟩
def F.DMA_HALT_HI_HALTED : RF := ⟨0x5000014, 0, 32⟩
def F.DMA_DIAG_UNLOCKED : RF := ⟨0x5000020, 31, 1⟩
def F.DMA_DIAG_LO_FIRST : RF := ⟨0x5000024, 0, 22⟩
def F.DMA_DIAG_HI_LIMIT : RF := ⟨0x5000028, 0, 22⟩
def F.DMA_INJECT_ARM : RF := ⟨0x5000060, 31, 1⟩
def F.DMA_INJECT_KIND : RF := ⟨0x5000060, 29, 2⟩
def F.DMA_INJECT_CH : RF := ⟨0x5000060, 16, 6⟩
def F.DMA_INJECT_BIT : RF := ⟨0x5000060, 0, 9⟩
def F.DMA_C_CFG_EN (x : Nat) : RF := ⟨0x5001000 + 0x20 * x, 31, 1⟩
def F.DMA_C_CFG_ENGINE (x : Nat) : RF := ⟨0x5001000 + 0x20 * x, 30, 1⟩
def F.DMA_C_CFG_OWNER (x : Nat) : RF := ⟨0x5001000 + 0x20 * x, 27, 3⟩
def F.DMA_C_CFG_RING_LOG2 (x : Nat) : RF := ⟨0x5001000 + 0x20 * x, 20, 4⟩
def F.DMA_C_CFG_BURST (x : Nat) : RF := ⟨0x5001000 + 0x20 * x, 16, 4⟩
def F.DMA_C_CFG_RING_OFS (x : Nat) : RF := ⟨0x5001000 + 0x20 * x, 0, 12⟩
def F.DMA_C_STAT_BUSY (x : Nat) : RF := ⟨0x5001004 + 0x20 * x, 31, 1⟩
def F.DMA_C_STAT_HALTED (x : Nat) : RF := ⟨0x5001004 + 0x20 * x, 30, 1⟩
def F.DMA_C_STAT_LAST_STATUS (x : Nat) : RF := ⟨0x5001004 + 0x20 * x, 16, 8⟩
def F.DMA_C_STAT_HEAD (x : Nat) : RF := ⟨0x5001004 + 0x20 * x, 0, 16⟩
def F.DMA_C_TAIL_TAIL (x : Nat) : RF := ⟨0x5001008 + 0x20 * x, 0, 16⟩
def F.DMA_C_CTRL_STOP (x : Nat) : RF := ⟨0x500100C + 0x20 * x, 2, 1⟩
def F.DMA_C_CTRL_RESUME (x : Nat) : RF := ⟨0x500100C + 0x20 * x, 1, 1⟩
def F.DMA_C_CTRL_DOOR (x : Nat) : RF := ⟨0x500100C + 0x20 * x, 0, 1⟩
def F.DMA_C_RBASE_LO_RBASE (x : Nat) : RF := ⟨0x5001010 + 0x20 * x, 0, 32⟩
def F.DMA_C_RBASE_HI_RBASE (x : Nat) : RF := ⟨0x5001014 + 0x20 * x, 0, 32⟩
def F.HST_CTRL_DIAG_ALLOW : RF := ⟨0x6000000, 1, 1⟩
def F.HST_CTRL_PORTCFG : RF := ⟨0x6000000, 0, 1⟩
def F.HST_IDS_SSVID : RF := ⟨0x6000004, 16, 16⟩
def F.HST_IDS_SSID : RF := ⟨0x6000004, 0, 16⟩
def F.HST_LINK_RECOV_MS : RF := ⟨0x6000008, 24, 8⟩
def F.HST_LINK_MAXSPEED : RF := ⟨0x6000008, 20, 4⟩
def F.HST_PSTAT_DL_UP (p : Nat) : RF := ⟨0x6000010 + 0x4 * p, 31, 1⟩
def F.HST_PSTAT_FAILED (p : Nat) : RF := ⟨0x6000010 + 0x4 * p, 30, 1⟩
def F.HST_PSTAT_SPEED (p : Nat) : RF := ⟨0x6000010 + 0x4 * p, 27, 3⟩
def F.HST_PSTAT_WIDTH (p : Nat) : RF := ⟨0x6000010 + 0x4 * p, 24, 3⟩
def F.HST_PSTAT_FLIT (p : Nat) : RF := ⟨0x6000010 + 0x4 * p, 23, 1⟩
def F.HST_PSTAT_RETRAINS (p : Nat) : RF := ⟨0x6000010 + 0x4 * p, 0, 16⟩
def F.HST_MI_ADDR : RF := ⟨0x6000020, 24, 7⟩
def F.HST_MI_BMC_EN : RF := ⟨0x6000020, 23, 1⟩
def F.ZNE_STAT_READY : RF := ⟨0x6100004, 31, 1⟩
def F.ZNE_STAT_RECOVERING : RF := ⟨0x6100004, 30, 1⟩
def F.ZNE_STAT_ACTIVE : RF := ⟨0x6100004, 0, 14⟩
def F.ZNE_CTX_BASE_GRANULE : RF := ⟨0x6100008, 0, 22⟩
def F.ZNE_GEN_GEN : RF := ⟨0x610000C, 0, 30⟩
def F.ZNE_LIMIT_ACT_MAX : RF := ⟨0x6100010, 0, 13⟩
def F.ZNE_SCAN_SCAN_BUDGET : RF := ⟨0x6100014, 0, 8⟩
def F.ZNE_INJECT_ARM : RF := ⟨0x6100060, 31, 1⟩
def F.ZNE_INJECT_KIND : RF := ⟨0x6100060, 29, 2⟩
def F.ZNE_INJECT_BIT : RF := ⟨0x6100060, 0, 9⟩
def F.RNG_CTRL_RELAY : RF := ⟨0x7000000, 3, 1⟩
def F.RNG_CTRL_WEST_EN : RF := ⟨0x7000000, 1, 1⟩
def F.RNG_CTRL_EAST_EN : RF := ⟨0x7000000, 0, 1⟩
def F.RNG_STAT_TSTATE : RF := ⟨0x7000004, 29, 3⟩
def F.RNG_STAT_KEY_OK : RF := ⟨0x7000004, 28, 1⟩
def F.RNG_STAT_NODE_ID : RF := ⟨0x7000004, 16, 8⟩
def F.RNG_STAT_EPOCH : RF := ⟨0x7000004, 0, 16⟩
def F.RNG_MEMBERS_COUNT : RF := ⟨0x7000008, 0, 9⟩
def F.RNG_PSTAT_PSTATE (p : Nat) : RF := ⟨0x7000010 + 0x4 * p, 29, 3⟩
def F.RNG_PSTAT_PEER_ID (p : Nat) : RF := ⟨0x7000010 + 0x4 * p, 16, 8⟩
def F.RNG_PSTAT_RESENDS (p : Nat) : RF := ⟨0x7000010 + 0x4 * p, 0, 16⟩
def F.RNG_LINK_RETRY_LIM : RF := ⟨0x7000020, 28, 4⟩
def F.RNG_LINK_ACK_US : RF := ⟨0x7000020, 20, 8⟩
def F.RNG_LINK_BACKOFF_MS : RF := ⟨0x7000020, 0, 16⟩
def F.RNG_ENUM_QUIET_US : RF := ⟨0x7000024, 0, 16⟩
def F.RNG_HCRED_CMD : RF := ⟨0x7000028, 24, 8⟩
def F.RNG_HCRED_DATA : RF := ⟨0x7000028, 16, 8⟩
def F.RNG_HCRED_RSP : RF := ⟨0x7000028, 8, 8⟩
def F.RNG_HCRED_MGT : RF := ⟨0x7000028, 0, 8⟩
def F.RNG_JOB_JWIN : RF := ⟨0x700002C, 24, 8⟩
def F.RNG_JOB_JOBS_T : RF := ⟨0x700002C, 16, 8⟩
def F.RNG_JOB_JOBS_P : RF := ⟨0x700002C, 8, 8⟩
def F.RNG_JOB_JOB_MS : RF := ⟨0x700002C, 0, 8⟩
def F.RNG_JAREA_GRANULE : RF := ⟨0x7000030, 0, 22⟩
def F.RNG_NSEXP_LO_EXP : RF := ⟨0x7000034, 0, 32⟩
def F.RNG_NSEXP_HI_EXP : RF := ⟨0x7000038, 0, 32⟩
def F.RNG_WHISTLE_WHISTLE_MS : RF := ⟨0x700003C, 8, 8⟩
def F.RNG_WHISTLE_WEST_GO : RF := ⟨0x700003C, 1, 1⟩
def F.RNG_WHISTLE_EAST_GO : RF := ⟨0x700003C, 0, 1⟩
def F.RNG_INJECT_ARM : RF := ⟨0x7000060, 31, 1⟩
def F.RNG_INJECT_KIND : RF := ⟨0x7000060, 29, 2⟩
def F.RNG_INJECT_PORT : RF := ⟨0x7000060, 28, 1⟩
def F.ECE_STAT_JOBS : RF := ⟨0x7100004, 8, 8⟩
def F.ECE_STAT_BUSY : RF := ⟨0x7100004, 0, 8⟩
def F.ECE_INJECT_ARM : RF := ⟨0x7100060, 31, 1⟩
def F.ECE_INJECT_BYTE : RF := ⟨0x7100060, 0, 8⟩
def F.SEQ_STAT_RUN : RF := ⟨0x8000004, 31, 1⟩
def F.SEQ_STAT_LOCKED : RF := ⟨0x8000004, 30, 1⟩
def F.SEQ_STAT_HALTED : RF := ⟨0x8000004, 8, 8⟩
def F.SEQ_STAT_PRESENT : RF := ⟨0x8000004, 0, 8⟩
def F.SEQ_ROMID_ROM_ID (t : Nat) : RF := ⟨0x8000010 + 0x4 * t, 0, 32⟩
def F.SEQ_PATCH_LOADED (t : Nat) : RF := ⟨0x8000020 + 0x4 * t, 31, 1⟩
def F.SEQ_PATCH_MATCHES (t : Nat) : RF := ⟨0x8000020 + 0x4 * t, 16, 6⟩
def F.SEQ_PATCH_WORDS (t : Nat) : RF := ⟨0x8000020 + 0x4 * t, 0, 12⟩
def F.SEQ_INJECT_ARM : RF := ⟨0x8000060, 31, 1⟩
def F.SEQ_INJECT_KIND : RF := ⟨0x8000060, 29, 2⟩
def F.SEQ_INJECT_S : RF := ⟨0x8000060, 24, 3⟩
def F.SEQ_INJECT_VALUE : RF := ⟨0x8000060, 0, 16⟩
def F.SEQ_MUTEX_HELD (m : Nat) : RF := ⟨0x8000080 + 0x4 * m, 31, 1⟩
def F.SEQ_MUTEX_OWNER (m : Nat) : RF := ⟨0x8000080 + 0x4 * m, 24, 4⟩
def F.SEQ_MUTEX_RELEASE (m : Nat) : RF := ⟨0x8000080 + 0x4 * m, 1, 1⟩
def F.SEQ_MUTEX_CLAIM (m : Nat) : RF := ⟨0x8000080 + 0x4 * m, 0, 1⟩
def F.SEQ_SSTAT_RUN (s : Nat) : RF := ⟨0x8000400 + 0x40 * s, 31, 1⟩
def F.SEQ_SSTAT_HALTED (s : Nat) : RF := ⟨0x8000400 + 0x40 * s, 30, 1⟩
def F.SEQ_SSTAT_BUSY (s : Nat) : RF := ⟨0x8000400 + 0x40 * s, 16, 6⟩
def F.SEQ_SSTAT_FAULT_RESTARTS (s : Nat) : RF := ⟨0x8000400 + 0x40 * s, 0, 16⟩
def F.SEQ_TSEL_THREAD (s : Nat) : RF := ⟨0x8000404 + 0x40 * s, 0, 5⟩
def F.SEQ_TINFO_STATE (s : Nat) : RF := ⟨0x8000408 + 0x40 * s, 29, 3⟩
def F.SEQ_TINFO_LOCKHELD (s : Nat) : RF := ⟨0x8000408 + 0x40 * s, 28, 1⟩
def F.SEQ_TINFO_COND (s : Nat) : RF := ⟨0x8000408 + 0x40 * s, 22, 6⟩
def F.SEQ_TINFO_PC (s : Nat) : RF := ⟨0x8000408 + 0x40 * s, 0, 16⟩
def F.SEQ_TWAIT_WAIT_US (s : Nat) : RF := ⟨0x800040C + 0x40 * s, 0, 32⟩
def F.SEQ_TCTX_CTX (s : Nat) : RF := ⟨0x8000410 + 0x40 * s, 0, 16⟩
def F.SEQ_FLAGS_FLAGS (s : Nat) : RF := ⟨0x8000414 + 0x40 * s, 0, 16⟩
def F.SEQ_FLAGSET_SET (s : Nat) : RF := ⟨0x8000418 + 0x40 * s, 0, 16⟩
def F.SEQ_FLAGCLR_CLR (s : Nat) : RF := ⟨0x800041C + 0x40 * s, 0, 16⟩
def F.SEQ_MATCH_EN (t i : Nat) : RF := ⟨0x8001000 + 0x80 * t + 0x4 * i, 31, 1⟩
def F.SEQ_MATCH_PATCH (t i : Nat) : RF := ⟨0x8001000 + 0x80 * t + 0x4 * i, 15, 11⟩
def F.SEQ_MATCH_ROM (t i : Nat) : RF := ⟨0x8001000 + 0x80 * t + 0x4 * i, 0, 15⟩
def F.FLC_CTRL_AUTO_SUSP : RF := ⟨0x9000000, 16, 1⟩
def F.FLC_CTRL_AUTO_MAX_US : RF := ⟨0x9000000, 0, 16⟩
def F.FLC_STAT_READY : RF := ⟨0x9000004, 31, 1⟩
def F.FLC_STAT_FAILED : RF := ⟨0x9000004, 30, 1⟩
def F.FLC_STAT_XO_LOCK : RF := ⟨0x9000004, 29, 1⟩
def F.FLC_STAT_EXEC : RF := ⟨0x9000004, 28, 1⟩
def F.FLC_STAT_EXEC_BANK : RF := ⟨0x9000004, 27, 1⟩
def F.FLC_STAT_ERASING : RF := ⟨0x9000004, 25, 2⟩
def F.FLC_STAT_SUSPENDED : RF := ⟨0x9000004, 23, 2⟩
def F.FLC_EXEC_START : RF := ⟨0x9000008, 31, 1⟩
def F.FLC_EXEC_STOP : RF := ⟨0x9000008, 30, 1⟩
def F.FLC_EXEC_REGION : RF := ⟨0x9000008, 0, 3⟩
def F.FLC_XO_EN (i : Nat) : RF := ⟨0x9000040 + 0x4 * i, 31, 1⟩
def F.FLC_XO_FIRST (i : Nat) : RF := ⟨0x9000040 + 0x4 * i, 16, 10⟩
def F.FLC_XO_COUNT (i : Nat) : RF := ⟨0x9000040 + 0x4 * i, 0, 10⟩
def F.FLC_INJECT_ARM : RF := ⟨0x9000060, 31, 1⟩
def F.FLC_INJECT_KIND : RF := ⟨0x9000060, 29, 2⟩
def F.FLC_INJECT_BIT : RF := ⟨0x9000060, 0, 9⟩
def F.FLC_OP_ADDR_WORD (s : Nat) : RF := ⟨0x9000100 + 0x40 * s, 0, 21⟩
def F.FLC_OP_CTRL_OP (s : Nat) : RF := ⟨0x9000104 + 0x40 * s, 1, 3⟩
def F.FLC_OP_CTRL_GO (s : Nat) : RF := ⟨0x9000104 + 0x40 * s, 0, 1⟩
def F.FLC_OP_STAT_BUSY (s : Nat) : RF := ⟨0x9000108 + 0x40 * s, 31, 1⟩
def F.FLC_OP_STAT_DONE (s : Nat) : RF := ⟨0x9000108 + 0x40 * s, 30, 1⟩
def F.FLC_OP_STAT_PULSES (s : Nat) : RF := ⟨0x9000108 + 0x40 * s, 8, 8⟩
def F.FLC_OP_STAT_STATUS (s : Nat) : RF := ⟨0x9000108 + 0x40 * s, 0, 8⟩
def F.FLC_OP_DATA_DATA (s j : Nat) : RF := ⟨0x9000120 + 0x40 * s + 0x4 * j, 0, 32⟩
def F.FAB_LOAD_COPY : RF := ⟨0x100130, 30, 2⟩
def F.FAB_LOAD_REASON_A : RF := ⟨0x100130, 16, 8⟩
def F.FAB_LOAD_REASON_B : RF := ⟨0x100130, 8, 8⟩
def F.FAB_LOADGEN_GEN : RF := ⟨0x100134, 0, 32⟩
def F.FAB_CDGO_GO : RF := ⟨0x100180, 31, 1⟩
def F.FAB_CDGO_DOMAIN : RF := ⟨0x100180, 0, 3⟩
def F.FAB_CDSTAT_BUSY : RF := ⟨0x100184, 31, 1⟩
def F.FAB_CDSTAT_FAILED : RF := ⟨0x100184, 30, 1⟩
def F.FAB_CDSTAT_DOMAIN : RF := ⟨0x100184, 27, 3⟩
def F.FAB_CDSTAT_CH : RF := ⟨0x100184, 16, 5⟩
def F.FAB_CDSTAT_CLASS : RF := ⟨0x100184, 8, 8⟩
def F.FAB_CDSTAT_RULE : RF := ⟨0x100184, 0, 8⟩
def F.FAB_CDOM_CLASSES (d : Nat) : RF := ⟨0x100200 + 0x8 * d, 1, 21⟩
def F.FAB_CDOMCH_CH (d : Nat) : RF := ⟨0x100204 + 0x8 * d, 0, 20⟩
def F.PWR_CTRL_WHISTLE_STATE : RF := ⟨0xB000000, 6, 3⟩
def F.PWR_CTRL_BOOT_STATE : RF := ⟨0xB000000, 3, 3⟩
def F.PWR_STAT_STATE : RF := ⟨0xB000004, 29, 3⟩
def F.PWR_STAT_TARGET : RF := ⟨0xB000004, 26, 3⟩
def F.PWR_STAT_PF : RF := ⟨0xB000004, 25, 1⟩
def F.PWR_STAT_MOVING : RF := ⟨0xB000004, 24, 1⟩
def F.PWR_STAT_ON : RF := ⟨0xB000004, 15, 9⟩
def F.PWR_STAT_HOLD : RF := ⟨0xB000004, 6, 9⟩
def F.PWR_VOTE_VOTE1 : RF := ⟨0xB000008, 4, 4⟩
def F.PWR_VOTE_VOTE0 : RF := ⟨0xB000008, 0, 4⟩
def F.PWR_LIMIT_LIMIT_MW : RF := ⟨0xB00000C, 0, 16⟩
def F.PWR_GRANT_RD : RF := ⟨0xB000010, 27, 5⟩
def F.PWR_GRANT_WR : RF := ⟨0xB000010, 22, 5⟩
def F.PWR_GRANT_BUFCAP : RF := ⟨0xB000010, 11, 11⟩
def F.PWR_GRANT_RINGP : RF := ⟨0xB000010, 9, 2⟩
def F.PWR_EST_EST_MW : RF := ⟨0xB000014, 16, 16⟩
def F.PWR_EST_BUDGET_MW : RF := ⟨0xB000014, 0, 16⟩
def F.PWR_HEADREQ_OP : RF := ⟨0xB000018, 30, 2⟩
def F.PWR_HEADREQ_HEAD : RF := ⟨0xB000018, 0, 5⟩
def F.PWR_GRANTMAP_HEADS : RF := ⟨0xB00001C, 0, 20⟩
def F.PWR_PADREL_REL : RF := ⟨0xB000020, 0, 9⟩
def F.PWR_WAKE_LAST : RF := ⟨0xB000024, 16, 8⟩
def F.PWR_WAKE_EN : RF := ⟨0xB000024, 0, 9⟩
def F.PWR_PF_PFWP_MAX : RF := ⟨0xB000028, 16, 16⟩
def F.PWR_SCAP_DEMAND (s : Nat) : RF := ⟨0xB000040 + 0x4 * s, 24, 8⟩
def F.PWR_SCAP_RD_MAX (s : Nat) : RF := ⟨0xB000040 + 0x4 * s, 19, 5⟩
def F.PWR_SCAP_WR_MAX (s : Nat) : RF := ⟨0xB000040 + 0x4 * s, 14, 5⟩
def F.PWR_SCAP_BUFCAP (s : Nat) : RF := ⟨0xB000040 + 0x4 * s, 3, 11⟩
def F.PWR_SCAP_RINGP (s : Nat) : RF := ⟨0xB000040 + 0x4 * s, 1, 2⟩
def F.PWR_INJECT_ARM : RF := ⟨0xB000060, 31, 1⟩
def F.PWR_INJECT_KIND : RF := ⟨0xB000060, 29, 2⟩
def F.PWR_INJECT_SRC : RF := ⟨0xB000060, 0, 4⟩
def F.PWR_SMP_MP_MW (s : Nat) : RF := ⟨0xB000100 + 0x4 * s, 16, 16⟩
def F.PWR_SLAT_ENLAT_MS (s : Nat) : RF := ⟨0xB000120 + 0x4 * s, 16, 16⟩
def F.PWR_SLAT_EXLAT_MS (s : Nat) : RF := ⟨0xB000120 + 0x4 * s, 0, 16⟩
def F.PWR_COST0_BASE_MW : RF := ⟨0xB000140, 16, 16⟩
def F.PWR_COST0_HOST_MW : RF := ⟨0xB000140, 0, 16⟩
def F.PWR_COST1_BUF_IDLE_MW : RF := ⟨0xB000144, 16, 16⟩
def F.PWR_COST1_BUF_SPAN_MW : RF := ⟨0xB000144, 0, 16⟩
def F.PWR_COST2_READ_MW : RF := ⟨0xB000148, 16, 16⟩
def F.PWR_COST2_WRITE_MW : RF := ⟨0xB000148, 0, 16⟩
def F.PWR_COST3_RINGP_MW : RF := ⟨0xB00014C, 16, 16⟩
def F.PWR_COST3_MARGIN_MW : RF := ⟨0xB00014C, 0, 16⟩
def F.LOG_STAT_READY : RF := ⟨0xA000004, 31, 1⟩
def F.LOG_STAT_FLUSHING : RF := ⟨0xA000004, 30, 1⟩
def F.LOG_STAT_PF_BATCH : RF := ⟨0xA000004, 29, 1⟩
def F.LOG_STAT_FLASH_OFF : RF := ⟨0xA000004, 28, 1⟩
def F.LOG_STAT_EPOCH_UNSURE : RF := ⟨0xA000004, 27, 1⟩
def F.LOG_STAT_UNFLUSHED : RF := ⟨0xA000004, 0, 16⟩
def F.LOG_HEAD_LO_SEQ_LO : RF := ⟨0xA000008, 0, 32⟩
def F.LOG_HEAD_HI_SEQ_HI : RF := ⟨0xA00000C, 0, 32⟩
def F.LOG_FLUSHED_LO_SEQ_LO : RF := ⟨0xA000010, 0, 32⟩
def F.LOG_FLUSHED_HI_SEQ_HI : RF := ⟨0xA000014, 0, 32⟩
def F.LOG_FLUSH_FLUSH_THR : RF := ⟨0xA000020, 16, 16⟩
def F.LOG_FLUSH_RES_SECT : RF := ⟨0xA000020, 12, 4⟩
def F.LOG_FLUSH_PF_MAX : RF := ⟨0xA000020, 0, 9⟩
def F.LOG_INJECT_ARM : RF := ⟨0xA000060, 31, 1⟩
def F.LOG_INJECT_KIND : RF := ⟨0xA000060, 29, 2⟩
def F.LOG_INJECT_BIT : RF := ⟨0xA000060, 0, 9⟩
def F.LOG_BUCKET_FLUSH (b : Nat) : RF := ⟨0xA004000 + 0x4 * b, 31, 1⟩
def F.LOG_BUCKET_AEN (b : Nat) : RF := ⟨0xA004000 + 0x4 * b, 30, 1⟩
def F.LOG_BUCKET_DEPTH (b : Nat) : RF := ⟨0xA004000 + 0x4 * b, 16, 8⟩
def F.LOG_BUCKET_REFILL_MS (b : Nat) : RF := ⟨0xA004000 + 0x4 * b, 0, 16⟩
def F.LOG_BSTAT_SUPPRESSED (b : Nat) : RF := ⟨0xA008000 + 0x4 * b, 16, 16⟩
def F.LOG_BSTAT_TOKENS (b : Nat) : RF := ⟨0xA008000 + 0x4 * b, 0, 8⟩
def F.KNL_VCORE_MEAS : RF := ⟨0x200040, 25, 7⟩
def F.KNL_VCORE_VSET_LO : RF := ⟨0x200040, 16, 7⟩
def F.KNL_VCORE_VSET_HI : RF := ⟨0x200040, 8, 7⟩
def F.KNL_TEMP_TJ_PEAK : RF := ⟨0x200044, 8, 8⟩
def F.KNL_TEMP_TJ : RF := ⟨0x200044, 0, 8⟩

end Sys2Proof.Machine
end

