-- ==== Sys2Proof/Machine/RegTable.lean ====
section
/-! DEFINITION. Machine/RegTable.lean: the register tables of the chapters, one row per register: where it lies, which of its bits
have which access code of Table 0.6, and its reset value. Bits in no mask are RO, or RES where `ro` leaves them out too. -/
namespace Sys2Proof.Machine

/-- One register of a block's window, or an array of registers. Register (i, j) lies at offset `off + s1 * i + s2 * j`. `reset v i j` is its
reset value and `gone v i` the bits that are RES at index i (on the EO7230 if `v`, R3, or for every variant). -/
structure RegRow where
  off : Nat
  n1 : Nat := 1
  s1 : Nat := 0x400000
  n2 : Nat := 1
  s2 : Nat := 4
  rw : Nat := 0
  ro : Nat := 0
  w1c : Nat := 0
  ws : Nat := 0
  wo : Nat := 0
  reset : Bool → Nat → Nat → Nat := fun _ _ _ => 0
  gone : Bool → Nat → Nat := fun _ _ => 0

/-- Registers of FAB. -/
def rowsFab : List RegRow := [
  -- FAB.CHIPID (Table 0.2)
  { off := 0x0, ro := 0xFFFFFFF1, reset := fun v _ _ => 0x211 + ((if v then 0x7230 else 0x7260) <<< 16) + ((if v then 1 else 2) <<< 12) },
  -- FAB.PROMOTE (Table 2.3)
  { off := 0x110, ws := 0xFFFFFFFF, reset := fun _ _ _ => 0xC8320501 },
  -- FAB.RC_CTRL (Table 2.6)
  { off := 0x100, wo := 0x1 },
  -- FAB.RC_STAT (Table 2.6)
  { off := 0x104, ro := 0xC3FFFFFF, reset := fun v _ _ => ((if v then 0x284 else 0x2C0) <<< 16) },
  -- FAB.RC_EPOCH (Table 2.6)
  { off := 0x108, ro := 0xFFFFFFFF },
  -- FAB.RC_PERIOD (Table 2.6)
  { off := 0x10C, ws := 0xFFFF, reset := fun _ _ _ => 0x3E8 },
  -- FAB.LOAD (Table 16.8)
  { off := 0x130, ro := 0xC0FFFF00 },
  -- FAB.LOADGEN (Table 16.8)
  { off := 0x134, ro := 0xFFFFFFFF },
  -- FAB.CDGO (Table 16.11)
  { off := 0x180, wo := 0x80000007 },
  -- FAB.CDSTAT (Table 16.11)
  { off := 0x184, ro := 0xF81FFFFF },
  -- FAB.CDOM (Table 16.11)
  { off := 0x200, n1 := 8, s1 := 0x8, rw := 0x3FFFFE },
  -- FAB.CDOMCH (Table 16.11)
  { off := 0x204, n1 := 8, s1 := 0x8, rw := 0xFFFFF, gone := fun v _ => (if v then 0xFFC00 else 0) },
  -- FAB.FAULT_SUM
  { off := 0x120, ro := 0x1FFFFF },
  -- FAB.FAULT_CH
  { off := 0x124, ro := 0xFFFFF },
  -- FAB.COMMIT
  { off := 0xF0, wo := 0x1 }]

/-- Registers of KNL. -/
def rowsKnl : List RegRow := [
  -- KNL.TBASE_LO (Table 1.6)
  { off := 0x10, ro := 0xFFFFFFFF },
  -- KNL.TBASE_HI (Table 1.6)
  { off := 0x14, ro := 0xFFFFFFFF },
  -- KNL.TBASE_STAT (Table 1.6)
  { off := 0x18, ro := 0x1, w1c := 0x6 },
  -- KNL.VCORE (Table 19.9)
  { off := 0x40, ro := 0xFE000000, ws := 0x7F7F00, reset := fun _ _ _ => 0x1E1E00 },
  -- KNL.TEMP (Table 19.9)
  { off := 0x44, ro := 0xFFFF },
  -- KNL.COMMIT
  { off := 0xF0, wo := 0x1 }]

/-- Registers of CH. -/
def rowsCh : List RegRow := [
  -- CH.CTRL (Table 4.2)
  { off := 0x0, ro := 0x1, ws := 0x6, reset := fun _ _ _ => 0x7 },
  -- CH.STAT (Table 4.2)
  { off := 0x4, ro := 0xE0FFFFFF },
  -- CH.AFE_A (Table 4.2)
  { off := 0x10, ws := 0x8FF00000, reset := fun _ _ _ => 0x4800000 },
  -- CH.AFE_B (Table 4.2)
  { off := 0x14, ws := 0x8FF00000, reset := fun _ _ _ => 0x4800000 },
  -- CH.LCTL (Table 4.5)
  { off := 0x40, n1 := 8, s1 := 0x4, rw := 0xC0000000, ws := 0xFFFFFFF, reset := fun _ i _ => 0x40000000 + (([8, 8, 9, 9, 11, 11, 12, 14].getD i 0) <<< 24) + (([4, 4, 5, 5, 0, 0, 0, 7].getD i 0) <<< 20) + (([12, 12, 12, 12, 14, 14, 15, 0].getD i 0) <<< 16) + ([100, 100, 32, 32, 64, 64, 64, 2000].getD i 0) },
  -- CH.LVAL (Table 4.5)
  { off := 0x60, n1 := 8, s1 := 0x4, ro := 0xFFFFFFFF },
  -- CH.GUARD (Table 4.6)
  { off := 0x28, ws := 0xFFFFFF00, reset := fun _ _ _ => 0x60320C00 },
  -- CH.SYNC (Table 4.7)
  { off := 0x20, ws := 0xFFFFF0FF, reset := fun _ _ _ => 0x18333018 },
  -- CH.TA (Table 4.8)
  { off := 0x24, ws := 0xFFFFFF00, reset := fun _ _ _ => 0x18084000 },
  -- CH.PLIN (Table 6.2)
  { off := 0x5000, n1 := 8, s1 := 0x4, ws := 0xFFFFFFFF, reset := fun _ i _ => (((0xF900 + 0x200 * i) % 0x10000) <<< 16) + (0xF800 + 0x200 * i) % 0x10000 },
  -- CH.PLIN8 (Table 6.2)
  { off := 0x5020, ws := 0xFFFF, reset := fun _ _ _ => 0x800 },
  -- CH.SVO (Table 6.2)
  { off := 0x5040, ws := 0xFFFF, reset := fun _ _ _ => 0x400 },
  -- CH.FIR_A current taps
  { off := 0x100, n1 := 16, s1 := 0x4, ro := 0xFFFFFFFF },
  -- CH.FIR_B current taps
  { off := 0x140, n1 := 16, s1 := 0x4, ro := 0xFFFFFFFF },
  -- CH.image and live seed records (R92, Table 4.3)
  { off := 0x1000, n1 := 128, s1 := 0x80, n2 := 5, rw := 0xFFFFFFFF },
  { off := 0x1014, n1 := 128, s1 := 0x80, rw := 0xFFFF },
  { off := 0x1020, n1 := 128, s1 := 0x80, n2 := 16, rw := 0xFFFFFFFF },
  -- CH.COMMIT
  { off := 0xF0, wo := 0x1 }]

/-- Registers of DEC. -/
def rowsDec : List RegRow := [
  -- DEC.CTRL (Table 4.11)
  { off := 0x0, ws := 0xFFFFFF80, reset := fun _ _ _ => 0x50AA2000 },
  -- DEC.RETRY (Table 4.11)
  { off := 0x4, ws := 0xFFFFFF00, reset := fun _ _ _ => 0x10FF4300 },
  -- DEC.STAT (Table 4.11)
  { off := 0x10, ro := 0xFFFF3F },
  -- DEC.INJECT (Table 4.16)
  { off := 0x20, rw := 0xFF00FFFF },
  -- DEC.COMMIT
  { off := 0xF0, wo := 0x1 }]

/-- Registers of WRP. On the EO7230 the fields of INJECT registers and of DMA.C_CFG that hold a head, loop, lane or sequencer number keep their access code. (DESIGN CHOICE,
log entry 74) -/
def rowsWrp : List RegRow := [
  -- WRP.CTRL (Table 5.9)
  { off := 0x0, ws := 0x7, reset := fun _ _ _ => 0x7 },
  -- WRP.STAT (Table 5.9)
  { off := 0x4, ro := 0xFFFFFF },
  -- WRP.ALINK (Table 5.9)
  { off := 0x10, ws := 0xFFFFF000, reset := fun _ _ _ => 0x14053000 },
  -- WRP.WINH (Table 5.9)
  { off := 0x20, ws := 0xFFFFFFF0, reset := fun _ _ _ => 0x26619A20 },
  -- WRP.SHOCK (Table 5.9)
  { off := 0x24, ws := 0xFFFFFFF3, reset := fun _ _ _ => 0x8000C83 },
  -- WRP.RETRY (Table 5.9)
  { off := 0x28, ws := 0xFF000000, reset := fun _ _ _ => 0x8000000 },
  -- WRP.HEAT (Table 5.9)
  { off := 0x2C, ws := 0xFFFF, reset := fun _ _ _ => 0xC8 },
  -- WRP.PREID (Table 5.9)
  { off := 0x40, n1 := 2, s1 := 0x4, ro := 0x800FFFFF, gone := fun v i => (if v ∧ i = 1 then 0xFFFFFFFF else 0) },
  -- WRP.INJECT (Table 5.9)
  { off := 0x60, rw := 0x81F0FFFF },
  -- WRP.write records (R139, Table 5.5)
  { off := 0x1000, n1 := 1280, s1 := 0x20, rw := 0xFFFFFFFF, gone := fun v i => (if v ∧ 640 ≤ i then 0xFFFFFFFF else 0) },
  { off := 0x1004, n1 := 1280, s1 := 0x20, rw := 0xFFFF00FF, gone := fun v i => (if v ∧ 640 ≤ i then 0xFFFFFFFF else 0) },
  { off := 0x1008, n1 := 1280, s1 := 0x20, n2 := 2, rw := 0xFFFFFFFF, gone := fun v i => (if v ∧ 640 ≤ i then 0xFFFFFFFF else 0) },
  -- WRP.COMMIT
  { off := 0xF0, wo := 0x1 }]

/-- Registers of SRV. -/
def rowsSrv : List RegRow := [
  -- SRV.CTRL (Table 6.14)
  { off := 0x0, ws := 0xFF01, reset := fun _ _ _ => 0x6401 },
  -- SRV.STAT (Table 6.14)
  { off := 0x4, ro := 0xF0, w1c := 0x100, reset := fun _ _ _ => 0xF0 },
  -- SRV.LATMAX (Table 6.14)
  { off := 0x8, ro := 0xFFFF },
  -- SRV.LFAULT (Table 6.14)
  { off := 0xC, w1c := 0x3FFFFF },
  -- SRV.CONTRIB (Table 6.14)
  { off := 0x10, n1 := 2, s1 := 0x4, ws := 0x3FF, reset := fun _ _ _ => 0x3FF, gone := fun v i => (if v ∧ i = 1 then 0xFFFFFFFF else 0) },
  -- SRV.RVTHR (Table 6.14)
  { off := 0x20, ws := 0xFFFF, reset := fun _ _ _ => 0x6464, gone := fun v _ => (if v then 0xFF00 else 0) },
  -- SRV.ACCEL (Table 6.14)
  { off := 0x24, ws := 0xFFF0FF00, reset := fun _ _ _ => 0x6430E800 },
  -- SRV.INJECT (Table 6.14)
  { off := 0x30, rw := 0xF31FFFFF },
  -- SRV.LSTAT (Table 6.15)
  { off := 0x400, n1 := 22, s1 := 0x80, ro := 0xFFF00FE0, gone := fun v i => (if (v ∧ (i = 1 ∨ 12 ≤ i)) then 0xFFFFFFFF else 0) },
  -- SRV.LBANK (Table 6.15)
  { off := 0x404, n1 := 22, s1 := 0x80, ws := 0x3, gone := fun v i => (if (v ∧ (i = 1 ∨ 12 ≤ i)) then 0xFFFFFFFF else 0) },
  -- SRV.LWIN (Table 6.15)
  { off := 0x408, n1 := 22, s1 := 0x80, ws := 0xFFFFFF00, reset := fun _ _ _ => 0xCD41000, gone := fun v i => (if (v ∧ (i = 1 ∨ 12 ≤ i)) then 0xFFFFFFFF else 0) },
  -- SRV.LRAMP (Table 6.15)
  { off := 0x40C, n1 := 22, s1 := 0x80, ws := 0xFFFFFFFF, reset := fun _ _ _ => 0x1004020, gone := fun v i => (if (v ∧ (i = 1 ∨ 12 ≤ i)) then 0xFFFFFFFF else 0) },
  -- SRV.LPROF (Table 6.15)
  { off := 0x410, n1 := 22, s1 := 0x80, ws := 0xFFFFFFFF, reset := fun _ _ _ => 0x4000400, gone := fun v i => (if (v ∧ (i = 1 ∨ 12 ≤ i)) ∨ 2 ≤ i then 0xFFFFFFFF else 0) },
  -- SRV.LFETCH (Table 6.15)
  { off := 0x414, n1 := 22, s1 := 0x80, ws := 0xFFFFFFFF, reset := fun _ _ _ => 0x20004010, gone := fun v i => (if (v ∧ (i = 1 ∨ 12 ≤ i)) ∨ 2 ≤ i then 0xFFFFFFFF else 0) },
  -- SRV.LPARK (Table 6.15)
  { off := 0x418, n1 := 22, s1 := 0x80, ws := 0xFFFFFFFF, reset := fun _ _ _ => 0xA323264, gone := fun v i => (if (v ∧ (i = 1 ∨ 12 ≤ i)) ∨ 2 ≤ i then 0xFFFFFFFF else 0) },
  -- SRV.LVEL (Table 6.15)
  { off := 0x41C, n1 := 22, s1 := 0x80, ws := 0xFFFFFFFF, reset := fun _ _ _ => 0x200FE00, gone := fun v i => (if (v ∧ (i = 1 ∨ 12 ≤ i)) ∨ 2 ≤ i then 0xFFFFFFFF else 0) },
  -- SRV.LHEAD (Table 6.15)
  { off := 0x420, n1 := 22, s1 := 0x80, ws := 0xFFFFFFFF, reset := fun _ _ _ => 0x5140096, gone := fun v i => (if (v ∧ (i = 1 ∨ 12 ≤ i)) ∨ i < 2 then 0xFFFFFFFF else 0) },
  -- SRV.LERR (Table 6.15)
  { off := 0x424, n1 := 22, s1 := 0x80, ro := 0xFFFFFFFF, gone := fun v i => (if (v ∧ (i = 1 ∨ 12 ≤ i)) then 0xFFFFFFFF else 0) },
  -- SRV.XH (Table 6.15)
  { off := 0x440, n1 := 22, s1 := 0x80, n2 := 8, s2 := 0x4, ro := 0xFFFFFFFF, gone := fun v i => (if (v ∧ (i = 1 ∨ 12 ≤ i)) then 0xFFFFFFFF else 0) },
  -- SRV.INT (Table 6.15)
  { off := 0x460, n1 := 22, s1 := 0x80, ro := 0xFFFFFFFF, gone := fun v i => (if (v ∧ (i = 1 ∨ 12 ≤ i)) then 0xFFFFFFFF else 0) },
  -- SRV.UOUT (Table 6.15)
  { off := 0x464, n1 := 22, s1 := 0x80, ro := 0xFFFFFFFF, gone := fun v i => (if (v ∧ (i = 1 ∨ 12 ≤ i)) then 0xFFFFFFFF else 0) },
  -- SRV.Z0 (Table 6.15)
  { off := 0x468, n1 := 22, s1 := 0x80, ro := 0xFFFFFFFF, gone := fun v i => (if (v ∧ (i = 1 ∨ 12 ≤ i)) then 0xFFFFFFFF else 0) },
  -- SRV.Z1 (Table 6.15)
  { off := 0x46C, n1 := 22, s1 := 0x80, ro := 0xFFFFFFFF, gone := fun v i => (if (v ∧ (i = 1 ∨ 12 ≤ i)) then 0xFFFFFFFF else 0) },
  -- SRV.coefficients, HEEL bank A (Table 6.3)
  { off := 0x10000, n1 := 22, s1 := 0x2000, n2 := 119, rw := 0xFFFFFFFF, gone := fun v i => (if v ∧ (i = 1 ∨ 12 ≤ i) then 0xFFFFFFFF else 0) },
  -- SRV.DCINV, HEEL bank A
  { off := 0x101DC, n1 := 22, s1 := 0x2000, ro := 0xFFFFFFFF, gone := fun v i => (if v ∧ (i = 1 ∨ 12 ≤ i) then 0xFFFFFFFF else 0) },
  -- SRV.biquads, HEEL bank A
  { off := 0x101E0, n1 := 22, s1 := 0x2000, n2 := 30, rw := 0xFFFFFFFF, gone := fun v i => (if v ∧ (i = 1 ∨ 12 ≤ i) then 0xFFFFFFFF else 0) },
  -- SRV.coefficients, HEEL bank B (Table 6.3)
  { off := 0x10400, n1 := 22, s1 := 0x2000, n2 := 119, rw := 0xFFFFFFFF, gone := fun v i => (if v ∧ (i = 1 ∨ 12 ≤ i) then 0xFFFFFFFF else 0) },
  -- SRV.DCINV, HEEL bank B
  { off := 0x105DC, n1 := 22, s1 := 0x2000, ro := 0xFFFFFFFF, gone := fun v i => (if v ∧ (i = 1 ∨ 12 ≤ i) then 0xFFFFFFFF else 0) },
  -- SRV.biquads, HEEL bank B
  { off := 0x105E0, n1 := 22, s1 := 0x2000, n2 := 30, rw := 0xFFFFFFFF, gone := fun v i => (if v ∧ (i = 1 ∨ 12 ≤ i) then 0xFFFFFFFF else 0) },
  -- SRV.coefficients, FETCH bank A (Table 6.3)
  { off := 0x10800, n1 := 22, s1 := 0x2000, n2 := 119, rw := 0xFFFFFFFF, gone := fun v i => (if v ∧ (i = 1 ∨ 12 ≤ i) then 0xFFFFFFFF else 0) },
  -- SRV.DCINV, FETCH bank A
  { off := 0x109DC, n1 := 22, s1 := 0x2000, ro := 0xFFFFFFFF, gone := fun v i => (if v ∧ (i = 1 ∨ 12 ≤ i) then 0xFFFFFFFF else 0) },
  -- SRV.biquads, FETCH bank A
  { off := 0x109E0, n1 := 22, s1 := 0x2000, n2 := 30, rw := 0xFFFFFFFF, gone := fun v i => (if v ∧ (i = 1 ∨ 12 ≤ i) then 0xFFFFFFFF else 0) },
  -- SRV.coefficients, FETCH bank B (Table 6.3)
  { off := 0x10C00, n1 := 22, s1 := 0x2000, n2 := 119, rw := 0xFFFFFFFF, gone := fun v i => (if v ∧ (i = 1 ∨ 12 ≤ i) then 0xFFFFFFFF else 0) },
  -- SRV.DCINV, FETCH bank B
  { off := 0x10DDC, n1 := 22, s1 := 0x2000, ro := 0xFFFFFFFF, gone := fun v i => (if v ∧ (i = 1 ∨ 12 ≤ i) then 0xFFFFFFFF else 0) },
  -- SRV.biquads, FETCH bank B
  { off := 0x10DE0, n1 := 22, s1 := 0x2000, n2 := 30, rw := 0xFFFFFFFF, gone := fun v i => (if v ∧ (i = 1 ∨ 12 ≤ i) then 0xFFFFFFFF else 0) },
  -- SRV.coefficients, RAMP set (Table 6.3)
  { off := 0x11000, n1 := 2, s1 := 0x2000, n2 := 119, rw := 0xFFFFFFFF, gone := fun v i => (if v ∧ (i = 1 ∨ 12 ≤ i) then 0xFFFFFFFF else 0) },
  -- SRV.DCINV, RAMP set
  { off := 0x111DC, n1 := 2, s1 := 0x2000, ro := 0xFFFFFFFF, gone := fun v i => (if v ∧ (i = 1 ∨ 12 ≤ i) then 0xFFFFFFFF else 0) },
  -- SRV.biquads, RAMP set
  { off := 0x111E0, n1 := 2, s1 := 0x2000, n2 := 30, rw := 0xFFFFFFFF, gone := fun v i => (if v ∧ (i = 1 ∨ 12 ≤ i) then 0xFFFFFFFF else 0) },
  -- SRV.COMMIT
  { off := 0xF0, wo := 0x1 }]

/-- Registers of SPN. -/
def rowsSpn : List RegRow := [
  -- SPN.CTRL (Table 7.8)
  { off := 0x0, ws := 0x3, reset := fun _ _ _ => 0x2 },
  -- SPN.STAT (Table 7.8)
  { off := 0x4, ro := 0xFFC00000 },
  -- SPN.SPEED (Table 7.8)
  { off := 0x8, ro := 0xFFFFFFFF },
  -- SPN.VBUS (Table 7.8)
  { off := 0xC, ro := 0x3FF03FF },
  -- SPN.MOTOR (Table 7.8)
  { off := 0x10, ws := 0xFF00FFFF, reset := fun _ _ _ => 0x41000000 },
  -- SPN.PWM (Table 7.8)
  { off := 0x14, ws := 0xFFFF0000, reset := fun _ _ _ => 0x280A0000 },
  -- SPN.CURR (Table 7.8)
  { off := 0x18, ws := 0xFFFFFFFF, reset := fun _ _ _ => 0x70809C4 },
  -- SPN.ALIGN (Table 7.8)
  { off := 0x1C, ws := 0xFFFFFFFF, reset := fun _ _ _ => 0x3E86415 },
  -- SPN.RAMP (Table 7.8)
  { off := 0x20, ws := 0xFFFFFFFF, reset := fun _ _ _ => 0x1900190 },
  -- SPN.LOCK (Table 7.8)
  { off := 0x24, ws := 0xFFFFFFFF, reset := fun _ _ _ => 0x514083C },
  -- SPN.ONOFF (Table 7.8)
  { off := 0x28, ws := 0xFFFF0000, reset := fun _ _ _ => 0x10080000 },
  -- SPN.RSV (Table 7.8)
  { off := 0x2C, ws := 0xFFFFFFFF, reset := fun _ _ _ => 0x195F080A },
  -- SPN.INJECT (Table 7.8)
  { off := 0x30, rw := 0xE00003FF },
  -- SPN.DEMAND (Table 7.8)
  { off := 0x34, rw := 0xFF },
  -- SPN.KE (Table 7.8)
  { off := 0x38, ws := 0xFFFF, reset := fun _ _ _ => 0x640 },
  -- SPN.SPC (Table 7.8)
  { off := 0x40, n1 := 16, s1 := 0x4, ws := 0xFF00FFFF, reset := fun _ i _ => 0x1C20 + ((0x0F + 0x10 * i) <<< 24) },
  -- SPN.ADV (Table 7.8)
  { off := 0x80, n1 := 16, s1 := 0x4, ws := 0xFFFFFFFF, reset := fun _ i _ => ((0x271 * i) <<< 16) },
  -- SPN.VTHR1 (Table 7.8)
  { off := 0xC0, ws := 0x3FF03FF, reset := fun _ _ _ => 0x2940280 },
  -- SPN.VTHR2 (Table 7.8)
  { off := 0xC4, ws := 0x3FF03FF, reset := fun _ _ _ => 0x2D5028A },
  -- SPN.VTHR3 (Table 7.8)
  { off := 0xC8, ws := 0x3FF03FF, reset := fun _ _ _ => 0x1FE01F4 },
  -- SPN.CHOP (Table 7.8)
  { off := 0xCC, ws := 0xFFFFFFFF, reset := fun _ _ _ => 0x13880190 },
  -- SPN.HOLD (Table 7.8)
  { off := 0xD0, ws := 0xFFFFFFFF, reset := fun _ _ _ => 0x3E80A0F },
  -- SPN.KSPD_KP (Table 7.8)
  { off := 0x100, ws := 0xFFFFFFFF, reset := fun _ _ _ => 0x800000 },
  -- SPN.KSPD_KI (Table 7.8)
  { off := 0x104, ws := 0xFFFFFFFF, reset := fun _ _ _ => 0x10000 },
  -- SPN.KCUR_KP (Table 7.8)
  { off := 0x108, ws := 0xFFFFFFFF, reset := fun _ _ _ => 0x4000000 },
  -- SPN.KCUR_KI (Table 7.8)
  { off := 0x10C, ws := 0xFFFFFFFF, reset := fun _ _ _ => 0x400000 },
  -- SPN.KBUS_KP (Table 7.8)
  { off := 0x110, ws := 0xFFFFFFFF, reset := fun _ _ _ => 0x2000000 },
  -- SPN.KBUS_KI (Table 7.8)
  { off := 0x114, ws := 0xFFFFFFFF, reset := fun _ _ _ => 0x200000 },
  -- SPN.COMMIT
  { off := 0xF0, wo := 0x1 }]

/-- Registers of ACT. -/
def rowsAct : List RegRow := [
  -- ACT.CTRL (Table 6.16)
  { off := 0x0, ws := 0xFFF0, reset := fun _ _ _ => 0x2830 },
  -- ACT.STAT (Table 6.16)
  { off := 0x4, ro := 0x3E },
  -- ACT.PSID (Table 6.16)
  { off := 0x10, n1 := 2, s1 := 0x4, ro := 0x8000FFFF, gone := fun v i => (if v ∧ i = 1 then 0xFFFFFFFF else 0) },
  -- ACT.INJECT (Table 6.16)
  { off := 0x20, rw := 0x811F0000 },
  -- ACT.COMMIT
  { off := 0xF0, wo := 0x1 }]

/-- Registers of BUF. -/
def rowsBuf : List RegRow := [
  -- BUF.INJECT (Table 8.7)
  { off := 0x30, rw := 0xFFFEFFFF },
  -- BUF.CTRL (Table 8.8)
  { off := 0x0, ws := 0xFF, reset := fun _ _ _ => 0x10 },
  -- BUF.STAT (Table 8.8)
  { off := 0x4, ro := 0xE000007F },
  -- BUF.DEVSTATE (Table 8.8)
  { off := 0x8, ro := 0x3FFFF, w1c := 0xFC0000, reset := fun _ _ _ => 0x9249 },
  -- BUF.RSLV (Table 8.8)
  { off := 0xC, ro := 0x3FFFFF },
  -- BUF.PHY (Table 8.8)
  { off := 0x10, ws := 0xE0FFF000, reset := fun _ _ _ => 0xA0643000 },
  -- BUF.LINK (Table 8.8)
  { off := 0x14, ws := 0xFFFF0000, reset := fun _ _ _ => 0x100000 },
  -- BUF.FILL (Table 8.8)
  { off := 0x18, ws := 0xFFFF0000, reset := fun _ _ _ => 0x3E80000 },
  -- BUF.VCLR_FIRST (Table 8.8)
  { off := 0x20, rw := 0x3FFFFF },
  -- BUF.VCLR_CNT (Table 8.8)
  { off := 0x24, wo := 0x3FFFFF },
  -- BUF.SHARE (Table 8.8)
  { off := 0x40, n1 := 9, s1 := 0x4, ws := 0x7FF, reset := fun _ i _ => ([77, 77, 160, 160, 192, 192, 60, 90, 16].getD i 0) },
  -- BUF.TBUF (Table 8.8)
  { off := 0x80, n1 := 2, s1 := 0x4, rw := 0xF03FFFFF, gone := fun v i => (if v ∧ i = 1 then 0xFFFFFFFF else 0) },
  -- BUF.TBCLR (Table 8.8)
  { off := 0x88, n1 := 2, s1 := 0x4, wo := 0xFFF0FFF, gone := fun v i => (if v ∧ i = 1 then 0xFFFFFFFF else 0) },
  -- BUF.TBSTAT (Table 8.8)
  { off := 0x90, n1 := 2, s1 := 0x4, ro := 0x1FFF, gone := fun v i => (if v ∧ i = 1 then 0xFFFFFFFF else 0) },
  -- BUF.COMMIT
  { off := 0xF0, wo := 0x1 }]

/-- Registers of MDC. -/
def rowsMdc : List RegRow := [
  -- MDC.CTRL (Table 9.4)
  { off := 0x0, ws := 0x1, reset := fun _ _ _ => 0x1 },
  -- MDC.STAT (Table 9.4)
  { off := 0x4, ro := 0xC003FFFF, w1c := 0x20000000 },
  -- MDC.DIRTY (Table 9.4)
  { off := 0x8, ro := 0x3FFFF },
  -- MDC.WAYS (Table 9.4)
  { off := 0x10, ws := 0xFFF0FFF, reset := fun _ _ _ => 0xFFF0000 },
  -- MDC.REPL (Table 9.4)
  { off := 0x14, ws := 0x3, reset := fun _ _ _ => 0x1 },
  -- MDC.MOP_ADDR (Table 9.4)
  { off := 0x20, rw := 0x7FFFFFF },
  -- MDC.MOP_CNT (Table 9.4)
  { off := 0x24, rw := 0x7FFFFFF, reset := fun _ _ _ => 0x1 },
  -- MDC.MOP_CTRL (Table 9.4)
  { off := 0x28, wo := 0xF },
  -- MDC.MOP_STAT (Table 9.4)
  { off := 0x2C, ro := 0xB0000000, w1c := 0x40000000 },
  -- MDC.MOP_SKIP (Table 9.4)
  { off := 0x30, ro := 0xFFFFFFFF },
  -- MDC.MOP_DROP (Table 9.4)
  { off := 0x34, ro := 0xFFFFFFFF },
  -- MDC.MOP_WB (Table 9.4)
  { off := 0x38, ro := 0xFFFFFFFF },
  -- MDC.INJECT (Table 9.4)
  { off := 0x60, rw := 0xE003FFFF },
  -- MDC.COMMIT
  { off := 0xF0, wo := 0x1 }]

/-- Registers of SCB. -/
def rowsScb : List RegRow := [
  -- SCB.CTRL (Table 8.9)
  { off := 0x0, ws := 0x1, reset := fun _ _ _ => 0x1 },
  -- SCB.PACE (Table 8.9)
  { off := 0x4, ws := 0xFFFF, reset := fun _ _ _ => 0x18 },
  -- SCB.POS (Table 8.9)
  { off := 0x8, ro := 0x803FFFFF },
  -- SCB.PASSES (Table 8.9)
  { off := 0xC, ro := 0xFFFFFFFF },
  -- SCB.COMMIT
  { off := 0xF0, wo := 0x1 }]

/-- Registers of DMA. -/
def rowsDma : List RegRow := [
  -- the descriptor store (Table 10.6)
  { off := 0x200000, n1 := 524288, s1 := 0x4, ro := 0xFFFFFFFF },
  -- DMA.STAGE (Table 10.6)
  { off := 0x4, ws := 0x3FFF3FFF, reset := fun _ _ _ => 0x10001000 },
  -- DMA.STAT (Table 10.6)
  { off := 0x8, ro := 0x3FFF3FFF },
  -- DMA.HALT_LO (Table 10.6)
  { off := 0x10, ro := 0xFFFFFFFF },
  -- DMA.HALT_HI (Table 10.6)
  { off := 0x14, ro := 0xFFFFFFFF },
  -- DMA.DIAG (Table 10.6)
  { off := 0x20, ro := 0x80000000 },
  -- DMA.DIAG_LO (Table 10.6)
  { off := 0x24, ws := 0x3FFFFF },
  -- DMA.DIAG_HI (Table 10.6)
  { off := 0x28, ws := 0x3FFFFF, reset := fun _ _ _ => 0x1 },
  -- DMA.INJECT (Table 10.6)
  { off := 0x60, rw := 0xE03F01FF },
  -- DMA.C_CFG (Table 10.7)
  { off := 0x1000, n1 := 64, s1 := 0x20, ws := 0xF8FF0FFF, reset := fun v i _ => 0x40000 + ((if 56 ≤ i ∨ (v ∧ 40 ≤ i ∧ i ≤ 47) then 0 else 1) <<< 31) + ((if 32 ≤ i ∧ i ≤ 47 then 0 else i % 2) <<< 30) + ((if i < 32 then i / 8 else if i < 40 then 4 else if i < 48 then 5 else if i < 52 then 6 else if i < 56 then 7 else 0) <<< 27) + ((if 56 ≤ i then 8 else 10) <<< 20) + (if 56 ≤ i then 0 else 0x40 * i), gone := fun _ i => (if 56 ≤ i then 0x38000FFF else 0x0) },
  -- DMA.C_STAT (Table 10.7)
  { off := 0x1004, n1 := 64, s1 := 0x20, ro := 0xC0FFFFFF },
  -- DMA.C_TAIL (Table 10.7)
  { off := 0x1008, n1 := 64, s1 := 0x20, ro := 0xFFFF },
  -- DMA.C_CTRL (Table 10.7)
  { off := 0x100C, n1 := 64, s1 := 0x20, wo := 0x7, gone := fun _ i => (if 56 ≤ i then 0 else 0x1) },
  -- DMA.C_RBASE_LO (Table 10.7)
  { off := 0x1010, n1 := 64, s1 := 0x20, rw := 0xFFFFFFFF, gone := fun _ i => (if 56 ≤ i then 0 else 0xFFFFFFFF) },
  -- DMA.C_RBASE_HI (Table 10.7)
  { off := 0x1014, n1 := 64, s1 := 0x20, rw := 0xFFFFFFFF, gone := fun _ i => (if 56 ≤ i then 0 else 0xFFFFFFFF) },
  -- DMA.COMMIT
  { off := 0xF0, wo := 0x1 }]

/-- Registers of HST. -/
def rowsHst : List RegRow := [
  -- HST.CTRL (Table 11.10)
  { off := 0x0, ws := 0x3 },
  -- HST.IDS (Table 11.10)
  { off := 0x4, ws := 0xFFFFFFFF },
  -- HST.LINK (Table 11.10)
  { off := 0x8, ws := 0xFFF00000, reset := fun _ _ _ => 0x64600000 },
  -- HST.PSTAT (Table 11.10)
  { off := 0x10, n1 := 2, s1 := 0x4, ro := 0xFF80FFFF },
  -- HST.MI (Table 11.10)
  { off := 0x20, ws := 0x7F800000, reset := fun _ _ _ => 0x1D800000 },
  -- HST.MIBUF
  { off := 0x8000, n1 := 1056, s1 := 0x4, rw := 0xFFFFFFFF },
  -- HST.COMMIT
  { off := 0xF0, wo := 0x1 }]

/-- Registers of ZNE. -/
def rowsZne : List RegRow := [
  -- ZNE.STAT (Table 12.14)
  { off := 0x4, ro := 0xC0003FFF },
  -- ZNE.CTX_BASE (Table 12.14)
  { off := 0x8, ws := 0x3FFFFF },
  -- ZNE.GEN (Table 12.14)
  { off := 0xC, ro := 0x3FFFFFFF },
  -- ZNE.LIMIT (Table 12.14)
  { off := 0x10, ws := 0x1FFF, reset := fun _ _ _ => 0x1000 },
  -- ZNE.SCAN (Table 12.14)
  { off := 0x14, ws := 0xFF, reset := fun _ _ _ => 0x10 },
  -- ZNE.INJECT (Table 12.14)
  { off := 0x60, rw := 0xE00001FF },
  -- ZNE.COMMIT
  { off := 0xF0, wo := 0x1 }]

/-- Registers of RNG. -/
def rowsRng : List RegRow := [
  -- RNG.CTRL (Table 13.13)
  { off := 0x0, ws := 0xB, reset := fun _ _ _ => 0x3 },
  -- RNG.STAT (Table 13.13)
  { off := 0x4, ro := 0xF0FFFFFF },
  -- RNG.MEMBERS (Table 13.13)
  { off := 0x8, ro := 0x1FF },
  -- RNG.PSTAT (Table 13.13)
  { off := 0x10, n1 := 2, s1 := 0x4, ro := 0xE0FFFFFF },
  -- RNG.LINK (Table 13.13)
  { off := 0x20, ws := 0xFFF0FFFF, reset := fun _ _ _ => 0x80A003E8 },
  -- RNG.ENUM (Table 13.13)
  { off := 0x24, ws := 0xFFFF, reset := fun _ _ _ => 0xC8 },
  -- RNG.HCRED (Table 13.13)
  { off := 0x28, ws := 0xFFFFFFFF, reset := fun _ _ _ => 0x20A0300F },
  -- RNG.JOB (Table 13.13)
  { off := 0x2C, ws := 0xFFFFFFFF, reset := fun _ _ _ => 0x40104032 },
  -- RNG.JAREA (Table 13.13)
  { off := 0x30, ws := 0x3FFFFF },
  -- RNG.NSEXP_LO (Table 13.13)
  { off := 0x34, rw := 0xFFFFFFFF },
  -- RNG.NSEXP_HI (Table 13.13)
  { off := 0x38, rw := 0xFFFFFFFF },
  -- RNG.WHISTLE (Table 13.13)
  { off := 0x3C, ws := 0xFF00, wo := 0x3, reset := fun _ _ _ => 0x500 },
  -- RNG.INJECT (Table 13.13)
  { off := 0x60, rw := 0xF0000000 },
  -- RNG.COMMIT
  { off := 0xF0, wo := 0x1 }]

/-- Registers of ECE. -/
def rowsEce : List RegRow := [
  -- ECE.STAT (Table 13.14)
  { off := 0x4, ro := 0xFFFF },
  -- ECE.INJECT (Table 13.14)
  { off := 0x60, rw := 0x800000FF }]

/-- Registers of SEQ. -/
def rowsSeq : List RegRow := [
  -- the patch SRAM of each type (R437)
  { off := 0x10000, n1 := 4, s1 := 0x8000, n2 := 8192, s2 := 4, ro := 0xFFFFFFFF },
  -- SEQ.STAT (Table 14.10)
  { off := 0x4, ro := 0xC000FFFF, reset := fun v _ _ => (if v then 0xDF else 0xFF) },
  -- SEQ.ROMID (Table 14.10)
  { off := 0x10, n1 := 4, s1 := 0x4, ro := 0xFFFFFFFF },
  -- SEQ.PATCH (Table 14.10)
  { off := 0x20, n1 := 4, s1 := 0x4, ro := 0x803F0FFF },
  -- SEQ.INJECT (Table 14.10)
  { off := 0x60, rw := 0xE700FFFF },
  -- SEQ.MUTEX (Table 14.10)
  { off := 0x80, n1 := 8, s1 := 0x4, ro := 0x8F000000, wo := 0x3 },
  -- SEQ.SSTAT (Table 14.10)
  { off := 0x400, n1 := 8, s1 := 0x40, ro := 0xC03FFFFF, gone := fun v i => (if v ∧ i = 5 then 0xFFFFFFFF else 0) },
  -- SEQ.TSEL (Table 14.10)
  { off := 0x404, n1 := 8, s1 := 0x40, rw := 0x1F, gone := fun v i => (if v ∧ i = 5 then 0xFFFFFFFF else 0) },
  -- SEQ.TINFO (Table 14.10)
  { off := 0x408, n1 := 8, s1 := 0x40, ro := 0xFFC0FFFF, gone := fun v i => (if v ∧ i = 5 then 0xFFFFFFFF else 0) },
  -- SEQ.TWAIT (Table 14.10)
  { off := 0x40C, n1 := 8, s1 := 0x40, ro := 0xFFFFFFFF, gone := fun v i => (if v ∧ i = 5 then 0xFFFFFFFF else 0) },
  -- SEQ.TCTX (Table 14.10)
  { off := 0x410, n1 := 8, s1 := 0x40, ro := 0xFFFF, reset := fun _ _ _ => 0xFFFF, gone := fun v i => (if v ∧ i = 5 then 0xFFFFFFFF else 0) },
  -- SEQ.FLAGS (Table 14.10)
  { off := 0x414, n1 := 8, s1 := 0x40, ro := 0xFFFF, gone := fun v i => (if v ∧ i = 5 then 0xFFFFFFFF else 0) },
  -- SEQ.FLAGSET (Table 14.10)
  { off := 0x418, n1 := 8, s1 := 0x40, wo := 0xFFFF, gone := fun v i => (if v ∧ i = 5 then 0xFFFFFFFF else 0) },
  -- SEQ.FLAGCLR (Table 14.10)
  { off := 0x41C, n1 := 8, s1 := 0x40, wo := 0xFFFF, gone := fun v i => (if v ∧ i = 5 then 0xFFFFFFFF else 0) },
  -- SEQ.MATCH (Table 14.10)
  { off := 0x1000, n1 := 4, s1 := 0x80, n2 := 32, s2 := 0x4, ro := 0x83FFFFFF },
  -- SEQ.COMMIT
  { off := 0xF0, wo := 0x1 }]

/-- Registers of FLC. -/
def rowsFlc : List RegRow := [
  -- FLC.CTRL (Table 15.6)
  { off := 0x0, ws := 0x1FFFF, reset := fun _ _ _ => 0x100C8 },
  -- FLC.STAT (Table 15.6)
  { off := 0x4, ro := 0xFF800000 },
  -- FLC.EXEC (Table 15.6)
  { off := 0x8, wo := 0xC0000007 },
  -- FLC.XO (Table 15.6)
  { off := 0x40, n1 := 8, s1 := 0x4, ro := 0x83FF03FF },
  -- FLC.INJECT (Table 15.6)
  { off := 0x60, rw := 0xE00001FF },
  -- FLC.OP_ADDR (Table 15.6)
  { off := 0x100, n1 := 9, s1 := 0x40, rw := 0x1FFFFF },
  -- FLC.OP_CTRL (Table 15.6)
  { off := 0x104, n1 := 9, s1 := 0x40, wo := 0xF },
  -- FLC.OP_STAT (Table 15.6)
  { off := 0x108, n1 := 9, s1 := 0x40, ro := 0x8000FFFF, w1c := 0x40000000 },
  -- FLC.OP_DATA (Table 15.6)
  { off := 0x120, n1 := 9, s1 := 0x40, n2 := 8, s2 := 0x4, rw := 0xFFFFFFFF },
  -- FLC.COMMIT
  { off := 0xF0, wo := 0x1 }]

/-- Registers of LOG. -/
def rowsLog : List RegRow := [
  -- LOG.STAT (Table 18.6)
  { off := 0x4, ro := 0xF800FFFF },
  -- LOG.HEAD_LO (Table 18.6)
  { off := 0x8, ro := 0xFFFFFFFF },
  -- LOG.HEAD_HI (Table 18.6)
  { off := 0xC, ro := 0xFFFFFFFF },
  -- LOG.FLUSHED_LO (Table 18.6)
  { off := 0x10, ro := 0xFFFFFFFF },
  -- LOG.FLUSHED_HI (Table 18.6)
  { off := 0x14, ro := 0xFFFFFFFF },
  -- LOG.FLUSH (Table 18.6)
  { off := 0x20, ws := 0xFFFFF1FF, reset := fun _ _ _ => 0x10002100 },
  -- LOG.INJECT (Table 18.6)
  { off := 0x60, rw := 0xE00001FF },
  -- LOG.BUCKET (Table 18.6)
  { off := 0x4000, n1 := 4096, s1 := 0x4, ws := 0xC0FFFFFF, reset := fun _ _ _ => 0x100064 },
  -- LOG.BSTAT (Table 18.6)
  { off := 0x8000, n1 := 4096, s1 := 0x4, ro := 0xFFFF00FF, reset := fun _ _ _ => 0x10 },
  -- LOG.COMMIT
  { off := 0xF0, wo := 0x1 }]

/-- Registers of PWR. -/
def rowsPwr : List RegRow := [
  -- PWR.CTRL (Table 17.8)
  { off := 0x0, ws := 0x1F8, reset := fun _ _ _ => 0xC0 },
  -- PWR.STAT (Table 17.8)
  { off := 0x4, ro := 0xFFFFFFC0, reset := fun _ _ _ => 0xFF8000 },
  -- PWR.VOTE (Table 17.8)
  { off := 0x8, ro := 0xFF, reset := fun _ _ _ => 0xFF },
  -- PWR.LIMIT (Table 17.8)
  { off := 0xC, ws := 0xFFFF },
  -- PWR.GRANT (Table 17.8)
  { off := 0x10, ro := 0xFFFFFE00, reset := fun _ _ _ => 0x200600 },
  -- PWR.EST (Table 17.8)
  { off := 0x14, ro := 0xFFFFFFFF },
  -- PWR.HEADREQ (Table 17.8)
  { off := 0x18, wo := 0xC000001F },
  -- PWR.GRANTMAP (Table 17.8)
  { off := 0x1C, ro := 0xFFFFF },
  -- PWR.PADREL (Table 17.8)
  { off := 0x20, wo := 0x1FF },
  -- PWR.WAKE (Table 17.8)
  { off := 0x24, ro := 0xFF0000, ws := 0x1FF, reset := fun _ _ _ => 0xFF01FF },
  -- PWR.PF (Table 17.8)
  { off := 0x28, ws := 0xFFFF0000, reset := fun _ _ _ => 0x1000000 },
  -- PWR.SCAP (Table 17.8)
  { off := 0x40, n1 := 5, s1 := 0x4, ws := 0xFFFFFFFE, reset := fun v i _ => (([128, 128, 128, 0, 0].getD i 0) <<< 24) + ((if v ∧ i = 0 then 10 else ([20, 2, 0, 0, 0].getD i 0)) <<< 19) + ((if v ∧ i = 0 then 10 else ([20, 2, 0, 0, 0].getD i 0)) <<< 14) + (([1024, 256, 128, 64, 0].getD i 0) <<< 3) + (([3, 3, 3, 3, 0].getD i 0) <<< 1) },
  -- PWR.INJECT (Table 17.8)
  { off := 0x60, rw := 0xE000000F },
  -- PWR.SMP (Table 17.8)
  { off := 0x100, n1 := 5, s1 := 0x4, ws := 0xFFFF0000, reset := fun v i _ => ((if v ∧ i = 0 then 16500 else ([19000, 10000, 9000, 8000, 35].getD i 0)) <<< 16) },
  -- PWR.SLAT (Table 17.8)
  { off := 0x120, n1 := 5, s1 := 0x4, ws := 0xFFFFFFFF, reset := fun _ i _ => (([0, 1, 150, 30000, 30000].getD i 0) <<< 16) + ([0, 1, 400, 20000, 21000].getD i 0) },
  -- PWR.COST0 (Table 17.8)
  { off := 0x140, ws := 0xFFFFFFFF, reset := fun _ _ _ => 0x9C405DC },
  -- PWR.COST1 (Table 17.8)
  { off := 0x144, ws := 0xFFFFFFFF, reset := fun _ _ _ => 0x4B01964 },
  -- PWR.COST2 (Table 17.8)
  { off := 0x148, ws := 0xFFFFFFFF, reset := fun _ _ _ => 0xFA0096 },
  -- PWR.COST3 (Table 17.8)
  { off := 0x14C, ws := 0xFFFFFFFF, reset := fun _ _ _ => 0x3E8012C },
  -- PWR.COMMIT
  { off := 0xF0, wo := 0x1 }]

/-- Registers of SEC. -/
def rowsSec : List RegRow := [
  -- SEC.COMMIT
  { off := 0xF0, wo := 0x1 }]

/-- The register rows of a block class. -/
def rowsOfClass : Nat → List RegRow
  | 1 => rowsFab
  | 2 => rowsKnl
  | 3 => rowsCh
  | 4 => rowsDec
  | 5 => rowsWrp
  | 6 => rowsSrv
  | 7 => rowsSpn
  | 8 => rowsAct
  | 9 => rowsBuf
  | 10 => rowsMdc
  | 11 => rowsScb
  | 12 => rowsDma
  | 13 => rowsHst
  | 14 => rowsZne
  | 15 => rowsRng
  | 16 => rowsEce
  | 17 => rowsSeq
  | 18 => rowsFlc
  | 19 => rowsLog
  | 20 => rowsPwr
  | 21 => rowsSec
  | _ => []

end Sys2Proof.Machine
end

