-- ==== Sys2Proof/Machine/Blocks.lean ====
section
/-! DEFINITION. Machine/Blocks.lean: the blocks of Table 1.1: class, window, credit pools, memories, and the access code and reset value of
every control-space address. -/
namespace Sys2Proof.Machine

/-- Block class (R513). -/
def blkCls : Blk → Nat
  | .fab => 1 | .knl => 2 | .ch _ => 3 | .dec => 4 | .wrp => 5 | .srv => 6 | .spn => 7 | .act => 8 | .buf => 9 | .mdc => 10 | .scb => 11
  | .dma => 12 | .hst => 13 | .zne => 14 | .rng => 15 | .ece => 16 | .seq => 17 | .flc => 18 | .log => 19 | .pwr => 20 | .sec => 21

/-- Instance of a block within its class (the channel number, else 0). -/
def blkInst : Blk → Nat
  | .ch n => n.val
  | _ => 0

/-- A number that tells every two blocks apart. -/
def blkKey (b : Blk) : Nat := 32 * blkCls b + blkInst b

/-- Base address of a block's window (Table 1.1). -/
def blkBase : Blk → Nat
  | .fab => 0x00100000 | .knl => 0x00200000 | .ch n => 0x01000000 + 0x10000 * n.val | .dec => 0x02000000 | .wrp => 0x02100000
  | .srv => 0x03000000 | .spn => 0x03100000 | .act => 0x03200000 | .buf => 0x04000000 | .mdc => 0x04100000 | .scb => 0x04200000
  | .dma => 0x05000000 | .hst => 0x06000000 | .zne => 0x06100000 | .rng => 0x07000000 | .ece => 0x07100000 | .seq => 0x08000000
  | .flc => 0x09000000 | .log => 0x0A000000 | .pwr => 0x0B000000 | .sec => 0x0C000000

/-- Bytes of a block's window: 64 KiB unless its chapter states otherwise (R11, R152, R292, R437, R526). -/
def blkWindow : Blk → Nat
  | .srv => 0x40000 | .dma => 0x400000 | .seq => 0x40000 | .log => 0x200000
  | _ => 0x10000

/-- The blocks other than the channels. -/
def singleBlks : List Blk :=
  [.fab, .knl, .dec, .wrp, .srv, .spn, .act, .buf, .mdc, .scb, .dma, .hst, .zne, .rng, .ece, .seq, .flc, .log, .pwr, .sec]

/-- Every block, in ascending class order and in channel order within class 0x03 (R477). -/
def allBlks : List Blk :=
  [.fab, .knl] ++ (List.finRange 20).map .ch ++
    [.dec, .wrp, .srv, .spn, .act, .buf, .mdc, .scb, .dma, .hst, .zne, .rng, .ece, .seq, .flc, .log, .pwr, .sec]

/-- The block whose window holds an address, with the offset in the window (R11). -/
def locate (a : Nat) : Option (Blk × Nat) :=
  if h : 0x01000000 ≤ a ∧ a < 0x01140000 then
    some (.ch ⟨(a - 0x01000000) / 0x10000, by omega⟩, a % 0x10000)
  else (singleBlks.find? fun b => decide (blkBase b ≤ a ∧ a < blkBase b + blkWindow b)).map fun b => (b, a - blkBase b)

/-- A block that is absent on the EO7230 (R3). -/
def blkAbsent (v : Bool) : Blk → Bool
  | .ch n => v && decide (10 ≤ n.val)
  | _ => false

/-- One credit pool of a fabric page (Table 2.2): class, capacity, producer class, default credits (Table 1.2). -/
structure PoolCfg where
  cls : Cls
  cap : Nat
  src : Nat
  dflt : Nat
deriving DecidableEq, Repr

/-- CLASS code of Table 2.2. -/
def clsCode : Cls → Nat
  | .cmd => 0 | .data => 1 | .rsp => 2 | .mgt => 3

/-- The MGT pool from FAB that every block has. (DESIGN CHOICE, log entry 12) -/
def fabPool : PoolCfg := ⟨.mgt, 4, 1, 4⟩

/-- The pools of each block's fabric page, in order of j (R551, R114, R150, R185, R251, R276, R293, R321, R361, R410, R438, R461, R507, R527). -/
def poolList : Blk → List PoolCfg
  | .fab => [⟨.mgt, 4, 0x11, 4⟩, ⟨.mgt, 4, 0x0D, 4⟩, ⟨.mgt, 32, 0, 32⟩]
  | .ch _ => [⟨.cmd, 8, 0x11, 8⟩, fabPool]
  | .dec => List.replicate 20 ⟨.data, 8, 3, 4⟩ ++ [fabPool]
  | .wrp => List.replicate 20 ⟨.cmd, 8, 0x11, 8⟩ ++ [fabPool]
  | .srv => List.replicate 2 ⟨.cmd, 32, 0x11, 32⟩ ++ List.replicate 20 ⟨.data, 4, 3, 4⟩ ++ [fabPool]
  | .buf => [⟨.cmd, 64, 0x0A, 64⟩, ⟨.data, 64, 0x0A, 64⟩, ⟨.cmd, 128, 4, 96⟩, ⟨.data, 128, 4, 96⟩, ⟨.cmd, 32, 5, 24⟩, ⟨.cmd, 32, 5, 24⟩,
      ⟨.cmd, 256, 0x0C, 256⟩, ⟨.cmd, 256, 0x0C, 256⟩, ⟨.data, 256, 0x0C, 256⟩, ⟨.cmd, 256, 0x0F, 256⟩, ⟨.data, 256, 0x0F, 256⟩,
      ⟨.cmd, 256, 0x0F, 256⟩, ⟨.data, 256, 0x0F, 256⟩, ⟨.cmd, 256, 0x10, 256⟩, ⟨.data, 256, 0x10, 256⟩, ⟨.cmd, 16, 0x0B, 8⟩,
      ⟨.data, 16, 0x0B, 8⟩, fabPool]
  | .mdc => [⟨.cmd, 192, 0x0E, 128⟩, ⟨.data, 192, 0x0E, 128⟩, fabPool]
  | .dma => List.replicate 8 ⟨.cmd, 64, 0x11, 64⟩ ++ [fabPool]
  | .hst => List.replicate 4 ⟨.cmd, 128, 0x11, 128⟩ ++ [⟨.cmd, 512, 0x0C, 512⟩, ⟨.data, 512, 0x0C, 512⟩, ⟨.cmd, 512, 0x0C, 512⟩, fabPool]
  | .zne => List.replicate 4 ⟨.cmd, 64, 0x11, 64⟩ ++ [fabPool]
  | .rng => [fabPool, ⟨.cmd, 32, 0x11, 32⟩]
  | .ece => [fabPool, ⟨.cmd, 64, 0x11, 64⟩]
  | .seq => List.replicate 4 ⟨.cmd, 256, 0x0D, 256⟩ ++ List.replicate 8 ⟨.cmd, 32, 0x11, 32⟩ ++ List.replicate 2 ⟨.rsp, 64, 4, 64⟩ ++
      List.replicate 4 ⟨.cmd, 8, 0x11, 8⟩ ++ List.replicate 4 ⟨.cmd, 16, 0x11, 16⟩ ++ List.replicate 2 ⟨.cmd, 8, 0x11, 8⟩ ++ [fabPool]
  | .log => [⟨.mgt, 64, 0, 64⟩, fabPool]
  | .knl | .spn | .act | .scb | .flc | .pwr | .sec => [fabPool]

/-- Pools whose producer is absent on the EO7230: they read PRESENT = 0 (R43). -/
def poolAbsent (v : Bool) (b : Blk) (j : Nat) : Bool :=
  v && match b with
    | .dec | .wrp => decide (10 ≤ j ∧ j ≤ 19)
    | .srv => decide (j = 1 ∨ (12 ≤ j ∧ j ≤ 21))
    | .buf => decide (j = 5)
    | .dma => decide (j = 5)
    | .seq => [5, 7, 9, 11, 13, 23].contains j
    | _ => false

/-- Pool j of a block, if it is present on the variant (R43). -/
def poolAt (v : Bool) (b : Blk) (j : Nat) : Option PoolCfg :=
  if poolAbsent v b j || blkAbsent v b then none else (poolList b)[j]?

/-- A key that tells every two pools apart. -/
def poolKey (b : Blk) (j : Nat) : Nat := 32 * blkKey b + j

/-- QCFGj of a present pool at reset (Table 2.2). -/
def qcfgWord (p : PoolCfg) : Nat := (clsCode p.cls <<< 30) + (1 <<< 29) + (p.cap <<< 18) + (p.src <<< 10) + p.dflt

/-- KIND and SIZE of memory m of a block's memory-error page (R242, R244, R276, R293, R321, R361, R410, R438, R459, R527); `g24` tells
24 Gbit GDDR7 devices from 16 Gbit ones. -/
def memCfg (g24 : Bool) : Blk → Nat → Option (Nat × Nat)
  | .buf, m => if m = 0 then some (0, 384) else if m = 1 ∨ m = 2 then some (0, 1)
      else if 8 ≤ m ∧ m ≤ 13 then some (1, if g24 then 3145728 else 2097152)
      else if m = 14 then some (2, if g24 then 12582912 else 8388608) else none
  | .mdc, m => if m = 0 then some (0, 24576) else if m = 1 then some (0, 1024) else none
  | .dma, m => if m ≤ 1 then some (0, 2048) else none
  | .hst, m => if m = 0 then some (0, 512) else if m = 1 then some (0, 5) else none
  | .zne, m => if m = 0 then some (0, 256) else none
  | .rng, m => if m ≤ 3 then some (0, 75) else none
  | .seq, m => if m ≤ 3 then some (0, 512) else if m ≤ 5 then some (0, 128) else if m = 6 then some (0, 64) else if m = 7 then some (0, 32)
      else if m ≤ 11 then some (0, 32) else if m ≤ 17 then some (0, 4) else if m = 18 then some (0, 2) else if m = 19 then some (0, 1) else none
  | .flc, m => if m ≤ 1 then some (3, 32768) else none
  | .log, m => if m = 0 then some (0, 1024) else if m = 1 then some (0, 32) else none
  | _, _ => none

/-- NMEM: the highest memory number of a block that has a memory-error page. -/
def memMax : Blk → Option Nat
  | .buf => some 14 | .mdc => some 1 | .dma => some 1 | .hst => some 1 | .zne => some 0 | .rng => some 3 | .seq => some 19
  | .flc => some 1 | .log => some 1
  | _ => none

/-- Access masks and reset value of one address (Table 0.6). -/
structure Acc where
  rw : Nat := 0
  ro : Nat := 0
  w1c : Nat := 0
  ws : Nat := 0
  wo : Nat := 0
  reset : Nat := 0
deriving DecidableEq, Repr

/-- The bits that no field occupies: RES. -/
def Acc.res (m : Acc) : Nat := 0xFFFFFFFF ^^^ (m.rw ||| m.ro ||| m.w1c ||| m.ws ||| m.wo)

/-- Index (i, j) of the register of a row at an offset. -/
def rowIdx (r : RegRow) (o : Nat) : Option (Nat × Nat) :=
  let x := o - r.off
  let i := x / r.s1
  let j := x % r.s1 / r.s2
  if r.off ≤ o ∧ i < r.n1 ∧ j < r.n2 ∧ x = r.s1 * i + r.s2 * j then some (i, j) else none

/-- The masks of a row at index (i, j): the bits that are RES there belong to no mask. -/
def rowAcc (v : Bool) (r : RegRow) (i j : Nat) : Acc :=
  let k := 0xFFFFFFFF ^^^ r.gone v i
  { rw := r.rw &&& k, ro := r.ro &&& k, w1c := r.w1c &&& k, ws := r.ws &&& k, wo := r.wo &&& k, reset := r.reset v i j &&& k }

/-- Search of a block's rows. -/
def findRow (v : Bool) (o : Nat) : List RegRow → Acc
  | [] => {}
  | r :: rs => match rowIdx r o with
    | some (i, j) => rowAcc v r i j
    | none => findRow v o rs

/-- FSTAT bits that exist in a block (Table 2.2). -/
def fstatBits : Blk → Nat
  | .knl => 0x33 | .seq => 0x2B | .srv => 0x27
  | _ => 0x23

/-- Offset of shadow set 0 or 1 of a block's roll-call bank (R127, Table 4.14 and the other chapters' fabric rules). -/
def shadowBase (b : Blk) (set : Nat) : Nat :=
  match b with
  | .ch _ => 0xF800 + 0x200 * set
  | _ => 0xF000 + 0x400 * set

/-- Bytes of one shadow set. -/
def shadowLen : Blk → Nat
  | .ch _ => 0x200
  | _ => 0x400

/-- Blocks that hold a roll-call bank. (DESIGN CHOICE, log entry 13) -/
def hasBank : Blk → Bool
  | .fab | .knl | .sec => false
  | _ => true

/-- Whether an offset lies in a shadow set of a block's bank. -/
def inShadow (b : Blk) (o : Nat) : Bool :=
  hasBank b && decide (shadowBase b 0 ≤ o ∧ o < shadowBase b 0 + 2 * shadowLen b)

/-- Counters of a block's bank (Table 4.14 and the other chapters' fabric rules). -/
def bankCount : Blk → Nat
  | .ch _ => 11 | .dec => 35 | .wrp => 9 | .srv => 12 | .act => 5 | .spn => 10 | .buf => 24 | .scb => 8 | .mdc => 14 | .dma => 10
  | .hst => 11 | .zne => 13 | .rng => 24 | .ece => 5 | .seq => 37 | .flc => 13 | .pwr => 12 | .log => 10
  | .fab | .knl | .sec => 0

/-- Whether a word of a shadow set holds something: the tag or a counter. The rest of the set is RES (R13, R127). -/
def shadowUsed (b : Blk) (o : Nat) : Bool :=
  let x := (o - shadowBase b 0) % shadowLen b
  decide (x < 0xC ∨ (0x10 ≤ x ∧ x < 0x10 + 8 * bankCount b))

/-- Access code and reset value at an offset of a block's window (R12, R13): fabric page, memory-error page, CSTAT, then the block's rows. -/
def accAt (v : Bool) (b : Blk) (o : Nat) : Acc :=
  if 0xFC00 ≤ o ∧ o < 0xFD00 then
    match poolAt v b ((o - 0xFC00) / 8) with
    | none => {}
    | some p => if o % 8 = 0 then { ro := 0xEFFCFC00, ws := 0x3FF, reset := qcfgWord p } else { ro := 0x80000000, ws := 0x3F, reset := 0x14 }
  else if o = 0xFD00 then { ro := 0xFFFF00, w1c := fstatBits b }
  else if o = 0xF4 ∧ b ≠ .ece then { ro := 0xE0FF00FF }
  else if 0xFE00 ≤ o ∧ o < 0xFF40 ∧ (memMax b).isSome then
    if o = 0xFE00 then { rw := 0x1F } else if o = 0xFE04 then { ro := 0xFFFFFFFF } else if o = 0xFE08 then { w1c := 0xFFFF }
    else if o < 0xFE40 then {} else if o % 16 = 0 then { w1c := 0x80000000, ro := 0x7FFFFFFF } else { ro := 0xFFFFFFFF }
  else if inShadow b o then (if shadowUsed b o then { ro := 0xFFFFFFFF } else {})
  else if b == .log && decide (0x100000 ≤ o) then { ro := 0xFFFFFFFF }
  else findRow v o (rowsOfClass (blkCls b))

/-- Access code and reset value of an address. An absent block's window is RES (R3). -/
def accOf (v : Bool) (a : Nat) : Acc :=
  match locate a with
  | some (b, o) => if blkAbsent v b then {} else accAt v b o
  | none => {}

/-- What an address reads as after reset. (DESIGN CHOICE, log entry 2) -/
def resetWord (v : Bool) (a : Nat) : Word := BitVec.ofNat 32 (accOf v a).reset

/-- The fields of a pool's registers and of the common registers of a block. -/
def fCREDITS (b : Blk) (j : Nat) : RF := ⟨blkBase b + 0xFC00 + 8 * j, 0, 10⟩
def fFENCED (b : Blk) (j : Nat) : RF := ⟨blkBase b + 0xFC04 + 8 * j, 31, 1⟩
def fBOUND (b : Blk) (j : Nat) : RF := ⟨blkBase b + 0xFC04 + 8 * j, 0, 6⟩
def fFIRST (b : Blk) : RF := ⟨blkBase b + 0xFD00, 16, 8⟩
def fCOUNT (b : Blk) : RF := ⟨blkBase b + 0xFD00, 8, 8⟩
def fFBIT (b : Blk) (i : Nat) : RF := ⟨blkBase b + 0xFD00, i, 1⟩
def fFBITS (b : Blk) : RF := ⟨blkBase b + 0xFD00, 0, 6⟩
def fCBUSY (b : Blk) : RF := ⟨blkBase b + 0xF4, 31, 1⟩
def fCFAILED (b : Blk) : RF := ⟨blkBase b + 0xF4, 30, 1⟩
def fCSTAGED (b : Blk) : RF := ⟨blkBase b + 0xF4, 29, 1⟩
def fCDOMAIN (b : Blk) : RF := ⟨blkBase b + 0xF4, 16, 8⟩
def fCRULE (b : Blk) : RF := ⟨blkBase b + 0xF4, 0, 8⟩
def fMEMSEL (b : Blk) : RF := ⟨blkBase b + 0xFE00, 0, 5⟩

end Sys2Proof.Machine
end

