-- ==== Sys2Proof/Machine/Tab.lean ====
section
/-! DEFINITION. Machine/Tab.lean: keyed tables held as plain data. A table lists (key, value) pairs with strictly rising
keys and lists no pair whose value is what an unlisted key reads as, so that equal contents are equal lists. -/
namespace Sys2Proof.Machine

/-- A keyed table: (key, value) pairs, keys strictly rising, no pair equal to the default. -/
abbrev Tab (α : Type) := List (Nat × α)

/-- The value at key `k`; an unlisted key reads as `dflt k`. -/
def Tab.get {α : Type} (dflt : Nat → α) : Tab α → Nat → α
  | [], k => dflt k
  | (k', v) :: r, k => if k' = k then v else Tab.get dflt r k

/-- The table without key `k`. -/
def Tab.erase {α : Type} : Tab α → Nat → Tab α
  | [], _ => []
  | (k', v) :: r, k => if k' = k then Tab.erase r k else (k', v) :: Tab.erase r k

/-- Insert a pair before the first greater key. -/
def Tab.insert {α : Type} : Tab α → Nat → α → Tab α
  | [], k, v => [(k, v)]
  | (k', v') :: r, k, v => if k < k' then (k, v) :: (k', v') :: r else (k', v') :: Tab.insert r k v

/-- Write `v` at key `k`, keeping the canonical form: writing the default removes the pair. -/
def Tab.set {α : Type} [DecidableEq α] (dflt : Nat → α) (t : Tab α) (k : Nat) (v : α) : Tab α :=
  if v = dflt k then t.erase k else (t.erase k).insert k v

/-- The canonical form: keys strictly rise and no pair holds the default of its key. -/
def Tab.wf {α : Type} [DecidableEq α] (dflt : Nat → α) (t : Tab α) : Bool :=
  (t.map Prod.fst).Pairwise (· < ·) && t.all fun p => decide (p.2 ≠ dflt p.1)

/-- Change the value at key `k` by `f`. -/
def Tab.modify {α : Type} [DecidableEq α] (dflt : Nat → α) (t : Tab α) (k : Nat) (f : α → α) : Tab α :=
  t.set dflt k (f (t.get dflt k))

end Sys2Proof.Machine
end

