-- ==== Sys2Proof/Machine/Types.lean ====
section
/-! DEFINITION. Machine/Types.lean: the plain data the blocks hold, block by block, with the value each part has after reset. -/
namespace Sys2Proof.Machine

/-! ## Fabric -/

/-- A token on a credited queue (R16): class, payload and one even-parity bit for each payload byte (R37). -/
structure Token where
  cls : Cls
  payload : Bytes
  parity : List Bool
deriving DecidableEq, Repr

/-- One incoming credit pool of a block (R38): credits the producer holds, tokens in flight or in the queue, slots of accepted tokens not
yet freed; and the return queue of the same hand-off (Table 1.2), which lies in the requester: the slots it has reserved there for responses that have not
been consumed, and the responses that have arrived in reserved slots (R39). -/
structure PoolS where
  held : Nat
  queue : List Token := []
  busy : Nat := 0
  reserved : Nat := 0
  back : List Token := []
deriving DecidableEq, Repr

/-- An event offered to the logbook (R510, R513). -/
structure Event where
  code : Nat
  src : Nat
  p1 : Nat := 0
  p2 : Nat := 0
  p3 : Nat := 0
  stamp : Nat := 0
deriving DecidableEq, Repr

/-- Events a block has counted as lost (R42): how many, and the stamp of the first (Table 18.3, 0xFA). -/
structure LostS where
  count : Nat := 0
  first : Nat := 0
  inj : Bool := false
deriving DecidableEq, Repr

/-- A background request waiting at an arbiter (R50): its kind, when it was raised, and whether it has been promoted for one grant. -/
structure BgReq where
  kind : BgKind
  raised : Nat
  promoted : Bool := false
deriving DecidableEq, Repr

/-- One shadow set of a roll-call bank (R58): RCB_EPOCH, RCB_STAMP and the counters copied. -/
structure Shadow where
  epoch : Nat := 0
  stamp : Nat := 0
  vals : List (Nat × BitVec 64) := []
deriving DecidableEq, Repr

/-- The roll call of FAB (R58 to R61): epoch and start of the running roll, banks the token has visited, and the Roll Call commands that
the running and the pending roll serve; whether a slot of FAB's pool 2 is reserved for the returning token (R551). -/
structure RollS where
  epoch : Nat := 0
  start : Nat := 0
  due : Nat := 0
  visited : List Nat := []
  serving : List Tag := []
  waiting : List Tag := []
  slot : Bool := false
deriving DecidableEq, Repr

/-- One location of a memory-error table (R242, Table 8.6). -/
structure MemEntry where
  sticky : Bool := false
  uncorr : Bool := false
  src : Nat := 0
  addr : Nat := 0
  loc : Nat := 0
  count : Nat := 0
  pattern : Nat := 0
  stamp : Nat := 0
deriving DecidableEq, Repr

/-- The 16 entries and the DROPPED count of one memory (R242, R243). -/
structure MemTable where
  entries : List (Option MemEntry) := List.replicate 16 none
  dropped : Nat := 0
deriving DecidableEq, Repr

/-! ## Logbook -/

/-- A logbook record (Table 18.2). -/
structure Rec where
  seq : Nat := 0
  ev : Event
deriving DecidableEq, Repr

/-- What a bucket keeps beside its registers (R515): start of its refill clock, last suppressed code, stamp of the first suppressed event. -/
structure BucketS where
  clock : Nat := 0
  last : Nat := 0
  first : Nat := 0
deriving DecidableEq, Repr

/-- An open flush batch (R518, R520): its cause, slot and BATCH number, the counts of its first record, of the oldest record not flushed when it began and of
its records so far, and whether LOG.INJECT has its END word left out. -/
structure OpenBatch where
  cause : Nat
  slot : Nat
  batch : Nat
  first : Nat
  oldest : Nat
  recs : Nat := 0
  torn : Bool := false
deriving DecidableEq, Repr

/-- The logbook (chapter Event Logbook): events in its pool, records by slot, count part of the next SEQ, KEPOCH, flushed position, batch
number, buckets, a pending flush request with its cause, write points of the two flush slots (word offsets), an open batch. -/
structure LogS where
  inq : List Event := []
  recs : Tab (Option Rec) := []
  count : Nat := 0
  kepoch : Nat := 0
  flushed : Nat := 0
  batch : Nat := 0
  buckets : Tab BucketS := []
  flushReq : Option Nat := none
  reqStamp : Nat := 0
  wp0 : Nat := 0
  wp1 : Nat := 0
  crit : Nat := 0
  opened : Option OpenBatch := none
deriving DecidableEq, Repr

/-! ## Flash -/

/-- A code word of the flash array (R440, R441): erased, programmed with 32 bytes, or torn by an interrupted program (reads UNCORR). -/
inductive FWord where
  | erased
  | prog (data : Bytes)
  | torn
deriving DecidableEq, Repr

/-- An operation a flash slot has started and that has not ended: the slot (9 = FLC's own), PROGRAM or ERASE, the code word or sector, the
intended word, pulses applied, the intent SEQ of an erase, when the erase started or was last resumed. -/
structure FOp where
  slot : Nat
  erase : Bool
  at_ : Nat
  data : Bytes := []
  pulses : Nat := 0
  seq : Nat := 0
  since : Nat := 0
deriving DecidableEq, Repr

/-- Suspension of the erase of a bank (R451, R452). -/
inductive FSusp where
  | none | slot | auto (since : Nat)
deriving DecidableEq, Repr

/-- One bank: the operation it runs, the operations that wait for it, and the suspension of its erase. -/
structure FBank where
  run : Option FOp := none
  wait : List FOp := []
  susp : FSusp := .none
  reads : List (Nat × Nat) := []
  rr : Nat := 0
deriving DecidableEq, Repr

/-- The flash controller and the array (chapter In-Package Flash Array): words by WORD index (erased if unlisted), the two banks, the next
intent SEQ, the INTENT sector in use of each bank and its next free word, and the open execution's region. -/
structure FlcS where
  words : Tab FWord := []
  bank0 : FBank := {}
  bank1 : FBank := {}
  intentSeq : Nat := 0
  isect0 : Nat := 0
  isect1 : Nat := 0
  iword0 : Nat := 0
  iword1 : Nat := 0
  region : Option Nat := none
deriving DecidableEq, Repr

/-! ## Image and format -/

/-- Format header (Table 3.3). -/
structure FmtHeader where
  wedges : Nat
  bands : Nat
  tracks : Nat
  skips : Nat
  switchUs : Nat
  surf : List Nat
deriving DecidableEq, Repr

/-- Band-table entry (Table 3.4). -/
structure Band where
  first : Nat
  spt : Nat
  skew : Nat
  bitsIv : Nat
  dataIv : Nat
  pitchPm : Nat
  w0 : Nat
deriving DecidableEq, Repr

/-- Stagger-table entry (Table 3.5). -/
structure Stagger where
  delta : Int
  fNm : Int
  gPm : Int
  wjNm : Int
  wgPm : Int
deriving DecidableEq, Repr

/-- The format tables of one actuator (R70); `stag` is in band-major order; `raw` are the bytes as loaded (R85). -/
structure Format where
  hdr : FmtHeader
  bands : List Band
  stag : List Stagger
  skip : List Nat
  raw : Bytes := []
deriving DecidableEq, Repr

/-- A preamplifier profile (Table 16.4). -/
structure Preamp where
  id : Nat
  iwReg : Nat
  osaReg : Nat
  osdReg : Nat
  fltReg : Nat
  init : List (Nat × Nat)
deriving DecidableEq, Repr

/-- A power-stage profile (Table 16.5). -/
structure PStage where
  id : Nat
  vcmIfsMa : Nat
  vcmBemfMv : Nat
  maVfsDv : Nat
  bridgeMa : Nat
  isnsMa : Nat
  vbusMv : Nat
  funcs : Nat
  retractMv : Nat
  phaseMohm : Nat
deriving DecidableEq, Repr

/-- What the loader keeps of the loaded image (R468): format tables, profiles, rpm_max, GDDR7 mode-register writes, diagnostic key. -/
structure LoadS where
  fmt0 : Option Format := none
  fmt1 : Option Format := none
  preamps : List Preamp := []
  pstages : List PStage := []
  rpmMax : Nat := 7200
  gmr : List (Nat × Nat) := []
  diagKey : Option Bytes := none
  minimal : Bool := false
  loaded : Bool := false
deriving DecidableEq, Repr

/-- A firmware download in progress (R478): the controller that opened it and the pieces (first byte, length) already written. -/
structure DownloadS where
  ctrl : Fin 2
  pieces : List (Nat × Nat) := []
deriving DecidableEq, Repr

/-! ## Host transport -/

/-- A completion entry: the command, its status and Dwords 0 and 1, and a command whose entry must be posted first (R349). -/
structure Cpl where
  tag : Tag
  st : Status
  dw0 : Nat := 0
  dw1 : Nat := 0
  after : Option Tag := none
deriving DecidableEq, Repr

/-- A submission queue (R304). -/
structure SqS where
  base : Nat
  size : Nat
  head : Nat := 0
  tail : Nat := 0
  cqid : Nat
  ordered : Bool := false
deriving DecidableEq, Repr

/-- A completion queue (R304): entries a CSQ handed over that wait for a free slot are held in order (R307). -/
structure CqS where
  base : Nat
  size : Nat
  head : Nat := 0
  tail : Nat := 0
  phase : Bool := true
  vector : Nat := 0
  ien : Bool := true
deriving DecidableEq, Repr

/-- Interrupt coalescing of one vector (R310): entries held back and when the window opened. -/
structure CoalS where
  held : Nat := 0
  opened : Nat := 0
deriving DecidableEq, Repr

/-- What a port's ordered transmit queue takes (R32, R307, R309, R311): data of a command, a completion entry with its phase bit, an
MSI-X message, an INTA assertion, a host-memory write or read request of a DMA channel, an AER report, a
sideband response, the completion of a BAR access (none: Completer Abort). -/
inductive Tx where
  | data (tag : Tag) (bytes : Bytes)
  | entry (c : Cpl) (cq slot : Nat) (phase : Bool) (sqhd : Nat)
  | msix (ctrl : Fin 2) (vector : Nat)
  | inta (ctrl : Fin 2)
  | write (ch addr : Nat) (bytes : Bytes)
  | read (ch addr len : Nat)
  | aerReport (ctrl : Fin 2) (poisoned : Bool)
  | mi (bytes : Bytes)
  | cpl (ctrl : Fin 2) (v : Option Word)
deriving DecidableEq, Repr

/-- An asynchronous event: type, information and log page (Table 18.5, R346, R359, R525). -/
structure Aen where
  ty : Nat
  info : Nat
  page : Nat
deriving DecidableEq, Repr

/-- An Error Information entry (R326, R524). -/
structure ErrEntry where
  count : Nat
  tag : Tag
  st : Status
  lba : Nat
  nsid : Nat
  seq : Nat
deriving DecidableEq, Repr

/-- A region of stripe tracks (R81) with its zone size and encryption choice (Table 12.5). -/
structure Region where
  a : Nat
  w : Nat
  g : Nat
  s0 : Nat
  n : Nat
  zs : Nat
  enc : Bool
deriving DecidableEq, Repr

/-- One NVMe controller (R301 to R310): its registers, queues, features, outstanding requests, masks, staged layout and log pages. -/
structure CtrlS where
  cc : Nat := 0
  rdy : Bool := false
  shst : Nat := 0
  nssro : Bool := false
  aqa : Nat := 0
  asq : Nat := 0
  acq : Nat := 0
  intms : Nat := 0
  msixOn : Bool := false
  sqs : Tab (Option SqS) := []
  cqs : Tab (Option CqS) := []
  ab : Nat := 3
  wce : Bool := true
  coalThr : Nat := 0
  coalTime : Nat := 0
  coalOff : List Nat := []
  coal : Tab CoalS := []
  asyncCfg : Nat := 0
  tempOver : Nat := 378
  tempUnder : Nat := 0
  psVote : Nat := 0
  lastOp : Nat := 0
  d3 : Bool := false
  mps : Nat := 128
  mrrs : Nat := 512
  trained : Bool := false
  perst : Bool := false
  aers : List Tag := []
  aens : List Aen := []
  masked : List Aen := []
  layout : Option Region := none
  errors : List ErrEntry := []
  errCount : Nat := 0
  changed : List Nat := []
  rrSq : Nat := 0
  pausedAt : Option Nat := none
deriving DecidableEq, Repr

/-- A diagnostic challenge (R300). -/
structure Challenge where
  value : Bytes
  issued : Nat
deriving DecidableEq, Repr

/-- A read of host memory that is out (R311): its number, the burst and byte offset or the channel whose descriptor it fetches, port, address,
length, when it was sent. -/
structure HRead where
  id : Nat
  burst : Option Nat
  ofs : Nat := 0
  ch : Nat
  port : Fin 2
  addr : Nat
  len : Nat
  since : Nat
deriving DecidableEq, Repr

/-- HST (chapter PCIe and NVMe Transport): the two controllers, completions handed over and not yet posted, the transmit queues' output,
the diagnostic unlock state, MI requests passed to CSQ0, host reads out, a pending subsystem reset's start. -/
structure HstS where
  c0 : CtrlS := {}
  c1 : CtrlS := {}
  post : List Cpl := []
  tx : List Tx := []
  challenge : Option Challenge := none
  diagFails : Nat := 0
  unlockedBy : Option (Fin 2) := none
  mi : List Bytes := []
  reads : List HRead := []
  nextRead : Nat := 0
  nssr : Option Nat := none
deriving DecidableEq, Repr

/-! ## Host commands in the sequencers -/

/-- What a host command in flight is waiting to do. -/
inductive CmdKind where
  | fetched
  | read | write (fua : Bool) | append (fua : Bool) | zeroes (fua : Bool)
  | flush | zoneSend | zoneReset | zoneFinish | nsDelete | cryptoErase
  | powerMgmt (target : Nat) | rollCall | ring | admin
deriving DecidableEq, Repr

/-- A command in flight (R305): what it does, where, whether it is committed (R347), the LBAs that still wait for the media, the DMA
descriptors outstanding, the media-retry charges (R122), its host address list as (address, lines), whether its completion is no longer wanted
(R315), the status it will end with if it has failed, and the stripe track and ladder step of its last charged revolution (R124), whether it was fetched from an ordered queue (R338). -/
structure CmdRec where
  tag : Tag
  kind : CmdKind
  nsid : Nat := 0
  slba : Nat := 0
  nlb : Nat := 0
  committed : Bool := false
  reserved : Bool := false
  need : List Nat := []
  desc : Nat := 0
  charges : Nat := 0
  segs : List (Nat × Nat) := []
  silent : Bool := false
  failed : Option Status := none
  started : Nat := 0
  dw0 : Nat := 0
  dw1 : Nat := 0
  lastRev : Option (Nat × Nat × Nat) := none
  ordered : Bool := false
  quit : Option (Status × Nat) := none
deriving DecidableEq, Repr

/-! ## Zones -/

/-- Zone conditions by NVMe zone state (Table 12.6). -/
inductive ZCond where
  | empty | implicit | explicit | closed | full
deriving DecidableEq, Repr

/-- A zone context (Table 12.6), with the TBASE of the zone's last reserved write (R356) and the write pointer it had when a Finish made it Full: LBAs above
that read as zeros (R341). -/
structure ZCtx where
  cond : ZCond := .empty
  held : Bool := false
  nsx : Nat := 0
  gen : Nat := 0
  wp : Nat := 0
  arrived : Nat := 0
  media : Nat := 0
  heldCnt : Nat := 0
  stamp : Nat := 0
  lastWr : Nat := 0
  finAt : Option Nat := none
deriving DecidableEq, Repr

/-- State of a namespace key (Table 12.11). -/
inductive KeyState where
  | unencrypted | ready | unusable
deriving DecidableEq, Repr

/-- A namespace (R328): region, first context, zones, controllers it is attached to, key state; `leaving` holds the delete or crypto-erase
command that waits for its commands in flight. -/
structure Ns where
  nsid : Nat
  reg : Region
  ctx : Nat
  zones : Nat
  att0 : Bool := false
  att1 : Bool := false
  key : KeyState := .unencrypted
  leaving : Option Tag := none
deriving DecidableEq, Repr

/-- A zone-journal record (Table 12.12). -/
structure JRec where
  ty : Nat
  nsx : Nat := 0
  ctx : Nat := 0
  gen : Nat := 0
  value : Nat := 0
  stamp : Nat := 0
  seq : Nat := 0
  media : Nat := 0
deriving DecidableEq, Repr

/-- A sector of the write cache (R343): namespace, LBA, recorded LBA, buffer byte address, how many of its 32 lines have arrived, whether it
is read and destaged as zeros, the destage order that holds it, and whether it is held (R148). -/
structure CacheSec where
  nsid : Nat
  lba : Nat
  rlba : Nat
  addr : Nat
  lines : Nat := 0
  zero : Bool := false
  held : Bool := false
  heldSince : Nat := 0
  done : Bool := false
  order : Option Nat := none
deriving DecidableEq, Repr

/-- A write-pointer recovery entry (Table 12.13). -/
structure WpEntry where
  nsid : Nat
  zslba : Nat
  now : Nat
  prev : Option Nat
  reason : Nat
  stamp : Nat
deriving DecidableEq, Repr

/-- ZNE: namespaces, contexts by index, write cache, journal half in use with its next word and sequence number, recovery entries. -/
structure ZneS where
  nss : List Ns := []
  ctx : Tab ZCtx := []
  cache : List CacheSec := []
  half : Nat := 0
  jword : Nat := 0
  jseq : Nat := 0
  recov : List WpEntry := []
deriving DecidableEq, Repr

/-! ## Security -/

/-- SEC: namespace keys by NSX, the wrapped copies that the KEYS partitions hold (by NSX; 64 is the ring key, R351, R378), the ring key with its KEY_ID. -/
structure SecS where
  keys : Tab (Option Bytes) := []
  wrapped : Tab (Option Bytes) := []
  ringKey : Option Bytes := none
  ringKeyId : Nat := 0
deriving DecidableEq, Repr

/-! ## DMA -/

/-- A descriptor (Table 10.3) with, for a post of the device's own sequencers, the command it serves and the first line it carries of it; `quit` when that
command has been abandoned (R315, R349). -/
structure Desc where
  src : Nat := 0
  dst : Nat := 0
  lines : Nat := 0
  tag : Nat := 0
  swin : Nat := 0
  dwin : Nat := 0
  port : Fin 2 := 0
  fence : Bool := false
  irq : Bool := false
  own : Bool := false
  status : Nat := 0
  done : Nat := 0
  cmd : Option (Tag × Nat) := none
  quit : Bool := false
deriving DecidableEq, Repr

/-- A descriptor that a channel has started: ring index, lines issued, delivered, acknowledged, the error it has met with the first line affected, whether an injection caused it. -/
structure DRun where
  idx : Nat
  desc : Desc
  issued : Nat := 0
  deliv : Nat := 0
  acked : Nat := 0
  err : Option (Nat × Nat) := none
  inj : Bool := false
deriving DecidableEq, Repr

/-- A channel: descriptors started oldest first, ring index of the next to start, a fetch from host memory out, a STOP in progress, a doorbell that came during the fetch. -/
structure DChan where
  runs : List DRun := []
  next : Nat := 0
  fetching : Bool := false
  stopping : Bool := false
  again : Bool := false
deriving DecidableEq, Repr

/-- A burst in flight (R285): number, channel, ring index, first line and lines of the descriptor, staging flits, parts of its data that have
arrived by byte offset, whether it has been sent to its destination, whether it is discarded. -/
structure Burst where
  id : Nat
  ch : Nat
  idx : Nat
  first : Nat
  n : Nat
  flits : Nat
  parts : List (Nat × Bytes) := []
  sent : Bool := false
  dead : Bool := false
deriving DecidableEq, Repr

/-- A completion report (Table 10.4) to a sequencer. -/
structure DReport where
  seq : Nat
  tag : Nat
  ch : Nat
  status : Nat
  done : Nat
  idx : Nat
deriving DecidableEq, Repr

/-- DMA: descriptor store, channels, bursts in order of issue, round-robin pointers of the engines, reports not yet taken, next burst number. -/
structure DmaS where
  store : Tab Desc := []
  chans : Tab DChan := []
  bursts : List Burst := []
  rr0 : Nat := 0
  rr1 : Nat := 0
  reports : List DReport := []
  nextId : Nat := 0
  nextTag : Nat := 0
deriving DecidableEq, Repr

/-! ## Buffer memory -/

/-- What a buffer request is for: reads of `n` lines, writes of whole lines (R226). -/
inductive BufOp where
  | read
  | write (data : Bytes)
deriving DecidableEq, Repr

/-- A request waiting at the BUF arbiter (R237): client, an identifier its sender chose, background flag, first line, lines left, the
data read so far, whether a line was uncorrectable and which was the first. -/
structure BufReq where
  client : Nat
  id : Nat
  bg : Bool := false
  line : Nat
  n : Nat
  op : BufOp
  got : Bytes := []
  err : Bool := false
  bad : Option Nat := none
deriving DecidableEq, Repr

/-- A response of BUF: client and identifier of the request, error response or not, data read, the first line that was not read. -/
structure BufResp where
  client : Nat
  id : Nat
  err : Bool
  data : Bytes
  bad : Option Nat := none
deriving DecidableEq, Repr

/-- A fill-tracker entry (R229): granule, mask of the lines accepted, when it was opened. -/
structure FillE where
  granule : Nat
  mask : Nat
  opened : Nat
deriving DecidableEq, Repr

/-- A window in which events of one device are counted (R220, R236): when each counted event occurred, and whether its report was made. -/
structure DevWin where
  stamps : List Nat := []
deriving DecidableEq, Repr

/-- A resilver in progress (R234): device, start, granules rewritten, lines done of the present granule. -/
structure ResilverS where
  dev : Nat
  start : Nat
  done : Nat := 0
  line : Nat := 0
deriving DecidableEq, Repr

/-- BUF (requests in the order in which the clients make them, R38): stored symbols (key 96 L + 6 beat + device), valid granules, fill tracker oldest first, slot maps (busy slot to mask of lines read
since it became busy), arbiter (units left of the round, client counters, three pointers), waiting requests, responses, correction and
EDC-failure windows by device, device retrained next and when, a running bring-up's occasion, a resilver. -/
structure BufS where
  sym : Tab (BitVec 16) := []
  valid : Tab Bool := []
  fills : List FillE := []
  slots0 : Tab (Option Nat) := []
  slots1 : Tab (Option Nat) := []
  left : Nat := 1024
  shares : List Nat := [77, 77, 160, 160, 192, 192, 60, 90, 16]
  rr1 : Nat := 0
  rr2 : Nat := 0
  rr3 : Nat := 0
  reqs : List BufReq := []
  resps : List BufResp := []
  corr : Tab DevWin := []
  edc : Tab DevWin := []
  retrainNext : Nat := 0
  retrainAt : Nat := 0
  training : Option Nat := none
  resilver : Option ResilverS := none
  inj : List Nat := []
deriving DecidableEq, Repr

/-- SCB (R239 to R241): a pass runs, when it began, PASS_H it began with, lines corrected and uncorrectable, whether
its overrun has been logged. -/
structure ScbS where
  running : Bool := false
  began : Nat := 0
  passH : Nat := 24
  corrected : Nat := 0
  uncorr : Nat := 0
  overrun : Bool := false
deriving DecidableEq, Repr

/-! ## Metadata cache -/

/-- A line request of ZNE (Table 9.1): tag, STREAM, line, and for a WRITE its mask and 128 bytes. -/
structure MReq where
  tag : Nat
  stream : Bool
  line : Nat
  write : Option (Nat × Bytes) := none
deriving DecidableEq, Repr

/-- A line response (Table 9.2). -/
structure MResp where
  tag : Nat
  status : Nat
  hit : Bool
  data : Bytes := []
deriving DecidableEq, Repr

/-- A line in a way (R254). -/
structure MLine where
  tag : Nat
  dirty : Bool := false
  poison : Bool := false
  age : Nat := 0
  data : Bytes
deriving DecidableEq, Repr

/-- A fill in flight (R258): its request number at BUF, line, way, insertion age, and the requests merged behind it in acceptance order. -/
structure MFill where
  id : Nat
  line : Nat
  way : Nat
  age : Nat
  reqs : List MReq := []
deriving DecidableEq, Repr

/-- A request passing through to BUF (R271); a partial write reads first. -/
structure MPass where
  id : Nat
  req : MReq
  reading : Bool
deriving DecidableEq, Repr

/-- A maintenance operation (R266): OP, range, next line to act on, write-backs whose response is out. -/
structure MMop where
  op : Nat
  line : Nat
  cnt : Nat
  next : Nat
  wbs : List Nat := []
deriving DecidableEq, Repr

/-- A bit pattern that an injection has left in a store: set, way (of the data store), injected two bits, block 0 or 1 and bit. -/
structure MFlip where
  set : Nat
  way : Option Nat
  two : Bool
  blk : Nat
  bit : Nat
deriving DecidableEq, Repr

/-- MDC: lines by 12 × set + way, failed sets, fills in flight oldest first, requests that wait for a way, a fill or a maintenance action,
pass-through requests, write-backs out, responses to ZNE, maintenance operation, injected patterns, next request number at BUF. -/
structure MdcS where
  lines : Tab (Option MLine) := []
  failed : List Nat := []
  fills : List MFill := []
  waiting : List MReq := []
  passes : List MPass := []
  wbs : List Nat := []
  resps : List MResp := []
  mop : Option MMop := none
  flips : List MFlip := []
  nextId : Nat := 0
deriving DecidableEq, Repr

/-! ## Read channel and decoder pool -/

/-- How a sector was framed (R103 to R108): bits of FRAME, REFRAME, SPAN; where codeword bit 0 lies, counted from the expected PSM start e; and for each resync mark
where it was found, counted from its expected position (0 where it was not). -/
structure Framing where
  psmMiss : Bool := false
  ssmMiss : Bool := false
  noFrame : Bool := false
  rsmMiss : Nat := 0
  reframe : Int := 0
  span : Nat := 0
  base : Int := 32
  marks : List Int := []
deriving DecidableEq, Repr

/-- The sector a channel is reading: index in the run, slot, what the detector sees at its marks, framing. Its parts (one more than the wedges that split it) are counted
in channel bits from the start of their preamble: soft values so far by part, erased ranges as (part, first, end), thermal asperities among them, path metrics of the detector, last
equaliser output, sum of squared errors and number of the bits that contributed to it (R99). -/
structure SectorS where
  index : Nat
  tbuf : Nat
  view : SectorView := ⟨[], []⟩
  frame : Framing
  soft : List (List Int) := [[]]
  erase : List (Nat × Nat × Nat) := []
  asper : List (Nat × Nat × Nat) := []
  alpha : List Int := [0, 0, 0, 0]
  lastY : Int := 0
  errSum : Nat := 0
  errN : Nat := 0
deriving DecidableEq, Repr

/-- Seeds of a run's band (Table 4.3): loops 0 to 7 (6 unused), the 32 taps, the target's coefficients, reader B's delay. -/
structure Seeds where
  loops : List Int
  taps : List Int
  g1 : Int := 0
  g2 : Int := 0
  delay : Nat := 0
deriving DecidableEq, Repr

/-- A channel run in progress: the order and when it was accepted, next sector index, sector being read, counts for the run report, consecutive
unsound sectors, sectors reported OK so far and whether one was reported otherwise, seeds of the band, sampling rate in samples per ns (a fraction, R93), phase of
timing recovery in 2^-23 of the phase detector's unit; whether the arm link has failed, so that the run ends behind the sector being read (R31, R132). -/
structure RunS where
  ord : RunOrder
  accepted : Nat
  next : Nat := 0
  cur : Option SectorS := none
  sent : Nat := 0
  slipped : Nat := 0
  firstSlip : Option Nat := none
  reverted : Bool := false
  frozen : Bool := false
  pllLost : Bool := false
  unclean : Bool := false
  oks : Nat := 0
  cons : Nat := 0
  img : Seeds
  live : Seeds
  rate : Nat × Nat := (0, 1)
  phase : Int := 0
  lost : Bool := false
deriving DecidableEq, Repr

/-- SAM tracking of a channel (R68): consecutive SAMs found without a window, last stamp, wedge period, misses, whether it searches in a
window, predicted time of the next SAM; number of the last wedge that passed (counted on over a miss). -/
structure SamS where
  found : Nat := 0
  last : Nat := 0
  period : Nat := 0
  misses : Nat := 0
  window : Bool := false
  next : Nat := 0
  wedge : Nat := 0
deriving DecidableEq, Repr

/-- Loop values of an ended run that go into the live seeds once the reports still out are OK (R100). -/
structure Learn where
  tag : Nat
  band : Nat
  left : Nat
  vals : Seeds
deriving DecidableEq, Repr

/-- Channel block CHn: SAM tracking, waiting orders with their acceptance stamps, the run, learning that waits for reports. -/
structure ChS where
  sam : SamS := {}
  orders : List (RunOrder × Nat) := []
  run : Option RunS := none
  learn : List Learn := []
deriving DecidableEq, Repr

/-- A soft-value block (Table 4.10 and R112): order fields, framing, counts, soft values of the codeword bits, the six extended values, an
injected fault's KIND (R129), and its number in order of arrival. -/
structure SoftBlock where
  ord : RunOrder
  index : Nat
  head : Nat
  frame : Framing
  lba : Nat
  erased : Nat
  mse : Nat
  tbuf : Nat
  vals : List Int
  extra : List Int := []
  inject : Option Nat := none
deriving DecidableEq, Repr

/-- A block in a decoder slot: iteration cap, whether it was under pressure, shift hypothesis of ladder step 5, step of a retained decode. -/
structure SlotS where
  blk : SoftBlock
  cap : Nat
  press : Bool := false
  shift : Nat := 0
  retained : Bool := false
deriving DecidableEq, Repr

/-- An entry of the park store: a block parked under pressure (R118), or one retained for its sector's ladder with the number of
step-7 reads added into it (R553). -/
inductive ParkE where
  | parked (b : SoftBlock)
  | retained (b : SoftBlock) (added : Nat)
deriving DecidableEq, Repr

/-- A sector report (Table 4.12), with the sector it names. -/
structure SecReport where
  tag : Nat
  index : Nat
  head : Nat
  status : Nat
  iter : Nat
  step : Nat
  corr : Nat
  frame : Framing
  reframe : Int
  erased : Nat
  slot : Nat
  injected : Bool
  ord : RunOrder
  lba : Nat
  tbuf : Nat
deriving DecidableEq, Repr

/-- DEC: blocks sent and not yet accepted, input store oldest first, slots, park store, decoded sectors whose buffer write is outstanding. -/
structure DecS where
  flight : List SoftBlock := []
  store : List SoftBlock := []
  redo : List SoftBlock := []
  slots : Tab (Option SlotS) := []
  park : List ParkE := []
  writes : List (Nat × SecReport) := []
  nextId : Nat := 0
deriving DecidableEq, Repr

/-! ## Write path -/

/-- An arm-link command (Table 5.2, apart from SYNC, STATUS and CRC), and the time before which it must not go (R140). -/
structure AFrame where
  op : Nat
  seq : Nat
  head : Nat
  reg : Nat := 0
  data : Nat := 0
  after : Nat := 0
deriving DecidableEq, Repr

/-- An arm-link bring-up in progress (R134): when step 1 was, the step of Table 5.4 it is at, how many of the replies to its WREG and HEAT frames are still out. -/
structure BringS where
  began : Nat
  step : Nat := 1
  left : Nat := 0
deriving DecidableEq, Repr

/-- Arm link of an actuator (R130 to R134): frames waiting to be sent, the command outstanding with the number of its resends and when its last bit was
sent, the next SEQ, the last reply's DATA, the level of ALa_FLT_N (true = low), the heads in write mode with when the MODE frame was sent; levels of the lines TXD, TXS, RXD, RXS (true =
high), the level changes of the last frame with their times, and a bring-up in progress. -/
structure ALinkS where
  queue : List AFrame := []
  out : Option AFrame := none
  sentAt : Nat := 0
  resends : Nat := 0
  seq : Nat := 0
  reply : Nat := 0
  fltLow : Bool := false
  modes : Nat := 0
  modesAt : Nat := 0
  tx : Bool × Bool := (false, false)
  rx : Bool × Bool := (false, false)
  wave : List (Nat × Bool × Bool) := []
  bring : Option BringS := none
deriving DecidableEq, Repr

/-- A write run in progress: order, acceptance, retry flag, next sector, counts and flags of its report, sectors whose flits are held, sector
read outstanding with its request number; the record's values as they stood when it began (R139): HTR_WR, WOFS_BITS, PCOMP; the sector being written, whether its gate is up, the parts
of it still to come, when the present part ends. -/
structure WRunS where
  ord : RunOrder
  retry : Bool
  accepted : Nat
  next : Nat := 0
  asked : Nat := 0
  reqId : Option Nat := none
  written : Nat := 0
  notWritten : Nat := 0
  firstNw : Option Nat := none
  flags : Nat := 0
  peak : Nat := 0
  held : List (Nat × Bytes) := []
  code : Nat := 0
  wofs : Int := 0
  pcomp : List Int := []
  gate : Option Nat := none
  up : Bool := false
  parts : List (List Bool) := []
  ends : Nat := 0
  landed : List Nat := []
deriving DecidableEq, Repr

/-- A heater notice waiting for its head's heater (R140), with the read run it announces and the code it needs. -/
structure Notice where
  ord : RunOrder
  code : Nat
deriving DecidableEq, Repr

/-- Write path of one head: waiting orders (order, retry, acceptance), run, heater code last sent and since when it has stood, band of the last
write run, records written since they were sent, when the preamplifier answered the last value sent, notices, wedges within WIL_OFF in a row, PEAK of the present rise of INH and whether its
event has been logged; the channel bits last driven on its write-data pair, each with how far its transition is moved in 1/64 bit, and the bit of the interval at which they began (R137, R138). -/
structure WHeadS where
  orders : List (RunOrder × Bool × Nat) := []
  run : Option WRunS := none
  heat : Nat := 0
  heatAt : Nat := 0
  lastBand : Option Nat := none
  dirty : List Nat := []
  recAt : Nat := 0
  notices : List Notice := []
  good : Nat := 0
  peak : Nat := 0
  logged : Bool := false
  line : List (Bool × Int) := []
  lineAt : Int := 0
deriving DecidableEq, Repr

/-- WRP: arm links, heads, number of the next read request, shock inhibit of each actuator with its last trip. -/
structure WrpS where
  links : Tab ALinkS := []
  heads : Tab WHeadS := []
  nextId : Nat := 0
  shock0 : Option Nat := none
  shock1 : Option Nat := none
deriving DecidableEq, Repr

/-! ## Servo engine -/

/-- A mode order outstanding at a loop (R171 to R173): tag, ORDER code, wedges or ticks since it was accepted. -/
structure LoopOrder where
  tag : Nat
  code : Nat
  wedges : Nat := 0
deriving DecidableEq, Repr

/-- A servo loop (R153 to R170): holding, target stripe track, OFFSET, WRITE, outstanding order, prediction, biquad states, ramp residue, U0,
profile, wedge counters, what has been logged since the last entry, last measured position in 1/4,096 track, last z2 code, approved sets, the
RAMP set in effect, entry stamp of LOAD, UNLOAD or holding, next tick, slow ticks, consecutive valid SAMs. -/
structure LoopS where
  holding : Bool := false
  tgt : Nat := 0
  ofs : Int := 0
  wr : Bool := false
  order : Option LoopOrder := none
  xp : List Int := [0, 0, 0, 0, 0, 0, 0, 0]
  s1 : List Int := [0, 0, 0, 0, 0, 0]
  s2 : List Int := [0, 0, 0, 0, 0, 0]
  rho : Int := 0
  u0 : Int := 0
  rp : Int := 0
  vp : Int := 0
  ap : Int := 0
  ended : Bool := false
  extra : Nat := 0
  settle : Nat := 0
  sitW : Nat := 0
  fetchW : Nat := 0
  satC : Nat := 0
  iclC : Nat := 0
  iclLog : Bool := false
  driftLog : Bool := false
  pos : Int := 0
  z2 : Int := 0
  okHeel : Bool := false
  okFetch : Bool := false
  okRamp : Bool := false
  ramp : List Int := []
  since : Nat := 0
  tick : Nat := 0
  slow : Nat := 0
  sams : Nat := 0
  holdU : Int := 0
  due : List Nat := []
  inj : Bool := false
deriving DecidableEq, Repr

/-- An open comb gather (R154): its wedge number, the stripe track nearest the set-point when it opened (it settles the band), when its first contributing
token arrived, heads whose token has arrived, comb coordinates of those that contribute as numerators over the common denominator PITCH_PM × 2^28. -/
structure GatherS where
  wedge : Nat
  near : Nat
  first : Option Nat := none
  seen : List Nat := []
  parts : List Int := []
deriving DecidableEq, Repr

/-- SRV: loops, open gathers of each actuator (oldest first) and the wedge number of the last one closed, missing accelerometer samples in a row, last
sample time, the latency window (its start and the wedges over in it), wedges that an injection of KIND 2 has hidden so far, comparators that have tripped
and not rearmed (R181). -/
structure SrvS where
  loops : Tab LoopS := []
  gathers : Tab (List GatherS) := []
  closed : Tab (Option Nat) := []
  accMiss : Nat := 0
  accAt : Nat := 0
  latWin : Option (Nat × Nat) := none
  injCount : Nat := 0
  above : Tab Bool := []
deriving DecidableEq, Repr

/-- A mode report (Table 6.9). -/
structure ModeReport where
  tag : Nat
  loop : Nat
  mode : Nat
  status : Nat
  fault : Nat
  wedges : Nat
  peak : Nat
deriving DecidableEq, Repr

/-- An actuator-link frame sent and not yet answered (Table 6.12). -/
structure LFrame where
  ty : Nat
  ch : Nat
  seq : Nat
  value : Nat
  sentAt : Nat
  resends : Nat := 0
  badCrc : Bool := false
deriving DecidableEq, Repr

/-- A power-stage discovery that is running (R180): when step 1 began, the step, the channels whose zero SET is still to be sent. -/
structure Discovery where
  since : Nat
  step : Nat := 2
  left : List Nat := []
deriving DecidableEq, Repr

/-- A lane of the actuator link (R178, R207): mailboxes by channel, frame outstanding, next SEQ, misses in a row by channel, values of the
function channels with when they were last sent, values acknowledged by channel, a discovery that is running. -/
structure LaneS where
  mail : Tab (Option Int) := []
  out : Option LFrame := none
  seq : Nat := 0
  miss : Tab Nat := []
  func : Tab Nat := []
  funcAt : Tab Nat := []
  ack : Tab Nat := []
  disc : Option Discovery := none
deriving DecidableEq, Repr

/-! ## Spindle -/

/-- What the bridge gates do (Table 7.2): all off, the three low switches on, or modulated with the duties of phases U, V, W in 1/65,536. -/
inductive Gates where
  | off | low | pwm (u v w : Int)
deriving DecidableEq, Repr

/-- SPN (R187 to R210): on bit, measured speed in rpm; the observer's angle in 2^-32 resolver cycles, its speed in 2^-32 cycles a sample, when the last sample was
taken, the advance since the last revolution mark in 2^-32 cycles and when that mark was; failing samples in a row, rpm_tgt in 10^-9 rpm with the time it was
last moved, integrators, istar, gates, what they were before with the time of the change, phase currents last sampled in mA, good revolutions in a row,
revolutions since RUN, entry into RUN, LOCKED has risen in this RUN, lock timeout logged, start of the speed measurement, start of ALIGN, a brake before ALIGN,
brake output, low chopper windows, the chopper window (start, VBUS at its start), an injected chopper fault, since when VBUS is below OV_CLR, power-fail
regeneration in progress, power-fail stamp, end of an injected VBUS offset, injected samples, the spindle wait condition, last fault read of channel 15, a short
brake standing in for regeneration (R202). -/
structure SpnS where
  on : Bool := false
  rpm : Int := 0
  obs : Nat := 0
  omega : Int := 0
  seenAt : Option Nat := none
  turned : Int := 0
  turnAt : Nat := 0
  fails : Nat := 0
  tgtN : Int := 0
  tgtAt : Nat := 0
  iSpd : Int := 0
  iD : Int := 0
  iQ : Int := 0
  iBus : Int := 0
  istar : Int := 0
  gates : Gates := .off
  gatesWere : Gates := .off
  gatesAt : Nat := 0
  iu : Int := 0
  iv : Int := 0
  iw : Int := 0
  goodRevs : Nat := 0
  revs : Nat := 0
  runAt : Nat := 0
  lockRose : Bool := false
  lockTmo : Bool := false
  measure : Option Nat := none
  alignAt : Nat := 0
  braking : Bool := false
  brake : Bool := false
  lowWin : Nat := 0
  win : Option (Nat × Nat) := none
  injChop : Bool := false
  ovClear : Option Nat := none
  regen : Bool := false
  pfAt : Nat := 0
  injUntil : Option Nat := none
  injRsv : Nat := 0
  cond : Bool := false
  ch15 : Nat := 0
  pulse : Bool := false
deriving DecidableEq, Repr

/-! ## Media sequencers -/

/-- A retry ladder (R122): the sector, its head and order, the step in progress, reads of the step made, SPAN of the last read, whether its report is awaited,
the tag of an OFFSET order that is out (step 8), the command that started it, the
revolutions charged to the ladder where no command owns it, whether the next read is made without charge, whether an injection marked its last report. -/
structure Ladder where
  nsid : Nat
  lba : Nat
  head : Nat
  ord : RunOrder
  step : Nat := 0
  made : Nat := 0
  span : Nat := 0
  waiting : Bool := false
  ofsTag : Option Nat := none
  owner : Option Tag := none
  charges : Nat := 0
  paid : Bool := false
  inj : Bool := false
deriving DecidableEq, Repr

/-- A channel or write run report (R113, R146); a write report comes with its order and the sectors written, which MSQa needs to order the
others again (R147), and with the spindle revolution in which its run ended; `notice`: it answers a heater notice (R140). -/
structure RunReport where
  tag : Nat
  head : Nat
  sent : Nat
  slipped : Nat
  firstSlip : Nat
  flags : Nat
  write : Bool := false
  peak : Nat := 0
  notWritten : Nat := 0
  ord : RunOrder := { tag := 0 }
  landed : List Nat := []
  rev : Nat := 0
  notice : Bool := false
deriving DecidableEq, Repr

/-- A media order of a CSQ (R19): one stripe run on an actuator, for a command or (none) for the ring or a destage, the CSQ that placed it, the revolutions
charged (R147), the spindle revolution charged last, and whether a destage order has failed (R148). -/
structure MediaOrder where
  a : Nat
  cmd : Option Tag
  nsid : Nat
  slba : Nat
  n : Nat
  write : Bool := false
  id : Nat := 0
  csq : Nat := 0
  charges : Nat := 0
  lastRev : Option Nat := none
  failed : Bool := false
deriving DecidableEq, Repr

/-- The media work of MSQ0 and MSQ1: media orders, sector, mode and run reports received, ladders. -/
structure MsqS where
  orders : List MediaOrder := []
  reports : List SecReport := []
  modes : List ModeReport := []
  runs : List RunReport := []
  ladders : List Ladder := []
  nextId : Nat := 0
deriving DecidableEq, Repr

/-! ## Power -/

/-- A move between device states (R488): the upper of the two neighbouring states it runs between, its direction, the step it is at (Table 17.3; an ascending
move undoes it), whether that step has begun, the instant its bound ends, whether the loss of held runs has been accepted, and whether entry to KENNEL has
been refused so that the move ends in UNLOAD (R489). -/
structure MoveS where
  hi : Nat
  up : Bool
  step : Nat
  begun : Bool := false
  ends : Nat := 0
  lost : Bool := false
  stay : Bool := false
deriving DecidableEq, Repr

/-- The retention store (R492): saved register words, both controllers, RNG.NSEXP and the port enables. -/
structure RetS where
  words : List (Nat × Word)
  c0 : CtrlS
  c1 : CtrlS
deriving DecidableEq, Repr

/-- A power-fail sequence (Table 17.7): when it began, PF_WP records written, PF_END written. -/
structure PfS where
  began : Nat
  wrote : Nat := 0
  ended : Bool := false
deriving DecidableEq, Repr

/-- PWR and the supply side of KNL (chapters Power Domains, States and Wake; Balls): grants in the order made (head, write), requests that wait,
the state whose caps are in effect, a move, Set Features that wait for it, the retention store, a power-fail sequence, latched wakes,
hold of a whistle, start of the millisecond being counted, buffer domain in retention, step limit of ascents; kennel
supply VAUX33 in use, kennel powered, CORE_EN with when it rose, CORE_VID, since when CORE_PG is high, lateness logged, domains held in
reset, a restart (not a device reset) under way, over-temperature since, PME enables, WAKEp_N driven low; and whether crystal edges arrive (R27). -/
structure PwrS where
  xtal : Bool := true
  grants : List (Nat × Bool) := []
  waitq : List (Nat × Bool) := []
  caps : Nat := 0
  mv : Option MoveS := none
  asking : List Tag := []
  ret : Option RetS := none
  pf : Option PfS := none
  pend : List Nat := []
  whistle : Bool := false
  msAt : Nat := 0
  retain : Bool := false
  vaux : Bool := true
  kennel : Bool := true
  coreEn : Bool := true
  enAt : Nat := 0
  vid : Nat := 0x1E
  vidAt : Nat := 0
  pgAt : Option Nat := some 0
  late : Bool := false
  held : Bool := false
  restart : Bool := false
  hotSince : Option Nat := none
  pme0 : Bool := false
  pme1 : Bool := false
  wake0 : Bool := false
  wake1 : Bool := false
deriving DecidableEq, Repr

/-! ## Trirn ring -/

/-- A frame in a retry buffer (R371, R373): when it was last sent, how often re-sent. -/
structure Retry where
  f : RFrame
  sentAt : Nat
  resends : Nat := 0
deriving DecidableEq, Repr

/-- A ring port (R371 to R382): next SEQ to send, retry buffer, frames that wait to be sent (true: originated here), SEQ expected, frames held
after a gap, credits left by class, whether the reserved slot of the peer is free, cumulative returns by class to the peer and as last seen from it, grants made
by class, FCNT of the next block frame and of the last received, hop keys with their salts, the join in progress (own and peer nonce, peer SERIAL and KEY_ID,
peer MAC checked, when it began), tag failures in a row, whether an injection has touched the join, whether an ACK is owed, retries not before, whistling
since, whether this node whistled because it relays, transmitter off since, unacknowledged without an ACK since, the frames that left to the line, good control frames in a row while the link is not up, whether the lanes are reversed. -/
structure RPort where
  seqNext : Nat := 0
  retry : List Retry := []
  txq : List (RFrame × Bool) := []
  expect : Nat := 0
  held : List RFrame := []
  peerCred : List Nat := [0, 0, 0, 0]
  spare : Nat := 1
  cret : List Nat := [0, 0, 0, 0]
  grant : List Nat := [0, 0, 0, 0]
  peerCret : List Nat := [0, 0, 0, 0]
  fcntTx : Nat := 0
  fcntRx : Nat := 0
  keyTx : Option (Bytes × Bytes) := none
  keyRx : Option (Bytes × Bytes) := none
  nonce : Bytes := []
  peerNonce : Bytes := []
  peerSerial : Bytes := []
  peerKey : Nat := 0
  macOk : Bool := false
  joinAt : Option Nat := none
  tagFails : Nat := 0
  inj : Bool := false
  owe : Bool := false
  backoff : Option Nat := none
  whistle : Option Nat := none
  relayed : Bool := false
  offAt : Option Nat := none
  unackedAt : Option Nat := none
  line : List RFrame := []
  good : Nat := 0
  swapped : Bool := false
deriving DecidableEq, Repr

/-- A member of the segment (R384): SERIAL, port it was heard on (0 east, 1 west, 2 self), hops. -/
structure Member where
  serial : Bytes
  port : Nat
  hops : Nat
deriving DecidableEq, Repr

/-- Where a sector that an internal read serves lies: zeros, a cached sector's or track-buffer slot's first line, or it ended unrecovered. -/
inductive Land where
  | zero
  | at_ (line : Nat) (slot : Option (Nat × Nat))
  | bad
deriving DecidableEq, Repr

/-- A participant entry of a job (Table 13.7). -/
structure JPart where
  node : Nat
  coef : Nat
  nsid : Nat
  slba : Nat
deriving DecidableEq, Repr

/-- A job this node is the target of (R392 to R401): number, command, length, destination (reserved zone LBA, or host address), participants by side from the
farthest inward, its own entry, JWIN, nodes that have ended, blocks received by side (2 × block + side), sectors of its own chunk that have landed, the last arrival by side,
blocks combined, sectors with ERR blocks, sectors posted or complete, sectors delivered, its job slot. -/
structure TJob where
  job : Nat
  tag : Tag
  nlb : Nat
  dest : Nat
  nsid : Nat := 0
  lba : Nat := 0
  addr : Nat := 0
  bitmapAt : Nat := 0
  east : List JPart := []
  west : List JPart := []
  own : Option JPart := none
  jwin : Nat := 64
  ended : List Nat := []
  blocks : Tab (Option (Bool × Bytes)) := []
  land : Tab (Option Land) := []
  lastE : Nat := 0
  lastW : Nat := 0
  done : List Nat := []
  errs : List Nat := []
  posted : List Nat := []
  delivered : Nat := 0
  slot : Nat := 0
deriving DecidableEq, Repr

/-- A job this node takes part in (R395 to R397): target, number, side of the target (port toward it), entry, length, window, the next node inward (none: not yet known), whether it is farthest, the node it takes ACC from, blocks
arrived, sectors landed, blocks sent, blocks sent with ERR, blocks the receiver has freed, blocks it has freed itself, last traffic. -/
structure PJob where
  tgt : Nat
  job : Nat
  port : Fin 2
  part : JPart
  next : Option Nat
  far : Bool
  prev : Nat := 0
  nlb : Nat
  jwin : Nat
  blocks : Tab (Option (Bool × Bytes)) := []
  land : Tab (Option Land) := []
  sent : List Nat := []
  errs : List Nat := []
  freedBy : Nat := 0
  freed : Nat := 0
  traffic : Nat := 0
deriving DecidableEq, Repr

/-- A remote read this node has asked for (R390): number, command, node, blocks, sectors with ERR blocks, blocks received, its landing space as an offset in
bytes, sectors posted. -/
structure RRead where
  job : Nat
  tag : Tag
  node : Nat
  blocks : Nat
  errs : List Nat := []
  got : List Nat := []
  addr : Nat := 0
  posted : List Nat := []
deriving DecidableEq, Repr

/-- A remote read this node serves: requester, its transfer number, range, sectors landed, blocks sent, port. -/
structure RServe where
  node : Nat
  job : Nat
  port : Fin 2
  nsid : Nat
  slba : Nat
  nlb : Nat
  land : Tab (Option Land) := []
  sent : Nat := 0
deriving DecidableEq, Repr

/-- RNG and ECE: ports, member set, whether the segment closed, when the last new member came, target and participant jobs, remote reads
asked for and served, next job number, the highest epoch known, first JOB_STARTs of a side whose second is awaited (target, job, last node). -/
structure RngS where
  p0 : RPort := {}
  p1 : RPort := {}
  members : List Member := []
  closed : Bool := false
  quietAt : Nat := 0
  tjobs : List TJob := []
  pjobs : List PJob := []
  reads : List RRead := []
  serves : List RServe := []
  nextJob : Nat := 0
  known : Nat := 0
  starts : List (Nat × Nat × Nat) := []
deriving DecidableEq, Repr

/-! ## Sequencers -/

/-- A token in an outbox (R421): a SEND on a queue of the sequencer with the registers from IOREG on, or a control-space write. -/
inductive OutTok where
  | send (ioq : Nat) (words : List Word)
  | csr (a v : Nat)
deriving DecidableEq, Repr

/-- A lock: the mutex of a context, or a SEQ mutex (R435). -/
inductive LockRef where
  | ctx (i : Nat)
  | mutex (m : Nat)
deriving DecidableEq, Repr

/-- A thread of a sequencer (R414 to R423): its routine's entry, context, microaddress, registers, flags, stack, outbox, responses that wait, run number,
restarts by faults, timer with its expiry, lock asked for and whether it is held, the word that it waits in with the start of the wait, and whether it has committed and its
tokens are leaving (R422). -/
structure ThreadS where
  active : Bool := false
  entry : Nat := 0
  ctx : Nat := 0xFFFF
  pc : Nat := 0
  regs : Tab Word := []
  z : Bool := false
  n : Bool := false
  c : Bool := false
  stack : List Nat := []
  toks : List OutTok := []
  writes : List (Nat × Nat × Word) := []
  resp : List (List Word) := []
  run : Nat := 0
  restarts : Nat := 0
  timer : Option Nat := none
  expired : Bool := false
  lock : Option LockRef := none
  locked : Bool := false
  waiting : Option (BitVec 128 × Nat) := none
  draining : Bool := false
deriving DecidableEq, Repr

/-- An interrupt that is held while the routine on its context drains its outbox (R422, R423). -/
structure Intr where
  s : Nat
  ctx : Nat
  entry : Nat
  victim : Option Tag
deriving DecidableEq, Repr

/-- A claim of a SEQ mutex that waits: mutex, requester code, thread of a sequencer. -/
structure Claim where
  m : Nat
  code : Nat
  thread : Option Nat := none
deriving DecidableEq, Repr

/-- SEQ: threads by 32 × s + t, context words by (4,096 × s + context) × 32 + i, patch words by 2,048 × t + w, context mutexes that wait are found in the threads,
waiting claims, holder thread of each SEQ mutex, tokens that have left with their sequencer, and the pools (by key) whose stall detectors have
signalled the sequencer that orders the block (R52). -/
structure SeqS where
  threads : Tab ThreadS := []
  ctx : Tab Word := []
  patch : Tab (BitVec 128) := []
  claims : List Claim := []
  holder : Tab (Option Nat) := []
  sent : List (Nat × OutTok) := []
  stalls : List Nat := []
  turn : Tab Nat := []
  intrs : List Intr := []
deriving DecidableEq, Repr

end Sys2Proof.Machine
end

