-- ==== Sys2Proof/Machine/Dev.lean ====
section
/-! DEFINITION. Machine/Dev.lean: all the state of the device but the queue of waiting commands. -/
namespace Sys2Proof.Machine

/-- Everything the device holds (the queue of waiting commands apart). -/
structure Dev where
  v : Bool := false
  regs : Tab Word := []
  staged : Tab (Option Word) := []
  tbase : BitVec 64 := 0
  pools : Tab PoolS := []
  lost : Tab LostS := []
  bg : List BgReq := []
  cnt : Tab (BitVec 64) := []
  shadows : Tab Shadow := []
  roll : RollS := {}
  mem : Tab MemTable := []
  log : LogS := {}
  flc : FlcS := {}
  load : LoadS := {}
  dl : Option DownloadS := none
  hst : HstS := {}
  cmds : List CmdRec := []
  zne : ZneS := {}
  sec : SecS := {}
  buf : BufS := {}
  scb : ScbS := {}
  mdc : MdcS := {}
  dma : DmaS := {}
  ch : Tab ChS := []
  dec : DecS := {}
  wrp : WrpS := {}
  srv : SrvS := {}
  lanes : Tab LaneS := []
  spn : SpnS := {}
  msq : MsqS := {}
  pwr : PwrS := {}
  rng : RngS := {}
  seq : SeqS := {}
  free : Nat := 0
deriving DecidableEq, Repr

end Sys2Proof.Machine
end

