-- ==== Sys2Proof/Machine/Ops.lean ====
section
/-! DEFINITION. Machine/Ops.lean: the named operations over the device: registers and fields, access codes, credit pools, events, faults,
counters, memory-error tables. Every meaning is written over these. -/
namespace Sys2Proof.Machine

/-! ## Registers -/

/-- The value in effect of a register word. -/
def Dev.word (d : Dev) (a : Nat) : Word := d.regs.get (resetWord d.v) a

/-- Put a value into a register word. -/
def Dev.setWord (d : Dev) (a : Nat) (w : Word) : Dev := { d with regs := d.regs.set (resetWord d.v) a w }

/-- The value in effect of a register field. -/
def Dev.fld (d : Dev) (f : RF) : Nat := getBits (d.word f.a) f.lo f.n

/-- Put a value into a register field (the hardware's own write). -/
def Dev.setFld (d : Dev) (f : RF) (v : Nat) : Dev := d.setWord f.a (putBits (d.word f.a) f.lo f.n v)

/-- A one-bit field as a truth value. -/
def Dev.flag (d : Dev) (f : RF) : Bool := d.fld f != 0

/-- Put a truth value into a one-bit field. -/
def Dev.setFlag (d : Dev) (f : RF) (b : Bool) : Dev := d.setFld f b.toNat

/-- Add to a field that saturates at its greatest value. -/
def Dev.incSat (d : Dev) (f : RF) (n : Nat) : Dev := d.setFld f (min (d.fld f + n) (2 ^ f.n - 1))

/-- Power domain k is on (R482). -/
def Dev.on (d : Dev) (k : Nat) : Bool := (d.fld F.PWR_STAT_ON).testBit k

/-- Domain k acts: it is on, kennel power is there, it is not held in reset (R545), and its blocks have been started (R470). (DESIGN CHOICE, log entry 8) -/
def Dev.live (d : Dev) (k : Nat) : Bool :=
  d.on k && d.pwr.kennel && (k == 0 || !d.pwr.held) && !(d.load.minimal && [2, 3, 4, 6, 7].contains k)

/-- TBASE in ns (R24). It is also the value t of every stamp: R25 leaves open which value of [t - 8, t] a stamp takes. (DESIGN CHOICE, log entry 70) -/
def Dev.now (d : Dev) : Nat := d.tbase.toNat

/-- The lower 32 bits of TBASE. -/
def Dev.now32 (d : Dev) : Nat := d.now % 2 ^ 32

/-! ## Free values -/

/-- Take the next free number. (DESIGN CHOICE, log entry 4) -/
def Dev.drawNat (d : Dev) : Nat × Dev := (Config.freeNat d.free, { d with free := d.free + 1 })

/-- Take the next free bytes. (DESIGN CHOICE, log entry 4) -/
def Dev.drawBytes (d : Dev) (n : Nat) : Bytes × Dev :=
  let b := (Config.freeBytes d.free n).take n
  (b ++ List.replicate (n - b.length) 0, { d with free := d.free + 1 })

/-- HMAC-SHA-256 of a message under a key, as its 32 bytes (R300, R379). -/
def hmac (k m : Bytes) : Bytes := leBytes 32 (Config.hmac k m).toNat

/-! ## Roll-call counters -/

/-- Counter i of a block's bank. -/
def Dev.counter (d : Dev) (b : Blk) (i : Nat) : BitVec 64 := d.cnt.get (fun _ => 0) (64 * blkKey b + i)

/-- Count n occurrences in counter i of a block's bank (R58). -/
def Dev.bump (d : Dev) (b : Blk) (i : Nat) (n : Nat := 1) : Dev :=
  { d with cnt := d.cnt.modify (fun _ => 0) (64 * blkKey b + i) (· + BitVec.ofNat 64 n) }

/-! ## Host asynchronous events -/

/-- A controller's state. -/
def Dev.ctrl (d : Dev) (c : Fin 2) : CtrlS := if c = 0 then d.hst.c0 else d.hst.c1

/-- Replace a controller's state. -/
def Dev.setCtrl (d : Dev) (c : Fin 2) (x : CtrlS) : Dev :=
  if c = 0 then { d with hst := { d.hst with c0 := x } } else { d with hst := { d.hst with c1 := x } }

/-- The controller exists: the second only in port configuration 1 (Table 11.1). (DESIGN CHOICE, log entry 9) -/
def Dev.hasCtrl (d : Dev) (c : Fin 2) : Bool := c = 0 || d.fld F.HST_CTRL_PORTCFG = 1

/-- The controllers that exist. -/
def Dev.ctrls (d : Dev) : List (Fin 2) := if d.fld F.HST_CTRL_PORTCFG = 1 then [0, 1] else [0]

/-- Hand a completion entry over for posting (CSQ to HST, R307). -/
def Dev.handOver (d : Dev) (c : Cpl) : Dev := { d with hst := { d.hst with post := d.hst.post ++ [c] } }

/-- Dword 0 of the completion of an Asynchronous Event Request. -/
def aenDw0 (e : Aen) : Nat := e.ty + e.info * 256 + e.page * 65536

/-- Raise an asynchronous event on a controller: masked, it is dropped; with a request outstanding it completes that request; else it waits.
Raised once, it stays masked until its page is read (R346, R359, R525). -/
def Dev.raiseAen (d : Dev) (c : Fin 2) (e : Aen) : Dev :=
  let x := d.ctrl c
  if x.masked.contains e || x.aens.contains e then d
  else match x.aers with
    | t :: r => (d.setCtrl c { x with aers := r, masked := e :: x.masked }).handOver { tag := t, st := ⟨0, 0, false⟩, dw0 := aenDw0 e }
    | [] => d.setCtrl c { x with aens := x.aens ++ [e] }

/-- Raise an asynchronous event on every enabled controller. -/
def Dev.raiseAenAll (d : Dev) (e : Aen) : Dev :=
  d.ctrls.foldl (fun d c => if (d.ctrl c).rdy then d.raiseAen c e else d) d

/-- A read of a page unmasks its events. -/
def Dev.unmaskPage (d : Dev) (c : Fin 2) (p : Aen → Bool) : Dev :=
  d.setCtrl c { d.ctrl c with masked := (d.ctrl c).masked.filter fun e => !p e }

/-! ## Events -/

/-- The critical-warning bit that an event sets, whatever its bucket (Table 18.5). -/
def critOf (code : Nat) : Nat :=
  if [0x0903, 0x0906, 0x0904, 0x1103, 0x1205, 0x0802, 0x0804, 0x0503, 0x0A02].contains code || code % 256 = 0xF8 || code % 256 = 0xF9
  then 4 else 0

/-- Set SMART / Health critical-warning bits and raise the standard asynchronous event (R525, R547). -/
def Dev.critWarn (d : Dev) (bits info : Nat) : Dev :=
  ({ d with log := { d.log with crit := d.log.crit ||| bits } }).raiseAenAll ⟨1, info, 2⟩

/-- Whether a block holds a LOG credit: the pool is not fenced, LOG accepts events (R522) and fewer events are in it than its credits. (DEDUCED, log entry 10; DESIGN CHOICE, log entry 68) -/
def Dev.logCredit (d : Dev) : Bool :=
  decide (d.log.inq.length < d.fld (fCREDITS .log 0)) && !d.flag (fFENCED .log 0) && d.flag F.LOG_STAT_READY

/-- Count an event as lost (R42); `inj` marks a credit refused by LOG.INJECT. -/
def Dev.loseEvent (d : Dev) (b : Blk) (inj : Bool := false) : Dev :=
  { d with lost := d.lost.modify (fun _ => {}) (blkKey b)
               (fun l => { count := l.count + 1, first := if l.count = 0 then d.now else l.first, inj := l.inj || inj }) }

/-- Put an event into LOG's pool. -/
def Dev.pushEvent (d : Dev) (e : Event) : Dev := { d with log := { d.log with inq := d.log.inq ++ [e] } }

/-- Bit [31] of parameter 3 marks an injected fault. -/
def injBit (inj : Bool) : Nat := if inj then 0x80000000 else 0

/-- With a LOG credit, a block that has counted lost events first offers 0xFA with its count and clears it (R517). (DEDUCED, log entry 10; DESIGN CHOICE, log entry 68) -/
def Dev.reportLost (d : Dev) (b : Blk) : Dev :=
  let l := d.lost.get (fun _ => {}) (blkKey b)
  if d.logCredit && decide (0 < l.count) then
    ({ d with lost := d.lost.set (fun _ => {}) (blkKey b) {} }).pushEvent
      { code := blkCls b * 256 + 0xFA, src := blkInst b, p1 := l.count, p2 := l.first % 2 ^ 32, p3 := injBit l.inj, stamp := d.now }
  else d

/-- Raise an event (R42): its critical warning is set (R525), and it goes to LOG if the block holds a credit, else it is counted lost. An armed
LOG.INJECT of KIND 2 refuses the next event offered (Table 18.6). (DEDUCED, log entry 10) -/
def Dev.event (d : Dev) (b : Blk) (n : Nat) (p1 p2 p3 : Nat := 0) (src : Nat := blkInst b) : Dev :=
  let code := blkCls b * 256 + n
  let d := if critOf code = 0 then d else d.critWarn (critOf code) 0
  if d.flag F.LOG_INJECT_ARM && d.fld F.LOG_INJECT_KIND = 2 then (d.setFlag F.LOG_INJECT_ARM false).loseEvent b true
  else
    let d := d.reportLost b
    if d.logCredit then
      d.pushEvent { code := code, src := src % 65536, p1 := p1 % 2 ^ 32, p2 := p2 % 2 ^ 32, p3 := p3 % 2 ^ 32, stamp := d.now }
    else d.loseEvent b

/-! ## Detected faults -/

/-- Flag a detected fault (R54): its FSTAT bit, FIRST if it is the first, COUNT. -/
def Dev.flagFault (d : Dev) (b : Blk) (cls bit : Nat) : Dev :=
  let d := d.setFld (fFBIT b bit) 1
  let d := if d.fld (fFIRST b) = 0 then d.setFld (fFIRST b) cls else d
  d.incSat (fCOUNT b) 1

/-- A detected fault without an event of its own: 0xF9 with its class and FSTAT.COUNT (R514, Table 18.3). -/
def Dev.fault (d : Dev) (b : Blk) (cls bit p2 : Nat) (inj : Bool := false) (src : Nat := blkInst b) : Dev :=
  let d := d.flagFault b cls bit
  d.event b 0xF9 cls p2 (d.fld (fCOUNT b) + injBit inj) src

/-! ## Memory-error tables -/

/-- A key that tells every two memories apart. -/
def memKey (b : Blk) (m : Nat) : Nat := 32 * blkKey b + m

/-- The table of memory m of a block. -/
def Dev.memTable (d : Dev) (b : Blk) (m : Nat) : MemTable := d.mem.get (fun _ => {}) (memKey b m)

/-- Enter an error in a list of entries: count it at its location, else take the lowest free entry. `none` when no entry is free (R243). -/
def enterList (e : MemEntry) : List (Option MemEntry) → Option (List (Option MemEntry)) := fun l =>
  if l.any fun x => match x with | some y => decide (y.addr = e.addr ∧ y.loc = e.loc) | none => false then
    some (l.map fun x => match x with
      | some y => if y.addr = e.addr ∧ y.loc = e.loc then
          some { y with count := min (y.count + 1) 1023, stamp := e.stamp, pattern := e.pattern, uncorr := y.uncorr || e.uncorr,
                        sticky := y.sticky || e.sticky, src := e.src } else some y
      | none => none)
  else match l.findIdx? Option.isNone with
    | some i => some (l.set i (some e))
    | none => none

/-- Enter an error in memory m of a block (R243). -/
def Dev.memError (d : Dev) (b : Blk) (m : Nat) (e : MemEntry) : Dev :=
  { d with mem := d.mem.modify (fun _ => {}) (memKey b m) (fun t =>
      match enterList { e with count := 1, stamp := d.now } t.entries with
      | some l => { t with entries := l }
      | none => { t with dropped := min (t.dropped + 1) 65535 }) }

/-- What a read of an SRAM block makes of its flipped bits (R246): of the 65 bytes, those with an odd number of flips fail their parity, and the syndrome is the XOR
of all flips of data and column bits. One failing byte with a syndrome of one bit, or of none, is mended; every other pattern with a failing check is not. -/
def sramRead (x : SramBits) : SramRead :=
  let failing := (List.range 65).filter fun i => (x.flips.filter fun f => f.1 == i).length % 2 == 1
  let syndrome := x.flips.foldl (fun m f => if f.2 < 8 then m ^^^ (1 <<< f.2) else m) 0
  match failing with
  | [] => if syndrome = 0 then .ok else .uncorrectable x.block 0
  | [i] => if syndrome = 0 then .mended x.block i 8
    else match (List.range 8).find? fun b => decide (syndrome = 1 <<< b) with
      | some b => .mended x.block i b
      | none => .uncorrectable x.block 1
  | l => .uncorrectable x.block l.length

/-- A read of block `blk` of on-die memory m (R246): a single bad bit is mended, written back, logged and entered; an uncorrectable pattern is
logged with UNCORR and is a detected fault. BUF raises 0x090A and 0x090B in place of 0xF3 and 0xF4, and counts both (R251). -/
def Dev.sram (d : Dev) (b : Blk) (m : Nat) (r : SramRead) (inj : Bool := false) : Dev :=
  match r with
  | .ok => d
  | .mended blk byte bit =>
    let d := if b = .buf then d.bump .buf 22 else d
    (d.memError b m { addr := blk, loc := byte % 64, pattern := bit }).event b (if b = .buf then 0x0A else 0xF3) blk (8 * byte + bit)
      (injBit inj) m
  | .uncorrectable blk pat =>
    let d := if b = .buf then d.bump .buf 23 else d
    ((d.memError b m { addr := blk, uncorr := true, pattern := pat % 65536 }).flagFault b 1 0).event b
      (if b = .buf then 0x0B else 0xF4) blk pat (injBit inj) m

/-! ## Credit pools -/

/-- State of pool j of a block; at reset its producer holds every credit. -/
def poolDflt (v : Bool) (key : Nat) : PoolS :=
  match allBlks.find? fun b => decide (blkKey b = key / 32) with
  | some b => { held := match poolAt v b (key % 32) with | some p => p.dflt | none => 0 }
  | none => { held := 0 }

/-- Pool j of a block. -/
def Dev.pool (d : Dev) (b : Blk) (j : Nat) : PoolS := d.pools.get (poolDflt d.v) (poolKey b j)

/-- Replace pool j of a block. -/
def Dev.setPool (d : Dev) (b : Blk) (j : Nat) (p : PoolS) : Dev := { d with pools := d.pools.set (poolDflt d.v) (poolKey b j) p }

/-- The number of credits out: held, in flight or queued, and accepted but not yet freed. -/
def PoolS.out (p : PoolS) : Nat := p.held + p.queue.length + p.busy

/-- A token with correct parity. -/
def mkToken (c : Cls) (payload : Bytes) : Token := { cls := c, payload := payload, parity := payload.map byteParity }

/-- The byte parity of a token holds (R37). -/
def Token.good (t : Token) : Bool := t.parity == t.payload.map byteParity

/-- Send a token: one credit of the producer goes with it. -/
def PoolS.send (p : PoolS) (t : Token) : PoolS := { p with held := p.held - 1, queue := p.queue ++ [t] }

/-- Take the first token of the queue: its slot stays in use until it is freed. -/
def PoolS.take (p : PoolS) : PoolS := { p with queue := p.queue.drop 1, busy := p.busy + 1 }

/-- Free a slot under `credits` in effect: the credit goes back, or is withheld while more credits are out than `credits` (R38, R44). -/
def PoolS.free (p : PoolS) (credits : Nat) : PoolS :=
  if p.busy = 0 then p
  else if p.out ≤ credits then { p with busy := p.busy - 1, held := p.held + 1 } else { p with busy := p.busy - 1 }

/-- A changed CREDITS value: extra credits go to the producer at once (R44). -/
def PoolS.resize (p : PoolS) (credits : Nat) : PoolS := if p.out < credits then { p with held := p.held + (credits - p.out) } else p

/-- Free a slot of pool j, unless the pool is fenced: a fenced pool returns no credits (R52). -/
def Dev.freeSlot (d : Dev) (b : Blk) (j : Nat) : Dev :=
  if d.flag (fFENCED b j) then d else d.setPool b j ((d.pool b j).free (d.fld (fCREDITS b j)))

/-- A pool takes tokens: it is present and not fenced (R43, R52). -/
def Dev.poolOpen (d : Dev) (b : Blk) (j : Nat) : Bool := (poolAt d.v b j).isSome && !d.flag (fFENCED b j)

/-- A producer may send on pool j: the pool is present, not fenced, and a credit is held (R16, R52). -/
def Dev.canSend (d : Dev) (b : Blk) (j : Nat) : Bool := d.poolOpen b j && decide (0 < (d.pool b j).held)

/-- Send a token on pool j of a block. -/
def Dev.sendTo (d : Dev) (b : Blk) (j : Nat) (payload : Bytes) : Dev :=
  match poolAt d.v b j with
  | some p => d.setPool b j ((d.pool b j).send (mkToken p.cls payload))
  | none => d

/-- Credits of pool j that a hand-off of typed items may use: those its producer holds, at most CREDITS; none of a fenced pool (R38, R44, R52). -/
def Dev.credits (d : Dev) (b : Blk) (j : Nat) : Nat :=
  if d.poolOpen b j then min (d.pool b j).held (d.fld (fCREDITS b j)) else 0

/-- Of items in the order in which their producer hands them over, those that have gone: each takes `units x` credits out of `c`, and the first for which no
credit is left waits at its producer, with everything behind it (R16, R38). -/
def credited {α : Type} (units : α → Nat) : Nat → List α → List α
  | _, [] => []
  | c, x :: r => if c = 0 then [] else x :: credited units (c - units x) r

/-- Rank of a class in the dependency order (Table 2.1). -/
def clsRank : Cls → Nat
  | .cmd => 1 | .data => 2 | .rsp => 3 | .mgt => 4

/-- A token of class c may wait, for a credit or a reservation, on class c': only on a class of higher rank, but for a CMD on the CMD credit of its own
queue (R40). -/
def mayWait (c c' : Cls) : Bool := decide (clsRank c < clsRank c')

/-! ## Background requests -/

/-- Promotion interval of a kind, in ns (Table 2.3). -/
def Dev.promoteNs (d : Dev) : BgKind → Nat
  | .scan => d.fld F.FAB_PROMOTE_SCAN_MS * 1000000
  | .scrub => d.fld F.FAB_PROMOTE_SCRUB_MS * 1000000
  | .roll => d.fld F.FAB_PROMOTE_ROLL_MS * 1000000
  | .flush => d.fld F.FAB_PROMOTE_FLUSH_MS * 1000000

/-- A background request of a kind is raised at t (R50). -/
def Dev.raiseBg (d : Dev) (k : BgKind) : Dev := { d with bg := d.bg ++ [{ kind := k, raised := d.now }] }

/-- The first background request of a kind is granted and leaves the arbiter. -/
def Dev.grantBg (d : Dev) (k : BgKind) : Dev := { d with bg := d.bg.eraseP fun r => decide (r.kind = k) }

/-! ## Control-space accesses -/

/-- Requester code of R435. -/
def reqCode : Requester → Nat
  | .seq s => s.val
  | .loader => 8
  | .ctrl c => 9 + c.val

/-- Log a RES write (R514): by the block that owns the address, or by FAB where the block is absent. -/
def Dev.resWrite (d : Dev) (b : Blk) (a v who : Nat) : Dev := d.event (if blkAbsent d.v b then .fab else b) 0xF2 a v who

/-- The 16-bit FSTAT summary of a block class: any FSTAT[5:0] bit set in any of its blocks (R57). -/
def Dev.faultOf (d : Dev) (b : Blk) : Bool := d.fld (fFBITS b) != 0

/-- FAB.FAULT_SUM (R57). -/
def Dev.faultSum (d : Dev) : Nat :=
  allBlks.foldl (fun s b => if !blkAbsent d.v b && d.faultOf b then s ||| (1 <<< (blkCls b - 1)) else s) 0

/-- FAB.FAULT_CH (R57). -/
def Dev.faultCh (d : Dev) : Nat :=
  (List.finRange 20).foldl (fun s n => if !blkAbsent d.v (.ch n) && d.faultOf (.ch n) then s ||| (1 <<< n.val) else s) 0

/-- The next SEQ of the logbook (R511). -/
def LogS.head (l : LogS) : Nat := l.kepoch * 2 ^ 40 + l.count

/-- Word i of entry e of a memory-error page (Table 8.6). -/
def memEntryWord (e : Option MemEntry) (i : Nat) : Nat :=
  match e with
  | none => 0
  | some m =>
    if i = 0 then 0x80000000 + (m.sticky.toNat <<< 30) + (m.uncorr.toNat <<< 29) + ((m.src % 4) <<< 27) + m.addr % 2 ^ 27
    else if i = 1 then ((m.loc % 64) <<< 26) + (m.count <<< 16) + m.pattern % 65536
    else if i = 2 then m.stamp % 2 ^ 32 else m.stamp / 2 ^ 32 % 2 ^ 32

/-- The 32 bytes of a logbook record (Table 18.2). -/
def recBytes (r : Rec) : Bytes :=
  leBytes 8 r.seq ++ leBytes 8 r.ev.stamp ++ leBytes 2 r.ev.code ++ leBytes 2 r.ev.src ++ leBytes 4 r.ev.p1 ++ leBytes 4 r.ev.p2 ++
    leBytes 4 r.ev.p3

/-- Word i of a shadow set (R127): RCB_EPOCH, RCB_STAMP, then the counters. -/
def shadowWord (s : Shadow) (o : Nat) : Nat :=
  if o = 0 then s.epoch % 2 ^ 32 else if o = 4 then s.stamp % 2 ^ 32 else if o = 8 then s.stamp / 2 ^ 32 % 2 ^ 32 else if o < 0x10 then 0
  else
    let v := match s.vals.find? fun p => decide (p.1 = (o - 0x10) / 8) with | some p => p.2.toNat | none => 0
    if (o - 0x10) % 8 = 0 then v % 2 ^ 32 else v / 2 ^ 32

end Sys2Proof.Machine
end

