-- ==== Sys2Proof/Machine/State.lean ====
section
/-! DEFINITION. Machine/State.lean: the state of the machine, the reasons a step could stop, and the state after reset. -/
namespace Sys2Proof.Machine

/-- The machine: everything the device holds, and the commands that wait, the first one in front. -/
structure State where
  dev : Dev
  pending : List Instr
deriving DecidableEq, Repr

/-- A fault would stop the machine. The spec names none that does: a detected fault sets its FSTAT bits, is logged, and the block goes on (R54). -/
inductive Fault where
  /-- Raised by nothing: no command of the block stops the device (safe: it is never answered). -/
  | stopped
deriving DecidableEq, Repr

/-- A refusal: the command has no meaning in the model. -/
inductive Refusal where
  /-- Raised by an arm of exec for a command that has no meaning yet; no arm does so (safe: nothing can be proved of such a command). -/
  | notModelled (mnemonic : String)
deriving DecidableEq, Repr

/-- The machine right after reset: an EO7260 whose kennel and core supplies have just come up (R543), every register at the value its table
gives, nothing loaded and no command waiting. Values that the spec does not give are those of log entries 1 to 4. -/
def State.reset : State := { dev := {}, pending := [] }

end Sys2Proof.Machine
end

