-- ==== Sys2Proof/Machine/Run.lean ====
section
/-! DEFINITION. Machine/Run.lean: how a command acts on the state: on the device alone, and only while its block has power. -/
namespace Sys2Proof.Machine

/-- The outcome of a command. -/
abbrev Out := Host.Outcome State Fault Refusal

/-- A command acts on a block of power domain `k`: with the domain off or held in reset it has no effect (R482, R545). (DESIGN CHOICE, log entry 8) -/
def State.doesIn (s : State) (k : Nat) (f : Dev → Dev) : Out := .next { s with dev := if s.dev.live k then f s.dev else s.dev }

/-- A command acts on the kennel. -/
def State.does (s : State) (f : Dev → Dev) : Out := s.doesIn 0 f

end Sys2Proof.Machine
end

