-- ==== Sys2Proof/Machine/Code.lean ====
section
/-! DEFINITION. Machine/Code.lean: the codes and mappings of the recording format: the LDPC code of R77, the line code of R222 to R224, the sector
positions of R79, the region arithmetic of R82 and the mapping of R83. -/
namespace Sys2Proof.Machine

/-! ## The LDPC code (R77) -/

/-- Bits of bytes, most significant bit of each byte first (R75). -/
def bitsOfBytes (b : Bytes) : List Bool := b.flatMap fun x => (List.range 8).map fun i => x.toNat.testBit (7 - i)

/-- A block of up to 128 bits as a number: bit x of the block is bit x of the number. -/
def packBits : List Bool → Nat
  | [] => 0
  | b :: r => b.toNat + 2 * packBits r

/-- The bits of a 128-bit block. -/
def unpack128 (x : Nat) : List Bool := (List.range 128).map x.testBit

/-- A circulant of shift σ acting on a column block: row x takes bit (x + σ) mod 128. -/
def circ (σ x : Nat) : Nat := (x >>> (σ % 128)) ||| ((x <<< (128 - σ % 128)) % 2 ^ 128)

/-- The rows in which information column c holds a circulant. -/
def ldpcRows (c : Nat) : List Nat := [c % 16, (c + 3) % 16, (c + 7) % 16, (c + 12) % 16]

/-- The shift of the circulant of information column c in row r. -/
def ldpcShift (r c : Nat) : Nat := (37 * r * (c + 1) + 11 * c) % 128

/-- Contribution of the information columns to row r: `cols` are the column blocks from column c on. -/
def ldpcRow (r : Nat) : Nat → List Nat → Nat
  | _, [] => 0
  | c, x :: xs => (if (ldpcRows c).contains r then circ (ldpcShift r c) x else 0) ^^^ ldpcRow r (c + 1) xs

/-- Cut a list into blocks of 128. -/
def blocks128 : Nat → List Bool → List Nat
  | 0, _ => []
  | n + 1, l => packBits (l.take 128) :: blocks128 n (l.drop 128)

/-- The parity blocks of the column blocks 257 to 272, from the row sums: the blocks after the first follow row by row. -/
def ldpcChain (p0 : Nat) : Nat → Nat → List Nat → List Nat
  | _, _, [] => []
  | r, prev, s :: ss =>
    let p := s ^^^ prev ^^^ (if r = 0 then circ 1 p0 else if r = 8 then p0 else 0)
    p :: ldpcChain p0 (r + 1) p ss

/-- The 2,048 parity bits of 32,800 information bits: 96 zero bits stand before them and are not recorded. -/
def ldpcParity (info : List Bool) : List Bool :=
  let cols := blocks128 257 (List.replicate 96 false ++ info)
  let s := (List.range 16).map fun r => ldpcRow r 0 cols
  let p0 := s.foldl (· ^^^ ·) 0
  (p0 :: ldpcChain p0 0 0 (s.take 15)).flatMap unpack128

/-- The 34,848 codeword bits of 4,100 bytes: user data, CRC, parity. -/
def ldpcCodeword (info : Bytes) : List Bool := bitsOfBytes info ++ ldpcParity (bitsOfBytes info)

/-! ## Decoding (R115) -/

/-- The column blocks that hold a circulant in row r, with its shift (R77). -/
def rowCols (r : Nat) : List (Nat × Nat) :=
  (((List.range 257).filter fun c => (ldpcRows c).contains r).map fun c => (c, ldpcShift r c)) ++
    (if r = 0 ∨ r = 15 then [(257, 1)] else if r = 8 then [(257, 0)] else []) ++
    ((List.range 15).filter fun t => decide (r = t ∨ r = t + 1)).map fun t => (258 + t, 0)

/-- A column block as the rows of a circulant of shift σ see it: row x takes element (x + σ) mod 128. -/
def rotate (σ : Nat) (l : List Int) : List Int := l.drop (σ % 128) ++ l.take (σ % 128)

/-- 0.75 times a message (R115). Where it is not whole, which neighbour the slot takes is open. (DESIGN CHOICE, log entry 19) -/
def norm75 (m : Nat) : Nat := if 3 * m % 4 = 0 then 3 * m / 4 else 3 * m / 4 + (Config.normUp m).toNat

/-- The messages that one check sends, from those it has received: to each, the least magnitude of the others, normalised, with the product of their signs. -/
def checkOut (q : List Int) : List Int :=
  q.mapIdx fun i _ =>
    let others := q.eraseIdx i
    let m := norm75 (others.foldl (fun m y => min m y.natAbs) 31)
    if (others.filter fun y => decide (y < 0)).length % 2 = 1 then -(m : Int) else m

/-- One circulant row: the column blocks and the row's last messages, after it. Messages are of 6 bits. (DESIGN CHOICE, log entry 19) -/
def layer (r : Nat) (l : List (List Int)) (msg : List (List Int)) : List (List Int) × List (List Int) :=
  let cols := rowCols r
  let q := cols.mapIdx fun j p => List.zipWith (· - ·) (rotate p.2 (l.getD p.1 [])) (msg.getD j (List.replicate 128 0))
  let outs := (List.range 128).map fun x => checkOut (q.map fun c => clampAbs 31 (c.getD x 0))
  let new := cols.mapIdx fun j _ => outs.map fun o => o.getD j 0
  let put (l : List (List Int)) (x : (Nat × Nat) × List Int × List Int) : List (List Int) :=
    l.set x.1.1 (rotate (128 - x.1.2) (List.zipWith (· + ·) x.2.1 x.2.2))
  ((cols.zip (q.zip new)).foldl put l, new)

/-- One iteration: a pass over the 16 circulant rows. -/
def minSumPass (s : List (List Int) × List (List (List Int))) : List (List Int) × List (List (List Int)) :=
  (List.range 16).foldl (fun s r => let (l, m) := layer r s.1 (s.2.getD r []); (l, s.2.set r m)) s

/-- The syndrome of the hard decisions is zero. -/
def syndromeZero (l : List (List Int)) : Bool :=
  (List.range 16).all fun r => (List.range 128).all fun x =>
    ((rowCols r).filter fun p => decide ((l.getD p.1 []).getD ((x + p.2) % 128) 0 < 0)).length % 2 == 0

/-- Iterate up to `n` times more: the iterations used, and the 34,848 codeword bits if the syndrome has become zero. -/
def minSum : Nat → Nat → List (List Int) × List (List (List Int)) → Nat × Option (List Bool)
  | 0, i, _ => (i, none)
  | n + 1, i, s =>
    let s := minSumPass s
    if syndromeZero s.1 then (i + 1, some ((s.1.flatten.drop 96).map fun x => decide (x < 0))) else minSum n (i + 1) s

/-- Cut soft values into blocks of 128. -/
def softBlocks : Nat → List Int → List (List Int)
  | 0, _ => []
  | n + 1, l => l.take 128 :: softBlocks n (l.drop 128)

/-- Layered normalised min-sum decoding of 34,848 soft values, at most `cap` iterations; the 96 unrecorded bits enter as certain zeros (R115). -/
def ldpcDecode (cap : Nat) (vals : List Int) : Nat × Option (List Bool) :=
  minSum cap 0 (softBlocks 273 (List.replicate 96 1000000 ++ vals), List.replicate 16 [])

/-- The first `n` bytes of a run of bits, most significant bit first (R75). -/
def bytesOfBits : Nat → List Bool → Bytes
  | 0, _ => []
  | n + 1, l => BitVec.ofNat 8 ((l.take 8).foldl (fun v b => 2 * v + b.toNat) 0) :: bytesOfBits n (l.drop 8)

/-! ## The channel bits of a sector (Table 3.7, R79, R138) -/

/-- The low `n` bits of a number, most significant first. -/
def natBits (n x : Nat) : List Bool := (List.range n).map fun i => x.testBit (n - 1 - i)

/-- The primary and secondary sync marks, the resync mark, and the 128-bit preamble. -/
def psmBits : List Bool := natBits 32 0x3B5F0C92
def ssmBits : List Bool := natBits 32 0xE41AD36B
def rsmBits : List Bool := natBits 32 0x9C2E71A5
def preambleBits : List Bool := (List.replicate 32 [true, true, false, false]).flatten

/-- The 35,056 channel bits of a sector from its codeword (Table 3.7). -/
def sectorBits (code : List Bool) : List Bool :=
  preambleBits ++ psmBits ++ code.take 512 ++ ssmBits ++ code.drop 512 ++ natBits 16 0x5555

/-- The parts of a sector that starts at bit `pos` of an interval of `dIv` data bits: each remainder stands behind a resync field (R79). -/
def sectorParts (dIv : Nat) : Nat → Nat → List Bool → List (List Bool)
  | 0, _, l => [l]
  | fuel + 1, pos, l =>
    if dIv - pos < l.length then l.take (dIv - pos) :: sectorParts dIv fuel 0 (preambleBits ++ rsmBits ++ l.drop (dIv - pos)) else [l]

/-- Where the level changes: bit k is a transition if it differs from the bit before it. (DEDUCED, log entry 75) -/
def transitions : Bool → List Bool → List Bool
  | _, [] => []
  | p, b :: r => (p != b) :: transitions b r

/-- The channel bits of a part with how far the transition at each is moved, in 1/64 channel bit (R138): PCOMP[x], x = 4 T(k - 1) + 2 T(k - 2) + T(k + 1). -/
def precomp (pcomp : List Int) (bits : List Bool) : List (Bool × Int) :=
  let t := transitions (bits.headD false) bits
  let at_ (k : Nat) : Nat := (t.getD k false).toNat
  bits.mapIdx fun k b =>
    let x := (if 1 ≤ k then 4 * at_ (k - 1) else 0) + (if 2 ≤ k then 2 * at_ (k - 2) else 0) + at_ (k + 1)
    (b, if t.getD k false then pcomp.getD x 0 else 0)

/-- Pack 6-bit soft values four to three bytes, the low value first (R112). -/
def pack6 (l : List Int) : Bytes :=
  let n := l.foldr (fun x acc => tc 6 x + 64 * acc) 0
  leBytes (cdiv (6 * l.length) 8) n

/-- The first `n` soft values of packed bytes. -/
def unpack6 (n : Nat) (b : Bytes) : List Int :=
  let x := leNat b
  (List.range n).map fun i => sext 6 (bitsAt x (6 * i) 6)

/-! ## Serial links -/

/-- CRC-8 with polynomial 0x07, initial value 0, of bytes (R131). -/
def crc8 (b : Bytes) : Nat :=
  let step (c : Nat) : Nat := if 128 ≤ c then (2 * c % 256) ^^^ 7 else 2 * c
  b.foldl (fun c x => (List.range 8).foldl (fun c _ => step c) (c ^^^ x.toNat)) 0

/-- CRC-16 with polynomial 0x1021, initial value 0xFFFF, of bytes, without reflection or a final XOR (R178). -/
def crc16 (b : Bytes) : Nat :=
  let step (c : Nat) : Nat := if 0x8000 ≤ c then (2 * c % 0x10000) ^^^ 0x1021 else 2 * c
  b.foldl (fun c x => (List.range 8).foldl (fun c _ => step c) (c ^^^ (256 * x.toNat))) 0xFFFF

/-- Data-strobe encoding from the line levels (D, S): D takes the bit; S toggles where D does not change (R130). -/
def dsEncode : Bool × Bool → List Bool → List (Bool × Bool)
  | _, [] => []
  | (d, s), b :: r =>
    let l := (b, if b = d then !s else s)
    l :: dsEncode l r

/-- What a data-strobe receiver takes from the level changes of a direction, each with the ns since the change before it: the bits behind the last period of at least four bit
times without a change; each change carries the value of D (R130). -/
def dsDecode (bitNs : Nat) (w : List (Nat × Bool × Bool)) : List Bool :=
  w.foldl (fun bits x => if 4 * bitNs ≤ x.1 then [x.2.1] else bits ++ [x.2.1]) []

/-! ## The ring's lanes (R364, R370) -/

/-- CRC-32 of R370: polynomial 0x04C1_1DB7 reflected, initial value and final XOR all ones. -/
def crc32 (b : Bytes) : Nat :=
  let step (c : Nat) : Nat := if c % 2 = 1 then (c / 2) ^^^ 0xEDB88320 else c / 2
  (b.foldl (fun c x => (List.range 8).foldl (fun c _ => step c) (c ^^^ x.toNat)) 0xFFFFFFFF) ^^^ 0xFFFFFFFF

/-- The bytes of a frame stream with an even place, and those with an odd place: byte i travels on lane i mod 2 (R364). -/
def unzip2 : Bytes → Bytes × Bytes
  | [] => ([], [])
  | b :: r => let p := unzip2 r; (b :: p.2, p.1)

/-- The frame stream of two lanes of bytes. -/
def zip2 : Bytes → Bytes → Bytes
  | [], _ => []
  | b :: r, c => b :: match c with
    | [] => []
    | c :: q => c :: zip2 r q

/-- The 32-byte alignment marker of a lane (R364). Its bytes, and where among them the lane number stands, are open. (DESIGN CHOICE, log entry 80) -/
def laneMarker (lane : Fin 2) : Bytes := (List.range 32).map (Config.laneMarker lane)

/-- A lane with a marker after every 16,352 bytes of frame stream (R364). -/
def markLane (lane : Fin 2) : Nat → Bytes → Bytes
  | 0, b => b
  | n + 1, b => if b.length < 16352 then b else b.take 16352 ++ laneMarker lane ++ markLane lane n (b.drop 16352)

/-- What transmit lane `lane` carries of a frame stream (R364). -/
def laneOf (lane : Fin 2) (b : Bytes) : Bytes :=
  let l := if lane = 0 then (unzip2 b).1 else (unzip2 b).2
  markLane lane l.length l

/-- A lane without its markers: 16,352 bytes of every 16,384 (R364). -/
def unmarkLane : Nat → Bytes → Bytes
  | 0, b => b
  | n + 1, b => b.take 16352 ++ unmarkLane n (b.drop 16384)

/-- The frame stream that a receiver takes from its two lanes, deskewed: where lane 0's markers carry lane number 1 the lanes are swapped (R364, Table 13.1). -/
def joinLanes (first : Fin 2) (a b : Bytes) : Bytes :=
  let a := unmarkLane a.length a
  let b := unmarkLane b.length b
  if first = 0 then zip2 a b else zip2 b a

/-! ## The line code (R222 to R224) -/

/-- Multiplication by α in GF(2^16) with polynomial x^16 + x^12 + x^3 + x + 1. -/
def gfX (a : Nat) : Nat := if a < 0x8000 then 2 * a else (2 * a) ^^^ 0x1100B

/-- Multiplication by α^i. -/
def gfXn : Nat → Nat → Nat
  | 0, a => a
  | n + 1, a => gfXn n (gfX a)

/-- Product in GF(2^16), over the low `n` bits of the second factor. -/
def gfMul : Nat → Nat → Nat → Nat
  | 0, _, _ => 0
  | n + 1, a, b => (if b % 2 = 1 then a else 0) ^^^ gfMul n (gfX a) (b / 2)

/-- The inverse of α^4 + α^5. -/
def gfInv45 : Nat := 0x2D01

/-- The six symbols of a beat from its four data symbols. -/
def rsEncode (s0 s1 s2 s3 : Nat) : List Nat :=
  let a := s0 ^^^ s1 ^^^ s2 ^^^ s3
  let b := s0 ^^^ gfXn 1 s1 ^^^ gfXn 2 s2 ^^^ gfXn 3 s3
  let s4 := gfMul 16 (gfXn 5 a ^^^ b) gfInv45
  [s0, s1, s2, s3, s4, a ^^^ s4]

/-- S0 and S1 of six symbols. -/
def synd0 (s : List Nat) : Nat := s.foldl (· ^^^ ·) 0
def synd1 : Nat → List Nat → Nat
  | _, [] => 0
  | i, x :: xs => gfXn i x ^^^ synd1 (i + 1) xs

/-- The outcome of decoding one beat: the symbols, and the device corrected with its error value. -/
inductive BeatOut where
  | clean (s : List Nat)
  | corrected (s : List Nat) (dev err : Nat)
  | bad
deriving DecidableEq, Repr

/-- Decode a beat with no device erased (R223). -/
def rsDecode (s : List Nat) : BeatOut :=
  let a := synd0 s
  let b := synd1 0 s
  if a = 0 ∧ b = 0 then .clean s
  else if a = 0 ∨ b = 0 then .bad
  else match (List.range 6).find? fun e => gfXn e a == b with
    | some e => .corrected (s.modify e (· ^^^ a)) e a
    | none => .bad

/-- Decode a beat with device x erased (R224). -/
def rsErase (x : Nat) (s : List Nat) : BeatOut :=
  let t := s.set x 0
  let t := t.set x (synd0 t)
  if synd1 0 t = 0 then .clean t else .bad

/-- Decode a beat with the erased devices given: two erasures cannot be resolved (R224). -/
def rsBeat (erased : List Nat) (s : List Nat) : BeatOut :=
  match erased with
  | [] => rsDecode s
  | [x] => rsErase x s
  | _ => .bad

/-! ## Surfaces, stripes, sectors -/

/-- The band of a stripe track: the last one whose FIRST is not above it. -/
def bandIdx (f : Format) (s : Nat) : Nat := (f.bands.filter fun b => decide (b.first ≤ s)).length - 1
def bandAt (f : Format) (b : Nat) : Band := f.bands.getD b ⟨0, 1, 0, 1, 864, 38000, 0⟩
def staggerAt (f : Format) (b l : Nat) : Stagger := f.stag.getD (10 * b + l) ⟨0, 0, 0, 0, 0⟩

/-- Static read offset m and writer offset j of local head l on stripe track s, in pm (R71). -/
def readOffset (f : Format) (s l : Nat) : Int :=
  let b := bandIdx f s
  let g := staggerAt f b l
  g.fNm * 1000 + g.gPm * ((s : Int) - (bandAt f b).first)
def writeOffset (f : Format) (s l : Nat) : Int :=
  let b := bandIdx f s
  let g := staggerAt f b l
  g.wjNm * 1000 + g.wgPm * ((s : Int) - (bandAt f b).first)

/-- The wedge after which sector 0 of stripe track s begins (R73). -/
def startWedge (f : Format) (s : Nat) : Nat :=
  let b := bandAt f (bandIdx f s)
  (b.w0 + b.skew * (s - b.first)) % f.hdr.wedges

/-- Advance over the intervals that one sector takes: its remainder resumes after a resync field (R79). -/
def splitSector (dIv : Nat) : Nat → Nat → Nat → Nat → Nat × Nat
  | 0, iv, pos, left => (iv, pos + left)
  | fuel + 1, iv, pos, left =>
    if dIv - pos < left then splitSector dIv fuel (iv + 1) 0 (left - (dIv - pos) + 160) else (iv, pos + left)

/-- Positions (interval, bit) of the sectors of a track, and the interval in which the last one ends (R79). -/
def placeSectors (dIv : Nat) : Nat → Nat → Nat → List (Nat × Nat) × Nat
  | 0, iv, _ => ([], iv)
  | n + 1, iv, pos =>
    let (iv, pos) := if dIv - pos < 704 then (iv + 1, 0) else (iv, pos)
    let (iv', pos') := splitSector dIv 64 iv pos 35056
    let (l, e) := placeSectors dIv n iv' pos'
    ((iv, pos) :: l, e)

/-- Sectors per head of the region of stripe tracks [s, s + n), skipped tracks left out (R82). -/
def sectorsIn (f : Format) : Nat → Nat → Nat
  | 0, _ => 0
  | n + 1, s => (if f.skip.contains s then 0 else (bandAt f (bandIdx f s)).spt) + sectorsIn f n (s + 1)

/-- Zones of a region (R82). -/
def zonesOf (f : Format) (r : Region) : Nat := r.w * (sectorsIn f r.n r.s0 / 16) / (r.zs / 16)

/-- The walk of R83 from stripe track s for the x-th sector of a head: stripe track and sector on it. -/
def walkTracks (f : Format) : Nat → Nat → Nat → Option (Nat × Nat)
  | 0, _, _ => none
  | n + 1, s, x =>
    if f.skip.contains s then walkTracks f n (s + 1) x
    else
      let spt := (bandAt f (bandIdx f s)).spt
      if x < spt then some (s, x) else walkTracks f n (s + 1) (x - spt)

/-- Head, stripe track, physical track and sector of a namespace LBA (R83). -/
structure MediaPos where
  head : Nat
  stripe : Nat
  track : Int
  sector : Nat
deriving DecidableEq, Repr

def mediaPos (f : Format) (r : Region) (lba : Nat) : Option MediaPos :=
  let z := lba / r.zs
  let o := lba % r.zs
  let j := z * (r.zs / 16) + o / 16
  let k := o % 16
  let i := j % r.w
  let h := 10 * r.a + r.g * r.w + i
  let q := j / r.w * 16 + k
  (walkTracks f r.n r.s0 q).map fun p =>
    { head := h, stripe := p.1, track := (p.1 : Int) + (staggerAt f (bandIdx f p.1) (h - 10 * r.a)).delta, sector := p.2 }

/-- Where sector k of a stripe track begins: the wedge after which its interval starts (R73), the bit of the interval's data area (R79). -/
def sectorAt (f : Format) (s k : Nat) : Nat × Nat :=
  let b := bandAt f (bandIdx f s)
  let p := (placeSectors b.dataIv b.spt 0 0).1.getD k (0, 0)
  ((startWedge f s + p.1) % f.hdr.wedges, p.2)

/-- LBA of sector i of a run whose first sector has a given LBA, on a stripe of width w (R110). -/
def runLba (lba w i : Nat) : Nat := lba + i + 16 * (w - 1) * ((lba % 16 + i) / 16)

/-! ## Format checks (R84, Table 3.9) -/

def absLe (x : Int) (m : Nat) : Bool := decide (-(m : Int) ≤ x ∧ x ≤ m)

/-- Last stripe track of band b. -/
def bandEnd (f : Format) (b : Nat) : Nat := match f.bands[b + 1]? with | some n => n.first - 1 | none => f.hdr.tracks - 1

/-- The first check of Table 3.9 that fails for one actuator's tables (0 if none); `w` is WEDGES of the other actuator, if it has tables. -/
def formatCheck (f : Format) (other : Option Nat) (rpm : Nat) : Nat :=
  let W := f.hdr.wedges
  let bs := f.bands
  let idx := List.range bs.length
  let ends (b : Nat) : List Nat := [(bandAt f b).first, bandEnd f b]
  let c : List Bool := [
    decide (360 ≤ W ∧ W ≤ 600) && (match other with | some o => o == W | none => true),
    decide (1 ≤ f.hdr.bands ∧ f.hdr.bands ≤ 64) && (bandAt f 0).first == 0 && (bs.map Band.first).Pairwise (· < ·) &&
      bs.all (fun b => decide (b.first < f.hdr.tracks)),
    bs.all fun b => decide (b.bitsIv * W * rpm ≤ 6200000000 * 60),
    bs.all fun b => decide (b.spt * 32768 * rpm ≤ 5600000000 * 60),
    bs.all fun b => decide (1 ≤ b.spt ∧ b.spt ≤ 2048 ∧ 864 ≤ b.dataIv ∧ b.dataIv < b.bitsIv) &&
      decide ((placeSectors b.dataIv b.spt 0 0).2 < W),
    bs.all fun b => decide (38000 ≤ b.pitchPm),
    idx.all fun b => (List.range 10).all fun l => (ends b).all fun s =>
      absLe (readOffset f s l) 1100000 && absLe (readOffset f s l + writeOffset f s l) 1100000,
    idx.all fun b => (List.range 10).all fun l => (ends b).all fun s =>
      let t := (s : Int) + (staggerAt f b l).delta
      decide (0 ≤ t ∧ t < (f.hdr.surf.getD l 0 : Nat)),
    bs.all fun b => decide (f.hdr.switchUs * (W * rpm) ≤ b.skew * 60000000),
    bs.all fun b => decide (b.skew < W ∧ b.w0 < W),
    decide (f.hdr.skips ≤ 65536) && f.skip.Pairwise (· < ·) && f.skip.all fun s => decide (s < f.hdr.tracks),
    ((slice f.raw 14 2 ++ slice f.raw 56 8).all (· == 0)) &&
      (idx.all fun b => (slice f.raw (64 + 24 * b + 20) 4).all (· == 0)) &&
      ((List.range (10 * bs.length)).all fun i => (slice f.raw (64 + 24 * bs.length + 16 * i + 12) 4).all (· == 0))]
  match c.findIdx? (! ·) with
  | some i => i + 1
  | none => 0

end Sys2Proof.Machine
end

