-- ==== Sys2Proof/Machine/Access.lean ====
section
/-! DEFINITION. Machine/Access.lean: control-space reads and writes by access code (R10 to R14). -/
namespace Sys2Proof.Machine

/-- A shadow set of a block's bank. -/
def Dev.shadow (d : Dev) (b : Blk) (set : Nat) : Shadow := d.shadows.get (fun _ => {}) (2 * blkKey b + set)

/-- Word at an offset of a shadow set, if the offset lies in one. -/
def Dev.shadowAt (d : Dev) (b : Blk) (o : Nat) : Option Nat :=
  if inShadow b o then
    some (shadowWord (d.shadow b ((o - shadowBase b 0) / shadowLen b)) ((o - shadowBase b 0) % shadowLen b))
  else none

/-- Word of the memory-error page at an offset, if the offset lies in it (Table 8.6). -/
def Dev.memPageAt (d : Dev) (b : Blk) (o : Nat) : Option Nat :=
  match memMax b with
  | none => none
  | some nmem =>
    let m := d.fld (fMEMSEL b)
    if o = 0xFE04 then
      let (kind, size) := (memCfg (d.flag F.BUF_PHY_DENS) b m).getD (7, 0)
      some ((nmem <<< 27) + (kind <<< 24) + size % 2 ^ 24)
    else if o = 0xFE08 then some (d.memTable b m).dropped
    else if 0xFE40 ≤ o ∧ o < 0xFF40 then
      some (memEntryWord (((d.memTable b m).entries[(o - 0xFE40) / 16]?).getD none) ((o - 0xFE40) % 16 / 4))
    else none

/-- Word of the logbook's computed registers and record slots (R511, Table 18.6). -/
def Dev.logAt (d : Dev) (o : Nat) : Option Nat :=
  if o = 4 then
    let x := d.word 0x0A000004
    some (putBits x 0 16 (min (d.log.count - d.log.flushed) 65535)).toNat
  else if o = 8 then some (d.log.head % 2 ^ 32)
  else if o = 0x10 then some ((d.log.kepoch * 2 ^ 40 + d.log.flushed) % 2 ^ 32)
  else if 0x100000 ≤ o ∧ o < 0x200000 then
    match d.log.recs.get (fun _ => none) ((o - 0x100000) / 32) with
    | some r => some (leAt (recBytes r) ((o - 0x100000) % 32) 4)
    | none => some 0
  else none

/-- The 32 bytes of a descriptor (Table 10.3). -/
def descBytes (c : Desc) : Bytes :=
  leBytes 8 c.src ++ leBytes 8 c.dst ++ leBytes 4 c.lines ++ leBytes 2 c.tag ++ leBytes 1 c.swin ++ leBytes 1 c.dwin ++
    leBytes 1 (c.port.val + 2 * c.fence.toNat + 4 * c.irq.toNat) ++ leBytes 1 c.status ++ [0, 0] ++ leBytes 3 c.done ++
    leBytes 1 (128 * c.own.toNat)

/-- Word of the descriptor store (R292). -/
def Dev.dmaAt (d : Dev) (o : Nat) : Option Nat :=
  if 0x200000 ≤ o ∧ o < 0x400000 then
    some (leAt (descBytes (d.dma.store.get (fun _ => {}) ((o - 0x200000) / 32))) ((o - 0x200000) % 32) 4)
  else none

/-- A thread of a sequencer. -/
def Dev.thread (d : Dev) (s t : Nat) : ThreadS := d.seq.threads.get (fun _ => {}) (32 * s + t)

/-- SEQ's words that follow its threads and its patch SRAM (Table 14.10). -/
def Dev.seqAt (d : Dev) (o : Nat) : Option Nat :=
  if 0x10000 ≤ o ∧ o < 0x30000 then
    let t := (o - 0x10000) / 0x8000
    let w := (o - 0x10000) % 0x8000 / 16
    some (bitsAt (d.seq.patch.get (fun _ => 0) (2048 * t + w)).toNat (8 * (o % 16)) 32)
  else if 0x400 ≤ o ∧ o < 0x600 then
    let s := (o - 0x400) / 0x40
    if d.v && s == 5 then some 0 else
    let k := d.thread s (getBits (d.word (0x08000404 + 0x40 * s)) 0 5)
    if o % 0x40 = 0 then
      some (putBits (d.word (0x08000000 + o)) 16 6 ((List.range 32).filter fun t => (d.thread s t).active).length).toNat
    else if o % 0x40 = 8 then
      let st := if !k.active then 0 else if k.draining then 3 else if k.waiting.isSome then 2 else 1
      some ((st <<< 29) + (k.locked.toNat <<< 28) + ((match k.waiting with | some (w, _) => bitsAt w.toNat 122 6 | none => 0) <<< 22) + k.pc % 65536)
    else if o % 0x40 = 0xC then
      some (match k.waiting with | some (_, t) => min ((d.now - t) / 1000) 0xFFFFFFFF | none => 0)
    else if o % 0x40 = 0x10 then some (if k.active then k.ctx % 65536 else 0xFFFF)
    else none
  else none

/-- INH[n] as it stands: raised at a wedge, while the head's loop is in a mode other than HEEL and SRV acts, or by an injection (R143, R149). -/
def Dev.inhNow (d : Dev) (n : Nat) : Bool :=
  (d.fld F.WRP_STAT_INH).testBit n || (d.live 3 && !(d.v && decide (10 ≤ n)) && d.fld (F.SRV_LSTAT_MODE (2 + n)) != 4) ||
    (d.flag F.WRP_INJECT_ARM && d.fld F.WRP_INJECT_HEAD == n && decide (0 < d.fld F.WRP_INJECT_SECTORS))

/-- The bits of WRP.STAT.INH. -/
def Dev.inhBits (d : Dev) : Nat := (List.range 20).foldl (fun x n => if d.inhNow n then x ||| (1 <<< n) else x) 0

/-- The word that a read returns at an offset of a present block's window (R13): WO and RES bits are never set in the register words. -/
def Dev.readAt (d : Dev) (b : Blk) (o : Nat) : Nat :=
  let plain := (d.word (blkBase b + o)).toNat
  match d.shadowAt b o with
  | some x => x
  | none => match d.memPageAt b o with
    | some x => x
    | none =>
      match b with
      | .fab => if o = 0x120 then d.faultSum else if o = 0x124 then d.faultCh else plain
      | .knl => if o = 0x10 then d.now32 else plain
      | .log => (d.logAt o).getD plain
      | .seq => (d.seqAt o).getD plain
      | .dma => (d.dmaAt o).getD plain
      | .wrp => if o = 4 then plain ||| d.inhBits else plain
      | _ => plain

/-- Value that a control-space read returns; `none` is the address error of R11. -/
def Dev.readWord (d : Dev) (a : Nat) : Option Word :=
  if a % 4 ≠ 0 then none
  else match locate a with
    | none => none
    | some (b, o) => some (if blkAbsent d.v b then 0 else BitVec.ofNat 32 (d.readAt b o))

/-- What a read does beside returning the value: it captures the upper half of TBASE, of LOG.HEAD or of LOG.FLUSHED (R28, R526). -/
def Dev.readEffect (d : Dev) (a : Nat) : Dev :=
  if a = 0x00200010 then d.setFld F.KNL_TBASE_HI_NS_HI (d.now / 2 ^ 32)
  else if a = 0x0A000008 then d.setFld F.LOG_HEAD_HI_SEQ_HI (d.log.head / 2 ^ 32)
  else if a = 0x0A000010 then d.setFld F.LOG_FLUSHED_HI_SEQ_HI ((d.log.kepoch * 2 ^ 40 + d.log.flushed) / 2 ^ 32)
  else d

/-- A control-space read: the value (0 with an address error), whether it ended in the error, and the device after it. (DESIGN CHOICE, log entry 16) -/
def Dev.access (d : Dev) (a : Nat) : Nat × Bool × Dev :=
  match d.readWord a with
  | some w => (w.toNat, false, d.readEffect a)
  | none => (0, true, d)

/-- Clear bits of a memory-error page: VALID frees an entry, DROPPED bits written as 1 are cleared (Table 8.6). -/
def Dev.memPageClear (d : Dev) (b : Blk) (o v : Nat) : Dev :=
  let m := d.fld (fMEMSEL b)
  let t := d.memTable b m
  let put (t : MemTable) : Dev := { d with mem := d.mem.set (fun _ => {}) (memKey b m) t }
  if (memMax b).isNone then d
  else if o = 0xFE08 then put { t with dropped := t.dropped &&& (65535 ^^^ (v &&& 65535)) }
  else if 0xFE40 ≤ o ∧ o < 0xFF40 ∧ o % 16 = 0 ∧ 0x80000000 ≤ v then put { t with entries := t.entries.set ((o - 0xFE40) / 16) none }
  else d

/-- Stage a value of a WS register; the last value written is the one staged (R14, R471). Bits that are not WS take no staged value. -/
def Dev.stage (d : Dev) (b : Blk) (a ws v : Nat) : Dev :=
  ({ d with staged := d.staged.set (fun _ => none) a (some (BitVec.ofNat 32 (v &&& ws))) }).setFld
    (fCSTAGED (if b = Blk.ece then Blk.rng else b)) 1

/-- A control-space write under R13. A non-zero write to RES bits has no effect there and logs one RES write; W1C bits written as 1 are
cleared; RW bits take effect at once; WS bits are staged; RO and WO bits keep what they are. The result tells an address error (R11). -/
def Dev.regWrite (d : Dev) (a v who : Nat) : Dev × Bool :=
  if a % 4 ≠ 0 then (d, true)
  else match locate a with
    | none => (d, true)
    | some (b, o) =>
      let m := accOf d.v a
      let d := if v &&& m.res ≠ 0 then d.resWrite b a v who else d
      let old := (d.word a).toNat
      let keep := 0xFFFFFFFF ^^^ (m.rw ||| (m.w1c &&& v))
      let d := if m.rw ||| m.w1c = 0 then d else d.setWord a (BitVec.ofNat 32 ((old &&& keep) ||| (v &&& m.rw)))
      let d := if blkAbsent d.v b then d else d.memPageClear b o v
      (if m.ws = 0 then d else d.stage b a m.ws v, false)

/-! ## Staged commit -/

/-- The staged addresses of a block's staged set. ECE's fabric page belongs to RNG's set (R471). -/
def Dev.stagedOf (d : Dev) (b : Blk) : List (Nat × Word) :=
  d.staged.filterMap fun p => match p.2, locate p.1 with
    | some w, some (b', _) => if b' = b ∨ (b = .rng ∧ b' = .ece) then some (p.1, w) else none
    | _, _ => none

/-- The proposed value of a word: the staged value where one is staged, else the value in effect (R472). -/
def Dev.proposed (d : Dev) (a : Nat) : Word :=
  match d.staged.get (fun _ => none) a with
  | some w =>
    let ws := (accOf d.v a).ws
    BitVec.ofNat 32 (((d.word a).toNat &&& (0xFFFFFFFF ^^^ ws)) ||| (w.toNat &&& ws))
  | none => d.word a

/-- The proposed value of a field. -/
def Dev.prop (d : Dev) (f : RF) : Nat := getBits (d.proposed f.a) f.lo f.n

/-- Whether a rule list fails, and where: the number of the first condition that fails, from `n` on; 0 if all hold (R472). -/
def firstFail : Nat → List Bool → Nat
  | _, [] => 0
  | n, c :: cs => if c then firstFail (n + 1) cs else n

/-- Rule 1 of every block: CREDITS in 1 to CAP and BOUND in 1 to 40 for every present pool (R43). -/
def Dev.ruleOne (d : Dev) (b : Blk) : Bool :=
  (List.range 32).all fun j => match poolAt d.v b j with
    | none => true
    | some p => decide (1 ≤ d.prop (fCREDITS b j) ∧ d.prop (fCREDITS b j) ≤ p.cap ∧ 1 ≤ d.prop (fBOUND b j) ∧ d.prop (fBOUND b j) ≤ 40)

/-- What a changed word does at the commit instant beside taking its value: credits (R44), and the tokens of a bucket (R515). -/
def Dev.commitEffect (d : Dev) (a : Nat) (old : Word) : Dev :=
  match locate a with
  | some (b, o) =>
    if 0xFC00 ≤ o ∧ o < 0xFD00 ∧ o % 8 = 0 then
      let j := (o - 0xFC00) / 8
      if (poolAt d.v b j).isSome && !d.flag (fFENCED b j) then d.setPool b j ((d.pool b j).resize (d.fld (fCREDITS b j))) else d
    else if b = .log ∧ 0x4000 ≤ o ∧ o < 0x8000 then
      let k := (o - 0x4000) / 4
      let t := d.fld (F.LOG_BSTAT_TOKENS k)
      let new := d.fld (F.LOG_BUCKET_DEPTH k)
      let oldD := getBits old 16 8
      if new < t then d.setFld (F.LOG_BSTAT_TOKENS k) new
      else if oldD < new ∧ t = oldD then
        { d with log := { d.log with buckets := d.log.buckets.modify (fun _ => {}) k ({ · with clock := d.now }) } }
      else d
    else d
  | none => d

/-- Apply a staged set at the commit instant and clear it (R472). -/
def Dev.applyStaged (d : Dev) (b : Blk) : Dev :=
  let d := (d.stagedOf b).foldl (fun d p =>
    let old := d.word p.1
    let d := (d.setWord p.1 (d.proposed p.1)).commitEffect p.1 old
    { d with staged := d.staged.set (fun _ => none) p.1 none }) d
  d.setFld (fCSTAGED b) 0

end Sys2Proof.Machine
end

