-- ==== Sys2Proof/Machine/CmdOps.lean ====
section
/-! DEFINITION. Machine/CmdOps.lean: what every host command shares: its record while in flight, its statuses, and how it ends. -/
namespace Sys2Proof.Machine

/-- A status whose Do Not Retry bit the spec does not give. (DESIGN CHOICE, log entry 14) -/
def stOf (sct sc : Nat) : Status := ⟨sct, sc, Config.dnr sct sc⟩

/-- Success. -/
def stOk : Status := ⟨0, 0, false⟩
def stInvalidOpcode : Status := stOf 0 0x01
def stInvalidField : Status := stOf 0 0x02
/-- Data Transfer Error (Table 12.4). -/
def stDataTransfer : Status := ⟨0, 0x04, false⟩
/-- Internal Error for a fenced pool (R53, Table 12.4). -/
def stInternal : Status := ⟨0, 0x06, true⟩
/-- Command Abort Requested (Table 12.4). -/
def stAborted : Status := ⟨0, 0x07, false⟩
def stInvalidNs : Status := stOf 0 0x0B
def stSequence : Status := stOf 0 0x0C
/-- Namespace Not Ready (Table 12.4): DNR tells an unusable key from a buffer or recovery that is not ready. -/
def stNotReady (dnr : Bool) : Status := ⟨0, 0x82, dnr⟩
/-- Unrecovered Read Error (Table 12.4). -/
def stUnrecovered (dnr : Bool) : Status := ⟨2, 0x81, dnr⟩
/-- Write Fault (Table 12.4). -/
def stWriteFault (dnr : Bool) : Status := ⟨2, 0x80, dnr⟩
/-- Access Denied. -/
def stDenied : Status := stOf 2 0x86

/-- Statuses for which no Error Information entry is posted (R326): Success, Command Abort Requested and the zoned statuses. -/
def stQuiet (s : Status) : Bool :=
  (s.sct == 0 && (s.sc == 0 || s.sc == 7)) || (s.sct == 1 && decide (0xB8 ≤ s.sc ∧ s.sc ≤ 0xBF))

/-- The record of a command in flight. -/
def Dev.cmd? (d : Dev) (t : Tag) : Option CmdRec := d.cmds.find? fun c => decide (c.tag = t)

/-- Replace the record of a command in flight, or add it. -/
def Dev.putCmd (d : Dev) (c : CmdRec) : Dev := { d with cmds := d.cmds.filter (fun x => decide (x.tag ≠ c.tag)) ++ [c] }

/-- Commands of a controller in flight: not yet ended, or ended and not yet posted (R305). -/
def Dev.inFlight (d : Dev) (c : Fin 2) : Nat :=
  (d.cmds.filter fun x => decide (x.tag.ctrl = c)).length + (d.hst.post.filter fun x => decide (x.tag.ctrl = c)).length +
    (d.ctrl c).aers.length

/-- Post an Error Information entry (R326, R524): the SEQ of the record that explains it is not fixed by what has happened yet. (DESIGN CHOICE, log entry 14) -/
def Dev.addError (d : Dev) (t : Tag) (st : Status) (nsid lba : Nat) : Dev :=
  let (q, d) := d.drawNat
  let x := d.ctrl t.ctrl
  d.setCtrl t.ctrl { x with
    errCount := x.errCount + 1
    errors := ({ count := x.errCount + 1, tag := t, st := st, lba := lba, nsid := nsid, seq := q } :: x.errors).take 64 }

/-- End a command: its record goes, its Error Information entry is posted where its status asks for one, and its completion entry is
handed to HST (R307, R326), unless its controller has been reset (R315). -/
def Dev.finish (d : Dev) (t : Tag) (st : Status) (dw0 dw1 : Nat := 0) : Dev :=
  let (ns, lba) := match d.cmd? t with | some c => (c.nsid, (c.need.map (· % 2 ^ 40)).headD c.slba) | none => (0, 0)
  let silent := match d.cmd? t with | some c => c.silent | none => false
  let d := { d with cmds := d.cmds.filter fun x => decide (x.tag ≠ t) }
  if silent then d else
  let d := if stQuiet st then d else d.addError t st ns lba
  d.handOver { tag := t, st := st, dw0 := dw0, dw1 := dw1 }

/-- Change the record of a command in flight. -/
def Dev.modCmd (d : Dev) (t : Tag) (f : CmdRec → CmdRec) : Dev := { d with cmds := d.cmds.map fun x => if x.tag = t then f x else x }

/-- End a command that waits on a fenced pool (R53), if it is still in flight. -/
def Dev.failFenced (d : Dev) (t : Tag) : Dev := if (d.cmd? t).isSome then d.finish t stInternal else d

/-- A key that tells every two sectors of all namespaces apart. -/
def secKey (nsid lba : Nat) : Nat := nsid * 2 ^ 40 + lba

/-- Carry out a host command. Without an image only the commands of R470 act; every other ends with Command Sequence Error. (DESIGN CHOICE, log entry 43) -/
def Dev.host (d : Dev) (t : Tag) (minimalOk : Bool) (f : Dev → Dev) : Dev :=
  if d.load.minimal && !minimalOk then d.finish t stSequence else f d

/-- Data that a command returns to the host goes into the port's ordered transmit queue ahead of its completion (R32, R33). -/
def Dev.sendData (d : Dev) (t : Tag) (b : Bytes) : Dev := { d with hst := { d.hst with tx := d.hst.tx ++ [.data t b] } }

/-- Return data and end with Success. -/
def Dev.reply (d : Dev) (t : Tag) (b : Bytes) : Dev := (d.sendData t b).finish t stOk

end Sys2Proof.Machine
end

