-- ==== Sys2Proof/Machine/PowerOps.lean ====
section
/-! DEFINITION. Machine/PowerOps.lean: the power governor and the domains (chapter Power Domains, States and Wake). -/
namespace Sys2Proof.Machine

/-- Change PWR's own data. -/
def Dev.modPwr (d : Dev) (f : PwrS → PwrS) : Dev := { d with pwr := f d.pwr }

/-- The present state s (Table 17.2). -/
def Dev.pstate (d : Dev) : Nat := d.fld F.PWR_STAT_STATE

/-- Heads granted for reading and for writing. -/
def Dev.grantsRd (d : Dev) : Nat := (d.pwr.grants.filter fun g => !g.2).length
def Dev.grantsWr (d : Dev) : Nat := (d.pwr.grants.filter fun g => g.2).length

/-- Head n holds a grant of the kind wanted. -/
def Dev.granted (d : Dev) (n : Nat) (wr : Bool) : Bool := d.pwr.grants.contains (n, wr)

/-- Limits that the measured core supply sets (R495): below 0.70 V (code 20) and below 0.66 V (code 12), for read and write heads together and
for BUFCAP. (DESIGN CHOICE, log entry 51) -/
def Dev.coreLimit (d : Dev) : Option (Nat × Nat) :=
  let m := d.fld F.KNL_VCORE_MEAS
  if m < 12 then some (8, 512) else if m < 20 then some (12, 768) else none

/-- BUFCAP in effect (R495). -/
def Dev.bufcap (d : Dev) : Nat :=
  let c := d.fld (F.PWR_SCAP_BUFCAP d.pwr.caps)
  match d.coreLimit with | some (_, b) => min c b | none => c

/-- E for given figures (R493): domain 5 on, ring PHYs on, buffer cap, heads reading and writing. -/
def Dev.powerOf (d : Dev) (h p cap r w : Nat) : Nat :=
  d.fld F.PWR_COST0_BASE_MW + d.fld F.PWR_COST0_HOST_MW * h + d.fld F.PWR_COST3_RINGP_MW * p + d.fld F.PWR_COST1_BUF_IDLE_MW +
    cdiv (d.fld F.PWR_COST1_BUF_SPAN_MW * cap) 1024 + d.fld F.PWR_COST3_MARGIN_MW + d.fld F.PWR_COST2_READ_MW * r +
    d.fld F.PWR_COST2_WRITE_MW * w

/-- E with r and w heads granted (R493). -/
def Dev.estimate (d : Dev) (r w : Nat) : Nat := d.powerOf (d.on 5).toNat ((d.on 6).toNat + (d.on 7).toNat) d.bufcap r w

/-- The budget B (R493). -/
def Dev.budget (d : Dev) : Nat :=
  let m := d.fld (F.PWR_SMP_MP_MW d.pwr.caps)
  let l := d.fld F.PWR_LIMIT_LIMIT_MW
  if d.pwr.caps = 0 ∧ l ≠ 0 ∧ l < m then l else m

/-- The figures hold with r heads reading and w writing (R494, R495). (DESIGN CHOICE, log entry 51) -/
def Dev.fits (d : Dev) (r w : Nat) : Bool :=
  decide (r ≤ d.fld (F.PWR_SCAP_RD_MAX d.pwr.caps) ∧ w ≤ d.fld (F.PWR_SCAP_WR_MAX d.pwr.caps) ∧ d.estimate r w ≤ d.budget) &&
    (match d.coreLimit with | some (m, _) => decide (r + w ≤ m) | none => true)

/-- Show the governor's figures in PWR.GRANT, EST and GRANTMAP. -/
def Dev.showGrants (d : Dev) : Dev :=
  let d := ((d.setFld F.PWR_GRANT_RD d.grantsRd).setFld F.PWR_GRANT_WR d.grantsWr).setFld F.PWR_GRANT_BUFCAP d.bufcap
  let d := (d.setFld F.PWR_EST_EST_MW (d.estimate d.grantsRd d.grantsWr)).setFld F.PWR_EST_BUDGET_MW d.budget
  (d.setFld F.PWR_GRANT_RINGP (d.fld (F.PWR_SCAP_RINGP d.pwr.caps))).setFld F.PWR_GRANTMAP_HEADS
    (d.pwr.grants.foldl (fun m g => m ||| (1 <<< g.1)) 0)

/-- Withdraw grants, the most recent first, until the caps and B hold again; one event 0x1407 for each (R494). -/
def Dev.withdraw (d : Dev) : Nat → Dev
  | 0 => d
  | fuel + 1 =>
    match d.pwr.grants.getLast? with
    | none => d
    | some g =>
      if d.fits d.grantsRd d.grantsWr then d
      else
        let e := d.estimate d.grantsRd d.grantsWr
        let d := (d.modPwr fun p => { p with grants := p.grants.dropLast }).bump .pwr 9
        (d.event .pwr 0x07 g.1 d.budget e).withdraw fuel

/-- The first waiting request is granted at once if R494 lets it; requests behind one that waits wait too. -/
def Dev.grantNext (d : Dev) : Nat → Dev
  | 0 => d
  | fuel + 1 =>
    match d.pwr.waitq with
    | [] => d
    | (n, wr) :: rest =>
      if d.fits (d.grantsRd + (!wr).toNat) (d.grantsWr + wr.toNat) && !(d.granted n true || d.granted n false) then
        ((d.modPwr fun p => { p with grants := p.grants ++ [(n, wr)], waitq := rest }).bump .pwr (if wr then 7 else 6)).grantNext fuel
      else d

/-- The governor looks again: after any change of caps, budget, core supply, domains or grants. -/
def Dev.govern (d : Dev) : Dev :=
  let d := d.withdraw (d.pwr.grants.length)
  (d.grantNext d.pwr.waitq.length).showGrants

/-- A head request (R494). An armed injection of KIND 1 treats it as over budget: it waits. (DESIGN CHOICE, log entry 51) -/
def Dev.headRequest (d : Dev) (n : Nat) (wr : Bool) : Dev :=
  let had := d.pwr.waitq.length
  let d := d.modPwr fun p => { p with waitq := p.waitq ++ [(n, wr)] }
  let d := if d.flag F.PWR_INJECT_ARM && d.fld F.PWR_INJECT_KIND = 1 then d.setFlag F.PWR_INJECT_ARM false else d.govern
  if d.pwr.waitq.length = had + 1 then d.bump .pwr 8 else d

/-- A release (R494). (DESIGN CHOICE, log entry 51) -/
def Dev.headRelease (d : Dev) (n : Nat) : Dev := (d.modPwr fun p => { p with grants := p.grants.filter fun g => decide (g.1 ≠ n) }).govern

/-- A write to PWR.HEADREQ. -/
def Dev.headreqWrite (d : Dev) (v who : Nat) : Dev :=
  let n := v % 32
  if d.v && decide (10 ≤ n ∧ n < 20) then d.resWrite .pwr F.PWR_HEADREQ_OP.a v who else
  let d := (d.regWrite F.PWR_HEADREQ_OP.a v who).1
  match bitsAt v 30 2 with
  | 1 => d.headRequest n false
  | 2 => d.headRequest n true
  | 3 => d.headRelease n
  | _ => d

/-- Switch domains on or off: bit mask of ON. A domain that goes off has its pads held (R496). -/
def Dev.setDomains (d : Dev) (on : Nat) : Dev :=
  let off := d.fld F.PWR_STAT_ON &&& (0x1FF ^^^ on)
  (d.setFld F.PWR_STAT_HOLD (d.fld F.PWR_STAT_HOLD ||| (off &&& 0x1FE))).setFld F.PWR_STAT_ON on

/-- The held runs of the write cache: maximal runs of LBAs held in a namespace, and the sectors held. -/
def Dev.heldRuns (d : Dev) : Nat × Nat :=
  let h := d.zne.cache.filter fun c => c.held
  ((h.filter fun c => !h.any fun e => decide (e.nsid = c.nsid ∧ e.lba + 1 = c.lba)).length, h.length)

/-- Runs in the write cache. -/
def Dev.cacheRuns (d : Dev) : Nat :=
  (d.zne.cache.filter fun c => !d.zne.cache.any fun e => decide (e.nsid = c.nsid ∧ e.lba + 1 = c.lba)).length

/-- A controller's vote (R485): none for a port that is absent or has never trained, PS4 in D3 or with PERSTp_N low, else what it last selected. (DESIGN CHOICE, log entry 53) -/
def Dev.vote (d : Dev) (c : Fin 2) : Option Nat :=
  let x := d.ctrl c
  if !d.hasCtrl c || !x.trained then none else if x.d3 || x.perst then some 4 else some x.psVote

/-- The target state: the lowest-numbered vote, or BOOT_STATE; a whistle wake holds the device at WHISTLE_STATE or higher (R485, R498). -/
def Dev.targetState (d : Dev) : Nat :=
  let t := match d.vote 0, d.vote 1 with
    | some a, some b => min a b
    | some a, none => a
    | none, some b => b
    | none, none => d.fld F.PWR_CTRL_BOOT_STATE
  if d.pwr.whistle then min t (d.fld F.PWR_CTRL_WHISTLE_STATE) else t

/-- Show the votes and the target. -/
def Dev.showVotes (d : Dev) : Dev :=
  ((d.setFld F.PWR_VOTE_VOTE0 ((d.vote 0).getD 0xF)).setFld F.PWR_VOTE_VOTE1 ((d.vote 1).getD 0xF)).setFld F.PWR_STAT_TARGET d.targetState

/-- A controller's vote may have changed; a change ends a whistle's hold (R498). -/
def Dev.voted (d old : Dev) : Dev :=
  let d := if d.vote 0 = old.vote 0 ∧ d.vote 1 = old.vote 1 then d else d.modPwr fun p => { p with whistle := false }
  d.showVotes

end Sys2Proof.Machine
end

