-- ==== Sys2Proof/Machine/BufOps.lean ====
section
/-! DEFINITION. Machine/BufOps.lean: the GDDR7 buffer: lines, valid granules, slot maps, device states, the arbiter (chapter Buffer Memory and Its
Protection). -/
namespace Sys2Proof.Machine

/-! ## Device states -/

/-- State of device x (Table 8.4). -/
def Dev.devState (d : Dev) (x : Nat) : Nat := bitsAt (d.fld F.BUF_DEVSTATE_ST) (3 * x) 3

/-- Put a device into a state. -/
def Dev.setDevState (d : Dev) (x st : Nat) : Dev := d.setFld ⟨F.BUF_DEVSTATE_ST.a, 3 * x, 3⟩ st

/-- Devices that are not LIVE. -/
def Dev.notLive (d : Dev) : Nat := ((List.range 6).filter fun x => decide (d.devState x ≠ 0)).length

/-- Granules of the buffer's data capacity (R227). -/
def Dev.granules (d : Dev) : Nat := if d.flag F.BUF_PHY_DENS then 3145728 else 2097152

/-- Devices erased in an access to line L (R224, Table 8.4). -/
def Dev.erasedFor (d : Dev) (line : Nat) : List Nat :=
  (List.range 6).filter fun x => let st := d.devState x
    decide (st = 1 ∨ st = 2 ∨ (st = 3 ∧ d.fld F.BUF_RSLV_PTR ≤ line / 32))

/-- Devices to which BUF sends writes (Table 8.4). -/
def Dev.writable (d : Dev) : List Nat := (List.range 6).filter fun x => d.devState x == 0 || d.devState x == 3

/-! ## Valid granules and slot maps -/

def Dev.valid (d : Dev) (g : Nat) : Bool := d.buf.valid.get (fun _ => false) g
def Dev.setValid (d : Dev) (g : Nat) (b : Bool) : Dev := { d with buf := { d.buf with valid := d.buf.valid.set (fun _ => false) g b } }

/-- Number of slots of an actuator's track buffer (R232); a SIZE_LOG2 outside 4 to 12 counts as 0. -/
def Dev.tbufSize (d : Dev) (a : Nat) : Nat :=
  let s := d.fld (F.BUF_TBUF_SIZE_LOG2 a)
  if 4 ≤ s ∧ s ≤ 12 then 2 ^ s else 0

/-- Slot map of an actuator. -/
def Dev.slotMap (d : Dev) (a : Nat) : Tab (Option Nat) := if a = 0 then d.buf.slots0 else d.buf.slots1

/-- Replace a slot map; TBSTATa.BUSY counts its busy bits. -/
def Dev.setSlotMap (d : Dev) (a : Nat) (m : Tab (Option Nat)) : Dev :=
  (if a = 0 then { d with buf := { d.buf with slots0 := m } } else { d with buf := { d.buf with slots1 := m } }).setFld (F.BUF_TBSTAT_BUSY a)
    m.length

/-- A slot's busy bit. -/
def Dev.slotBusy (d : Dev) (a k : Nat) : Bool := ((d.slotMap a).get (fun _ => none) k).isSome
def Dev.setSlotBusy (d : Dev) (a k : Nat) (b : Bool) : Dev :=
  d.setSlotMap a ((d.slotMap a).set (fun _ => none) k (if b then some 0 else none))

/-- First line of a track-buffer slot (R232). -/
def Dev.slotLine (d : Dev) (a k : Nat) : Nat := (d.fld (F.BUF_TBUF_GRANULE a) + k) * 32

/-- Note that a line has been read: a busy slot all of whose 32 lines have been read since it became busy is freed (R232). -/
def Dev.slotRead (d : Dev) (a line : Nat) : Dev :=
  let g := line / 32
  let base := d.fld (F.BUF_TBUF_GRANULE a)
  if g < base ∨ base + d.tbufSize a ≤ g then d
  else match (d.slotMap a).get (fun _ => none) (g - base) with
    | none => d
    | some m =>
      let m := m ||| (1 <<< (line % 32))
      d.setSlotMap a ((d.slotMap a).set (fun _ => none) (g - base) (if m = 2 ^ 32 - 1 then none else some m))

/-! ## Lines -/

/-- The armed buffer injection of a KIND (R248). (DESIGN CHOICE, log entry 15) -/
def Dev.bufArmed (d : Dev) (kind : Nat) : Bool := d.flag F.BUF_INJECT_ARM && d.fld F.BUF_INJECT_KIND = kind
def Dev.bufDisarm (d : Dev) : Dev := d.setFlag F.BUF_INJECT_ARM false

/-- A stored symbol; memory that nothing has written holds zeros (the valid bits hide it). -/
def Dev.sym (d : Dev) (line beat dev : Nat) : Nat := (d.buf.sym.get (fun _ => 0) (96 * line + 6 * beat + dev)).toNat
def Dev.setSym (d : Dev) (line beat dev v : Nat) : Dev :=
  { d with buf := { d.buf with sym := d.buf.sym.set (fun _ => 0) (96 * line + 6 * beat + dev) (BitVec.ofNat 16 v) } }

/-- The six stored symbols of a beat. -/
def Dev.beat (d : Dev) (line b : Nat) : List Nat := (List.range 6).map fun i => d.sym line b i

/-- The six symbols of beat b of a line's 128 bytes (Table 8.3). -/
def beatOf (data : Bytes) (b : Nat) : List Nat :=
  rsEncode (leAt data (8 * b) 2) (leAt data (8 * b + 2) 2) (leAt data (8 * b + 4) 2) (leAt data (8 * b + 6) 2)

/-- The eight data bytes of a beat's symbols. -/
def beatBytes (s : List Nat) : Bytes := (s.take 4).flatMap fun x => leBytes 2 x

/-- Store a line on the given devices. -/
def Dev.storeLine (d : Dev) (line : Nat) (data : Bytes) (devs : List Nat) : Dev :=
  (List.range 16).foldl (fun d b => devs.foldl (fun d x => d.setSym line b x ((beatOf data b).getD x 0)) d) d

/-- A write to the valid-bit store at granule g: an armed injection of KIND 3 flips bit PATTERN[8:0] of the 64-byte block that is written, and the SRAM's code mends it (R246,
R248). (DESIGN CHOICE, log entry 15) -/
def Dev.validStruck (d : Dev) (g : Nat) : Dev :=
  if d.bufArmed 3 then
    let bit := d.fld F.BUF_INJECT_PATTERN % 512
    d.bufDisarm.sram .buf 0 (.mended (g / 512) (bit / 8) (bit % 8)) true
  else d

/-- The lines of a granule that no write has been accepted for are zero-filled, V is set and the entry is closed (R229). -/
def Dev.closeFill (d : Dev) (e : FillE) : Dev :=
  let missing := (List.range 32).filter fun i => !e.mask.testBit i
  let d := missing.foldl (fun d i => d.storeLine (32 * e.granule + i) (List.replicate 128 0) d.writable) d
  let d := ((d.setValid e.granule true).validStruck e.granule).bump .buf 3 missing.length
  let d := { d with buf := { d.buf with fills := d.buf.fills.erase e } }
  d.setFld F.BUF_STAT_FILLS d.buf.fills.length

/-- Open or extend the fill-tracker entry of a written line's granule (R229). -/
def Dev.trackFill (d : Dev) (line : Nat) : Dev :=
  let g := line / 32
  if d.valid g then d
  else match d.buf.fills.find? fun e => decide (e.granule = g) with
    | some e =>
      let e' := { e with mask := e.mask ||| (1 <<< (line % 32)) }
      let d := { d with buf := { d.buf with fills := d.buf.fills.map fun x => if x.granule = g then e' else x } }
      if e'.mask = 2 ^ 32 - 1 then d.closeFill e' else d
    | none =>
      let d := if 64 ≤ d.buf.fills.length then match d.buf.fills with | e :: _ => d.closeFill e | [] => d else d
      let d := { d with buf := { d.buf with fills := d.buf.fills ++ [(⟨g, 1 <<< (line % 32), d.now⟩ : FillE)] } }
      d.setFld F.BUF_STAT_FILLS d.buf.fills.length

/-- Whether a line reads as zeros without an access: V = 0, and no write to it has been accepted (R228). -/
def Dev.readsZero (d : Dev) (line : Nat) : Bool :=
  !d.valid (line / 32) && match d.buf.fills.find? fun e => decide (e.granule = line / 32) with
    | some e => !e.mask.testBit (line % 32)
    | none => true

/-- Count a correction against device x; in any window of one second the SUSPECT × 1,024th logs event 0x0903 once (R236). (DESIGN CHOICE, log entry 20) -/
def Dev.countCorr (d : Dev) (x : Nat) : Dev :=
  let w := (d.buf.corr.get (fun _ => ({} : DevWin)) x).stamps.filter fun t => decide (d.now < t + 1000000000)
  let w := w ++ [d.now]
  let d := d.bump .buf (4 + x)
  let put (d : Dev) (l : List Nat) : Dev := { d with buf := { d.buf with corr := d.buf.corr.set (fun _ => ({} : DevWin)) x (⟨l⟩ : DevWin) } }
  if d.fld F.BUF_CTRL_SUSPECT * 1024 ≤ w.length then (put d []).event .buf 0x03 w.length (w.headD 0 % 2 ^ 32) 0 x else put d w

/-- Count a burst of device x that still fails its EDC after the last retry (R220). (DESIGN CHOICE, log entry 20) -/
def Dev.countEdc (d : Dev) (x : Nat) (inj : Bool) : Dev :=
  let w := ((d.buf.edc.get (fun _ => ({} : DevWin)) x).stamps.filter fun t => decide (d.now < t + 1000000)) ++ [d.now]
  let d := d.bump .buf 12
  let put (d : Dev) (l : List Nat) : Dev := { d with buf := { d.buf with edc := d.buf.edc.set (fun _ => ({} : DevWin)) x (⟨l⟩ : DevWin) } }
  let bit : RF := ⟨F.BUF_DEVSTATE_LINK_FAIL.a, F.BUF_DEVSTATE_LINK_FAIL.lo + x, 1⟩
  if d.fld F.BUF_LINK_LINK_LIM ≤ w.length ∧ d.fld bit = 0 then
    ((put d []).setFld bit 1).event .buf 0x05 w.length (d.fld F.BUF_PHY_EDC_RETRY) (injBit inj) x
  else put d w

/-- Attempts of a burst to device x that fail their EDC, from the environment or from an injection of KIND 2 (R248). -/
def Dev.edcFails (d : Dev) (edc : List EdcFail) (line x : Nat) : Nat × Bool :=
  if d.bufArmed 2 && d.fld F.BUF_INJECT_DEV = x then (d.fld F.BUF_PHY_EDC_RETRY + 1, true)
  else match edc.find? fun e => decide (e.line = line ∧ e.dev = x) with
    | some e => (e.fails, false)
    | none => (0, false)

/-- Run the retries of a line's bursts (R220): the devices whose burst still fails after the last retry. -/
def Dev.edcRun (d : Dev) (edc : List EdcFail) (line : Nat) (devs : List Nat) : Dev × List Nat :=
  devs.foldl (fun (d, bad) x =>
    let (n, inj) := d.edcFails edc line x
    let r := d.fld F.BUF_PHY_EDC_RETRY
    let d := if inj then d.bufDisarm else d
    let d := d.bump .buf 11 (min n r)
    if r < n then (d.countEdc x inj, bad ++ [x]) else (d, bad)) (d, [])

/-- The XOR pattern an injection of KIND 0 or 1 puts on the symbols of a beat. -/
def Dev.injPattern (d : Dev) (s : List Nat) : List Nat :=
  let p := d.fld F.BUF_INJECT_PATTERN
  let s := s.modify (d.fld F.BUF_INJECT_DEV) (· ^^^ p)
  if d.flag F.BUF_INJECT_TWO then s.modify (d.fld F.BUF_INJECT_DEV2) (· ^^^ p) else s

/-- The outcome of reading one line: its data, or none if a beat is uncorrectable, and the corrections (beat, device, S0). -/
structure LineOut where
  data : Option Bytes
  corr : List (Nat × Nat × Nat) := []
deriving DecidableEq, Repr

/-- Decode the 16 beats of a line; `inj` flips the injected beat on the way (R223, R224). -/
def Dev.decodeLine (d : Dev) (line : Nat) (erased : List Nat) (inj : Bool) : LineOut × Option Nat :=
  (List.range 16).foldl (fun (o, bad) b =>
    let s := d.beat line b
    let s := if inj && b == d.fld F.BUF_INJECT_BEAT then d.injPattern s else s
    match rsBeat erased s with
    | .clean s => ({ o with data := o.data.map (· ++ beatBytes s) }, bad)
    | .corrected s x e => ({ data := o.data.map (· ++ beatBytes s), corr := o.corr ++ [(b, x, e)] }, bad)
    | .bad => ({ o with data := none }, if bad.isNone then some b else bad)) ({ data := some [] }, none)

/-- Read a line (R223 to R225, R228): zeros where V = 0; else each beat is decoded, corrections are counted and entered in the table of their
device, and an uncorrectable line is a detected fault (R54), logged as 0x0904 and entered in memory 14. `src` is the SRC of Table 8.6. -/
def Dev.lineRead (d : Dev) (line : Nat) (edc : List EdcFail) (src : Nat) : Dev × LineOut :=
  let d := if src = 0 then (d.slotRead 0 line).slotRead 1 line else d
  let d := d.bump .buf 0
  if d.readsZero line then (d.bump .buf 2, { data := some (List.replicate 128 0) })
  else
    let (d, bad) := d.edcRun edc line d.writable
    let inj := d.bufArmed 1
    let (o, badBeat) := d.decodeLine line (d.erasedFor line ++ bad) inj
    let d := if inj then d.bufDisarm else d
    let d := o.corr.foldl (fun d c => (d.countCorr c.2.1).memError .buf (8 + c.2.1) { addr := line, loc := c.1, pattern := c.2.2, src := src }) d
    match badBeat with
    | none => (d, o)
    | some b =>
      let d := ((d.memError .buf 14 { addr := line, loc := b, uncorr := true, src := src }).bump .buf 10).flagFault .buf 1 0
      (d.event .buf 0x04 line b (d.fld F.BUF_DEVSTATE_ST + injBit (inj || d.buf.inj.contains line)) 0, o)

/-- Device x's symbols of a line after a write that failed to the last: of each beat the old or the new symbol stands, and nothing says
which (R220). -/
def Dev.mixLine (d : Dev) (line : Nat) (data : Bytes) (x : Nat) : Dev :=
  (List.range 16).foldl (fun d b =>
    let d' := { d with free := d.free + 1 }
    if Config.freeBool d.free then d'.setSym line b x ((beatOf data b).getD x 0) else d') d

/-- Write a line (R222, R226, R229): all six symbols, on the devices that take writes; an injection of KIND 0 stays in memory, and the line counts as injected until it is
written again (R248). -/
def Dev.lineWrite (d : Dev) (line : Nat) (data : Bytes) (edc : List EdcFail) : Dev :=
  let d := (d.bump .buf 1).trackFill line
  let (d, bad) := d.edcRun edc line d.writable
  let d := d.storeLine line data (d.writable.filter fun x => !bad.contains x)
  let d := bad.foldl (fun d x => d.mixLine line data x) d
  let d : Dev := { d with buf := { d.buf with inj := d.buf.inj.filter fun l => decide (l ≠ line) } }
  if d.bufArmed 0 then
    let b := d.fld F.BUF_INJECT_BEAT
    let s := d.injPattern (d.beat line b)
    let d := ((List.range 6).foldl (fun d i => d.setSym line b i (s.getD i 0)) d).bufDisarm
    { d with buf := { d.buf with inj := line :: d.buf.inj } }
  else d

/-! ## Requests -/

/-- The pool of BUF through which a request comes, and the units that it takes there (Table 1.2): whole sectors for WRP, lines for MDC, else 256-byte
flits. A write takes as many of the DATA pool behind it (R16). -/
def BufReq.pool (r : BufReq) : Nat :=
  if r.client = 0 then 2 else if r.client = 1 then (if r.id % 32 < 10 then 4 else 5) else if r.client = 2 then 6 else if r.client = 3 then 7
  else if r.client = 4 then 9 else if r.client = 5 then 11 else if r.client = 6 then 13 else if r.client = 7 then 0 else 15
def BufReq.dataPool (r : BufReq) : Option Nat :=
  match r.op with
  | .read => none
  | .write _ => some (r.pool + 1)
def BufReq.units (r : BufReq) : Nat := if r.client = 1 then 1 else if r.client = 7 then r.n else (r.n + 1) / 2

/-- The requests that have gone to BUF with a credit of their pool, and for writes of the DATA pool too (R16, R38); the others of the list wait at their
clients, behind those. -/
def Dev.bufSent (d : Dev) : List BufReq :=
  let gone (p : Nat) : List BufReq := credited BufReq.units (d.credits .buf p) (d.buf.reqs.filter fun r => decide (r.pool = p))
  let goneData (p : Nat) : List BufReq := credited BufReq.units (d.credits .buf p) (d.buf.reqs.filter fun r => decide (r.dataPool = some p))
  d.buf.reqs.filter fun r => (gone r.pool).contains r && (match r.dataPool with | some p => (goneData p).contains r | none => true)

/-- A client asks BUF: the request joins those of its client, which go in order as credits allow. While READY is 0 every request gets an error response at
once (R219). -/
def Dev.bufAsk (d : Dev) (r : BufReq) : Dev :=
  if d.flag F.BUF_STAT_READY then { d with buf := { d.buf with reqs := d.buf.reqs ++ [r] } }
  else { d with buf := { d.buf with resps := d.buf.resps ++ [{ client := r.client, id := r.id, err := true, data := [], bad := some 0 }] } }

/-- Take the response to a client's request, if it is there. -/
def Dev.bufTake (d : Dev) (client id : Nat) : Option (BufResp × Dev) :=
  match d.buf.resps.find? fun r => decide (r.client = client ∧ r.id = id) with
  | some r => some (r, { d with buf := { d.buf with resps := d.buf.resps.erase r } })
  | none => none

/-- The head request of a client, if it has gone to BUF. -/
def Dev.bufHead (d : Dev) (c : Nat) : Option BufReq := d.bufSent.find? fun r => decide (r.client = c)

/-- Counter of a client in the round (R237). -/
def Dev.share (d : Dev) (c : Nat) : Nat := d.buf.shares.getD c 0

/-- SCB requests a granule of a resilver: a normal request of client 8 (R234, R237). -/
def Dev.resilverDue (d : Dev) : Bool :=
  d.buf.resilver.isSome && d.flag F.BUF_STAT_READY && d.buf.valid.any fun p => decide (d.fld F.BUF_RSLV_PTR ≤ p.1 ∧ p.1 < d.granules)

/-- The client that the arbiter grants, and the group (R237): normal requests of clients with a counter above 0, then other normal requests, then background
requests, each under its own round-robin pointer (R49). `extra` is a client that asks beside those whose requests are in the list. (DESIGN CHOICE, log entry 30) -/
def Dev.bufTurnOf (d : Dev) (extra : Option Nat) : Option (Nat × Nat) :=
  let normal (c : Nat) : Bool := extra == some c || (c == 8 && d.resilverDue) || match d.bufHead c with | some r => !r.bg | none => false
  match rrFirst (fun c => normal c && decide (0 < d.share c)) 9 9 d.buf.rr1 with
  | some c => some (c, 1)
  | none => match rrFirst normal 9 9 d.buf.rr2 with
    | some c => some (c, 2)
    | none => (rrFirst (fun c => (d.bufHead c).isSome) 9 9 d.buf.rr3).map fun c => (c, 3)

def Dev.bufTurn (d : Dev) : Option (Nat × Nat) := d.bufTurnOf none

/-- Units that may still be granted in the round: BUFCAP in all (R495). -/
def Dev.bufRoom (d : Dev) : Nat := d.bufcap - (1024 - d.buf.left)

/-- A round begins: every client's counter is its SHARE (R237). -/
def Dev.newRound (d : Dev) : Dev :=
  { d with buf := { d.buf with left := 1024, shares := (List.range 9).map fun c => d.fld (F.BUF_SHARE_SHARE c) } }

/-- The client's request that the arbiter grants, the group it is granted in, and how many of its lines: in group 1 at most as many as its counter and as the round has room
for (R237, R495). Where it is SCB's turn with a resilver granule, no client is granted. -/
def Dev.bufPick (d : Dev) : Option (BufReq × Nat × Nat) :=
  match d.bufTurn with
  | some (c, g) => if c = 8 ∧ d.resilverDue then none else (d.bufHead c).map fun r => (r, g, if g = 1 then min (min r.n (d.share c)) d.bufRoom else r.n)
  | none => none

/-- BUF idles for the rest of the round's time where BUFCAP leaves no room for what is next, and the next round begins (R495). -/
def Dev.bufIdle (d : Dev) : Dev :=
  match d.bufTurn, d.bufPick with
  | some (_, g), some (_, _, k) => if d.bufRoom = 0 ∨ (g ≠ 1 ∧ d.bufRoom < k) then d.newRound else d
  | some (_, g), none => if d.bufRoom < 2 ∨ (g ≠ 1 ∧ d.bufRoom < 64) then d.newRound else d
  | none, _ => d

/-- Charge a grant: units, round, the group's pointer (R237). (DESIGN CHOICE, log entry 30) -/
def Dev.bufCharge (d : Dev) (c group units : Nat) : Dev :=
  let left := d.buf.left - units
  let p := (c + 1) % 9
  let b := { d.buf with
    rr1 := if group = 1 then p else d.buf.rr1
    rr2 := if group = 2 then p else d.buf.rr2
    rr3 := if group = 3 then p else d.buf.rr3
    left := left
    shares := d.buf.shares.modify c (· - units) }
  let d := ({ d with buf := b }).bump .buf (13 + c) units
  if left = 0 then d.newRound else d

/-- The ring's ports (client 4 + p) move `k` flits between the buffer and the line: each is granted as it comes and charged 2 units (R237). (DESIGN CHOICE, log entry 30) -/
def Dev.ringUnits (d : Dev) (p k : Nat) : Dev :=
  (List.range k).foldl (fun (d : Dev) _ => d.bufCharge (4 + p) (if 0 < d.share (4 + p) then 1 else 2) 2) d

/-- Serve k lines of a request: reads gather data, writes store it. -/
def Dev.bufServe (d : Dev) (r : BufReq) (edc : List EdcFail) : Nat → Dev × BufReq
  | 0 => (d, r)
  | k + 1 =>
    match r.op with
    | .read =>
      let (d, o) := d.lineRead r.line edc 0
      let r := { r with
        line := r.line + 1, n := r.n - 1, got := r.got ++ o.data.getD (List.replicate 128 0), err := r.err || o.data.isNone
        bad := if o.data.isNone && r.bad.isNone then some (r.got.length / 128) else r.bad }
      d.bufServe r edc k
    | .write data =>
      let d := d.lineWrite r.line (data.take 128) edc
      d.bufServe { r with line := r.line + 1, n := r.n - 1, op := .write (data.drop 128) } edc k

/-- Upsets flip bits of stored symbols. -/
def Dev.upset (d : Dev) (us : List Upset) : Dev := us.foldl (fun d u => d.setSym u.line u.beat u.dev (d.sym u.line u.beat u.dev ^^^ u.xor)) d

end Sys2Proof.Machine
end

