-- ==== Sys2Proof/Machine/FlashOps.lean ====
section
/-! DEFINITION. Machine/FlashOps.lean: the flash array and what every flash operation shares (chapter In-Package Flash Array). -/
namespace Sys2Proof.Machine

/-- Operation status codes (Table 15.2). -/
def fsOK : Nat := 0x00
def fsCorrected : Nat := 0x01
def fsUncorr : Nat := 0x02
def fsErased : Nat := 0x03
def fsExecOnlyRead : Nat := 0x04
def fsNotBlank : Nat := 0x10
def fsPulseLimit : Nat := 0x11
def fsExecBank : Nat := 0x12
def fsExecOnly : Nat := 0x13
def fsProtected : Nat := 0x14
def fsBankSuspended : Nat := 0x15
def fsSuspEarly : Nat := 0x16
def fsNoErase : Nat := 0x17
def fsDieFailed : Nat := 0x18
def fsBadOp : Nat := 0x19
def fsAborted : Nat := 0x1A
def fsBusy : Nat := 0x1B
def fsNotReady : Nat := 0x1C

/-- Sector and bank of a code word (R440). -/
def sectorOf (word : Nat) : Nat := word / 2048
def bankOfSector (x : Nat) : Nat := x / 512

/-- A code word as stored; an unlisted word is erased. -/
def Dev.fword (d : Dev) (word : Nat) : FWord := d.flc.words.get (fun _ => .erased) word

/-- Store a code word. -/
def Dev.setFword (d : Dev) (word : Nat) (w : FWord) : Dev :=
  { d with flc := { d.flc with words := d.flc.words.set (fun _ => .erased) word w } }

/-- Make every word of a sector read as erased. -/
def Dev.eraseWords (d : Dev) (x : Nat) : Dev :=
  { d with flc := { d.flc with words := d.flc.words.filter fun p => decide (p.1 / 2048 ≠ x) } }

/-- An erase that has begun leaves the programmed words of its sector unreadable until it ends. (DESIGN CHOICE, log entry 47) -/
def Dev.tearWords (d : Dev) (x : Nat) : Dev :=
  { d with flc := { d.flc with words := d.flc.words.map fun p => if p.1 / 2048 = x then (p.1, .torn) else p } }

/-- The outcome of reading a stored word when the bits `flips` of its 272 read wrongly (R441): status, data, corrected bit. (DESIGN CHOICE, log entry 47) -/
def fwordRead (w : FWord) (flips : List Nat) : Nat × Bytes × Nat :=
  let zero : Bytes := List.replicate 32 0
  match w with
  | .torn => (fsUncorr, zero, 0)
  | .erased => if flips.isEmpty then (fsErased, List.replicate 32 0xFF, 0) else (fsUncorr, zero, 0)
  | .prog data => match flips with
    | [] => (fsOK, data, 0)
    | [b] => (fsCorrected, data, b)
    | _ => (fsUncorr, zero, 0)

/-- The data of a word that reads OK, with no bit flipped; the internal readers of journals use it. -/
def Dev.fdata (d : Dev) (word : Nat) : Option Bytes := match d.fword word with | .prog b => some b | _ => none

/-- A bank's state. -/
def Dev.bank (d : Dev) (k : Nat) : FBank := if k = 0 then d.flc.bank0 else d.flc.bank1
def Dev.setBank (d : Dev) (k : Nat) (b : FBank) : Dev :=
  if k = 0 then { d with flc := { d.flc with bank0 := b } } else { d with flc := { d.flc with bank1 := b } }

/-- An erase runs in bank k, an automatic suspension counting as running (R452). (DESIGN CHOICE, log entry 47) -/
def FBank.erasing (b : FBank) : Bool := match b.run with | some o => o.erase && b.susp != .slot | none => false
/-- An erase of the bank is suspended by a slot (R451). -/
def FBank.suspended (b : FBank) : Bool := b.run.isSome && b.susp == .slot
/-- A program runs in the bank. -/
def FBank.programming (b : FBank) : Bool := match b.run with | some o => !o.erase | none => false

/-- FLC.STAT.ERASING and SUSPENDED follow the banks (Table 15.6). -/
def Dev.flcStat (d : Dev) : Dev :=
  (d.setFld F.FLC_STAT_ERASING (d.flc.bank0.erasing.toNat + 2 * d.flc.bank1.erasing.toNat)).setFld F.FLC_STAT_SUSPENDED
    (d.flc.bank0.suspended.toNat + 2 * d.flc.bank1.suspended.toNat)

/-- The enabled execute-only region that holds a sector (R455). -/
def Dev.xoRegion (d : Dev) (sector : Nat) : Option Nat :=
  (List.range 8).find? fun i => d.flag (F.FLC_XO_EN i) &&
    decide (d.fld (F.FLC_XO_FIRST i) ≤ sector ∧ sector < d.fld (F.FLC_XO_FIRST i) + d.fld (F.FLC_XO_COUNT i))

/-- Source field of a flash event: the slot, or 0x00FF for FLC's own operations (R462). -/
def fsrc (slot : Nat) : Nat := if slot = 9 then 0xFF else slot

/-- Set a slot's status when its operation ends (R444). FLC's own operations (slot 9) have no registers. -/
def Dev.slotEnd (d : Dev) (slot st pulses : Nat) : Dev :=
  if slot = 9 then d
  else (((d.setFld (F.FLC_OP_STAT_BUSY slot) 0).setFld (F.FLC_OP_STAT_DONE slot) 1).setFld (F.FLC_OP_STAT_PULSES slot) pulses).setFld
    (F.FLC_OP_STAT_STATUS slot) st

/-- Refuse an operation (R445): event 0x1204, REFUSED, the array unchanged. -/
def Dev.flashRefuse (d : Dev) (slot st word op : Nat) : Dev :=
  ((d.slotEnd slot st 0).event .flc 0x04 st word op (fsrc slot)).bump .flc 9

/-- A GO that meets BUSY (R444): no effect but event 0x1204 with status BUSY. -/
def Dev.flashBusy (d : Dev) (slot word op : Nat) : Dev := (d.event .flc 0x04 fsBusy word op (fsrc slot)).bump .flc 9

/-- Put a word into a slot's data registers. -/
def Dev.slotData (d : Dev) (slot : Nat) (b : Bytes) : Dev :=
  (List.range 8).foldl (fun d j => d.setFld (F.FLC_OP_DATA_DATA slot j) (leAt b (4 * j) 4)) d

/-- The 32 bytes of a slot's data registers. -/
def Dev.slotBytes (d : Dev) (slot : Nat) : Bytes := (List.range 8).flatMap fun j => leBytes 4 (d.fld (F.FLC_OP_DATA_DATA slot j))

/-- Read a code word: its status and data, with the events, counters and memory-error entries of what the read meets (R441, R459). An armed FLC.INJECT of KIND 0 or 1 flips BIT,
or BIT and BIT + 1, of the next word read. -/
def Dev.readFword (d : Dev) (src word : Nat) (flips : List Nat) : (Nat × Bytes) × Dev :=
  let inj := d.flag F.FLC_INJECT_ARM && decide (d.fld F.FLC_INJECT_KIND ≤ 1)
  let bit := d.fld F.FLC_INJECT_BIT
  let flips := if inj then (if d.fld F.FLC_INJECT_KIND = 0 then bit :: flips else bit :: (bit + 1) :: flips) else flips
  let d := if inj then d.setFlag F.FLC_INJECT_ARM false else d
  let (st, data, bit) := fwordRead (d.fword word) flips
  let k := bankOfSector (sectorOf word)
  ((st, data),
    if st = fsCorrected then ((d.event .flc 0x01 word bit (injBit inj) src).memError .flc k { addr := word, pattern := bit }).bump .flc 1
    else if st = fsUncorr then ((d.event .flc 0x02 word 0 (injBit inj) src).memError .flc k { addr := word, uncorr := true, pattern := 0xFFFF }).bump .flc 2
    else d)

/-- Serve a READ (R441, R456, R459). -/
def Dev.serveRead (d : Dev) (slot word : Nat) (flips : List Nat) : Dev :=
  match d.xoRegion (sectorOf word) with
  | some r => (((d.slotData slot (List.replicate 32 0)).slotEnd slot fsExecOnlyRead 0).event .flc 0x03 word r 0 (fsrc slot)).bump .flc 10
  | none =>
    let ((st, data), d) := d.readFword (fsrc slot) word flips
    ((d.slotData slot data).slotEnd slot st 0).bump .flc 0

/-- Serve the READs that wait on a bank (R452). -/
def Dev.serveWaiting (d : Dev) (k : Nat) : Dev :=
  let rs := (d.bank k).reads
  rs.foldl (fun d r => d.serveRead r.1 r.2 []) (d.setBank k { d.bank k with reads := [] })

/-- The 32 bytes of an intent-journal record (Table 15.4). -/
def intentBytes (ty sector seq stamp : Nat) : Bytes :=
  leBytes 1 ty ++ [0] ++ leBytes 2 sector ++ leBytes 4 seq ++ leBytes 8 stamp ++ List.replicate 16 0

/-- Program a record into the INTENT partition of bank b, at its next free word (R447, R450). -/
def Dev.intentWrite (d : Dev) (b ty sector seq : Nat) : Dev :=
  let (sect, w) := if b = 0 then (d.flc.isect0, d.flc.iword0) else (d.flc.isect1, d.flc.iword1)
  let d := d.setFword ((512 * b + sect) * 2048 + w) (.prog (intentBytes ty sector seq d.now))
  if b = 0 then { d with flc := { d.flc with iword0 := w + 1 } } else { d with flc := { d.flc with iword1 := w + 1 } }

/-- Start an operation on its bank (R446, R447): the blank check of a PROGRAM, the INTENT record and first pulse of an ERASE. A failed die
starts nothing (R448), and an open execution keeps its bank to itself (R458). -/
def Dev.startOp (d : Dev) (o : FOp) : Dev :=
  let sector := if o.erase then o.at_ else sectorOf o.at_
  let k := bankOfSector sector
  let word := if o.erase then o.at_ * 2048 else o.at_
  if d.flag F.FLC_STAT_FAILED then d.flashRefuse o.slot fsDieFailed word (if o.erase then 2 else 1)
  else if d.flag F.FLC_STAT_EXEC && (o.erase || d.fld F.FLC_STAT_EXEC_BANK = k) then d.flashRefuse o.slot fsExecBank word (if o.erase then 2 else 1)
  else if o.erase then
    let seq := d.flc.intentSeq
    let d := { d with flc := { d.flc with intentSeq := seq + 1 } }
    let d := (d.intentWrite (1 - k) 1 sector seq).tearWords sector
    ((d.setBank k { d.bank k with run := some { o with seq := seq, since := d.now }, susp := .none }).bump .flc 5).flcStat
  else if d.fword o.at_ = .erased then (d.setBank k { d.bank k with run := some { o with since := d.now } }).bump .flc 3
  else (d.slotEnd o.slot fsNotBlank 0).event .flc 0x06 o.at_ 0 0 (fsrc o.slot)

/-- Whether an operation may start now: its bank runs nothing, and an ERASE waits for an erase that runs in the other bank (R444, R451), and for the end of a power failure
(R453). -/
def Dev.canStart (d : Dev) (o : FOp) : Bool :=
  let k := bankOfSector (if o.erase then o.at_ else sectorOf o.at_)
  (d.bank k).run.isNone && !(o.erase && ((d.bank (1 - k)).erasing || (d.bank (1 - k)).suspended || d.pwr.pf.isSome))

/-- Start an operation, or let it wait behind its bank. -/
def Dev.queueOp (d : Dev) (o : FOp) : Dev :=
  let k := bankOfSector (if o.erase then o.at_ else sectorOf o.at_)
  if d.canStart o then d.startOp o else d.setBank k { d.bank k with wait := (d.bank k).wait ++ [o] }

/-- When a bank falls idle, its waiting READs are served and, on either bank, the waiting operation whose slot comes first under R49 is started (R444); FLC's own come after slot 8. -/
def Dev.nextOps (d : Dev) (k : Nat) : Dev :=
  let d := d.serveWaiting k
  let go (d : Dev) (k : Nat) : Dev :=
    let b := d.bank k
    match rrFirst (fun i => b.wait.any fun o => o.slot == i && d.canStart o) 10 10 b.rr with
    | some i => (match b.wait.find? fun o => o.slot == i && d.canStart o with
      | some o => (d.setBank k { b with wait := b.wait.erase o, rr := (i + 1) % 10 }).startOp o
      | none => d)
    | none => d
  (go (go d k) (1 - k)).flcStat

/-- Leave a nearly full INTENT sector for the other one, which is always erased, and erase it (R450). -/
def Dev.intentRollover (d : Dev) (b : Nat) : Dev :=
  let (sect, w) := if b = 0 then (d.flc.isect0, d.flc.iword0) else (d.flc.isect1, d.flc.iword1)
  if w ≤ 2046 then d
  else
    let d := if b = 0 then { d with flc := { d.flc with isect0 := 1 - sect, iword0 := 0 } }
      else { d with flc := { d.flc with isect1 := 1 - sect, iword1 := 0 } }
    d.queueOp { slot := 9, erase := true, at_ := 512 * b + sect }

/-- End the operation a bank runs. -/
def Dev.endOp (d : Dev) (k : Nat) (o : FOp) (st : Nat) : Dev :=
  ((d.setBank k { d.bank k with run := none, susp := .none }).slotEnd o.slot st o.pulses).nextOps k

/-- Program one code word for the device's own journals, keys, images and flush batches: the refusals of Table 15.2 apply, and a word that is
programmed takes one pulse. The status tells the outcome (R446, R448, R451, R454, R457, R458). (DESIGN CHOICE, log entry 41) -/
def Dev.programWord (d : Dev) (word : Nat) (data : Bytes) (slot : Nat) : Dev × Nat :=
  let sector := sectorOf word
  let k := bankOfSector sector
  let st :=
    if !d.flag F.FLC_STAT_READY then fsNotReady
    else if d.flag F.FLC_STAT_FAILED then fsDieFailed
    else if d.flag F.FLC_STAT_EXEC && d.fld F.FLC_STAT_EXEC_BANK = k then fsExecBank
    else if (d.xoRegion sector).isSome then fsExecOnly
    else if (d.bank k).suspended then fsBankSuspended
    else if d.fword word ≠ .erased then fsNotBlank
    else fsOK
  if st = fsOK then (((d.setFword word (.prog data)).bump .flc 3).bump .flc 4, fsOK)
  else if st = fsNotBlank then (d.event .flc 0x06 word 0 0 (fsrc slot), st)
  else ((d.event .flc 0x04 st word 1 (fsrc slot)).bump .flc 9, st)

/-- Erase one sector for the device's own housekeeping (R357, R478, R519), with its INTENT and COMPLETE records (R447); it is refused where an ERASE of a slot would be (R448, R451,
R458). (DESIGN CHOICE, log entry 41) -/
def Dev.eraseSector (d : Dev) (x : Nat) : Dev :=
  let k := bankOfSector x
  let refuse (st : Nat) : Dev := (d.event .flc 0x04 st (x * 2048) 2 0xFF).bump .flc 9
  if d.flag F.FLC_STAT_FAILED then refuse fsDieFailed
  else if d.flag F.FLC_STAT_EXEC then refuse fsExecBank
  else if (d.bank 0).suspended || (d.bank 1).suspended then refuse fsBankSuspended
  else
    let seq := d.flc.intentSeq
    let d := { d with flc := { d.flc with intentSeq := seq + 1 } }
    let d := ((d.intentWrite (1 - k) 1 x seq).eraseWords x).intentWrite (1 - k) 2 x seq
    ((d.bump .flc 5).bump .flc 6).intentRollover (1 - k)

/-- End an open execution (R458). -/
def Dev.execEnd (d : Dev) : Dev :=
  let d := d.setFld F.FLC_STAT_EXEC 0
  { d with flc := { d.flc with region := none } }

/-- Power-fail (R453): an execution ends, a running or suspended erase ends with ABORTED and event 0x1208, a running PROGRAM goes on. -/
def Dev.flashPowerFail (d : Dev) : Dev :=
  let abort (d : Dev) (k : Nat) : Dev :=
    match (d.bank k).run with
    | some o => if o.erase then
        (d.event .flc 0x08 o.at_ o.pulses 0 (fsrc o.slot)).endOp k o fsAborted else d
    | none => d
  let d := if d.flag F.FLC_STAT_EXEC then d.execEnd else d
  abort (abort d 0) 1

/-- The records of the INTENT sectors that read OK (R454): (type, sector, SEQ, STAMP). -/
def Dev.intentRecords (d : Dev) : List (Nat × Nat × Nat × Nat) :=
  d.flc.words.filterMap fun p => match p.2 with
    | .prog b => if [0, 1, 512, 513].contains (p.1 / 2048) then some (leAt b 0 1, leAt b 2 2, leAt b 4 4, leAt b 8 8) else none
    | _ => none

/-- Sectors whose newest INTENT record has no COMPLETE of the same SEQ (R454), each with that record's SEQ and STAMP; INTENT sectors first. -/
def Dev.interrupted (d : Dev) : List (Nat × Nat × Nat) :=
  let rs := d.intentRecords
  let newest := rs.filter fun r => r.1 == 1 && rs.all fun q => !(q.1 == 1 && q.2.1 == r.2.1 && decide (r.2.2.1 < q.2.2.1))
  let open_ := newest.filter fun r => !rs.any fun q => q.1 == 2 && q.2.1 == r.2.1 && q.2.2.1 == r.2.2.1
  let l := open_.map Prod.snd
  (l.filter fun r => [0, 1, 512, 513].contains r.1) ++ l.filter fun r => !([0, 1, 512, 513].contains r.1)

/-- Write points of the INTENT partitions, from what the sectors hold: the sector with programmed words, and its first word after them. -/
def Dev.intentPoint (d : Dev) (b : Nat) : Nat × Nat :=
  let used (x : Nat) : Nat := (d.flc.words.filter fun p => decide (p.1 / 2048 = x)).foldl (fun m p => max m (p.1 % 2048 + 1)) 0
  if used (512 * b + 1) ≠ 0 ∧ used (512 * b) = 0 then (1, used (512 * b + 1))
  else if used (512 * b + 1) ≠ 0 ∧ used (512 * b + 1) ≤ used (512 * b) then (1, used (512 * b + 1)) else (0, used (512 * b))

end Sys2Proof.Machine
end

