-- ==== Sys2Proof/Machine/ZoneOps.lean ====
section
/-! DEFINITION. Machine/ZoneOps.lean: namespaces, zone contexts, the zone journal and the write cache (chapter Commands, Namespaces and Zones). -/
namespace Sys2Proof.Machine

def Dev.modZne (d : Dev) (f : ZneS → ZneS) : Dev := { d with zne := f d.zne }

/-- A namespace by NSID, and its index NSX. -/
def Dev.ns? (d : Dev) (nsid : Nat) : Option Ns := d.zne.nss.find? fun n => decide (n.nsid = nsid)
def nsxOf (nsid : Nat) : Nat := nsid - 1
def Dev.setNs (d : Dev) (n : Ns) : Dev := d.modZne fun z => { z with nss := z.nss.map fun x => if x.nsid = n.nsid then n else x }

/-- Zone size in LBAs. -/
def Ns.zs (n : Ns) : Nat := n.reg.zs
/-- Capacity in LBAs. -/
def Ns.cap (n : Ns) : Nat := n.zones * n.reg.zs
def Ns.attached (n : Ns) (c : Fin 2) : Bool := if c = 0 then n.att0 else n.att1

/-! ## Contexts -/

/-- NVMe zone state code (Table 12.6). -/
def condCode : ZCond → Nat
  | .empty => 1 | .implicit => 2 | .explicit => 3 | .closed => 4 | .full => 0xE

def Dev.zctx (d : Dev) (i : Nat) : ZCtx := d.zne.ctx.get (fun _ => {}) i

/-- A zone that has an entry in the active-zone table (R355): Opened, Closed, or Full with MEDIA below zs. -/
def ZCtx.active (c : ZCtx) (zs : Nat) : Bool :=
  match c.cond with
  | .empty => false
  | .full => decide (c.media < zs)
  | _ => true

/-- Zone size of the namespace of a context. -/
def Dev.zsOf (d : Dev) (c : ZCtx) : Nat := match d.zne.nss.find? fun n => decide (nsxOf n.nsid = c.nsx) with | some n => n.zs | none => 0

/-- The active-zone table (R356): contexts with an entry. -/
def Dev.activeZones (d : Dev) : List (Nat × ZCtx) := d.zne.ctx.filter fun p => p.2.active (d.zsOf p.2)

/-- Zones Opened or Closed (Table 12.7). -/
def Dev.activeCount (d : Dev) : Nat := (d.zne.ctx.filter fun p => match p.2.cond with | .implicit | .explicit | .closed => true | _ => false).length

/-- A zone context in its 32 bytes (Table 12.6). -/
def ZCtx.bytes (c : ZCtx) : Bytes :=
  leBytes 1 (condCode c.cond + 16 * c.held.toNat) ++ leBytes 1 c.nsx ++ leBytes 2 0 ++ leBytes 4 c.gen ++ leBytes 4 c.wp ++ leBytes 4 c.arrived ++
    leBytes 4 c.media ++ leBytes 4 c.heldCnt ++ leBytes 8 c.stamp

/-- An entry of the active-zone table in its 32 bytes (R356): what it holds is what the context holds, with the TBASE of the zone's last reserved write. -/
def ZCtx.activeEntry (c : ZCtx) (i : Nat) : Bytes :=
  leBytes 4 i ++ leBytes 1 c.nsx ++ leBytes 1 (condCode c.cond) ++ leBytes 2 0 ++ leBytes 4 c.gen ++ leBytes 4 c.wp ++ leBytes 4 c.media ++
    leBytes 4 c.arrived ++ leBytes 8 c.lastWr

/-- Replace a context; the active-zone table follows at the same instant (R356). An armed ZNE.INJECT of KIND 0 strikes the table's block that is written,
whose flipped bit is mended and reported (R246). (DESIGN CHOICE, log entry 46) -/
def Dev.setZctx (d : Dev) (i : Nat) (c : ZCtx) : Dev :=
  let written := (d.zctx i).active (d.zsOf (d.zctx i)) || c.active (d.zsOf c)
  let d := d.modZne fun z => { z with ctx := z.ctx.set (fun _ => {}) i c }
  let d := d.setFld F.ZNE_STAT_ACTIVE d.activeZones.length
  if written && d.flag F.ZNE_INJECT_ARM && d.fld F.ZNE_INJECT_KIND = 0 then
    (d.setFlag F.ZNE_INJECT_ARM false).sram .zne 0 (.mended (i / 2) (d.fld F.ZNE_INJECT_BIT / 8) (d.fld F.ZNE_INJECT_BIT % 8)) true
  else d

/-- Set the condition; STAMP is TBASE of the change. -/
def Dev.setCond (d : Dev) (i : Nat) (c : ZCtx) (k : ZCond) : Dev := d.setZctx i { c with cond := k, stamp := if c.cond = k then c.stamp else d.now }

/-! ## Journal (R355, R357) -/

/-- The 32 bytes of a record's code word (Table 12.12). -/
def jrecBytes (r : JRec) : Bytes :=
  leBytes 1 r.ty ++ leBytes 1 r.nsx ++ leBytes 4 r.ctx ++ leBytes 4 r.gen ++ leBytes 4 r.value ++ leBytes 8 r.stamp ++ leBytes 4 r.seq ++
    leBytes 4 r.media ++ [0, 0]
def jrecOf (b : Bytes) : JRec :=
  { ty := leAt b 0 1, nsx := leAt b 1 1, ctx := leAt b 2 4, gen := leAt b 6 4, value := leAt b 10 4, stamp := leAt b 14 8, seq := leAt b 22 4
    media := leAt b 26 4 }

/-- First code word of a journal half: 256 sectors from sector 180 of each bank. -/
def jbase (half : Nat) : Nat := (180 + 512 * half) * 2048
/-- Code words of a half. -/
def jlimit : Nat := 256 * 2048

/-- Program one record at the journal's next word. (DESIGN CHOICE, log entry 41) -/
def Dev.jput (d : Dev) (r : JRec) : Dev :=
  let r := { r with stamp := d.now, seq := d.zne.jseq % 2 ^ 32 }
  let d := (d.programWord (jbase d.zne.half + d.zne.jword) (jrecBytes r) 0).1
  (d.modZne fun z => { z with jword := z.jword + 1, jseq := z.jseq + 1 }).bump .zne 10

/-- SNAPSHOT records of every namespace and of every zone that is not Empty. -/
def Dev.snapshots (d : Dev) : List JRec :=
  d.zne.nss.flatMap fun n =>
    ({ ty := 11, nsx := nsxOf n.nsid, ctx := n.ctx, value := n.zones } : JRec) ::
      (List.range n.zones).filterMap fun z =>
        let c := d.zctx (n.ctx + z)
        if c.cond = .empty then none
        else some { ty := 11, nsx := nsxOf n.nsid, ctx := n.ctx + z, gen := c.gen, value := condCode c.cond * 2 ^ 28 + c.media }

/-- Switch halves (R357): snapshots into the other half, then the full half is erased. -/
def Dev.jswitch (d : Dev) : Dev :=
  let old := d.zne.half
  let d := d.modZne fun z => { z with half := 1 - old, jword := 0 }
  let d : Dev := d.snapshots.foldl (fun (d : Dev) r => d.jput r) d
  (List.range 256).foldl (fun (d : Dev) i => d.eraseSector (180 + 512 * old + i)) d

/-- JOURNAL_RECORD_WRITE (R355). (DESIGN CHOICE, log entry 42) -/
def Dev.jwrite (d : Dev) (r : JRec) : Dev := (if jlimit ≤ d.zne.jword then d.jswitch else d).jput r

/-- ZONE_WP records of the active-zone table, then CLEAN (R355). -/
def Dev.jclean (d : Dev) : Dev :=
  let d : Dev := d.activeZones.foldl (fun (d : Dev) p =>
    d.jwrite { ty := 12, nsx := p.2.nsx, ctx := p.1, gen := p.2.gen, value := p.2.wp, media := p.2.media }) d
  d.jwrite { ty := 8 }

/-- The next device generation (R332). -/
def Dev.newGen (d : Dev) : Nat × Dev :=
  let g := d.fld F.ZNE_GEN_GEN
  if g = 0x3FFFFFFF then (1, (d.setFld F.ZNE_GEN_GEN 1).event .zne 0x07 0 0 0 0) else (g + 1, d.setFld F.ZNE_GEN_GEN (g + 1))

/-! ## The write cache -/

/-- The cached sector of a namespace LBA. -/
def Dev.cached (d : Dev) (nsid lba : Nat) : Option CacheSec := d.zne.cache.find? fun c => decide (c.nsid = nsid ∧ c.lba = lba)

/-- Change every cached sector that satisfies a test. -/
def Dev.mapCache (d : Dev) (p : CacheSec → Bool) (f : CacheSec → CacheSec) : Dev :=
  d.modZne fun z => { z with cache := z.cache.map fun c => if p c then f c else c }

/-- Recorded LBA (R333). -/
def recorded (gen lba : Nat) : Nat := gen * 2 ^ 34 + lba

/-- Offsets of a zone's cached sectors that satisfy a test. -/
def Dev.zoneOffs (d : Dev) (n : Ns) (z : Nat) (p : CacheSec → Bool) : List Nat :=
  (d.zne.cache.filter fun c => decide (c.nsid = n.nsid ∧ c.lba / n.zs = z) && p c).map fun c => c.lba % n.zs

/-- Keep ARRIVED, HELDCNT and HELD of a zone with its cached sectors (Table 12.6). -/
def Dev.syncZone (d : Dev) (n : Ns) (z : Nat) : Dev :=
  let i := n.ctx + z
  let c := d.zctx i
  let held := (d.zoneOffs n z fun c => c.held).length
  d.setZctx i { c with arrived := (d.zoneOffs n z fun c => decide (c.lines < 32)).foldl min c.wp, held := held != 0, heldCnt := held }

/-- Keep MEDIA of a zone (R355): it stands at the first offset still in the cache; HINT records as it passes multiples of zs / 16, a FULL record
when it reaches zs. -/
def Dev.advanceMedia (d : Dev) (n : Ns) (z : Nat) : Dev :=
  let i := n.ctx + z
  let c := d.zctx i
  let m := (d.zoneOffs n z fun _ => true).foldl min c.wp
  if m ≤ c.media then d
  else
    let step := n.zs / 16
    let d := d.setZctx i { c with media := m }
    let d := if m / step ≠ c.media / step ∧ m < n.zs then
        d.jwrite { ty := 7, nsx := nsxOf n.nsid, ctx := i, gen := c.gen, value := m / step * step } else d
    if m = n.zs then d.jwrite { ty := 6, nsx := nsxOf n.nsid, ctx := i, gen := c.gen } else d

/-- Set Features, shutdowns and resets that wait for the cache look again: what a controller's shutdown asks for is done (R316). -/
def Dev.shutdownDone (d : Dev) : Bool := d.zne.cache.all fun c => c.held

def Dev.endShutdown (d : Dev) : Dev :=
  let waiting := d.ctrls.filter fun c => (d.ctrl c).shst = 1
  if waiting = [] ∨ ¬ d.shutdownDone then d
  else
    let (runs, secs) := d.heldRuns
    let d : Dev := waiting.foldl (fun (d : Dev) c =>
      let d := d.setCtrl c { d.ctrl c with shst := 2 }
      if runs = 0 then d else d.event .hst 0x0A runs secs 0 c.val) d
    d.jclean

/-- Discard the cached sectors that satisfy a test: their number, and how many held runs were among them. -/
def Dev.dropCache (d : Dev) (p : CacheSec → Bool) : Nat × Nat × Dev :=
  let gone := d.zne.cache.filter p
  let h := gone.filter fun c => c.held
  let runs := (h.filter fun c => !h.any fun e => decide (e.nsid = c.nsid ∧ e.lba + 1 = c.lba)).length
  (gone.length, runs, d.modZne fun z => { z with cache := z.cache.filter fun c => !p c })

/-- Held runs are given a fresh try (R148). -/
def Dev.releaseHeld (d : Dev) (p : CacheSec → Bool) : Dev := d.mapCache (fun c => c.held && p c) fun c => { c with held := false, order := none }

/-! ## Zone actions -/

/-- Reset a zone (R341): its data is discarded, a new generation, an Empty condition, a RESET record. -/
def Dev.resetZone (d : Dev) (n : Ns) (z : Nat) : Dev :=
  let i := n.ctx + z
  let c := d.zctx i
  if c.cond = .empty then d
  else
    let (secs, runs, d) := d.dropCache fun s => decide (s.nsid = n.nsid ∧ s.lba / n.zs = z)
    let (g, d) := d.newGen
    let d := d.setZctx i { cond := .empty, nsx := nsxOf n.nsid, gen := g, stamp := d.now }
    let d := (d.jwrite { ty := 5, nsx := nsxOf n.nsid, ctx := i, gen := g }).bump .zne 8
    if secs = 0 then d else d.event .zne 0x08 z secs runs n.nsid

/-- Make a zone Full (R341): a FULL record, WP at zs; a zone that leaves Empty has its OPEN record first (R355). Nothing is written for the rest. (DESIGN CHOICE, log entry 44) -/
def Dev.finishZone (d : Dev) (n : Ns) (z : Nat) : Dev :=
  let i := n.ctx + z
  let c := d.zctx i
  if c.cond = .full ∧ c.wp = n.zs then d
  else
    let d := if c.cond = .empty then d.jwrite { ty := 4, nsx := nsxOf n.nsid, ctx := i, gen := c.gen } else d
    let d := (d.jwrite { ty := 6, nsx := nsxOf n.nsid, ctx := i, gen := c.gen }).bump .zne 7
    d.setZctx i { c with cond := .full, wp := n.zs, arrived := n.zs, media := n.zs, stamp := d.now, finAt := some c.wp }

/-- Zones a zone command names: one, or with Select All every zone for which `ok` holds (R340). -/
def zonesOfCmd (n : Ns) (lba : Nat) (all : Bool) (ok : Nat → Bool) : List Nat :=
  if all then (List.range n.zones).filter ok else [lba / n.zs]

/-! ## Commands that wait for sectors -/

/-- Keys of the cached sectors of some zones of a namespace that satisfy a test. -/
def Dev.zoneKeys (d : Dev) (n : Ns) (zs : List Nat) (p : CacheSec → Bool) : List Nat :=
  (d.zne.cache.filter fun c => decide (c.nsid = n.nsid) && zs.contains (c.lba / n.zs) && p c).map fun c => secKey c.nsid c.lba

/-- A zone action waits for the sectors of its zones that satisfy `p`, those reserved since it began among them, and acts when there are none (R341). -/
def Dev.zoneAct (d : Dev) (c : CmdRec) (n : Ns) (zs : List Nat) (p : CacheSec → Bool) (f : Dev → Nat → Dev) : Dev :=
  let left := d.zoneKeys n zs p
  if left = [] then (zs.foldl f d).finish c.tag stOk else d.modCmd c.tag fun c => { c with need := left }

/-- What a waiting command does when it needs no more sectors. -/
def Dev.needMet (d : Dev) (c : CmdRec) : Dev :=
  match c.kind with
  | .zoneReset =>
    match d.ns? c.nsid with
    | some n => d.zoneAct c n (zonesOfCmd n c.slba (c.nlb != 0) fun z => decide ((d.zctx (n.ctx + z)).cond ≠ .empty)) (fun s => decide (s.lines < 32))
        fun d z => d.resetZone n z
    | none => d.finish c.tag stInvalidNs
  | .zoneFinish =>
    match d.ns? c.nsid with
    | some n =>
      let zs := zonesOfCmd n c.slba (c.nlb != 0) fun z => decide ((d.zctx (n.ctx + z)).cond ≠ .empty ∧ (d.zctx (n.ctx + z)).cond ≠ .full)
      if (d.zne.cache.any fun s => decide (s.nsid = n.nsid) && zs.contains (s.lba / n.zs) && s.held) then d.finish c.tag (stWriteFault false)
      else d.zoneAct c n zs (fun _ => true) fun d z => d.finishZone n z
    | none => d.finish c.tag stInvalidNs
  | _ => d.finish c.tag (c.failed.getD stOk) c.dw0 c.dw1

/-- What a command waits for: the arrival of sectors (Reset), or their writing to the media. -/
def CmdKind.waitsWrite : CmdKind → Bool
  | .write _ | .append _ | .zeroes _ | .flush | .zoneFinish => true
  | _ => false

/-- A sector has been written to the media, or (`arrived`) has its data: the commands that wait for it go on. -/
def Dev.noteSector (d : Dev) (key : Nat) (arrived : Bool) : Dev :=
  let hit (c : CmdRec) : Bool := c.need.contains key && (if arrived then c.kind == .zoneReset else c.kind.waitsWrite && c.desc == 0)
  let tags := (d.cmds.filter hit).map CmdRec.tag
  tags.foldl (fun (d : Dev) t => match d.cmd? t with
    | some c =>
      let c := { c with need := c.need.filter (· != key) }
      let d := d.putCmd c
      if c.need = [] then d.needMet c else d
    | none => d) d

/-- A sector cannot be written: the commands that wait for its writing end with Write Fault (R148, Table 12.4). -/
def Dev.failSector1 (d : Dev) (key : Nat) : Dev :=
  let tags := (d.cmds.filter fun c => c.need.contains key && c.kind.waitsWrite).map CmdRec.tag
  tags.foldl (fun (d : Dev) t => d.finish t (stWriteFault false)) d

/-- A sector of the write cache has been written to the media. -/
def Dev.secWritten (d : Dev) (c : CacheSec) : Dev :=
  let d := d.modZne fun z => { z with cache := z.cache.filter fun x => decide (¬ (x.nsid = c.nsid ∧ x.lba = c.lba)) }
  let d := match d.ns? c.nsid with
    | some n => (d.advanceMedia n (c.lba / n.zs)).syncZone n (c.lba / n.zs)
    | none => d
  (d.noteSector (secKey c.nsid c.lba) false).endShutdown

/-- Sectors become held (R148, R346): the commands that wait for them fail, and the asynchronous event is raised on both controllers. -/
def Dev.holdSectors (d : Dev) (p : CacheSec → Bool) : Dev :=
  let gone := d.zne.cache.filter p
  if gone = [] then d
  else
    let d := d.mapCache p fun c => { c with held := true, heldSince := d.now, order := none }
    let d : Dev := gone.foldl (fun (d : Dev) c => match d.ns? c.nsid with | some n => d.syncZone n (c.lba / n.zs) | none => d) d
    let d : Dev := gone.foldl (fun (d : Dev) c => d.failSector1 (secKey c.nsid c.lba)) d
    (d.raiseAenAll ⟨7, 0xE2, 0xD4⟩).endShutdown

/-- Lines [first, first + n) of a command's data have arrived in the buffer. -/
def Dev.linesArrived (d : Dev) (c : CmdRec) (first n : Nat) : Dev :=
  let got (i : Nat) : Nat := min (first + n) (32 * i + 32) - max first (32 * i)
  let secs := (List.range c.nlb).filter fun i => decide (0 < got i)
  let d : Dev := secs.foldl (fun (d : Dev) i =>
    d.mapCache (fun s => decide (s.nsid = c.nsid ∧ s.lba = c.slba + i)) fun s => { s with lines := min 32 (s.lines + got i) }) d
  let d := match d.ns? c.nsid with | some n => d.syncZone n (c.slba / n.zs) | none => d
  secs.foldl (fun (d : Dev) i => match d.cached c.nsid (c.slba + i) with
    | some s => if s.lines = 32 then d.noteSector (secKey c.nsid (c.slba + i)) true else d
    | none => d) d

/-- Sectors of a command's range whose data has not fully arrived read and are destaged as zero from now on (R348). (DESIGN CHOICE, log entry 44) -/
def Dev.zeroRest (d : Dev) (c : CmdRec) : Nat × Dev :=
  let p (s : CacheSec) : Bool := decide (s.nsid = c.nsid ∧ c.slba ≤ s.lba ∧ s.lba < c.slba + c.nlb ∧ s.lines < 32)
  let gone := d.zne.cache.filter p
  let d := d.mapCache p fun s => { s with zero := true, lines := 32 }
  let d := match d.ns? c.nsid with | some n => d.syncZone n (c.slba / n.zs) | none => d
  (gone.length, gone.foldl (fun (d : Dev) s => d.noteSector (secKey s.nsid s.lba) true) d)

/-- Status of a command whose descriptor ended with a DMA status (Table 12.4). -/
def descStatus (st : Nat) : Status :=
  match st with
  | 2 => stUnrecovered false
  | 3 | 4 | 5 | 6 => stDataTransfer
  | 7 => stAborted
  | _ => stInternal

/-- A command with no descriptor out and no media sector left to read: one that has been abandoned ends (R33); a read ends; a write is committed, and completes unless it must wait
for its writing (R34, R347); one of its sectors held makes that a Write Fault (R148). -/
def Dev.cmdCheck (d : Dev) (t : Tag) : Dev :=
  match d.cmd? t with
  | none => d
  | some c =>
    if c.desc ≠ 0 then d
    else match c.quit with
    | some (st, w) => d.finish t st w
    | none => match c.kind with
      | .read => if c.need = [] ∨ c.failed.isSome then d.finish t (c.failed.getD stOk) c.dw0 c.dw1 else d
      | .write fua | .append fua | .zeroes fua =>
        match c.failed with
        | some st => ((d.zeroRest c).2).finish t st
        | none =>
          let d := d.putCmd { c with committed := true }
          let left := (List.range c.nlb).filter fun i => (d.cached c.nsid (c.slba + i)).isSome
          if fua && (left.any fun i => match d.cached c.nsid (c.slba + i) with | some x => x.held | none => false) then d.finish t (stWriteFault false)
          else if fua && left ≠ [] then d.modCmd t fun c => { c with need := left.map fun i => secKey c.nsid (c.slba + i) }
          else d.finish t stOk c.dw0 c.dw1
      | _ => d

/-- A DMA descriptor of a command has reported (R287, R434): `first` is its first line in the command, `done` the lines delivered. -/
def Dev.cmdReport (d : Dev) (t : Tag) (first st done : Nat) : Dev :=
  match d.cmd? t with
  | none => d
  | some c =>
    let d := match c.kind with
      | .write _ | .append _ => d.linesArrived c first done
      | .ring =>
        let del (j : TJob) : TJob := if j.tag = t then { j with delivered := j.delivered + 1 } else j
        { d with rng := { d.rng with tjobs := d.rng.tjobs.map del } }
      | _ => d
    let d := d.modCmd t fun c => { c with desc := c.desc - 1, failed := if st = 0 ∨ c.failed.isSome then c.failed else some (descStatus st) }
    d.cmdCheck t

end Sys2Proof.Machine
end

