-- ==== Sys2Proof/Machine/DmaOps.lean ====
section
/-! DEFINITION. Machine/DmaOps.lean: channels, descriptors, bursts and their completion (chapter DMA Engine). -/
namespace Sys2Proof.Machine

def Dev.modDma (d : Dev) (f : DmaS → DmaS) : Dev := { d with dma := f d.dma }
def Dev.dch (d : Dev) (x : Nat) : DChan := d.dma.chans.get (fun _ => {}) x
def Dev.setDch (d : Dev) (x : Nat) (c : DChan) : Dev :=
  (d.modDma fun m => { m with chans := m.chans.set (fun _ => {}) x c }).setFlag (F.DMA_C_STAT_BUSY x) (c.runs != [])

/-- Ring size of a channel, and the store index of a ring slot (R282). -/
def Dev.ringSize (d : Dev) (x : Nat) : Nat := 2 ^ d.fld (F.DMA_C_CFG_RING_LOG2 x)
def Dev.storeIdx (d : Dev) (x i : Nat) : Nat := (16 * d.fld (F.DMA_C_CFG_RING_OFS x) + i) % 65536
def Dev.slotDesc (d : Dev) (x i : Nat) : Desc := d.dma.store.get (fun _ => {}) (d.storeIdx x i)
def Dev.setSlotDesc (d : Dev) (x i : Nat) (c : Desc) : Dev := d.modDma fun m => { m with store := m.store.set (fun _ => {}) (d.storeIdx x i) c }

/-- The descriptor in 32 bytes (Table 10.3). -/
def descOf (b : Bytes) : Desc :=
  { src := leAt b 0 8, dst := leAt b 8 8, lines := leAt b 16 4, tag := leAt b 20 2, swin := leAt b 22 1, dwin := leAt b 23 1
    port := if (leAt b 24 1).testBit 0 then 1 else 0, fence := (leAt b 24 1).testBit 1, irq := (leAt b 24 1).testBit 2
    own := (leAt b 31 1).testBit 7 }

/-- Mark or unmark a channel as halted. -/
def Dev.setHalted (d : Dev) (x : Nat) (b : Bool) : Dev :=
  (d.setFlag (F.DMA_C_STAT_HALTED x) b).setFld ⟨(if x < 32 then F.DMA_HALT_LO_HALTED.a else F.DMA_HALT_HI_HALTED.a), x % 32, 1⟩ b.toNat

/-- Give a sequencer its report (R281); a command served by the descriptor goes on. -/
def Dev.dmaReport (d : Dev) (seq x : Nat) (c : Desc) (status done idx : Nat) : Dev :=
  let d := d.modDma fun m => { m with reports := m.reports ++ [{ seq := seq, tag := c.tag, ch := x, status := status, done := done, idx := idx }] }
  match c.cmd with
  | some (t, first) => d.cmdReport t first status done
  | none => d

/-- Staging flits used by an engine (R278). -/
def Dev.stageUsed (_ : Dev) (e : Nat) : RF := if e = 0 then F.DMA_STAT_RD_USED else F.DMA_STAT_WR_USED
def Dev.stageShare (d : Dev) (e : Nat) : Nat := d.fld (if e = 0 then F.DMA_STAGE_RD_FLITS else F.DMA_STAGE_WR_FLITS)

/-- Byte o of a side of a transfer (R284). -/
def winAddr (a win o : Nat) : Nat := if win = 0 then a + o else a - a % 2 ^ win + (a + o) % 2 ^ win

/-- DMA_ADDRESS_CHECK (R284): `e` is the engine. (DESIGN CHOICE, log entry 32) -/
def Dev.dmaAddrOk (d : Dev) (x e : Nat) (c : Desc) : Bool :=
  let (ba, bw, ha, hw) := if e = 0 then (c.src, c.swin, c.dst, c.dwin) else (c.dst, c.dwin, c.src, c.swin)
  let len := 128 * c.lines
  let cap := 4096 * d.granules
  let lo := if bw = 0 then ba else ba - ba % 2 ^ bw
  let wraps := bw != 0 && decide (2 ^ bw < ba % 2 ^ bw + len)
  let first := if wraps then lo else ba
  let last := if wraps then lo + 2 ^ bw else ba + len
  decide (1 ≤ c.lines ∧ c.lines ≤ 131072) && (bw == 0 || decide (12 ≤ bw ∧ bw ≤ 34)) && (hw == 0 || decide (12 ≤ hw ∧ hw ≤ 63)) &&
    (bw == 0 || decide (len ≤ 2 ^ bw)) && (hw == 0 || decide (len ≤ 2 ^ hw)) && decide (last ≤ cap) &&
    (decide (x < 56) || decide (4096 * d.fld F.DMA_DIAG_LO_FIRST ≤ first ∧ last ≤ 4096 * d.fld F.DMA_DIAG_HI_LIMIT)) &&
    decide (ba % 128 = 0 ∧ ha % 4 = 0)

/-- Pieces (offset, length) of a transfer of n bytes from a host address: none crosses a 4 KiB boundary or is longer than `mx` (R311). -/
def hostPieces (mx : Nat) : Nat → Nat → Nat → Nat → List (Nat × Nat)
  | 0, _, _, _ => []
  | fuel + 1, a, o, n =>
    if n = 0 then [] else
      let k := min n (min mx (4096 - (a + o) % 4096))
      (o, k) :: hostPieces mx fuel a (o + k) (n - k)

/-- Put something into the transmit queue. -/
def Dev.sendTx (d : Dev) (t : Tx) : Dev := { d with hst := { d.hst with tx := d.hst.tx ++ [t] } }

/-- Send a host-memory write (R311). -/
def Dev.hostWrite (d : Dev) (ch addr : Nat) (b : Bytes) : Dev := ((d.sendTx (.write ch addr b)).bump .dma 7).bump .hst 3

/-- Send a host-memory read request (R311). -/
def Dev.hostRead (d : Dev) (burst : Option Nat) (ofs ch : Nat) (port : Fin 2) (addr len : Nat) : Dev :=
  let id := d.hst.nextRead
  let r : HRead := { id := id, burst := burst, ofs := ofs, ch := ch, port := port, addr := addr, len := len, since := d.now }
  (({ d with hst := { d.hst with reads := d.hst.reads ++ [r], nextRead := id + 1 } }).sendTx (.read ch addr len)).bump .hst 4 |>.bump .dma 8

/-- Largest payload and read request of a controller's function. (PRESUMED, log entry 3) -/
def Dev.mps (d : Dev) (p : Fin 2) : Nat := min (max (d.ctrl p).mps 128) 512
def Dev.mrrs (d : Dev) (p : Fin 2) : Nat := min (max (d.ctrl p).mrrs 128) 4096

/-- The port of a descriptor is declared failed. -/
def Dev.portFailed (d : Dev) (p : Fin 2) : Bool := d.flag (F.HST_PSTAT_FAILED p.val)

/-! ## Completion -/

/-- Address of a descriptor in a host ring (R283). -/
def Dev.hostRing (d : Dev) (x i : Nat) : Nat :=
  d.fld (F.DMA_C_RBASE_LO_RBASE x) + 2 ^ 32 * d.fld (F.DMA_C_RBASE_HI_RBASE x) + 32 * i

/-- A host channel reads the descriptor at HEAD (R283); a doorbell that comes while it is read has it read again. -/
def Dev.fetchDesc (d : Dev) (x : Nat) : Dev :=
  let c := d.dch x
  if c.fetching then d.setDch x { c with again := true }
  else if c.runs ≠ [] || d.flag (F.DMA_C_STAT_HALTED x) || !d.flag F.DMA_DIAG_UNLOCKED || !d.flag (F.DMA_C_CFG_EN x) then d
  else (d.setDch x { c with fetching := true }).hostRead none 0 x 0 (d.hostRing x (d.fld (F.DMA_C_STAT_HEAD x))) 32

/-- The report as the 16 bytes that the poster receives (Table 10.4). -/
def DReport.token (r : DReport) : Bytes :=
  leBytes 2 r.tag ++ leBytes 1 r.ch ++ leBytes 1 r.status ++ leBytes 4 r.done ++ leBytes 2 r.idx ++ List.replicate 6 0

/-- Complete the descriptor at the head of a channel (R282, R283, R287, R288). -/
def Dev.endDesc (d : Dev) (x : Nat) (c : Desc) (idx status done : Nat) (inj : Bool := false) : Dev :=
  let c' := { c with own := false, status := status, done := done }
  let d := (d.setFld (F.DMA_C_STAT_LAST_STATUS x) status).setFld (F.DMA_C_STAT_HEAD x) ((idx + 1) % d.ringSize x)
  let d := d.bump .dma (if status = 0 then 2 else if status = 7 then 4 else 3)
  let bad := decide (2 ≤ status ∧ status ≤ 6)
  let d := if bad then (d.setHalted x true).event .dma 0x01 c.tag idx (status + 256 * done + injBit inj) x else d
  if x < 56 then (d.setSlotDesc x idx c').dmaReport (d.fld (F.DMA_C_CFG_OWNER x)) x c status done idx
  else
    let d := d.hostWrite x (d.hostRing x idx) (descBytes c')
    if c.irq then d.sendTx (.msix c.port 129) else d

/-- The descriptor has no more to issue, and every line it delivers has its write response. -/
def DRun.finished (r : DRun) (bursts : List Burst) (x : Nat) : Bool :=
  (r.err.isSome || r.issued == r.desc.lines) && !bursts.any fun b => b.ch == x && b.idx == r.idx && !b.dead

/-- Abandon the descriptors of a stopped channel that have not started (R289), from its HEAD on. -/
def Dev.abandonRing (d : Dev) (x : Nat) : Nat → Dev
  | 0 => d
  | fuel + 1 =>
    let i := d.fld (F.DMA_C_STAT_HEAD x)
    let c := d.slotDesc x i
    if x < 56 ∧ c.own then (d.endDesc x c i 7 0).abandonRing x fuel else d

/-- Complete in ring order what can complete (R287); a stopped channel then abandons the rest and halts (R289). -/
def Dev.settleDma (d : Dev) (x : Nat) : Nat → Dev
  | 0 => d
  | fuel + 1 =>
    let c := d.dch x
    match c.runs with
    | [] =>
      if c.stopping then
        let d := (d.abandonRing x (d.ringSize x)).setHalted x true
        d.setDch x { d.dch x with stopping := false, next := d.fld (F.DMA_C_STAT_HEAD x) }
      else if 56 ≤ x then d.fetchDesc x else d
    | r :: rest =>
      if r.finished d.dma.bursts x then
        let d := d.setDch x { c with runs := rest }
        let (st, k) := match r.err with | some (st, k) => (st, min k r.desc.lines) | none => (0, r.desc.lines)
        (d.endDesc x r.desc r.idx st k r.inj).settleDma x fuel
      else d

/-- Settle a channel: at most every started descriptor and the state after them. -/
def Dev.settleCh (d : Dev) (x : Nat) : Dev := d.settleDma x ((d.dch x).runs.length + 1)

/-! ## Posts -/

/-- A post by a sequencer (R281, R282). -/
def Dev.dmaPost (d : Dev) (seq x : Nat) (c : Desc) : Dev :=
  let tail := d.fld (F.DMA_C_TAIL_TAIL x)
  let refuse (st : Nat) : Dev := ((d.bump .dma 1).event .dma 0x02 seq st c.tag x).dmaReport seq x c st 0 0xFFFF
  if 56 ≤ x ∨ d.fld (F.DMA_C_CFG_OWNER x) ≠ seq then refuse 9
  else if !d.flag (F.DMA_C_CFG_EN x) then refuse 0xA
  else if (d.slotDesc x tail).own then refuse 8
  else
    let d := d.setSlotDesc x tail { c with own := true, status := 0, done := 0 }
    (d.setFld (F.DMA_C_TAIL_TAIL x) ((tail + 1) % d.ringSize x)).bump .dma 0

/-- A post on behalf of a command: it has one more descriptor out. Where the pool of its posts is fenced the command ends (R53). -/
def Dev.postFor (d : Dev) (seq x : Nat) (t : Tag) (first : Nat) (src dst lines swin : Nat) : Dev :=
  if !d.poolOpen .dma seq then d.failFenced t else
  let tag := d.dma.nextTag
  let d := d.modDma fun m => { m with nextTag := (tag + 1) % 65536 }
  (d.modCmd t fun c => { c with desc := c.desc + 1 }).dmaPost seq x
    { src := src, dst := dst, lines := lines, tag := tag, swin := swin, port := t.ctrl, cmd := some (t, first) }

/-! ## Issue -/

/-- Lines of a burst of at most BURST flits from line o: it ends where the buffer window wraps. -/
def burstLines (ba win o left burst : Nat) : Nat :=
  min (2 * burst) (min left (if win = 0 then left else (2 ^ win - (ba + 128 * o) % 2 ^ win) / 128))

/-- Release the staging of a burst. -/
def Dev.freeStage (d : Dev) (b : Burst) : Dev :=
  let f := d.stageUsed (d.fld (F.DMA_C_CFG_ENGINE b.ch))
  (d.setFld f (d.fld f - b.flits)).modDma fun m => { m with bursts := m.bursts.filter fun x => decide (x.id ≠ b.id) }

/-- The descriptor that a channel would issue from next: one it has begun, or the next of its ring. -/
def Dev.dmaNext (d : Dev) (x : Nat) : Option (DRun × Bool) :=
  let c := d.dch x
  match c.runs.find? fun r => r.err.isNone && decide (r.issued < r.desc.lines) with
  | some r => if r.desc.fence && (c.runs.head?.map DRun.idx) != some r.idx then none else some (r, false)
  | none =>
    let s := d.slotDesc x c.next
    if 56 ≤ x ∨ ¬ s.own ∨ (c.runs.any fun r => decide (r.idx = c.next)) then none
    else if s.fence ∧ c.runs ≠ [] then none
    else some ({ idx := c.next, desc := s }, true)

/-- A channel of engine e that has something to issue, or to end. -/
def Dev.dmaReady (d : Dev) (e x : Nat) : Bool :=
  d.flag (F.DMA_C_CFG_EN x) && decide (d.fld (F.DMA_C_CFG_ENGINE x) = e) && !d.flag (F.DMA_C_STAT_HALTED x) && !(d.dch x).stopping &&
    (d.dmaNext x).isSome

/-- Change a started descriptor of a channel. -/
def Dev.modRunD (d : Dev) (x idx : Nat) (f : DRun → DRun) : Dev :=
  d.setDch x { d.dch x with runs := (d.dch x).runs.map fun r => if r.idx = idx then f r else r }

/-- A descriptor meets an error at line k (R288): it issues no more, and the bursts at or after k are discarded. Of two errors, or of an error after a STOP, the one at the
lower line counts. -/
def Dev.descError (d : Dev) (x idx status k : Nat) (inj : Bool := false) : Dev :=
  let d := d.modRunD x idx fun r => match r.err with
    | some (_, k0) => if k < k0 then { r with err := some (status, k), inj := inj } else r
    | none => { r with err := some (status, k), inj := inj }
  let hit (b : Burst) : Bool := b.ch == x && b.idx == idx && !b.sent && decide (k ≤ b.first)
  (d.modDma fun m => { m with bursts := m.bursts.map fun b => if hit b then { b with dead := true } else b }).settleCh x

/-- Flits of the DMA engines that are at HST: host-memory writes sent and not answered (pools 4 and 5), read requests out (pool 6). -/
def Dev.hstWrites (d : Dev) : Nat :=
  ((d.dma.bursts.filter fun b => b.sent && decide (d.fld (F.DMA_C_CFG_ENGINE b.ch) = 0)).map Burst.flits).foldl (· + ·) 0
def Dev.hstReads (d : Dev) : Nat := (d.hst.reads.map fun r => (r.len + 255) / 256).foldl (· + ·) 0

/-- Whether a unit goes with credits of a pool of which `used` are out: the first always does where a credit exists (R16, R38). -/
def Dev.fitsPool (d : Dev) (b : Blk) (j used n : Nat) : Bool :=
  decide (0 < d.credits b j) && (decide (used + n ≤ d.credits b j) || used == 0)

/-- Lines of the next burst of a descriptor (R285). -/
def Dev.burstOf (d : Dev) (e x : Nat) (r : DRun) : Nat :=
  let (ba, bw) := if e = 0 then (r.desc.src, r.desc.swin) else (r.desc.dst, r.desc.dwin)
  burstLines ba bw r.issued (r.desc.lines - r.issued) (d.fld (F.DMA_C_CFG_BURST x))

/-- The engine's staging share has room for the next burst of a descriptor (R278). -/
def Dev.stageFits (d : Dev) (e x : Nat) (r : DRun) : Bool := decide (d.fld (d.stageUsed e) + (d.burstOf e x r + 1) / 2 ≤ d.stageShare e)

/-- The read requests of the next burst of the write engine: none crosses a 4 KiB boundary or is longer than Max Read Request Size (R311). -/
def Dev.burstReads (d : Dev) (e x : Nat) (r : DRun) : List (Nat × Nat) :=
  let n := d.burstOf e x r
  hostPieces (d.mrrs r.desc.port) (128 * n) (winAddr r.desc.src r.desc.swin (128 * r.issued)) 0 (128 * n)

/-- The credits of its queue are there for the next burst of a descriptor (R16, R285): BUF's pool 6, or HST's pool 6 and tags of its port, of which 768 are outstanding at most
(Table 11.2). -/
def Dev.creditFits (d : Dev) (e x : Nat) (r : DRun) : Bool :=
  let flits := (d.burstOf e x r + 1) / 2
  if e = 0 then d.fitsPool .buf 6 (((d.buf.reqs.filter fun q => decide (q.client = 2)).map BufReq.units).foldl (· + ·) 0) flits
  else d.fitsPool .hst 6 d.hstReads flits &&
    decide ((d.hst.reads.filter fun q => decide (q.port = r.desc.port)).length + (d.burstReads e x r).length ≤ 768)

/-- A descriptor that a channel is granted ends in place of issuing: abandoned, refused by the address check, or of a failed port. -/
def Dev.dmaEnds (d : Dev) (e x : Nat) (r : DRun) : Option (Nat × Nat) :=
  if r.desc.quit then some (7, r.issued)
  else if r.issued = 0 && !d.dmaAddrOk x e r.desc then some (1, 0)
  else if d.portFailed r.desc.port then some (5, r.issued)
  else none

/-- Issue one burst of a started descriptor (R285): from the buffer, or read requests to the host. -/
def Dev.issueBurst (d : Dev) (e x : Nat) (r : DRun) : Dev :=
  let c := r.desc
  let n := d.burstOf e x r
  let flits := (n + 1) / 2
  let used := d.stageUsed e
  if !d.stageFits e x r || !d.creditFits e x r then d
  else
    let reads := d.burstReads e x r
    let id := d.dma.nextId
    let b : Burst := { id := id, ch := x, idx := r.idx, first := r.issued, n := n, flits := flits }
    let d := (d.setFld used (d.fld used + flits)).modDma fun m => { m with bursts := m.bursts ++ [b], nextId := id + 1 }
    let d := d.modRunD x r.idx fun q => { q with issued := q.issued + n }
    if e = 0 then d.bufAsk { client := 2, id := id, line := winAddr c.src c.swin (128 * r.issued) / 128, n := n, op := .read }
    else
      reads.foldl (fun (d : Dev) p => d.hostRead (some id) p.1 x c.port (winAddr c.src c.swin (128 * r.issued + p.1)) p.2) d

/-- A ready channel that may be granted (R285): its descriptor ends, or its next burst has staging and credits. -/
def Dev.dmaMay (d : Dev) (e x : Nat) : Bool :=
  d.dmaReady e x && match d.dmaNext x with
    | some (r, _) => (d.dmaEnds e x r).isSome || (d.stageFits e x r && d.creditFits e x r)
    | none => false

/-- A ready channel waits for staging space. -/
def Dev.stageWaits (d : Dev) (e : Nat) : Bool :=
  (List.range 64).any fun x => d.dmaReady e x && match d.dmaNext x with
    | some (r, _) => (d.dmaEnds e x r).isNone && !d.stageFits e x r
    | none => false

/-- Grant one channel of an engine under R49 (R285): start its descriptor if it is new, and issue one burst. Where none may be granted because the staging share is full, that is
counted (R293). -/
def Dev.dmaGrant (d : Dev) (e : Nat) : Dev :=
  match rrFirst (fun x => d.dmaMay e x) 64 64 (if e = 0 then d.dma.rr0 else d.dma.rr1) with
  | none => if d.stageWaits e then d.bump .dma 9 else d
  | some x =>
    let d := d.modDma fun m => if e = 0 then { m with rr0 := (x + 1) % 64 } else { m with rr1 := (x + 1) % 64 }
    match d.dmaNext x with
    | none => d
    | some (r, new) =>
      let d := if new then d.setDch x { d.dch x with runs := (d.dch x).runs ++ [r], next := ((d.dch x).next + 1) % d.ringSize x } else d
      match d.dmaEnds e x r with
      | some (st, k) => d.descError x r.idx st k
      | none => d.issueBurst e x r

/-! ## Delivery -/

/-- The data of a burst, when all of it has arrived. -/
def Burst.data (b : Burst) : Option Bytes :=
  let n := (b.parts.map fun p => min (p.1 + p.2.length) (128 * b.n) - min p.1 (128 * b.n)).foldl (· + ·) 0
  if n < 128 * b.n then none
  else some ((List.range (128 * b.n)).map fun i => match b.parts.find? fun p => decide (p.1 ≤ i ∧ i < p.1 + p.2.length) with
    | some p => p.2.getD (i - p.1) 0
    | none => 0)

/-- Send a burst to its destination (R286). -/
def Dev.sendBurst (d : Dev) (r : DRun) (b : Burst) (data : Bytes) : Dev :=
  let x := b.ch
  let e := d.fld (F.DMA_C_CFG_ENGINE x)
  let d := d.modDma fun m => { m with bursts := m.bursts.map fun q => if q.id = b.id then { q with sent := true, parts := [] } else q }
  let d := d.modRunD x b.idx fun q => { q with deliv := q.deliv + b.n }
  if e = 0 then
    let o := 128 * b.first
    let d := d.bump .dma 5 b.n
    (hostPieces (d.mps r.desc.port) data.length (winAddr r.desc.dst r.desc.dwin o) 0 data.length).foldl (fun (d : Dev) p =>
      d.hostWrite x (winAddr r.desc.dst r.desc.dwin (o + p.1)) (slice data p.1 p.2)) d
  else (d.bump .dma 6 b.n).bufAsk { client := 3, id := b.id, line := winAddr r.desc.dst r.desc.dwin (128 * b.first) / 128, n := b.n, op := .write data }

/-- A burst of the read engine goes to HST only with credits for its flits, CMD and DATA (R16). -/
def Dev.burstGoes (d : Dev) (b : Burst) : Bool :=
  d.fld (F.DMA_C_CFG_ENGINE b.ch) != 0 || (d.fitsPool .hst 4 d.hstWrites b.flits && d.fitsPool .hst 5 d.hstWrites b.flits)

/-- Deliver the bursts of a channel in order of offset, as far as their data has arrived (R286) and HST has room (R16). -/
def Dev.deliver (d : Dev) (x : Nat) : Nat → Dev
  | 0 => d
  | fuel + 1 =>
    match d.dma.bursts.find? fun b => b.ch == x && !b.sent && !b.dead with
    | none => d
    | some b => match b.data, (d.dch x).runs.find? fun r => decide (r.idx = b.idx) with
      | some data, some r => if d.burstGoes b then (d.sendBurst r b data).deliver x fuel else d
      | _, _ => d

/-- Data of a burst arrives in staging: from byte offset `ofs` on. Lines of a burst from `bad` on are in error with `status`. (DESIGN CHOICE, log entry 32) -/
def Dev.stageData (d : Dev) (id ofs : Nat) (data : Bytes) (bad : Option (Nat × Nat)) (inj : Bool := false) : Dev :=
  match d.dma.bursts.find? fun b => decide (b.id = id) with
  | none => d
  | some b =>
    if b.dead then d.freeStage b
    else match bad with
      | none =>
        let d := d.modDma fun m => { m with bursts := m.bursts.map fun q => if q.id = id then { q with parts := q.parts ++ [(ofs, data)] } else q }
        d.deliver b.ch d.dma.bursts.length
      | some (status, k) =>
        let keep := min k b.n
        let cut (q : Burst) : Burst := if q.id = id then { q with n := keep, parts := q.parts ++ [(ofs, data)] } else q
        if keep = 0 then ((d.freeStage b).descError b.ch b.idx status b.first inj)
        else
          let d := d.modDma fun m => { m with bursts := m.bursts.map cut }
          (d.descError b.ch b.idx status (b.first + keep) inj).deliver b.ch d.dma.bursts.length

/-- A write response for a burst: its staging is freed, its descriptor may complete (R287), and its credits let a waiting burst go, channel by channel. -/
def Dev.burstAcked (d : Dev) (b : Burst) : Dev :=
  let d := (d.freeStage b).modRunD b.ch b.idx fun r => { r with acked := r.acked + b.n }
  let d := d.settleCh b.ch
  (List.range 64).foldl (fun (d : Dev) x => d.deliver x d.dma.bursts.length) d

/-- STOP (R289): the descriptor being issued stops after the lines issued; the rest is abandoned once the channel has settled. (DESIGN CHOICE, log entry 32) -/
def Dev.dmaStop (d : Dev) (x : Nat) : Dev :=
  let c := d.dch x
  let quit (r : DRun) : DRun := if r.err.isNone ∧ r.issued < r.desc.lines then { r with err := some (7, r.issued) } else r
  let d := d.setDch x { c with stopping := true, runs := c.runs.map quit }
  d.settleCh x

/-- Abandon the descriptors of a command, as a STOP of a channel of its own would (R289, R315): those begun stop issuing, those waiting complete
with ABANDONED in their turn. (DESIGN CHOICE, log entry 32) -/
def Dev.abandonDescs (d : Dev) (t : Tag) : Dev :=
  let mine (c : Desc) : Bool := match c.cmd with | some (u, _) => decide (u = t) | none => false
  let d := d.modDma fun m => { m with store := m.store.map fun p => (p.1, if mine p.2 then { p.2 with quit := true } else p.2) }
  (List.range 56).foldl (fun (d : Dev) x =>
    let c := d.dch x
    if (c.runs.any fun r => mine r.desc) then
      let quit (r : DRun) : DRun := if mine r.desc ∧ r.err.isNone ∧ r.issued < r.desc.lines then { r with err := some (7, r.issued) } else r
      (d.setDch x { c with runs := c.runs.map quit }).settleCh x
    else d) d

/-- End a command that is abandoned or has failed (R33): what it ends with is kept with it while `f` abandons its work, and it ends at once, or with DMA descriptors out once the last of
them has reported. -/
def Dev.quit (d : Dev) (t : Tag) (st : Status) (dw0 : Nat) (f : Dev → Dev) : Dev :=
  if (d.cmd? t).isSome then (f (d.modCmd t fun c => { c with need := [], quit := some (st, dw0) })).cmdCheck t else (f d).finish t st dw0

/-- RESUME (R288). -/
def Dev.dmaResume (d : Dev) (x : Nat) : Dev :=
  let d := d.setHalted x false
  if 56 ≤ x then d.fetchDesc x else d

/-- DIAG_LOCK_CLOSED (R290): the lock closes, and the host channels are stopped. -/
def Dev.closeDiag (d : Dev) : Dev :=
  if !d.flag F.DMA_DIAG_UNLOCKED then d
  else
    let quits (i : Nat) : Nat := ((d.dch (56 + i)).runs.filter fun r => r.err.isNone && decide (r.issued < r.desc.lines)).length
    let busy := (List.range 8).filter fun i => (d.dch (56 + i)).runs ≠ []
    let n := (busy.map quits).foldl (· + ·) 0
    let d := ({ d with hst := { d.hst with unlockedBy := none } }).setFld F.DMA_DIAG_UNLOCKED 0
    let d : Dev := (List.range 8).foldl (fun (d : Dev) i => if d.flag (F.DMA_C_CFG_EN (56 + i)) then d.dmaStop (56 + i) else d) d
    d.event .dma 0x03 (busy.foldl (fun m i => m ||| (1 <<< i)) 0) n

/-- A write to DMA.CHx_CTRL. -/
def Dev.dmaCtrlWrite (d : Dev) (x v who : Nat) : Dev :=
  let d := (d.regWrite (F.DMA_C_CTRL_DOOR x).a v who).1
  let d := if v.testBit 2 then d.dmaStop x else d
  let d := if v.testBit 1 then d.dmaResume x else d
  if v.testBit 0 ∧ 56 ≤ x then d.fetchDesc x else d

/-! ## Posts of whole sectors -/

/-- Pieces (host address, first line, lines) of lines [first, first + n) of a command's address list. (DESIGN CHOICE, log entry 33) -/
def segPieces : List (Nat × Nat) → Nat → Nat → Nat → List (Nat × Nat × Nat)
  | [], _, _, _ => []
  | (a, len) :: r, base, first, n =>
    let lo := max first base
    let hi := min (first + n) (base + len)
    (if lo < hi then [(a + 128 * (lo - base), lo, hi - lo)] else []) ++ segPieces r (base + len) first n

/-- The first of a sequencer's channels, from `lo` in steps of `step`, that it owns, that is on and whose ring has a free slot; the first of them if none has. (DESIGN CHOICE, log entry 32) -/
def Dev.freeChan (d : Dev) (seq lo step n : Nat) : Nat :=
  let ok (x : Nat) : Bool := d.flag (F.DMA_C_CFG_EN x) && d.fld (F.DMA_C_CFG_OWNER x) == seq && !(d.slotDesc x (d.fld (F.DMA_C_TAIL_TAIL x))).own
  (((List.range n).map fun i => lo + step * i).find? ok).getD lo

/-- Post the lines of a command's sector from a buffer line to their host addresses, on the channels of a sequencer (R434, Table 1.7). -/
def Dev.postOut (d : Dev) (seq lo step n : Nat) (c : CmdRec) (lba line : Nat) : Dev :=
  (segPieces c.segs 0 (32 * (lba - c.slba)) 32).foldl (fun (d : Dev) p =>
    d.postFor seq (d.freeChan seq lo step n) c.tag p.2.1 (128 * (line + (p.2.1 - 32 * (lba - c.slba)))) p.1 p.2.2 0) d

end Sys2Proof.Machine
end

