-- ==== Sys2Proof/Machine/RingOps.lean ====
section
/-! DEFINITION. Machine/RingOps.lean: ring ports, frames, hop delivery, enumeration, jobs and remote reads (chapter The Trirn Ring and Peer Reconstruction). -/
namespace Sys2Proof.Machine

def Dev.modRng (d : Dev) (f : RngS → RngS) : Dev := { d with rng := f d.rng }
def Dev.rport (d : Dev) (p : Fin 2) : RPort := if p = 0 then d.rng.p0 else d.rng.p1
def Dev.setRport (d : Dev) (p : Fin 2) (x : RPort) : Dev := d.modRng fun r => if p = 0 then { r with p0 := x } else { r with p1 := x }
def Dev.modRport (d : Dev) (p : Fin 2) (f : RPort → RPort) : Dev := d.setRport p (f (d.rport p))

/-- PSTATE of a port (Table 13.13). -/
def Dev.rstate (d : Dev) (p : Fin 2) : Nat := d.fld (F.RNG_PSTAT_PSTATE p.val)
def Dev.setRstate (d : Dev) (p : Fin 2) (v : Nat) : Dev := d.setFld (F.RNG_PSTAT_PSTATE p.val) v
def psDown : Nat := 0
def psTraining : Nat := 1
def psJoining : Nat := 2
def psJoined : Nat := 3
def psFailed : Nat := 4
def psWhistling : Nat := 5

/-- The port is enabled. -/
def Dev.ringEnabled (d : Dev) (p : Fin 2) : Bool := if p = 0 then d.flag F.RNG_CTRL_EAST_EN else d.flag F.RNG_CTRL_WEST_EN

/-- The other port. -/
def opp (p : Fin 2) : Fin 2 := if p = 0 then 1 else 0

/-- Ports that are joined. -/
def Dev.joinedPorts (d : Dev) : List (Fin 2) := ([0, 1] : List (Fin 2)).filter fun p => d.rstate p == psJoined

/-- Topology epoch, node ID and topology state (Tables 13.6 and 13.13). -/
def Dev.epoch (d : Dev) : Nat := d.fld F.RNG_STAT_EPOCH
def Dev.nodeId (d : Dev) : Nat := d.fld F.RNG_STAT_NODE_ID
def Dev.tstate (d : Dev) : Nat := d.fld F.RNG_STAT_TSTATE

/-- The drive's SERIAL of 20 bytes (R368). -/
def ownSerial : Bytes := (Config.serial ++ List.replicate 20 0x20).take 20

/-- Serials compare as unsigned bytes from byte 0 on (R368). -/
def serialLt : Bytes → Bytes → Bool
  | [], [] => false
  | [], _ => true
  | _, [] => false
  | a :: x, b :: y => if a.toNat < b.toNat then true else if a = b then serialLt x y else false

/-- Counter of a port (R410). (DESIGN CHOICE, log entry 58) -/
def Dev.bumpPort (d : Dev) (p : Fin 2) (i : Nat) : Dev := d.bump .rng (8 * p.val + i)

/-! ## Frames -/

/-- Class of a sequenced frame, in the order CMD, DATA, RSP, MGT of Table 13.4. -/
def frameClass (ftype : Nat) : Nat :=
  if ftype = 0x22 ∨ ftype = 0x90 then 0 else if ftype = 0x91 then 1 else if ftype = 0x20 ∨ ftype = 0x21 ∨ ftype = 0x92 then 2 else 3

/-- Frames of a join: JOIN_CHAL, JOIN_RESP and JOIN_CONF. -/
def isJoin (ftype : Nat) : Bool := 0x80 ≤ ftype && ftype ≤ 0x82

/-- Block frames (Table 13.4). -/
def isBlock (ftype : Nat) : Bool := 0x80 ≤ ftype

/-- A block frame is sealed unless it is JOIN_CHAL or JOIN_RESP (R381). -/
def isSealed (ftype : Nat) : Bool := 0x82 ≤ ftype

/-- Bytes 0 to 23 of a block frame (Table 13.3), the additional data of its seal. -/
def frameHead (f : RFrame) : Bytes :=
  leBytes 1 f.ftype ++ leBytes 1 f.flags ++ leBytes 2 f.seq ++ leBytes 6 f.fcnt ++ leBytes 2 f.epoch ++ leBytes 1 f.src ++ leBytes 1 f.dst ++
    leBytes 1 f.tgt ++ [0] ++ leBytes 2 f.job ++ [0, 0] ++ leBytes 4 f.block

/-- The tag of a block frame under a hop key and salt (R381): the IV is the salt followed by FCNT. (DESIGN CHOICE, log entry 6) -/
def frameSeal (f : RFrame) (k : Bytes × Bytes) : Bytes := Config.gcmTag k.1 (beNat (k.2 ++ leBytes 6 f.fcnt)) (frameHead f ++ f.body)

/-- Pad contents to n bytes. -/
def padTo (n : Nat) (b : Bytes) : Bytes := b ++ List.replicate (n - b.length) 0

/-- The bytes of a frame before its CRC (Tables 13.2 to 13.4). -/
def frameFields (f : RFrame) : Bytes :=
  if isBlock f.ftype then frameHead f ++ padTo 256 f.body ++ padTo 16 f.tag
  else leBytes 1 f.ftype ++ leBytes 1 f.flags ++
    (if f.ftype = 1 ∨ f.ftype = 2 then leBytes 2 f.seq ++ padTo 24 f.body
     else if f.ftype = 0x10 then leBytes 2 f.seq ++ leBytes 2 f.epoch ++ leBytes 1 f.hops ++ leBytes 1 f.dst ++ padTo 20 f.body
     else leBytes 2 f.seq ++ leBytes 2 f.epoch ++ leBytes 1 f.src ++ leBytes 1 f.dst ++ leBytes 1 f.tgt ++ [0] ++ leBytes 2 f.job ++ padTo 16 f.body)

/-- The bytes of a frame (R366): 32 of a control frame, 300 of a block frame. Its CRC covers every byte before it (R370). -/
def frameBytes (f : RFrame) : Bytes :=
  let b := frameFields f
  let c := crc32 b
  b ++ leBytes 4 (if f.badCrc then c ^^^ 0xFFFFFFFF else c)

/-- The frame types of Table 13.4. -/
def frameTypes : List Nat := [0x01, 0x02, 0x10, 0x20, 0x21, 0x22, 0x80, 0x81, 0x82, 0x90, 0x91, 0x92]

/-- Received bytes that are a frame: a known FTYPE, its length, a CRC that fits (R366, R367, R370). -/
def frameGood (b : Bytes) : Bool :=
  let t := leAt b 0 1
  frameTypes.contains t && decide (b.length = if isBlock t then 300 else 32) && crc32 (b.take (b.length - 4)) == leNat (b.drop (b.length - 4))

/-- What a transmit lane of a port has carried of the frames sent so far (R364, R365); the IDLE frames between them are not written out. -/
def RPort.lane (x : RPort) (lane : Fin 2) : Bytes := laneOf lane (x.line.flatMap frameBytes)

/-! ## Sending -/

/-- An ACK (R372): the next SEQ expected, the frames held after it, the cumulative credit returns. -/
def Dev.sendAck (d : Dev) (p : Fin 2) (now : Bool) : Dev :=
  let x := d.rport p
  let held := (List.range 32).foldl (fun m i => if x.held.any fun f => f.seq == (x.expect + 1 + i) % 65536 then m + 2 ^ i else m) 0
  let f : RFrame := { ftype := 2, flags := now.toNat, body := padTo 24 (leBytes 2 x.expect ++ leBytes 4 held ++ x.cret.flatMap fun c => leBytes 1 c) }
  d.setRport p { x with owe := false, line := x.line ++ [f] }

/-- An armed RNG.INJECT of a KIND strikes a frame sent on a port (Table 13.13). (DESIGN CHOICE, log entry 15) -/
def Dev.ringArmed (d : Dev) (p : Fin 2) (kind : Nat) : Bool :=
  d.flag F.RNG_INJECT_ARM && decide (d.fld F.RNG_INJECT_KIND = kind) && decide (d.fld F.RNG_INJECT_PORT = p.val)

/-- Invert bit 0 of a run of bytes. -/
def flip0 : Bytes → Bytes
  | [] => []
  | b :: r => (b ^^^ 1) :: r

/-- A frame can leave a port (R371, R375, R376): a retry slot is free; a join frame uses the peer's reserved slot, another frame needs the port joined and
one credit of its class, two if this node originates it. (DESIGN CHOICE, log entry 58) -/
def RPort.canSend (x : RPort) (joined : Bool) (f : RFrame) (orig : Bool) : Bool :=
  decide (x.retry.length < 256) &&
    (if isJoin f.ftype then x.spare == 1 else joined && decide ((if orig then 2 else 1) ≤ x.peerCred.getD (frameClass f.ftype) 0))

/-- Send a frame (R371, R373, R376, R381): it takes the next SEQ and, in a block frame, the next FCNT, is sealed under the hop key, goes to the line and stays in
the retry buffer. A forwarded frame frees the slot it came in. (DESIGN CHOICE, log entry 58) -/
def Dev.transmit (d : Dev) (p : Fin 2) (f : RFrame) (orig : Bool) : Dev :=
  let x := d.rport p
  let c := frameClass f.ftype
  let crc := d.ringArmed p 0
  let tagInj := d.ringArmed p 1 && isSealed f.ftype
  let f := { f with seq := x.seqNext, fcnt := if isSealed f.ftype then x.fcntTx else 0, inj := f.inj || crc || tagInj }
  let f := { f with tag := match x.keyTx with | some k => if isSealed f.ftype then frameSeal f k else [] | none => [] }
  let sent := { f with badCrc := crc, tag := if tagInj then flip0 f.tag else f.tag }
  let d := if crc || tagInj then d.setFlag F.RNG_INJECT_ARM false else d
  let d := d.setRport p { x with
    seqNext := (x.seqNext + 1) % 65536, fcntTx := if isSealed f.ftype then x.fcntTx + 1 else x.fcntTx
    retry := x.retry ++ [{ f := f, sentAt := d.now }], unackedAt := some (x.unackedAt.getD d.now), line := x.line ++ [sent]
    spare := if isJoin f.ftype then 0 else x.spare
    peerCred := if isJoin f.ftype then x.peerCred else x.peerCred.modify c (· - 1) }
  let d := d.bumpPort p 0
  if orig then d else (d.modRport (opp p) fun y => { y with cret := y.cret.modify c fun n => (n + 1) % 256 }).bumpPort p 6

/-- Frames of a class leave in the order in which they came: the first one that can leave. -/
def firstSend (x : RPort) (joined : Bool) : List Nat → List (RFrame × Bool) → Option (RFrame × Bool)
  | _, [] => none
  | seen, (f, o) :: r =>
    let c := frameClass f.ftype
    if !seen.contains c && x.canSend joined f o then some (f, o) else firstSend x joined (c :: seen) r

/-- Send what can be sent. -/
def Dev.pumpN (d : Dev) (p : Fin 2) : Nat → Dev
  | 0 => d
  | n + 1 =>
    let x := d.rport p
    match firstSend x (d.rstate p == psJoined) [] x.txq with
    | none => d
    | some e => ((d.setRport p { x with txq := x.txq.erase e }).transmit p e.1 e.2).pumpN p n

def Dev.pump (d : Dev) (p : Fin 2) : Dev := d.pumpN p (d.rport p).txq.length

/-- Originate a frame on a port, under the node's epoch and ID. A port that is not joined takes only join frames. -/
def Dev.originate (d : Dev) (p : Fin 2) (f : RFrame) : Dev :=
  let f := { f with epoch := d.epoch, src := if f.ftype = 0x10 then 0 else d.nodeId }
  if isJoin f.ftype || d.rstate p == psJoined then (d.modRport p fun x => { x with txq := x.txq ++ [(f, true)] }).pump p else d

/-- Forward a frame on a port; with no joined neighbour it is discarded (R369), and its slot is freed. -/
def Dev.forward (d : Dev) (p : Fin 2) (f : RFrame) : Dev :=
  if d.rstate p == psJoined then (d.modRport p fun x => { x with txq := x.txq ++ [(f, false)] }).pump p
  else (d.bumpPort p 7).modRport (opp p) fun x => { x with cret := x.cret.modify (frameClass f.ftype) fun n => (n + 1) % 256 }

/-! ## Members and routes -/

/-- Node ID of a SERIAL: 1 plus the number of members with a lower one (R385). -/
def Dev.rankOf (d : Dev) (s : Bytes) : Nat := 1 + (d.rng.members.filter fun m => serialLt m.serial s).length

/-- A member by node ID. -/
def Dev.member? (d : Dev) (id : Nat) : Option Member := d.rng.members.find? fun m => decide (d.rankOf m.serial = id ∧ id ≤ 255)

/-- Hops to a member going east and going west; in a chain only the side it was heard on reaches it. (DESIGN CHOICE, log entry 59) -/
def Dev.hopsTo (d : Dev) (m : Member) (east : Bool) : Option Nat :=
  let own := if east then m.port = 0 else m.port = 1
  if own then some m.hops else if d.rng.closed && m.port != 2 then some (d.rng.members.length - m.hops) else none

/-- The side of a node (R394): the one that reaches it in fewer hops; a tie goes to east. With it the hops. -/
def Dev.sideOf (d : Dev) (id : Nat) : Option (Fin 2 × Nat) :=
  match d.member? id with
  | none => none
  | some m =>
    match d.hopsTo m true, d.hopsTo m false with
    | some e, some w => if e ≤ w then some (0, e) else some (1, w)
    | some e, none => some (0, e)
    | none, some w => some (1, w)
    | none, none => none

/-! ## Ends of jobs -/

/-- ECE.STAT.JOBS (Table 13.14). -/
def Dev.showJobs (d : Dev) : Dev := d.setFld F.ECE_STAT_JOBS (min (d.rng.tjobs.length + d.rng.pjobs.length) 255)

/-- Sectors of a job's reservation that have no data read and are destaged as zeros; ZNE logs 0x0E06 with their count (R348, R399). -/
def Dev.zeroJob (d : Dev) (j : TJob) : Dev :=
  if j.dest = 0 then d
  else match d.cmd? j.tag, d.ns? j.nsid with
    | some c, some n =>
      let (k, d) := d.zeroRest c
      if k = 0 then d else (d.bump .zne 9).event .zne 0x06 (j.lba / n.zs) k 0 j.nsid
    | _, _ => d

/-- Send JEND to a node on a port. -/
def Dev.sendJend (d : Dev) (p : Fin 2) (dst tgt job status node first failed : Nat) : Dev :=
  d.originate p { ftype := 0x21, dst := dst, tgt := tgt, job := job
                  body := leBytes 1 status ++ leBytes 1 node ++ [0, 0] ++ leBytes 4 first ++ leBytes 4 failed ++ [0, 0, 0, 0] }

/-- Fail a job (R401): JEND STATUS 3 outward on each side, event 0x0F06, the command ends with a status of Table 13.9. -/
def Dev.failJob (d : Dev) (j : TJob) (st : Status) (node : Nat) : Dev :=
  let d : Dev := d.modRng fun r => { r with tjobs := r.tjobs.filter fun x => decide (x.job ≠ j.job) }
  let d : Dev := j.east.foldl (fun (d : Dev) e => d.sendJend 0 e.node d.nodeId j.job 3 d.nodeId 0 0) d
  let d : Dev := j.west.foldl (fun (d : Dev) e => d.sendJend 1 e.node d.nodeId j.job 3 d.nodeId 0 0) d
  let d := ((d.bump .rng 21).event .rng 0x06 st.sc node j.job d.nodeId).zeroJob j
  (d.quit j.tag st (if st.sc = 0xD2 then node else 0) fun d => d.abandonDescs j.tag).showJobs

/-- Status of Table 13.9. -/
def stRing (sc : Nat) : Status := stOf 7 sc

/-- The epoch has changed (R387): every job and remote read of the old epoch ends (R401, R390). -/
def Dev.endEpoch (d : Dev) : Dev :=
  let d : Dev := d.rng.tjobs.foldl (fun (d : Dev) j => d.failJob j (stRing 0xD1) 0) d
  let d : Dev := d.rng.reads.foldl (fun (d : Dev) r => d.quit r.tag (stRing 0xD1) 0 fun d => d.abandonDescs r.tag) d
  (d.modRng fun r => { r with reads := [], pjobs := [], serves := [], starts := [] }).showJobs

/-! ## Enumeration -/

/-- a is newer than b, as epochs (R384). -/
def newer (a b : Nat) : Bool := let x := (a + 65536 - b) % 65536; decide (1 ≤ x ∧ x < 32768)

/-- Note an epoch that this node has learnt of. -/
def Dev.learnEpoch (d : Dev) (e : Nat) : Dev := if newer e d.rng.known then d.modRng fun r => { r with known := e } else d

/-- Take an epoch: the member set is cleared to this node, the state becomes ENUM, or ALONE with no port joined, and a HELLO with HOPS 1 leaves on every joined
port (R383, R384). (DESIGN CHOICE, log entry 59) -/
def Dev.enterEnum (d : Dev) (e : Nat) : Dev :=
  let d := ((d.setFld F.RNG_STAT_EPOCH e).learnEpoch e).endEpoch
  let d : Dev := d.modRng fun r => { r with members := [⟨ownSerial, 2, 0⟩], closed := false, quietAt := d.now }
  let d := (d.setFld F.RNG_STAT_TSTATE (if d.joinedPorts = [] then 0 else 1)).setFld F.RNG_STAT_NODE_ID 0
  let d := (((d.setFld F.RNG_MEMBERS_COUNT 1).setFld (F.RNG_PSTAT_PEER_ID 0) 0).setFld (F.RNG_PSTAT_PEER_ID 1) 0).bump .rng 18
  d.joinedPorts.foldl (fun (d : Dev) p => d.originate p { ftype := 0x10, dst := 0xFF, hops := 1, body := ownSerial }) d

/-- ENUMERATION_START (R384): the epoch is one more than the highest known. -/
def Dev.startEnum (d : Dev) : Dev := d.enterEnum ((d.rng.known + 1) % 65536)

/-! ## Ports that come and go -/

/-- A port leaves JOINED or its join: buffers and keys go (R374, R380). Frames that waited for it are discarded, and the slots they came in are freed. (DESIGN CHOICE, log entry 58) -/
def Dev.clearPort (d : Dev) (p : Fin 2) : Dev :=
  let fwd := ((d.rport p).txq.filter fun e => !e.2).map Prod.fst
  let d := fwd.foldl (fun (d : Dev) f =>
    (d.bumpPort p 7).modRport (opp p) fun x => { x with cret := x.cret.modify (frameClass f.ftype) fun n => (n + 1) % 256 }) d
  d.modRport p fun x =>
    { ({} : RPort) with line := x.line, whistle := x.whistle, relayed := x.relayed, peerKey := x.peerKey, inj := x.inj }

/-- A port drops its link: it goes to a state, and if it was joined an enumeration starts (R384). -/
def Dev.dropLink (d : Dev) (p : Fin 2) (st : Nat) : Dev :=
  let was := d.rstate p == psJoined
  let d := (d.clearPort p).setRstate p st
  if was then d.startEnum else d

/-- A join is refused (R379): event 0x0F03, the link is dropped, and the port tries again after BACKOFF_MS. (DESIGN CHOICE, log entry 59) -/
def Dev.refuseJoin (d : Dev) (p : Fin 2) (why : Nat) : Dev :=
  let x := d.rport p
  let d := (d.event .rng 0x03 why x.peerKey (injBit x.inj) p.val).bump .rng 17
  let d := d.dropLink p psDown
  d.modRport p fun x => { x with backoff := some (d.now + d.fld F.RNG_LINK_BACKOFF_MS * 1000000), inj := false }

/-- Step 1 of a join (Table 13.5): JOIN_CHAL with SERIAL, KEY_ID, a fresh nonce and the credit grant. -/
def Dev.startJoin (d : Dev) (p : Fin 2) : Dev :=
  if d.sec.ringKey.isNone then (d.modRport p fun x => { x with peerKey := 0 }).refuseJoin p 0
  else
    let (nonce, d) := d.drawBytes 32
    let grant := [d.fld F.RNG_HCRED_CMD, d.fld F.RNG_HCRED_DATA, d.fld F.RNG_HCRED_RSP, d.fld F.RNG_HCRED_MGT]
    let d := (d.modRport p fun x =>
      { x with nonce := nonce, peerNonce := [], peerSerial := [], macOk := false, keyTx := none, keyRx := none, fcntTx := 0, fcntRx := 0, grant := grant
               peerCred := [0, 0, 0, 0], cret := [0, 0, 0, 0], peerCret := [0, 0, 0, 0], joinAt := some d.now, inj := false }).setRstate p psJoining
    d.originate p { ftype := 0x80, flags := 2
                    body := padTo 256 (ownSerial ++ leBytes 4 d.sec.ringKeyId ++ nonce ++ grant.flatMap fun c => leBytes 1 c) }

/-- A port is declared failed (R374). -/
def Dev.failRing (d : Dev) (p : Fin 2) (why : Nat) : Dev :=
  let x := d.rport p
  let oldest := match x.retry.head? with | some r => (r.f.seq, r.f.inj) | none => (x.seqNext, false)
  let n := x.retry.length + x.held.length
  let d := ((d.clearPort p).setRstate p psFailed).modRport p fun x => { x with offAt := some d.now }
  (d.event .rng 0x02 why n (oldest.1 + injBit (oldest.2 || (why == 2 && x.inj))) p.val).startEnum

/-- EAST_EN or WEST_EN has changed, or RESTART: a port that is not to stand drops its link. -/
def Dev.ringPorts (d : Dev) (restart : Bool) : Dev :=
  ([0, 1] : List (Fin 2)).foldl (fun (d : Dev) p =>
    if (restart || !d.ringEnabled p) && decide (d.rstate p ≠ psDown) then d.dropLink p (if d.ringEnabled p then psTraining else psDown) else d) d

/-- The whistle of a port that is DOWN or FAILED (R407). -/
def Dev.sendWhistle (d : Dev) (p : Fin 2) (relay : Bool) : Dev :=
  if d.rstate p = psDown ∨ d.rstate p = psFailed then
    let d := ((d.setRstate p psWhistling).modRport p fun x => { x with whistle := some d.now, relayed := relay, offAt := none, backoff := none }).bump .rng 23
    d.event .rng 0x09 p.val (d.fld F.RNG_WHISTLE_WHISTLE_MS) relay.toNat p.val
  else d

/-! ## Data of internal reads (R390, R396, R436) -/

/-- The 256 bytes of block b of a landed sector; none when it cannot be read. -/
def Dev.chunkBlock (d : Dev) (l : Land) (b : Nat) (edc : List EdcFail) : Option Bytes × Dev :=
  match l with
  | .zero => (some (List.replicate 256 0), d)
  | .bad => (none, d)
  | .at_ line _ =>
    if !d.flag F.BUF_STAT_READY then (none, d) else
    let (d, o1) := d.lineRead (line + 2 * b) edc 0
    let (d, o2) := d.lineRead (line + 2 * b + 1) edc 0
    (match o1.data, o2.data with | some x, some y => some (x ++ y) | _, _ => none, d)

/-- The blocks of one landed sector of a remote read leave as RDATA. -/
def Dev.serveSector (d : Dev) (s : RServe) (i : Nat) (l : Land) : Dev :=
  (List.range 16).foldl (fun (d : Dev) b =>
    let (x, d) := (d.ringUnits s.port.val 1).chunkBlock l b []
    let last := decide (i + 1 = s.nlb ∧ b = 15)
    d.originate s.port { ftype := 0x92, flags := x.isNone.toNat + 4 * last.toNat, dst := s.node, job := s.job, block := 16 * i + b
                         body := x.getD (List.replicate 256 0) }) d

/-- A remote read sends the sectors that have landed, in order (R390); the last one ends it. (DESIGN CHOICE, log entry 66) -/
def Dev.serveN (d : Dev) (s : RServe) : Nat → Dev
  | 0 => d
  | fuel + 1 =>
    match s.land.get (fun _ => none) s.sent with
    | none => d
    | some l =>
      let d := d.serveSector s s.sent l
      let s' := { s with sent := s.sent + 1 }
      let same (x : RServe) : Bool := x.node == s.node && x.job == s.job
      let d : Dev := d.modRng fun r => { r with serves := if s'.sent = s.nlb then r.serves.filter fun x => !same x
                                                          else r.serves.map fun x => if same x then s' else x }
      d.serveN s' fuel

def Dev.serveReads (d : Dev) : Dev := d.rng.serves.foldl (fun (d : Dev) s => d.serveN s (s.nlb - s.sent)) d

/-- Put the outcome of a sector into a table of landed sectors, for a range that holds it and where it is still awaited. -/
def putLand (nsid lba : Nat) (l : Land) (ns s n : Nat) (t : Tab (Option Land)) : Tab (Option Land) :=
  if ns = nsid ∧ s ≤ lba ∧ lba < s + n ∧ (t.get (fun _ => none) (lba - s)).isNone then t.set (fun _ => none) (lba - s) (some l) else t

/-- A sector that an internal read awaits has landed or failed: every job and remote read that awaits it takes it, and remote reads send it. -/
def Dev.ringLand (d : Dev) (nsid lba : Nat) (l : Land) : Dev :=
  let p (j : PJob) : PJob := { j with land := putLand nsid lba l j.part.nsid j.part.slba j.nlb j.land }
  let t (j : TJob) : TJob := match j.own with
    | some e => { j with land := putLand nsid lba l e.nsid e.slba j.nlb j.land }
    | none => j
  let s (j : RServe) : RServe := { j with land := putLand nsid lba l j.nsid j.slba j.nlb j.land }
  (d.modRng fun r => { r with pjobs := r.pjobs.map p, tjobs := r.tjobs.map t, serves := r.serves.map s }).serveReads

/-- A range of the ring's internal reads awaits a sector. -/
def awaits (nsid lba ns s n : Nat) (t : Tab (Option Land)) : Bool :=
  decide (ns = nsid ∧ s ≤ lba ∧ lba < s + n) && (t.get (fun _ => none) (lba - s)).isNone

/-- Some internal read of the ring awaits a sector. -/
def Dev.ringAwaits (d : Dev) (nsid lba : Nat) : Bool :=
  (d.rng.pjobs.any fun j => awaits nsid lba j.part.nsid j.part.slba j.nlb j.land) ||
    (d.rng.tjobs.any fun j => match j.own with | some e => awaits nsid lba e.nsid e.slba j.nlb j.land | none => false) ||
    d.rng.serves.any fun j => awaits nsid lba j.nsid j.slba j.nlb j.land

/-! ## Delivery of results -/

/-- First byte of the job area in the buffer. (DESIGN CHOICE, log entry 69) -/
def Dev.jobArea (d : Dev) : Nat := 4096 * d.fld F.RNG_JAREA_GRANULE

/-- Sectors that a job's result window holds. -/
def TJob.window (j : TJob) : Nat := max 1 (j.jwin / 16)

/-- First line of sector i of a result: in the write cache for DEST 1, else in the job's result window. (DESIGN CHOICE, log entry 69) -/
def Dev.resultLine (d : Dev) (j : TJob) (i : Nat) : Nat :=
  if j.dest = 1 then (match d.cached j.nsid (j.lba + i) with | some c => c.addr / 128 | none => 0)
  else (d.jobArea + (3 * j.slot + 2) * j.jwin * 256) / 128 + 32 * (i % j.window)

/-- Landing space of remote reads (R408): the second half of the job area. (DESIGN CHOICE, log entry 69) -/
def Dev.landing (d : Dev) (r : RRead) : Nat := d.jobArea + 4194304 + r.addr

/-- An LSQ read channel with a free slot. -/
def Dev.lsqFree (d : Dev) : Option Nat :=
  ([48, 50] : List Nat).find? fun x => d.flag (F.DMA_C_CFG_EN x) && d.fld (F.DMA_C_CFG_OWNER x) == 6 && !(d.slotDesc x (d.fld (F.DMA_C_TAIL_TAIL x))).own

/-- Sectors of a job all of whose blocks have been combined. -/
def TJob.full (j : TJob) : List Nat := (List.range j.nlb).filter fun i => (List.range 16).all fun b => j.done.contains (16 * i + b)

/-- Post a finished sector of a DEST 0 result (R399). -/
def Dev.postResult (d : Dev) (job i : Nat) : Dev :=
  match d.rng.tjobs.find? fun j => decide (j.job = job), d.lsqFree with
  | some j, some x =>
    let mark (y : TJob) : TJob := if y.job = job then { y with posted := i :: y.posted } else y
    let d : Dev := d.modRng fun r => { r with tjobs := r.tjobs.map mark }
    d.postFor 6 x j.tag (32 * i) (128 * d.resultLine j i) (j.addr + 4096 * i) 32 0
  | _, _ => d

/-- Pieces of sector i of a remote read in the host's address list. (DESIGN CHOICE, log entry 33) -/
def rreadPieces (segs : List (Nat × Nat)) (n : Nat) : List (Nat × Nat × Nat) := (List.range n).flatMap fun i => segPieces segs 0 (32 * i) 32

/-- Post piece k of a remote read. -/
def Dev.postRead (d : Dev) (job k : Nat) : Dev :=
  match d.rng.reads.find? fun r => decide (r.job = job), d.lsqFree with
  | some r, some x =>
    match d.cmd? r.tag with
    | none => d
    | some c =>
      match (rreadPieces c.segs (r.blocks / 16))[k]? with
      | none => d
      | some pc =>
        let mark (y : RRead) : RRead := if y.job = job then { y with posted := k :: y.posted } else y
        let d : Dev := d.modRng fun s => { s with reads := s.reads.map mark }
        d.postFor 6 x r.tag pc.2.1 (d.landing r + 128 * pc.2.1) pc.1 pc.2.2 0
  | _, _ => d

/-- JOB_COMPLETE (R400): every block is delivered, every participant has ended. The bitmap is written; a DEST 1 job on a controller without the volatile write cache
waits for the media as its Zone Append would. (DESIGN CHOICE, log entry 66) -/
def Dev.completeJob (d : Dev) (j : TJob) (c : CmdRec) : Dev :=
  let d : Dev := (d.modRng fun r => { r with tjobs := r.tjobs.filter fun x => decide (x.job ≠ j.job) }).showJobs
  let bitmap := (List.range 64).map fun i => BitVec.ofNat 8 ((List.range 8).foldl (fun m b => if j.errs.contains (8 * i + b) then m + 2 ^ b else m) 0)
  let d := d.hostWrite 48 j.bitmapAt bitmap
  let d := if j.dest = 1 ∧ j.errs ≠ [] then
      (match d.ns? j.nsid with | some n => d.event .zne 0x06 (j.lba / n.zs) j.errs.length 0 j.nsid | none => d) else d
  let st := if j.errs = [] then stOk else stRing 0xD0
  let dw0 := if j.errs ≠ [] then j.errs.length else if j.dest = 1 then j.lba % 2 ^ 32 else 0
  let dw1 := if j.dest = 1 then j.lba / 2 ^ 32 else 0
  let left := if j.dest = 1 ∧ !(d.ctrl c.tag.ctrl).wce then (List.range j.nlb).filter fun i => (d.cached j.nsid (j.lba + i)).isSome else []
  if left = [] then d.finish c.tag st dw0 dw1
  else d.modCmd c.tag fun c => { c with kind := .append true, committed := true, need := left.map fun i => secKey j.nsid (j.lba + i)
                                        failed := if j.errs = [] then none else some st, dw0 := dw0, dw1 := dw1 }

/-- A job looks again: finished sectors are posted as channels allow, and it ends when its delivery has failed or all is done. -/
def Dev.settleJob (d : Dev) (job : Nat) : Dev :=
  match d.rng.tjobs.find? fun j => decide (j.job = job) with
  | none => d
  | some j =>
    let d : Dev := if j.dest = 0 then (j.full.filter fun i => !j.posted.contains i).foldl (fun (d : Dev) i => d.postResult job i) d else d
    match d.rng.tjobs.find? fun j => decide (j.job = job), d.cmd? j.tag with
    | some j, some c =>
      if c.desc ≠ 0 then d
      else match c.failed with
        | some st => d.failJob j st 0
        | none =>
          let parts := (j.east ++ j.west).map JPart.node
          if j.posted.length = j.nlb ∧ parts.all j.ended.contains then d.completeJob j c else d
    | some j, none => d.failJob j stInternal 0
    | none, _ => d

/-- A remote read looks again (R390). -/
def Dev.settleRead (d : Dev) (job : Nat) : Dev :=
  match d.rng.reads.find? fun r => decide (r.job = job) with
  | none => d
  | some r =>
    match d.cmd? r.tag with
    | none => d.modRng fun s => { s with reads := s.reads.filter fun x => decide (x.job ≠ job) }
    | some c =>
      let ps := rreadPieces c.segs (r.blocks / 16)
      let whole (i : Nat) : Bool := (List.range 16).all fun b => r.got.contains (16 * i + b)
      let due := (List.range ps.length).filter fun k => !r.posted.contains k && whole ((ps.getD k (0, 0, 0)).2.1 / 32)
      let d : Dev := due.foldl (fun (d : Dev) k => d.postRead job k) d
      match d.rng.reads.find? fun x => decide (x.job = job), d.cmd? r.tag with
      | some r, some c =>
        let gone (d : Dev) : Dev := d.modRng fun s => { s with reads := s.reads.filter fun x => decide (x.job ≠ job) }
        if c.desc ≠ 0 then d
        else match c.failed with
          | some st => (gone d).finish r.tag st
          | none => if r.posted.length = ps.length ∧ r.got.length = r.blocks then
              (gone d).finish r.tag (if r.errs = [] then stOk else stRing 0xD0) r.errs.length else d
      | _, _ => d

/-- Jobs and remote reads look again. -/
def Dev.ringSettle (d : Dev) : Dev :=
  let d : Dev := d.rng.tjobs.foldl (fun (d : Dev) j => d.settleJob j.job) d
  d.rng.reads.foldl (fun (d : Dev) r => d.settleRead r.job) d

end Sys2Proof.Machine
end

