-- ==== Sys2Proof/Machine/MediaOps.lean ====
section
/-! DEFINITION. Machine/MediaOps.lean: what the MSQs do with the outcome of media work: reads that land or fail, orders that end (chapters Read Channel and
Decoder Pool, Sequencers). -/
namespace Sys2Proof.Machine

/-- MSQ of head n. -/
def actOf (n : Nat) : Nat := if n < 10 then 0 else 1

/-- Give MSQa a run report. -/
def Dev.runReport (d : Dev) (r : RunReport) : Dev := { d with msq := { d.msq with runs := d.msq.runs ++ [r] } }

/-! ## Media orders -/

/-- A read command awaits a sector from the media. -/
def CmdRec.awaitsRead (c : CmdRec) (key : Nat) : Bool := c.kind == .read && c.need.contains key

/-- The work of a media order is not finished. -/
def Dev.orderLive (d : Dev) (o : MediaOrder) : Bool :=
  if o.write then d.zne.cache.any fun c => decide (c.order = some o.id) && !c.held
  else match o.cmd with
    | some t => match d.cmd? t with
      | some c => (List.range o.n).any fun i => c.need.contains (secKey o.nsid (o.slba + i))
      | none => false
    | none => (List.range o.n).any fun i => d.ringAwaits o.nsid (o.slba + i)

/-- Order results (R434): orders whose work has ended leave MSQa, and their slots in its queue are freed. -/
def Dev.pruneOrders (d : Dev) : Dev :=
  let gone := d.msq.orders.filter fun o => !d.orderLive o
  let d : Dev := { d with msq := { d.msq with orders := d.msq.orders.filter fun o => d.orderLive o } }
  gone.foldl (fun (d : Dev) o => d.freeSlot .seq (4 + 2 * o.csq + o.a)) d

/-! ## Reads that fail -/

/-- A sector cannot be read: every read command that awaits it ends with a status once its descriptors have reported (Table 12.4), and an internal read
takes it as unrecovered. -/
def Dev.readFails (d : Dev) (nsid lba : Nat) (st : Status) : Dev :=
  let key := secKey nsid lba
  let tags := (d.cmds.filter fun c => c.awaitsRead key).map CmdRec.tag
  let fail (c : CmdRec) : CmdRec := { c with need := c.need.filter (· != key), failed := some (c.failed.getD st) }
  let d : Dev := tags.foldl (fun (d : Dev) t => (d.modCmd t fail).cmdCheck t) d
  (d.ringLand nsid lba .bad).pruneOrders

/-- Sectors of a read order from index `from_` on will not be read, because the arm link has failed or the head has no reader (R89, R113): the commands that
need them fail, unless the sector has come into the write cache. -/
def Dev.readsLost (d : Dev) (_n : Nat) (o : RunOrder) (from_ : Nat) : Dev :=
  (List.range (o.count - from_)).foldl (fun (d : Dev) i =>
    d.readFails o.nsid (runLba (o.lba % 2 ^ 34) o.w (from_ + i)) (stUnrecovered true)) d

/-! ## Reads that land -/

/-- MSQa posts a landed sector: sequencer 4 + a, on read channels 32 to 39 or 40 to 47. (DESIGN CHOICE, log entry 65) -/
def Dev.msqPost (d : Dev) (a : Nat) (c : CmdRec) (lba line : Nat) : Dev := d.postOut (4 + a) (32 + 8 * a) 1 8 c lba line

/-- CSQn posts a cached sector on its own even channels. (DESIGN CHOICE, log entry 65) -/
def Dev.csqPost (d : Dev) (n : Nat) (c : CmdRec) (lba line : Nat) : Dev := d.postOut n (8 * n) 2 4 c lba line

end Sys2Proof.Machine
end

