-- ==== Sys2Proof/Machine/ChannelOps.lean ====
section
/-! DEFINITION. Machine/ChannelOps.lean: operations of the read channel: seeds, loops, framing, linearisation (chapters Media Format, Read Channel
and Decoder Pool, Servo Control Engine). -/
namespace Sys2Proof.Machine

/-! ## Channel state -/

def Dev.chan (d : Dev) (n : Nat) : ChS := d.ch.get (fun _ => ({} : ChS)) n
def Dev.setChan (d : Dev) (n : Nat) (c : ChS) : Dev := { d with ch := d.ch.set (fun _ => ({} : ChS)) n c }
def Dev.setRun (d : Dev) (n : Nat) (r : RunS) : Dev := d.setChan n { d.chan n with run := some r }

/-- The channel exists on the variant (R3). (DESIGN CHOICE, log entry 9) -/
def Dev.hasCh (d : Dev) (n : Nat) : Bool := decide (n < 20) && !(d.v && decide (10 ≤ n))

/-- Block of channel n. -/
def chBlk (n : Nat) : Blk := .ch ⟨n % 20, Nat.mod_lt _ (by decide)⟩

/-- Format tables of the actuator of head n. -/
def Dev.fmtOf (d : Dev) (a : Nat) : Option Format := if a = 0 then d.load.fmt0 else d.load.fmt1

/-! ## Runs that MSQa forms (R36, R74, R83, R110) -/

/-- Namespace, format tables and media position of an LBA (R83). -/
def Dev.placeOf (d : Dev) (nsid lba : Nat) : Option (Ns × Format × MediaPos) :=
  match d.ns? nsid with
  | none => none
  | some n => if n.cap ≤ lba then none else (d.fmtOf n.reg.a).bind fun f => (mediaPos f n.reg lba).map fun p => (n, f, p)

/-- XTS key slot of a namespace (Table 4.9). -/
def Ns.keySlot (n : Ns) : Nat := if n.key = .unencrypted then 0xFFFF else nsxOf n.nsid

/-- The run of `count` sectors of one track from an LBA on, and its head (R110): head, stripe track, track and first sector as R83 gives them, so never on a skipped track
(R74), and no sector beyond the track's or the zone's last one. -/
def Dev.runFor (d : Dev) (nsid lba count : Nat) : Option (Nat × RunOrder) :=
  match d.placeOf nsid lba with
  | none => none
  | some (n, f, p) =>
    let last := runLba lba n.reg.w (count - 1)
    let b := bandIdx f p.stripe
    if count = 0 ∨ 2048 < count ∨ (bandAt f b).spt < p.sector + count ∨ last / n.zs ≠ lba / n.zs ∨ n.cap ≤ last then none
    else some (p.head, { tag := 0, stripe := p.stripe, track := p.track.toNat, band := b, w := n.reg.w, first := p.sector, count := count
                         lba := recorded (d.zctx (n.ctx + lba / n.zs)).gen lba, nsid := nsid, keySlot := n.keySlot, tbufSize := d.tbufSize n.reg.a })

/-- The namespace LBAs of an order's sectors. -/
def runLbas (o : RunOrder) : List Nat := (List.range o.count).map fun i => runLba (o.lba % 2 ^ 34) o.w i

/-- An order covers a sector, from index `k` on. -/
def covers (o : RunOrder) (nsid lba k : Nat) : Bool := o.nsid == nsid && ((runLbas o).drop k).contains lba

/-- A sector is on its way from the media: in a run that MSQa has ordered or sent a heater notice for, at DEC, in a report, or in a ladder. -/
def Dev.readOut (d : Dev) (nsid lba : Nat) : Bool :=
  let blk (b : SoftBlock) : Bool := b.ord.nsid == nsid && b.lba % 2 ^ 34 == lba
  let rep (r : SecReport) : Bool := r.ord.nsid == nsid && r.lba % 2 ^ 34 == lba
  (d.ch.any fun c => (c.2.orders.any fun o => covers o.1 nsid lba 0) || (c.2.run.any fun r => covers r.ord nsid lba r.next)) ||
    d.dec.flight.any blk || d.dec.store.any blk || d.dec.redo.any blk || (d.dec.slots.any fun x => x.2.any fun y => blk y.blk) ||
    (d.dec.park.any fun e => match e with | .parked b => blk b | .retained b _ => blk b) || (d.dec.writes.any fun w => rep w.2) ||
    d.msq.reports.any rep || (d.msq.ladders.any fun l => l.nsid == nsid && l.lba == lba) ||
    (d.msq.runs.any fun r => r.notice && covers r.ord nsid lba 0) || (d.wrp.heads.any fun h => h.2.notices.any fun x => covers x.ord nsid lba 0)

/-- A media order asks MSQa for a sector, somebody awaits it, and it is not on its way: MSQa may order it, for the first time or again after a slip (R113, R118). -/
def Dev.readDue (d : Dev) (a nsid lba : Nat) : Bool :=
  (d.msq.orders.any fun o => !o.write && o.a == a && o.nsid == nsid && decide (o.slba ≤ lba ∧ lba < o.slba + o.n)) &&
    ((d.cmds.any fun c => c.awaitsRead (secKey nsid lba)) || d.ringAwaits nsid lba) && !d.readOut nsid lba

/-- A destage order of MSQa holds a sector, all its data is in the buffer (R35), and no run writes it yet. -/
def Dev.writeDue (d : Dev) (a nsid lba : Nat) : Bool :=
  (match d.cached nsid lba with
    | some c => decide (c.lines = 32) && !c.held && (d.msq.orders.any fun o => o.write && o.a == a && c.order == some o.id)
    | none => false) &&
    !(d.wrp.heads.any fun h => (h.2.orders.any fun o => covers o.1 nsid lba 0) || (h.2.run.any fun r => covers r.ord nsid lba 0)) &&
    !(d.msq.runs.any fun r => r.write && !r.notice && covers r.ord nsid lba 0)

/-- The comb of actuator a may take new work on a stripe track: its other runs are on that track, no write retry is due or under way (R147), and no ladder reads (R126). -/
def Dev.combFree (d : Dev) (a stripe : Nat) : Bool :=
  (d.ch.all fun c => actOf c.1 != a || ((c.2.orders.all fun o => o.1.stripe == stripe) && (c.2.run.all fun r => r.ord.stripe == stripe))) &&
    (d.wrp.heads.all fun h => actOf h.1 != a || ((h.2.orders.all fun o => o.1.stripe == stripe && !o.2.1) &&
      (h.2.run.all fun r => r.ord.stripe == stripe && !r.retry))) &&
    !(d.msq.runs.any fun r => r.write && actOf r.head == a && decide (0 < r.notWritten) && !r.flags.testBit 3) &&
    !(d.msq.ladders.any fun l => actOf l.head == a && l.waiting && decide (0 < l.step))

/-! ## Seed tables (R92, Table 4.3) -/

/-- Word i of a seed record of band b: image seeds at 0x1000, live seeds at 0x3000. -/
def seedAddr (n : Nat) (live : Bool) (b i : Nat) : Nat := blkBase (chBlk n) + (if live then 0x3000 else 0x1000) + 128 * b + 4 * i

/-- Half-word h of a seed record. -/
def Dev.seedHalf (d : Dev) (n : Nat) (live : Bool) (b h : Nat) : Nat := getBits (d.word (seedAddr n live b (h / 2))) (16 * (h % 2)) 16

/-- Loop and tap seeds, target and reader B's delay of a band. -/
def Dev.seeds (d : Dev) (n : Nat) (live : Bool) (b : Nat) : Seeds :=
  { loops := [(d.seedHalf n live b 0 : Nat), (d.seedHalf n live b 1 : Nat), sext 16 (d.seedHalf n live b 2), sext 16 (d.seedHalf n live b 3),
      sext 16 (d.seedHalf n live b 4), sext 16 (d.seedHalf n live b 5), 0, sext 32 (d.word (seedAddr n live b 3)).toNat]
    g1 := sext 8 (d.seedHalf n live b 9), g2 := sext 8 (d.seedHalf n live b 9 / 256), delay := d.seedHalf n live b 10 % 256
    taps := (List.range 32).map fun t => sext 16 (d.seedHalf n live b (16 + t)) }

/-- Write half-word h of the live record of a band. -/
def Dev.setLiveHalf (d : Dev) (n b h v : Nat) : Dev := d.setFld ⟨seedAddr n true b (h / 2), 16 * (h % 2), 16⟩ v

/-- Write loop and tap values into the live record of a band (R100). -/
def Dev.setLive (d : Dev) (n b : Nat) (s : Seeds) : Dev :=
  let d := (List.range 6).foldl (fun d k => d.setLiveHalf n b k (tc 16 (s.loops.getD k 0))) d
  let d := d.setWord (seedAddr n true b 3) (BitVec.ofNat 32 (tc 32 (s.loops.getD 7 0)))
  (List.range 32).foldl (fun d t => d.setLiveHalf n b (16 + t) (tc 16 (s.taps.getD t 0))) d

/-! ## Loop values -/

/-- Address of tap t (0 to 15 FIR_A, 16 to 31 FIR_B). -/
def tapAddr (n t : Nat) : Nat := blkBase (chBlk n) + 0x100 + 4 * t

def Dev.loopVal (d : Dev) (n k : Nat) : Int := sext 32 (d.fld (F.CH_LVAL_VALUE n k))
def Dev.setLoopVal (d : Dev) (n k : Nat) (v : Int) : Dev := d.setFld (F.CH_LVAL_VALUE n k) (tc 32 v)
def Dev.tap (d : Dev) (n t : Nat) : Int := sext 32 (d.word (tapAddr n t)).toNat
def Dev.setTap (d : Dev) (n t : Nat) (v : Int) : Dev := d.setWord (tapAddr n t) (BitVec.ofNat 32 (tc 32 v))

/-- The loops with a value of their own (R95). -/
def valueLoops : List Nat := [0, 1, 2, 3, 4, 5, 7]

/-- Put every loop and tap at given values; the taps of an unused reader are held at zero (R89). -/
def Dev.putLoops (d : Dev) (n : Nat) (s : Seeds) (useA useB : Bool) : Dev :=
  let d := valueLoops.foldl (fun d k => d.setLoopVal n k (s.loops.getD k 0)) d
  (List.range 32).foldl (fun d t => d.setTap n t (if (if t < 16 then useA else useB) then s.taps.getD t 0 else 0)) d

/-- The loop and tap values as they stand. -/
def Dev.loopsNow (d : Dev) (n : Nat) : Seeds :=
  { loops := (List.range 8).map fun k => if k = 6 then 0 else d.loopVal n k, taps := (List.range 32).map fun t => d.tap n t }

/-- Readers that an order uses (R89): MODE.READER and the lanes that are on. -/
def Dev.readers (d : Dev) (n : Nat) (o : RunOrder) : Bool × Bool :=
  let a := !d.flag (F.CH_AFE_A_LANE_OFF n)
  let b := !d.flag (F.CH_AFE_B_LANE_OFF n)
  match o.reader with
  | 0 => (a, b)
  | 1 => (a, false)
  | 2 => (false, b)
  | _ => (false, false)

/-- One clamped update by the gradient g / den (R96). Where the exact result is not whole, which neighbour the loop takes is open. (DESIGN CHOICE, log entry 18) -/
def loopStep (up : Bool) (value g : Int) (den : Nat) (seed img : Int) (s leak clamp : Nat) : Int :=
  let all : Int := 2 ^ (s + leak) * den
  let num := value * all + g * 2 ^ leak - (if leak = 0 then 0 else (value - seed) * (2 ^ s * den))
  let q := num.fdiv all
  let q := if up && num.fmod all != 0 then q + 1 else q
  if q < img - clamp then img - clamp else if q > img + clamp then img + clamp else q

/-- The step of loop k (R96): ACQ_STEP on a preamble for loops 0 to 3 with ACQ_EN; the tap loop of ladder step 6 takes ACQ_STEP of loop 0
(Table 4.13). -/
def Dev.loopShift (d : Dev) (n k step : Nat) (pre : Bool) : Nat :=
  if k ≤ 3 ∧ pre ∧ d.flag (F.CH_LCTL_ACQ_EN n k) then d.fld (F.CH_LCTL_ACQ_STEP n k)
  else if k = 6 ∧ step = 6 then d.fld (F.CH_LCTL_ACQ_STEP n 0)
  else d.fld (F.CH_LCTL_STEP n k)

/-- Update a loop with a value of its own, unless it is held. (DESIGN CHOICE, log entry 18) -/
def Dev.loopUpdate (d : Dev) (n : Nat) (r : RunS) (k : Nat) (g : Int) (den : Nat) (pre : Bool) : Dev :=
  if d.flag (F.CH_LCTL_FREEZE n k) then d
  else
    let img := r.img.loops.getD k 0
    let c := d.fld (F.CH_LCTL_CLAMP n k)
    let v := loopStep (Config.freeBool d.free) (d.loopVal n k) g den (r.live.loops.getD k 0) img (d.loopShift n k r.ord.step pre)
      (d.fld (F.CH_LCTL_LEAK n k)) c
    let d := { d with free := d.free + 1 }
    let d := if v = img - c ∨ v = img + c then d.bump (chBlk n) 8 else d
    d.setLoopVal n k v

/-- Update tap t of loop 6. (DESIGN CHOICE, log entry 18) -/
def Dev.tapUpdate (d : Dev) (n : Nat) (r : RunS) (t : Nat) (g : Int) (pre : Bool) : Dev :=
  let img := r.img.taps.getD t 0
  let c := d.fld (F.CH_LCTL_CLAMP n 6)
  let v := loopStep (Config.freeBool d.free) (d.tap n t) g 256 (r.live.taps.getD t 0) img (d.loopShift n 6 r.ord.step pre)
    (d.fld (F.CH_LCTL_LEAK n 6)) c
  let d := { d with free := d.free + 1 }
  let d := if v = img - c ∨ v = img + c then d.bump (chBlk n) 8 else d
  d.setTap n t v

/-- Update the taps: FIR_A[8] + FIR_B[8] keeps its value (R90), so FIR_B[8] moves against FIR_A[8], within the clamp of both; with one reader, tap 8 stays.
(DESIGN CHOICE, log entry 18) -/
def Dev.tapsUpdate (d : Dev) (n : Nat) (r : RunS) (gs : List Int) (useA useB pre : Bool) : Dev :=
  if d.flag (F.CH_LCTL_FREEZE n 6) then d
  else
    let sum := d.tap n 8 + d.tap n 24
    let d := (List.range 32).foldl (fun d t =>
      if !(if t < 16 then useA else useB) || t == 24 || (t == 8 && !(useA && useB)) then d
      else d.tapUpdate n r t (gs.getD t 0) pre) d
    let c : Int := d.fld (F.CH_LCTL_CLAMP n 6)
    let img := r.img.taps.getD 24 0
    let v := sum - d.tap n 8
    let v := if v < img - c then img - c else if img + c < v then img + c else v
    if useA && useB then (d.setTap n 8 (sum - v)).setTap n 24 v else d

/-- Bit k of the loops that stand at their clamp (R99), the taps of a used reader among them. -/
def Dev.atClamp (d : Dev) (n : Nat) (r : RunS) : Nat :=
  let (useA, useB) := d.readers n r.ord
  let hit (k : Nat) : Bool :=
    let c := d.fld (F.CH_LCTL_CLAMP n k)
    if k = 6 then (List.range 32).any fun t =>
      let x := d.tap n t - r.img.taps.getD t 0
      (if t < 16 then useA else useB) && (x == c || x == -(c : Int))
    else
      let x := d.loopVal n k - r.img.loops.getD k 0
      x == c || x == -(c : Int)
  (List.range 8).foldl (fun m k => if hit k then m ||| (1 <<< k) else m) 0

/-! ## Wedges (R66 to R68, R156) -/

/-- Binary value of an n-bit Gray code. -/
def grayBin : Nat → Nat → Nat
  | 0, _ => 0
  | n + 1, g => let hi := grayBin n (g / 2); 2 * hi + (hi % 2 + g % 2) % 2

/-- The data bits of `n` symbol pairs, first pair most significant (R66), and whether a pair was none: 0b10 is 1, 0b01 is 0; what a channel takes from another pair is open. (DESIGN CHOICE, log entry 72) -/
def pairBits (n x : Nat) : Nat × Bool :=
  (List.range n).foldl (fun (v, bad) i =>
    let p := bitsAt x (2 * (n - 1 - i)) 2
    (2 * v + (if p = 2 then 1 else if p = 1 then 0 else (Config.badPair (p == 3)).toNat), bad || p == 0 || p == 3)) (0, false)

/-- The symbols of the servo address mark (Table 3.1). -/
def samPattern : Nat := 0b100111010110

/-- The servo address mark is found (R66). (DESIGN CHOICE, log entry 72) -/
def samFound (x : Nat) : Bool := decide (popcount 12 (x ^^^ samPattern) ≤ Config.samSlack)

/-- Round num / den (den > 0) to nearest, ties away from zero. (DESIGN CHOICE, log entry 25) -/
def roundAway (num : Int) (den : Nat) : Int :=
  if 0 ≤ num then ((2 * num + den) / (2 * den)) else -((2 * (-num) + den) / (2 * den))

/-- PLIN[p] of a channel. -/
def Dev.plin (d : Dev) (n p : Nat) : Int :=
  if p = 16 then sext 16 (d.fld (F.CH_PLIN8_PT_LO n))
  else sext 16 (d.fld (if p % 2 = 0 then F.CH_PLIN_PT_LO n (p / 2) else F.CH_PLIN_PT_HI n (p / 2)))

/-- The raw ratio r of R156. -/
def burstRatio (ampN ampQ : Int) : Int := roundAway (2048 * ampN) (ampN.natAbs + ampQ.natAbs)

/-- PES from the burst amplitudes (R156). -/
def Dev.pesOf (d : Dev) (n : Nat) (ampN ampQ : Int) : Int :=
  let x := (burstRatio ampN ampQ + 2048).toNat
  let p := x / 256
  let f := x % 256
  if 16 ≤ p then d.plin n 16 else d.plin n p + roundAway ((d.plin n (p + 1) - d.plin n p) * f) 256

/-- The token of a demodulated wedge (Table 3.2). -/
def Dev.wedgeToken (d : Dev) (n stamp : Nat) (w : WedgeRaw) : Bytes :=
  let ampN := w.ampN.toInt
  let ampQ := w.ampQ.toInt
  let low := decide (ampN.natAbs + ampQ.natAbs < d.fld (F.CH_SVO_FLOOR n))
  let pes := if low then 0 else d.pesOf n ampN ampQ
  let num := (pairBits 11 w.number.toNat).1
  let (gray, tidErr) := pairBits 24 w.track.toNat
  let rro := (pairBits 13 w.rro.toNat).1
  let rroBad := popcount 13 rro % 2 == 1
  leBytes 8 stamp ++ leBytes 4 (n * 2 ^ 24 + grayBin 24 gray) ++
    leBytes 2 (tidErr.toNat * 2 ^ 14 + rroBad.toNat * 2 ^ 13 + low.toNat * 2 ^ 12 + bitsAt num 10 1 * 2 ^ 11 + num % 1024) ++
    leBytes 2 (tc 16 pes) ++ leBytes 2 (if rroBad then 0 else tc 16 (sext 12 (rro / 2))) ++ leBytes 2 w.ampN.toNat ++
    leBytes 2 w.ampQ.toNat ++ leBytes 2 w.samQ.toNat ++ List.replicate 8 0

/-- The token of a missed SAM: only HEAD, STAMP and SAM_MISS are set. -/
def missToken (n stamp : Nat) : Bytes := leBytes 8 stamp ++ leBytes 4 (n * 2 ^ 24) ++ leBytes 2 0x8000 ++ List.replicate 18 0

/-- Tracking after a SAM found at t (R68). Behind missed windows the measured period stays what it was. (DESIGN CHOICE, log entry 72) -/
def SamS.found1 (s : SamS) (t : Nat) : SamS :=
  if s.window then
    let p := if s.misses = 0 then t - s.last else s.period
    { s with last := t, period := p, next := t + p, misses := 0 }
  else if s.found = 0 then { s with found := 1, last := t, misses := 0 }
  else { s with found := 2, last := t, period := t - s.last, next := t + (t - s.last), window := true, misses := 0 }

/-- Whether a SAM at t lies in the search window, [t_k − P / 50, t_k + P / 50). -/
def SamS.inWindow (s : SamS) (t : Nat) : Bool := decide (50 * s.next ≤ 50 * t + s.period ∧ 50 * t < 50 * s.next + s.period)

/-- The prediction is lost: two SAMs must be found again (R68). -/
def SamS.lost (s : SamS) : SamS := { wedge := s.wedge, period := s.period }

/-- Tracking after a missed window: after five consecutive misses the prediction is lost (R68). -/
def SamS.missed (s : SamS) : SamS :=
  if s.misses + 1 = 5 then s.lost else { s with misses := s.misses + 1, next := s.next + s.period }

/-! ## Framing (R103 to R108) -/

/-- The best candidate in [lo, hi]: least distance at most thr, then nearest to c, then earliest. -/
def bestMark (cands : List (Int × Nat)) (lo hi c : Int) (thr : Nat) : Option Int :=
  (cands.foldl (fun (b : Option (Int × Nat)) x =>
    if x.1 < lo ∨ hi < x.1 ∨ thr < x.2 then b
    else match b with
      | none => some x
      | some y =>
        let nx := (x.1 - c).natAbs
        let ny := (y.1 - c).natAbs
        if x.2 < y.2 ∨ (x.2 = y.2 ∧ (nx < ny ∨ (nx = ny ∧ x.1 < y.1))) then some x else b) none).map Prod.fst

/-- The first candidate in [lo, hi] with distance at most thr (R103). -/
def firstMark (cands : List (Int × Nat)) (lo hi : Int) (thr : Nat) : Option Int :=
  (cands.foldl (fun (b : Option Int) x =>
    if x.1 < lo ∨ hi < x.1 ∨ thr < x.2 then b
    else match b with | none => some x.1 | some y => some (min y x.1)) none)

/-- The candidate nearest the expected position whose distance is at most thr; the earlier one on a tie (R107). -/
def nearMark (cands : List (Int × Nat)) (thr : Nat) : Option Int :=
  cands.foldl (fun (b : Option Int) x =>
    if x.1 < (-8 : Int) ∨ (8 : Int) < x.1 ∨ thr < x.2 then b
    else match b with
      | none => some x.1
      | some y => if x.1.natAbs < y.natAbs ∨ (x.1.natAbs = y.natAbs ∧ x.1 < y) then some x.1 else b) none

/-- Codeword bits at which the remainders of a sector begin (R79): the sector starts at bit `pos` of an interval of `dIv` bits. A wedge within the postamble leaves no codeword
bit behind it. -/
def splitBits (dIv : Nat) : Nat → Nat → Nat → Nat → List Nat
  | 0, _, _, _ => []
  | fuel + 1, pos, left, x =>
    if dIv - pos < left then
      let room := dIv - pos
      let x := x + room
      min (x - 192) 34848 :: splitBits dIv fuel 0 (left - room + 160) (x - 160)
    else []

/-- Hamming distances to a mark at the start positions [lo, hi] of a run of hard decisions, position 0 being decision `zero`; positions at which the mark touches an
erased range [a, b) of a thermal asperity are left out (R109). -/
def markAt (bits : List Bool) (zero : Int) (pat : List Bool) (lo hi : Int) (asp : List (Nat × Nat)) : List (Int × Nat) :=
  (List.range (hi - lo + 1).toNat).filterMap fun i =>
    let p := lo + i
    let k := (p + zero).toNat
    let seen := (bits.drop k).take pat.length
    if p + zero < 0 ∨ seen.length < pat.length ∨ (asp.any fun r => decide (r.1 < k + pat.length ∧ k < r.2)) then none
    else some (p, ((seen.zip pat).filter fun x => x.1 != x.2).length)

/-- The framing of a sector whose remainders begin at `splits` (R103 to R108). -/
def frameOf (v : SectorView) (splits : List Nat) (asp : List (Nat × Nat × Nat)) (ssmOnly : Bool) (psmWin psmThr ssmThr rsmThr ssmWin : Nat) : Framing :=
  let aspIn (k : Nat) : List (Nat × Nat) := (asp.filter fun x => x.1 == k).map Prod.snd
  let psm := if ssmOnly then none else firstMark (markAt v.head 128 psmBits (-psmWin) psmWin (aspIn 0)) (-psmWin) psmWin psmThr
  let lo : Int := match psm with | some f => f + 32 + 504 | none => 544 - ssmWin
  let hi : Int := match psm with | some f => f + 32 + 520 | none => 544 + ssmWin
  let ssm := bestMark (markAt v.head 128 ssmBits lo hi (aspIn 0)) lo hi (match psm with | some f => f + 32 + 512 | none => 544) ssmThr
  let rsm := (List.range splits.length).map fun i => nearMark (markAt (v.rsm.getD i []) 128 rsmBits (-8) 8 (aspIn (i + 1))) rsmThr
  let firstRsm := match rsm.findIdx? Option.isSome with | some i => splits.getD i 34848 | none => 34848
  { psmMiss := psm.isNone, ssmMiss := ssm.isNone, noFrame := psm.isNone && ssm.isNone
    rsmMiss := (rsm.filter Option.isNone).length
    reframe := match psm, ssm with | some f, some u => u - 512 - (f + 32) | _, _ => 0
    span := if ssm.isSome then 0 else firstRsm
    base := match ssm, psm with | some u, _ => u - 512 | none, some f => f + 32 | none, none => 32
    marks := rsm.map (Option.getD · 0) }

/-- Soft values [pos, pos + n) of a part; positions that are not held are erasures. -/
def softCut (l : List Int) (pos : Int) (n : Nat) : List Int :=
  List.replicate (min n (-pos).toNat) 0 ++ ((l.drop pos.toNat).take (n - (-pos).toNat) ++
    List.replicate (n - (-pos).toNat - (l.drop pos.toNat).length) 0).take (n - (-pos).toNat)

/-- Soft values of a part with the erased ranges set to 0. -/
def softErased (er : List (Nat × Nat × Nat)) (k : Nat) (l : List Int) : List Int :=
  l.mapIdx fun i x => if er.any fun p => decide (p.1 = k ∧ p.2.1 ≤ i ∧ i < p.2.2) then 0 else x

/-- The 34,848 soft values of the codeword bits as the sector is framed (R104 to R107): the head's bits from the base on, with the SSM left out; the lead segment erased where only
the SSM was found; each remainder from behind its resync mark. Also the six extended values: the three before bit 0 and the three after bit SPAN - 1 (R112). -/
def framedVals (parts : List (List Int)) (f : Framing) (splits : List Nat) : List Int × List Int :=
  let part (k : Nat) : List Int := parts.getD k []
  let b := f.base + 128
  let x0 := splits.headD 34848
  let lead := if f.psmMiss && !f.ssmMiss then List.replicate 512 0 else softCut (part 0) b 512
  let rest := (List.range splits.length).flatMap fun k =>
    softCut (part (k + 1)) (160 + f.marks.getD k 0) (splits.getD (k + 1) 34848 - splits.getD k 34848)
  let after : Int × Nat :=
    match (splits.takeWhile fun x => decide (x < f.span)).length with
    | 0 => (b + 32 + f.span, 0)
    | k + 1 => (160 + f.marks.getD k 0 + f.span - splits.getD k 0, k + 1)
  (lead ++ softCut (part 0) (b + 544) (x0 - 512) ++ rest, softCut (part 0) (b - 3) 3 ++ softCut (part after.2) after.1 3)

/-- FRAME byte of Table 4.10. -/
def frameByte (f : Framing) (ext : Bool) : Nat :=
  f.psmMiss.toNat + 2 * f.ssmMiss.toNat + 4 * f.noFrame.toNat + 8 * (ext && decide (0 < f.span)).toNat + 16 * min f.rsmMiss 15

/-- MODE byte of Table 4.9. -/
def modeByte (o : RunOrder) : Nat :=
  o.freezeImg.toNat + 2 * o.ssmOnly.toNat + 4 * o.ext.toNat + 8 * (o.reader % 4) + 32 * o.retain.toNat

/-- The 32-byte header of a soft-value block (Table 4.10). -/
def blockHeader (b : SoftBlock) : Bytes :=
  leBytes 2 b.ord.tag ++ leBytes 2 b.index ++ leBytes 1 b.head ++ leBytes 1 (modeByte b.ord) ++ leBytes 1 (frameByte b.frame b.ord.ext) ++
    leBytes 1 (tc 8 b.frame.reframe) ++ leBytes 8 b.lba ++ leBytes 4 b.ord.nsid ++ leBytes 2 b.ord.keySlot ++ leBytes 2 b.frame.span ++
    leBytes 2 (min b.erased 65535) ++ leBytes 1 b.mse ++ leBytes 1 b.ord.step ++ leBytes 2 b.tbuf ++ [0, 0]

/-- A soft-value block as it travels: header, the soft values and the extended values packed four to three bytes (R112). -/
def blockBytes (b : SoftBlock) : Bytes := blockHeader b ++ pack6 (b.vals ++ b.extra)

/-! ## The signal path (R87, R90, R91, R96 to R99) -/

/-- Sample of bit i of an update block, of samples that begin 25 bits before the block (R87). -/
def sampleAt (l : List Int) (i : Int) : Int := l.getD (i + 25).toNat 0

/-- Reader B's sample of bit i, delayed by B_DELAY / 16 channel bits (R90). (DESIGN CHOICE, log entry 73) -/
def delayedAt (delay : Nat) (l : List Int) (i : Int) : Int :=
  let j := i - (delay / 16 : Nat)
  if delay % 16 = 0 then sampleAt l j else Config.interpolate (delay % 16) (sampleAt l (j - 1)) (sampleAt l j)

/-- 256 times the equaliser output of bit i (R90); `a` and `b` give a reader's sample of a bit. -/
def equalise (taps : List Int) (a b : Int → Int) (i : Int) : Int :=
  (List.range 16).foldl (fun s t => s + taps.getD t 0 * a (i + 8 - t) + taps.getD (16 + t) 0 * b (i + 8 - t)) 0

/-- 64 times the target of a bit from c[k], c[k - 1] and c[k - 2] (R90). -/
def targetOf (g1 g2 c0 c1 c2 : Int) : Int := 64 * c0 + g1 * c1 + g2 * c2

/-- c of a bit: -1 for 1, +1 for 0. -/
def levelOf (b : Bool) : Int := if b then -1 else 1

/-- The branches of the detector's trellis at one bit, as (from, bit, to, metric): state 2 b[k - 1] + b[k - 2] (R91). -/
def branches (g1 g2 y : Int) : List (Nat × Bool × Nat × Int) :=
  (List.range 4).flatMap fun s => [false, true].map fun u =>
    let e := y - 256 * targetOf g1 g2 (levelOf u) (levelOf (s / 2 == 1)) (levelOf (s % 2 == 1))
    (s, u, 2 * u.toNat + s / 2, -(e * e))

/-- The greatest of some path metrics. -/
def maxOf : List Int → Int
  | [] => 0
  | x :: r => r.foldl max x

/-- Max-log-MAP over the equaliser outputs of a block, from the path metrics before it: the difference of the best metrics of 0 and 1 of each bit, the metrics from the block's start
backward, and those at its end (R91). (DESIGN CHOICE, log entry 73) -/
def maxLogMap (g1 g2 : Int) : List Int → List Int → List Int × List Int × List Int
  | [], al => ([], [0, 0, 0, 0], al)
  | y :: ys, al =>
    let br := branches g1 g2 y
    let fwd := (List.range 4).map fun s => maxOf ((br.filter fun x => x.2.2.1 == s).map fun x => al.getD x.1 0 + x.2.2.2)
    let (l, be, al') := maxLogMap g1 g2 ys fwd
    let best (u : Bool) : Int := maxOf ((br.filter fun x => x.2.1 == u).map fun x => al.getD x.1 0 + x.2.2.2 + be.getD x.2.2.1 0)
    ((best false - best true) :: l, (List.range 4).map fun s => maxOf ((br.filter fun x => x.1 == s).map fun x => x.2.2.2 + be.getD x.2.2.1 0), al')

/-- The soft value of a difference of metrics (R91): its sign, and a confidence that saturates at 31. (DESIGN CHOICE, log entry 73) -/
def softOf (x : Int) : Int :=
  let m : Int := min 31 (Config.confidence x.natAbs)
  if x = 0 then 0 else if 0 < x then m else -m

/-- What an update block gives: soft values, path metrics at its end, the last equaliser output; per bit that contributes (R97): index, 256 times its error, 64 times its target; the
gradient of the phase detector. -/
structure BlockOut where
  soft : List Int
  alpha : List Int
  lastY : Int
  errs : List (Nat × Int × Int)
  phase : Int
deriving DecidableEq, Repr

/-- The detector's work on one update block: `prev` are the soft values before it, `ok` says which of its bits may contribute. The phase detector is Mueller and Müller's on the
targets. (DESIGN CHOICE, log entry 73) -/
def detectBlock (g1 g2 : Int) (ys prev al : List Int) (lastY : Int) (ok : Nat → Int → Bool) : BlockOut :=
  let (ls, _, al') := maxLogMap g1 g2 ys al
  let soft := ls.map softOf
  let p := prev.length
  let all := prev ++ soft
  let c (i : Int) : Int := if i < 0 then 1 else levelOf (decide (all.getD i.toNat 0 < 0))
  let tgt (i : Nat) : Int := targetOf g1 g2 (c (p + i)) (c ((p : Int) + i - 1)) (c ((p : Int) + i - 2))
  let used := (List.range ys.length).filter fun i => ok i (soft.getD i 0)
  let before (i : Nat) : Int × Int := if i = 0 then (lastY, targetOf g1 g2 (c ((p : Int) - 1)) (c ((p : Int) - 2)) (c ((p : Int) - 3))) else (ys.getD (i - 1) 0, tgt (i - 1))
  { soft := soft, alpha := al', lastY := ys.getLastD 0, errs := used.map fun i => (i, ys.getD i 0 - 256 * tgt i, tgt i)
    phase := used.foldl (fun s i => s + ys.getD i 0 * (before i).2 - (before i).1 * tgt i) 0 }

/-- Sum over the contributing bits. -/
def errSum (l : List (Nat × Int × Int)) (f : Nat × Int × Int → Int) : Int := l.foldl (fun s x => s + f x) 0

/-- Gradients of loops 0 to 7 over a block, each with its denominator (R96). (DESIGN CHOICE, log entry 73) -/
def blockGrads (o : BlockOut) (a b : Int → Int) : List (Int × Nat) :=
  let gain := errSum o.errs fun x => x.2.1 * x.2.2.sign
  let mean := (errSum o.errs fun x => x.2.1, 256 * max 1 o.errs.length)
  [(gain, 256), (gain, 256), mean, mean, (errSum o.errs fun x => x.2.1 * (a x.1 * a x.1), 256), (errSum o.errs fun x => x.2.1 * (b x.1 * b x.1), 256), (0, 1), (o.phase, 256)]

/-- Gradients of the taps over a block, in 1/256: LMS on error times the tap's sample (R96). -/
def tapGrads (o : BlockOut) (a b : Int → Int) : List Int :=
  (List.range 32).map fun t => errSum o.errs fun x => x.2.1 * (if t < 16 then a ((x.1 : Int) + 8 - t) else b ((x.1 : Int) + 24 - t))

/-- MSE of a sector: the mean of e² in units of 1/1,024 of the squared main amplitude 64² (R99), from a sum in 1/65,536. -/
def mseOf (sum n : Nat) : Nat := if n = 0 then 0 else min 255 (sum / (65536 * 4 * n))

/-! ## Runs -/

/-- The sampling rate of a run in samples per ns (R87, R93): B_b / P × (1 + TR / 10^7), never above 6.4. -/
def sampleRate (bitsIv period : Nat) (tr : Int) : Nat × Nat :=
  let num := bitsIv * (10000000 + tr).toNat
  let den := period * 10000000
  if den = 0 then (0, 1) else if 64 * den < 10 * num then (64, 10) else (num, den)

/-- Channel bits per wedge interval of an order's band. -/
def Dev.bitsIv (d : Dev) (o : RunOrder) (n : Nat) : Nat := match d.fmtOf (actOf n) with | some f => (bandAt f o.band).bitsIv | none => 0

/-- The report of a run that has no reader (R89): LANE_FAULT, no sector sent, event 0x0304. -/
def Dev.laneFault (d : Dev) (n : Nat) (o : RunOrder) : Dev :=
  ((d.runReport { tag := o.tag, head := n, sent := 0, slipped := 0, firstSlip := 0xFFFF, flags := 8 }).readsLost n o 0).event (chBlk n) 0x04 o.tag o.reader

/-- Orders at the head of a channel's queue that have no usable reader any more are answered (R89). -/
def Dev.dropFaulty (d : Dev) (n : Nat) : List (RunOrder × Nat) → Dev
  | [] => d
  | (o, _) :: rest =>
    let (a, b) := d.readers n o
    if a || b then d else ((d.setChan n { d.chan n with orders := rest }).laneFault n o).dropFaulty n rest

/-- Start the next waiting run of a channel (R93, R98): the loops start from the live seeds, or from the image seeds with FREEZE_IMG, and the sampling rate is set. -/
def Dev.startRun (d : Dev) (n : Nat) : Dev :=
  let d := if (d.chan n).run.isNone then d.dropFaulty n (d.chan n).orders else d
  let c := d.chan n
  match c.run, c.orders with
  | none, (o, t) :: rest =>
    let img := d.seeds n false o.band
    let live := d.seeds n true o.band
    let (ua, ub) := d.readers n o
    let rate := sampleRate (d.bitsIv o n) c.sam.period (live.loops.getD 7 0)
    let d := d.setChan n { c with run := some { ord := o, accepted := t, img := img, live := live, rate := rate }, orders := rest }
    let d := d.putLoops n (if o.freezeImg then img else live) ua ub
    let d := (d.setFld (F.CH_STAT_RUN n) 1).setFld (F.CH_STAT_FROZEN n) 0
    (d.setFld (F.CH_STAT_REVERTS n) 0).setFld (F.CH_STAT_TAG n) o.tag
  | _, _ => d

/-- The report of a run (R113). -/
def runReportOf (n : Nat) (r : RunS) (extra : Nat) : RunReport :=
  { tag := r.ord.tag, head := n, sent := r.sent, slipped := r.slipped, firstSlip := r.firstSlip.getD 0xFFFF
    flags := r.reverted.toNat + 2 * r.frozen.toNat + 4 * r.pllLost.toNat + extra }

/-- End a channel's run: the report goes to MSQa; clean runs are learned once every sector sent is reported OK (R100); the next waiting
order starts. (DESIGN CHOICE, log entry 18) -/
def Dev.endRun (d : Dev) (n : Nat) (r : RunS) (extra : Nat) : Dev :=
  let c := d.chan n
  let learnable := d.flag (F.CH_CTRL_LEARN n) && !r.reverted && !r.unclean
  let d := if learnable && decide (r.oks = r.sent ∧ 0 < r.sent) then d.setLive n r.ord.band (d.loopsNow n) else d
  let l : List Learn := if learnable && decide (r.oks < r.sent) then [⟨r.ord.tag, r.ord.band, r.sent - r.oks, d.loopsNow n⟩] else []
  let d := d.setChan n { c with run := none, learn := c.learn ++ l }
  ((d.runReport (runReportOf n r extra)).setFld (F.CH_STAT_RUN n) 0).startRun n

/-- A final sector report of a run, as the learning of R100 sees it. (DESIGN CHOICE, log entry 18) -/
def Dev.noteReport (d : Dev) (n tag : Nat) (ok : Bool) : Dev :=
  let c := d.chan n
  let c := match c.run with
    | some r => if r.ord.tag = tag then
        { c with run := some (if ok then { r with oks := r.oks + 1 } else { r with unclean := true }) } else c
    | none => c
  match c.learn.find? fun l => decide (l.tag = tag) with
  | none => d.setChan n c
  | some l =>
    if ok && decide (1 < l.left) then
      d.setChan n { c with learn := c.learn.map fun x => if x = l then { x with left := x.left - 1 } else x }
    else
      let d := d.setChan n { c with learn := c.learn.erase l }
      if ok then d.setLive n l.band l.vals else d

/-! ## Where a sector lies (R73, R79) -/

/-- Wedges per revolution of an actuator's format. -/
def Dev.wedgesOf (d : Dev) (a : Nat) : Nat := match d.fmtOf a with | some f => f.hdr.wedges | none => 1024

/-- Track-buffer slot of sector i of an order. -/
def runSlot (o : RunOrder) (i : Nat) : Nat := (o.tbufFirst + i) % max o.tbufSize 1

/-- Wedge and bit at which sector i of an order begins (R73, R79). -/
def Dev.sectorPos (d : Dev) (n : Nat) (o : RunOrder) (i : Nat) : Option (Nat × Nat) :=
  (d.fmtOf (actOf n)).map fun f => sectorAt f o.stripe (o.first + i)

/-- The head stands behind the wedge after which sector i of an order begins, or `part` wedges further (R73, R79). -/
def Dev.atSector (d : Dev) (n : Nat) (o : RunOrder) (i part : Nat) : Bool :=
  match d.sectorPos n o i with
  | some (w, _) => (w + part) % max 1 (d.wedgesOf (actOf n)) == (d.chan n).sam.wedge
  | none => false

/-- Codeword bits at which the sector's remainders begin, from the format. -/
def Dev.sectorSplits (d : Dev) (n : Nat) (o : RunOrder) (i : Nat) : List Nat :=
  match d.fmtOf (actOf n), d.sectorPos n o i with
  | some f, some (_, pos) => splitBits (bandAt f o.band).dataIv 64 pos 35056 0
  | _, _ => []

end Sys2Proof.Machine
end

