-- ==== Sys2Proof/Machine/ServoOps.lean ====
section
/-! DEFINITION. Machine/ServoOps.lean: operations of the servo engine: fixed-point arithmetic, coefficient sets, the loop law, modes and faults
(chapter Servo Control Engine). -/
namespace Sys2Proof.Machine

/-! ## Fixed point (R158) -/

/-- Round at bit 28 of a product. (DESIGN CHOICE, log entry 25) -/
def qRound (x : Int) : Int := roundAway x (2 ^ 28)

/-- Saturate to 32 bits. -/
def qSat (x : Int) : Int := sat 32 x

/-- Product of two fixed-point numbers. (DESIGN CHOICE, log entry 25) -/
def qMul (a b : Int) : Int := qSat (qRound (a * b))

/-- Sum of products, rounded once and not yet saturated. (DESIGN CHOICE, log entry 25) -/
def qDot : List Int → List Int → Int → Int
  | a :: as, b :: bs, s => qDot as bs (s + a * b)
  | _, _, s => qRound s

/-- Quotient of two fixed-point numbers; 0 for a zero divisor, which R164 excludes. (DESIGN CHOICE, log entry 25) -/
def qDiv (a b : Int) : Int :=
  if b = 0 then 0 else qSat (if 0 < b then roundAway (a * 2 ^ 28) b.natAbs else roundAway (-(a * 2 ^ 28)) b.natAbs)

/-- How many of some values lie outside 32 bits. -/
def qOver (l : List Int) : Nat := (l.filter fun x => decide (qSat x ≠ x)).length

/-- Count the saturations of states and outputs in SAT_ARITH. -/
def Dev.countSat (d : Dev) (raw : List Int) : Dev := if qOver raw = 0 then d else d.bump .srv 5 (qOver raw)

/-- A number of 1/4,096 track in loop units (2^-POS_SHIFT). -/
def qPos (ps : Nat) (x : Int) : Int := qSat (x * 2 ^ (28 - ps))

/-! ## Loops -/

def Dev.lp (d : Dev) (k : Nat) : LoopS := d.srv.loops.get (fun _ => ({} : LoopS)) k
def Dev.setLp (d : Dev) (k : Nat) (l : LoopS) : Dev := { d with srv := { d.srv with loops := d.srv.loops.set (fun _ => ({} : LoopS)) k l } }

/-- The loop exists on the variant (R152). (DESIGN CHOICE, log entry 9) -/
def Dev.hasLoop (d : Dev) (k : Nat) : Bool := decide (k < 22) && !(d.v && (k == 1 || decide (12 ≤ k)))

def Dev.mode (d : Dev) (k : Nat) : Nat := d.fld (F.SRV_LSTAT_MODE k)

/-- Actuator of a loop, and local head of a microactuator loop. -/
def loopAct (k : Nat) : Nat := if k < 2 then k else (k - 2) / 10
def loopHead (k : Nat) : Nat := (k - 2) % 10

/-- Channel of a loop on its lane (Table 6.1). -/
def loopCh (k : Nat) : Nat := if k < 2 then 0 else 1 + loopHead k

/-- The microactuator loops of an actuator. -/
def microsOf (a : Nat) : List Nat := (List.range 10).map fun l => 2 + 10 * a + l

/-! ## Coefficient sets (Table 6.3) -/

/-- Base of a set: kind 0 HEEL, 1 FETCH, 2 RAMP. -/
def setBase (k kind bank : Nat) : Nat := 0x03010000 + 0x2000 * k + (if kind = 2 then 0x1000 else 0x800 * kind + 0x400 * bank)

/-- Kind of set that a mode uses (Table 6.4). -/
def modeKind (m : Nat) : Option Nat := if m = 1 ∨ m = 6 then some 2 else if m = 2 then some 1 else if m = 0 then none else some 0

/-- Active bank of a kind. -/
def Dev.activeBank (d : Dev) (k kind : Nat) : Nat :=
  if kind = 0 then d.fld (F.SRV_LSTAT_HEEL_ACT k) else if kind = 1 then d.fld (F.SRV_LSTAT_FETCH_ACT k) else 0

/-- Word at a byte offset of the set of a kind that is in effect at a loop, as a number. The RAMP set in effect is the one its last commit in DOWN
approved (R162). -/
def Dev.coef (d : Dev) (k kind o : Nat) : Int :=
  if kind = 2 then (d.lp k).ramp.getD (o / 4) 0 else sext 32 (d.word (setBase k kind (d.activeBank k kind) + o)).toNat

def Dev.coefs (d : Dev) (k kind o n : Nat) : List Int := (List.range n).map fun i => d.coef k kind (o + 4 * i)

/-- CFG of a set: NSTATE, NOUT, POS_SHIFT. -/
def Dev.cfgNstate (d : Dev) (k kind : Nat) : Nat := bitsAt (tc 32 (d.coef k kind 0x1D8)) 0 4
def Dev.cfgNout (d : Dev) (k kind : Nat) : Nat := bitsAt (tc 32 (d.coef k kind 0x1D8)) 4 2
def Dev.cfgShift (d : Dev) (k kind : Nat) : Nat := bitsAt (tc 32 (d.coef k kind 0x1D8)) 8 5

/-! ## Commands and inhibits -/

def Dev.lane (d : Dev) (a : Nat) : LaneS := d.lanes.get (fun _ => ({} : LaneS)) a
def Dev.setLane (d : Dev) (a : Nat) (l : LaneS) : Dev := { d with lanes := d.lanes.set (fun _ => ({} : LaneS)) a l }

/-- Lane a is present, and not declared failed. -/
def Dev.laneOk (d : Dev) (a : Nat) : Bool := !(d.v && a == 1) && !(d.fld F.ACT_STAT_FAILED).testBit a

/-- A power-stage profile of the image for an ID. -/
def Dev.pstage (d : Dev) (id : Nat) : Option PStage := d.load.pstages.find? fun p => decide (p.id = id)

/-- The function channel is supported by the power stage of lane 0 (Table 7.6). -/
def Dev.funcOk (d : Dev) (ch : Nat) : Bool := match d.pstage (d.fld (F.ACT_PSID_ID 0)) with
  | some p => d.flag (F.ACT_PSID_FOUND 0) && p.funcs.testBit (ch - 11)
  | none => false

/-- Send a frame on a lane (Table 6.12): it is outstanding until its reply or its timeout. -/
def Dev.sendFrame (d : Dev) (a ty ch value : Nat) (bad : Bool) : Dev :=
  let l := d.lane a
  (d.setLane a { l with out := some { ty := ty, ch := ch, seq := l.seq, value := value, sentAt := d.now, badCrc := bad }
                        seq := (l.seq + 1) % 256 }).bump .act 0

/-- Whether an armed ACT.INJECT hits a SET frame (Table 6.16). (DESIGN CHOICE, log entry 15) -/
def Dev.actArmed (d : Dev) (a ch : Nat) : Bool := d.flag F.ACT_INJECT_ARM && d.fld F.ACT_INJECT_LANE = a && d.fld F.ACT_INJECT_CH = ch

/-- A SET frame; an injection inverts its CRC. -/
def Dev.sendSet (d : Dev) (a ch value : Nat) : Dev :=
  let inj := d.actArmed a ch
  (if inj then d.setFlag F.ACT_INJECT_ARM false else d).sendFrame a 0 ch value inj

/-- Value of a function channel of lane 0: a change of value goes out in a SET at once where the lane is free (R207), else with FUNCTION_CHANNEL_REFRESH. -/
def Dev.setFunc (d : Dev) (c v : Nat) : Dev :=
  let l := d.lane 0
  let d' := d.setLane 0 { l with func := l.func.set (fun _ => 0) c v }
  if l.func.get (fun _ => 0) c = v ∨ !d.laneOk 0 ∨ !d.funcOk c ∨ l.out.isSome ∨ l.disc.isSome then d' else d'.sendSet 0 c v

/-- SET code of a command (R179). -/
def setCode (u : Int) : Int := clampAbs 32767 (roundAway (u * 32767) (2 ^ 28))

/-- Put a command into the loop's ACT mailbox and show it in UOUT. -/
def Dev.sendU (d : Dev) (k : Nat) (u : Int) : Dev :=
  let a := loopAct k
  let l := d.lane a
  (d.setFld (F.SRV_UOUT_U k) (tc 32 u)).setLane a { l with mail := l.mail.set (fun _ => none) (loopCh k) (some (setCode u)) }

def Dev.whead (d : Dev) (n : Nat) : WHeadS := d.wrp.heads.get (fun _ => ({} : WHeadS)) n
def Dev.setWhead (d : Dev) (n : Nat) (h : WHeadS) : Dev := { d with wrp := { d.wrp with heads := d.wrp.heads.set (fun _ => ({} : WHeadS)) n h } }

/-- INH[n] (R143). -/
def inhBit (n : Nat) : RF := ⟨F.WRP_STAT_INH.a, n, 1⟩

/-- Raise INH[n]: a rise begins a new count of good wedges, PEAK and event. (DESIGN CHOICE, log entry 24) -/
def Dev.raiseInh (d : Dev) (n : Nat) : Dev :=
  if d.flag (inhBit n) then d.setWhead n { d.whead n with good := 0 }
  else (d.setFld (inhBit n) 1).setWhead n { d.whead n with good := 0, peak := 0, logged := false }

/-- A loop leaves HEEL: INH rises for its head, or for every head of the actuator (R174). -/
def Dev.leaveHeel (d : Dev) (k : Nat) : Dev :=
  if k < 2 then (List.range 10).foldl (fun d l => d.raiseInh (10 * k + l)) d else d.raiseInh (k - 2)

/-- In servo mode LOAD the channels of the actuator have lost their predictions (R68). -/
def Dev.loseSams (d : Dev) (a : Nat) : Dev :=
  (List.range 10).foldl (fun (d : Dev) l => let c := d.chan (10 * a + l); d.setChan (10 * a + l) { c with sam := c.sam.lost }) d

/-! ## Reports and faults -/

/-- Return a mode report (Table 6.9). -/
def Dev.modeReport (d : Dev) (k tag status fault wedges : Nat) : Dev :=
  { d with msq := { d.msq with modes := d.msq.modes ++ [{ tag := tag, loop := k, mode := d.mode k, status := status, fault := fault
                                                          wedges := min wedges 65535, peak := d.fld (F.SRV_LERR_PEAK k) }] } }

/-- Report the outstanding order of a loop as DONE if it is one of the given codes. -/
def Dev.orderDone (d : Dev) (k : Nat) (codes : List Nat) : Dev :=
  match (d.lp k).order with
  | some o => if codes.contains o.code then (d.setLp k { d.lp k with order := none }).modeReport k o.tag 0 0 o.wedges else d
  | none => d

/-- An event of loop k: bit 31 of parameter 3 tells that it results from an injected fault (R182). (DESIGN CHOICE, log entry 15) -/
def Dev.loopEvent (d : Dev) (k code p1 p2 p3 : Nat) : Dev := d.event .srv code p1 p2 (p3 + injBit (d.lp k).inj) k

/-- Set a loop's fault code: its outstanding order is reported, or without one the loop-fault condition is raised and logged (R172, R174). -/
def Dev.flagLoop (d : Dev) (k code mode : Nat) : Dev :=
  let d := (d.setFld (F.SRV_LSTAT_FAULT k) code).bump .srv 8
  match (d.lp k).order with
  | some o => (d.setLp k { d.lp k with order := none }).modeReport k o.tag 1 code o.wedges
  | none => (d.setFld ⟨F.SRV_LFAULT_FAULT.a, k, 1⟩ 1).loopEvent k 0x02 code mode (d.lp k).tgt

/-! ## Bank swaps and the bumpless transfer (R162, R169) -/

def Dev.fetchSwap (d : Dev) (k : Nat) : Dev :=
  if d.flag (F.SRV_LSTAT_FETCH_PEND k) then
    (d.setFld (F.SRV_LSTAT_FETCH_ACT k) (d.fld (F.SRV_LBANK_FETCH_NEXT k))).setFld (F.SRV_LSTAT_FETCH_PEND k) 0 else d

def Dev.heelSwap (d : Dev) (k : Nat) : Dev :=
  if d.flag (F.SRV_LSTAT_HEEL_PEND k) then
    (d.setFld (F.SRV_LSTAT_HEEL_ACT k) (d.fld (F.SRV_LBANK_HEEL_NEXT k))).setFld (F.SRV_LSTAT_HEEL_PEND k) 0 else d

/-- Steady states of the cascade for a constant input: s1 and s2 of each biquad, not yet saturated (R169). -/
def steady : List (List Int) → Int → List (Int × Int)
  | [], _ => []
  | b :: bs, v =>
    let b0 := b.getD 0 0; let b1 := b.getD 1 0; let b2 := b.getD 2 0; let a1 := b.getD 3 0; let a2 := b.getD 4 0
    let g := qDiv (b0 + b1 + b2) (2 ^ 28 + a1 + a2)
    let y := qMul g v
    let s2 := qRound (b2 * v - a2 * y)
    (qRound (b1 * v - a1 * y) + qSat s2, s2) :: steady bs y

/-- The six biquads of a set. -/
def Dev.biquads (d : Dev) (k kind : Nat) : List (List Int) := (List.range 6).map fun b => d.coefs k kind (0x1E0 + 20 * b) 5

/-- Bumpless transfer to the set of kind `kind` now in effect (R169); `vel` is the old xh[1], with the old NSTATE and POS_SHIFT. -/
def Dev.bumpless (d : Dev) (k kind : Nat) (old : Option (Nat × Nat × Int)) (aref : Int) : Dev :=
  let l := d.lp k
  let u := sext 32 (d.fld (F.SRV_UOUT_U k))
  let vel : Int := match old with
    | some (n, ps, v) =>
      if 2 ≤ n ∧ 2 ≤ d.cfgNstate k kind then
        if d.cfgShift k kind ≤ ps then v * 2 ^ (ps - d.cfgShift k kind) else roundAway v (2 ^ (d.cfgShift k kind - ps))
      else 0
    | none => 0
  let v0 := qMul u (d.coef k kind 0x1DC)
  let st := steady (d.biquads k kind) v0
  let lim := d.coef k kind 0x1C8
  let raw := qSat (v0 - l.u0 - qMul (d.coef k kind 0x1C0) aref)
  let i := clampAbs lim raw
  let d := d.setLp k { l with xp := [0, qSat vel, 0, 0, 0, 0, 0, 0], s1 := st.map fun x => qSat x.1, s2 := st.map fun x => qSat x.2 }
  let d := d.countSat (vel :: st.map Prod.fst ++ st.map Prod.snd)
  let d := (List.range 8).foldl (fun d j => d.setFld (F.SRV_XH_XH k j) 0) d
  let d := d.setFld (F.SRV_INT_I k) (tc 32 i)
  if i = raw then d else d.loopEvent k 0x0B (d.mode k) (tc 32 i) 0

/-- The counts of a loop that computes on wedges no more end: consecutive unused and implausible wedges, wedges at ±UMAX, faults due from them (R167). -/
def Dev.endCounts (d : Dev) (k : Nat) : Dev :=
  ((d.setFld (F.SRV_LSTAT_IMPL k) 0).setFld (F.SRV_LSTAT_COAST k) 0).setLp k { d.lp k with satC := 0, due := [] }

/-- Enter a mode: INH on leaving HEEL and, for a head, in every mode until REARM good wedges in HEEL (R143); SAM predictions are lost in LOAD (R68); the bumpless transfer where the set changes, counters of the mode at 0 (R165, R168, R169). Counts of consecutive wedges run on from one tracking mode to the next and end in DOWN, LOAD and UNLOAD. (DEDUCED, log entry 77) -/
def Dev.enter (d : Dev) (k m : Nat) (swap : Bool) : Dev :=
  let m0 := d.mode k
  let old : Option (Nat × Nat × Int) := (modeKind m0).map fun kd => (d.cfgNstate k kd, d.cfgShift k kd, sext 32 (d.fld (F.SRV_XH_XH k 1)))
  let d := if m0 = 4 ∧ m ≠ 4 then d.leaveHeel k else d
  let d := if 2 ≤ k then d.raiseInh (k - 2) else d
  let d := if k < 2 ∧ m = 1 then d.loseSams k else d
  let d := if m0 = 2 ∧ m ≠ 2 then (d.bump .srv 7 (d.lp k).fetchW).fetchSwap k else d
  let d := if m0 = 2 ∧ m = 3 then d.heelSwap k else d
  let d := d.setFld (F.SRV_LSTAT_MODE k) m
  let d := d.setLp k { d.lp k with settle := 0, sitW := 0, fetchW := 0, iclC := 0, iclLog := false, driftLog := false, slow := 0
                                   since := d.now, holding := false, ended := false, extra := 0 }
  let d := if m = 3 then d.setFld (F.SRV_LERR_PEAK k) 0 else d
  let d := if m = 0 ∨ m = 1 ∨ m = 6 then d.endCounts k else d
  let d := if k < 2 ∧ (m = 1 ∨ m = 5) then (microsOf k).foldl (fun d j => d.setLp j { d.lp j with sams := 0 }) d else d
  match modeKind m with
  | some kd => if modeKind m0 = some kd && !swap then d else d.bumpless k kd old 0
  | none => d

/-- Go to DOWN: command 0, sent once (R161). -/
def Dev.down (d : Dev) (k : Nat) : Dev :=
  if d.mode k = 0 then d
  else
    let d := (d.enter k 0 false).sendU k 0
    d.setLp k { d.lp k with u0 := 0, rho := 0 }

/-- Put the microactuator loops of an actuator in DOWN. -/
def Dev.microsDown (d : Dev) (a : Nat) : Dev := (microsOf a).foldl (fun d k => d.down k) d

/-- Set the ramp residue from the measured position (R165). -/
def Dev.rampFrom (d : Dev) (k : Nat) (target : Int) : Dev := d.setLp k { d.lp k with rho := (d.lp k).pos - target }

/-- Target of a loop in 1/4,096 track: the stripe track of a VCM loop, the head's physical track and OFFSET of a microactuator loop (R153). -/
def Dev.target (d : Dev) (k : Nat) : Int :=
  let l := d.lp k
  if k < 2 then (l.tgt : Int) * 4096
  else match d.fmtOf (loopAct k) with
    | some f => ((l.tgt : Int) + (staggerAt f (bandIdx f l.tgt) (loopHead k)).delta) * 4096 + l.ofs
    | none => (l.tgt : Int) * 4096 + l.ofs

/-- U0 of a microactuator loop (R155). -/
def Dev.feedforward (d : Dev) (k : Nat) : Int :=
  let l := d.lp k
  if k < 2 then 0
  else match d.fmtOf (loopAct k) with
    | some f =>
      let x := readOffset f l.tgt (loopHead k) + (if l.wr then writeOffset f l.tgt (loopHead k) else 0)
      qSat (roundAway (-(x * 2 ^ 28)) (max (d.fld (F.SRV_LHEAD_GAIN_NM k) * 1000) 1))
    | none => 0

/-- A loop faults (R167, R168, R177). -/
def Dev.loopFault (d : Dev) (k code : Nat) : Dev :=
  let m := d.mode k
  let a := loopAct k
  let d := d.setLp k { d.lp k with due := (d.lp k).due.filter (· != code) }
  let d := if 2 ≤ k then d.down k
    else if code = 2 ∨ (code = 1 ∧ m = 5) then
      let d := ((d.enter k 5 false).microsDown a).endCounts k
      (d.setLp k { d.lp k with holding := true, tick := d.now, holdU := sext 32 (d.fld (F.SRV_INT_I k)) }).bump .srv 9
    else if code = 1 ∨ code = 5 ∨ code = 3 then
      let d := ((d.enter k 5 false).rampFrom k (d.target k))
      d.microsDown a
    else if code = 4 then (d.enter k 5 false).rampFrom k (d.target k)
    else if code = 6 ∨ code = 7 then
      let d := (d.microsDown a).enter k 6 false
      d.setLp k { d.lp k with tick := d.now }
    else (d.down k).microsDown a
  (d.setLp k { d.lp k with satC := 0 }).flagLoop k code m

/-- A loop faults that may be in DOWN already: its command 0 is sent all the same (R176, R178). -/
def Dev.downFault (d : Dev) (k code : Nat) : Dev := if d.mode k = 0 then (d.sendU k 0).flagLoop k code 0 else d.loopFault k code

/-- Fault checks that are due from the wedges counted so far (Table 6.11). -/
def Dev.dueFault (d : Dev) (k : Nat) : Option Nat :=
  let l := d.lp k
  let m := d.mode k
  let run := decide (2 ≤ m ∧ m ≤ 5) && !l.holding
  if run && l.due.contains 1 then some 1
  else if run && l.due.contains 2 then some 2
  else if run && decide (0 < d.fld (F.SRV_LRAMP_SAT_N k) ∧ d.fld (F.SRV_LRAMP_SAT_N k) ≤ l.satC) then some 5
  else if k < 2 && m == 2 && l.ended && decide (d.fld (F.SRV_LFETCH_FETCH_EXTRA k) ≤ l.extra) then some 3
  else if m == 3 && decide (d.fld (F.SRV_LWIN_SIT_MAX k) ≤ l.sitW) then some 4
  else none

/-- Take the fault that is due, if one of the given code is. -/
def Dev.takeFault (d : Dev) (k code : Nat) : Dev := if d.dueFault k = some code then d.loopFault k code else d

/-- Take whatever faults are due before the loop computes again or an order is acted on. -/
def Dev.takeDue (d : Dev) (k : Nat) : Dev :=
  let one (d : Dev) : Dev := match d.dueFault k with
    | some c => d.loopFault k c
    | none => d
  one (one d)

/-- One more unused wedge of a loop: the fifth in a row makes LOST due (R167). -/
def Dev.coast (d : Dev) (k : Nat) : Dev :=
  let n := d.fld (F.SRV_LSTAT_COAST k) + 1
  let d := (d.setFld (F.SRV_LSTAT_COAST k) (min n 7)).bump .srv 1
  if n = 5 then d.setLp k { d.lp k with due := (d.lp k).due ++ [2] } else d

/-- One more implausible wedge of a loop: the third in a row makes INNOV due (R167). -/
def Dev.implausible (d : Dev) (k : Nat) : Dev :=
  let n := d.fld (F.SRV_LSTAT_IMPL k) + 1
  let d := (d.setFld (F.SRV_LSTAT_IMPL k) (min n 3)).bump .srv 2
  if n = 3 then d.setLp k { d.lp k with due := (d.lp k).due ++ [1] } else d

/-! ## The loop law (R160) -/

/-- Run the filter cascade: output, new s1 and s2, unsaturated values for the count of saturations. -/
def cascade : List (List Int) → List Int → List Int → Int → Int × List Int × List Int × List Int
  | b :: bs, s1 :: t1, s2 :: t2, v =>
    let y' := qRound (b.getD 0 0 * v) + s1
    let y := qSat y'
    let n1' := qRound (b.getD 1 0 * v - b.getD 3 0 * y) + s2
    let n2' := qRound (b.getD 2 0 * v - b.getD 4 0 * y)
    let (o, l1, l2, raw) := cascade bs t1 t2 y
    (o, qSat n1' :: l1, qSat n2' :: l2, y' :: n1' :: n2' :: raw)
  | _, _, _, v => (v, [], [], [])

/-- What a loop computes at one wedge or tick: the measurements (none = missing or rejected), whether the wedge is implausible under R157, the
feedback terms held at 0 (FETCH of a microactuator), the input of the cascade held (a VCM loop holding without position), the profile acceleration. -/
structure LoopIn where
  z : Option (Int × Int)
  implausible : Bool := false
  openLoop : Bool := false
  held : Option Int := none
  aref : Int := 0
  injected : Bool := false
deriving DecidableEq, Repr

/-- Note how the loop's wedge went (R160, R167): a used one ends the counts of consecutive unused and implausible wedges. A loop whose unused wedges were
injected marks the events that result, until a wedge is used again. -/
def Dev.noteWedge (d : Dev) (k : Nat) (usable bad injected : Bool) : Dev :=
  let d := d.setLp k { d.lp k with inj := injected || (!usable && (d.lp k).inj) }
  if usable then ((d.setFld (F.SRV_LSTAT_IMPL k) 0).setFld (F.SRV_LSTAT_COAST k) 0).bump .srv 0
  else
    let d := d.coast k
    if bad then d.implausible k else d

/-- One computation of a loop with the set of its mode; answers whether the wedge was used (R160). With the feedback terms held at 0, or the input of the
cascade held, the integrator keeps its value. (DEDUCED, log entry 77) -/
def Dev.compute (d : Dev) (k : Nat) (inp : LoopIn) : Dev × Bool :=
  match modeKind (d.mode k) with
  | none => (d, false)
  | some kd =>
    let l := d.lp k
    let no := d.cfgNout k kd
    let c (o : Nat) : List Int := d.coefs k kd (0x120 + 32 * o) 8
    let e (z : Int × Int) : List Int := [qSat (z.1 - qSat (qDot (c 0) l.xp 0)), if no = 2 then qSat (z.2 - qSat (qDot (c 1) l.xp 0)) else 0]
    let innov : Bool := match inp.z with
      | some z => decide (d.coef k kd 0x1D0 < ((e z).getD 0 0).natAbs) || (no == 2 && decide (d.coef k kd 0x1D4 < ((e z).getD 1 0).natAbs))
      | none => false
    let usable := inp.z.isSome && !innov && !inp.implausible
    let ev : List Int := match inp.z with | some z => e z | none => [0, 0]
    let xh' : List Int := if usable then (List.range 8).map fun i => l.xp.getD i 0 + qDot (d.coefs k kd (0x160 + 8 * i) 2) ev 0 else l.xp
    let xh := xh'.map qSat
    let i0 := sext 32 (d.fld (F.SRV_INT_I k))
    let closed := !inp.openLoop && inp.held.isNone
    let v' := match inp.held with
      | some h => h
      | none => if inp.openLoop then l.u0 else l.u0 + qMul (d.coef k kd 0x1C0) inp.aref - qDot (d.coefs k kd 0x1A0 8) xh 0 + i0
    let v0 := qSat v'
    let (v, s1, s2, raw) := cascade (d.biquads k kd) l.s1 l.s2 v0
    let umax := d.coef k kd 0x1CC
    let u := clampAbs umax v
    let di := -(qMul (d.coef k kd 0x1C4) (xh.getD 0 0))
    let into := u != v && ((decide (0 < di) && decide (0 < v)) || (decide (di < 0) && decide (v < 0)))
    let icl := d.coef k kd 0x1C8
    let i1 := if !closed || into then i0 else clampAbs icl (i0 + di)
    let xp' : List Int := (List.range 8).map fun i => qDot (d.coefs k kd (32 * i) 8) xh (d.coef k kd (0x100 + 4 * i) * u)
    let satNow := u == umax || u == -umax
    let iclNow := i1 == icl || i1 == -icl
    let d := d.setLp k { l with xp := xp'.map qSat, s1 := s1, s2 := s2
                                satC := if satNow then l.satC + 1 else 0, iclC := if iclNow then l.iclC + 1 else 0 }
    let d := (List.range 8).foldl (fun d j => d.setFld (F.SRV_XH_XH k j) (tc 32 (xh.getD j 0))) d
    let d := (d.setFld (F.SRV_INT_I k) (tc 32 i1)).setFlag (F.SRV_LSTAT_SAT k) satNow
    let d := d.setFlag (F.SRV_LSTAT_ICL k) iclNow
    let d := d.countSat (v' :: xh' ++ xp' ++ raw)
    ((d.noteWedge k usable (innov || inp.implausible) inp.injected).sendU k u, usable)

/-- Note the measurements of a loop: Z0, Z1, LERR. `x` is z1 in 1/4,096 track. -/
def Dev.noteZ (d : Dev) (k : Nat) (z1 z2 x : Int) : Dev :=
  let d := ((d.setFld (F.SRV_Z0_Z k) (tc 32 z1)).setFld (F.SRV_Z1_Z k) (tc 32 z2)).setFld (F.SRV_LERR_LAST k) (tc 16 (sat 16 x))
  if d.fld (F.SRV_LERR_PEAK k) < x.natAbs then d.setFld (F.SRV_LERR_PEAK k) (min x.natAbs 65535) else d

/-- Add a set-point change to the prediction: dr and dv in 1/4,096 track (R160). -/
def Dev.shiftXp (d : Dev) (k : Nat) (dr dv : Int) : Dev :=
  match modeKind (d.mode k) with
  | none => d
  | some kd =>
    let l := d.lp k
    let ps := d.cfgShift k kd
    let x0 := l.xp.getD 0 0 - dr * 2 ^ (28 - ps)
    let x1 := if 2 ≤ d.cfgNstate k kd then l.xp.getD 1 0 - dv * 2 ^ (28 - ps) else l.xp.getD 1 0
    (d.setLp k { l with xp := (l.xp.set 0 (qSat x0)).set 1 (qSat x1) }).countSat [x0, x1]

/-- One step of the ramp: ρ moves toward 0 by at most RAMP_STEP (R165). -/
def Dev.rampStep (d : Dev) (k : Nat) : Dev :=
  let l := d.lp k
  let s : Int := d.fld (F.SRV_LRAMP_RAMP_STEP k)
  let rho := if l.rho < -s then l.rho + s else if s < l.rho then l.rho - s else 0
  if rho = l.rho then d else (d.setLp k { l with rho := rho }).shiftXp k (rho - l.rho) 0

/-- One step of the FETCH profile (R166). -/
def profileStep (target amax vmax rp vp : Int) : Int × Int × Int × Bool :=
  let dr := target - rp
  if dr.natAbs ≤ amax.natAbs ∧ vp.natAbs ≤ amax.natAbs then (target, 0, 0, true)
  else
    let ap := if 0 < vp * dr ∧ 2 * amax * dr.natAbs ≤ vp * vp then -(amax * vp.sign)
      else if (vp.natAbs : Int) < 256 * vmax then amax * dr.sign else 0
    let vp := clampAbs (256 * vmax) (vp + ap)
    (rp + vp, vp, ap, false)

/-- Step the profile of a VCM loop in FETCH: the set-point's changes go into the prediction. -/
def Dev.stepProfile (d : Dev) (k : Nat) : Dev :=
  let l := d.lp k
  if l.ended then d.setLp k { l with extra := l.extra + 1 }
  else
    let (rp, vp, ap, fin) := profileStep (d.target k) (d.fld (F.SRV_LPROF_AMAX k)) (d.fld (F.SRV_LPROF_VMAX k)) l.rp l.vp
    (d.setLp k { l with rp := rp, vp := vp, ap := ap, ended := fin, rho := rp - d.target k }).shiftXp k (rp - l.rp) (vp - l.vp)

/-- The pair that runs a computation: the one asked for if it is in service, else the lowest in service (R176). -/
def Dev.pairFor (d : Dev) (p : Nat) : Option Nat :=
  let ok := d.fld F.SRV_STAT_PAIR_OK
  if ok.testBit p then some p else (List.range 4).find? fun i => ok.testBit i

/-- A compare-pair mismatch (R176): the pair is retired, the wedge is unused; without a pair every loop goes to DOWN with NO_PAIR, and command 0 is sent on
every channel. -/
def Dev.pairBad (d : Dev) (k p wedge : Nat) (inj : Bool) : Dev :=
  let d := (d.setFld ⟨F.SRV_STAT_PAIR_OK.a, 4 + p, 1⟩ 0).bump .srv 4
  let d := ((d.flagFault .srv 3 2).event .srv 0x01 p k (wedge + injBit inj) k).coast k
  if d.fld F.SRV_STAT_PAIR_OK = 0 then (List.range 22).foldl (fun d k => if d.hasLoop k then d.downFault k 10 else d) d
  else d

/-- Count the wedge of an outstanding order and of the mode. -/
def Dev.countWedge (d : Dev) (k : Nat) : Dev :=
  let l := d.lp k
  let m := d.mode k
  d.setLp k { l with
    order := l.order.map fun o => { o with wedges := o.wedges + 1 }
    sitW := if m = 3 then l.sitW + 1 else l.sitW
    fetchW := if m = 2 then l.fetchW + 1 else l.fetchW }

/-- Settling (Table 6.5): used wedges with ρ = 0 and |z1| within SETTLE_WIN count, implausible ones reset, missing ones neither. `num / den` is z1 in 1/4,096
track. -/
def Dev.settle (d : Dev) (k : Nat) (used missing : Bool) (num : Int) (den : Nat) : Dev :=
  if d.mode k ≠ 3 then d
  else
    let l := d.lp k
    let n := if missing then l.settle
      else if used && l.rho == 0 && decide (num.natAbs ≤ d.fld (F.SRV_LWIN_SETTLE_WIN k) * den) then l.settle + 1 else 0
    let d := d.setLp k { l with settle := n }
    if d.fld (F.SRV_LWIN_SETTLE_N k) ≤ n ∧ 0 < n then (d.enter k 4 false).orderDone k [2, 7] else d

/-- The latency window of R175 that has ended is logged: event 0x0607 with the wedges over in it. (DESIGN CHOICE, log entry 77) -/
def Dev.latencyEnd (d : Dev) (k : Nat) : Dev :=
  match d.srv.latWin with
  | some (t, n) =>
    if t + 1000000 ≤ d.now then
      ({ d with srv := { d.srv with latWin := none } }).event .srv 0x07 (d.fld F.SRV_LATMAX_MAX_NS) (popcount 4 (d.fld F.SRV_STAT_PAIR_OK)) n k
    else d
  | none => d

/-- Latency of R175: LATMAX, LAT_OVER and the wedges over in a window of 1 ms, which begins at the first of them. -/
def Dev.latency (d : Dev) (k ns : Nat) : Dev :=
  let d := d.latencyEnd k
  let d := if d.fld F.SRV_LATMAX_MAX_NS < ns then d.setFld F.SRV_LATMAX_MAX_NS (min ns 65535) else d
  if ns ≤ 3000 then d
  else
    let d := d.bump .srv 10
    { d with srv := { d.srv with latWin := match d.srv.latWin with | some (t, n) => some (t, n + 1) | none => some (d.now, 1) } }

end Sys2Proof.Machine
end

