-- ==== Sys2Proof/Machine/Actuator.lean ====
section
/-! DEFINITION. Machine/Actuator.lean: the actuator link ACT (chapters Servo Control Engine; Spindle Commutation, Braking and Retract). -/
namespace Sys2Proof.Machine

/-- Loops of a lane. -/
def laneLoops (a : Nat) : List Nat := a :: microsOf a

/-- A lane is declared failed (R178): FAILED, event 0x0804, the lane's loops to DOWN with ACT_FAIL. -/
def Dev.laneFail (d : Dev) (a ch why : Nat) : Dev :=
  if !d.laneOk a then d
  else
    let d := (d.setFld ⟨F.ACT_STAT_FAILED.a, 4 + a, 1⟩ 1).event .act 0x04 a ch why a
    let d := d.setLane a { d.lane a with out := none, mail := [], disc := none }
    (laneLoops a).foldl (fun d k => if d.hasLoop k then d.downFault k 9 else d) d

/-- Characters 1 to 6 of a frame: TYPE and CH, SEQ, VALUE, and the CRC-16 over those four, high byte first, inverted by an injection (Table 6.12). -/
def frameBody (ty ch seq value : Nat) (badCrc : Bool) : Bytes :=
  let body := leBytes 1 (ty * 32 + ch) ++ leBytes 1 seq ++ leBytes 2 value
  let c := if badCrc then crc16 body ^^^ 0xFFFF else crc16 body
  body ++ leBytes 1 (c / 256) ++ leBytes 1 c

/-- The eight characters of a frame, each with whether it is a control character: K28.5, the body, K29.7 (Table 6.12). -/
def LFrame.chars (f : LFrame) : List (Bool × Byte) :=
  [(true, 0xBC)] ++ (frameBody f.ty f.ch f.seq f.value f.badCrc).map (false, ·) ++ [(true, 0xFD)]

/-- ACT_SET_FRAME (R178, R179): the command in a channel's mailbox leaves as a SET frame. -/
def execActSetFrame (a : Fin 2) (ch : Fin 11) (s : State) : Out :=
  s.doesIn 3 fun d =>
    let l := d.lane a
    match l.mail.get (fun _ => none) ch with
    | none => d
    | some c =>
      if !d.laneOk a || l.out.isSome || l.disc.isSome then d
      else (d.setLane a { l with mail := l.mail.set (fun _ => none) ch none }).sendSet a ch (tc 16 c)

/-- A step of the discovery of a lane fails: event 0x0802, then the lane is declared failed (R180). -/
def Dev.discFail (d : Dev) (a step id ch : Nat) : Dev := (d.event .act 0x02 a id step a).laneFail a ch 0

/-- The discovery's next zero SET, or its end: the lane is up (Table 6.13). -/
def Dev.discNext (d : Dev) (a : Nat) (x : Discovery) : Dev := match x.left with
  | c :: r => (d.setLane a { d.lane a with disc := some { x with left := r } }).sendSet a c 0
  | [] =>
    if x.since + 200000 < d.now then d.discFail a 3 (d.fld (F.ACT_PSID_ID a)) 31
    else (d.setLane a { d.lane a with disc := none }).setFld ⟨F.ACT_STAT_UP.a, 2 + a, 1⟩ 1

/-- A good ENUM reply (Table 6.13): the ID is recorded; with a profile for it every channel of the lane gets a zero SET. -/
def Dev.discReply (d : Dev) (a id : Nat) (x : Discovery) : Dev :=
  if x.since + 100000 < d.now then d.discFail a 2 id 31
  else
    let d := ((d.setFld (F.ACT_PSID_FOUND a) 1).setFld (F.ACT_PSID_ID a) id).event .act 0x01 a id 0 a
    if (d.pstage id).isNone then d.discFail a 3 id 31
    else d.discNext a { x with step := 3, left := List.range 11 ++ (if a = 0 then (List.range 5).filterMap fun c => if d.funcOk (11 + c) then some (11 + c) else none else []) }

/-- A miss (R178): counted and logged; frames other than SET are sent again up to three times; MISS_N in a row on a channel fail the lane. In a discovery the
step fails with the lane, or with a zero SET that gets no ACK (R180). -/
def Dev.frameMiss (d : Dev) (a : Nat) (f : LFrame) (why : Nat) : Dev :=
  let d := d.bump .act 2
  let d := if why = 1 then d.bump .act 4 else if why = 2 then d.bump .act 3 else d
  let d := d.event .act 0x03 f.ch f.seq why a
  let l := d.lane a
  let n := l.miss.get (fun _ => 0) f.ch + 1
  let failed := decide (d.fld F.ACT_CTRL_MISS_N ≤ n)
  let again := f.ty ≠ 0 ∧ f.resends < 3 ∧ !failed
  let d := d.setLane a { l with miss := l.miss.set (fun _ => 0) f.ch n
                                out := if again then some { f with resends := f.resends + 1, sentAt := d.now } else none }
  if again then d.bump .act 0
  else match l.disc with
    | some x => d.discFail a x.step (if x.step = 2 then 0xFFFF else d.fld (F.ACT_PSID_ID a)) f.ch
    | none => if failed then d.laneFail a f.ch 0 else d

/-- The value of a good reply: the measurement of a loop's channel (R179), or the fault bits of function channel 15 (R207). -/
def Dev.takeValue (d : Dev) (a ch value : Nat) : Dev :=
  if ch = 0 then d.setLp a { d.lp a with z2 := sext 16 value }
  else if ch ≤ 10 then
    let k := 1 + 10 * a + ch
    d.setLp k { d.lp k with z2 := sext 16 value }
  else if ch = 15 then
    let d1 : Dev := { d with spn := { d.spn with ch15 := value } }
    if value ≠ 0 ∧ value ≠ d.spn.ch15 then d1.event .spn 0x0A value ((d.lane a).ack.get (fun _ => 0) 14) else d1
  else d

/-- A good reply to the outstanding frame (R178). -/
def Dev.takeReply (d : Dev) (a : Nat) (f : LFrame) (value : Nat) : Dev :=
  let l := d.lane a
  let d := (d.setLane a { l with out := none, miss := l.miss.set (fun _ => 0) f.ch 0, ack := l.ack.set (fun _ => 0) f.ch value }).bump .act 1
  match l.disc with
  | some x => if f.ty = 1 then d.discReply a value x else (d.takeValue a f.ch value).discNext a x
  | none => if f.ty = 0 then d.takeValue a f.ch value else d

/-- ACT_REPLY_RECEIVE (R178): the characters 1 to 6 of a reply frame on lane a. It is a miss if it comes later than ACK_NS × 10 ns, if its CRC fails, if it is a
NAK (type 5), or if its SEQ differs; a frame of another type than the one that answers is no reply. (DEDUCED, log entry 77) -/
def execActReplyReceive (a : Fin 2) (chars : Bytes) (s : State) : Out :=
  s.doesIn 3 fun d =>
    match (d.lane a).out with
    | none => d
    | some f =>
      let ty := leAt chars 0 1 / 32
      if f.sentAt + 10 * d.fld F.ACT_CTRL_ACK_NS < d.now then d.frameMiss a f 0
      else if chars.length ≠ 6 ∨ crc16 (chars.take 4) ≠ 256 * leAt chars 4 1 + leAt chars 5 1 then d.frameMiss a f 1
      else if ty = 5 then d.frameMiss a f 2
      else if leAt chars 1 1 ≠ f.seq then d.frameMiss a f 3
      else if ty = (if f.ty = 1 then 6 else 4) then d.takeReply a f (leAt chars 2 2)
      else d

/-- ACT_REPLY_TIMEOUT (R178): no reply has begun within ACK_NS × 10 ns. -/
def execActReplyTimeout (a : Fin 2) (s : State) : Out :=
  s.doesIn 3 fun d =>
    match (d.lane a).out with
    | none => d
    | some f => if f.sentAt + 10 * d.fld F.ACT_CTRL_ACK_NS < d.now then d.frameMiss a f 0 else d

/-- ACT_FAULT_INPUT (R178): the level of ACT_FLT_N; low fails both lanes. -/
def execActFaultInput (low : Bool) (s : State) : Out :=
  s.doesIn 3 fun d =>
    let d := d.setFlag F.ACT_STAT_FLT low
    if low then (d.laneFail 0 0 1).laneFail 1 0 1 else d

/-- POWER_STAGE_DISCOVERY (R180, Table 6.13): ENUM goes out on channel 31 of a free lane; the replies carry the discovery on. A discovery that runs fails once
the bound of its step is over. -/
def execPowerStageDiscovery (a : Fin 2) (s : State) : Out :=
  s.doesIn 3 fun d =>
    match (d.lane a).disc with
    | some x =>
      if x.step = 2 ∧ x.since + 100000 < d.now then d.discFail a 2 0xFFFF 31
      else if x.since + 200000 < d.now then d.discFail a 3 (d.fld (F.ACT_PSID_ID a)) 31 else d
    | none =>
      if !d.laneOk a || (d.lane a).out.isSome then d
      else (d.setLane a { d.lane a with disc := some { since := d.now } }).sendFrame a 1 31 0 false

/-- HV_EN (R207): on once the discovery of lane 0 is through, off while all loops of the lane are in DOWN in a device state without loaded heads. (DEDUCED, log
entry 78) -/
def Dev.hvEn (d : Dev) : Bool := d.fld F.ACT_STAT_UP % 2 == 1 && !(decide (2 ≤ d.pstate) && (laneLoops 0).all fun k => d.mode k == 0)

/-- SET code of a function channel of lane 0 (Table 7.7). -/
def Dev.funcValue (d : Dev) (ch : Nat) : Nat := if ch = 12 then d.hvEn.toNat else if ch ≤ 13 then (d.lane 0).func.get (fun _ => 0) ch else 0

/-- FUNCTION_CHANNEL_REFRESH (R207): SET on function channel 11 + c of lane 0: on channels 11 to 13 at a change of value and to refresh it, on channels 14 and 15
once in 1,000,000 ns. -/
def execFunctionChannelRefresh (c : Fin 5) (s : State) : Out :=
  s.doesIn 3 fun d =>
    let ch := 11 + c.val
    let l := d.lane 0
    if !d.laneOk 0 || !d.funcOk ch || l.out.isSome || l.disc.isSome then d
    else if 14 ≤ ch ∧ d.now < l.funcAt.get (fun _ => 0) ch then d
    else (d.setLane 0 { l with funcAt := l.funcAt.set (fun _ => 0) ch (d.now + 1000000) }).sendSet 0 ch (d.funcValue ch)

/-- ACT_INJECT_ARM (R184): a write to ACT.INJECT. -/
def execActInjectArm (v : Word) (who : Requester) (s : State) : Out :=
  s.doesIn 3 fun d => (d.regWrite 0x03200020 v.toNat (reqCode who)).1

end Sys2Proof.Machine
end

