-- ==== Sys2Proof/Machine/SeqLock.lean ====
section
/-! DEFINITION. Machine/SeqLock.lean: the mutexes of the sequencers (R417, R422, R435). -/
namespace Sys2Proof.Machine

def Dev.modSeq (d : Dev) (f : SeqS → SeqS) : Dev := { d with seq := f d.seq }
def Dev.setThread (d : Dev) (s t : Nat) (x : ThreadS) : Dev := d.modSeq fun q => { q with threads := q.threads.set (fun _ => {}) (32 * s + t) x }

/-! ## Locks (R417, R422, R435) -/

/-- Another thread of sequencer s holds the mutex of a context. -/
def Dev.ctxHeld (d : Dev) (s c : Nat) : Bool :=
  (List.range 32).any fun t => (d.thread s t).locked && (d.thread s t).lock == some (.ctx c)

/-- Show a SEQ mutex. -/
def Dev.showMutex (d : Dev) (m : Nat) (code : Option Nat) : Dev :=
  (d.setFlag (F.SEQ_MUTEX_HELD m) code.isSome).setFld (F.SEQ_MUTEX_OWNER m) (code.getD 0)

/-- Give a free SEQ mutex to a claim. -/
def Dev.giveMutex (d : Dev) (k : Claim) : Dev :=
  let d := (d.modSeq fun q => { q with claims := q.claims.erase k, holder := q.holder.set (fun _ => none) k.m (some k.code) }).showMutex k.m (some k.code)
  match k.thread with
  | some t => d.setThread k.code t { d.thread k.code t with locked := true, lock := some (.mutex k.m) }
  | none => d

/-- Grant a free SEQ mutex to the next claim under R49, from requester code `from_` on. -/
def Dev.grantMutex (d : Dev) (m from_ : Nat) : Dev :=
  if (d.seq.holder.get (fun _ => none) m).isSome then d
  else match rrFirst (fun c => d.seq.claims.any fun k => k.m == m && k.code == c) 16 16 from_ with
    | some c => match d.seq.claims.find? fun k => k.m == m && k.code == c with
      | some k => d.giveMutex k
      | none => d
    | none => d

/-- A claim of a SEQ mutex. -/
def Dev.claimMutex (d : Dev) (k : Claim) : Dev :=
  if d.seq.claims.contains k then d else (d.modSeq fun q => { q with claims := q.claims ++ [k] }).grantMutex k.m k.code

/-- Release a SEQ mutex held by a requester. -/
def Dev.releaseMutex (d : Dev) (m code : Nat) : Dev :=
  if d.seq.holder.get (fun _ => none) m = some code then
    ((d.modSeq fun q => { q with holder := q.holder.set (fun _ => none) m none }).showMutex m none).grantMutex m (code + 1)
  else d

/-- Grant a free context mutex to the next thread that asks for it, from thread `from_` on (R49). -/
def Dev.grantCtx (d : Dev) (s c from_ : Nat) : Dev :=
  if d.ctxHeld s c then d
  else match rrFirst (fun t => (d.thread s t).active && (d.thread s t).lock == some (.ctx c)) 32 32 from_ with
    | some t => d.setThread s t { d.thread s t with locked := true }
    | none => d

/-- Release the lock a thread holds, or withdraw what it has asked for. -/
def Dev.releaseLock (d : Dev) (s t : Nat) : Dev :=
  let x := d.thread s t
  let d := d.setThread s t { x with lock := none, locked := false }
  match x.lock with
  | none => d
  | some (.ctx c) => if x.locked then d.grantCtx s c (t + 1) else d
  | some (.mutex m) =>
    let d : Dev := d.modSeq fun q => { q with claims := q.claims.filter fun k => decide (¬ (k.m = m ∧ k.code = s ∧ k.thread = some t)) }
    if x.locked then d.releaseMutex m s else d

/-- A LOCK microword asks for a context mutex or claims a SEQ mutex (R417). -/
def Dev.askLock (d : Dev) (s t : Nat) (l : LockRef) : Dev :=
  let d := (d.releaseLock s t).setThread s t { (d.releaseLock s t).thread s t with lock := some l }
  match l with
  | .ctx c => d.grantCtx s c t
  | .mutex m => d.claimMutex { m := m, code := s, thread := some t }

/-- Writes of CLAIM and RELEASE to SEQ.MUTEXm (R435). -/
def Dev.mutexWrite (d : Dev) (m v who : Nat) : Dev :=
  let d := (d.regWrite (F.SEQ_MUTEX_CLAIM m).a v who).1
  let d := if v.testBit 1 then d.releaseMutex m who else d
  if v.testBit 0 then d.claimMutex { m := m, code := who } else d

/-- Mutexes claimed by a controller are released at its reset (R435). -/
def Dev.dropMutexes (d : Dev) (c : Fin 2) : Dev :=
  let code := 9 + c.val
  let d : Dev := d.modSeq fun q => { q with claims := q.claims.filter fun k => decide (k.code ≠ code) }
  (List.range 8).foldl (fun (d : Dev) m => d.releaseMutex m code) d

end Sys2Proof.Machine
end

