-- ==== Sys2Proof/Machine/HostOps.lean ====
section
/-! DEFINITION. Machine/HostOps.lean: queues, interrupts and controller resets (chapter PCIe and NVMe Transport). -/
namespace Sys2Proof.Machine

def Dev.modHst (d : Dev) (f : HstS → HstS) : Dev := { d with hst := f d.hst }
def Dev.modCtrl (d : Dev) (c : Fin 2) (f : CtrlS → CtrlS) : Dev := d.setCtrl c (f (d.ctrl c))

/-- A queue of a controller. -/
def CtrlS.sq (x : CtrlS) (q : Nat) : Option SqS := x.sqs.get (fun _ => none) q
def CtrlS.cq (x : CtrlS) (q : Nat) : Option CqS := x.cqs.get (fun _ => none) q
def Dev.setSq (d : Dev) (c : Fin 2) (q : Nat) (s : Option SqS) : Dev := d.modCtrl c fun x => { x with sqs := x.sqs.set (fun _ => none) q s }
def Dev.setCq (d : Dev) (c : Fin 2) (q : Nat) (s : Option CqS) : Dev := d.modCtrl c fun x => { x with cqs := x.cqs.set (fun _ => none) q s }

/-- The submission queue's CSQ (R18). -/
def csqOf (sq : Nat) : Nat := sq % 4

/-- Commands in flight at most (Table 11.6). -/
def Dev.maxCmd (d : Dev) : Nat := if d.fld F.HST_CTRL_PORTCFG = 1 then 8192 else 16384

/-! ## Command contexts (R412, R413) -/

/-- Contexts of CSQn for host commands: 16 of its 4,096 are kept for internal reads, and one more on CSQ0 for NVMe-MI (R412, R413). -/
def hostContexts (n : Nat) : Nat := if n = 0 then 4079 else 4080

/-- Host commands in flight on the queues of CSQn. -/
def Dev.csqLoad (d : Dev) (n : Nat) : Nat :=
  (d.cmds.filter fun x => decide (csqOf x.tag.sq = n)).length + (d.hst.post.filter fun x => decide (csqOf x.tag.sq = n)).length +
    (d.ctrls.map fun c => ((d.ctrl c).aers.filter fun t => decide (csqOf t.sq = n)).length).foldl (· + ·) 0

/-- CSQn takes the entries of its queue for which it has a free context: the credit of an entry comes back when a context is bound to it (R413). -/
def Dev.bindCtx (d : Dev) (n : Nat) : Dev :=
  let wait := d.csqLoad n - hostContexts n
  (List.range ((d.pool .seq n).busy - wait)).foldl (fun (d : Dev) _ => d.freeSlot .seq n) d

def Dev.bindAll (d : Dev) : Dev := (List.range 4).foldl Dev.bindCtx d

/-! ## Registers of BAR0 -/

/-- CAP (Table 11.5). -/
def capValue : Nat :=
  0x0FFF + 2 ^ 16 + 0x14 * 2 ^ 24 + 2 ^ 36 + 0x41 * 2 ^ 37 + 3 * 2 ^ 46 + 4 * 2 ^ 52 + 2 ^ 59

/-- CSTS (Table 11.5): RDY, SHST and NSSRO; the model has no case of CFS or PP. -/
def CtrlS.csts (x : CtrlS) : Nat := x.rdy.toNat + 4 * (x.shst % 4) + 16 * x.nssro.toNat

/-- The 4-byte register of BAR0 at an offset (R298, R301): those of Table 11.5; others, and those that the table omits, read zero. -/
def CtrlS.bar0 (x : CtrlS) (o : Nat) : Nat :=
  let half (v k : Nat) : Nat := v / 2 ^ (32 * k) % 2 ^ 32
  match o with
  | 0x00 => half capValue 0
  | 0x04 => half capValue 1
  | 0x08 => 0x00020000
  | 0x0C | 0x10 => half x.intms 0
  | 0x14 => half x.cc 0
  | 0x1C => x.csts
  | 0x24 => half x.aqa 0
  | 0x28 => half x.asq 0
  | 0x2C => half x.asq 1
  | 0x30 => half x.acq 0
  | 0x34 => half x.acq 1
  | _ => 0

/-! ## Interrupts -/

/-- Send the interrupt of a vector (R309): an MSI-X message, or INTA unless it is masked. -/
def Dev.interrupt (d : Dev) (c : Fin 2) (v : Nat) : Dev :=
  let x := d.ctrl c
  if x.msixOn then (d.sendTx (.msix c v)).bump .hst 2
  else if x.intms % 2 = 1 then d else d.sendTx (.inta c)

/-- The coalescing window of a vector, [t, t + 100 × TIME) µs, has ended (R15, R310). -/
def Dev.windowOver (d : Dev) (c : Fin 2) (h : CoalS) : Bool := h.held != 0 && decide (h.opened + 100000 * (d.ctrl c).coalTime ≤ d.now)

/-- An entry for a completion queue is in the transmit queue: its interrupt is sent or held back (R309, R310). A window that has ended takes no further
entry: its interrupt goes first, and the entry opens the next (R15). -/
def Dev.announce (d : Dev) (c : Fin 2) (q : Nat) (cq : CqS) : Dev :=
  let x := d.ctrl c
  if !cq.ien then d
  else if q = 0 ∨ x.coalTime = 0 ∨ x.coalThr = 0 ∨ x.coalOff.contains cq.vector then d.interrupt c cq.vector
  else
    let h := x.coal.get (fun _ => {}) cq.vector
    let past := d.windowOver c h
    let d := if past then d.interrupt c cq.vector else d
    let h : CoalS := if past then {} else h
    let n := h.held + 1
    if x.coalThr + 1 ≤ n then
      (d.modCtrl c fun x => { x with coal := x.coal.set (fun _ => {}) cq.vector {} }).interrupt c cq.vector
    else d.modCtrl c fun x => { x with coal := x.coal.set (fun _ => {}) cq.vector { held := n, opened := if h.held = 0 then d.now else h.opened } }

/-! ## Abandoning commands -/

/-- Abandon a command that has not reached its commit point (R315, R348): its descriptors stop, and a reserved range keeps its reservation
with zeros for what has not arrived. Its record is left to the caller. (DESIGN CHOICE, log entry 37) -/
def Dev.abandon (d : Dev) (c : CmdRec) : Dev :=
  let d := d.abandonDescs c.tag
  match c.kind with
  | .write _ | .append _ | .zeroes _ =>
    if !c.reserved then d
    else
      let (n, d) := d.zeroRest c
      match d.ns? c.nsid with
      | some ns => (d.bump .zne 9).event .zne 0x06 (c.slba / ns.zs) n 0 c.nsid
      | none => d
  | _ => d

/-- Commands that count as committed at fetch (Table 12.9), and those already abandoned. (DESIGN CHOICE, log entry 37) -/
def CmdRec.isCommitted (c : CmdRec) : Bool :=
  c.quit.isSome || match c.kind with
  | .flush | .admin | .powerMgmt _ | .rollCall | .ring | .nsDelete | .cryptoErase => true
  | _ => c.committed

/-- Remove a command's media work. -/
def Dev.dropWork (d : Dev) (t : Tag) : Dev :=
  { d with msq := { d.msq with orders := d.msq.orders.filter fun o => decide (o.cmd ≠ some t)
                               ladders := d.msq.ladders.map fun l => if l.owner = some t then { l with owner := none } else l } }

/-- Remove a command's record and its media work. -/
def Dev.forget (d : Dev) (t : Tag) : Dev := { d.dropWork t with cmds := d.cmds.filter fun x => decide (x.tag ≠ t) }

/-- A controller reset (R315): uncommitted commands are abandoned, committed ones run on without a completion, the queues go, CSTS.RDY
falls, features return to their defaults, the vote is PS0 (R485), the mutexes it has claimed are released (R435), and the controller's firmware download is closed (R478). -/
def Dev.resetCtrl (d : Dev) (c : Fin 2) (cause : Nat) : Dev :=
  let old := d
  let mine := d.cmds.filter fun x => decide (x.tag.ctrl = c) && !x.silent
  let quit := mine.filter fun x => !x.isCommitted
  let past := mine.filter fun x => x.isCommitted
  let d : Dev := quit.foldl (fun (d : Dev) x => (d.abandon x).forget x.tag) d
  let mute (x : CmdRec) : CmdRec := if x.tag.ctrl = c then { x with silent := true } else x
  let d : Dev := { d with cmds := d.cmds.map mute }
  let d : Dev := d.modHst fun h => { h with post := h.post.filter fun p => decide (p.tag.ctrl ≠ c) }
  let d : Dev := d.modCtrl c fun x =>
    { x with cc := 0, rdy := false, shst := 0, intms := 0, sqs := [], cqs := [], ab := 3, wce := true, coalThr := 0, coalTime := 0, coalOff := []
             coal := [], asyncCfg := 0, tempOver := 378, tempUnder := 0, psVote := 0, lastOp := 0, aers := [], aens := [], masked := []
             layout := none, rrSq := 0 }
  let d := (if d.hst.unlockedBy = some c then d.closeDiag else d).dropMutexes c
  let d : Dev := { d with dl := match d.dl with | some x => if x.ctrl = c then none else some x | none => none }
  ((d.voted old).bump .hst 9).event .hst 0x04 cause quit.length past.length c.val

/-- Declare a port failed (R314): its controller is reset. -/
def Dev.failPort (d : Dev) (p : Fin 2) (why : Nat) : Dev :=
  if d.flag (F.HST_PSTAT_FAILED p.val) then d
  else
    let n := (d.cmds.filter fun x => decide (x.tag.ctrl = p) && !x.silent && !x.isCommitted).length
    let d := ((d.setFld (F.HST_PSTAT_FAILED p.val) 1).setFld (F.HST_PSTAT_DL_UP p.val) 0).bump .hst 8
    let d := d.modHst fun h => { h with reads := h.reads.filter fun r => decide (r.port ≠ p) }
    let d := (List.range 64).foldl (fun (d : Dev) x => (d.dch x).runs.foldl (fun (d : Dev) r =>
      if r.desc.port = p then d.descError x r.idx 5 r.deliv else d) d) d
    let idle (b : Burst) : Bool := b.dead && decide (d.fld (F.DMA_C_CFG_ENGINE b.ch) = 1) && !d.hst.reads.any fun r => decide (r.burst = some b.id)
    let d := (d.dma.bursts.filter idle).foldl Dev.freeStage d
    (d.event .hst 0x02 why n 0 p.val).resetCtrl p 4

/-- Link state back to its defaults. -/
def Dev.linkDefaults (d : Dev) (p : Fin 2) : Dev := d.setWord (F.HST_PSTAT_DL_UP p.val).a 0

/-- Configuration space back to its defaults. (PRESUMED, log entry 3) -/
def Dev.cfgDefaults (d : Dev) (p : Fin 2) : Dev :=
  let old := d
  (d.modCtrl p fun x => { x with mps := 128, mrrs := 512, msixOn := false, d3 := false }).voted old

end Sys2Proof.Machine
end

