-- ==== Sys2Proof/Machine/Operands.lean ====
section
/-! DEFINITION. Machine/Operands.lean: the operand forms of the microwords: the fields of a microword (Tables 14.2 to 14.5) and the patch checks of Table 14.8. -/
namespace Sys2Proof.Machine

/-- Fields of a microword (Table 14.2). -/
structure UWord where
  cond : Nat
  wmode : Nat
  flow : Nat
  next : Nat
  mark : Nat
  alu : Nat
  dst : Nat
  srcA : Nat
  srcB : Nat
  imm : Bool
  io : Nat
  ioq : Nat
  ioreg : Nat
  immed : Nat
deriving DecidableEq, Repr

/-- The fields of a 128-bit microword. -/
def uword (w : BitVec 128) : UWord :=
  let x := w.toNat
  { cond := bitsAt x 122 6, wmode := bitsAt x 120 2, flow := bitsAt x 118 2, next := bitsAt x 102 16, mark := bitsAt x 99 3, alu := bitsAt x 95 4
    dst := bitsAt x 90 5, srcA := bitsAt x 85 5, srcB := bitsAt x 80 5, imm := x.testBit 79, io := bitsAt x 76 3, ioq := bitsAt x 71 5
    ioreg := bitsAt x 66 5, immed := bitsAt x 0 32 }

/-- A condition that Table 14.5 assigns; the same numbers are assigned for every type. -/
def condAssigned (c : Nat) : Bool := decide (c ≤ 8 ∨ (16 ≤ c ∧ c ≤ 20) ∨ 48 ≤ c)

/-- The number of the check of Table 14.8 that a patch section fails, and the match or word index (0 where the check is of neither); `none` if all hold.
`rom` is SEQ.ROMIDt, `again` tells that the image has another section of its type. -/
def patchCheck (b : Bytes) (again : Bool) (rom : Nat → Nat) : Option (Nat × Nat) :=
  let t := leAt b 0 1
  let nm := leAt b 2 2
  let nw := leAt b 4 2
  let mrom (i : Nat) : Nat := leAt b (32 + 4 * i) 2
  let mpat (i : Nat) : Nat := leAt b (34 + 4 * i) 2
  let word (w : Nat) : Nat := leAt b (32 + 4 * nm + 16 * w) 16
  let u (w : Nat) : UWord := uword (BitVec.ofNat 128 (word w))
  let badMatch (i : Nat) : Bool := decide (0x8000 ≤ mrom i ∨ nw ≤ mpat i) || (List.range i).any fun j => mrom j == mrom i
  let badWord (w : Nat) : Bool := decide (bitsAt (word w) 32 34 ≠ 0 ∨ 2 < (u w).mark ∨ 13 < (u w).alu ∨ 6 < (u w).io)
  let badCond (w : Nat) : Bool := !condAssigned (u w).cond
  let badJump (w : Nat) : Bool :=
    (((u w).flow == 1 || (u w).flow == 2) && decide (0x8000 + nw ≤ (u w).next)) ||
      (w + 1 == nw && !((u w).flow == 1 || (u w).flow == 3 || (u w).mark == 1 || (u w).mark == 2))
  let at_ (n : Nat) (p : Nat → Bool) (k : Nat) : Option (Nat × Nat) := ((List.range k).find? p).map fun i => (n, i)
  if 3 < t ∨ again then some (1, 0)
  else if leAt b 8 4 ≠ rom t then some (2, 0)
  else if 32 < nm ∨ nw = 0 ∨ 2048 < nw then some (3, 0)
  else match at_ 4 badMatch nm with
    | some x => some x
    | none => match at_ 5 badWord nw with
      | some x => some x
      | none => match at_ 6 badCond nw with
        | some x => some x
        | none => match at_ 7 badJump nw with
          | some x => some x
          | none => if leAt b 1 1 ≠ 0 ∨ leAt b 6 2 ≠ 0 ∨ !((slice b 12 20).all (· == 0)) then some (8, 0) else none

end Sys2Proof.Machine
end

