-- ==== Sys2Proof/Machine/ImageOps.lean ====
section
/-! DEFINITION. Machine/ImageOps.lean: the configuration image in flash: its header, directory and sections, and how a copy is proved (R463 to R467, R84). -/
namespace Sys2Proof.Machine

/-- First code word of copy A (0) or B (1), and the word of its activation word (R463). -/
def imgBase (k : Nat) : Nat := if k = 0 then 4 * 2048 else 516 * 2048
def imgAct (k : Nat) : Nat := if k = 0 then 163 * 2048 + 2047 else 675 * 2048 + 2047

/-- Bytes [ofs, ofs + len) of a copy; none if a word of them is UNCORR. -/
def Dev.imgBytes (d : Dev) (k ofs len : Nat) : Option Bytes :=
  let lo := ofs / 32
  let rs := (List.range (cdiv (ofs + len) 32 - lo)).map fun i => fwordRead (d.fword (imgBase k + lo + i)) []
  if rs.any fun r => r.1 == fsUncorr then none else some (slice (rs.flatMap fun r => r.2.1) (ofs % 32) len)

/-- A header (Table 16.1). -/
structure ImgHeader where
  nsect : Nat
  gen : Nat
  length : Nat
  part : Nat
  rev : Bytes
  keyHash : Bytes
  pubkey : Bytes
deriving DecidableEq, Repr

/-- The header of a copy, if its words read OK or CORRECTED and its fields lie in their ranges (Table 16.1, R465). (DESIGN CHOICE, log entry 49) -/
def Dev.imgHeader (d : Dev) (k : Nat) : Option ImgHeader :=
  let rs := (List.range 8).map fun i => fwordRead (d.fword (imgBase k + i)) []
  let b := rs.flatMap fun r => r.2.1
  let h : ImgHeader := { nsect := leAt b 6 2, gen := leAt b 8 4, length := leAt b 12 4, part := leAt b 16 2, rev := slice b 20 8
                         keyHash := slice b 28 48, pubkey := slice b 76 97 }
  let ok := rs.all (fun r => decide (r.1 ≤ fsCorrected)) && slice b 0 4 == [0x4F, 0x58, 0x56, 0x52] && leAt b 4 2 == 1 &&
    decide (1 ≤ h.nsect ∧ h.nsect ≤ 64 ∧ 1 ≤ h.gen ∧ h.gen ≤ 0xFFFFFFFE ∧ 512 ≤ h.length ∧ h.length ≤ 10485728 ∧ h.length % 32 = 0) &&
    (h.part == 0 || h.part == d.fld F.FAB_CHIPID_PART) && leAt b 18 2 == 0 && h.rev.all (fun x => decide (x.toNat < 128)) &&
    h.pubkey.head? == some 4 && (slice b 173 83).all (· == 0)
  if ok then some h else none

/-- The activation word of generation GEN (R463). -/
def actWord (gen : Nat) : Bytes := [0x41, 0x43, 0x54, 0x56] ++ leBytes 4 gen ++ List.replicate 24 0

/-- A copy is a candidate (R465): its header, when its activation word fits it. -/
def Dev.candidate (d : Dev) (k : Nat) : Option ImgHeader :=
  match d.imgHeader k with
  | none => none
  | some h =>
    let (st, b, _) := fwordRead (d.fword (imgAct k)) []
    if st ≤ fsCorrected ∧ slice b 0 4 = [0x41, 0x43, 0x54, 0x56] ∧ leAt b 4 4 = h.gen then some h else none

/-- The candidates in the order in which they are tried: descending GEN, copy A first (R465). -/
def Dev.candidates (d : Dev) : List Nat :=
  match d.candidate 0, d.candidate 1 with
  | some a, some b => if a.gen < b.gen then [1, 0] else [0, 1]
  | some _, none => [0]
  | none, some _ => [1]
  | none, none => []

/-! ## Directory -/

/-- A directory entry (R463) with its content. -/
structure Section where
  ty : Nat
  arg : Nat
  ofs : Nat
  len : Nat
  zeros : Bool
  data : Bytes
deriving DecidableEq, Repr

/-- The directory and contents of an image given as its bytes. -/
def sectionsOf (img : Bytes) (n : Nat) : List Section :=
  (List.range n).map fun i =>
    let e := slice img (256 + 16 * i) 16
    { ty := leAt e 0 1, arg := leAt e 2 2, ofs := leAt e 4 4, len := leAt e 8 4, zeros := leAt e 1 1 == 0 && leAt e 12 4 == 0
      data := slice img (leAt e 4 4) (leAt e 8 4) }

/-- The length of n SETTINGS groups at the head of a section (R464); none where a group does not fit. -/
def groupsLen : Nat → Bytes → Option Nat
  | 0, _ => some 0
  | n + 1, b =>
    let k := 8 + 8 * leAt b 4 4
    if b.length < 8 ∨ 65536 < leAt b 4 4 ∨ b.length < k then none
    else (groupsLen n (b.drop k)).map (k + ·)

/-- LEN of a section as its type and content define it (R464). -/
def sectionLen (s : Section) : Bool :=
  let b := s.data
  match s.ty with
  | 1 => groupsLen s.arg b == some s.len
  | 2 => decide (32 ≤ s.len) && s.len == 32 + 4 * leAt b 2 2 + 16 * leAt b 4 2
  | 3 => decide (64 ≤ s.len) && s.len == 64 + 184 * leAt b 2 2 + 4 * leAt b 8 4
  | 4 => s.len == 8192
  | 5 => s.len == 2048
  | 6 => decide (16 ≤ s.len ∧ leAt b 6 1 ≤ 32) && s.len == 16 + 4 * leAt b 6 1
  | 7 => s.len == 32
  | 8 => s.len == 84
  | 9 => decide (s.arg ≤ 8) && s.len == 8 * s.arg
  | 11 => s.len % 4 == 0
  | 12 => s.len == 32
  | _ => true

/-- ARG lies in its range (Table 16.2). -/
def sectionArg (s : Section) : Bool :=
  match s.ty with
  | 3 => decide (s.arg ≤ 1)
  | 4 | 5 => decide (s.arg < 20)
  | 8 | 11 | 12 => s.arg == 0
  | _ => true

/-- Two sections are of one kind that may occur once (Table 16.2). -/
def sameOnce (a b : Section) : Bool := a.ty == b.ty && (([3, 4, 5, 6, 7].contains a.ty && a.arg == b.arg) || [8, 9, 11, 12].contains a.ty)

/-- The directory meets R464: 0, or the rejection reason 5 or 8. (DESIGN CHOICE, log entry 49) -/
def directoryFault (h : ImgHeader) (ss : List Section) : Nat :=
  let idx := List.range ss.length
  let at_ (i : Nat) : Section := ss.getD i ⟨0, 0, 0, 0, false, []⟩
  let pairs (p : Section → Section → Bool) : Bool := idx.any fun i => (List.range i).any fun j => p (at_ j) (at_ i)
  let once (ty : Nat) : Bool := (ss.filter fun s => s.ty == ty).length == 1
  if (ss.any fun s => decide (s.ty = 0 ∨ 12 < s.ty)) || pairs sameOnce then 5
  else if (ss.all fun s => s.zeros && decide (256 + 16 * h.nsect ≤ s.ofs ∧ s.ofs + s.len + 96 ≤ h.length ∧ s.ofs % 32 = 0) &&
      (s.ty != 10 || s.ofs % 65536 == 0) && sectionLen s && sectionArg s) &&
      !(pairs fun a b => decide (a.ofs < b.ofs + b.len ∧ b.ofs < a.ofs + a.len)) && once 8 && once 11 then 0
  else 8

/-! ## Contents -/

/-- The format tables of a FORMAT section (Tables 3.3 to 3.6). -/
def formatOf (b : Bytes) : Format :=
  let nb := leAt b 2 2
  let band (i : Nat) : Band :=
    let o := 64 + 24 * i
    { first := leAt b o 4, spt := leAt b (o + 4) 2, skew := leAt b (o + 6) 2, bitsIv := leAt b (o + 8) 4, dataIv := leAt b (o + 12) 4
      pitchPm := leAt b (o + 16) 2, w0 := leAt b (o + 18) 2 }
  let s16 (o : Nat) : Int := sext 16 (leAt b o 2)
  let stag (i : Nat) : Stagger :=
    let o := 64 + 24 * nb + 16 * i
    { delta := sext 32 (leAt b o 4), fNm := s16 (o + 4), gPm := s16 (o + 6), wjNm := s16 (o + 8), wgPm := s16 (o + 10) }
  { hdr := { wedges := leAt b 0 2, bands := nb, tracks := leAt b 4 4, skips := leAt b 8 4, switchUs := leAt b 12 2
             surf := (List.range 10).map fun l => leAt b (16 + 4 * l) 4 }
    bands := (List.range nb).map band
    stag := (List.range (10 * nb)).map stag
    skip := (List.range (leAt b 8 4)).map fun i => leAt b (64 + 184 * nb + 4 * i) 4
    raw := b }

def preampOf (b : Bytes) : Preamp :=
  { id := leAt b 0 2, iwReg := leAt b 2 1, osaReg := leAt b 3 1, osdReg := leAt b 4 1, fltReg := leAt b 5 1
    init := (List.range (leAt b 6 1)).map fun i => (leAt b (16 + 4 * i) 1, leAt b (18 + 4 * i) 2) }

def pstageOf (b : Bytes) : PStage :=
  { id := leAt b 0 2, vcmIfsMa := leAt b 2 2, vcmBemfMv := leAt b 4 2, maVfsDv := leAt b 6 2, bridgeMa := leAt b 8 2, isnsMa := leAt b 10 2
    vbusMv := leAt b 12 2, funcs := leAt b 14 1, retractMv := leAt b 16 2, phaseMohm := leAt b 18 2 }

/-- The first section of a type (and ARG, where one is given). -/
def findSec (ss : List Section) (ty : Nat) (arg : Option Nat := none) : Option Section :=
  ss.find? fun s => s.ty == ty && (match arg with | some a => s.arg == a | none => true)

/-- A SETTINGS group (Table 16.3). -/
structure Group where
  kind : Nat
  target : Nat
  ch : Nat
  pairs : List (Nat × Nat)
deriving DecidableEq, Repr

/-- The groups of a SETTINGS section. -/
def groupsOf : Nat → Bytes → List Group
  | 0, _ => []
  | n + 1, b =>
    let c := leAt b 4 4
    { kind := leAt b 0 1, target := leAt b 1 1, ch := leAt b 2 1
      pairs := (List.range c).map fun i => (leAt b (8 + 8 * i) 4, leAt b (12 + 8 * i) 4) } :: groupsOf n (b.drop (8 + 8 * c))

/-- All groups of an image, in section order and group order. -/
def allGroups (ss : List Section) : List Group := (ss.filter fun s => s.ty == 1).flatMap fun s => groupsOf s.arg s.data

/-- rpm_max (R84): the largest RPM among the pairs addressed to SPN.SPC0 to SPC15; a point that is not set counts 7,200. -/
def rpmMaxOf (ss : List Section) : Nat :=
  let ps := (allGroups ss).flatMap Group.pairs
  let point (i : Nat) : Nat :=
    let f := F.SPN_SPC_RPM i
    match (ps.filter fun p => p.1 == f.a).map fun p => bitsAt p.2 f.lo f.n with
    | [] => 7200
    | l => l.foldl max 0
  ((List.range 16).map point).foldl max 0

/-- A region of an XO section (Table 16.2). -/
def xoEntry (b : Bytes) (i : Nat) : Nat × Nat := (leAt b (8 * i) 2, leAt b (8 * i + 2) 2)

/-- The first descriptor that fails R455 for copy k. -/
def xoFault (b : Bytes) (n k : Nat) : Option Nat :=
  let lo := 4 + 512 * k
  (List.range n).find? fun i =>
    let (f, c) := xoEntry b i
    !decide (1 ≤ c ∧ lo ≤ f ∧ f + c ≤ lo + 160) || (List.range n).any fun j => j != i && decide (f < (xoEntry b j).1 + (xoEntry b j).2 ∧ (xoEntry b j).1 < f + c)

/-- The outcome of proving a copy (R466). -/
inductive Proof where
  | good (h : ImgHeader) (ss : List Section)
  | bad (reason : Nat)
  | badFormat (check : Nat)
  | badPatch (ty romId check index : Nat)
  | badXo (index first count : Nat)
deriving DecidableEq, Repr

/-- The format check that fails: actuator 0's tables first. -/
def formatFault (v : Bool) (ss : List Section) : Nat :=
  let fmt (a : Nat) : Option Format := if v && a == 1 then none else (findSec ss 3 (some a)).map fun s => formatOf s.data
  let rpm := rpmMaxOf ss
  let one (a : Nat) : Nat := match fmt a with
    | some f => formatCheck f ((fmt (1 - a)).map fun o => o.hdr.wedges) rpm
    | none => 0
  if one 0 ≠ 0 then one 0 else one 1

/-- The patch section that fails a check. -/
def Dev.patchFault (d : Dev) (ss : List Section) : Option (Nat × Nat × Nat × Nat) :=
  let ps := ss.filter fun s => s.ty == 2
  let idx := List.range ps.length
  idx.findSome? fun i =>
    let b := (ps.getD i ⟨0, 0, 0, 0, false, []⟩).data
    let again := (List.range i).any fun j => leAt (ps.getD j ⟨0, 0, 0, 0, false, []⟩).data 0 1 == leAt b 0 1
    (patchCheck b again fun t => d.fld (F.SEQ_ROMID_ROM_ID t)).map fun p => (leAt b 0 1, leAt b 8 4, p.1, p.2)

/-- Prove copy k, whose header is h (R466). -/
def Dev.proveCopy (d : Dev) (k : Nat) (h : ImgHeader) : Proof :=
  if h.keyHash ≠ Config.fuseHash then .bad 3
  else if Config.sha384 h.pubkey ≠ h.keyHash then .bad 4
  else match d.imgBytes k 0 h.length with
    | none => .bad 2
    | some img =>
      if !Config.ecdsa h.pubkey (Config.sha384 (img.take (h.length - 96))) (slice img (h.length - 96) 96) then .bad 7
      else
        let ss := sectionsOf img h.nsect
        let df := directoryFault h ss
        let xo := findSec ss 9
        if df ≠ 0 then .bad df
        else if formatFault d.v ss ≠ 0 then .badFormat (formatFault d.v ss)
        else match d.patchFault ss with
          | some (t, r, c, i) => .badPatch t r c i
          | none => match xo.bind fun s => (xoFault s.data s.arg k).map fun i => (i, xoEntry s.data i) with
            | some (i, f, c) => .badXo i f c
            | none => .good h ss

/-! ## Firmware slots -/

/-- The copy loaded: 0 or 1. -/
def Dev.loadedCopy (d : Dev) : Option Nat := match d.fld F.FAB_LOAD_COPY with | 1 => some 0 | 2 => some 1 | _ => none

/-- GEN of a copy's header; 0 where it is not valid. -/
def Dev.genOfCopy (d : Dev) (k : Nat) : Nat := match d.imgHeader k with | some h => h.gen | none => 0

/-- The target copy of a download (R478). -/
def Dev.targetCopy (d : Dev) : Nat :=
  match d.loadedCopy with
  | some k => 1 - k
  | none => if d.genOfCopy 1 < d.genOfCopy 0 then 1 else 0

/-- Firmware Slot Information, page 0x03 (R481): AFI, FRS1 and FRS2. -/
def Dev.slotPage (d : Dev) : Bytes :=
  let afi := (match d.loadedCopy with | some k => k + 1 | none => 0) + 16 * (match d.candidates with | k :: _ => k + 1 | [] => 0)
  let rev (k : Nat) : Bytes := match d.imgHeader k with | some h => h.rev | none => List.replicate 8 0
  leBytes 1 afi ++ List.replicate 7 0 ++ rev 0 ++ rev 1 ++ List.replicate 488 0

end Sys2Proof.Machine
end

