-- ==== Sys2Proof/Machine/AdminOps.lean ====
section
/-! DEFINITION. Machine/AdminOps.lean: data structures and log pages that admin commands return (R303, R325, Tables 11.6 and 12.2). -/
namespace Sys2Proof.Machine

/-- A structure of n bytes with fields put into `base`. -/
def pageOf (base : Bytes) (fs : List (Nat × Bytes)) : Bytes := fs.foldl (fun b f => splice b f.1 f.2) base

/-- A structure of n bytes with zeros where no field lies. -/
def zeroPage (n : Nat) (fs : List (Nat × Bytes)) : Bytes := pageOf (List.replicate n 0) fs

/-- Return page `pg` from a byte offset on (R323); an offset beyond the page fails with Invalid Field in Command. With Retain Asynchronous Event cleared the
read unmasks the page's events. -/
def Dev.logReply (d : Dev) (t : Tag) (pg : Nat) (rae : Bool) (page : Bytes) (lpo len : Nat) : Dev :=
  if page.length < lpo then d.finish t stInvalidField
  else (if rae then d else d.unmaskPage t.ctrl fun e => e.page == pg).reply t (slice page lpo len)

/-- A power state descriptor (R487). -/
def Dev.psd (d : Dev) (s : Nat) : Bytes :=
  let mw := d.fld (F.PWR_SMP_MP_MW s)
  let mp := if 1000 ≤ mw then mw / 10 else mw * 10
  let flags := (if 1000 ≤ mw then 0 else 1) + (if 2 ≤ s then 2 else 0)
  leBytes 2 mp ++ [0] ++ leBytes 1 flags ++ leBytes 4 (d.fld (F.PWR_SLAT_ENLAT_MS s) * 1000) ++ leBytes 4 (d.fld (F.PWR_SLAT_EXLAT_MS s) * 1000) ++
    leBytes 1 s ++ leBytes 1 s ++ leBytes 1 s ++ leBytes 1 s ++ List.replicate 16 0

/-- The identity that every function's configuration space reports (R7, R297, Table 11.3): Vendor ID, Device ID, Revision ID, Class Code, Subsystem Vendor ID and Subsystem
ID, each with its offset in the PCI header. (PRESUMED, log entry 34) -/
def Dev.cfgIdentity (d : Dev) : List (Nat × Bytes) :=
  [(0x00, leBytes 2 0x1F6D), (0x02, leBytes 2 (d.fld F.FAB_CHIPID_PART)), (0x08, leBytes 1 (16 * d.fld F.FAB_CHIPID_STEP_MAJ + d.fld F.FAB_CHIPID_STEP_MIN)),
   (0x09, leBytes 3 0x010802), (0x2C, leBytes 2 (d.fld F.HST_IDS_SSVID)), (0x2E, leBytes 2 (d.fld F.HST_IDS_SSID))]

/-- A register of the configuration space's identity. -/
def Dev.cfgReg (d : Dev) (o : Nat) : Bytes := ((d.cfgIdentity.find? fun p => p.1 == o).map Prod.snd).getD []

/-- Fields of Identify Controller (Tables 11.3, 11.6, 12.3, R487, R547). (PRESUMED, log entry 34) -/
def Dev.idCtrl (d : Dev) (c : Fin 2) : List (Nat × Bytes) :=
  [(0, d.cfgReg 0x00), (4, ownSerial), (2, d.cfgReg 0x2C), (76, leBytes 1 (if d.fld F.HST_CTRL_PORTCFG = 1 then 3 else 0)), (77, [9]),
   (78, leBytes 2 (c.val + 1)), (80, leBytes 4 0x20000), (84, leBytes 4 2000000), (88, leBytes 4 10000000), (92, leBytes 4 0x100),
   (256, leBytes 2 0x000D), (258, [3]), (259, [7]), (260, [4]), (261, [6]), (262, [63]), (263, [4]), (266, leBytes 2 378), (268, leBytes 2 383),
   (512, [0x66]), (513, [0x44]), (514, leBytes 2 d.maxCmd), (516, leBytes 4 (if d.load.minimal then 0 else 64)), (520, leBytes 2 8), (525, [7]), (536, leBytes 4 0),
   (540, leBytes 4 64)] ++ (List.range 5).map fun s => (2048 + 32 * s, d.psd s)

/-- Fields of Identify Namespace (Table 12.3). (PRESUMED, log entry 34) -/
def idNs (n : Ns) : List (Nat × Bytes) :=
  let g := leBytes 2 (16 * n.reg.w - 1)
  [(0, leBytes 8 n.cap), (8, leBytes 8 n.cap), (16, leBytes 8 n.cap), (24, [0x10]), (25, [0]), (26, [0]), (33, [1]), (64, g), (66, g), (72, g),
   (128, [0, 0, 12, 0])]

/-- Fields of the zoned Identify Namespace (Table 12.3). -/
def Dev.idZns (d : Dev) (n : Ns) : List (Nat × Bytes) :=
  let a := leBytes 4 (d.fld F.ZNE_LIMIT_ACT_MAX - 1)
  [(0, leBytes 2 0), (2, leBytes 2 1), (4, a), (8, a), (12, leBytes 4 0), (16, leBytes 4 0), (2816, leBytes 8 n.zs), (2824, [0])]

/-- A list of identifiers in ascending order, above `from_`, as 4-byte entries of a 4,096-byte list. (PRESUMED, log entry 34) -/
def nsList (l : List Nat) (from_ : Nat) : Bytes :=
  zeroPage 4096 [(0, (((List.range 65).filter fun i => l.contains i && decide (from_ < i)).flatMap fun i => leBytes 4 i))]

/-- A controller list: a count and 2-byte identifiers. (PRESUMED, log entry 34) -/
def ctrlList (l : List Nat) : Bytes := zeroPage 4096 [(0, leBytes 2 l.length ++ l.flatMap fun i => leBytes 2 i)]

/-- What Identify returns for a CNS value (R323, R325). Bytes that the spec does not fix are free. -/
def Dev.identify (d : Dev) (c : Fin 2) (cns nsid csi cntid : Nat) : (Status × Bytes) × Dev :=
  let (free, d') := d.drawBytes 4096
  let ok (b : Bytes) : (Status × Bytes) × Dev := ((stOk, b), d')
  let bad (s : Status) : (Status × Bytes) × Dev := ((s, []), d)
  let active := (d.zne.nss.filter fun n => n.attached c).map Ns.nsid
  let all := d.zne.nss.map Ns.nsid
  let forNs (needAtt : Bool) (f : Ns → List (Nat × Bytes)) : (Status × Bytes) × Dev :=
    if nsid = 0 ∨ 64 < nsid then bad stInvalidNs
    else match d.ns? nsid with
      | some n => if needAtt && !n.attached c then ok (List.replicate 4096 0) else ok (pageOf free (f n))
      | none => ok (List.replicate 4096 0)
  match cns with
  | 0x00 => forNs true idNs
  | 0x01 => ok (pageOf free (d.idCtrl c))
  | 0x02 => ok (nsList active nsid)
  | 0x03 => forNs true fun _ => [(0, zeroPage 4096 [(0, [4, 1, 0, 0, 2])])]
  | 0x05 => if csi = 2 then forNs true d.idZns else if csi = 0 then forNs true fun _ => [] else bad stInvalidField
  | 0x06 => if csi = 2 then ok (zeroPage 4096 [(0, [0])]) else if csi = 0 then ok free else bad stInvalidField
  | 0x07 => if csi = 2 then ok (nsList active nsid) else if csi = 0 then ok (nsList [] 0) else bad stInvalidField
  | 0x08 => forNs true fun _ => []
  | 0x10 => ok (nsList all nsid)
  | 0x11 => forNs false idNs
  | 0x12 => match d.ns? nsid with
    | some n => ok (ctrlList ((([0, 1] : List (Fin 2)).filter fun x => n.attached x && decide (cntid ≤ x.val + 1)).map fun x => x.val + 1))
    | none => bad stInvalidNs
  | 0x13 => ok (ctrlList ((d.ctrls.filter fun x => decide (cntid ≤ x.val + 1)).map fun x => x.val + 1))
  | 0x1C => ok (zeroPage 4096 [(0, leBytes 8 5)])
  | _ => bad stInvalidField

/-! ## Log pages -/

/-- An Error Information entry of 64 bytes (R524). -/
def errBytes (e : ErrEntry) : Bytes :=
  leBytes 8 e.count ++ leBytes 2 e.tag.sq ++ leBytes 2 e.tag.cid ++ leBytes 2 (2 * (e.st.sc + 256 * e.st.sct + 16384 * e.st.dnr.toNat)) ++
    leBytes 2 0xFFFF ++ leBytes 8 e.lba ++ leBytes 4 e.nsid ++ [0, 0, 0, 0] ++ leBytes 8 e.seq ++ List.replicate 24 0

/-- Page 0x01: 64 entries, the newest first. -/
def errPage (x : CtrlS) : Bytes := zeroPage 4096 [(0, (x.errors.flatMap errBytes))]

/-- SMART critical warning: bit 1 while the Composite Temperature is at or above the threshold (R547), and the bits of Table 18.5. -/
def Dev.critByte (d : Dev) : Nat := d.log.crit ||| (if d.pwr.hotSince.isSome then 2 else 0)

/-- Page 0xD4: one 32-byte entry for each held run (Table 12.8). -/
def Dev.heldPage (d : Dev) : Bytes :=
  let h := d.zne.cache.filter fun c => c.held
  let starts := h.filter fun c => !h.any fun e => decide (e.nsid = c.nsid ∧ e.lba + 1 = c.lba)
  let len (c : CacheSec) : Nat :=
    ((List.range (h.length + 1)).find? fun i => !h.any fun e => decide (e.nsid = c.nsid ∧ e.lba = c.lba + i)).getD h.length
  (starts.take 4096).flatMap fun c =>
    let p := match d.ns? c.nsid with
      | some n => match (if n.reg.a = 0 then d.load.fmt0 else d.load.fmt1) with
        | some f => mediaPos f n.reg c.lba
        | none => none
      | none => none
    leBytes 4 c.nsid ++ leBytes 8 c.lba ++ leBytes 4 (len c) ++ leBytes 4 (match p with | some q => q.head | none => 0) ++
      leBytes 4 (match p with | some q => q.track.toNat | none => 0) ++ leBytes 8 c.heldSince

/-- Page 0xD1: one 40-byte entry for each zone reported (Table 12.13). -/
def wpBytes (e : WpEntry) : Bytes :=
  leBytes 4 e.nsid ++ leBytes 8 e.zslba ++ leBytes 8 e.now ++ leBytes 8 (e.prev.getD (2 ^ 64 - 1)) ++ leBytes 1 e.reason ++ [0, 0, 0] ++
    leBytes 8 e.stamp

/-- Page 0xD3, Buffer Health (R245): DEVSTATE, RSLV, corrections by device, uncorrectable lines, the entries of memories 8 to 14. -/
def Dev.healthPage (d : Dev) : Bytes :=
  leBytes 4 (d.word F.BUF_DEVSTATE_ST.a).toNat ++ leBytes 4 (d.word F.BUF_RSLV_PTR.a).toNat ++
    ((List.range 6).flatMap fun x => leBytes 8 (d.counter .buf (4 + x)).toNat) ++ leBytes 8 (d.counter .buf 10).toNat ++
    ((List.range 7).flatMap fun m => (d.memTable .buf (8 + m)).entries.flatMap fun e => (List.range 4).flatMap fun i => leBytes 4 (memEntryWord e i))

/-- Page 0x05 (Table 12.1): the supported bit of each opcode. (PRESUMED, log entry 34) -/
def effectsPage : Bytes :=
  let admin := [0x00, 0x01, 0x02, 0x04, 0x05, 0x06, 0x08, 0x09, 0x0A, 0x0C, 0x0D, 0x10, 0x11, 0x15, 0x81, 0x82, 0xC0, 0xC1, 0xC2, 0xC4, 0xC5, 0xC8, 0xC9,
    0xCA]
  let io := [0x00, 0x01, 0x02, 0x08, 0x79, 0x7A, 0x7D]
  zeroPage 4096 ((admin.map fun o => (4 * o, ([1] : Bytes))) ++ io.map fun o => (1024 + 4 * o, [1]))

/-! ## Features -/

/-- The value of a feature (R323); `none` where it is not supported. -/
def Dev.feature (d : Dev) (c : Fin 2) (fid arg : Nat) : Option Nat :=
  let x := d.ctrl c
  match fid with
  | 0x01 => some x.ab
  | 0x02 => some x.psVote
  | 0x04 => if bitsAt arg 16 4 ≠ 0 then none else some (if bitsAt arg 20 2 = 0 then x.tempOver else x.tempUnder)
  | 0x06 => some x.wce.toNat
  | 0x07 => some 0x007F007F
  | 0x08 => some (x.coalThr + 256 * x.coalTime)
  | 0x09 => if 129 < bitsAt arg 0 16 then none else some (bitsAt arg 0 16 + 65536 * (x.coalOff.contains (bitsAt arg 0 16)).toNat)
  | 0x0B => some x.asyncCfg
  | 0x19 => some 0
  | 0xC0 => match x.sq (bitsAt arg 0 16) with
    | some q => if bitsAt arg 0 16 = 0 then none else some (bitsAt arg 0 16 + 2 ^ 31 * q.ordered.toNat)
    | none => none
  | _ => none

end Sys2Proof.Machine
end

