-- ==== Sys2Proof/Machine/Admin.lean ====
section
/-! DEFINITION. Machine/Admin.lean: admin commands: queues, Identify, log pages, features, events and Abort (R304, R323 to R326, R338, R349). -/
namespace Sys2Proof.Machine

/-! ## Queues (R304) -/

/-- Invalid Queue Identifier and Invalid Queue Size, of which a creation or deletion fails. (PRESUMED, log entry 34) -/
def stQid : Status := stOf 1 0x01
def stQsize : Status := stOf 1 0x02

/-- CREATE_IO_SQ (R304): at most 128 queues of at most 4,096 entries, contiguous, on a completion queue that exists. -/
def execCreateIoSq (t : Tag) (qid size cqid : BitVec 16) (base : BitVec 64) (pc : Bool) (s : State) : Out :=
  s.doesIn 1 fun d => d.host t true fun d =>
    let x := d.ctrl t.ctrl
    let q := qid.toNat
    if q = 0 ∨ 128 < q ∨ (x.sq q).isSome then d.finish t stQid
    else if cqid.toNat = 0 ∨ (x.cq cqid.toNat).isNone then d.finish t (stOf 1 0x00)
    else if size.toNat = 0 ∨ 4095 < size.toNat then d.finish t stQsize
    else if !pc then d.finish t stInvalidField
    else (d.setSq t.ctrl q (some { base := base.toNat, size := size.toNat + 1, cqid := cqid.toNat })).finish t stOk

/-- CREATE_IO_CQ (R304, R309): vectors 0 to 128. -/
def execCreateIoCq (t : Tag) (qid size iv : BitVec 16) (base : BitVec 64) (ien pc : Bool) (s : State) : Out :=
  s.doesIn 1 fun d => d.host t true fun d =>
    let q := qid.toNat
    if q = 0 ∨ 128 < q ∨ ((d.ctrl t.ctrl).cq q).isSome then d.finish t stQid
    else if size.toNat = 0 ∨ 4095 < size.toNat then d.finish t stQsize
    else if 128 < iv.toNat then d.finish t (stOf 1 0x08)
    else if !pc then d.finish t stInvalidField
    else (d.setCq t.ctrl q (some { base := base.toNat, size := size.toNat + 1, vector := iv.toNat, ien := ien })).finish t stOk

/-- DELETE_IO_SQ (R304): the queue goes. Its commands that are not committed are abandoned, the others run on without a completion. (DESIGN CHOICE, log entry 37) -/
def execDeleteIoSq (t : Tag) (qid : BitVec 16) (s : State) : Out :=
  s.doesIn 1 fun d => d.host t true fun d =>
    let q := qid.toNat
    if q = 0 ∨ ((d.ctrl t.ctrl).sq q).isNone then d.finish t stQid
    else
      let mine (g : Tag) : Bool := decide (g.ctrl = t.ctrl ∧ g.sq = q)
      let quit := d.cmds.filter fun c => mine c.tag && !c.silent && !c.isCommitted
      let d : Dev := quit.foldl (fun (d : Dev) c => (d.abandon c).forget c.tag) d
      let mute (c : CmdRec) : CmdRec := if mine c.tag then { c with silent := true } else c
      let d : Dev := { d with cmds := d.cmds.map mute }
      let d := d.modHst fun h => { h with post := h.post.filter fun p => !mine p.tag }
      (d.setSq t.ctrl q none).finish t stOk

/-- DELETE_IO_CQ (R304): a queue that a submission queue still uses cannot be deleted. -/
def execDeleteIoCq (t : Tag) (qid : BitVec 16) (s : State) : Out :=
  s.doesIn 1 fun d => d.host t true fun d =>
    let x := d.ctrl t.ctrl
    let q := qid.toNat
    if q = 0 ∨ (x.cq q).isNone then d.finish t stQid
    else if (x.sqs.any fun p => match p.2 with | some y => decide (y.cqid = q) | none => false) then d.finish t (stOf 1 0x0C)
    else (d.setCq t.ctrl q none).finish t stOk

/-- INVALID_OPCODE (R323). -/
def execInvalidOpcode (t : Tag) (s : State) : Out := s.doesIn 1 fun d => d.host t false fun d => d.finish t stInvalidOpcode

/-! ## Identify and log pages -/

/-- IDENTIFY (R325). -/
def execIdentify (t : Tag) (cns csi : Byte) (nsid : Word) (cntid : BitVec 16) (s : State) : Out :=
  s.doesIn 1 fun d => d.host t true fun d =>
    let ((st, b), d) := d.identify t.ctrl cns.toNat nsid.toNat csi.toNat cntid.toNat
    if st = stOk then d.reply t b else d.finish t st

/-- GET_LOG_ERROR_INFO (R524). -/
def execGetLogErrorInfo (t : Tag) (rae : Bool) (lpo : BitVec 64) (len : Word) (s : State) : Out :=
  s.doesIn 1 fun d => d.host t true fun d => d.logReply t 1 rae (errPage (d.ctrl t.ctrl)) lpo.toNat len.toNat

/-- GET_LOG_SMART_HEALTH (R324, R547): device-wide; the composite temperature is TJ + 273 K. Bytes that the spec does not fix are free. -/
def execGetLogSmartHealth (t : Tag) (rae : Bool) (nsid : Word) (lpo : BitVec 64) (len : Word) (s : State) : Out :=
  s.doesIn 1 fun d => d.host t true fun d =>
    if nsid.toNat ≠ 0 ∧ nsid.toNat ≠ 0xFFFFFFFF then d.finish t stInvalidField
    else
      let (b, d) := d.drawBytes 512
      d.logReply t 2 rae (pageOf b [(0, leBytes 1 d.critByte), (1, leBytes 2 (d.fld F.KNL_TEMP_TJ + 273))]) lpo.toNat len.toNat

/-- GET_LOG_FIRMWARE_SLOT (R481). -/
def execGetLogFirmwareSlot (t : Tag) (rae : Bool) (lpo : BitVec 64) (len : Word) (s : State) : Out :=
  s.doesIn 1 fun d => d.host t true fun d => d.logReply t 3 rae d.slotPage lpo.toNat len.toNat

/-- GET_LOG_CHANGED_NS (R324): the list is cleared by a read with RAE = 0. (DESIGN CHOICE, log entry 67) -/
def execGetLogChangedNs (t : Tag) (rae : Bool) (lpo : BitVec 64) (len : Word) (s : State) : Out :=
  s.doesIn 1 fun d => d.host t true fun d =>
    let page := nsList (d.ctrl t.ctrl).changed 0
    let d := d.logReply t 4 rae page lpo.toNat len.toNat
    if rae ∨ page.length < lpo.toNat then d else d.modCtrl t.ctrl fun x => { x with changed := [] }

/-- GET_LOG_CMD_EFFECTS (R324). -/
def execGetLogCmdEffects (t : Tag) (rae : Bool) (lpo : BitVec 64) (len : Word) (s : State) : Out :=
  s.doesIn 1 fun d => d.host t true fun d => d.logReply t 5 rae effectsPage lpo.toNat len.toNat

/-- GET_LOG_WP_RECOVERY (R359): the entries remain until the page is read with RAE = 0. (DESIGN CHOICE, log entry 67) -/
def execGetLogWpRecovery (t : Tag) (rae : Bool) (lpo : BitVec 64) (len : Word) (s : State) : Out :=
  s.doesIn 1 fun d => d.host t true fun d =>
    let page := (d.zne.recov.take 8192).flatMap wpBytes
    let d := d.logReply t 0xD1 rae page lpo.toNat len.toNat
    if rae ∨ page.length < lpo.toNat then d else d.modZne fun z => { z with recov := [] }

/-- GET_LOG_FORMAT_TABLES (R85): LSP selects the actuator. -/
def execGetLogFormatTables (t : Tag) (rae : Bool) (lsp : Byte) (lpo : BitVec 64) (len : Word) (s : State) : Out :=
  s.doesIn 1 fun d => d.host t true fun d =>
    let a := lsp.toNat
    if 1 < a ∨ (d.v ∧ a = 1) then d.finish t stInvalidField
    else
      let raw := match (if a = 0 then d.load.fmt0 else d.load.fmt1) with | some f => f.raw | none => []
      d.logReply t 0xD2 rae raw lpo.toNat len.toNat

/-- GET_LOG_BUFFER_HEALTH (R245). -/
def execGetLogBufferHealth (t : Tag) (rae : Bool) (lpo : BitVec 64) (len : Word) (s : State) : Out :=
  s.doesIn 1 fun d => d.host t true fun d => d.logReply t 0xD3 rae d.healthPage lpo.toNat len.toNat

/-- GET_LOG_HELD_RUNS (R346). -/
def execGetLogHeldRuns (t : Tag) (rae : Bool) (lpo : BitVec 64) (len : Word) (s : State) : Out :=
  s.doesIn 1 fun d => d.host t true fun d => d.logReply t 0xD4 rae d.heldPage lpo.toNat len.toNat

/-- GET_LOG_INVALID (R324): Invalid Log Page. -/
def execGetLogInvalid (t : Tag) (s : State) : Out := s.doesIn 1 fun d => d.host t true fun d => d.finish t (stOf 1 0x09)

/-! ## Features -/

/-- GET_FEATURES (R323): Select is not supported. -/
def execGetFeatures (t : Tag) (fid : Byte) (sel : Fin 8) (arg : Word) (s : State) : Out :=
  s.doesIn 1 fun d => d.host t true fun d =>
    if sel ≠ 0 then d.finish t stInvalidField
    else match d.feature t.ctrl fid.toNat arg.toNat with
      | some v => d.finish t stOk v
      | none => d.finish t stInvalidField

/-- What the Set Features commands share (R323): Save is not supported. (DESIGN CHOICE, log entry 38) -/
def Dev.setFeature (d : Dev) (t : Tag) (save : Bool) (f : Dev → Dev) : Dev :=
  d.host t true fun d => if save then d.finish t (stOf 1 0x0D) else f d

/-- SET_FEATURE_ARBITRATION (R306). -/
def execSetFeatureArbitration (t : Tag) (save : Bool) (w : Word) (s : State) : Out :=
  s.doesIn 1 fun d => d.setFeature t save fun d => (d.modCtrl t.ctrl fun x => { x with ab := getBits w 0 3 }).finish t stOk

/-- SET_FEATURE_POWER_MGMT (R485, R490): the controller's vote; it completes when the device has reached the target. -/
def execSetFeaturePowerMgmt (t : Tag) (save : Bool) (w : Word) (s : State) : Out :=
  s.doesIn 1 fun d => d.setFeature t save fun d =>
    let ps := getBits w 0 5
    if 4 < ps then d.finish t stInvalidField
    else
      let old := d
      let d := (d.modCtrl t.ctrl fun x => { x with psVote := ps, lastOp := if ps ≤ 1 then ps else x.lastOp }).voted old
      let g := d.targetState
      if g = d.pstate ∧ d.pwr.mv.isNone then d.finish t stOk
      else (d.putCmd { tag := t, kind := .powerMgmt g, nlb := (old.ctrl t.ctrl).psVote, committed := true, started := d.now }).modPwr fun p => { p with asking := p.asking ++ [t] }

/-- SET_FEATURE_TEMP_THRESHOLD (R547): the composite temperature's over and under thresholds. -/
def execSetFeatureTempThreshold (t : Tag) (save : Bool) (w : Word) (s : State) : Out :=
  s.doesIn 1 fun d => d.setFeature t save fun d =>
    let v := getBits w 0 16
    if getBits w 16 4 ≠ 0 ∨ 1 < getBits w 20 2 then d.finish t stInvalidField
    else (d.modCtrl t.ctrl fun x => if getBits w 20 2 = 0 then { x with tempOver := v } else { x with tempUnder := v }).finish t stOk

/-- SET_FEATURE_WRITE_CACHE (R343). -/
def execSetFeatureWriteCache (t : Tag) (save : Bool) (w : Word) (s : State) : Out :=
  s.doesIn 1 fun d => d.setFeature t save fun d => (d.modCtrl t.ctrl fun x => { x with wce := w.toNat.testBit 0 }).finish t stOk

/-- SET_FEATURE_NUM_QUEUES (R304): 127 of each, zero-based; not after an I/O queue has been created. -/
def execSetFeatureNumQueues (t : Tag) (save : Bool) (w : Word) (s : State) : Out :=
  s.doesIn 1 fun d => d.setFeature t save fun d =>
    let x := d.ctrl t.ctrl
    if (x.sqs.any fun p => p.1 != 0) || (x.cqs.any fun p => p.1 != 0) then d.finish t stSequence
    else if getBits w 0 16 = 65535 ∨ getBits w 16 16 = 65535 then d.finish t stInvalidField
    else d.finish t stOk 0x007F007F

/-- SET_FEATURE_INT_COALESCING (R310). -/
def execSetFeatureIntCoalescing (t : Tag) (save : Bool) (w : Word) (s : State) : Out :=
  s.doesIn 1 fun d => d.setFeature t save fun d =>
    (d.modCtrl t.ctrl fun x => { x with coalThr := getBits w 0 8, coalTime := getBits w 8 8 }).finish t stOk

/-- SET_FEATURE_INT_VECTOR_CFG (R310). -/
def execSetFeatureIntVectorCfg (t : Tag) (save : Bool) (w : Word) (s : State) : Out :=
  s.doesIn 1 fun d => d.setFeature t save fun d =>
    let v := getBits w 0 16
    if 128 < v then d.finish t stInvalidField
    else
      let upd (l : List Nat) : List Nat := if w.toNat.testBit 16 then (if l.contains v then l else l ++ [v]) else l.filter (· != v)
      (d.modCtrl t.ctrl fun x => { x with coalOff := upd x.coalOff }).finish t stOk

/-- SET_FEATURE_ASYNC_EVENT_CFG (R308). -/
def execSetFeatureAsyncEventCfg (t : Tag) (save : Bool) (w : Word) (s : State) : Out :=
  s.doesIn 1 fun d => d.setFeature t save fun d => (d.modCtrl t.ctrl fun x => { x with asyncCfg := w.toNat }).finish t stOk

/-- SET_FEATURE_HOST_BEHAVIOR (R323): feature 0x19 takes profile 0 only. -/
def execSetFeatureHostBehavior (t : Tag) (save : Bool) (w : Word) (s : State) : Out :=
  s.doesIn 1 fun d => d.setFeature t save fun d => if getBits w 0 9 = 0 then d.finish t stOk else d.finish t stInvalidField

/-- SET_FEATURE_ORDERED_QUEUE (R338). -/
def execSetFeatureOrderedQueue (t : Tag) (save : Bool) (w : Word) (s : State) : Out :=
  s.doesIn 1 fun d => d.setFeature t save fun d =>
    let q := getBits w 0 16
    match (d.ctrl t.ctrl).sq q with
    | some x => if q = 0 then d.finish t stInvalidField else (d.setSq t.ctrl q (some { x with ordered := w.toNat.testBit 31 })).finish t stOk
    | none => d.finish t stInvalidField

/-! ## Events and Abort -/

/-- ASYNC_EVENT_REQUEST (R323): at most 8 are outstanding; one that finds an event waiting completes with it. -/
def execAsyncEventRequest (t : Tag) (s : State) : Out :=
  s.doesIn 1 fun d => d.host t true fun d =>
    let x := d.ctrl t.ctrl
    if 8 ≤ x.aers.length then d.finish t (stOf 1 0x05)
    else
      let d : Dev := { d with cmds := d.cmds.filter fun c => decide (c.tag ≠ t) }
      match x.aens with
      | e :: r => (d.setCtrl t.ctrl { x with aens := r, masked := e :: x.masked }).handOver { tag := t, st := stOk, dw0 := aenDw0 e }
      | [] => d.setCtrl t.ctrl { x with aers := x.aers ++ [t] }

/-- End an Abort with Dword 0, its entry to be posted after that of its target (R349). -/
def Dev.endAbort (d : Dev) (t : Tag) (dw0 : Nat) (target : Tag) : Dev :=
  ({ d with cmds := d.cmds.filter fun c => decide (c.tag ≠ t) }).handOver { tag := t, st := stOk, dw0 := dw0, after := some target }

/-- ABORT (R349): at most four are outstanding. (DESIGN CHOICE, log entry 37) -/
def execAbort (t : Tag) (sqid cid : BitVec 16) (s : State) : Out :=
  s.doesIn 1 fun d => d.host t false fun d =>
    let g : Tag := ⟨t.ctrl, sqid.toNat, cid.toNat⟩
    let out := (d.hst.post.filter fun p => decide (p.tag.ctrl = t.ctrl) && p.after.isSome).length
    if 4 ≤ out then d.finish t (stOf 1 0x03)
    else match d.cmd? g with
      | some c =>
        if g = t ∨ c.silent then d.finish t stOk 1
        else if c.isCommitted then d.endAbort t 1 g
        else (d.quit g stAborted 0 fun d => (d.abandon c).dropWork g).endAbort t 0 g
      | none => if (d.hst.post.any fun p => decide (p.tag = g)) then d.endAbort t 1 g else d.finish t stOk 1

end Sys2Proof.Machine
end

