-- ==== Sys2Proof/Machine/Buffer.lean ====
section
/-! DEFINITION. Machine/Buffer.lean: the commands of the buffer memory and of the scrubber (chapter Buffer Memory and Its Protection). -/
namespace Sys2Proof.Machine

/-! ## Bring-up -/

/-- BUFFER_BRINGUP (R218, Table 8.2): the training begins; `selfRefresh` tells an exit from self-refresh, with the buffer trained, from the bring-up at load or KENNEL exit,
before which it is not, and with which the pads of the domain are released. -/
def execBufferBringup (selfRefresh : Bool) (s : State) : Out :=
  s.doesIn 4 fun d =>
    if d.buf.training.isSome ∨ d.flag F.BUF_STAT_TRAINED ≠ selfRefresh then d
    else
      let d := if selfRefresh then d else d.setFld F.PWR_STAT_HOLD (d.fld F.PWR_STAT_HOLD &&& 0x1EF)
      let d := d.setFld F.BUF_STAT_READY 0
      { d with buf := { d.buf with training := some selfRefresh.toNat } }

/-- The training of device x ends (R218): `fail` is the phase that failed. At load every device is trained; at a self-refresh exit a DEAD
device is not, and a RESILVER device stays in RESILVER. An UNTRAINED device is not trained there either. (DEDUCED, log entry 29) -/
def Dev.trainOne (d : Dev) (occasion x : Nat) (fail : Option (Fin 4)) : Dev :=
  let st := d.devState x
  if occasion = 1 ∧ (st = 2 ∨ st = 1) then d
  else match fail with
    | some p =>
      let d := d.setDevState x 1
      let d := if st = 3 then { (d.setFld F.SCB_POS_RESILVERING 0) with buf := { d.buf with resilver := none } } else d
      d.event .buf 0x02 p occasion 0 x
    | none =>
      let d := if st = 3 ∧ occasion = 1 then d else d.setDevState x 0
      d.event .buf 0x01 (d.fld F.BUF_PHY_RATE) (d.fld F.BUF_PHY_DENS) 0 x

/-- Step 5 of Table 8.2: the valid-bit store, the fill tracker and the slot maps are cleared, TRAINED is set. MDC holds no valid line, and becomes READY (R255). -/
def Dev.clearStores (d : Dev) : Dev :=
  let d : Dev := { d with buf := { d.buf with valid := [], fills := [] }, mdc := { failed := d.mdc.failed } }
  let d := ((d.setFld F.MDC_STAT_VALID 0).setFld F.MDC_DIRTY_LINES 0).setFld F.MDC_STAT_READY 1
  (((d.setSlotMap 0 []).setSlotMap 1 []).setFld F.BUF_STAT_FILLS 0).setFld F.BUF_STAT_TRAINED 1

/-- TRAINING_DONE (R218): the outcome of each device's training; READY is set if at most one device is not LIVE. -/
def execTrainingDone (fails : List (Option (Fin 4))) (s : State) : Out :=
  s.doesIn 4 fun d =>
    match d.buf.training with
    | none => d
    | some occ =>
      let d := { d with buf := { d.buf with training := none } }
      let d : Dev := (List.range 6).foldl (fun d x => d.trainOne occ x (fails.getD x none)) d
      let d : Dev := if occ = 0 then d.clearStores else d
      if d.notLive ≤ 1 then d.setFld F.BUF_STAT_READY 1 else d

/-! ## Requests -/

/-- Serve k lines of a request and answer it when it is finished; its remainder stays at the head of its client's requests (R237). -/
def Dev.bufGrant (d : Dev) (r : BufReq) (edc : List EdcFail) (k : Nat) : Dev :=
  let (d, r') := d.bufServe r edc k
  if r'.n = 0 then
    { d with buf := { d.buf with
        reqs := d.buf.reqs.erase r
        resps := d.buf.resps ++ [{ client := r'.client, id := r'.id, err := r'.err, data := r'.got, bad := r'.bad }] } }
  else { d with buf := { d.buf with reqs := d.buf.reqs.map fun x => if x = r then r' else x } }

/-- BUF_REQUEST_GRANT (R237): the arbiter grants one request, whole or in part; its lines are read or written (R220, R223 to R226). With READY 0 it is answered with an
error (R219). `edc` are the bursts whose EDC fails, `upsets` flips of stored bits that came before; `bad` tells that the request's token has a wrong parity, a detected fault (R37, R54).
(DEDUCED, log entry 11) -/
def execBufRequestGrant (edc : List EdcFail) (upsets : List Upset) (bad : Bool) (s : State) : Out :=
  s.doesIn 4 fun d =>
    let d := (d.upset upsets).bufIdle
    match d.bufPick with
    | none => d
    | some (r, group, k) =>
      let d := if bad then d.fault .buf 1 0 r.pool else d
      if !d.flag F.BUF_STAT_READY then
        { d with buf := { d.buf with reqs := d.buf.reqs.erase r, resps := d.buf.resps ++ [{ client := r.client, id := r.id, err := true, data := [], bad := some 0 }] } }
      else if d.bufRoom < k then d
      else (d.bufGrant r edc k).bufCharge r.client group k

/-- FILL_TRACKER_TIMEOUT (R229): the oldest entry, open for FILL_NS, is filled with zeros and closed. -/
def execFillTrackerTimeout (s : State) : Out :=
  s.doesIn 4 fun d => match d.buf.fills with
    | e :: _ => if e.opened + 10 * d.fld F.BUF_FILL_FILL_NS ≤ d.now then d.closeFill e else d
    | [] => d

/-- BUF_PERIODIC_RETRAIN (R221): the next device that is neither DEAD nor UNTRAINED is retrained. -/
def execBufPeriodicRetrain (s : State) : Out :=
  s.doesIn 4 fun d =>
    if !d.flag F.BUF_STAT_TRAINED || decide (d.now < d.buf.retrainAt + 1000000 * d.fld F.BUF_PHY_RETRAIN_MS) then d
    else match rrFirst (fun x => d.devState x != 1 && d.devState x != 2) 6 6 d.buf.retrainNext with
      | some x => { d with buf := { d.buf with retrainNext := (x + 1) % 6, retrainAt := d.now } }
      | none => { d with buf := { d.buf with retrainAt := d.now } }

/-- A write to BUF.VCLR_CNT (R231): clears V of a range and drops its tracker entries; refused with event 0x090D while a clear runs. -/
def Dev.vclrWrite (d : Dev) (v who : Nat) : Dev :=
  let d := (d.regWrite 0x04000024 v who).1
  let first := d.fld F.BUF_VCLR_FIRST_FIRST
  let n := bitsAt v 0 22
  if d.flag F.BUF_STAT_VCLR_BUSY then d.event .buf 0x0D first n
  else
    let out (g : Nat) : Bool := decide (g < first ∨ first + n ≤ g)
    let d := { d with buf := { d.buf with
        valid := d.buf.valid.filter fun p => out p.1
        fills := d.buf.fills.filter fun e => out e.granule } }
    ((if n = 0 then d else d.validStruck first).setFld F.BUF_STAT_FILLS d.buf.fills.length).setFld F.BUF_STAT_VCLR_BUSY 1

/-- VCLR_CNT_WRITE (R231). -/
def execVclrCntWrite (v : Word) (who : Requester) (s : State) : Out := s.doesIn 4 fun d => d.vclrWrite v.toNat (reqCode who)

/-- VCLR_DONE (R231): the clear is done. -/
def execVclrDone (s : State) : Out := s.doesIn 4 fun d => d.setFld F.BUF_STAT_VCLR_BUSY 0

/-- A write to BUF.TBUFa (R232): sets an actuator's track buffer and clears every busy bit of its slot map. -/
def Dev.tbufWrite (d : Dev) (a : Fin 2) (v who : Nat) : Dev := ((d.regWrite (F.BUF_TBUF_GRANULE a).a v who).1).setSlotMap a []

/-- TBUF_CONFIG_WRITE (R232). -/
def execTbufConfigWrite (a : Fin 2) (v : Word) (who : Requester) (s : State) : Out := s.doesIn 4 fun d => d.tbufWrite a v.toNat (reqCode who)

/-- A write to BUF.TBCLRa (R232): clears COUNT busy bits from FIRST, modulo the track-buffer size (COUNT 0 is 4,096). -/
def Dev.tbclrWrite (d : Dev) (a : Fin 2) (v who : Nat) : Dev :=
  let d := (d.regWrite (F.BUF_TBCLR_FIRST a).a v who).1
  let size := d.tbufSize a
  let count := if bitsAt v 16 12 = 0 then 4096 else bitsAt v 16 12
  let first := bitsAt v 0 12
  if size = 0 then d
  else d.setSlotMap a ((d.slotMap a).filter fun p => decide (count ≤ (p.1 + size - first % size) % size))

/-- TBCLR_WRITE (R232). -/
def execTbclrWrite (a : Fin 2) (v : Word) (who : Requester) (s : State) : Out := s.doesIn 4 fun d => d.tbclrWrite a v.toNat (reqCode who)

/-! ## Device states -/

/-- A resilver stops. -/
def Dev.stopResilver (d : Dev) : Dev := { (d.setFld F.SCB_POS_RESILVERING 0) with buf := { d.buf with resilver := none } }

/-- Whether another device than x is not LIVE. -/
def Dev.otherNotLive (d : Dev) (x : Nat) : Bool := (List.range 6).any fun y => y != x && d.devState y != 0

/-- Device State Refused (Table 12.9 statuses of 0xC9). -/
def stDeviceState : Status := stOf 7 0xC2
/-- Training Failed. -/
def stTrainingFailed : Status := stOf 7 0xC3

/-- End Buffer Device State with BUF.DEVSTATE in Dword 0. -/
def Dev.endDevState (d : Dev) (t : Tag) : Dev := d.finish t stOk (d.word F.BUF_DEVSTATE_ST.a).toNat

/-- MARK_DEVICE_DEAD (R233, R234): LIVE, UNTRAINED or RESILVER to DEAD, with event 0x0906; a resilver of it stops. (DESIGN CHOICE, log entry 29) -/
def execMarkDeviceDead (t : Tag) (x : Fin 8) (s : State) : Out :=
  s.doesIn 1 fun d => d.host t false fun d =>
    if 6 ≤ x.val then d.finish t stInvalidField
    else if d.devState x = 2 then d.endDevState t
    else if d.otherNotLive x then d.finish t stDeviceState
    else
      let st := d.devState x
      let d := if st = 3 then d.stopResilver else d
      ((d.setDevState x 2).event .buf 0x06 st 0 0 x).endDevState t

/-- MARK_DEVICE_ALIVE (R234): a DEAD or UNTRAINED device is trained (`fail` is the phase that failed) and enters RESILVER at pointer 0. (DESIGN CHOICE, log entry 29) -/
def execMarkDeviceAlive (t : Tag) (x : Fin 8) (fail : Option (Fin 4)) (s : State) : Out :=
  s.doesIn 1 fun d => d.host t false fun d =>
    if 6 ≤ x.val then d.finish t stInvalidField
    else if d.devState x = 0 ∨ d.devState x = 3 then d.endDevState t
    else if d.otherNotLive x then d.finish t stDeviceState
    else match fail with
      | some p => (d.event .buf 0x02 p 2 0 x).finish t stTrainingFailed
      | none =>
        let d := ((d.setDevState x 3).setFld F.BUF_RSLV_PTR 0).setFld F.SCB_POS_RESILVERING 1
        let d := { d with buf := { d.buf with resilver := some { dev := x, start := d.now } } }
        (d.event .buf 0x07 d.buf.valid.length 0 0 x).endDevState t

/-- BUFFER_DEVICE_STATE_CMD (R233): the command names no device, or would leave two devices not LIVE: it fails and changes nothing. A request
that R234 grants is the business of MARK_DEVICE_DEAD and MARK_DEVICE_ALIVE, and does nothing here. -/
def execBufferDeviceStateCmd (t : Tag) (x : Fin 8) (alive : Bool) (s : State) : Out :=
  s.doesIn 1 fun d => d.host t false fun d =>
    let same := if alive then d.devState x == 0 || d.devState x == 3 else d.devState x == 2
    if 6 ≤ x.val then d.finish t stInvalidField
    else if !same && d.otherNotLive x then d.finish t stDeviceState
    else d

/-! ## Scrubber -/

/-- Read a line with the resilvered device erased and write all six symbols back (R234); an uncorrectable line is never written (R225). (DESIGN CHOICE, log entry 28) -/
def Dev.resilverLine (d : Dev) (line : Nat) (edc : List EdcFail) : Dev :=
  let (d, o) := d.lineRead line edc 3
  match o.data with
  | some b => d.lineWrite line b edc
  | none => d.bump .scb 4

/-- The resilvered device becomes LIVE, with event 0x0908 (R234). -/
def Dev.endResilver (d : Dev) (r : ResilverS) : Dev :=
  let d := (d.setFld F.BUF_RSLV_PTR d.granules).setDevState r.dev 0
  d.stopResilver.event .buf 0x08 r.done ((d.now - r.start) / 1000000) 0 r.dev

/-- RESILVER_GRANULE (R49, R234, R237): the arbiter grants the resilver's granule, the next one with V = 1 at or above PTR, whole or in part: its lines are rewritten, and
after the last of them PTR moves above it; when no granule is left PTR reaches the end of the capacity. (DESIGN CHOICE, log entry 28) -/
def execResilverGranule (edc : List EdcFail) (s : State) : Out :=
  s.doesIn 4 fun d =>
    let d := d.bufIdle
    match d.buf.resilver with
    | none => d
    | some r =>
      if !d.flag F.BUF_STAT_READY then d
      else match d.buf.valid.find? fun p => decide (d.fld F.BUF_RSLV_PTR ≤ p.1 ∧ p.1 < d.granules), d.bufTurn with
        | none, _ => d.endResilver r
        | some (g, _), some (8, group) =>
          let k := if group = 1 then min (min (32 - r.line) (d.share 8 / 2)) (d.bufRoom / 2) else 32 - r.line
          if d.bufRoom < 2 * k ∨ k = 0 then d else
          let d := (List.range k).foldl (fun d i => d.resilverLine (32 * g + r.line + i) edc) d
          let d := d.bufCharge 8 group (2 * k)
          if r.line + k < 32 then { d with buf := { d.buf with resilver := some { r with line := r.line + k } } }
          else
            let r := { r with done := r.done + 1, line := 0 }
            let d : Dev := { d with buf := { d.buf with resilver := some r } }
            let d := (d.setFld F.BUF_RSLV_PTR (g + 1)).bump .scb 7
            if g + 1 = d.granules then d.endResilver r else d
        | _, _ => d

/-- Mark the entries of a line in the table of device x as sticky. -/
def Dev.markSticky (d : Dev) (x line : Nat) : Dev :=
  { d with mem := d.mem.modify (fun _ => ({} : MemTable)) (memKey .buf (8 + x)) fun t =>
      { t with entries := t.entries.map fun e => e.map fun m => if m.addr = line then { m with sticky := true } else m } }

/-- Scrub one line (R240): a corrected line is written back and read again; an error that recurs on the same device is sticky. (DESIGN CHOICE, log entry 28) -/
def Dev.scrubLine (d : Dev) (line : Nat) (edc : List EdcFail) : Dev :=
  let (d, o) := d.lineRead line edc 1
  match o.data with
  | none => { (d.bump .scb 4) with scb := { d.scb with uncorr := d.scb.uncorr + 1 } }
  | some b =>
    if o.corr.isEmpty then d
    else
      let d := { (d.bump .scb 1) with scb := { d.scb with corrected := d.scb.corrected + 1 } }
      let d := (d.lineWrite line b edc).bump .scb 2
      let (d, o2) := d.lineRead line edc 2
      match o2.corr.find? fun c => o.corr.any fun c1 => c1.2.1 == c.2.1 with
      | some c => ((d.markSticky c.2.1 line).bump .scb 3).event .scb 0x03 line c.2.1 c.2.2 0
      | none => d

/-- A pass begins. -/
def Dev.passStart (d : Dev) : Dev :=
  { (d.setFld F.SCB_POS_GRANULE 0) with
    scb := { running := true, began := d.now, passH := d.fld F.SCB_PACE_PASS_H } }

/-- SCRUB_PASS_END (R241): event 0x0B01, PASSES; the next pass starts at the end of this one while EN is 1. -/
def Dev.passEnd (d : Dev) : Dev :=
  let n := d.fld F.SCB_PASSES_PASSES + 1
  let d := d.event .scb 0x01 n d.scb.corrected d.scb.uncorr
  let d := (d.setFld F.SCB_PASSES_PASSES n).bump .scb 5
  if d.flag F.SCB_CTRL_EN then d.passStart
  else { (d.setFld F.SCB_POS_GRANULE 0) with scb := { d.scb with running := false } }

/-- The scrub moves past a granule. -/
def Dev.passNext (d : Dev) (g : Nat) : Dev := if g + 1 = d.granules then d.passEnd else d.setFld F.SCB_POS_GRANULE (g + 1)

/-- Whether a background scrub request may be granted now: promoted, or no normal request waits (R50, R237). -/
def Dev.scrubGrantable (d : Dev) : Bool :=
  (d.bg.any fun r => decide (r.kind = .scrub) && r.promoted) || (d.bufSent.all BufReq.bg && !d.resilverDue)

/-- SCRUB_SLOT (R239): the slot of the next granule is due; V = 0 passes it over, V = 1 asks for 32 lines as a background request, which is
served as soon as the arbiter can grant it. Passes pause during a resilver (R235), and while EN is 0. (DESIGN CHOICE, log entry 28) -/
def execScrubSlot (edc : List EdcFail) (upsets : List Upset) (s : State) : Out :=
  s.doesIn 4 fun d =>
    let d := d.upset upsets
    let d := if !d.scb.running && d.flag F.SCB_CTRL_EN then d.passStart else d
    let g := d.fld F.SCB_POS_GRANULE
    if !d.scb.running || !d.flag F.SCB_CTRL_EN || !d.flag F.BUF_STAT_READY || d.buf.resilver.isSome ||
        decide (d.now < d.scb.began + g * (d.scb.passH * 3600000000000) / d.granules) then d
    else if !d.valid g then d.passNext g
    else
      let d := if d.bg.any fun r => decide (r.kind = .scrub) then d else d.raiseBg .scrub
      if !d.scrubGrantable then d
      else
        let d := (d.grantBg .scrub).bump .scb 0
        let d := (List.range 32).foldl (fun d i => d.scrubLine (32 * g + i) edc) d
        (d.bufCharge 8 3 32).passNext g

/-- SCRUB_PASS_OVERRUN (R241): PASS_H hours after the pass began, event 0x0B02 is logged and the pass goes on. -/
def execScrubPassOverrun (s : State) : Out :=
  s.doesIn 4 fun d =>
    if d.scb.running && !d.scb.overrun && decide (d.scb.began + d.scb.passH * 3600000000000 ≤ d.now) then
      let d := { d with scb := { d.scb with overrun := true } }
      (d.bump .scb 6).event .scb 0x02 (d.fld F.SCB_PASSES_PASSES + 1) (d.fld F.SCB_POS_GRANULE)
        ((d.now - d.scb.began) / 3600000000000)
    else d

/-- BUF_INJECT_ARM (R248): a write to BUF.INJECT. -/
def execBufInjectArm (v : Word) (who : Requester) (s : State) : Out :=
  s.doesIn 4 fun d => (d.regWrite 0x04000030 v.toNat (reqCode who)).1

end Sys2Proof.Machine
end

