-- ==== Sys2Proof/Machine/Fabric.lean ====
section
/-! DEFINITION. Machine/Fabric.lean: the fabric, the time base and the roll call (chapters How the Device Is Put Together; Handshake Fabric,
Credits and Guarantees). -/
namespace Sys2Proof.Machine

/-- The response slots a requester may have reserved for a hand-off (R39): as many as the capacity of the hand-off; the replies to FAB go to its pool 2
(R551). (DESIGN CHOICE, log entry 12) -/
def Dev.backFree (d : Dev) (b : Blk) (j : Nat) : Bool :=
  match poolAt d.v b j with
  | some p =>
    if p.cls = .mgt ∧ p.src = 1 then decide ((d.pool .fab 2).reserved < d.fld (fCREDITS .fab 2)) else decide ((d.pool b j).reserved < p.cap)
  | none => false

/-- The pool whose reservations count for a hand-off: FAB's pool 2 for what FAB sends (R551), else the hand-off's own return queue. -/
def Dev.backPool (d : Dev) (b : Blk) (j : Nat) : Blk × Nat :=
  match poolAt d.v b j with
  | some p => if p.cls = .mgt ∧ p.src = 1 then (.fab, 2) else (b, j)
  | none => (b, j)

/-- Reserve a response slot of a hand-off, or release one (R39). -/
def Dev.backTake (d : Dev) (b : Blk) (j : Nat) : Dev :=
  let (b', j') := d.backPool b j
  d.setPool b' j' { d.pool b' j' with reserved := (d.pool b' j').reserved + 1 }
def Dev.backDrop (d : Dev) (b : Blk) (j : Nat) : Dev :=
  let (b', j') := d.backPool b j
  d.setPool b' j' { d.pool b' j' with reserved := (d.pool b' j').reserved - 1 }

/-- Whether a forward token of pool j may go (R16, R39, R40): it has a credit of its pool; DATA that travels with it is of class DATA, it a CMD, and DATA has a
credit too; a response that it will provoke has a free slot at the requester, and is of a class the token may wait on. -/
def Dev.forwardOk (d : Dev) (b : Blk) (j : Nat) (data : Option (Fin 32 × Bytes)) (rsp : Bool) : Bool :=
  match poolAt d.v b j with
  | none => false
  | some p =>
    d.canSend b j &&
      (match data with
        | none => true
        | some (jd, _) => match poolAt d.v b jd with
          | some q => mayWait p.cls q.cls && q.cls == .data && d.canSend b jd
          | none => false) &&
      (!rsp || (decide (p.cls = .cmd ∨ p.cls = .mgt) && d.backFree b j))

/-- TOKEN_SEND (R16): a token goes with one credit. A CMD that carries DATA goes only with credits for both; a CMD that will provoke an RSP
goes only while a response slot can be reserved (R39). With `back` the token is the response of hand-off (b, j): it goes to the requester into a slot
reserved for it, so it needs no credit. (DESIGN CHOICE, log entry 12) -/
def execTokenSend (b : Blk) (j : Fin 32) (payload : Bytes) (data : Option (Fin 32 × Bytes)) (rsp back : Bool) (s : State) : Out :=
  s.does fun d =>
    if back then
      let p := d.pool b j
      if p.back.length < (d.pool (d.backPool b j).1 (d.backPool b j).2).reserved then d.setPool b j { p with back := p.back ++ [mkToken .rsp payload] } else d
    else if d.forwardOk b j data rsp then
      let d := d.sendTo b j payload
      let d := match data with | some (jd, x) => d.sendTo b jd x | none => d
      if rsp then d.backTake b j else d
    else d

/-- Flip one payload bit of a token (a fault of the lane). -/
def Token.flip (t : Token) (i : Nat) : Token := { t with payload := t.payload.modify (i / 8) (· ^^^ BitVec.ofNat 8 (2 ^ (i % 8))) }

/-- The token as a stage receives it: with the bit that the lane has flipped, if any. -/
def Token.seen (t : Token) (flip : Option Nat) : Token := match flip with | some i => t.flip i | none => t

/-- TOKEN_ACCEPT (R37): the consumer takes the first token of pool j, or with `back` the requester the first response of hand-off (b, j), whose reservation
is released (R39), and checks its byte parity before it acknowledges; a bad parity is a
detected fault of class 0x01 (R54). A fenced pool accepts nothing (R52). `flip` is a bit the lane has flipped, `sram` the outcome of the
SRAM read where the queue's storage is one (R246). (DEDUCED, log entry 11) -/
def execTokenAccept (b : Blk) (j : Fin 32) (back : Bool) (flip : Option Nat) (sram : SramBits) (s : State) : Out :=
  s.does fun d =>
    if back then
      match (d.pool b j).back with
      | [] => d
      | t :: r =>
        let d := (d.setPool b j { d.pool b j with back := r }).backDrop b j
        let d := if (t.seen flip).good then d else d.fault b 1 0 j
        d.sram b 0 (sramRead sram)
    else match (d.pool b j).queue with
    | [] => d
    | t :: _ =>
      if d.flag (fFENCED b j) then d
      else
        let d := d.setPool b j (d.pool b j).take
        let d := if (t.seen flip).good then d else d.fault b 1 0 j
        d.sram b 0 (sramRead sram)

/-- A block takes the first token of its pool j and frees the slot: the payload as received, its byte parity checked before it is acknowledged (R37); none
where nothing waits or the pool is fenced (R52). `flip` is a bit that the lane has flipped. -/
def Dev.acceptFrom (d : Dev) (b : Blk) (j : Nat) (flip : Option Nat) : Option (Bytes × Dev) :=
  match (d.pool b j).queue with
  | [] => none
  | t :: _ =>
    if d.flag (fFENCED b j) then none
    else
      let d := (d.setPool b j (d.pool b j).take).freeSlot b j
      some ((t.seen flip).payload, if (t.seen flip).good then d else d.fault b 1 0 j)

/-- CREDIT_RETURN (R38): a slot is freed and its credit returned. -/
def execCreditReturn (b : Blk) (j : Fin 32) (s : State) : Out := s.does fun d => d.freeSlot b j

/-- EVENT_OFFER (R42): a block raises an event. -/
def execEventOffer (b : Blk) (n : Byte) (p1 p2 p3 : Word) (s : State) : Out :=
  s.does fun d => d.event b n.toNat p1.toNat p2.toNat p3.toNat

/-- EVENT_CREDIT_REGAINED (R517): a block that lost events offers 0xFA first. -/
def execEventCreditRegained (b : Blk) (s : State) : Out := s.does fun d => d.reportLost b

/-- The stall bound of a detector, in ns (R52): the BOUND of the pool that feeds the stage; at the boundaries between a block's lanes the smallest among its
pools. -/
def Dev.stallBound (d : Dev) (b : Blk) (j : Nat) (lane : Bool) : Nat :=
  if lane then
    1000 * ((List.range 32).filterMap fun i => if (poolAt d.v b i).isSome then some (d.fld (fBOUND b i)) else none).foldl min 63
  else 1000 * d.fld (fBOUND b j)

/-- The host commands that have a token in pool j of a block, or wait on one, as far as the hand-off's items name them (R53): entries fetched by a CSQ,
completion entries, media orders, bursts of the DMA engines, sectors on their way through a channel, DEC or WRP, ring commands. -/
def Dev.cmdsIn (d : Dev) (b : Blk) (j : Nat) : List Tag :=
  let sector (nsid lba : Nat) : List Tag := (d.cmds.filter fun c => c.need.contains (secKey nsid lba)).map CmdRec.tag
  let burst (p : Burst → Bool) : List Tag := (d.dma.bursts.filter p).filterMap fun x =>
    ((d.dma.chans.get (fun _ => {}) x.ch).runs.find? fun r => decide (r.idx = x.idx)).bind fun r => r.desc.cmd.map Prod.fst
  let soft (l : List SoftBlock) : List Tag := l.flatMap fun x => sector x.ord.nsid (x.lba % 2 ^ 34)
  let orders (a : Nat) : List Tag := d.msq.orders.filterMap fun o => if o.a = a then o.cmd else none
  match b with
  | .seq =>
    if j < 4 then (d.cmds.filter fun c => decide (c.kind = .fetched ∧ c.tag.sq % 4 = j)).map CmdRec.tag
    else if j < 12 then d.msq.orders.filterMap fun o => if j = 4 + 2 * o.csq + o.a then o.cmd else none
    else if j < 14 then (d.msq.reports.filter fun r => decide (r.head / 10 = j - 12)).flatMap fun r => sector r.ord.nsid (r.lba % 2 ^ 34)
    else []
  | .hst => if j < 4 then [] else if j < 6 then burst fun x => x.sent && d.fld (F.DMA_C_CFG_ENGINE x.ch) == 0
      else burst fun x => !x.sent && d.fld (F.DMA_C_CFG_ENGINE x.ch) == 1
  | .buf => if j = 2 ∨ j = 3 then d.dec.writes.flatMap fun w => sector w.2.ord.nsid (w.2.lba % 2 ^ 34)
      else if j = 6 then burst fun x => !x.sent && d.fld (F.DMA_C_CFG_ENGINE x.ch) == 0
      else if j = 7 ∨ j = 8 then burst fun x => x.sent && d.fld (F.DMA_C_CFG_ENGINE x.ch) == 1 else []
  | .dec => soft (d.dec.flight.filter fun x => decide (x.head = j))
  | .ch n => if j = 0 then orders (n.val / 10) else []
  | .srv => if j < 2 then orders j else []
  | .wrp => if j < 20 then orders (j / 10) else []
  | .rng | .ece => if j = 1 then (d.cmds.filter fun c => decide (c.kind = .ring)).map CmdRec.tag else []
  | _ => []

/-- STALL_DETECTED (R52, R53): a stage has held a raised request without an acknowledge and without a token of its own since `since`. Once that has lasted for
the bound, the pool is fenced, the fault flagged and logged, and the sequencer that orders the block is signalled; the commands with a token in the pool, or
waiting on one, end with Internal Error: those that its items name, and those in `cmds`, whose microcode waits. `lane` tells a boundary inside the block from the queue's input. The fence stays until a device reset. (DESIGN CHOICE, log entry 71) -/
def execStallDetected (b : Blk) (j : Fin 32) (lane : Bool) (since : BitVec 64) (cmds : List Tag) (s : State) : Out :=
  s.does fun d =>
    match poolAt d.v b j with
    | none => d
    | some p =>
      if d.flag (fFENCED b j) ∨ d.now < since.toNat + d.stallBound b j lane then d
      else
        let hit := d.cmdsIn b j
        let d := d.setFld (fFENCED b j) 1
        let d := d.flagFault b 2 1
        let d := d.event b 0xF8 j (d.fld (fBOUND b j)) (clsCode p.cls)
        let d := { d with seq := { d.seq with stalls := d.seq.stalls ++ [poolKey b j] } }
        (hit ++ cmds).foldl (fun (d : Dev) t => d.failFenced t) d

/-- Byte parity of a control-space value (R37). -/
def wordParity (w : Word) : List Bool := (leBytes 4 w.toNat).map byteParity

/-- REGISTER_PARITY_SWEEP (R55): every register's parity is re-checked; `bad` is a register of which a stored bit has flipped since its value was created:
it reads wrong from then on, and its parity no longer fits, a fault of class 0x06. (DEDUCED, log entry 11) -/
def execRegisterParitySweep (b : Blk) (bad : Option (Word × Fin 32)) (s : State) : Out :=
  s.does fun d => match bad with
    | none => d
    | some (a, i) =>
      let old := d.word a.toNat
      let new := old ^^^ (BitVec.ofNat 32 (2 ^ i.val) &&& ~~~ BitVec.ofNat 32 (accOf d.v a.toNat).res)
      if (locate a.toNat).map Prod.fst = some b ∧ wordParity new ≠ wordParity old then (d.setWord a.toNat new).fault b 6 5 a.toNat else d

/-- TBASE_DUP_MISMATCH (R26): set, counted and logged only while DUP_MISMATCH is 0. -/
def execTbaseDupMismatch (s : State) : Out :=
  s.does fun d =>
    if d.flag F.KNL_TBASE_STAT_DUP_MISMATCH then d else (d.setFld F.KNL_TBASE_STAT_DUP_MISMATCH 1).fault .knl 5 4 0

/-- TBASE_LO_READ (R28): the read captures the upper half into TBASE_HI. -/
def execTbaseLoRead (s : State) : Out := s.does fun d => d.readEffect 0x00200010

/-! ## Roll call -/

/-- Start a roll for the commands it serves (R59). -/
def Dev.startRoll (d : Dev) (serving : List Tag) : Dev :=
  let d := (d.setFld F.FAB_RC_STAT_BUSY 1).setFld F.FAB_RC_STAT_PENDING 0
  { d with roll := { d.roll with epoch := (d.fld F.FAB_RC_EPOCH_EPOCH + 1) % 2 ^ 32, start := d.now, visited := [], serving := serving, waiting := [] } }

/-- Request a roll (R59, R60): it starts if none runs, else it is marked PENDING; every request made while PENDING is served by that roll. -/
def Dev.requestRoll (d : Dev) (tags : List Tag) : Dev :=
  if d.flag F.FAB_RC_STAT_BUSY then
    let d := d.setFld F.FAB_RC_STAT_PENDING 1
    { d with roll := { d.roll with waiting := d.roll.waiting ++ tags } }
  else d.startRoll tags

/-- Whether FAB's arbiter may grant the HSQ's scheduled roll request: promoted, or no normal access waits in FAB's pools (R50). -/
def Dev.rollGrantable (d : Dev) : Bool :=
  (d.bg.any fun r => decide (r.kind = .roll) && r.promoted) || ((d.pool .fab 0).queue.isEmpty && (d.pool .fab 1).queue.isEmpty)

/-- Grant a waiting scheduled roll request if that may be. -/
def Dev.rollGrant (d : Dev) : Dev :=
  if (d.bg.any fun r => decide (r.kind = .roll)) && d.rollGrantable then (d.grantBg .roll).requestRoll [] else d

/-- BACKGROUND_PROMOTION (R50): a grant decision: requests raised at t are promoted from t + P on, each for one grant. A promoted roll request is granted here; those
of other kinds at their arbiter's next grant. -/
def execBackgroundPromotion (k : BgKind) (s : State) : Out :=
  s.does fun d =>
    let d := { d with bg := d.bg.map fun r => if r.kind = k ∧ r.raised + d.promoteNs k ≤ d.now then { r with promoted := true } else r }
    if k = .roll then d.rollGrant else d

/-- The banks that the token visits, in the order of the blocks (Table 1.1). (DESIGN CHOICE, log entry 13) -/
def banksOf (v : Bool) : List Blk := allBlks.filter fun b => hasBank b && !blkAbsent v b

/-- ROLL_CALL_REQUEST (R60): a write of START to FAB.RC_CTRL. -/
def execRollCallRequest (s : State) : Out := s.doesIn 1 fun d => d.requestRoll []

/-- The pool in which a block receives control-space accesses and the roll-call token from FAB (Table 1.2). -/
def mgtPool (b : Blk) : Nat := (poolList b).findIdx fun p => decide (p.cls = .mgt ∧ p.src = 1)

/-- FAB's reserved slot for the returning token (R551): taken before the token is first sent. -/
def Dev.rollSlot (d : Dev) : Dev :=
  if d.roll.slot then d
  else
    let p := d.pool .fab 2
    if p.reserved < d.fld (fCREDITS .fab 2) then
      { d.setPool .fab 2 { p with reserved := p.reserved + 1 } with roll := { d.roll with slot := true } }
    else d

/-- ROLL_TOKEN_AT_BANK (R58, R551): with a slot reserved for its return and a credit of the bank's MGT queue, the token reaches the next bank, which copies its
counters and its tag into shadow set E mod 2. The token visits the banks in one fixed order. (DESIGN CHOICE, log entry 13) -/
def execRollTokenAtBank (b : Blk) (s : State) : Out :=
  s.doesIn 1 fun d =>
    if d.flag F.FAB_RC_STAT_BUSY && ((banksOf d.v).find? fun x => !d.roll.visited.contains (blkKey x)) == some b && d.canSend b (mgtPool b) then
      let d := d.rollSlot
      if !d.roll.slot then d
      else
        let k := blkKey b
        let vals := (d.cnt.filter fun p => decide (p.1 / 64 = k)).map fun p => (p.1 % 64, p.2)
        let sh : Shadow := { epoch := d.roll.epoch, stamp := d.now, vals := vals }
        { d with shadows := d.shadows.set (fun _ => {}) (2 * k + d.roll.epoch % 2) sh, roll := { d.roll with visited := d.roll.visited ++ [k] } }
    else d

/-- The token is back in its reserved slot, and FAB consumes it. -/
def Dev.rollBack (d : Dev) : Dev :=
  if d.roll.slot then
    { d.setPool .fab 2 { d.pool .fab 2 with reserved := (d.pool .fab 2).reserved - 1 } with roll := { d.roll with slot := false } }
  else d

/-- ROLL_CALL_COMPLETE (R59 to R61): the token is back after the last bank: RC_EPOCH takes the new epoch, BUSY falls, the commands served end
with the epoch in Dword 0, and a pending roll starts. -/
def execRollCallComplete (s : State) : Out :=
  s.doesIn 1 fun d =>
    if d.flag F.FAB_RC_STAT_BUSY && (banksOf d.v).all fun b => d.roll.visited.contains (blkKey b) then
      let e := d.roll.epoch
      let done := d.roll.serving
      let d := (((d.rollBack).setFld F.FAB_RC_EPOCH_EPOCH e).setFld F.FAB_RC_STAT_BUSY 0).setFld F.FAB_RC_STAT_DUR_NS
        (min ((d.now - d.roll.start) / 4) 65535)
      let d := done.foldl (fun d t => d.finish t stOk e) d
      if d.flag F.FAB_RC_STAT_PENDING then d.startRoll d.roll.waiting else { d with roll := { d.roll with serving := [], visited := [] } }
    else d

/-- ROLL_PERIOD_DUE (R58): PERIOD_MS after the last scheduled roll the HSQ requests one, as background work that waits at FAB's arbiter until it is granted
(R50). -/
def execRollPeriodDue (s : State) : Out :=
  s.doesIn 1 fun d =>
    let p := d.fld F.FAB_RC_PERIOD_PERIOD_MS * 1000000
    if p ≠ 0 ∧ d.roll.due + p ≤ d.now then
      (({ d with roll := { d.roll with due := d.now } }).raiseBg .roll).rollGrant
    else d

/-- ROLL_CALL_CMD (R61): the Roll Call command requests a roll and ends when the roll serving it has completed. -/
def execRollCallCmd (t : Tag) (s : State) : Out :=
  s.doesIn 1 fun d => d.host t false fun d =>
    (d.putCmd { tag := t, kind := .rollCall, committed := true, started := d.now }).requestRoll [t]

end Sys2Proof.Machine
end

