-- ==== Sys2Proof/Machine/Channel.lean ====
section
/-! DEFINITION. Machine/Channel.lean: the commands of the channel blocks CH0 to CH19 (chapter Read Channel and Decoder Pool). -/
namespace Sys2Proof.Machine

/-- The VCM loop of a head's actuator is in servo mode LOAD (R68). -/
def Dev.inLoad (d : Dev) (n : Nat) : Bool := d.fld (F.SRV_LSTAT_MODE (actOf n)) == 1

/-- WEDGE_DEMODULATED (R66 to R68, R156): a SAM is found, in the search window where there is one; the wedge's token goes to SRV. In servo mode
LOAD the search has no window. (DEDUCED, log entry 17) -/
def execWedgeDemodulated (n : Fin 20) (w : WedgeRaw) (s : State) : Out :=
  s.doesIn 2 fun d =>
    let c := d.chan n
    let sam := if d.inLoad n then { c.sam with window := false } else c.sam
    if !d.hasCh n || !samFound w.sam.toNat || (sam.window && !sam.inWindow d.now) then d
    else
      let d := (d.setChan n { c with sam := { sam.found1 d.now with wedge := (pairBits 11 w.number.toNat).1 % 1024 } }).bump (chBlk n) 9
      if d.canSend .srv (2 + n) then d.sendTo .srv (2 + n) (d.wedgeToken n d.now w) else d

/-- SAM_WINDOW_MISS (R68): the window closes without a SAM; a SAM_MISS token with the predicted time goes to SRV. In servo mode LOAD there is no window to close. -/
def execSamWindowMiss (n : Fin 20) (s : State) : Out :=
  s.doesIn 2 fun d =>
    let c := d.chan n
    if !d.hasCh n || !c.sam.window || d.inLoad n || decide (50 * d.now < 50 * c.sam.next + c.sam.period) then d
    else
      let t := c.sam.next
      let d := (d.setChan n { c with sam := { c.sam.missed with wedge := (c.sam.wedge + 1) % max 1 (d.wedgesOf (actOf n)) } }).bump (chBlk n) 10
      if d.canSend .srv (2 + n) then d.sendTo .srv (2 + n) (missToken n t) else d

/-- An order of MSQa (R89, R110, R132). With the arm link failed it is answered at once with ALINK_LOST. With no usable reader it is answered at once with LANE_FAULT and event 0x0304. -/
def Dev.readOrder (d : Dev) (n : Nat) (o : RunOrder) : Dev :=
    let c := d.chan n
    if !d.hasCh n || decide (d.fld (fCREDITS (chBlk n) 0) ≤ c.orders.length) then d
    else if (d.fld F.WRP_STAT_AL_FAIL).testBit (actOf n) then
      (d.runReport { tag := o.tag, head := n, sent := 0, slipped := 0, firstSlip := 0xFFFF, flags := 16 }).readsLost n o 0
    else
      let (a, b) := d.readers n o
      if !(a || b) then d.laneFault n o
      else (d.setChan n { c with orders := c.orders ++ [(o, d.now)] }).startRun n

/-- SECTOR_RUN_ORDER (R89, R110, R132, R140): MSQa orders the read run of head n whose heater notice has been answered first, from track-buffer slot `tbuf` on, when it has a
credit of the channel. -/
def execSectorRunOrder (n : Fin 20) (tbuf : BitVec 16) (s : State) : Out :=
  s.doesIn 2 fun d =>
    match d.msq.runs.find? fun r => r.notice && r.head == n.val with
    | none => d
    | some r =>
      if d.fld (fCREDITS (chBlk n) 0) ≤ (d.chan n).orders.length then d
      else ({ d with msq := { d.msq with runs := d.msq.runs.erase r } }).readOrder n { r.ord with tbufFirst := tbuf.toNat % max r.ord.tbufSize 1 }

/-- Count a slip (R31, R111). -/
def Dev.slip (d : Dev) (n : Nat) (r : RunS) : Dev :=
  (d.setRun n { r with next := r.next + 1, slipped := r.slipped + 1, firstSlip := some (r.firstSlip.getD r.next) }).bump .seq
    (35 + actOf n)

/-- Framing counters of a sector. -/
def Dev.countFrame (d : Dev) (n : Nat) (f : Framing) : Dev :=
  let b := chBlk n
  let d := if f.psmMiss then d.bump b 1 else d
  let d := if f.ssmMiss then d.bump b 2 else d
  let d := if f.reframe ≠ 0 then d.bump b 3 else d
  let d := if f.noFrame then d.bump b 4 else d
  if f.rsmMiss = 0 then d else d.bump b 5 f.rsmMiss

/-- The framing of a sector by what the detector sees at its marks, asperities apart (R103 to R109). -/
def Dev.frameSector (d : Dev) (n : Nat) (o : RunOrder) (i : Nat) (v : SectorView) (asp : List (Nat × Nat × Nat)) : Framing :=
  frameOf v (d.sectorSplits n o i) asp o.ssmOnly (d.fld (F.CH_SYNC_PSM_WIN n)) (d.fld (F.CH_SYNC_PSM_THR n)) (d.fld (F.CH_SYNC_SSM_THR n))
    (d.fld (F.CH_SYNC_RSM_THR n)) (d.fld (F.CH_SYNC_SSM_WIN n))

/-- SECTOR_START (R31, R73, R79, R103 to R108, R111, R232): behind the wedge after which the run's next sector begins, with the order accepted 2 µs before, a DEC credit, a free slot
and the governor's grant (R483, R494), the sector is read, its slot becomes busy, its preamble is acquired and its marks are searched; else it slips. A run whose readers have been switched
off ends with LANE_FAULT (R89). (DEDUCED, log entry 17; DESIGN CHOICE, log entry 72) -/
def execSectorStart (n : Fin 20) (v : SectorView) (s : State) : Out :=
  s.doesIn 2 fun d =>
    match (d.chan n).run with
    | none => d
    | some r =>
      if r.cur.isSome || decide (r.ord.count ≤ r.next) || !d.atSector n r.ord r.next 0 then d
      else
        let a := actOf n
        let k := runSlot r.ord r.next
        let (ua, ub) := d.readers n r.ord
        if !(ua || ub) then ((d.readsLost n r.ord r.next).event (chBlk n) 0x04 r.ord.tag r.ord.reader).endRun n r 8
        else if decide (d.now < r.accepted + 2000) || !d.canSend .dec n || d.tbufSize a == 0 || d.slotBusy a k || !d.granted n false then d.slip n r
        else
          let d := (d.setSlotBusy a k true).setFld (F.CH_STAT_PLL_LOCK n) 1
          d.setRun n { r with cur := some { index := r.next, tbuf := k, view := v, frame := d.frameSector n r.ord r.next v [] } }

/-- THERMAL_ASPERITY (R109): a run of `len` bits from bit `first` of the sector's present part on whose baseline departs by `depart` ADC LSB; with TA_EN, if it
qualifies, the bits from 16 before it to TA_TAIL after it are erased, and a mark within it is not found. -/
def execThermalAsperity (n : Fin 20) (first len depart : Nat) (s : State) : Out :=
  s.doesIn 2 fun d =>
    match (d.chan n).run with
    | none => d
    | some r => match r.cur with
      | none => d
      | some c =>
        if d.flag (F.CH_CTRL_TA_EN n) && decide (d.fld (F.CH_TA_TA_MIN n) ≤ len ∧ d.fld (F.CH_TA_TA_THR n) < depart) then
          let k := c.soft.length - 1
          let asp := c.asper ++ [(k, first, first + len)]
          (d.setRun n { r with cur := some { c with erase := c.erase ++ [(k, first - 16, first + len + d.fld (F.CH_TA_TA_TAIL n))], asper := asp
                                                    frame := d.frameSector n r.ord c.index c.view asp } }).bump (chBlk n) 6
        else d

/-- The codeword bit at bit `pos` of part k of a sector. -/
def codeBitAt (f : Framing) (splits : List Nat) (k pos : Nat) : Nat :=
  match k with
  | 0 => let i := ((pos : Int) - 128 - f.base).toNat
         if 544 ≤ i then i - 32 else min i 512
  | k + 1 => splits.getD k 0 + ((pos : Int) - 160 - f.marks.getD k 0).toNat

/-- Timing recovery has lost its lock at bit `pos` of the sector's present part (R93): the bits up to the next mark are erased, event 0x0303. -/
def Dev.lockFalls (d : Dev) (n : Nat) (r : RunS) (c : SectorS) (pos : Nat) : Dev :=
  let k := c.soft.length - 1
  let ssm := (c.frame.base + 640).toNat
  let hi := if k = 0 ∧ ¬ c.frame.ssmMiss ∧ pos < ssm then ssm else 0x100000
  let d := d.setRun n { r with cur := some { c with erase := c.erase ++ [(k, pos, hi)] }, pllLost := true }
  (d.setFld (F.CH_STAT_PLL_LOCK n) 0).event (chBlk n) 0x03 r.ord.tag c.index (codeBitAt c.frame (d.sectorSplits n r.ord c.index) k pos)

/-- PLL_LOCK_LOST (R93): over 256 consecutive bits the phase error, at least |`phase`| / 1,024 channel bit, has exceeded a quarter of a channel bit. -/
def execPllLockLost (n : Fin 20) (pos : Nat) (phase : Int) (s : State) : Out :=
  s.doesIn 2 fun d =>
    match (d.chan n).run with
    | none => d
    | some r => match r.cur with
      | none => d
      | some c => if 256 < phase.natAbs then d.lockFalls n r c pos else d

/-- XTAL_LOST (R27): no crystal edge in 1 µs. TBASE goes on from the internal oscillator; the islands lose their reference, and each channel reports loss of lock (R93). (DESIGN CHOICE, log entry 5) -/
def execXtalLost (s : State) : Out :=
  s.does fun d =>
    if d.flag F.KNL_TBASE_STAT_XTAL_LOST then d
    else
      let d := ((d.setFld F.KNL_TBASE_STAT_XTAL_LOST 1).setFld F.KNL_TBASE_STAT_RUNNING 0).event .knl 0x01
      let d : Dev := { d with pwr := { d.pwr with xtal := false } }
      (List.range 20).foldl (fun (d : Dev) n =>
        if !d.hasCh n || !d.flag (F.CH_STAT_PLL_LOCK n) then d
        else match (d.chan n).run with
          | some r => match r.cur with
            | some c => d.lockFalls n r c (c.soft.getLastD []).length
            | none => d.setFld (F.CH_STAT_PLL_LOCK n) 0
          | none => d.setFld (F.CH_STAT_PLL_LOCK n) 0) d

/-- The taps of an unused reader are held at zero (R89). -/
def Dev.zeroUnused (d : Dev) (n : Nat) (useA useB : Bool) : Dev :=
  (List.range 32).foldl (fun (d : Dev) t => if (if t < 16 then useA else useB) then d else d.setTap n t 0) d

/-- The phase predicted from the last SAM stamp, in 2^-23 channel bit (R93). -/
def Dev.phaseNow (d : Dev) (n : Nat) (rate : Nat × Nat) : Int :=
  (((d.now - (d.chan n).sam.last) * rate.1 % max 1 rate.2) * 2 ^ 23 / max 1 rate.2 : Nat)

/-- The loops' update at the end of a block (R96). -/
def Dev.loopsUpdate (d : Dev) (n : Nat) (r : RunS) (o : BlockOut) (a b : Int → Int) (useA useB pre : Bool) : Dev :=
  let g := blockGrads o a b
  let d := valueLoops.foldl (fun (d : Dev) k => d.loopUpdate n r k (g.getD k (0, 1)).1 (g.getD k (0, 1)).2 pre) d
  d.tapsUpdate n r (tapGrads o a b) useA useB pre

/-- LOOP_UPDATE_BLOCK (R87, R90, R91, R96 to R98): 64 channel bits of the sector have passed. `a` and `b` are the lanes' samples from 25 bits before the block to 8 after it; `resync`
says that the block begins the remainder behind a wedge. The equaliser and the detector give the block's soft values, and every loop applies one update by its gradient over
the bits that contribute, unless the sector is framed nominally or the run holds the image seeds. On a preamble the phase is acquired anew. -/
def execLoopUpdateBlock (n : Fin 20) (a b : List Int) (resync : Bool) (s : State) : Out :=
  s.doesIn 2 fun d =>
    match (d.chan n).run with
    | none => d
    | some r => match r.cur with
      | none => d
      | some c =>
        if resync && decide ((d.sectorSplits n r.ord c.index).length < c.soft.length) then d
        else
          let c := if resync then { c with soft := c.soft ++ [[]], alpha := [0, 0, 0, 0], lastY := 0 } else c
          let k := c.soft.length - 1
          let prev := c.soft.getLastD []
          let r := if prev = [] then { r with phase := d.phaseNow n r.rate } else r
          let (ua, ub) := d.readers n r.ord
          let d := (if prev = [] then d.setFld (F.CH_STAT_PLL_LOCK n) 1 else d).zeroUnused n ua ub
          let sa := sampleAt a
          let sb := delayedAt r.live.delay b
          let ys := (List.range 64).map fun i => equalise (d.loopsNow n).taps sa sb i
          let ok (i : Nat) (x : Int) : Bool := !c.frame.noFrame && decide (d.fld (F.CH_GUARD_CONF n) ≤ x.natAbs) &&
            !(c.erase.any fun p => decide (p.1 = k ∧ p.2.1 ≤ prev.length + i ∧ prev.length + i < p.2.2))
          let o := detectBlock r.live.g1 r.live.g2 ys prev c.alpha c.lastY ok
          let c := { c with soft := c.soft.take k ++ [prev ++ o.soft], alpha := o.alpha, lastY := o.lastY
                            errSum := c.errSum + (errSum o.errs fun x => x.2.1 * x.2.1).toNat, errN := c.errN + o.errs.length }
          let r := { r with cur := some c, phase := r.phase + o.phase * 2 ^ (15 - d.fld (F.CH_LCTL_ACQ_STEP n 7)) }
          let d := d.setRun n r
          if c.frame.noFrame || r.ord.freezeImg || r.frozen then d
          else d.loopsUpdate n r o sa sb ua ub (decide (prev.length < 128))

/-- The runaway guard at a sector's end (R99): a revert to the live seeds, and at the REVERT_MAX-th the freeze at the image seeds. A run with FREEZE_IMG keeps its
loops at the image seeds (Table 4.9). (DESIGN CHOICE, log entry 18) -/
def Dev.guardLoops (d : Dev) (n : Nat) (r : RunS) (mse clamps : Nat) : Dev :=
  if r.frozen then d.setRun n r
  else if mse ≤ d.fld (F.CH_GUARD_MSE_LIM n) ∧ clamps = 0 then d.setRun n { r with cons := 0 }
  else if r.cons + 1 < d.fld (F.CH_GUARD_NCONS n) then d.setRun n { r with cons := r.cons + 1 }
  else
    let (ua, ub) := d.readers n r.ord
    let d := ((d.putLoops n (if r.ord.freezeImg then r.img else r.live) ua ub).incSat (F.CH_STAT_REVERTS n) 1).bump (chBlk n) 7
    let d := (d.setRun n { r with cons := 0, reverted := true }).event (chBlk n) 0x01 r.ord.tag clamps mse
    if d.fld (F.CH_STAT_REVERTS n) < d.fld (F.CH_GUARD_REVERT_MAX n) then d
    else
      let d := (d.putLoops n r.img ua ub).setFld (F.CH_STAT_FROZEN n) 1
      (d.setRun n { r with cons := 0, reverted := true, frozen := true }).event (chBlk n) 0x02 r.ord.tag (d.fld (F.CH_STAT_REVERTS n))

/-- The soft-value block of a sector that has passed (R104 to R109, R112). -/
def Dev.blockOf (d : Dev) (n : Nat) (r : RunS) (c : SectorS) : SoftBlock :=
  let (vs, extra) := framedVals (c.soft.mapIdx fun k l => softErased c.erase k l) c.frame (d.sectorSplits n r.ord c.index)
  { ord := r.ord, index := c.index, head := n, frame := c.frame, lba := runLba r.ord.lba r.ord.w c.index
    erased := (vs.filter (· == 0)).length, mse := mseOf c.errSum c.errN, tbuf := c.tbuf, vals := vs
    extra := if r.ord.ext && decide (0 < c.frame.span) then extra else [] }

/-- SOFT_BLOCK_SEND (R112): the sector has passed with all its parts; its framed soft values go to DEC with a credit, its framing is counted; then the
runaway guard looks at the sector (R99). (DEDUCED, log entry 17) -/
def execSoftBlockSend (n : Fin 20) (s : State) : Out :=
  s.doesIn 2 fun d =>
    match (d.chan n).run with
    | none => d
    | some r => match r.cur with
      | none => d
      | some c =>
        if !d.canSend .dec n || decide (c.soft.length ≤ (d.sectorSplits n r.ord c.index).length) then d
        else
          let b := d.blockOf n r c
          let d := ((d.sendTo .dec n (blockBytes b)).bump (chBlk n) 0).countFrame n c.frame
          let d := { d with dec := { d.dec with flight := d.dec.flight ++ [b] } }
          let d := d.guardLoops n { r with cur := none, next := r.next + 1, sent := r.sent + 1 } b.mse (d.atClamp n r)
          match (d.chan n).run with
          | some r => if r.lost then d.endRun n r 16 else d
          | none => d

/-- CH_RUN_END (R100, R113): every sector of the run has passed; the report goes to MSQa, and clean runs are learned. -/
def execChRunEnd (n : Fin 20) (s : State) : Out :=
  s.doesIn 2 fun d =>
    match (d.chan n).run with
    | none => d
    | some r => if r.cur.isNone && decide (r.ord.count ≤ r.next) then d.endRun n r 0 else d

end Sys2Proof.Machine
end

