-- ==== Sys2Proof/Machine/Flash.lean ====
section
/-! DEFINITION. Machine/Flash.lean: the flash operations (chapter In-Package Flash Array). -/
namespace Sys2Proof.Machine

/-- FLC.OPs_ADDR.WORD of a slot. -/
def Dev.opWord (d : Dev) (s : Fin 9) : Nat := d.fld (F.FLC_OP_ADDR_WORD s)

/-- A READ (R441, R444) of the slot's word; it waits while its bank programs or erases. `flips` are bits that read wrongly. -/
def Dev.flashRead (d : Dev) (s : Fin 9) (flips : List Nat) : Dev :=
  let w := d.opWord s
  let k := bankOfSector (sectorOf w)
  if d.flag (F.FLC_OP_STAT_BUSY s) then d.flashBusy s w 0
  else if !d.flag F.FLC_STAT_READY then d.flashRefuse s fsNotReady w 0
  else if (d.bank k).run.isSome && (d.bank k).susp == .none then
    (d.setBank k { d.bank k with reads := (d.bank k).reads ++ [(s.val, w)] }).setFld (F.FLC_OP_STAT_BUSY s) 1
  else d.serveRead s w flips

/-- FLASH_READ (R441, R444). -/
def execFlashRead (s : Fin 9) (flips : List Nat) (st : State) : Out := st.doesIn 1 fun d => d.flashRead s flips

/-- The refusal of a PROGRAM or an ERASE, in the order of the checks (R443, R448, R451, R454, R457, R458). (DESIGN CHOICE, log entry 47) -/
def Dev.writeRefusal (d : Dev) (s : Fin 9) (sector : Nat) (erase : Bool) : Option Nat :=
  let k := bankOfSector sector
  let x := sector % 512
  if !d.flag F.FLC_STAT_READY then some fsNotReady
  else if s.val = 8 ∨ x ≤ 1 ∨ 436 ≤ x then some fsProtected
  else if d.flag F.FLC_STAT_FAILED then some fsDieFailed
  else if d.flag F.FLC_STAT_EXEC && (erase || d.fld F.FLC_STAT_EXEC_BANK = k) then some fsExecBank
  else if (d.xoRegion sector).isSome then some fsExecOnly
  else if (d.bank k).suspended || (erase && (d.bank (1 - k)).suspended) then some fsBankSuspended
  else none

/-- A PROGRAM (R446): checks, then the blank check and program pulses; the word is taken from the slot's data registers. -/
def Dev.flashProgram (d : Dev) (s : Fin 9) : Dev :=
  let w := d.opWord s
  if d.flag (F.FLC_OP_STAT_BUSY s) then d.flashBusy s w 1
  else match d.writeRefusal s (sectorOf w) false with
    | some r => d.flashRefuse s r w 1
    | none =>
      let d := d.setFld (F.FLC_OP_STAT_BUSY s) 1
      d.queueOp { slot := s, erase := false, at_ := w, data := d.slotBytes s }

/-- FLASH_PROGRAM (R446). -/
def execFlashProgram (s : Fin 9) (st : State) : Out := st.doesIn 1 fun d => d.flashProgram s

/-- An ERASE (R447): checks, then the INTENT record and erase pulses on the slot's sector. -/
def Dev.flashErase (d : Dev) (s : Fin 9) : Dev :=
  let w := d.opWord s
  if d.flag (F.FLC_OP_STAT_BUSY s) then d.flashBusy s w 2
  else match d.writeRefusal s (sectorOf w) true with
    | some r => d.flashRefuse s r w 2
    | none =>
      let d := d.setFld (F.FLC_OP_STAT_BUSY s) 1
      d.queueOp { slot := s, erase := true, at_ := sectorOf w }

/-- FLASH_ERASE (R447). -/
def execFlashErase (s : Fin 9) (st : State) : Out := st.doesIn 1 fun d => d.flashErase s

/-- A SUSPEND (R451): stops the erase of the slot's bank, 1 ms after its start or last resume at the earliest. A suspension FLC made by
itself becomes the slot's (R452). (DESIGN CHOICE, log entry 47) -/
def Dev.flashSuspend (d : Dev) (s : Fin 9) : Dev :=
  let w := d.opWord s
  let k := bankOfSector (sectorOf w)
  let b := d.bank k
  if d.flag (F.FLC_OP_STAT_BUSY s) then d.flashBusy s w 3
  else if !d.flag F.FLC_STAT_READY then d.flashRefuse s fsNotReady w 3
  else if s.val = 8 then d.flashRefuse s fsProtected w 3
  else if d.flag F.FLC_STAT_EXEC && d.fld F.FLC_STAT_EXEC_BANK = k then d.flashRefuse s fsExecBank w 3
  else match b.run with
    | some o =>
      if !o.erase || b.susp == .slot then d.flashRefuse s fsNoErase w 3
      else if b.susp == .none && decide (d.now < o.since + 1000000) then d.flashRefuse s fsSuspEarly w 3
      else (((d.setBank k { b with susp := .slot }).slotEnd s fsOK 0).bump .flc 7).serveWaiting k |>.flcStat
    | none => d.flashRefuse s fsNoErase w 3

/-- FLASH_SUSPEND (R451). -/
def execFlashSuspend (s : Fin 9) (st : State) : Out := st.doesIn 1 fun d => d.flashSuspend s

/-- A RESUME (R451): restarts a suspended erase with a verify. (DESIGN CHOICE, log entry 47) -/
def Dev.flashResume (d : Dev) (s : Fin 9) : Dev :=
  let w := d.opWord s
  let k := bankOfSector (sectorOf w)
  let b := d.bank k
  if d.flag (F.FLC_OP_STAT_BUSY s) then d.flashBusy s w 4
  else if !d.flag F.FLC_STAT_READY then d.flashRefuse s fsNotReady w 4
  else if s.val = 8 then d.flashRefuse s fsProtected w 4
  else if d.flag F.FLC_STAT_EXEC && d.fld F.FLC_STAT_EXEC_BANK = k then d.flashRefuse s fsExecBank w 4
  else match b.run with
    | some o =>
      if b.susp == .slot then
        ((d.setBank k { b with run := some { o with since := d.now }, susp := .none }).slotEnd s fsOK 0).flcStat
      else d.flashRefuse s fsNoErase w 4
    | none => d.flashRefuse s fsNoErase w 4

/-- FLASH_RESUME (R451). -/
def execFlashResume (s : Fin 9) (st : State) : Out := st.doesIn 1 fun d => d.flashResume s

/-- A GO with a reserved OP (5 to 7). -/
def Dev.flashBadOp (d : Dev) (s : Fin 9) (op : Fin 3) : Dev :=
  let w := d.opWord s
  if d.flag (F.FLC_OP_STAT_BUSY s) then d.flashBusy s w (5 + op)
  else if !d.flag F.FLC_STAT_READY then d.flashRefuse s fsNotReady w (5 + op)
  else if s.val = 8 then d.flashRefuse s fsProtected w (5 + op)
  else d.flashRefuse s fsBadOp w (5 + op)

/-- FLASH_BAD_OP (R445). -/
def execFlashBadOp (s : Fin 9) (op : Fin 3) (st : State) : Out := st.doesIn 1 fun d => d.flashBadOp s op

/-- The pulse limit is reached (R448): the die is declared failed. -/
def Dev.pulseLimit (d : Dev) (k : Nat) (o : FOp) (inj : Bool) : Dev :=
  let op := if o.erase then 2 else 1
  let word := if o.erase then o.at_ * 2048 else o.at_
  ((d.setFld F.FLC_STAT_FAILED 1).event .flc 0x05 op word (o.pulses + injBit inj) (fsrc o.slot)).endOp k o fsPulseLimit

/-- FLASH_PROGRAM_VERIFY (R446): a pulse and its verify end. `same` tells whether all 34 bytes match; FLC.INJECT of KIND 2 fails every verify
of the next PROGRAM. After the eighth pulse the die is failed (R448). -/
def execFlashProgramVerify (k : Fin 2) (same : Bool) (st : State) : Out :=
  st.doesIn 1 fun d =>
    match (d.bank k).run with
    | none => d
    | some o =>
      if o.erase then d
      else
        let inj := d.flag F.FLC_INJECT_ARM && d.fld F.FLC_INJECT_KIND = 2
        let o := { o with pulses := o.pulses + 1 }
        let d := d.bump .flc 4
        if same && !inj then (d.setFword o.at_ (.prog o.data)).endOp k o fsOK
        else
          let d := d.setFword o.at_ .torn
          if 8 ≤ o.pulses then (if inj then d.setFlag F.FLC_INJECT_ARM false else d).pulseLimit k o inj
          else d.setBank k { d.bank k with run := some o }

/-- FLASH_ERASE_VERIFY (R447): an erase pulse and its verify end; at the first verify that passes a COMPLETE record is written. After the
fortieth pulse the die is failed and no COMPLETE is written (R448). -/
def execFlashEraseVerify (k : Fin 2) (blank : Bool) (st : State) : Out :=
  st.doesIn 1 fun d =>
    match (d.bank k).run with
    | none => d
    | some o =>
      if !o.erase || (d.bank k).susp != .none then d
      else
        let o := { o with pulses := o.pulses + 1 }
        let d := d.bump .flc 6
        if blank then
          (((d.eraseWords o.at_).intentWrite (1 - k) 2 o.at_ o.seq).endOp k o fsOK).intentRollover (1 - k)
        else if 40 ≤ o.pulses then d.pulseLimit k o false
        else d.setBank k { d.bank k with run := some o }

/-- FLASH_AUTO_SUSPEND (R452): with AUTO_SUSP, a READ that waits on an erasing bank suspends the erase as soon as R451 permits; every
waiting READ is served. -/
def execFlashAutoSuspend (k : Fin 2) (st : State) : Out :=
  st.doesIn 1 fun d =>
    let b := d.bank k
    match b.run with
    | some o =>
      if d.flag F.FLC_CTRL_AUTO_SUSP && o.erase && b.susp == .none && !b.reads.isEmpty && decide (o.since + 1000000 ≤ d.now) then
        ((d.setBank k { b with susp := .auto d.now }).serveWaiting k).bump .flc 8
      else d
    | none => d

/-- FLASH_AUTO_RESUME (R452): the erase resumes when no READ waits, or AUTO_MAX_US after the suspend. -/
def execFlashAutoResume (k : Fin 2) (st : State) : Out :=
  st.doesIn 1 fun d =>
    let b := d.bank k
    match b.run, b.susp with
    | some o, .auto t =>
      if b.reads.isEmpty || decide (t + 1000 * d.fld F.FLC_CTRL_AUTO_MAX_US ≤ d.now) then
        d.setBank k { b with run := some { o with since := d.now }, susp := .none }
      else d
    | _, _ => d

/-- FLASH_INTENT_SCAN (R454): at load every interrupted erase is redone, sectors of INTENT partitions first, each with event 0x1207; then
READY. -/
def execFlashIntentScan (st : State) : Out :=
  st.doesIn 1 fun d =>
    if d.flag F.FLC_STAT_READY then d
    else
      let (s0, w0) := d.intentPoint 0
      let (s1, w1) := d.intentPoint 1
      let top := d.intentRecords.foldl (fun m r => max m (r.2.2.1 + 1)) 0
      let todo := d.interrupted
      let d := { d with flc := { d.flc with isect0 := s0, iword0 := w0, isect1 := s1, iword1 := w1, intentSeq := top } }
      let d := todo.foldl (fun d r => ((d.eraseSector r.1).event .flc 0x07 r.1 r.2.1 (r.2.2 % 2 ^ 32) 0xFF).bump .flc 12) d
      d.setFld F.FLC_STAT_READY 1

/-- A write of START to FLC.EXEC (R458) opens an execution, or is refused while another is open or the region's bank programs, or
erases with no suspended erase, an automatic suspension counting as running (R452). The status of such a refusal is not stated. (DESIGN CHOICE, log entry 48) -/
def Dev.flashExecStart (d : Dev) (region : Fin 8) : Dev :=
  let first := d.fld (F.FLC_XO_FIRST region)
  let k := bankOfSector first
  let b := d.bank k
  if d.flag F.FLC_STAT_EXEC || b.programming || b.erasing then
    let (st, d) := d.drawNat
    (d.event .flc 0x04 st (first * 2048) 0 0xFF).bump .flc 9
  else
    let d := (d.setFld F.FLC_STAT_EXEC 1).setFld F.FLC_STAT_EXEC_BANK k
    { d with flc := { d.flc with region := some region.val } }

/-- FLASH_EXEC_START (R458). -/
def execFlashExecStart (region : Fin 8) (st : State) : Out := st.doesIn 1 fun d => d.flashExecStart region

/-- FLASH_EXEC_STOP (R458): a write of STOP ends the open execution. -/
def execFlashExecStop (st : State) : Out := st.doesIn 1 fun d => if d.flag F.FLC_STAT_EXEC then d.execEnd else d

/-- FLASH_EXEC_FETCH (R458): the calibration interpreter fetches a word of the open region; it goes to its decode stage only. -/
def execFlashExecFetch (word : Fin 2097152) (flips : List Nat) (st : State) : Out :=
  st.doesIn 1 fun d =>
    if d.flag F.FLC_STAT_EXEC && d.xoRegion (sectorOf word) == d.flc.region && d.flc.region.isSome then
      ((d.bump .flc 11).readFword 0xFF word flips).2
    else d

/-- FLC_INJECT_ARM (Table 15.6): a write to FLC.INJECT. -/
def execFlcInjectArm (v : Word) (who : Requester) (st : State) : Out := st.doesIn 1 fun d => (d.regWrite 0x09000060 v.toNat (reqCode who)).1

end Sys2Proof.Machine
end

