-- ==== Sys2Proof/Machine/NsOps.lean ====
section
/-! DEFINITION. Machine/NsOps.lean: namespaces, their layout, keys and deletion (R327 to R330, R351, R353). -/
namespace Sys2Proof.Machine

/-- Format tables of an actuator. -/
def Dev.fmt? (d : Dev) (a : Nat) : Option Format := if a = 0 then d.load.fmt0 else d.load.fmt1

/-- An actuator has its arm link and its actuator-link lane up (Tables 12.4 and 12.5). -/
def Dev.actuatorUp (d : Dev) (a : Nat) : Bool :=
  (d.fld F.WRP_STAT_AL_UP).testBit a && !(d.fld F.WRP_STAT_AL_FAIL).testBit a && (d.fld F.ACT_STAT_UP).testBit a && !(d.fld F.ACT_STAT_FAILED).testBit a

/-- An actuator's arm link or lane has failed. -/
def Dev.actuatorFailed (d : Dev) (a : Nat) : Bool := (d.fld F.WRP_STAT_AL_FAIL).testBit a || (d.fld F.ACT_STAT_FAILED).testBit a

/-- Width of a stripe by its code (Table 12.5). -/
def widthOf (c : Nat) : Nat := [1, 2, 5, 10].getD c 1

/-- Region of a Namespace Layout command (Table 12.5). -/
def regionOf (w10 w11 w12 : Nat) : Region :=
  { a := bitsAt w10 0 1, w := widthOf (bitsAt w10 1 2), g := bitsAt w10 4 4, s0 := w11, n := w12
    zs := if w10.testBit 8 then 262144 else 65536, enc := w10.testBit 9 }

/-- Two regions overlap against R81: one actuator, a head in common, a stripe track in common. -/
def regionsMeet (x y : Region) : Bool :=
  x.a == y.a && decide (x.g * x.w < (y.g + 1) * y.w ∧ y.g * y.w < (x.g + 1) * x.w) && decide (x.s0 < y.s0 + y.n ∧ y.s0 < x.s0 + x.n)

/-- Zones of a region on the loaded format (R82). -/
def Dev.zonesIn (d : Dev) (r : Region) : Nat := match d.fmt? r.a with | some f => zonesOf f r | none => 0

/-- The checks of Table 12.5, in its order. -/
def Dev.layoutCheck (d : Dev) (w10 : Nat) (r : Region) : Option Status :=
  if d.v && r.a == 1 then some stInvalidField
  else if !d.actuatorUp r.a then some (stOf 7 0xC4)
  else if w10.testBit 3 || decide (10 / r.w ≤ r.g) || decide (bitsAt w10 10 22 ≠ 0) then some stInvalidField
  else if r.n = 0 ∨ (match d.fmt? r.a with | some f => f.hdr.tracks | none => 0) < r.s0 + r.n ∨ d.zonesIn r = 0 then some stInvalidField
  else if d.zne.nss.any fun n => regionsMeet r n.reg then some (stOf 7 0xC5)
  else none

/-- Lowest free run of contexts that holds n (R328). -/
def Dev.freeContexts (d : Dev) (n : Nat) : Option Nat :=
  let starts := 0 :: d.zne.nss.map fun x => x.ctx + x.zones
  let ok (s : Nat) : Bool := decide (s + n ≤ 262144) && d.zne.nss.all fun x => decide (s + n ≤ x.ctx ∨ x.ctx + x.zones ≤ s)
  (starts.filter ok).foldl (fun m s => match m with | none => some s | some x => some (min x s)) none

/-- Every zone of a namespace is Empty under generation g, its journal record written. -/
def Dev.emptyZones (d : Dev) (n : Ns) (g ty : Nat) : Dev :=
  let d : Dev := (List.range n.zones).foldl (fun (d : Dev) z => d.setZctx (n.ctx + z) { nsx := nsxOf n.nsid, gen := g, stamp := d.now }) d
  d.jwrite { ty := ty, nsx := nsxOf n.nsid, ctx := n.ctx, gen := g, value := if ty = 1 then n.zones else 0 }

/-- A fresh key for a namespace: drawn, kept in SEC, stored wrapped (R351). (DESIGN CHOICE, log entry 40) -/
def Dev.drawKey (d : Dev) (x : Nat) : Dev :=
  let (k, d) := d.drawBytes 64
  { d with sec := { d.sec with keys := d.sec.keys.set (fun _ => none) x (some k), wrapped := d.sec.wrapped.set (fun _ => none) x (some (Config.wrap k)) } }

/-- A key is destroyed. (DESIGN CHOICE, log entry 40) -/
def Dev.dropKey (d : Dev) (x : Nat) : Dev :=
  { d with sec := { d.sec with keys := d.sec.keys.set (fun _ => none) x none, wrapped := d.sec.wrapped.set (fun _ => none) x none } }

/-- The namespace attribute of a namespace has changed for a controller: the Changed Namespace List and, if enabled, its notice. (DESIGN CHOICE, log entry 39) -/
def Dev.nsChanged (d : Dev) (c : Fin 2) (nsid : Nat) : Dev :=
  let d := d.modCtrl c fun x => if x.changed.contains nsid then x else { x with changed := x.changed ++ [nsid] }
  if (d.ctrl c).asyncCfg.testBit 8 && (d.ctrl c).rdy then d.raiseAen c ⟨2, 0, 4⟩ else d

/-- The granules of cached sectors are cleared (R231, R330). (DESIGN CHOICE, log entry 44) -/
def Dev.clearGranules (d : Dev) (gs : List Nat) : Dev :=
  { d with buf := { d.buf with valid := d.buf.valid.filter fun p => !gs.contains p.1, fills := d.buf.fills.filter fun e => !gs.contains e.granule } }

/-- A granule's lines are still to be read by a descriptor of a command, so that what an accepted read was to take from the write cache stays there (R30). -/
def Dev.granuleRead (d : Dev) (g : Nat) : Bool :=
  let mine (c : Desc) : Bool := c.src / 4096 == g && (match c.cmd with
    | some (t, _) => (match d.cmd? t with | some x => !x.kind.waitsWrite | none => true)
    | none => false)
  (d.dma.store.any fun p => p.2.own && mine p.2) || d.dma.chans.any fun p => p.2.runs.any fun r => mine r.desc

/-- Granules [buf, buf + n) may take a write's data: they exist, hold no sector of the write cache, and no accepted read still takes data from them. -/
def Dev.granulesFree (d : Dev) (buf n : Nat) : Bool :=
  decide (buf + n ≤ d.granules) && (List.range n).all fun i =>
    !(d.zne.cache.any fun c => !c.zero && c.addr / 4096 == buf + i) && !d.granuleRead (buf + i)

/-- Discard the write cache of a namespace: sectors, held runs. -/
def Dev.dropNsCache (d : Dev) (nsid : Nat) : Nat × Nat × Dev :=
  let gs := (d.zne.cache.filter fun c => decide (c.nsid = nsid) && !c.zero).map fun c => c.addr / 4096
  let (n, h, d) := d.dropCache fun c => decide (c.nsid = nsid)
  (n, h, d.clearGranules gs)

/-- Commands in flight for a namespace, other than the one that waits for them. -/
def Dev.nsBusy (d : Dev) (nsid : Nat) (t : Tag) : Bool := d.cmds.any fun c => decide (c.nsid = nsid ∧ c.tag ≠ t)

/-- Complete a delete (R330); its export is lost (R389). -/
def Dev.endDelete (d : Dev) (n : Ns) (t : Tag) : Dev :=
  let (secs, runs, d) := d.dropNsCache n.nsid
  let d := (d.modZne fun z => { z with ctx := z.ctx.filter fun p => decide (p.1 < n.ctx ∨ n.ctx + n.zones ≤ p.1)
                                       nss := z.nss.filter fun x => decide (x.nsid ≠ n.nsid) }).dropKey (nsxOf n.nsid)
  let d := d.setFld F.ZNE_STAT_ACTIVE d.activeZones.length
  let x := nsxOf n.nsid
  let d := d.setFld ⟨(if x < 32 then F.RNG_NSEXP_LO_EXP else F.RNG_NSEXP_HI_EXP).a, x % 32, 1⟩ 0
  let d := d.jwrite { ty := 2, nsx := nsxOf n.nsid, ctx := n.ctx }
  ((d.event .zne 0x02 secs runs 0 n.nsid).finish t stOk).pruneOrders

/-- Complete a crypto erase (R353). -/
def Dev.endErase (d : Dev) (n : Ns) (t : Tag) : Dev :=
  let d := (d.dropKey (nsxOf n.nsid)).drawKey (nsxOf n.nsid)
  let (_, _, d) := d.dropNsCache n.nsid
  let (g, d) := d.newGen
  let d := (d.emptyZones n g 3).setNs { n with leaving := none, key := .ready }
  ((d.event .sec 0x02 (nsxOf n.nsid) 0 0 n.nsid).finish t stOk).pruneOrders

/-- Deletes and crypto erases whose namespace has no command in flight any more complete. -/
def Dev.drainNs (d : Dev) : Dev :=
  d.zne.nss.foldl (fun (d : Dev) n => match n.leaving with
    | some t => if d.nsBusy n.nsid t then d
        else match d.cmd? t with
          | some c => if c.kind = .cryptoErase then d.endErase n t else d.endDelete n t
          | none => d
    | none => d) d

end Sys2Proof.Machine
end

