-- ==== Sys2Proof/Machine/Io.lean ====
section
/-! DEFINITION. Machine/Io.lean: I/O commands on zoned namespaces (chapter Commands, Namespaces and Zones). -/
namespace Sys2Proof.Machine

/-! ## What every I/O command shares -/

/-- LBA Out of Range. (PRESUMED, log entry 34) -/
def stRange : Status := stOf 0 0x80

/-- An I/O command: without an image it ends with Command Sequence Error (R470); in a non-operational state its controller's vote returns to the last
operational state it selected, and the command waits (R486). (DESIGN CHOICE, log entry 43) -/
def Dev.io (d : Dev) (t : Tag) (f : Dev → Dev) : Dev :=
  d.host t false fun d =>
    if 2 ≤ d.pstate then (d.modCtrl t.ctrl fun x => { x with psVote := x.lastOp }).voted d else f d

/-- The namespace of an I/O command (R329, Table 12.4): attached, its key usable, BUF and ZNE ready. (DESIGN CHOICE, log entry 43) -/
def Dev.ioNs (d : Dev) (t : Tag) (nsid : Nat) (f : Ns → Dev) : Dev :=
  match d.ns? nsid with
  | none => d.finish t stInvalidNs
  | some n =>
    if !n.attached t.ctrl then d.finish t stInvalidNs
    else if n.key = .unusable then d.finish t (stNotReady true)
    else if !d.flag F.BUF_STAT_READY || !d.flag F.ZNE_STAT_READY then d.finish t (stNotReady false)
    else f n

/-- A namespace and a range of its LBAs. (DESIGN CHOICE, log entry 43) -/
def Dev.ioRange (d : Dev) (t : Tag) (nsid slba nlb : Nat) (f : Ns → Dev) : Dev :=
  d.ioNs t nsid fun n => if n.cap < slba + nlb then d.finish t stRange else f n

/-- Lines of an address list. -/
def segLines (segs : List (Nat × Nat)) : Nat := (segs.map Prod.snd).foldl (· + ·) 0

/-- Generation of the zone of an LBA. -/
def Dev.genOf (d : Dev) (n : Ns) (lba : Nat) : Nat := (d.zctx (n.ctx + lba / n.zs)).gen

/-! ## Read -/

/-- Where a sector of a read comes from (R30, R334): zeros at or above WP, the write cache, or the media. -/
inductive Source where
  | zeros
  | cache (c : CacheSec)
  | media
deriving DecidableEq, Repr

/-- The source of a sector. -/
def Dev.sourceOf (d : Dev) (n : Ns) (lba : Nat) : Source :=
  let z := d.zctx (n.ctx + lba / n.zs)
  match d.cached n.nsid lba with
  | some c => if c.zero then .zeros else .cache c
  | none => if min z.wp (z.finAt.getD z.wp) ≤ lba % n.zs then .zeros else .media

/-- NVM_READ (R30, R334, R347, Table 1.7): zeros are sent at once, cached sectors are posted on the CSQ's own even channels, and the rest waits for the media. (DESIGN CHOICE, log entry 33) -/
def execNvmRead (t : Tag) (nsid : Word) (slba : BitVec 64) (nlb0 : BitVec 16) (segs : List (Nat × Nat)) (s : State) : Out :=
  s.doesIn 1 fun d => d.io t fun d =>
    let nlb := nlb0.toNat + 1
    let slba := slba.toNat
    d.ioRange t nsid.toNat slba nlb fun n =>
      let lbas := (List.range nlb).map fun i => slba + i
      let src := lbas.map fun l => (l, d.sourceOf n l)
      let media := (src.filter fun p => p.2 == .media).map Prod.fst
      if 512 < nlb ∨ segLines segs ≠ 32 * nlb then d.finish t stInvalidField
      else if media ≠ [] ∧ d.actuatorFailed n.reg.a then d.finish t (stUnrecovered true)
      else
        let c : CmdRec := { tag := t, kind := .read, nsid := n.nsid, slba := slba, nlb := nlb, segs := segs, started := d.now
                            need := media.map fun l => secKey n.nsid l }
        let d := d.putCmd c
        let d : Dev := src.foldl (fun (d : Dev) p => match p.2 with
          | .zeros => d.sendData t (List.replicate 4096 0)
          | .cache s => d.csqPost (csqOf t.sq) c p.1 (s.addr / 128)
          | .media => d) d
        d.cmdCheck t

/-! ## Write -/

/-- Zone statuses of Table 12.7. -/
def stZoneBoundary : Status := stOf 1 0xB8
def stZoneFull : Status := stOf 1 0xB9
def stZoneInvalidWrite : Status := stOf 1 0xBC
def stTooManyActive : Status := stOf 1 0xBD
def stZoneTransition : Status := stOf 1 0xBF

/-- A command of an ordered queue is not checked before those fetched before it (R338). (DESIGN CHOICE, log entry 43) -/
def Dev.orderedWait (d : Dev) (t : Tag) : Bool :=
  let q := d.cmds.filter fun c => decide (c.tag.ctrl = t.ctrl ∧ c.tag.sq = t.sq) && c.kind == .fetched && c.ordered
  (q.any fun c => c.tag == t) && (match q.head? with | some c => c.tag != t | none => false)

/-- ZONE_WRITE_CHECK (R335, Table 12.7): the first failing row. (DESIGN CHOICE, log entry 42) -/
def Dev.zoneCheck (d : Dev) (n : Ns) (slba nlb : Nat) (append : Bool) : Option Status :=
  let z := slba / n.zs
  let c := d.zctx (n.ctx + z)
  let first := if append then c.wp else slba % n.zs
  if n.zs < first + nlb then some stZoneBoundary
  else if c.cond = .full then some stZoneFull
  else if slba ≠ z * n.zs + (if append then 0 else c.wp) then some stZoneInvalidWrite
  else if c.cond = .empty ∧ d.fld F.ZNE_LIMIT_ACT_MAX ≤ d.activeCount then some stTooManyActive
  else none

/-- Reserve a range (R335): WP moves, an Empty or Closed zone becomes Implicitly Opened, a zone whose WP reaches zs becomes Full. A zone that leaves Empty
has its OPEN record written. (DESIGN CHOICE, log entry 42) -/
def Dev.reserve (d : Dev) (n : Ns) (z nlb : Nat) : Dev :=
  let i := n.ctx + z
  let c := d.zctx i
  let opens := decide (c.cond = .empty ∨ c.cond = .closed)
  let d := if c.cond = .empty then d.jwrite { ty := 4, nsx := nsxOf n.nsid, ctx := i, gen := c.gen } else d
  let d := (if opens then d.bump .zne 5 else d).bump .zne 1
  let cond := if c.wp + nlb = n.zs then ZCond.full else if opens then .implicit else c.cond
  d.setZctx i { c with wp := c.wp + nlb, cond := cond, stamp := if cond = c.cond then c.stamp else d.now, lastWr := d.now, nsx := nsxOf n.nsid }

/-- What Write, Write Zeroes and Zone Append share (R335, R336, R343, R347): the zone checks, the reservation, the sectors in the write cache from
granule `buf` on, the transfer on the CSQ's odd channels. (DESIGN CHOICE, log entry 42; DESIGN CHOICE, log entry 44) -/
def Dev.zoneWrite (d : Dev) (t : Tag) (nsid slba nlb : Nat) (append zeroes fua : Bool) (segs : List (Nat × Nat)) (buf : Nat) : Dev :=
  d.ioRange t nsid slba nlb fun n =>
    let z := slba / n.zs
    let ctx := d.zctx (n.ctx + z)
    let gs := (List.range nlb).map fun i => buf + i
    if !zeroes && (decide (512 < nlb) || decide (segLines segs ≠ 32 * nlb)) then d.finish t stInvalidField
    else if d.actuatorFailed n.reg.a then d.finish t (stWriteFault true)
    else if d.orderedWait t then d
    else if ctx.cond = .empty ∧ 8192 ≤ d.activeZones.length then d
    else if !zeroes && !d.granulesFree buf nlb then d
    else
      let d := d.bump .zne 0
      match d.zoneCheck n slba nlb append with
      | some st =>
        let d := if st = stZoneInvalidWrite then d.bump .zne 3 else if st = stTooManyActive then d.bump .zne 4 else d
        d.finish t st
      | none =>
        let first := z * n.zs + (if append then ctx.wp else slba % n.zs)
        let d := (if append then d.bump .zne 2 else d).reserve n z nlb
        let fua := fua || !(d.ctrl t.ctrl).wce
        let c : CmdRec := { tag := t, kind := if append then .append fua else if zeroes then .zeroes fua else .write fua, nsid := n.nsid, slba := first
                            nlb := nlb, reserved := true, segs := segs, started := d.now
                            dw0 := if append then first % 2 ^ 32 else 0, dw1 := if append then first / 2 ^ 32 else 0 }
        let sec (i : Nat) : CacheSec := { nsid := n.nsid, lba := first + i, rlba := recorded ctx.gen (first + i), addr := 4096 * (buf + i), zero := zeroes
                                          lines := if zeroes then 32 else 0 }
        let d := (if zeroes then d else d.clearGranules gs).putCmd c
        let d := (d.modZne fun x => { x with cache := x.cache ++ (List.range nlb).map sec }).syncZone n z
        if zeroes then d.cmdCheck t
        else
          let n0 := csqOf t.sq
          let d : Dev := (segPieces segs 0 0 (32 * nlb)).foldl (fun (d : Dev) p =>
            d.postFor n0 (d.freeChan n0 (8 * n0 + 1) 2 4) t p.2.1 p.1 (4096 * buf + 128 * p.2.1) p.2.2 0) d
          d.cmdCheck t

/-- NVM_WRITE (R335). (DESIGN CHOICE, log entry 33) -/
def execNvmWrite (t : Tag) (nsid : Word) (slba : BitVec 64) (nlb0 : BitVec 16) (fua : Bool) (segs : List (Nat × Nat)) (buf : Nat) (s : State) : Out :=
  s.doesIn 1 fun d => d.io t fun d => d.zoneWrite t nsid.toNat slba.toNat (nlb0.toNat + 1) false false fua segs buf

/-- WRITE_ZEROES (R335). -/
def execWriteZeroes (t : Tag) (nsid : Word) (slba : BitVec 64) (nlb0 : BitVec 16) (fua : Bool) (s : State) : Out :=
  s.doesIn 1 fun d => d.io t fun d => d.zoneWrite t nsid.toNat slba.toNat (nlb0.toNat + 1) false true fua [] 0

/-- ZONE_APPEND (R336). -/
def execZoneAppend (t : Tag) (nsid : Word) (zslba : BitVec 64) (nlb0 : BitVec 16) (fua : Bool) (segs : List (Nat × Nat)) (buf : Nat) (s : State) : Out :=
  s.doesIn 1 fun d => d.io t fun d => d.zoneWrite t nsid.toNat zslba.toNat (nlb0.toNat + 1) true false fua segs buf

/-! ## Flush and media orders -/

/-- A cached sector belongs to a write that has not completed. -/
def Dev.inWrite (d : Dev) (c : CacheSec) : Bool :=
  d.cmds.any fun x => decide (x.nsid = c.nsid ∧ x.slba ≤ c.lba ∧ c.lba < x.slba + x.nlb) && x.reserved && !x.silent

/-- NVM_FLUSH (R148, R344): covers every completed write to the namespace, or to all; held runs get a fresh try. -/
def execNvmFlush (t : Tag) (nsid : Word) (s : State) : Out :=
  s.doesIn 1 fun d => d.io t fun d =>
    let go (d : Dev) (p : CacheSec → Bool) : Dev :=
      let covered (c : CacheSec) : Bool := p c && !d.inWrite c
      let need := (d.zne.cache.filter covered).map fun c => secKey c.nsid c.lba
      let d := d.releaseHeld covered
      let d : Dev := d.zne.nss.foldl (fun (d : Dev) n => (List.range n.zones).foldl (fun (d : Dev) z =>
        if (d.zctx (n.ctx + z)).held then d.syncZone n z else d) d) d
      if need = [] then d.finish t stOk
      else d.putCmd { tag := t, kind := .flush, nsid := nsid.toNat, need := need, committed := true, started := d.now }
    if nsid.toNat = 0xFFFFFFFF then
      (if d.flag F.BUF_STAT_READY then go d fun _ => true else d.finish t (stNotReady false))
    else d.ioNs t nsid.toNat fun n => go d fun c => decide (c.nsid = n.nsid)

/-- Place an order in MSQa's queue, if CSQn holds a credit. -/
def Dev.placeOrder (d : Dev) (o : MediaOrder) : Dev :=
  let j := 4 + 2 * o.csq + o.a
  let p := d.pool .seq j
  if p.held = 0 ∨ d.flag (fFENCED .seq j) then d
  else
    let d := d.setPool .seq j { p with held := p.held - 1, busy := p.busy + 1 }
    { d with msq := { d.msq with orders := d.msq.orders ++ [{ o with id := d.msq.nextId }], nextId := d.msq.nextId + 1 } }

/-- DESTAGE_ORDER (R35): CSQ `q` places an order for a run of cached sectors all of whose data is in the buffer and that no order holds. (DESIGN CHOICE, log entry 65) -/
def execDestageOrder (q : Fin 4) (nsid : Word) (slba : BitVec 64) (n : Nat) (s : State) : Out :=
  s.doesIn 1 fun d =>
    match d.ns? nsid.toNat with
    | none => d
    | some x =>
      let slba := slba.toNat
      let inRun (c : CacheSec) : Bool := decide (c.nsid = x.nsid ∧ slba ≤ c.lba ∧ c.lba < slba + n)
      let free (i : Nat) : Bool := match d.cached x.nsid (slba + i) with
        | some c => decide (c.lines = 32) && c.order.isNone && !c.held
        | none => false
      if n = 0 ∨ !((List.range n).all free) then d
      else
        let id := d.msq.nextId
        let old := d
        let d := d.placeOrder { a := x.reg.a, cmd := none, nsid := x.nsid, slba := slba, n := n, write := true, csq := q.val }
        if d = old then d else d.mapCache inRun fun c => { c with order := some id }

/-- MEDIA_ORDER (R19, R436): a CSQ places a read order for sectors that a command awaits, or (no command) CSQ NSX mod 4 one that an internal read of the ring does. (DESIGN CHOICE, log entry 65) -/
def execMediaOrder (t : Option Tag) (_q : Fin 4) (nsid : Word) (slba : BitVec 64) (n : Nat) (s : State) : Out :=
  s.doesIn 1 fun d =>
    match d.ns? nsid.toNat with
    | none => d
    | some x =>
      let slba := slba.toNat
      let wants (i : Nat) : Bool := match t with
        | some t => match d.cmd? t with | some c => c.awaitsRead (secKey x.nsid (slba + i)) | none => false
        | none => d.ringAwaits x.nsid (slba + i)
      let q := match t with | some t => csqOf t.sq | none => nsxOf x.nsid % 4
      if n = 0 ∨ !((List.range n).all wants) then d
      else d.placeOrder { a := x.reg.a, cmd := t, nsid := x.nsid, slba := slba, n := n, csq := q }

/-! ## Zone management -/

/-- A zone action on one zone or, with Select All, on every zone of the conditions given (R340): `ok` are the conditions it is allowed from. (DESIGN CHOICE, log entry 38) -/
def Dev.zoneSend (d : Dev) (t : Tag) (nsid slba : Nat) (all : Bool) (ok forAll : ZCond → Bool) (f : Dev → Ns → List Nat → Dev) : Dev :=
  d.ioNs t nsid fun n =>
    if all then f d n ((List.range n.zones).filter fun z => forAll (d.zctx (n.ctx + z)).cond)
    else if n.cap ≤ slba then d.finish t stRange
    else if slba % n.zs ≠ 0 then d.finish t stInvalidField
    else if !ok (d.zctx (n.ctx + slba / n.zs)).cond then d.finish t stZoneTransition
    else f d n [slba / n.zs]

/-- ZONE_CLOSE (R340). -/
def execZoneClose (t : Tag) (nsid : Word) (slba : BitVec 64) (all : Bool) (s : State) : Out :=
  s.doesIn 1 fun d => d.io t fun d =>
    let isOpen (c : ZCond) : Bool := c == .implicit || c == .explicit
    d.zoneSend t nsid.toNat slba.toNat all (fun c => isOpen c || c == .closed) isOpen fun d n zs =>
      (zs.foldl (fun (d : Dev) z =>
        let c := d.zctx (n.ctx + z)
        if isOpen c.cond then (d.setCond (n.ctx + z) c .closed).bump .zne 6 else d) d).finish t stOk

/-- ZONE_OPEN (R340): an Empty zone becomes active, so ACT_MAX counts. -/
def execZoneOpen (t : Tag) (nsid : Word) (slba : BitVec 64) (all : Bool) (s : State) : Out :=
  s.doesIn 1 fun d => d.io t fun d =>
    d.zoneSend t nsid.toNat slba.toNat all (fun c => c != .full) (fun c => c == .closed) fun d n zs =>
      let opens := zs.filter fun z => (d.zctx (n.ctx + z)).cond == .empty
      if opens ≠ [] ∧ d.fld F.ZNE_LIMIT_ACT_MAX ≤ d.activeCount then (d.bump .zne 4).finish t stTooManyActive
      else if opens ≠ [] ∧ 8192 ≤ d.activeZones.length then d
      else
        (zs.foldl (fun (d : Dev) z =>
          let c := d.zctx (n.ctx + z)
          let d := if c.cond = .empty then d.jwrite { ty := 4, nsx := nsxOf n.nsid, ctx := n.ctx + z, gen := c.gen } else d
          if c.cond = .explicit then d else (d.setCond (n.ctx + z) { c with nsx := nsxOf n.nsid } .explicit).bump .zne 5) d).finish t stOk

/-- ZONE_RESET (R341): it waits until every write reserved in the zone has all its data or has been abandoned, then acts. -/
def execZoneReset (t : Tag) (nsid : Word) (slba : BitVec 64) (all : Bool) (s : State) : Out :=
  s.doesIn 1 fun d => d.io t fun d =>
    d.zoneSend t nsid.toNat slba.toNat all (fun _ => true) (fun c => c != .empty) fun d n zs =>
      let need := d.zoneKeys n zs fun c => decide (c.lines < 32)
      let c : CmdRec := { tag := t, kind := .zoneReset, nsid := n.nsid, slba := slba.toNat, nlb := all.toNat, need := need, started := d.now }
      let d := d.putCmd c
      if need = [] then d.needMet c else d

/-- ZONE_FINISH (R341): held runs of the zone get one fresh try, and every run of it is destaged before the zone becomes Full. -/
def execZoneFinish (t : Tag) (nsid : Word) (slba : BitVec 64) (all : Bool) (s : State) : Out :=
  s.doesIn 1 fun d => d.io t fun d =>
    let act (c : ZCond) : Bool := c == .implicit || c == .explicit || c == .closed
    d.zoneSend t nsid.toNat slba.toNat all (fun _ => true) act fun d n zs =>
      let need := d.zoneKeys n zs fun _ => true
      let d := d.releaseHeld fun c => decide (c.nsid = n.nsid) && zs.contains (c.lba / n.zs)
      let d : Dev := zs.foldl (fun (d : Dev) z => if (d.zctx (n.ctx + z)).held then d.syncZone n z else d) d
      let c : CmdRec := { tag := t, kind := .zoneFinish, nsid := n.nsid, slba := slba.toNat, nlb := all.toNat, need := need, started := d.now }
      let d := d.putCmd c
      if need = [] then d.needMet c else d

/-- ZONE_OFFLINE (R340): it always fails. -/
def execZoneOffline (t : Tag) (nsid : Word) (s : State) : Out :=
  s.doesIn 1 fun d => d.io t fun d => d.ioNs t nsid.toNat fun _ => d.finish t stZoneTransition

/-- SET_ZONE_DESC_EXT (R340). -/
def execSetZoneDescExt (t : Tag) (s : State) : Out := s.doesIn 1 fun d => d.io t fun d => d.finish t stInvalidField

/-- EXTENDED_REPORT_ZONES (R342). -/
def execExtendedReportZones (t : Tag) (s : State) : Out := s.doesIn 1 fun d => d.io t fun d => d.finish t stInvalidField

/-- Conditions a Reporting Option selects; none for an option above 7. (DESIGN CHOICE, log entry 38) -/
def reportSel (opt : Nat) : Option (ZCond → Bool) :=
  match opt with
  | 0 => some fun _ => true
  | 1 => some fun c => c == .empty
  | 2 => some fun c => c == .implicit
  | 3 => some fun c => c == .explicit
  | 4 => some fun c => c == .closed
  | 5 => some fun c => c == .full
  | 6 => some fun _ => false
  | 7 => some fun _ => false
  | _ => none

/-- A zone descriptor of 64 bytes (R342). -/
def Dev.zoneDesc (d : Dev) (n : Ns) (z : Nat) : Bytes :=
  let c := d.zctx (n.ctx + z)
  [2] ++ leBytes 1 (16 * condCode c.cond) ++ [0, 0, 0, 0, 0, 0] ++ leBytes 8 n.zs ++ leBytes 8 (z * n.zs) ++ leBytes 8 (z * n.zs + c.wp) ++
    List.replicate 32 0

/-- REPORT_ZONES (R342): the zones from SLBA's on that the option selects, as many as `len` bytes hold; without Partial Report the count is of all. (PRESUMED, log entry 34) -/
def execReportZones (t : Tag) (nsid : Word) (slba : BitVec 64) (opt : Byte) (part : Bool) (len : Word) (s : State) : Out :=
  s.doesIn 1 fun d => d.io t fun d =>
    d.ioNs t nsid.toNat fun n =>
      match reportSel opt.toNat with
      | none => d.finish t stInvalidField
      | some sel =>
        if n.cap ≤ slba.toNat then d.finish t stRange
        else
          let zs := (List.range n.zones).filter fun z => decide (slba.toNat / n.zs ≤ z) && sel (d.zctx (n.ctx + z)).cond
          let fit := zs.take ((len.toNat - 64) / 64)
          let d := d.bump .zne 0 fit.length
          d.reply t ((leBytes 8 (if part then fit.length else zs.length) ++ List.replicate 56 0 ++ fit.flatMap fun z => d.zoneDesc n z).take len.toNat)

/-- JOURNAL_HALF_SWITCH (R357): the half in use is full. -/
def execJournalHalfSwitch (s : State) : Out := s.doesIn 1 fun d => if jlimit ≤ d.zne.jword then d.jswitch else d

end Sys2Proof.Machine
end

