-- ==== Sys2Proof/Machine/Decoder.lean ====
section
/-! DEFINITION. Machine/Decoder.lean: the decoder pool DEC (chapter Read Channel and Decoder Pool). -/
namespace Sys2Proof.Machine

/-! ## Store, slots, park store -/

/-- Status codes of Table 4.12. -/
def rsOK : Nat := 0
def rsNoConverge : Nat := 1
def rsCrcFail : Nat := 2
def rsParkFull : Nat := 3
def rsBufErr : Nat := 4
def rsParked : Nat := 5

/-- Replace DEC's state and the counts that DEC.STAT shows. -/
def Dev.setDec (d : Dev) (x : DecS) : Dev :=
  ((({ d with dec := x }).setFld F.DEC_STAT_STORE x.store.length).setFld F.DEC_STAT_PARK x.park.length).setFld F.DEC_STAT_BUSY
    x.slots.length

def Dev.slot? (d : Dev) (k : Nat) : Option SlotS := d.dec.slots.get (fun _ => none) k
def Dev.setSlot (d : Dev) (k : Nat) (x : Option SlotS) : Dev := d.setDec { d.dec with slots := d.dec.slots.set (fun _ => none) k x }

/-- The same sector of the media. -/
def sameSector (b c : SoftBlock) : Bool := b.head == c.head && b.lba == c.lba && b.ord.nsid == c.ord.nsid

/-- The retained entry of a block's sector (R553). -/
def Dev.retained? (d : Dev) (b : SoftBlock) : Option ParkE := d.dec.park.find? fun e => match e with
  | .retained c _ => sameSector b c
  | .parked _ => false

/-- Remove the retained entry of a block's sector. -/
def Dev.dropRetained (d : Dev) (b : SoftBlock) : Dev := d.setDec { d.dec with park := d.dec.park.filter fun e => match e with
  | .retained c _ => !sameSector b c
  | .parked _ => true }

/-- Put a retained entry in the place of the one its sector has. -/
def Dev.putRetained (d : Dev) (b : SoftBlock) (added : Nat) : Dev := d.setDec { d.dec with park := d.dec.park.map fun e => match e with
  | .retained c k => if sameSector b c then .retained b added else .retained c k
  | .parked c => .parked c }

/-- Clear the slot bit of a block (R232). -/
def Dev.clearBit (d : Dev) (b : SoftBlock) : Dev := d.setSlotBusy (actOf b.head) b.tbuf false

/-- RETAINED_BLOCK_RELEASE (R553): the retained block of a sector is discarded and its slot bit cleared. -/
def Dev.releaseRetained (d : Dev) (b : SoftBlock) : Dev := match d.retained? b with
  | some (.retained c _) => (d.dropRetained b).clearBit c
  | _ => d

/-- The report of a block (Table 4.12). -/
def reportOf (b : SoftBlock) (slot status iter corr : Nat) (reframe : Int) : SecReport :=
  { tag := b.ord.tag, index := b.index, head := b.head, status := status, iter := iter, step := b.ord.step, corr := min corr 65535
    frame := b.frame, reframe := reframe, erased := min b.erased 65535, slot := slot, injected := b.inject.isSome, ord := b.ord
    lba := b.lba, tbuf := b.tbuf }

/-- Send a report to MSQa. -/
def Dev.report (d : Dev) (r : SecReport) : Dev :=
  let d := { d with msq := { d.msq with reports := d.msq.reports ++ [r] } }
  if r.status = rsParked then d else d.noteReport r.head r.tag (decide (r.status = rsOK))

/-- Parameter-3 bit of an event that a fault injected under R129 caused. -/
def decInj (b : Bool) : Nat := if b then 0x40000000 else 0

/-! ## Acceptance and injection (R117, R129) -/

/-- Invert the signs of COUNT soft values spread evenly over the block. -/
def invertSpread (count : Nat) (vals : List Int) : List Int :=
  let c := min count 34848
  let at_ := (List.range c).map fun i => i * 34848 / c
  vals.mapIdx fun i x => if at_.contains i then -x else x

/-- Apply an armed injection to a block from its channel. -/
def Dev.injectBlock (d : Dev) (b : SoftBlock) : SoftBlock × Dev :=
  if d.flag F.DEC_INJECT_ARM && d.fld F.DEC_INJECT_CH = b.head then
    let k := d.fld F.DEC_INJECT_KIND
    let d' := d.setFlag F.DEC_INJECT_ARM false
    match k with
    | 0 => ({ b with vals := invertSpread (d.fld F.DEC_INJECT_COUNT) b.vals, inject := some 0 }, d')
    | 1 => ({ b with inject := some 1 }, d')
    | 2 => 
      let vals := List.replicate 512 0 ++ b.vals.drop 512
      ({ b with vals := vals, erased := (vals.filter (· == 0)).length, inject := some 2 }, d')
    | _ => (b, d')
  else (b, d)

/-- Add the soft values of two blocks, saturating at ±31 (R553). -/
def addVals (a b : List Int) : List Int := List.zipWith (fun x y => clampAbs 31 (x + y)) a b

/-- A read of ladder step 7 arrives (R553): it is added into its sector's retained entry, or retained itself if there is none, and reported
PARKED; the last read starts the decode of the entry. `none` where it can be neither retained nor added. An injected read makes the entry an injected one, of the read's
KIND (R129). (DESIGN CHOICE, log entry 76) -/
def Dev.combine (d : Dev) (b : SoftBlock) : Option Dev :=
  let start (d : Dev) (e : SoftBlock) (k : Nat) : Dev :=
    if d.fld F.DEC_RETRY_COMB_READS ≤ k then
      d.setDec { d.dec with redo := d.dec.redo ++ [{ e with ord := { e.ord with step := 7 } }] } else d
  let parked := reportOf b 0 rsParked 0 0 b.frame.reframe
  match d.retained? b with
  | some (.retained c k) =>
    let e := { c with vals := addVals c.vals b.vals, inject := if b.inject.isSome then b.inject else c.inject }
    some (start (((d.putRetained e (k + 1)).clearBit b).report parked) e (k + 1))
  | _ =>
    if d.dec.park.length < 16 then
      some (start ((d.setDec { d.dec with park := d.dec.park ++ [.retained b 1] }).report parked) b 1)
    else none

/-- A block as DEC receives it: a bit that the lane has flipped behind its header changes a soft value (R37, R112). -/
def blockSeen (b : SoftBlock) (t : Token) (flip : Option Nat) : SoftBlock :=
  match flip with
  | none => b
  | some _ => { b with vals := unpack6 34848 ((t.seen flip).payload.drop 32) }

/-- DEC_BLOCK_ACCEPT (R37, R117, R129): the first block in flight from channel n enters the input store, its parity checked; a step-7 read is combined at once and its
credit returned. A fenced pool accepts nothing (R52). `flip` is a bit that the lane has flipped. -/
def execDecBlockAccept (n : Fin 20) (flip : Option Nat) (s : State) : Out :=
  s.doesIn 2 fun d =>
    match d.dec.flight.find? fun b => decide (b.head = n.val) with
    | none => d
    | some b1 =>
      if decide (96 ≤ d.dec.store.length) || d.flag (fFENCED .dec n) then d
      else
        let t := (d.pool .dec n).queue.headD (mkToken .data (blockBytes b1))
        let b0 := blockSeen b1 t flip
        let d := ((d.setPool .dec n (d.pool .dec n).take).bump .dec n)
        let d := if (t.seen flip).good then d else d.fault .dec 1 0 n
        let (b, d) := ({ d with dec := { d.dec with flight := d.dec.flight.erase b1 } }).injectBlock b0
        match if b.ord.step = 7 then d.combine b else none with
        | some d => d.freeSlot .dec n
        | none => d.setDec { d.dec with store := d.dec.store ++ [b] }

/-! ## Decoding -/

/-- Cap of a waiting block taken while the rest of the store holds `rest` blocks, and whether it is decoded under pressure (R118). -/
def Dev.capOf (d : Dev) (b : SoftBlock) (rest : Nat) : Nat × Bool :=
  if 0 < b.ord.step then (d.fld F.DEC_CTRL_ITER_RETRY, false)
  else if d.fld F.DEC_CTRL_PRESS_THR ≤ rest then (d.fld F.DEC_CTRL_ITER_PRESS, true)
  else (d.fld F.DEC_CTRL_ITER_MAX, false)

/-- The oldest parked block. -/
def Dev.parkedHead (d : Dev) : Option SoftBlock := d.dec.park.findSome? fun e => match e with
  | .parked b => some b
  | .retained _ _ => none

/-- A parked block is due: the store holds fewer than PRESS_THR / 2 blocks (R118). -/
def Dev.parkedDue (d : Dev) : Bool := d.parkedHead.isSome && decide (2 * d.dec.store.length < d.fld F.DEC_CTRL_PRESS_THR)

/-- A free slot takes the oldest parked block with cap ITER_MAX. -/
def Dev.takeParked (d : Dev) (k : Nat) : Dev :=
  match d.parkedHead with
  | none => d
  | some b => (d.setDec { d.dec with park := d.dec.park.erase (.parked b) }).setSlot k (some { blk := b, cap := d.fld F.DEC_CTRL_ITER_MAX })

/-- DECODER_SLOT_TAKE (R117, R118): a free slot takes a retained block whose decode is asked for, else a parked block that is due, else the
oldest block of the input store, whose channel gets its credit back. (DESIGN CHOICE, log entry 19) -/
def execDecoderSlotTake (k : Fin 48) (s : State) : Out :=
  s.doesIn 2 fun d =>
    if (d.slot? k).isSome then d
    else match d.dec.redo with
      | b :: rest =>
        (d.setDec { d.dec with redo := rest }).setSlot k (some { blk := b, cap := d.fld F.DEC_CTRL_ITER_RETRY, retained := true })
      | [] =>
        if d.parkedDue then d.takeParked k
        else match d.dec.store with
          | [] => d
          | b :: rest =>
            let (cap, press) := d.capOf b rest.length
            ((d.setDec { d.dec with store := rest }).setSlot k (some { blk := b, cap := cap, press := press })).freeSlot .dec b.head

/-- PARKED_REDECODE (R118): a free slot takes a parked block ahead of waiting blocks. -/
def execParkedRedecode (k : Fin 48) (s : State) : Out :=
  s.doesIn 2 fun d => if (d.slot? k).isNone && d.parkedDue then d.takeParked k else d

/-- The shift hypotheses of ladder step 5, in turn. -/
def shiftHyp (i : Nat) : Int := [-3, -2, -1, 1, 2, 3].getD i 0

/-- Soft values with the PSM-framed span shifted by h (R123): the span's values come from positions i + h, with the extended values at its
edges; positions beyond those held are erasures. -/
def shiftSpan (b : SoftBlock) (h : Int) : List Int :=
  let before := b.extra.take 3
  let after := (b.extra.drop 3).take 3
  b.vals.mapIdx fun i x =>
    if b.frame.span ≤ i then x
    else
      let j := (i : Int) + h
      if j < 0 then before.getD (3 + j).toNat 0
      else if (b.frame.span : Int) ≤ j then after.getD (j - b.frame.span).toNat 0
      else b.vals.getD j.toNat 0

/-- Soft values that a slot decodes. -/
def slotVals (x : SlotS) : List Int := if x.blk.ord.step = 5 then shiftSpan x.blk (shiftHyp x.shift) else x.blk.vals

/-- Bits with a non-zero soft value whose decoded value differs from the hard decision (Table 4.12). -/
def corrCount (vals : List Int) (code : List Bool) : Nat :=
  ((vals.zip code).filter fun p => decide (p.1 ≠ 0) && (decide (p.1 < 0) != p.2)).length

/-- CRC of 4,100 decoded bytes (R78). -/
def crcGood (lba nsid : Nat) (info : Bytes) : Bool := crc32c (crcSeed lba nsid) (info.take 4096) == leAt info 4096 4

/-- Plaintext of a sector: through the XTS lane of its key slot, or as it is (R119). (DESIGN CHOICE, log entry 6) -/
def Dev.xtsOut (d : Dev) (keySlot lba : Nat) (b : Bytes) : Bytes :=
  if keySlot = 0xFFFF then b else Config.xts false ((d.sec.keys.get (fun _ => none) keySlot).getD []) lba b

/-- A sector decoded OK is written to its slot; its report waits for BUF's write response (R119). An own read that succeeds discards the
retained block, a decode of the retained block uses it up (R553). Event 0x0402 and LADDER_OK come with the OK decode, before the write's response. (DESIGN CHOICE, log entry 76) -/
def Dev.landSector (d : Dev) (k : Nat) (x : SlotS) (info : Bytes) (iter corr : Nat) : Dev :=
  let b := x.blk
  let d := d.bump .dec 20
  let d := if 0 < b.ord.step then d.bump .dec (25 + b.ord.step) else d
  let d := if x.retained then d.dropRetained b else d.releaseRetained b
  let id := d.dec.nextId
  let r := reportOf b k rsOK iter corr (if b.ord.step = 5 then shiftHyp x.shift else b.frame.reframe)
  let d := { d with dec := { d.dec with nextId := id + 1, writes := d.dec.writes ++ [(id, r)] } }
  let d := d.bufAsk { client := 0, id := id, line := d.slotLine (actOf b.head) b.tbuf, n := 32
                      op := .write (d.xtsOut b.ord.keySlot b.lba (info.take 4096)) }
  if 0 < b.ord.step then
    d.event .dec 0x02 b.ord.track (b.ord.first + b.index) b.ord.step b.head
  else d

/-- A sector that is not OK (R119, R553): with RETAIN its block replaces the retained one or takes an entry; else, as a step-7 read that was not retained, its slot bit is
cleared. A full park store raises no event here: 0x0403 comes with PARK_FULL. (DESIGN CHOICE, log entry 76) -/
def Dev.failSector (d : Dev) (k : Nat) (x : SlotS) (status iter corr : Nat) : Dev :=
  let b := x.blk
  let d := d.bump .dec (if status = rsCrcFail then 23 else 22)
  let d := if x.retained then d
    else if !b.ord.retain || b.ord.step == 7 then d.clearBit b
    else match d.retained? b with
      | some (.retained c n) => (d.putRetained b n).clearBit c
      | _ => if d.dec.park.length < 16 then d.setDec { d.dec with park := d.dec.park ++ [.retained b 0] } else d.clearBit b
  d.report (reportOf b k status iter corr (if b.ord.step = 5 then shiftHyp x.shift else b.frame.reframe))

/-- A block that reaches ITER_PRESS is parked, or reported PARK_FULL (R118). -/
def Dev.parkSector (d : Dev) (k : Nat) (x : SlotS) (iter : Nat) : Dev :=
  let b := x.blk
  if d.dec.park.length < 16 then
    ((d.setDec { d.dec with park := d.dec.park ++ [.parked b] }).bump .dec 24).report (reportOf b k rsParked iter 0 b.frame.reframe)
  else
    let d := (((d.clearBit b).bump .dec 25).event .dec 0x03 b.ord.tag b.index (d.dec.store.length + decInj b.inject.isSome) b.head)
    d.report (reportOf b k rsParkFull iter 0 b.frame.reframe)

/-- A slot has stopped without an OK sector: step 5 tries its next shift in the same slot (R122); a block decoded under pressure is parked if it did not converge
(R118). -/
def Dev.slotFails (d : Dev) (k : Nat) (x : SlotS) (status iter corr : Nat) : Dev :=
  if x.blk.ord.step = 5 ∧ x.shift < 5 then d.setSlot k (some { x with shift := x.shift + 1 })
  else
    let d := d.setSlot k none
    if x.press && status == rsNoConverge then d.parkSector k x iter else d.failSector k x status iter corr

/-- DECODE_END (R115, R118, R121, R122): the slot stops: its decoder has found a codeword, or reached its cap with a non-zero syndrome. An injection of KIND 1 flips bit 0
of the CRC that was decoded (R129). (DESIGN CHOICE, log entry 19) -/
def execDecodeEnd (k : Fin 48) (s : State) : Out :=
  s.doesIn 2 fun d =>
    match d.slot? k with
    | none => d
    | some x =>
      let (iter, code) := ldpcDecode x.cap (slotVals x)
      let d := d.bump .dec 21 iter
      match code with
      | none => d.slotFails k x rsNoConverge iter 0
      | some code =>
        let b := bytesOfBits 4100 code
        let b := if x.blk.inject = some 1 then b.take 4096 ++ leBytes 4 (leAt b 4096 4 ^^^ 1) else b
        let corr := corrCount (slotVals x) code
        if crcGood x.blk.lba x.blk.ord.nsid b then (d.setSlot k none).landSector k x b iter corr else d.slotFails k x rsCrcFail iter corr

/-- DEC_SECTOR_WRITE_RESPONSE (R119): BUF's response to the write of a decoded sector is back; the report goes to MSQa, with BUF_ERR after an
error response. -/
def execDecSectorWriteResponse (s : State) : Out :=
  s.doesIn 2 fun d =>
    match d.dec.writes.find? fun w => d.buf.resps.any fun r => decide (r.client = 0 ∧ r.id = w.1) with
    | none => d
    | some (id, r) =>
      match d.bufTake 0 id with
      | none => d
      | some (resp, d) =>
        let d := { d with dec := { d.dec with writes := d.dec.writes.erase (id, r) } }
        if resp.err then
          let d := d.setSlotBusy (actOf r.head) r.tbuf false
          (d.event .dec 0x04 r.tag r.index r.tbuf r.head).report { r with status := rsBufErr }
        else d.report r

/-- DEC_INJECT_ARM (R129): a write to DEC.INJECT. -/
def execDecInjectArm (v : Word) (who : Requester) (s : State) : Out :=
  s.doesIn 2 fun d => (d.regWrite 0x02000020 v.toNat (reqCode who)).1

end Sys2Proof.Machine
end

