-- ==== Sys2Proof/Machine/Servo.lean ====
section
/-! DEFINITION. Machine/Servo.lean: the commands of the servo engine SRV (chapter Servo Control Engine). -/
namespace Sys2Proof.Machine

/-! ## Wedges -/

/-- The fields of a demodulated-wedge token (Table 3.2). -/
structure WTok where
  head : Nat
  track : Nat
  miss : Bool
  tidErr : Bool
  rroPar : Bool
  low : Bool
  wedge : Nat
  pes : Int
  rro : Int
  ampN : Int
  ampQ : Int
deriving DecidableEq, Repr

/-- Read a token. -/
def wtok (b : Bytes) : WTok :=
  let h := leAt b 8 4
  let f := leAt b 12 2
  { head := bitsAt h 24 5, track := bitsAt h 0 24, miss := bitAt f 15, tidErr := bitAt f 14, rroPar := bitAt f 13, low := bitAt f 12
    wedge := bitsAt f 0 10, pes := sext 16 (leAt b 14 2), rro := sext 16 (leAt b 16 2), ampN := sext 16 (leAt b 18 2)
    ampQ := sext 16 (leAt b 20 2) }

/-- No valid position in the token: the flags of R143 and R154. -/
def WTok.flags (t : WTok) : Bool := t.miss || t.tidErr || t.rroPar || t.low

/-- Measured position y of R153, in 1/4,096 track. -/
def WTok.y (t : WTok) : Int := t.track * 4096 + t.pes + 2 * t.rro

/-- WRITE_INHIBIT_EVAL (R143): INH[n] of a head with a write run. A wedge without a valid position adds nothing to PEAK. (DESIGN CHOICE, log entry 24) -/
def Dev.inhibitEval (d : Dev) (n : Nat) (t : WTok) : Dev :=
  if (d.whead n).run.isNone then d
  else
    let e := (t.y - d.target (2 + n)).natAbs
    if t.flags || decide (d.fld F.WRP_WINH_WIL_ON < e) then
      let d := d.raiseInh n
      let h := d.whead n
      let p := if t.flags then h.peak else max h.peak e
      d.setWhead n { h with good := 0, peak := p, run := h.run.map fun r => { r with peak := max r.peak (if t.flags then 0 else e) } }
    else
      let h := d.whead n
      let g := if e ≤ d.fld F.WRP_WINH_WIL_OFF then h.good + 1 else 0
      let d := d.setWhead n { h with good := g }
      if d.fld F.WRP_WINH_REARM ≤ g ∧ d.mode (2 + n) = 4 then d.setFld (inhBit n) 0 else d

/-- An armed SRV.INJECT of a KIND for a loop. (DESIGN CHOICE, log entry 15) -/
def Dev.srvArmed (d : Dev) (kind k : Nat) : Bool := d.flag F.SRV_INJECT_ARM && d.fld F.SRV_INJECT_KIND = kind && d.fld F.SRV_INJECT_LOOP = k

/-- An injection of KIND 2: whether this wedge of the loop counts as missing (R182). -/
def Dev.injMissing (d : Dev) (k : Nat) : Bool × Dev :=
  if d.srvArmed 2 k then
    if d.srv.injCount < d.fld F.SRV_INJECT_VALUE then
      let c := d.srv.injCount + 1
      let d := { d with srv := { d.srv with injCount := c } }
      (true, if d.fld F.SRV_INJECT_VALUE ≤ c then { (d.setFlag F.SRV_INJECT_ARM false) with srv := { d.srv with injCount := 0 } } else d)
    else (false, d.setFlag F.SRV_INJECT_ARM false)
  else (false, d)

/-- An injection of KIND 1: what it adds to the next z1 of the loop, if it is armed. -/
def Dev.injZ (d : Dev) (k : Nat) : Option Int × Dev :=
  if d.srvArmed 1 k then (some (sext 16 (d.fld F.SRV_INJECT_VALUE)), d.setFlag F.SRV_INJECT_ARM false) else (none, d)

/-- An injection of KIND 0: whether the pair's computation is corrupted. -/
def Dev.injPair (d : Dev) (p : Nat) : Bool := d.flag F.SRV_INJECT_ARM && d.fld F.SRV_INJECT_KIND = 0 && d.fld F.SRV_INJECT_PAIR = p

/-- Run a loop's computation on a pair: `mismatch` tells that its two lanes disagree (R176); `f` is the computation. (DESIGN CHOICE, log entry 26) -/
def Dev.onPair (d : Dev) (k pair wedge : Nat) (mismatch : Bool) (f : Dev → Dev) : Dev :=
  match d.pairFor pair with
  | none => d
  | some p =>
    if d.injPair p then (d.setFlag F.SRV_INJECT_ARM false).pairBad k p wedge true
    else if mismatch then d.pairBad k p wedge false
    else f d

/-- Drift warning of a microactuator loop in HEEL (R155). -/
def Dev.drift (d : Dev) (k : Nat) : Dev :=
  let l := d.lp k
  let nm := (sext 32 (d.fld (F.SRV_UOUT_U k)) - l.u0).natAbs * d.fld (F.SRV_LHEAD_GAIN_NM k)
  if d.mode k = 4 ∧ !l.driftLog ∧ d.fld (F.SRV_LHEAD_DRIFT_WARN k) * 2 ^ 28 < nm then
    (d.setLp k { l with driftLog := true }).loopEvent k 0x09 l.tgt (nm / 2 ^ 28) 0
  else d

/-- A microactuator leaves FETCH for SIT when its VCM loop is in SIT or HEEL and it has spent two wedges in FETCH (Table 6.6). -/
def Dev.microSit (d : Dev) (k : Nat) : Dev :=
  if d.mode k = 2 ∧ 2 ≤ (d.lp k).fetchW ∧ (d.mode (loopAct k) = 3 ∨ d.mode (loopAct k) = 4) then (d.enter k 3 true).rampFrom k (d.target k) else d

/-- The microactuator loop of a head at one of its wedges (R160); `hidden` tells that an injection makes it count as missing. -/
def Dev.microWedge (d : Dev) (k : Nat) (t : WTok) (hidden implausible : Bool) : Dev :=
  let m := d.mode k
  let missing := t.flags || hidden
  let d := if m = 2 then d else d.rampStep k
  let (add, d) := if missing then (none, d) else d.injZ k
  let x := t.y - d.target k - (if m = 2 then 0 else (d.lp k).rho) + add.getD 0
  let kd := if m = 2 then 1 else 0
  let z1 := qPos (d.cfgShift k kd) x
  let z2 := (d.lp k).z2 * 2 ^ 13
  let (d, used) := d.compute k { z := if missing then none else some (z1, z2), implausible := implausible, openLoop := m == 2
                                 injected := hidden || add.isSome }
  let d := if missing then d else (d.noteZ k z1 z2 x).setLp k { d.lp k with pos := t.y }
  ((d.settle k used missing x 1).drift k).microSit k

/-- Stripe track nearest the set-point of a VCM loop (R154). -/
def Dev.nearTrack (d : Dev) (a : Nat) : Nat := (roundAway (d.target a + (d.lp a).rho) 4096).toNat

/-- Denominator of the comb coordinates for a nearest stripe track: PITCH_PM of its band × 2^28. -/
def Dev.combDen (d : Dev) (a near : Nat) : Nat := match d.fmtOf a with
  | none => 2 ^ 28
  | some f => (bandAt f (bandIdx f near)).pitchPm * 2 ^ 28

/-- Comb coordinate of a head (R154) as a numerator over that denominator. -/
def Dev.combCoord (d : Dev) (a l near : Nat) (t : WTok) : Int :=
  match d.fmtOf a with
  | none => t.y * 2 ^ 28
  | some f =>
    let k := 2 + 10 * a + l
    let u := sext 32 (d.fld (F.SRV_UOUT_U k))
    let off := readOffset f near l * 2 ^ 28 + u * (d.fld (F.SRV_LHEAD_GAIN_NM k) * 1000 : Nat)
    (t.y - (staggerAt f (bandIdx f near) l).delta * 4096) * (d.combDen a near : Nat) - off * 4096

def Dev.gathers (d : Dev) (a : Nat) : List GatherS := d.srv.gathers.get (fun _ => []) a
def Dev.setGathers (d : Dev) (a : Nat) (g : List GatherS) : Dev := { d with srv := { d.srv with gathers := d.srv.gathers.set (fun _ => []) a g } }

/-- Wedge number of the last gather closed. -/
def Dev.lastComb (d : Dev) (a : Nat) : Option Nat := d.srv.closed.get (fun _ => none) a

/-- A gather's window is over (R154). -/
def Dev.gatherOver (d : Dev) (g : GatherS) : Bool := match g.first with
  | some t => decide (t + 10 * d.fld F.SRV_CTRL_GATHER_NS ≤ d.now)
  | none => false

/-- A head of CONTRIB reports in a gather that is still open: it is waited for no more, and it contributes if its token is good (R154). -/
def Dev.joinGather (d : Dev) (a l : Nat) (t : WTok) (implausible : Bool) (g : GatherS) : GatherS :=
  if g.seen.contains l || d.gatherOver g then g
  else if t.flags || implausible || d.fld (F.SRV_LSTAT_FAULT (2 + 10 * a + l)) != 0 then { g with seen := g.seen ++ [l] }
  else { g with seen := g.seen ++ [l], first := some (g.first.getD d.now), parts := g.parts ++ [d.combCoord a l g.near t] }

/-- A head's part in the comb gather of its wedge number (R154). A token of a wedge whose gather has closed comes too late. -/
def Dev.contribute (d : Dev) (a l : Nat) (t : WTok) (implausible : Bool) : Dev :=
  let m := d.mode a
  if m < 2 ∨ 5 < m ∨ (d.lp a).holding ∨ (d.fld (F.SRV_CONTRIB_HEADS a)).testBit l = false ∨ d.lastComb a = some t.wedge then d
  else
    let gs := d.gathers a
    let gs := if gs.any fun g => decide (g.wedge = t.wedge) then gs else gs ++ [{ wedge := t.wedge, near := d.nearTrack a }]
    d.setGathers a (gs.map fun g => if g.wedge = t.wedge then d.joinGather a l t implausible g else g)

/-- Two consecutive valid SAMs of a contributing head end LOAD, and holding until REACQ_MS (Table 6.5). -/
def Dev.reacquire (d : Dev) (a l : Nat) (t : WTok) : Dev :=
  let k := 2 + 10 * a + l
  let n := if t.miss || t.tidErr then 0 else (d.lp k).sams + 1
  let d := d.setLp k { d.lp k with sams := n }
  let since := (d.lp a).since
  let hold := d.mode a == 5 && (d.lp a).holding && decide (d.now ≤ since + 1000000 * d.fld (F.SRV_LPARK_REACQ_MS a))
  if n < 2 ∨ !(d.mode a == 1 || hold) ∨ (d.fld (F.SRV_CONTRIB_HEADS a)).testBit l = false then d
  else
    let near := d.nearTrack a
    let pos := roundAway (d.combCoord a l near t) (d.combDen a near)
    let d := (d.enter a 5 true)
    let d := (d.setLp a { d.lp a with pos := pos }).rampFrom a (d.target a)
    if hold then d.loopEvent a 0x04 (d.lp a).tgt ((d.now - since) / 1000000) 0 else d.orderDone a [1]

/-- SERVO_WEDGE_ACCEPT (R153, R157, R160): SRV takes a token of head n, its parity checked; the microactuator loop computes, the inhibit is evaluated, the
head joins the gather. `flip` is a bit that the lane has flipped, `pair` the compare pair that computes, `mismatch` whether its lanes disagree, `ns` the
latency of R175. -/
def execServoWedgeAccept (n : Fin 20) (flip : Option Nat) (pair : Fin 4) (mismatch : Bool) (ns : Nat) (s : State) : Out :=
  s.doesIn 3 fun d =>
    match d.acceptFrom .srv (2 + n) flip with
    | none => d
    | some (b, d) =>
      let k := 2 + n.val
      let t := wtok b
      let r := burstRatio t.ampN t.ampQ
      let bad := d.flag F.SRV_CTRL_LINCHK_EN && !t.low && decide (512 < (t.pes - r).natAbs)
      let d := if bad then (d.bump .srv 3).event .srv 0x08 (tc 32 t.pes) (tc 32 r) t.wedge k else d
      let d := d.inhibitEval n t
      let a := loopAct k
      let d := d.takeDue k
      let d := if d.mode k = 0 then d
        else
          let (hidden, d) := d.injMissing k
          (((d.countWedge k).onPair k pair t.wedge mismatch (·.microWedge k t hidden bad)).latency k ns)
      (d.contribute a (loopHead k) t bad).reacquire a (loopHead k) t

/-- The VCM loop at one comb wedge (R154, R160, R166). Its change to SIT takes the waiting microactuators along (Table 6.7). -/
def Dev.combWedge (d : Dev) (a : Nat) (g : Option GatherS) : Dev :=
  let m := d.mode a
  let kd := if m = 2 then 1 else 0
  let ps := d.cfgShift a kd
  let d := if m = 2 then d.stepProfile a else d.rampStep a
  let (hidden, d) := d.injMissing a
  let parts := match g with | some g => if hidden then [] else g.parts | none => []
  let den := parts.length * d.combDen a (match g with | some g => g.near | none => 0)
  let missing := den == 0
  let (add, d) := if missing then (none, d) else d.injZ a
  let num := parts.foldl (· + ·) 0
  let diff := num - den * (d.target a + (d.lp a).rho) + den * add.getD 0
  let x := if missing then 0 else roundAway diff den
  let z1 := if missing then 0 else qSat (roundAway (diff * 2 ^ 28) (den * 2 ^ ps))
  let z2 := (d.lp a).z2 * 2 ^ 13
  let (d, used) := d.compute a { z := if missing then none else some (z1, z2)
                                 aref := if m = 2 then qPos ps (d.lp a).ap else 0, injected := hidden || add.isSome }
  let d := if missing then d else (d.noteZ a z1 z2 x).setLp a { d.lp a with pos := roundAway num den }
  let d := d.settle a used missing diff den
  let vel := (sext 32 (d.fld (F.SRV_XH_XH a 1))).natAbs * 2 ^ ps
  if d.mode a = 2 ∧ (d.lp a).ended ∧ !missing ∧ diff.natAbs ≤ d.fld (F.SRV_LFETCH_SIT_POS a) * den ∧ vel ≤ d.fld (F.SRV_LFETCH_SIT_VEL a) * 2 ^ 28 then
    (microsOf a).foldl (fun d k => d.microSit k) ((d.enter a 3 true).rampFrom a (d.target a))
  else d

/-- Whether the token of every head that can contribute has arrived in an open gather. -/
def Dev.gatherFull (d : Dev) (a : Nat) (g : GatherS) : Bool :=
  (List.range 10).all fun l => (d.fld (F.SRV_CONTRIB_HEADS a)).testBit l == false || d.fld (F.SRV_LSTAT_FAULT (2 + 10 * a + l)) != 0 ||
    g.seen.contains l

/-- Wedge number of the comb wedge that closes: that of the oldest open gather, else the one after the last. -/
def Dev.combNumber (d : Dev) (a : Nat) : Nat := match d.gathers a, d.lastComb a with
  | g :: _, _ => g.wedge
  | [], some c => (c + 1) % max (d.wedgesOf a) 1
  | [], none => 0

/-- GATHER_CLOSE (R154): the oldest gather closes on its last token or GATHER_NS after the first that contributes; without one that contributes the comb
wedge is missing. (DEDUCED, log entry 77) -/
def execGatherClose (a : Fin 2) (pair : Fin 4) (mismatch : Bool) (ns : Nat) (s : State) : Out :=
  s.doesIn 3 fun d =>
    let g := (d.gathers a).head?
    let ready := match g with
      | some g => d.gatherFull a g || d.gatherOver g || g.first.isNone
      | none => true
    if !ready || !d.hasLoop a then d
    else
      let w := d.combNumber a
      let d := d.setGathers a ((d.gathers a).drop 1)
      let d := { d with srv := { d.srv with closed := d.srv.closed.set (fun _ => none) a (some w) } }
      let d := d.takeDue a
      let m := d.mode a
      if m < 2 ∨ 5 < m ∨ (d.lp a).holding then d
      else ((d.countWedge a).onPair a pair w mismatch (·.combWedge a g)).latency a ns

/-- One tick of a VCM loop without wedges (R161): z1 is the back-EMF minus the velocity set-point, scaled by 2^-15; holding keeps the integrator's last
output through the cascade. -/
def Dev.tickLoop (d : Dev) (a : Nat) (vref : Int) (held : Option Int) : Dev :=
  let (add, d) := d.injZ a
  let z2 := (d.lp a).z2 * 2 ^ 13
  let z1 := qSat (((d.lp a).z2 - vref) * 2 ^ 13 + (match add with | some v => qPos (d.cfgShift a (if held.isSome then 0 else 2)) v | none => 0))
  ((d.compute a { z := some (z1, z2), held := held, injected := add.isSome }).1).noteZ a z1 z2 0

/-- SERVO_TICK (R161): a VCM loop in LOAD, UNLOAD or holding computes on TICK_US, on a compare pair (R176); LOAD and UNLOAD follow the back-EMF set-point,
holding has the set-point 0. -/
def execServoTick (a : Fin 2) (pair : Fin 4) (mismatch : Bool) (s : State) : Out :=
  s.doesIn 3 fun d =>
    let m := d.mode a
    let l := d.lp a
    let hold := m == 5 && l.holding
    if !d.hasLoop a || !(m == 1 || m == 6 || hold) || decide (d.now < l.tick) then d
    else
      let d := (d.setLp a { l with tick := d.now + 1000 * d.fld (F.SRV_LPARK_TICK_US a) }).countWedge a
      let vref := if hold then 0 else sext 16 (if m = 1 then d.fld (F.SRV_LVEL_LOAD_VREF a) else d.fld (F.SRV_LVEL_UNLOAD_VREF a))
      let d := d.onPair a pair 0 mismatch (·.tickLoop a vref (if hold then some l.holdU else none))
      let slow := if m = 6 ∧ 8 * l.z2.natAbs < vref.natAbs then (d.lp a).slow + 1 else 0
      let d := d.setLp a { d.lp a with slow := slow }
      if 10 ≤ slow ∧ d.mode a = 6 then (d.down a).orderDone a [6] else d

/-! ## Faults -/

/-- LOOP_FAULT_INNOV (R167): the third consecutive implausible wedge. -/
def execLoopFaultInnov (k : Fin 22) (s : State) : Out := s.doesIn 3 fun d => d.takeFault k 1

/-- LOOP_FAULT_LOST (R167): the fifth consecutive unused wedge. -/
def execLoopFaultLost (k : Fin 22) (s : State) : Out := s.doesIn 3 fun d => d.takeFault k 2

/-- LOOP_FAULT_SAT (R170): the output has stayed at ±UMAX for SAT_N wedges. -/
def execLoopFaultSat (k : Fin 22) (s : State) : Out := s.doesIn 3 fun d => d.takeFault k 5

/-- INTEGRATOR_CLAMP_WARN (R170): ICL_N wedges at ICLAMP in HEEL or STAY; event 0x060B once per entry. -/
def execIntegratorClampWarn (k : Fin 22) (s : State) : Out :=
  s.doesIn 3 fun d =>
    let l := d.lp k
    if (d.mode k = 4 ∨ d.mode k = 5) ∧ !l.iclLog ∧ d.fld (F.SRV_LRAMP_ICL_N k) ≤ l.iclC ∧ 0 < l.iclC then
      (d.setLp k { l with iclLog := true }).loopEvent k 0x0B (d.mode k) (d.fld (F.SRV_INT_I k)) 0
    else d

/-- FETCH_TMO (R177): FETCH_EXTRA wedges after the profile ended without the SIT condition. -/
def execFetchTmo (a : Fin 2) (s : State) : Out := s.doesIn 3 fun d => d.takeFault a 3

/-- SIT_TMO (R177): SIT_MAX wedges in SIT without settling. -/
def execSitTmo (k : Fin 22) (s : State) : Out := s.doesIn 3 fun d => d.takeFault k 4

/-- LOAD_TMO (R168): LOAD_TMO ms in LOAD. -/
def execLoadTmo (a : Fin 2) (s : State) : Out :=
  s.doesIn 3 fun d =>
    if d.mode a = 1 ∧ (d.lp a).since + 1000000 * d.fld (F.SRV_LPARK_LOAD_TMO a) ≤ d.now then d.loopFault a 6 else d

/-- REACQ_TMO (R168): REACQ_MS ms of holding without reacquiring. -/
def execReacqTmo (a : Fin 2) (s : State) : Out :=
  s.doesIn 3 fun d =>
    if d.mode a = 5 ∧ (d.lp a).holding ∧ (d.lp a).since + 1000000 * d.fld (F.SRV_LPARK_REACQ_MS a) ≤ d.now then d.loopFault a 7 else d

/-- UNLOAD_TMO (R168): UNLOAD_TMO ms in UNLOAD. -/
def execUnloadTmo (a : Fin 2) (s : State) : Out :=
  s.doesIn 3 fun d =>
    if d.mode a = 6 ∧ (d.lp a).since + 1000000 * d.fld (F.SRV_LPARK_UNLOAD_TMO a) ≤ d.now then d.loopFault a 8 else d

/-! ## Orders -/

/-- A mode order (Table 6.8). -/
structure ModeOrder where
  tag : Nat
  loop : Nat
  order : Nat
  wr : Bool
  stripe : Nat
  ofs : Int
deriving DecidableEq, Repr

/-- Read the 32 bytes of a mode order; FLAGS[7:1] and the RES bytes, which a sender leaves zero, mean nothing (Table 6.8). (DESIGN CHOICE, log entry 77) -/
def modeOrder (b : Bytes) : ModeOrder :=
  { tag := leAt b 0 2, loop := leAt b 2 1, order := leAt b 3 1, wr := bitAt (leAt b 4 1) 0, stripe := leAt b 8 4, ofs := sext 16 (leAt b 12 2) }

/-- SRV takes the order at the head of the CMD pool of MSQj if it is one that the command serves, and acts on it (R171, R185). -/
def Dev.acceptOrder (d : Dev) (j : Nat) (flip : Option Nat) (mine : ModeOrder → Bool) (act : ModeOrder → Dev → Dev) : Dev :=
  match d.acceptFrom .srv j flip with
  | none => d
  | some (b, d') => if mine (modeOrder b) then act (modeOrder b) d' else d

/-- The order names an existing loop and has the given code. -/
def Dev.isOrder (d : Dev) (code : Nat) (o : ModeOrder) : Bool := d.hasLoop o.loop && o.order == code

/-- ORDER_SUPERSEDED (R173): an outstanding order of the loop is reported before the new order is acted on. -/
def Dev.supersede (d : Dev) (k : Nat) : Dev :=
  match (d.lp k).order with
  | some o => (d.setLp k { d.lp k with order := none }).modeReport k o.tag 2 0 o.wedges
  | none => d

/-- Refuse an order (Table 6.9). -/
def Dev.refuseOrder (d : Dev) (k tag : Nat) : Dev := d.modeReport k tag 3 (d.fld (F.SRV_LSTAT_FAULT k)) 0

/-- Take an order: the outstanding one is superseded; if it is accepted, the loop's fault code clears and `act` carries it out. -/
def Dev.takeOrder (d : Dev) (k tag code : Nat) (accept : Bool) (act : Dev → Dev) : Dev :=
  if !d.hasLoop k then d.refuseOrder k tag
  else
    let d := d.supersede k
    if accept then act ((d.setFld (F.SRV_LSTAT_FAULT k) 0).setLp k { d.lp k with order := some { tag := tag, code := code } })
    else d.refuseOrder k tag

/-- The loop's sets have passed the rules of R164 at some commit. -/
def Dev.setsOk (d : Dev) (k : Nat) : Bool := (d.lp k).okHeel && (d.lp k).okFetch && (decide (2 ≤ k) || (d.lp k).okRamp)

/-- SPN reports the spindle locked (R191). -/
def Dev.spinLocked (d : Dev) : Bool := d.flag F.SPN_STAT_LOCKED

/-- The lane of an actuator is up and not failed (Table 6.5). -/
def Dev.laneUp (d : Dev) (a : Nat) : Bool := (d.fld F.ACT_STAT_UP).testBit a && !(d.fld F.ACT_STAT_FAILED).testBit a

/-- A VCM loop goes to LOAD (R168). -/
def Dev.loadVcm (d : Dev) (k : Nat) : Dev :=
  let d := (d.microsDown k).enter k 1 false
  d.setLp k { d.lp k with tick := d.now }

/-- A VCM loop may go to LOAD: it is in DOWN, its sets are approved, the spindle is locked and its lane up (Table 6.5). -/
def Dev.mayLoad (d : Dev) (k : Nat) : Bool := d.mode k == 0 && d.setsOk k && d.spinLocked && d.laneUp k

/-- SERVO_LOAD_ORDER (R168): a VCM loop in DOWN, with the spindle locked and its lane up, goes to LOAD. -/
def execServoLoadOrder (j : Fin 2) (flip : Option Nat) (s : State) : Out :=
  s.doesIn 3 fun d => d.acceptOrder j flip (d.isOrder 1) fun o d =>
    d.takeOrder o.loop o.tag 1 (decide (o.loop < 2) && d.mayLoad o.loop) fun d => d.loadVcm o.loop

/-- Start of a seek of a VCM loop (R166, Table 6.5): the profile starts from the estimate; microactuators bound elsewhere go to DOWN. -/
def Dev.startSeek (d : Dev) (k st : Nat) : Dev :=
  let l := d.lp k
  let m := d.mode k
  let ps := d.cfgShift k (if m = 2 then 1 else 0)
  let est (i : Nat) : Int := roundAway (sext 32 (d.fld (F.SRV_XH_XH k i)) * 2 ^ ps) (2 ^ 28)
  let rp := d.target k + l.rho + est 0
  let vp := (if m = 2 then l.vp else 0) + est 1
  let d := (microsOf k).foldl (fun d j => if (d.lp j).tgt ≠ st then d.down j else d) d
  let d := d.setLp k { d.lp k with tgt := st }
  let d := if m = 2 then d else (d.fetchSwap k).enter k 2 false
  let d := if m = 2 then d.shiftXp k (rp - l.rp) (vp - l.vp) else d
  (d.setLp k { d.lp k with rp := rp, vp := vp, ap := 0, ended := false, extra := 0, rho := rp - d.target k }).bump .srv 6

/-- Start of a microactuator's move (Table 6.6). -/
def Dev.startMicro (d : Dev) (k st : Nat) (wr : Bool) (ofs : Int) : Dev :=
  let d := d.setLp k { d.lp k with tgt := st, wr := wr, ofs := ofs, rho := 0 }
  let d := d.setLp k { d.lp k with u0 := d.feedforward k }
  ((d.fetchSwap k).enter k 2 false).bump .srv 6

/-- A FETCH order: a seek of a VCM loop, or a microactuator's move to its VCM loop's stripe track (R166, R168). -/
def Dev.fetchOrder (d : Dev) (o : ModeOrder) : Dev :=
  let k := o.loop
  let m := d.mode k
  let a := loopAct k
  let okOfs := decide (o.ofs.natAbs ≤ 1024)
  if k < 2 then d.takeOrder k o.tag 2 (decide (2 ≤ m ∧ m ≤ 5) && !(d.lp k).holding && d.setsOk k && okOfs) (·.startSeek k o.stripe)
  else
    d.takeOrder k o.tag 2 ((m == 0 || decide (3 ≤ m ∧ m ≤ 5)) && d.setsOk k && okOfs && decide (2 ≤ d.mode a ∧ d.mode a ≤ 5) &&
      !(d.lp a).holding && (d.lp a).tgt == o.stripe) (·.startMicro k o.stripe o.wr o.ofs)

/-- SERVO_FETCH_ORDER (R166, R168). A fault that is due comes before the order. -/
def execServoFetchOrder (j : Fin 2) (flip : Option Nat) (s : State) : Out :=
  s.doesIn 3 fun d => d.acceptOrder j flip (d.isOrder 2) fun o d => (d.takeDue o.loop).fetchOrder o

/-- A STAY order: HEEL to STAY, reported when the loop reaches it; a loop already in STAY is reported at once (R168). -/
def Dev.stayOrder (d : Dev) (k tag : Nat) : Dev :=
  let m := d.mode k
  d.takeOrder k tag 5 ((m == 4 || (m == 5 && !(d.lp k).holding)) && d.setsOk k) fun d => (if m = 4 then d.enter k 5 false else d).orderDone k [5]

/-- SERVO_STAY_ORDER (R168). -/
def execServoStayOrder (j : Fin 2) (flip : Option Nat) (s : State) : Out :=
  s.doesIn 3 fun d => d.acceptOrder j flip (d.isOrder 5) fun o d => (d.takeDue o.loop).stayOrder o.loop o.tag

/-- Send a loaded VCM loop to UNLOAD, its microactuators to DOWN first (Table 6.5). -/
def Dev.unloadVcm (d : Dev) (k : Nat) : Dev :=
  if d.mode k = 0 ∨ d.mode k = 6 then d
  else
    let d := (d.microsDown k).enter k 6 false
    d.setLp k { d.lp k with tick := d.now }

/-- An UNLOAD order: accepted in every mode (R164, R168). -/
def Dev.unloadOrder (d : Dev) (k tag : Nat) : Dev :=
  d.takeOrder k tag 6 true fun d =>
    if k < 2 then (if d.mode k = 0 then d.orderDone k [6] else d.unloadVcm k) else (d.down k).orderDone k [6]

/-- SERVO_UNLOAD_ORDER (R168, R209): an UNLOAD order of MSQj, or the retract order of the power-fail sequence to the VCM loop of actuator j, which also sets
RCLAMP. -/
def execServoUnloadOrder (j : Fin 2) (retract : Bool) (flip : Option Nat) (s : State) : Out :=
  s.doesIn 3 fun d =>
    if retract then (if d.hasLoop j then (d.unloadVcm j).setFunc 13 1 else d)
    else d.acceptOrder j flip (d.isOrder 6) fun o d => (d.takeDue o.loop).unloadOrder o.loop o.tag

/-- An OFFSET order (R165): a microactuator loop in HEEL ramps to a new target; U0 is recomputed, no set is swapped. -/
def Dev.offsetOrder (d : Dev) (k tag : Nat) (wr : Bool) (ofs : Int) : Dev :=
    d.takeOrder k tag 7 (decide (2 ≤ k) && d.mode k == 4 && d.setsOk k && decide (ofs.natAbs ≤ 1024)) fun d =>
      let old := d.target k + (d.lp k).rho
      let d := d.setLp k { d.lp k with ofs := ofs, wr := wr }
      let d := d.setLp k { d.lp k with u0 := d.feedforward k }
      let d := d.enter k 3 false
      d.setLp k { d.lp k with rho := old - d.target k }

/-- SERVO_OFFSET_ORDER (R165). -/
def execServoOffsetOrder (j : Fin 2) (flip : Option Nat) (s : State) : Out :=
  s.doesIn 3 fun d => d.acceptOrder j flip (d.isOrder 7) fun o d => (d.takeDue o.loop).offsetOrder o.loop o.tag o.wr o.ofs

/-- SERVO_ORDER_REFUSED (R171): another ORDER code, or a loop that does not exist (R152). -/
def execServoOrderRefused (j : Fin 2) (flip : Option Nat) (s : State) : Out :=
  s.doesIn 3 fun d => d.acceptOrder j flip (fun o => !(d.hasLoop o.loop && [1, 2, 5, 6, 7].contains o.order)) fun o d =>
    (if d.hasLoop o.loop then d.supersede o.loop else d).refuseOrder o.loop o.tag

/-! ## Coefficient memory, injection -/

/-- A write to coefficient memory (R163): refused in an active bank, or in the RAMP set outside DOWN; a write to a bank whose swap is pending
cancels the swap. -/
def Dev.coefWrite (d : Dev) (a v who : Nat) : Dev :=
  let off := a - 0x03010000
  let k := off / 0x2000
  let o := off % 0x2000
  if !d.hasLoop k || decide (0x1400 ≤ o) || (decide (0x1000 ≤ o) && decide (2 ≤ k)) then (d.regWrite a v who).1
  else if 0x1000 ≤ o then
    if d.mode k = 0 then (d.regWrite a v who).1 else d.event .srv 0x05 a (d.mode k) 0 k
  else
    let kind := o / 0x800
    let bank := o % 0x800 / 0x400
    let pend := if kind = 0 then F.SRV_LSTAT_HEEL_PEND k else F.SRV_LSTAT_FETCH_PEND k
    if d.activeBank k kind = bank then d.event .srv 0x05 a (d.mode k) 0 k
    else
      let d := if d.flag pend then (d.setFld pend 0).event .srv 0x06 a (1 - kind) 0 k else d
      (d.regWrite a v who).1

/-- COEF_MEMORY_WRITE (R163). -/
def execCoefMemoryWrite (a v : Word) (who : Requester) (s : State) : Out :=
  s.doesIn 3 fun d => if 0x03010000 ≤ a.toNat ∧ a.toNat < 0x03010000 + 0x2000 * 22 then d.coefWrite a.toNat v.toNat (reqCode who) else d

/-- SRV_INJECT_ARM (R182): a write to SRV.INJECT. -/
def execSrvInjectArm (v : Word) (who : Requester) (s : State) : Out :=
  s.doesIn 3 fun d =>
    let d := (d.regWrite 0x03000030 v.toNat (reqCode who)).1
    { d with srv := { d.srv with injCount := 0 } }

/-! ## Accelerometer -/

/-- An accelerometer sample of six bytes, all 0x00 or all 0xFF, is missing (R181). -/
def sampleMissing (b : Bytes) : Bool := b.all (· == 0) || b.all (· == 0xFF)

/-- Largest magnitude on any axis. -/
def sampleMag (b : Bytes) : Nat :=
  max (sext 16 (leAt b 0 2)).natAbs (max (sext 16 (leAt b 2 2)).natAbs (sext 16 (leAt b 4 2)).natAbs)

/-- A trip of the shock inhibit of actuator a (R144): the inhibit is up and its hold starts again. -/
def Dev.shockTrip (d : Dev) (a : Nat) : Dev :=
  if a = 0 then { d with wrp := { d.wrp with shock0 := some d.now } } else { d with wrp := { d.wrp with shock1 := some d.now } }
def Dev.shockUp (d : Dev) (a : Nat) : Bool := if a = 0 then d.wrp.shock0.isSome else d.wrp.shock1.isSome

/-- ACCEL_SAMPLE (R144, R181): every PERIOD_US a sample of six bytes is read; a valid one goes to WRP, and above ACC_THR it raises the shock
inhibits; MISS_N missing ones in a row fail the accelerometer. (DESIGN CHOICE, log entry 27) -/
def execAccelSample (b : Bytes) (s : State) : Out :=
  s.doesIn 3 fun d =>
    if d.now < d.srv.accAt + 1000 * d.fld F.SRV_ACCEL_PERIOD_US then d
    else
      let d := { d with srv := { d.srv with accAt := d.now } }
      if sampleMissing b then
        let n := d.srv.accMiss + 1
        let d := ({ d with srv := { d.srv with accMiss := n } }).bump .srv 11
        if n = d.fld F.SRV_ACCEL_MISS_N then (d.setFld F.SRV_STAT_ACC_FAIL 1).event .srv 0x0A n 0 0 0 else d
      else
        let d := { d with srv := { d.srv with accMiss := 0 } }
        if d.flag F.WRP_SHOCK_ACC_EN && decide (d.fld F.WRP_SHOCK_ACC_THR < sampleMag b) then
          let acts := if d.v then [0] else [0, 1]
          let mask := acts.foldl (fun m a => if d.shockUp a then m else m ||| (1 <<< a)) 0
          let d := acts.foldl (fun d a => d.shockTrip a) d
          if mask = 0 then d else d.event .wrp 0x05 1 mask (sampleMag b) 0x0102
        else d

end Sys2Proof.Machine
end

