-- ==== Sys2Proof/Machine/Write.lean ====
section
/-! DEFINITION. Machine/Write.lean: the commands of the write path and the arm links (chapter Write Path, Arm Links and Write Inhibit). -/
namespace Sys2Proof.Machine

/-! ## Arm links -/

def Dev.alink (d : Dev) (a : Nat) : ALinkS := d.wrp.links.get (fun _ => ({} : ALinkS)) a
def Dev.setAlink (d : Dev) (a : Nat) (l : ALinkS) : Dev := { d with wrp := { d.wrp with links := d.wrp.links.set (fun _ => ({} : ALinkS)) a l } }

/-- AL_FAIL[a]. (DESIGN CHOICE, log entry 20) -/
def Dev.linkFailed (d : Dev) (a : Nat) : Bool := (d.fld F.WRP_STAT_AL_FAIL).testBit a
def Dev.hasLink (d : Dev) (a : Nat) : Bool := !(d.v && a == 1)

/-- The heads of actuator a. -/
def headsOf (a : Nat) : List Nat := (List.range 10).map fun l => 10 * a + l

/-- The 7 bytes of a command frame, sent most significant bit first (Table 5.2). (DEDUCED, log entry 22) -/
def AFrame.bytes (f : AFrame) : Bytes :=
  let body := leBytes 1 (16 * f.op + f.seq) ++ leBytes 1 (16 * f.head) ++ leBytes 1 f.reg ++ leBytes 1 (f.data / 256) ++ leBytes 1 (f.data % 256)
  leBytes 1 0xD3 ++ body ++ leBytes 1 (crc8 body)

/-- Put a command in a link's queue. -/
def Dev.linkAsk (d : Dev) (a : Nat) (f : AFrame) : Dev :=
  if d.linkFailed a then d else d.setAlink a { d.alink a with queue := (d.alink a).queue ++ [f] }

/-- The write record of head n and band b, byte i (Table 5.5). -/
def Dev.wrec (d : Dev) (n b i : Nat) : Nat := getBits (d.word (0x02101000 + 32 * (64 * n + b) + 4 * (i / 4))) (8 * (i % 4)) 8

/-- The preamplifier profile of a link. -/
def Dev.preamp (d : Dev) (a : Nat) : Option Preamp := d.load.preamps.find? fun p => decide (p.id = d.fld (F.WRP_PREID_ID a))

/-- Order a heater code for head n if it differs from the code last sent (R140). -/
def Dev.heatTo (d : Dev) (n code : Nat) : Dev :=
  if !d.flag F.WRP_CTRL_HEAT_EN || (d.whead n).heat = code then d
  else (d.setWhead n { d.whead n with heat := code, heatAt := d.now }).linkAsk (actOf n) { op := 3, seq := 0, head := n % 10, data := code }

/-- The code last sent has stood for PREHEAT_US µs: its HEAT frame has been answered, and that long ago. (DESIGN CHOICE, log entry 22) -/
def Dev.heatStands (d : Dev) (n : Nat) : Bool :=
  let l := d.alink (actOf n)
  !((l.queue ++ l.out.toList).any fun f => f.op == 3 && f.head == n % 10) &&
    decide ((d.whead n).heatAt + 1000 * d.fld F.WRP_HEAT_PREHEAT_US ≤ d.now)

/-- Head n is in write mode, and its MODE frame was sent at least 2 µs ago (R140). -/
def Dev.writeMode (d : Dev) (n : Nat) : Bool :=
  (d.alink (actOf n)).modes.testBit (n % 10) && decide ((d.alink (actOf n)).modesAt + 2000 ≤ d.now)

/-- The record values of head n have reached the preamplifier, at least 2 µs ago (R139). -/
def Dev.recordStands (d : Dev) (n : Nat) : Bool :=
  let l := d.alink (actOf n)
  !((l.queue ++ l.out.toList).any fun f => f.op == 1 && f.head == n % 10) && decide ((d.whead n).recAt ≤ d.now)

/-- The mode bits that the link's last MODE command, sent or waiting, leaves. (DESIGN CHOICE, log entry 22) -/
def ALinkS.modeNext (l : ALinkS) : Nat :=
  match ((l.out.toList ++ l.queue).filter fun f => f.op == 4).getLast? with | some f => f.data | none => l.modes

/-- Heads of actuator a that have a write run or a write order. -/
def Dev.writeHeads (d : Dev) (a : Nat) : List Nat := (headsOf a).filter fun n => (d.whead n).run.isSome || !(d.whead n).orders.isEmpty

/-- Order MODE with the bits of a group of heads, before its first write run; after its last one with the bits cleared, at least 2 µs after the last gate (R140). (DESIGN CHOICE, log entry 22) -/
def Dev.modeTo (d : Dev) (a : Nat) : Dev :=
  let group := d.writeHeads a
  let m := (d.alink a).modeNext
  let want := group.foldl (fun m n => m ||| (1 <<< (n % 10))) 0
  if group = [] then (if m = 0 then d else d.linkAsk a { op := 4, seq := 0, head := 0xF, data := 0, after := d.now + 2000 })
  else if want ||| m = m then d else d.linkAsk a { op := 4, seq := 0, head := 0xF, data := m ||| want }

/-! ## Sector data -/

/-- The buffer write-cache sector of an LBA on the media of a run (R135). -/
def Dev.cacheFor (d : Dev) (o : RunOrder) (i : Nat) : Option CacheSec :=
  d.zne.cache.find? fun c => decide (c.nsid = o.nsid ∧ c.rlba = runLba o.lba o.w i)

/-- The information bytes of a sector: XTS with its recorded LBA as tweak, then the CRC of R78. -/
def Dev.sectorInfo (d : Dev) (o : RunOrder) (rlba : Nat) (data : Bytes) : Bytes :=
  let x := if o.keySlot = 0xFFFF then data else Config.xts true ((d.sec.keys.get (fun _ => none) o.keySlot).getD []) rlba data
  x ++ leBytes 4 (crc32c (crcSeed rlba o.nsid) x)

/-- Change the run of a head. -/
def Dev.modRun (d : Dev) (n : Nat) (f : WRunS → WRunS) : Dev := d.setWhead n { d.whead n with run := (d.whead n).run.map f }

/-- The next sector of a head's run for which no data has been asked: its number on the track, and whether a read is out. -/
def Dev.askKey (d : Dev) (n : Nat) : Option (Nat × Bool) :=
  match (d.whead n).run with
  | some r => if r.asked < r.ord.count ∨ r.reqId.isSome then some (r.ord.first + r.asked, r.reqId.isSome) else none
  | none => none

/-- Head n's next sector is the first in time among the actuator's sectors for which no data has been asked (R136). (DESIGN CHOICE, log entry 24) -/
def Dev.askFirst (d : Dev) (n : Nat) : Bool :=
  match d.askKey n with
  | some (k, false) => (headsOf (actOf n)).all fun m => match d.askKey m with
      | some (j, busy) => decide (k ≤ if busy then j + 1 else j)
      | none => true
  | _ => false

/-- Ask BUF for the next sector of a head's run. A sector destaged as zeros needs no read (R345). -/
def Dev.askSector (d : Dev) (n : Nat) : Dev :=
  match (d.whead n).run with
  | none => d
  | some r =>
    if !d.askFirst n then d
    else match d.cacheFor r.ord r.asked with
      | none => d.modRun n fun r => { r with asked := r.asked + 1 }
      | some c =>
        if c.zero then
          d.modRun n fun r => { r with held := r.held ++ [(r.asked, d.sectorInfo r.ord c.rlba (List.replicate 4096 0))], asked := r.asked + 1 }
        else
          let id := 32 * d.wrp.nextId + n
          let d : Dev := { d with wrp := { d.wrp with nextId := d.wrp.nextId + 1 } }
          (d.modRun n fun r => { r with reqId := some id }).bufAsk { client := 1, id := id, line := c.addr / 128, n := 32, op := .read }

/-- Ask BUF for the sectors of an actuator's runs in time order of their preambles, as far as they can go now. -/
def Dev.askAll (d : Dev) (a : Nat) : Dev := (headsOf a).foldl (fun (d : Dev) n => d.askSector n) d

/-! ## Runs -/

/-- The spindle revolution in progress: the revolutions SPN has counted. -/
def Dev.revolution (d : Dev) : Nat := (d.counter .spn 0).toNat

/-- The report of a write run (Table 5.7). -/
def Dev.writeReport (d : Dev) (n : Nat) (r : WRunS) (extra : Nat) : RunReport :=
  { tag := r.ord.tag, head := n, sent := r.written, slipped := 0, firstSlip := r.firstNw.getD 0xFFFF, flags := r.flags ||| extra
    write := true, peak := min r.peak 65535, notWritten := r.notWritten, ord := r.ord, landed := r.landed, rev := d.revolution }

/-- The 16 bytes of a run report: of a channel (R113), or of WRP (Table 5.7). -/
def reportBytes (r : RunReport) : Bytes :=
  leBytes 2 r.tag ++ leBytes 2 r.sent ++ leBytes 2 (if r.write then r.notWritten else r.slipped) ++ leBytes 2 r.firstSlip ++ leBytes 1 r.flags ++ [0] ++
    leBytes 2 (if r.write then r.peak else 0) ++ [0, 0, 0, 0]

/-- The report of an order answered at once with ALINK_LOST (R132): no sector is written. (DESIGN CHOICE, log entry 23) -/
def lostReport (n : Nat) (o : RunOrder) : RunReport :=
  { tag := o.tag, head := n, sent := 0, slipped := 0, firstSlip := 0, flags := 8, write := true, notWritten := o.count, ord := o }

/-- A heater notice's answer: a write run report with every count zero (R140), or ALINK_LOST (R132). -/
def noticeReport (n : Nat) (o : RunOrder) (lost : Bool) : RunReport :=
  { tag := o.tag, head := n, sent := 0, slipped := 0, firstSlip := 0xFFFF, flags := if lost then 8 else 0, write := true, ord := o, notice := true }

/-- Send the record values of the run's band where R139 asks for them. -/
def Dev.sendRecord (d : Dev) (n b : Nat) : Dev :=
  let h := d.whead n
  if h.lastBand = some b ∧ ¬ h.dirty.contains b then d
  else
    let d := d.setWhead n { h with lastBand := some b, dirty := h.dirty.filter (· != b) }
    match d.preamp (actOf n) with
    | none => d
    | some p =>
      let w (reg i : Nat) : AFrame := { op := 1, seq := 0, head := n % 10, reg := reg, data := d.wrec n b i }
      ((d.linkAsk (actOf n) (w p.iwReg 2)).linkAsk (actOf n) (w p.osaReg 3)).linkAsk (actOf n) (w p.osdReg 4)

/-- Start the next waiting write run of a head: heater, record and mode frames, and the first sector read; the values of the band's record hold for the run (R135, R139, R140). -/
def Dev.startWrite (d : Dev) (n : Nat) : Dev :=
  let h := d.whead n
  match h.run, h.orders with
  | none, (o, retry, t) :: rest =>
    let code := d.wrec n o.band 0
    let wofs := sext 16 (d.wrec n o.band 6 + 256 * d.wrec n o.band 7)
    let pcomp := (List.range 8).map fun i => sext 8 (d.wrec n o.band (8 + i))
    let d := d.setWhead n { h with run := some { ord := o, retry := retry, accepted := t, code := code, wofs := wofs, pcomp := pcomp }, orders := rest }
    (((d.heatTo n code).sendRecord n o.band).modeTo (actOf n)).askAll (actOf n)
  | _, _ => d

/-- A write run's report goes to MSQa, and the sectors it names as written leave the write cache (R146, R355). -/
def Dev.wroteReport (d : Dev) (r : RunReport) : Dev :=
  let d := d.runReport r
  let d : Dev := r.landed.foldl (fun (d : Dev) i => match d.cacheFor r.ord i with | some c => d.secWritten c | none => d) d
  d.pruneOrders

/-- End a head's write run: the report goes to MSQa; the next order starts, or MODE clears the bits after the group's last run and a waiting notice gets its
heater code. -/
def Dev.endWrite (d : Dev) (n : Nat) (r : WRunS) (extra : Nat) : Dev :=
  let d := (d.setWhead n { d.whead n with run := none }).wroteReport (d.writeReport n r extra)
  let d :=
    if (d.whead n).orders ≠ [] then d.startWrite n
    else
      let d := d.modeTo (actOf n)
      match (d.whead n).notices with
      | x :: _ => d.heatTo n x.code
      | [] => d
  d.askAll (actOf n)

/-- The sector under a raised gate has ended: it is written (R146). -/
def Dev.sectorWritten (d : Dev) (n : Nat) : Dev :=
  match (d.whead n).run with
  | some r => match r.gate with
    | some i => (d.modRun n fun r => { r with gate := none, up := false, written := r.written + 1, next := i + 1, landed := r.landed ++ [i] }).bump .wrp 0
    | none => d
  | none => d

/-- What the gate of head n has done by now: it has fallen at the end of the interval's data area before a wedge, or at the sector's end (R141). -/
def Dev.gateNow (d : Dev) (n : Nat) : Dev :=
  match (d.whead n).run with
  | some r =>
    if r.gate.isSome && r.up && decide (r.ends ≤ d.now) then
      (if r.parts = [] then d.sectorWritten n else d.modRun n fun r => { r with up := false })
    else d
  | none => d

/-- A sector that is not written, with its cause flags (R147). -/
def Dev.notWritten (d : Dev) (n i flags : Nat) : Dev :=
  d.modRun n fun r => { r with gate := none, up := false, next := i + 1, notWritten := r.notWritten + 1, firstNw := some (r.firstNw.getD i)
                               flags := r.flags ||| flags, held := r.held.filter fun x => decide (i < x.1) }

/-- The level of INH[n] is injected (Table 5.9). (DESIGN CHOICE, log entry 24) -/
def Dev.injInh (d : Dev) (n : Nat) : Bool :=
  d.flag F.WRP_INJECT_ARM && d.fld F.WRP_INJECT_HEAD = n && decide (0 < d.fld F.WRP_INJECT_SECTORS)

/-- Count one sector start against an injection. -/
def Dev.injStart (d : Dev) (_n : Nat) : Dev :=
  let k := d.fld F.WRP_INJECT_SECTORS - 1
  let d := d.setFld F.WRP_INJECT_SECTORS k
  if k = 0 then d.setFlag F.WRP_INJECT_ARM false else d

/-- Event 0x0504, once for each rise of INH[n] that cuts a sector or stops one (R145). (DESIGN CHOICE, log entry 23) -/
def Dev.inhEvent (d : Dev) (n i : Nat) (inj : Bool) : Dev :=
  let h := d.whead n
  match h.run with
  | none => d
  | some r => if h.logged then d else
    (d.setWhead n { h with logged := true }).event .wrp 0x04 r.ord.track (r.ord.first + i) (h.peak + injBit inj) n

/-- Head n's loops are in HEEL at the write offset (G1). -/
def Dev.heelWrite (d : Dev) (n : Nat) : Bool := d.mode (actOf n) = 4 && d.mode (2 + n) = 4 && (d.lp (2 + n)).wr

/-- PWR or SPN reports a power-fail (G8). -/
def Dev.pfUp (d : Dev) : Bool := d.flag F.PWR_STAT_PF || d.flag F.SPN_STAT_PF

/-- Failing conditions G1 to G9 of Table 5.6 for sector i, as (flags of R147, slip to be counted). What WRITE_SLIPS counts besides R136's slips is open. (DESIGN CHOICE, log entry 24) -/
def Dev.gateFails (d : Dev) (n i : Nat) (r : WRunS) : Nat × Bool :=
  let a := actOf n
  let g12 := !d.heelWrite n || d.inhNow n
  let g3 := d.shockUp a
  let g4 := !(r.held.any fun x => decide (x.1 = i))
  let g5 := !d.writeMode n || !d.recordStands n || (d.flag F.WRP_CTRL_HEAT_EN && !((d.whead n).heat = r.code && d.heatStands n))
  let flt := (d.alink a).fltLow
  let g7 := !d.granted n true
  let g8 := !d.spinLocked || d.pfUp
  let late := decide (d.now < r.accepted + 2000)
  let slip := g4 || g5 || g7 || g8 || late || !d.flag F.WRP_CTRL_WR_EN
  (g12.toNat + 2 * g3.toNat + 4 * flt.toNat + 8 * (d.linkFailed a).toNat + 16 * slip.toNat, g4 || g7)

/-- Failing conditions G2, G3, G6 and G8 under a raised gate, as (flags of R147, G8 fails). -/
def Dev.cutCause (d : Dev) (n : Nat) : Nat × Bool :=
  let a := actOf n
  ((d.inhNow n).toNat + 2 * (d.shockUp a).toNat + 4 * ((d.alink a).fltLow).toNat + 8 * (d.linkFailed a).toNat, !d.spinLocked || d.pfUp)

/-- When `bits` channel bits that begin now have passed, at the band's rate B_b / P (R137). -/
def Dev.bitsEnd (d : Dev) (n : Nat) (o : RunOrder) (bits : Nat) : Nat := d.now + cdiv (bits * (d.chan n).sam.period) (max 1 (d.bitsIv o n))

/-- Raise head n's gate for the next part of its sector, and drive the part's bits on its write-data pair, moved by precompensation (R135, R138). They begin within two channel
bits of their place (R137). (DESIGN CHOICE, log entry 24) -/
def Dev.drivePart (d : Dev) (n : Nat) (pos : Int) (p : List Bool) (rest : List (List Bool)) : Dev :=
  let h := d.whead n
  match h.run with
  | none => d
  | some r =>
    let jitter : Int := (Config.freeNat d.free % 5 : Nat) - 2
    let d : Dev := { d with free := d.free + 1 }
    d.setWhead n { h with line := precomp (if d.flag F.WRP_CTRL_PCOMP_EN then r.pcomp else []) p, lineAt := pos + r.wofs + jitter
                          run := some { r with up := true, parts := rest, ends := d.bitsEnd n r.ord p.length } }

/-- Raise the gate for sector i of a run (R141): its codeword in the fields of Table 3.7, cut where wedges split it (R79). -/
def Dev.raiseGate (d : Dev) (n i : Nat) (r : WRunS) : Dev :=
  let info := ((r.held.find? fun x => decide (x.1 = i)).map Prod.snd).getD []
  let pos := ((d.sectorPos n r.ord i).map Prod.snd).getD 0
  let dIv := match d.fmtOf (actOf n) with | some f => (bandAt f r.ord.band).dataIv | none => 0
  match sectorParts dIv 64 pos (sectorBits (ldpcCodeword info)) with
  | p :: rest => (d.modRun n fun r => { r with gate := some i, held := r.held.filter fun x => decide (i < x.1) }).drivePart n pos p rest
  | [] => d

/-! ## Failure of a link -/

/-- Drop a raised gate: the sector is cut (R142). -/
def Dev.cutGate (d : Dev) (n flags : Nat) : Dev :=
  match (d.whead n).run with
  | some r => match r.gate with
    | some i => (d.notWritten n i (flags ||| 32)).bump .wrp 4
    | none => d
  | none => d

/-- End the write runs, orders and notices of a head with ALINK_LOST. (DESIGN CHOICE, log entry 23) -/
def Dev.loseWrites (d : Dev) (n : Nat) : Dev :=
  let d := (d.gateNow n).cutGate n 8
  let h := d.whead n
  let d := match h.run with
    | some r => d.wroteReport (d.writeReport n { r with notWritten := r.ord.count - r.written, firstNw := some (r.firstNw.getD r.next) } 8)
    | none => d
  let d := h.orders.foldl (fun (d : Dev) x => d.runReport (lostReport n x.1)) d
  let d := h.notices.foldl (fun (d : Dev) x => d.runReport (noticeReport n x.ord true)) d
  d.setWhead n { d.whead n with run := none, orders := [], notices := [] }

/-- End the read runs and orders of a channel with ALINK_LOST. A sector that has started still goes to DEC in full (R31): its run ends behind it. -/
def Dev.loseReads (d : Dev) (n : Nat) : Dev :=
  let c := d.chan n
  let d := c.orders.foldl (fun (d : Dev) x =>
    (d.runReport { tag := x.1.tag, head := n, sent := 0, slipped := 0, firstSlip := 0xFFFF, flags := 16 }).readsLost n x.1 0) d
  let d := d.setChan n { d.chan n with orders := [] }
  match c.run with
  | some r =>
    if r.cur.isSome then (d.readsLost n r.ord (r.next + 1)).setChan n { d.chan n with run := some { r with lost := true } }
    else (d.readsLost n r.ord r.next).endRun n r 16
  | none => d

/-- ARM_LINK_FAILED (R132). -/
def Dev.failLink (d : Dev) (a op seq : Nat) : Dev :=
  let d := (d.setFld F.WRP_STAT_AL_FAIL (d.fld F.WRP_STAT_AL_FAIL ||| (1 <<< a))).setAlink a { d.alink a with queue := [], out := none, bring := none }
  let d := (headsOf a).foldl (fun (d : Dev) n => (d.loseWrites n).loseReads n) d
  d.event .wrp 0x03 a op seq (0x100 + a)

/-- A step of Table 5.4 fails: event 0x0502, then the link is declared failed, which logs 0x0503 with the OP and SEQ of the command last sent (R134). (DESIGN CHOICE, log entry 22) -/
def Dev.bringupFail (d : Dev) (a id step op seq : Nat) : Dev := (d.event .wrp 0x02 a id step (0x100 + a)).failLink a op seq

/-- The ID that event 0x0502 names: that of the preamplifier found, or 0xFFFF (Table 5.10). -/
def Dev.foundId (d : Dev) (a : Nat) : Nat := if d.flag (F.WRP_PREID_FOUND a) then d.fld (F.WRP_PREID_ID a) else 0xFFFF

/-- The step of Table 5.4 that a bring-up fails where a command gets no good reply. -/
def BringS.failStep (b : BringS) : Nat := if b.step = 1 then 2 else b.step

/-- Put the bits of the outstanding frame on the link (R130, R131): D and S levels, at least BITNS ns apart; its last bit is sent then. -/
def Dev.driveFrame (d : Dev) (a : Nat) (f : AFrame) : Dev :=
  let l := d.alink a
  let ns := d.fld F.WRP_ALINK_BITNS
  let w := dsEncode l.tx (bitsOfBytes f.bytes)
  d.setAlink a { l with wave := w.mapIdx fun i x => (d.now + ns * i, x.1, x.2), tx := w.getLastD l.tx, sentAt := d.now + ns * (w.length - 1) }

/-- Send the outstanding frame again with its SEQ, or declare the link failed (R132, R134). -/
def Dev.resendFrame (d : Dev) (a : Nat) (f : AFrame) : Dev :=
  let l := d.alink a
  if d.fld F.WRP_ALINK_RESENDS ≤ l.resends then match l.bring with
    | some b => d.bringupFail a (d.foundId a) b.failStep f.op f.seq
    | none => d.failLink a f.op f.seq
  else
    (((d.setAlink a { l with resends := l.resends + 1 }).driveFrame a f).bump .wrp 7).event .wrp 0x08 a f.op f.seq (0x100 + a)

/-! ## Commands -/

/-- ALINK_COMMAND_SEND (R130, R131): the next waiting command goes out under the next SEQ. -/
def execAlinkCommandSend (a : Fin 2) (s : State) : Out :=
  s.doesIn 3 fun d =>
    let l := d.alink a
    match l.out, l.queue with
    | none, f :: rest =>
      if d.linkFailed a || !d.hasLink a || decide (d.now < f.after) then d
      else
        let f := { f with seq := l.seq }
        (d.setAlink a { l with out := some f, queue := rest, resends := 0, seq := (l.seq + 1) % 16 }).driveFrame a f
    | _, _ => d

/-- The next step of a bring-up after a good reply (Table 5.4): ENUM's answer gives ID and head count; the profile's values, MODE and HEAT follow, each reply checked. A step that
fails, or ends later than its bound, fails the bring-up. -/
def Dev.bringStep (d : Dev) (a : Nat) (b : BringS) (f : AFrame) (reg data : Nat) : Dev :=
  let put (b : Option BringS) (d : Dev) : Dev := d.setAlink a { d.alink a with bring := b }
  if f.op = 5 ∧ b.step = 1 then
    let d := ((d.setFld (F.WRP_PREID_FOUND a) 1).setFld (F.WRP_PREID_HEADS a) reg).setFld (F.WRP_PREID_ID a) data
    let d := d.event .wrp 0x01 a data reg (0x100 + a)
    if b.began + 200000 < d.now then d.bringupFail a data 2 f.op f.seq
    else match d.preamp a with
      | none => d.bringupFail a data 3 f.op f.seq
      | some p =>
        if reg ≠ 10 then d.bringupFail a data 3 f.op f.seq
        else
          let d := p.init.foldl (fun (d : Dev) x => d.linkAsk a { op := 1, seq := 0, head := 0xF, reg := x.1, data := x.2 }) d
          let d := d.linkAsk a { op := 4, seq := 0, head := 0xF, data := 0 }
          let d := (headsOf a).foldl (fun (d : Dev) n =>
            (d.setWhead n { d.whead n with heat := d.wrec n 0 1, heatAt := d.now }).linkAsk a { op := 3, seq := 0, head := n % 10, data := d.wrec n 0 1 }) d
          put (some { b with step := if p.init = [] then 4 else 3, left := p.init.length }) d
  else if data ≠ f.data then d.bringupFail a (d.foundId a) b.step f.op f.seq
  else if f.op = 1 then put (some { b with left := b.left - 1, step := if b.left ≤ 1 then 4 else 3 }) d
  else if f.op = 4 then put (some { b with step := 5, left := 10 }) d
  else if b.left ≤ 1 then
    if b.began + 2000000 < d.now then d.bringupFail a (d.foundId a) 5 f.op f.seq
    else put none (d.setFld F.WRP_STAT_AL_UP (d.fld F.WRP_STAT_AL_UP ||| (1 <<< a)))
  else put (some { b with left := b.left - 1 }) d

/-- What a good reply does (Table 5.3): a value stands, HEAT has been set, MODE holds, a fault-register read answers a fault (R133), a bring-up goes on. (DESIGN CHOICE, log entry 22) -/
def Dev.goodReply (d : Dev) (a : Nat) (f : AFrame) (reg data : Nat) : Dev :=
  let l := d.alink a
  let d := d.setAlink a { l with out := none, reply := data, modes := if f.op = 4 then f.data else l.modes, modesAt := if f.op = 4 then l.sentAt else l.modesAt }
  let n := 10 * a + f.head
  let d :=
    if f.op = 3 ∧ f.head < 10 then d.setWhead n { d.whead n with heatAt := d.now }
    else if f.op = 1 ∧ f.head < 10 then d.setWhead n { d.whead n with recAt := l.sentAt + 2000 }
    else if f.op = 2 then d.event .wrp 0x06 a data l.modes (0x100 + a)
    else d
  match l.bring with
  | some b => d.bringStep a b f reg data
  | none => d

/-- A reply with STATUS 0x2 or 0x3 ends its command: a read of the fault register still answers the fault (R133), a bring-up fails at its step (R134). (DESIGN CHOICE, log entry 22) -/
def Dev.badReply (d : Dev) (a : Nat) (f : AFrame) (data : Nat) : Dev :=
  let l := d.alink a
  let d := d.setAlink a { l with out := none, reply := data }
  let d := if f.op = 2 then d.event .wrp 0x06 a data l.modes (0x100 + a) else d
  match l.bring with
  | some b => d.bringupFail a (d.foundId a) b.failStep f.op f.seq
  | none => d

/-- ALINK_REPLY_RECEIVE (R130 to R132): `wave` are the level changes of RXD and RXS, each with the ns since the change before it. The bits behind the last pause of four bit
times are the frame. A frame that begins late, is not 7 bytes long behind SYNC, fails its CRC or carries STATUS 0x1 makes WRP send its command again; a reply that does not echo the command
is no reply to it. (DESIGN CHOICE, log entry 22) -/
def execAlinkReplyReceive (a : Fin 2) (wave : List (Nat × Bool × Bool)) (s : State) : Out :=
  s.doesIn 3 fun d =>
    let ns := d.fld F.WRP_ALINK_BITNS
    let bits := dsDecode ns wave
    let began := d.now - (((wave.drop (wave.length - bits.length + 1)).map Prod.fst).foldl (· + ·) 0)
    let d := d.setAlink a { d.alink a with rx := (wave.getLast?.map Prod.snd).getD (d.alink a).rx }
    match (d.alink a).out with
    | none => d
    | some f =>
      let b := bytesOfBits 7 bits
      let at_ (i : Nat) : Nat := leAt b i 1
      if (d.alink a).sentAt + 1000 * d.fld F.WRP_ALINK_ACK_US < began ∨ bits.length ≠ 56 ∨ at_ 0 ≠ 0xD3 ∨ at_ 6 ≠ crc8 (slice b 1 5) then d.resendFrame a f
      else if at_ 1 ≠ 16 * f.op + f.seq ∨ (f.op ≠ 5 ∧ at_ 3 ≠ f.reg) then d
      else if at_ 2 % 16 = 1 then d.resendFrame a f
      else if at_ 2 % 16 = 0 then d.goodReply a f (at_ 3) (256 * at_ 4 + at_ 5)
      else d.badReply a f (256 * at_ 4 + at_ 5)

/-- ALINK_REPLY_TIMEOUT (R132). (DESIGN CHOICE, log entry 7) -/
def execAlinkReplyTimeout (a : Fin 2) (s : State) : Out :=
  s.doesIn 3 fun d =>
    match (d.alink a).out with
    | none => d
    | some f => if d.now < (d.alink a).sentAt + 1000 * d.fld F.WRP_ALINK_ACK_US then d else d.resendFrame a f

/-- PREAMP_FAULT_INPUT (R133): low, the actuator's gates drop, its runs report PREAMP_FAULT, and the fault register of the profile is read, for all heads; where it cannot be read,
event 0x0506 comes at once with 0. (DESIGN CHOICE, log entry 22) -/
def execPreampFaultInput (a : Fin 2) (low : Bool) (s : State) : Out :=
  s.doesIn 3 fun d =>
    let was := (d.alink a).fltLow
    let d := d.setAlink a { d.alink a with fltLow := low }
    if !low || was || !d.hasLink a then d
    else
      let d := (headsOf a).foldl (fun (d : Dev) n => ((d.gateNow n).cutGate n 4).modRun n fun r => { r with flags := r.flags ||| 4 }) (d.bump .wrp 8)
      match d.preamp a with
      | some p => if d.linkFailed a then d.event .wrp 0x06 a 0 (d.alink a).modes (0x100 + a) else d.linkAsk a { op := 2, seq := 0, head := 0xF, reg := p.fltReg }
      | none => d.event .wrp 0x06 a 0 (d.alink a).modes (0x100 + a)

/-- ARM_LINK_BRINGUP (R134): WRP sends ENUM on a present arm link that is neither up nor failed; its replies carry the bring-up on. -/
def execArmLinkBringup (a : Fin 2) (s : State) : Out :=
  s.doesIn 3 fun d =>
    if !d.hasLink a || d.linkFailed a || (d.fld F.WRP_STAT_AL_UP).testBit a || (d.alink a).bring.isSome then d
    else (d.setAlink a { d.alink a with bring := some { began := d.now } }).linkAsk a { op := 5, seq := 0, head := 0xF }

/-- WRP takes a write run order on its head's queue; with the link failed it answers at once. -/
def Dev.writeOrder (d : Dev) (n : Nat) (o : RunOrder) (retry : Bool) : Dev :=
    if !d.hasCh n || decide (d.fld (fCREDITS .wrp n) ≤ (d.whead n).orders.length) then d
    else if d.linkFailed (actOf n) then d.runReport (lostReport n o)
    else (d.setWhead n { d.whead n with orders := (d.whead n).orders ++ [(o, retry, d.now)] }).startWrite n

/-- A new order's tag. -/
def Dev.newTag (d : Dev) : Nat × Dev := (d.msq.nextId % 65536, { d with msq := { d.msq with nextId := d.msq.nextId + 1 } })

/-- WRITE_RUN_ORDER (R35, R36, R132, R135, R147): MSQa orders a run of `count` sectors of a track from an LBA on, at the places R83 gives them, when a destage order holds them all
with all their data in the buffer and the comb may take new work. (DESIGN CHOICE, log entry 23) -/
def execWriteRunOrder (n : Fin 20) (nsid : Word) (lba : BitVec 64) (count : Nat) (s : State) : Out :=
  s.doesIn 3 fun d =>
    match d.runFor nsid.toNat lba.toNat count with
    | none => d
    | some (h, o) =>
      let a := actOf n
      if h ≠ n.val ∨ !((runLbas o).all fun l => d.writeDue a o.nsid l) ∨ !d.combFree a o.stripe then d
      else
        let (tag, d) := d.newTag
        d.writeOrder n { o with tag := tag, tbufFirst := ((d.cacheFor o 0).map fun c => c.addr / 4096).getD 0 % 65536, tbufSize := count } false

/-- WRP takes a heater notice: answered at once where nothing has to be waited for (R132, R140). -/
def Dev.heaterNotice (d : Dev) (n : Nat) (o : RunOrder) : Dev :=
  let h := d.whead n
  let code := d.wrec n o.band 1
  if d.linkFailed (actOf n) then d.runReport (noticeReport n o true)
  else if !d.flag F.WRP_CTRL_HEAT_EN || (h.heat = code && d.heatStands n && h.run.isNone && h.notices.isEmpty) then
    d.runReport (noticeReport n o false)
  else
    let d := d.setWhead n { h with notices := h.notices ++ [⟨o, code⟩] }
    if h.run.isNone && h.notices.isEmpty then d.heatTo n code else d

/-- HEATER_NOTICE (R74, R83, R110, R113, R118, R140): MSQa forms a read run of `count` sectors of a track from an LBA on, at the places R83 gives them, when a media order asks for them all and
none is on its way, and sends WRP its heater notice. -/
def execHeaterNotice (n : Fin 20) (nsid : Word) (lba : BitVec 64) (count : Nat) (s : State) : Out :=
  s.doesIn 3 fun d =>
    match d.runFor nsid.toNat lba.toNat count with
    | none => d
    | some (hd, o) =>
      let a := actOf n
      let h := d.whead n
      if hd ≠ n.val ∨ !d.hasCh n ∨ !((runLbas o).all fun l => d.readDue a o.nsid l) ∨ !d.combFree a o.stripe ∨
          d.fld (fCREDITS .wrp n) ≤ h.orders.length + h.notices.length then d
      else
        let (tag, d) := d.newTag
        d.heaterNotice n { o with tag := tag }

/-- HEATER_PREHEAT_DONE (R140): the code of the oldest notice has stood for PREHEAT_US µs, or HEAT_EN has fallen, so that the notice is answered at once. -/
def execHeaterPreheatDone (n : Fin 20) (s : State) : Out :=
  s.doesIn 3 fun d =>
    let h := d.whead n
    match h.notices with
    | [] => d
    | x :: rest =>
      if d.flag F.WRP_CTRL_HEAT_EN && (h.run.isSome || h.heat ≠ x.code || !d.heatStands n) then d
      else
        let d := (d.setWhead n { h with notices := rest }).runReport (noticeReport n x.ord false)
        match rest with
        | y :: _ => d.heatTo n y.code
        | [] => d

/-- WRP_SECTOR_DATA (R135, R136): the flits of a sector are back from BUF; they are encrypted and checksummed, and the next sectors are
asked for. A line that BUF could not read leaves the sector without its flits (R225); data that an ended run had asked for is dropped. (DESIGN CHOICE, log entry 24) -/
def execWrpSectorData (n : Fin 20) (s : State) : Out :=
  s.doesIn 3 fun d =>
    match d.buf.resps.find? fun r => decide (r.client = 1 ∧ r.id % 32 = n.val) with
    | none => d
    | some resp =>
      let d : Dev := { d with buf := { d.buf with resps := d.buf.resps.erase resp } }
      match (d.whead n).run with
      | none => d
      | some r =>
        if r.reqId ≠ some resp.id then d
        else
          let got : List (Nat × Bytes) := match d.cacheFor r.ord r.asked with
            | some c => if resp.err then [] else [(r.asked, d.sectorInfo r.ord c.rlba resp.data)]
            | none => []
          (d.modRun n fun r => { r with held := r.held ++ got, asked := r.asked + 1, reqId := none }).askAll (actOf n)

/-- WRITE_SECTOR_START (R136, R137, R141, R145): behind the wedge after which the run's next sector begins, at its preamble, the gate rises if G1 to G9 hold; else the sector is not
written and its causes are marked. Behind a wedge that splits the sector the gate rises again for the resync field, unless G2, G3, G6 or G8 fails: then the sector is cut. -/
def execWriteSectorStart (n : Fin 20) (s : State) : Out :=
  s.doesIn 3 fun d =>
    let d := d.gateNow n
    match (d.whead n).run with
    | none => d
    | some r =>
      let inj := d.injInh n
      match r.gate with
      | some i =>
        let part := (((d.fmtOf (actOf n)).map fun f => (sectorParts (bandAt f r.ord.band).dataIv 64 (((d.sectorPos n r.ord i).map Prod.snd).getD 0)
          (List.replicate 35056 false)).length).getD 0) - r.parts.length
        match r.parts with
        | [] => d
        | p :: rest =>
          if r.up || !d.atSector n r.ord i part then d
          else
            let (flags, g8) := d.cutCause n
            if flags = 0 ∧ ¬ g8 then d.drivePart n 0 p rest
            else
              let d := if d.inhNow n then d.inhEvent n i inj else d
              (d.notWritten n i (flags ||| 32)).bump .wrp 4
      | none =>
        if r.ord.count ≤ r.next || !d.atSector n r.ord r.next 0 then d
        else
          let i := r.next
          let (flags, slip) := d.gateFails n i r
          let d := if d.inhNow n then d.inhEvent n i inj else d
          let d := if inj then d.injStart n else d
          if flags = 0 then d.raiseGate n i r
          else
            let d := if slip then d.bump .wrp 1 else d
            let d := if flags.testBit 0 then d.bump .wrp 2 else d
            let d := if flags.testBit 1 then d.bump .wrp 3 else d
            d.notWritten n i flags

/-- WRITE_GATE_DROP (R142, R147): G2, G3, G6 or G8 fails under a raised gate. -/
def execWriteGateDrop (n : Fin 20) (s : State) : Out :=
  s.doesIn 3 fun d =>
    let d := d.gateNow n
    match (d.whead n).run with
    | none => d
    | some r => match r.gate with
      | none => d
      | some i =>
        let (flags, g8) := d.cutCause n
        if !r.up || (flags = 0 && !g8) then d
        else
          let d := if d.inhNow n then d.inhEvent n i (d.injInh n) else d
          d.cutGate n flags

/-- WRITE_RUN_END (R146): every sector has passed; the report goes to MSQa. -/
def execWriteRunEnd (n : Fin 20) (s : State) : Out :=
  s.doesIn 3 fun d =>
    let d := d.gateNow n
    match (d.whead n).run with
    | some r => if r.gate.isNone && decide (r.ord.count ≤ r.next) then d.endWrite n r 0 else d
    | none => d

/-- Threshold of the comparator of actuator a, in mV (R181). -/
def Dev.shockMv (d : Dev) (a : Nat) : Nat := 4 * (if a = 0 then d.fld F.SRV_RVTHR_THR0 else d.fld F.SRV_RVTHR_THR1)

/-- SHOCK_COMPARATOR_TRIP (R144, R181): the level at SHKa_IN, in mV: the comparator trips where it exceeds THRa × 4 mV and rearms 20 mV below. With CMP_EN a trip
raises the shock inhibit of actuator a; event 0x0505 on a rise. -/
def execShockComparatorTrip (a : Fin 2) (mv : Nat) (s : State) : Out :=
  s.doesIn 3 fun d =>
    let above := d.srv.above.get (fun _ => false) a
    let put (x : Bool) : Dev := { d with srv := { d.srv with above := d.srv.above.set (fun _ => false) a x } }
    if !d.hasLink a then d
    else if above then (if mv + 20 ≤ d.shockMv a then put false else d)
    else if mv ≤ d.shockMv a then d
    else if !d.flag F.WRP_SHOCK_CMP_EN then put true
    else
      let was := d.shockUp a
      let d := (put true).shockTrip a
      if was then d else d.event .wrp 0x05 0 (1 <<< a.val) 0 (0x100 + a)

/-- SHOCK_INHIBIT_RELEASE (R144): no trip in [t - 10 × HOLD, t) µs. -/
def execShockInhibitRelease (a : Fin 2) (s : State) : Out :=
  s.doesIn 3 fun d =>
    match (if a = 0 then d.wrp.shock0 else d.wrp.shock1) with
    | none => d
    | some t =>
      if d.now ≤ t + 10000 * d.fld F.WRP_SHOCK_HOLD then d
      else if a = 0 then { d with wrp := { d.wrp with shock0 := none } } else { d with wrp := { d.wrp with shock1 := none } }

/-- A write to a write record takes effect at the next run in its band (R139). -/
def Dev.wrecWrite (d : Dev) (a v who : Nat) : Dev :=
  let k := (a - 0x02101000) / 32
  let n := k / 64
  let h := d.whead n
  ((d.regWrite a v who).1).setWhead n { h with dirty := if h.dirty.contains (k % 64) then h.dirty else h.dirty ++ [k % 64] }

/-- WRP_INJECT_ARM (Table 5.9): a write to WRP.INJECT. A head whose INH it raises has a new rise, with no inhibiting wedge and no event so far (R145). -/
def execWrpInjectArm (v : Word) (who : Requester) (s : State) : Out :=
  s.doesIn 3 fun d =>
    let n := getBits v 20 5
    let was := d.inhNow n
    let d := (d.regWrite 0x02100060 v.toNat (reqCode who)).1
    if n < 20 ∧ !was ∧ d.inhNow n then d.setWhead n { d.whead n with peak := 0, logged := false } else d

end Sys2Proof.Machine
end

