-- ==== Sys2Proof/Machine/Media.lean ====
section
/-! DEFINITION. Machine/Media.lean: what MSQ0 and MSQ1 do with sector reports, retry ladders and write reports (R122 to R126, R147, R148, R434). -/
namespace Sys2Proof.Machine

/-! ## Ladders -/

def Dev.ladder? (d : Dev) (nsid lba : Nat) : Option Ladder := d.msq.ladders.find? fun l => decide (l.nsid = nsid ∧ l.lba = lba)
def Dev.setLadder (d : Dev) (l : Ladder) : Dev :=
  let same (x : Ladder) : Bool := decide (x.nsid = l.nsid ∧ x.lba = l.lba)
  { d with msq := { d.msq with ladders := (d.msq.ladders.filter fun x => !same x) ++ [l] } }
def Dev.dropLadder (d : Dev) (l : Ladder) : Dev :=
  { d with msq := { d.msq with ladders := d.msq.ladders.filter fun x => decide (¬ (x.nsid = l.nsid ∧ x.lba = l.lba)) } }

/-- The sector of a ladder, as DEC names its blocks. -/
def ladderBlk (l : Ladder) : SoftBlock :=
  { ord := l.ord, index := 0, head := l.head, frame := {}, lba := l.ord.lba, erased := 0, mse := 0, tbuf := 0, vals := [] }

/-- End a ladder: DEC discards the retained block and clears its slot bit (R553). -/
def Dev.endLadder (d : Dev) (l : Ladder) : Dev := (d.dropLadder l).releaseRetained (ladderBlk l)

/-- Somebody awaits a sector: a read command or an internal read of the ring. -/
def Dev.wanted (d : Dev) (nsid lba : Nat) : Bool := (d.cmds.any fun c => c.awaitsRead (secKey nsid lba)) || d.ringAwaits nsid lba

/-- Reads that a ladder step makes (Table 4.13). -/
def Dev.stepReads (d : Dev) (k : Nat) : Nat := [0, 0, 1, 1, 1, 1, 2, d.fld F.DEC_RETRY_COMB_READS, 4].getD k 0

/-- A step is to be skipped (R122, R123). -/
def Dev.stepSkipped (d : Dev) (l : Ladder) (k : Nat) : Bool :=
  !(d.fld F.DEC_RETRY_STEPS).testBit (k - 1) ||
    (k == 1 && (d.retained? (ladderBlk l)).isNone) || (k == 5 && l.span == 0) ||
    (k == 6 && (d.flag (F.CH_AFE_A_LANE_OFF l.head) || d.flag (F.CH_AFE_B_LANE_OFF l.head)))

/-- The next step of a ladder. -/
def Dev.nextStep (d : Dev) (l : Ladder) : Option Nat := (List.range 9).find? fun k => decide (l.step < k) && !d.stepSkipped l k

/-- SECTOR_UNRECOVERED (R126): event 0x0401, and everybody who awaits the sector gets Unrecovered Read Error. The event names the physical track (Table 4.15), not
the stripe track (R86). (DESIGN CHOICE, log entry 76) -/
def Dev.ladderFail (d : Dev) (l : Ladder) (budget : Bool) : Dev :=
  let p3 := l.step + (if budget then 0x80000000 else 0) + decInj l.inj
  let d := ((d.endLadder l).event .dec 0x01 l.ord.track l.ord.first p3 l.head).bump .dec 34
  d.readFails l.nsid l.lba (stUnrecovered false)

/-- The run order of a ladder read (Table 4.13): one sector, RETAIN = 1, STEP set. -/
def ladderOrder (l : Ladder) (k made : Nat) : RunOrder :=
  { l.ord with retain := true, step := k, freezeImg := k == 3, ssmOnly := k == 4, ext := k == 5, reader := if k = 6 then made + 1 else 0, count := 1 }

/-- Offset of read `made` of step 8 in 1/4,096 track: +δ, −δ, +2δ, −2δ with δ = OFF_STEP / 64 track. (DESIGN CHOICE, log entry 21) -/
def Dev.ladderOffset (d : Dev) (made : Nat) : Int :=
  let δ : Int := 64 * d.fld F.DEC_RETRY_OFF_STEP
  [δ, -δ, 2 * δ, -(2 * δ)].getD made 0

/-- Revolutions charged so far: to the command that owns the ladder, or to the ladder. -/
def Dev.charged (d : Dev) (l : Ladder) : Nat := match l.owner with
  | some t => match d.cmd? t with | some c => c.charges | none => l.charges
  | none => l.charges

/-- Charge a ladder read (R124). Reads on one track at one step in one revolution charge a command once; the revolution counted is the one in which the read is
ordered. (DESIGN CHOICE, log entry 21) -/
def Dev.charge (d : Dev) (l : Ladder) (k : Nat) : Dev :=
  match l.owner with
  | some t =>
    let rev := some (l.ord.stripe, k, d.revolution)
    d.modCmd t fun c => if c.lastRev == rev then c else { c with charges := c.charges + 1, lastRev := rev }
  | none => d.setLadder { l with charges := l.charges + 1 }

/-- Make read `made` of step k on the ladder's head, with the budget charged unless the read is a repeat (R31, R124, R553); its heater notice goes first (R140). -/
def Dev.ladderRead (d : Dev) (l : Ladder) (k made : Nat) : Dev :=
  let (tag, d) := d.newTag
  let d := if l.paid then d else d.charge l k
  let o := { ladderOrder l k made with tag := tag }
  let ch := match d.ladder? l.nsid l.lba with | some x => x.charges | none => l.charges
  (d.setLadder { l with step := k, made := made + 1, waiting := true, paid := false, ofsTag := none, charges := ch, ord := { l.ord with tag := tag } }).heaterNotice
    l.head o

/-- A mode report for a tag with STATUS OK has come. -/
def Dev.settled (d : Dev) (tag : Nat) : Bool := d.msq.modes.any fun m => decide (m.tag = tag ∧ m.status = 0)

/-- A read of step k, if the budget allows it. Step 8 first orders its offset from SRV, and reads once it is reported settled. (DESIGN CHOICE, log entry 21) -/
def Dev.ladderTry (d : Dev) (l : Ladder) (k made : Nat) : Dev :=
  if d.fld F.DEC_RETRY_BUDGET ≤ d.charged l ∧ ¬ l.paid then d.ladderFail l true
  else if k ≠ 8 then d.ladderRead l k made
  else match l.ofsTag with
    | some t => if d.settled t then d.ladderRead l k made
        else if (d.msq.modes.any fun m => decide (m.tag = t)) then d.setLadder { l with ofsTag := none } else d
    | none =>
      if !d.live 3 then d
      else
        let (tag, d) := d.newTag
        (d.setLadder { l with step := k, made := made, ofsTag := some tag }).offsetOrder (2 + l.head) tag false (d.ladderOffset made)

/-- The next read of the step in progress, or the next enabled step. Step 1 decodes the retained block again (R122, R553). -/
def Dev.ladderGo (d : Dev) (l : Ladder) : Dev :=
  if d.fld F.DEC_RETRY_BUDGET = 0 then d.ladderFail l true
  else if l.step ≠ 0 ∧ l.made < d.stepReads l.step then d.ladderTry l l.step l.made
  else match d.nextStep l with
    | none => d.ladderFail l false
    | some k =>
      if k = 1 then match d.retained? (ladderBlk l) with
        | some (.retained b _) =>
          (d.setDec { d.dec with redo := d.dec.redo ++ [{ b with ord := { b.ord with step := 1 } }] }).setLadder
            { l with step := 1, made := 0, waiting := true }
        | _ => d
      else d.ladderTry { l with ofsTag := none } k 0

/-- The report of a ladder read that slipped: its run report names no sector sent. (DESIGN CHOICE, log entry 21) -/
def Dev.ladderSlipped (d : Dev) (l : Ladder) : Option RunReport :=
  d.msq.runs.find? fun r => !r.write && decide (r.head = l.head ∧ r.tag = l.ord.tag ∧ r.sent = 0)

/-- RETRY_LADDER_STEP (R122 to R126, R553): MSQa goes on with the ladder of a sector. A ladder that nobody awaits any more stops. (DESIGN CHOICE, log entry 21) -/
def execRetryLadderStep (nsid lba : Nat) (s : State) : Out :=
  s.doesIn 2 fun d =>
    match d.ladder? nsid lba with
    | none => d
    | some l =>
      let h := d.whead l.head
      if l.waiting then match d.ladderSlipped l with
        | some r =>
          ({ d with msq := { d.msq with runs := d.msq.runs.erase r } }).setLadder { l with waiting := false, made := l.made - 1, paid := true }
        | none => d
      else if !d.wanted nsid lba then d.endLadder l
      else if d.fld (fCREDITS .wrp l.head) ≤ h.orders.length + h.notices.length then d
      else d.ladderGo l

/-! ## Sector reports -/

/-- A sector has landed in a track-buffer slot: MSQa posts it for every command that awaits it, and hands it to the internal reads that do; a slot that
nobody needs is freed. (DESIGN CHOICE, log entry 65) -/
def Dev.sectorLanded (d : Dev) (a nsid lba slot : Nat) : Dev :=
  let key := secKey nsid lba
  let line := d.slotLine a slot
  let tags := (d.cmds.filter fun c => c.awaitsRead key).map CmdRec.tag
  if tags = [] ∧ ¬ d.ringAwaits nsid lba then d.setSlotBusy a slot false
  else
    let d : Dev := tags.foldl (fun (d : Dev) t =>
      let d := d.modCmd t fun c => { c with need := c.need.filter (· != key) }
      match d.cmd? t with
      | some c => if c.failed.isSome then d.cmdCheck t else d.msqPost a c lba line
      | none => d) d
    (d.ringLand nsid lba (.at_ line (some (a, slot)))).pruneOrders

/-- A read of a sector has not come out OK: its ladder starts, or goes on after the read. -/
def Dev.sectorNotOk (d : Dev) (r : SecReport) (nsid lba : Nat) : Dev :=
  match d.ladder? nsid lba with
  | some l =>
    let repeat_ : Bool := r.step == 7 && (d.retained? (ladderBlk l)).isNone
    d.setLadder { l with waiting := false, span := r.frame.span, inj := r.injected, paid := l.paid || repeat_, made := if repeat_ then l.made - 1 else l.made }
  | none =>
    let o : RunOrder := { r.ord with first := r.ord.first + r.index, count := 1, lba := r.lba, retain := true, step := 0 }
    let owner := (d.cmds.find? fun c => c.awaitsRead (secKey nsid lba)).map CmdRec.tag
    let l : Ladder := { nsid := nsid, lba := lba, head := r.head, ord := o, span := r.frame.span, owner := owner, inj := r.injected }
    if d.wanted nsid lba then d.setLadder l else d.releaseRetained (ladderBlk l)

/-- What MSQa does with one report (Table 4.12). After PARK_FULL the sector is read again as a slip, with no charge (R118). -/
def Dev.takeReport (d : Dev) (a : Nat) (r : SecReport) : Dev :=
  let nsid := r.ord.nsid
  let lba := r.lba % 2 ^ 34
  if r.status = rsOK then
    let d := match d.ladder? nsid lba with | some l => d.dropLadder l | none => d
    d.sectorLanded a nsid lba r.tbuf
  else if r.status = rsParked then
    match d.ladder? nsid lba with
    | some l => if r.step = 7 ∧ l.made < d.stepReads 7 then d.setLadder { l with waiting := false } else d
    | none => d
  else if r.status = rsParkFull then d.bump .seq (35 + a)
  else if r.status = rsBufErr then
    let d := match d.ladder? nsid lba with | some l => d.endLadder l | none => d
    d.readFails nsid lba (if d.flag F.BUF_STAT_READY then stUnrecovered false else stNotReady false)
  else d.sectorNotOk r nsid lba

/-- The oldest run report of a channel of actuator a that no ladder waits for (R113). -/
def Dev.readRun (d : Dev) (a : Nat) : Option RunReport :=
  d.msq.runs.find? fun r => !r.write && actOf r.head == a && !(d.msq.ladders.any fun l => l.waiting && d.ladderSlipped l == some r)

/-- SECTOR_REPORT_RECEIVE (R113, R121, R122, R434): MSQa takes its oldest sector report; with none, its oldest run report of a channel: the sectors of the run that
slipped are on their way no more, so that they may be ordered again. -/
def execSectorReportReceive (a : Fin 2) (s : State) : Out :=
  s.doesIn 1 fun d =>
    match d.msq.reports.find? fun r => decide (actOf r.head = a.val) with
    | some r => ({ d with msq := { d.msq with reports := d.msq.reports.erase r } }).takeReport a r
    | none => match d.readRun a with
      | some r => { d with msq := { d.msq with runs := d.msq.runs.erase r } }
      | none => d

/-! ## Write reports -/

/-- Maximal stretches of consecutive numbers of a rising list, as (first, count). -/
def stretches : List Nat → List (Nat × Nat)
  | [] => []
  | i :: r => match stretches r with
    | (f, n) :: rest => if f = i + 1 then (i, n + 1) :: rest else (i, 1) :: (f, n) :: rest
    | [] => [(i, 1)]

/-- Indices of a write report's sectors that were not written. -/
def missing (r : RunReport) : List Nat := (List.range r.ord.count).filter fun i => !r.landed.contains i

/-- A report is taken by the destage orders that hold its unwritten sectors. -/
def Dev.destageOf (d : Dev) (r : RunReport) : List Nat :=
  ((missing r).filterMap fun i => (d.cacheFor r.ord i).bind CacheSec.order).eraseDups

/-- A sector of the write cache is in a write run or write order of WRP, or in a report of one. -/
def Dev.writeOut (d : Dev) (c : CacheSec) : Bool :=
  (d.wrp.heads.any fun h => (h.2.orders.any fun o => covers o.1 c.nsid c.lba 0) || (h.2.run.any fun r => covers r.ord c.nsid c.lba 0)) ||
    d.msq.runs.any fun r => r.write && !r.notice && covers r.ord c.nsid c.lba 0

/-- Hold the sectors that a report names as not written, and those of ended orders that are on their way to no head. -/
def Dev.holdLost (d : Dev) (r : RunReport) (ids : List Nat) : Dev :=
  let lost := (missing r).filterMap fun i => d.cacheFor r.ord i
  (d.holdSectors fun c => !c.held && (ids.any fun i => c.order == some i) &&
    ((lost.any fun x => decide (x.nsid = c.nsid ∧ x.lba = c.lba)) || !d.writeOut c)).pruneOrders

/-- DESTAGE_ORDER_FAILED (R148): the orders end; event 0x0507 with the revolutions charged; their sectors that are not written become held. (DESIGN CHOICE, log entry 23) -/
def Dev.destageFails (d : Dev) (r : RunReport) (ids : List Nat) (charged : Nat) : Dev :=
  let d := (d.event .wrp 0x07 r.ord.track (r.ord.first + (missing r).headD 0) charged r.head).bump .wrp 6
  let mark (o : MediaOrder) : MediaOrder := if ids.contains o.id then { o with failed := true } else o
  ({ d with msq := { d.msq with orders := d.msq.orders.map mark } }).holdLost r ids

/-- WRITE_RETRY (R147, R148): MSQa takes the oldest write report of actuator a. A revolution with a sector lost to FLAGS[2:0] is charged to the sectors' orders, once; within the
budget the sectors not written are ordered again with RETRY = 1; after ALINK_LOST, or with the budget used up, the order fails. The sectors of an order that has
failed become held. -/
def execWriteRetry (a : Fin 2) (s : State) : Out :=
  s.doesIn 3 fun d =>
    match d.msq.runs.find? fun r => r.write && !r.notice && actOf r.head == a.val with
    | none => d
    | some r =>
      let ids := d.destageOf r
      let live := d.msq.orders.filter fun o => ids.contains o.id && !o.failed
      let runs := stretches ((missing r).filter fun i => match d.cacheFor r.ord i with | some c => !c.held && c.order.isSome | none => false)
      let full := decide (d.fld (fCREDITS .wrp r.head) < (d.whead r.head).orders.length + runs.length)
      let pay := bitsAt r.flags 0 3 != 0 && live.any fun o => o.lastRev != some r.rev
      let was := live.foldl (fun m o => max m o.charges) 0
      let lost := r.flags.testBit 3
      let fails := lost || (pay && decide (d.fld F.WRP_RETRY_BUDGET ≤ was))
      let d' : Dev := { d with msq := { d.msq with runs := d.msq.runs.erase r } }
      if runs = [] then d'
      else if live = [] then d'.holdLost r ids
      else if fails then d'.destageFails r ids was
      else if full then d
      else
        let d := if pay then d'.bump .wrp 5 else d'
        let mark (o : MediaOrder) : MediaOrder := if pay && ids.contains o.id then { o with charges := o.charges + 1, lastRev := some r.rev } else o
        let d : Dev := { d with msq := { d.msq with orders := d.msq.orders.map mark } }
        runs.foldl (fun (d : Dev) p =>
          let (tag, d) := d.newTag
          let o : RunOrder := { r.ord with tag := tag, first := r.ord.first + p.1, count := p.2, lba := runLba r.ord.lba r.ord.w p.1, step := min (r.ord.step + 1) 255 }
          d.writeOrder r.head { o with tbufFirst := ((d.cacheFor o 0).map fun c => c.addr / 4096).getD 0 % 65536, tbufSize := p.2 } true) d

end Sys2Proof.Machine
end

