-- ==== Sys2Proof/Machine/Ring.lean ====
section
/-! DEFINITION. Machine/Ring.lean: the commands of RNG and ECE (chapter The Trirn Ring and Peer Reconstruction). -/
namespace Sys2Proof.Machine

/-! ## Hop delivery -/

/-- A port whose link is up: joining or joined. -/
def Dev.linkUp (d : Dev) (p : Fin 2) : Bool := d.rstate p == psJoining || d.rstate p == psJoined

/-- Free the slot a consumed frame came in (R375); a join frame came in the reserved slot. -/
def Dev.freeHop (d : Dev) (p : Fin 2) (f : RFrame) : Dev :=
  if isJoin f.ftype then d else d.modRport p fun x => { x with cret := x.cret.modify (frameClass f.ftype) fun n => (n + 1) % 256 }

/-- When FCNT reaches 2^48 − 1 in either direction the port leaves JOINED and joins again (R382). -/
def Dev.fcntCheck (d : Dev) (p : Fin 2) : Dev :=
  let x := d.rport p
  if d.rstate p == psJoined && decide (2 ^ 48 - 1 ≤ x.fcntTx ∨ 2 ^ 48 - 1 ≤ x.fcntRx) then d.startJoin p else d

/-- A command of the ring: both ports look again at their frame counters and queues, and jobs at their delivery. -/
def Dev.ringDo (d : Dev) (f : Dev → Dev) : Dev := (((((f d).fcntCheck 0).fcntCheck 1).pump 0).pump 1).ringSettle

/-! ### Joins -/

/-- ASCII bytes of a text (R379, R380). -/
def ascii (t : String) : Bytes := t.toList.map fun c => BitVec.ofNat 8 c.toNat

/-- Step 2 and 3 of a join (Table 13.5): the peer's JOIN_CHAL is checked, JOIN_RESP is sent. A peer that joins again makes this side join again. (DESIGN CHOICE, log entry 59) -/
def Dev.joinChal (d : Dev) (p : Fin 2) (f : RFrame) : Dev :=
  let d := if d.rstate p == psJoined then d.startJoin p else d
  if d.rstate p ≠ psJoining then d
  else
    let d := d.modRport p fun x => { x with peerSerial := slice f.body 0 20, peerKey := leAt f.body 20 4, peerNonce := slice f.body 24 32
                                            peerCred := (slice f.body 56 4).map BitVec.toNat }
    let x := d.rport p
    if d.sec.ringKeyId ≠ x.peerKey then d.refuseJoin p 1
    else if x.peerSerial = ownSerial then d.refuseJoin p 3
    else
      let mac := hmac (d.sec.ringKey.getD []) (ascii "TRIRN-JOIN" ++ ownSerial ++ x.peerSerial ++ x.peerNonce ++ x.nonce)
      let inj := d.ringArmed p 2
      let d := if inj then (d.setFlag F.RNG_INJECT_ARM false).modRport p fun x => { x with inj := true } else d
      d.originate p { ftype := 0x81, flags := 2, body := padTo 256 (if inj then flip0 mac else mac), inj := inj }

/-- Hop key and salt of a direction (R380): serials and nonces of the sending side and the other. -/
def hopKey (k sa sb na nb : Bytes) : Bytes × Bytes :=
  (hmac k (ascii "TRIRN-HOP" ++ sa ++ sb ++ na ++ nb), (hmac k (ascii "TRIRN-IV" ++ sa ++ sb ++ na ++ nb)).take 6)

/-- Step 4 and 5: the peer's MAC is checked, hop keys are derived, JOIN_CONF is sent with FCNT 0. -/
def Dev.joinResp (d : Dev) (p : Fin 2) (f : RFrame) : Dev :=
  let x := d.rport p
  if d.rstate p ≠ psJoining ∨ x.peerNonce = [] ∨ x.macOk then d
  else
    let k := d.sec.ringKey.getD []
    if slice f.body 0 32 ≠ hmac k (ascii "TRIRN-JOIN" ++ x.peerSerial ++ ownSerial ++ x.nonce ++ x.peerNonce) then d.refuseJoin p 2
    else
      let d := d.setRport p { x with macOk := true, keyTx := some (hopKey k ownSerial x.peerSerial x.nonce x.peerNonce)
                                     keyRx := some (hopKey k x.peerSerial ownSerial x.peerNonce x.nonce), fcntTx := 0 }
      d.originate p { ftype := 0x82, body := padTo 256 (leBytes 2 d.rng.known) }

/-- Step 6: the port is JOINED, and an enumeration starts. (DESIGN CHOICE, log entry 59) -/
def Dev.joinConf (d : Dev) (p : Fin 2) (f : RFrame) : Dev :=
  let x := d.rport p
  if d.rstate p ≠ psJoining ∨ !x.macOk then d
  else
    let d := ((d.learnEpoch (leAt f.body 0 2)).setRstate p psJoined).modRport p fun x => { x with joinAt := none }
    ((d.event .rng 0x04 p.val x.peerKey (leAt x.peerSerial 16 4) p.val).bump .rng 16).startEnum

/-! ### Topology -/

/-- A HELLO (R384): its SERIAL is f.body, its HOPS f.hops. One of its own that comes back has gone round the ring, since a HELLO leaves a node on the port opposite the one
it came on: it closes the segment. (DESIGN CHOICE, log entry 59) -/
def Dev.helloIn (d : Dev) (p : Fin 2) (f : RFrame) : Dev :=
  let d := if newer f.epoch d.epoch then d.enterEnum f.epoch else d
  if f.epoch ≠ d.epoch then d.freeHop p f
  else if f.body = ownSerial then (d.modRng fun r => { r with closed := true }).freeHop p f
  else
    let known := d.rng.members.any fun m => m.serial == f.body
    if !known && decide (2 ≤ d.tstate) then (d.freeHop p f).startEnum
    else
      let d := if known then d
        else
          let d := d.modRng fun r => { r with members := r.members ++ [⟨f.body, p.val, f.hops⟩], quietAt := d.now }
          d.setFld F.RNG_MEMBERS_COUNT (min d.rng.members.length 511)
      if f.hops = 255 then d.freeHop p f else d.forward (opp p) { f with hops := f.hops + 1 }

/-! ### Requests of peers -/

/-- The node takes part in jobs and remote reads: RING or CHAIN. -/
def Dev.inRing (d : Dev) : Bool := d.tstate == 2 || d.tstate == 3

/-- A namespace is exported (R389). -/
def Dev.exported (d : Dev) (nsid : Nat) : Bool :=
  let x := nsxOf nsid
  (d.ns? nsid).isSome && (if x < 32 then (d.fld F.RNG_NSEXP_LO_EXP).testBit x else (d.fld F.RNG_NSEXP_HI_EXP).testBit (x - 32))

/-- A non-operational state with RD_MAX 0 refuses reads of peers (R486). -/
def Dev.noReads (d : Dev) : Bool := decide (2 ≤ d.pstate ∧ d.fld (F.PWR_SCAP_RD_MAX d.pstate) = 0)

/-- What of a range is there at once: zeros, sectors of the write cache, sectors of a failed actuator or without a usable key; the rest waits for the media. (DESIGN CHOICE, log entry 66) -/
def Dev.landNow (d : Dev) (n : Ns) (slba nlb : Nat) : Tab (Option Land) :=
  (List.range nlb).foldl (fun (t : Tab (Option Land)) i =>
    let l : Option Land :=
      if n.key = .unusable then some .bad
      else match d.sourceOf n (slba + i) with
        | .zeros => some .zero
        | .cache c => some (.at_ (c.addr / 128) none)
        | .media => if d.actuatorFailed n.reg.a then some .bad else none
    t.set (fun _ => none) i l) []

/-- An RREQ (R390): refused with JEND STATUS 1, or served. -/
def Dev.rreqIn (d : Dev) (p : Fin 2) (f : RFrame) : Dev :=
  let nsid := leAt f.body 0 4
  let slba := leAt f.body 4 8
  let nlb := leAt f.body 12 2
  let refuse (d : Dev) : Dev := d.sendJend p f.src 0 f.job 1 d.nodeId 0 0
  if !d.inRing then refuse (d.event .rng 0x08 f.src nsid 2)
  else match d.ns? nsid with
    | none => refuse (d.event .rng 0x08 f.src nsid 0)
    | some n =>
      if !d.exported nsid then refuse (d.event .rng 0x08 f.src nsid 0)
      else if n.cap < slba + nlb ∨ nlb = 0 then refuse (d.event .rng 0x08 f.src nsid 1)
      else if d.noReads then refuse (d.event .pwr 0x08 d.pstate f.src f.job)
      else
        let s : RServe := { node := f.src, job := f.job, port := p, nsid := nsid, slba := slba, nlb := nlb, land := d.landNow n slba nlb }
        (d.modRng fun r => { r with serves := r.serves ++ [s] }).serveReads

/-- A participant entry (bytes 64 to 79 of Table 13.7). -/
def partOf (b : Bytes) : JPart := { node := leAt b 0 1, coef := leAt b 1 1, nsid := leAt b 4 4, slba := leAt b 8 8 }
def partBytes (e : JPart) : Bytes := leBytes 1 e.node ++ leBytes 1 e.coef ++ [0, 0] ++ leBytes 4 e.nsid ++ leBytes 8 e.slba

/-- A listed node reads a JOB_START as it passes (R395), and accepts or refuses the job. -/
def Dev.jobStartIn (d : Dev) (p : Fin 2) (f : RFrame) : Dev :=
  let n := leAt f.body 2 1
  let base := if f.block = 0 then 0 else 14
  let es := (List.range (min 14 (n - base))).map fun i => partOf (slice f.body (32 + 16 * i) 16)
  let before := (d.rng.starts.find? fun s => decide (s.1 = f.tgt ∧ s.2.1 = f.job)).map fun s => s.2.2
  let d : Dev := if f.block = 0 ∧ 14 < n then d.modRng fun r => { r with starts := r.starts ++ [(f.tgt, f.job, (es.getLast?.map JPart.node).getD 0)] } else d
  let fix (j : PJob) : PJob := if j.tgt = f.tgt ∧ j.job = f.job ∧ j.next.isNone then { j with next := es.head?.map JPart.node } else j
  let d : Dev := if f.block ≠ 0 then d.modRng fun r => { r with pjobs := r.pjobs.map fix, starts := r.starts.filter fun s => decide (¬ (s.1 = f.tgt ∧ s.2.1 = f.job)) } else d
  match es.findIdx? fun e => decide (e.node = d.nodeId) with
  | none => d
  | some i =>
    let e := es.getD i ⟨0, 0, 0, 0⟩
    let nlb := leAt f.body 0 2
    let refuse (d : Dev) : Dev := d.sendJend p f.tgt f.tgt f.job 1 d.nodeId 0 0
    let dup := d.rng.pjobs.any fun j => decide (j.tgt = f.tgt ∧ j.job = f.job)
    if dup || !d.inRing then d
    else match d.ns? e.nsid with
      | none => refuse d
      | some ns =>
        if !d.exported e.nsid ∨ ns.cap < e.slba + nlb ∨ d.fld F.RNG_JOB_JOBS_P ≤ d.rng.pjobs.length then refuse d
        else if d.noReads then refuse (d.event .pwr 0x08 d.pstate f.tgt f.job)
        else
          let k := base + i
          let next := if k + 1 = n then some f.tgt else es[i + 1]?.map JPart.node
          let prev := if i = 0 then before.getD 0 else (es.getD (i - 1) ⟨0, 0, 0, 0⟩).node
          let j : PJob := { tgt := f.tgt, job := f.job, port := p, part := e, next := next, far := k == 0, prev := prev, nlb := nlb, jwin := leAt f.body 4 1
                            land := d.landNow ns e.slba nlb, traffic := d.now }
          ((d.modRng fun r => { r with pjobs := r.pjobs ++ [j] }).bump .rng 20).showJobs

/-! ### Answers -/

/-- An ACC block (R396, R397): it waits at its node until it is folded or combined; one outside its window, or of a job that is not there, is discarded. -/
def Dev.accIn (d : Dev) (p : Fin 2) (f : RFrame) : Dev :=
  let d := d.ringUnits p.val 1
  let v : Option (Bool × Bytes) := some (f.flags.testBit 0 || !d.flag F.BUF_STAT_READY, f.body)
  if f.tgt = d.nodeId then
    let k := 2 * f.block + p.val
    let put (j : TJob) : TJob :=
      if j.job = f.job ∧ f.block < j.done.length + j.jwin ∧ f.block < 16 * j.nlb then
        { j with blocks := j.blocks.set (fun _ => none) k v, lastE := if p = 0 then d.now else j.lastE, lastW := if p = 0 then j.lastW else d.now } else j
    d.modRng fun r => { r with tjobs := r.tjobs.map put }
  else
    let put (j : PJob) : PJob :=
      if j.tgt = f.tgt ∧ j.job = f.job ∧ f.block < j.freed + j.jwin ∧ f.block < 16 * j.nlb then
        { j with blocks := j.blocks.set (fun _ => none) f.block v, traffic := d.now } else j
    d.modRng fun r => { r with pjobs := r.pjobs.map put }

/-- A JCREDIT (R397). -/
def Dev.jcreditIn (d : Dev) (f : RFrame) : Dev :=
  let put (j : PJob) : PJob := if j.tgt = f.tgt ∧ j.job = f.job then { j with freedBy := max j.freedBy (leAt f.body 0 4), traffic := d.now } else j
  d.modRng fun r => { r with pjobs := r.pjobs.map put }

/-- A JEND (R400, R401, R390): 0 a participant is done, 1 a node has refused, 2 a participant has abandoned, 3 an order to abandon. (DESIGN CHOICE, log entry 66) -/
def Dev.jendIn (d : Dev) (f : RFrame) : Dev :=
  let st := leAt f.body 0 1
  let node := leAt f.body 1 1
  if st = 3 then (d.modRng fun r => { r with pjobs := r.pjobs.filter fun j => decide (¬ (j.tgt = f.tgt ∧ j.job = f.job)) }).showJobs
  else match d.rng.tjobs.find? fun j => decide (j.job = f.job ∧ f.tgt = d.nodeId) with
    | some j =>
      if st = 1 then d.failJob j (stRing 0xD2) node
      else if st = 0 then
        let put (x : TJob) : TJob := if x.job = j.job then { x with ended := node :: x.ended } else x
        d.modRng fun r => { r with tjobs := r.tjobs.map put }
      else d
    | none => match d.rng.reads.find? fun r => decide (r.job = f.job ∧ f.tgt = 0) with
      | some r =>
        if st = 1 then (d.modRng fun s => { s with reads := s.reads.filter fun x => decide (x.job ≠ r.job) }).finish r.tag (stRing 0xD2) node
        else d
      | none => d

/-- An RDATA block (R390): it is written into the landing space; with ERR its sector counts once, and its bytes are zero. -/
def Dev.rdataIn (d : Dev) (p : Fin 2) (f : RFrame) : Dev :=
  match d.rng.reads.find? fun r => decide (r.job = f.job ∧ r.node = f.src) with
  | none => d
  | some r =>
    if r.blocks ≤ f.block ∨ r.got.contains f.block then d
    else
      let d := d.ringUnits p.val 1
      let i := f.block / 16
      let put (x : RRead) : RRead :=
        if x.job = r.job then { x with got := f.block :: x.got, errs := if (f.flags.testBit 0 ∨ !d.flag F.BUF_STAT_READY) ∧ ¬ x.errs.contains i then i :: x.errs else x.errs } else x
      let line := d.landing r / 128
      let d : Dev := d.modRng fun s => { s with reads := s.reads.map put }
      let d := (d.lineWrite (line + 2 * f.block) (f.body.take 128) []).lineWrite (line + 2 * f.block + 1) (f.body.drop 128) []
      let bad := match d.rng.reads.find? fun x => decide (x.job = r.job) with | some x => x.errs.contains i | none => false
      if bad then (List.range 32).foldl (fun (d : Dev) k => d.lineWrite (line + 32 * i + k) (List.replicate 128 0) []) d else d

/-! ### Delivery -/

/-- A frame delivered in SEQ order (R369, R371, R387): consumed, forwarded, or both. -/
def Dev.deliverFrame (d : Dev) (p : Fin 2) (f : RFrame) : Dev :=
  if f.ftype = 0x10 then d.helloIn p f
  else if f.ftype = 0x80 then d.joinChal p f
  else if f.ftype = 0x81 then d.joinResp p f
  else if f.ftype = 0x82 then d.joinConf p f
  else if f.epoch ≠ d.epoch then (d.bumpPort p 7).freeHop p f
  else
    let mine := decide (f.dst = d.nodeId ∧ d.nodeId ≠ 0) || f.dst == 0xFF
    let d := if f.ftype = 0x90 then d.jobStartIn p f
      else if !mine then d
      else if f.ftype = 0x20 then d.jcreditIn f
      else if f.ftype = 0x21 then d.jendIn f
      else if f.ftype = 0x22 then d.rreqIn p f
      else if f.ftype = 0x91 then d.accIn p f
      else if f.ftype = 0x92 then d.rdataIn p f
      else d
    if mine && decide (f.dst ≠ 0xFF) then d.freeHop p f else d.forward (opp p) f

/-- Deliver the held frames that are next. -/
def Dev.deliverHeld (d : Dev) (p : Fin 2) : Nat → Dev
  | 0 => d
  | fuel + 1 =>
    let x := d.rport p
    match x.held.find? fun f => decide (f.seq = x.expect) with
    | none => d
    | some f =>
      ((d.setRport p { x with expect := (x.expect + 1) % 65536, held := x.held.filter fun g => decide (g.seq ≠ f.seq) }).deliverFrame p f).deliverHeld p fuel

/-- A block frame with a good CRC and a wrong tag (R381): discarded, a re-send is asked for, event 0x0F0A. -/
def Dev.tagFail (d : Dev) (p : Fin 2) (f : RFrame) : Dev :=
  let d := d.modRport p fun x => { x with tagFails := x.tagFails + 1, inj := f.inj }
  ((d.bumpPort p 3).event .rng 0x0A f.seq (f.fcnt % 2 ^ 32) (injBit f.inj)).sendAck p true

/-- A frame whose SEQ is before the one expected has been delivered. -/
def RPort.old (x : RPort) (seq : Nat) : Bool := let k := (x.expect + 65536 - seq) % 65536; decide (1 ≤ k ∧ k ≤ 32768)

/-- A sequenced frame arrives on a port (R371, R372, R381). -/
def Dev.ringReceive (d : Dev) (p : Fin 2) (f : RFrame) : Dev :=
  let x := d.rport p
  if !d.linkUp p then d
  else if f.badCrc then (d.bumpPort p 2).sendAck p true
  else
    let good := !isSealed f.ftype || (match x.keyRx with | some k => decide (f.tag = frameSeal f k) | none => false)
    let d := d.bumpPort p 1
    if !good then d.tagFail p f
    else
      let d := if isSealed f.ftype then d.modRport p fun x => { x with tagFails := 0, fcntRx := f.fcnt } else d
      if x.old f.seq || x.held.any fun g => g.seq == f.seq then d.sendAck p false
      else if f.seq = x.expect then
        let d := d.modRport p fun x => { x with expect := (x.expect + 1) % 65536, owe := true }
        (d.deliverFrame p f).deliverHeld p x.held.length
      else ((d.modRport p fun x => { x with held := x.held ++ [f], owe := true }).bumpPort p 5).sendAck p true

/-- A command of a ring port: domain 1 and the port's PHY are on (R482). (DESIGN CHOICE, log entry 8) -/
def State.doesPort (s : State) (p : Fin 2) (f : Dev → Dev) : Out := s.doesIn 1 fun d => if d.live (6 + p.val) then d.ringDo f else d

/-- RING_LINK_UP (R364, R365): 1,024 control frames in a row have passed their CRC on the deskewed stream of an enabled port whose transmitter is on and that is
not waiting to try again. `skew` is the lane skew in ns, of which at most 20 are tolerated; `first` is the lane number in the markers that lane 0 brings: lane reversal
is corrected. -/
def execRingLinkUp (p : Fin 2) (skew : BitVec 8) (first : Fin 2) (s : State) : Out :=
  s.doesPort p fun d =>
    let x := d.rport p
    if (d.rstate p = psDown ∨ d.rstate p = psTraining) ∧ d.ringEnabled p ∧ x.backoff.isNone ∧ x.offAt.isNone ∧ 1024 ≤ x.good ∧ skew.toNat ≤ 20 then
      (((d.clearPort p).modRport p fun x => { x with swapped := first == 1 }).event .rng 0x01 p.val skew.toNat 0 p.val).startJoin p
    else d

/-- RING_FRAME_CRC_FAIL (R364, R367, R370, R372): what the two lanes brought is, put together, no frame; while the link is not up it ends a run of good frames. -/
def execRingFrameCrcFail (p : Fin 2) (a b : List Byte) (s : State) : Out :=
  s.doesPort p fun d =>
    if frameGood (joinLanes (if (d.rport p).swapped then 1 else 0) a b) then d
    else if d.linkUp p then (d.bumpPort p 2).sendAck p true
    else d.modRport p fun x => { x with good := 0 }

/-- RING_FRAME_FORWARD (R369): a CMD, DATA or RSP frame whose DST is neither this node's ID nor 0xFF. -/
def execRingFrameForward (p : Fin 2) (f : RFrame) (s : State) : Out :=
  s.doesPort p fun d => if frameClass f.ftype < 3 ∧ f.dst ≠ 0xFF ∧ f.dst ≠ d.nodeId then d.ringReceive p f else d

/-- IDLE_FRAME (R365, R371): it takes no SEQ and is not acknowledged. While the link is not up it is one more good control frame in a row; a port that was DOWN
sees a signal and trains. -/
def execIdleFrame (p : Fin 2) (s : State) : Out :=
  s.doesPort p fun d =>
    let x := d.rport p
    if d.linkUp p then d.bumpPort p 1
    else if d.ringEnabled p ∧ x.backoff.isNone ∧ x.offAt.isNone ∧ (d.rstate p = psDown ∨ d.rstate p = psTraining) then
      (d.setRstate p psTraining).modRport p fun x => { x with good := min 1024 (x.good + 1) }
    else d

/-- Send stored frames again (R373). -/
def Dev.resend (d : Dev) (p : Fin 2) (q : Retry → Bool) : Dev :=
  let x := d.rport p
  let hit := x.retry.filter q
  let again (r : Retry) : Retry := if q r then { r with sentAt := d.now, resends := r.resends + 1 } else r
  let d := d.setRport p { x with retry := x.retry.map again, line := x.line ++ hit.map fun r => r.f }
  (d.bump .rng (8 * p.val + 4) hit.length).incSat (F.RNG_PSTAT_RESENDS p.val) hit.length

/-- ACK_FRAME (R372, R373, R375): ACKSEQ, HELD, CRET for CMD, DATA, RSP and MGT, and whether a re-send is asked for at once. -/
def execAckFrame (p : Fin 2) (ackseq : BitVec 16) (held : Word) (cret : List Byte) (again : Bool) (s : State) : Out :=
  s.doesPort p fun d =>
    if !d.linkUp p then d
    else
      let d := d.bumpPort p 1
      let x := d.rport p
      let a := ackseq.toNat
      let before (q : Nat) : Bool := let k := (a + 65536 - q) % 65536; decide (1 ≤ k ∧ k ≤ 32768)
      let after (q : Nat) : Nat := (q + 65536 - a - 1) % 65536
      let left := x.retry.filter fun r => !before r.f.seq && !(decide (after r.f.seq < 32) && held.toNat.testBit (after r.f.seq))
      let c := (cret ++ [0, 0, 0, 0]).take 4 |>.map BitVec.toNat
      let back (i : Nat) : Nat := (c.getD i 0 + 256 - x.peerCret.getD i 0) % 256
      let d := d.setRport p { x with
        retry := left, unackedAt := if left = [] then none else some d.now, peerCret := c
        spare := if left.any fun r => isJoin r.f.ftype then 0 else 1
        peerCred := (List.range 4).map fun i => x.peerCred.getD i 0 + back i }
      let recent (r : Retry) : Bool := decide (0 < r.resends ∧ d.now < r.sentAt + d.fld F.RNG_LINK_ACK_US * 1000)
      if again then d.resend p fun r => (decide (r.f.seq = a) || decide (after r.f.seq < 32)) && !recent r else d

/-- ACK_TIMER (R372): an ACK is owed. -/
def execAckTimer (p : Fin 2) (s : State) : Out := s.doesPort p fun d => if d.linkUp p && (d.rport p).owe then d.sendAck p false else d

/-- FRAME_RESEND_TIMEOUT (R373): frames unacknowledged for ACK_US since they were last sent. -/
def execFrameResendTimeout (p : Fin 2) (s : State) : Out :=
  s.doesPort p fun d => if d.linkUp p then d.resend p fun r => decide (r.sentAt + d.fld F.RNG_LINK_ACK_US * 1000 ≤ d.now) else d

/-- RING_PORT_FAILED (R374): reason 0 retry limit, 1 ACK timeout, 2 tag failures, 3 lock lost for 1 ms, which the receiver tells. -/
def execRingPortFailed (p : Fin 2) (why : Fin 4) (s : State) : Out :=
  s.doesPort p fun d =>
    let x := d.rport p
    let ok : Bool := match why with
      | 0 => x.retry.any fun r => decide (d.fld F.RNG_LINK_RETRY_LIM ≤ r.resends)
      | 1 => match x.unackedAt with | some t => x.retry != [] && decide (t + d.fld F.RNG_LINK_ACK_US * 10000 ≤ d.now) | none => false
      | 2 => decide (2 ≤ x.tagFails)
      | 3 => true
    if d.linkUp p && ok then d.failRing p why.val else d

/-- RING_PORT_RETRAIN (R374): the transmitter has been off for 1 ms. -/
def execRingPortRetrain (p : Fin 2) (s : State) : Out :=
  s.doesPort p fun d =>
    match (d.rport p).offAt with
    | some t => if d.rstate p = psFailed ∧ t + 1000000 ≤ d.now then (d.setRstate p psTraining).modRport p fun x => { x with offAt := none } else d
    | none => d

/-- JOIN_CHAL_FRAME (R379). -/
def execJoinChalFrame (p : Fin 2) (f : RFrame) (s : State) : Out := s.doesPort p fun d => if f.ftype = 0x80 then d.ringReceive p f else d

/-- JOIN_RESP_FRAME (R379, R380). -/
def execJoinRespFrame (p : Fin 2) (f : RFrame) (s : State) : Out := s.doesPort p fun d => if f.ftype = 0x81 then d.ringReceive p f else d

/-- JOIN_CONF_FRAME (R379, R384). -/
def execJoinConfFrame (p : Fin 2) (f : RFrame) (s : State) : Out := s.doesPort p fun d => if f.ftype = 0x82 then d.ringReceive p f else d

/-- JOIN_TIMEOUT (R379): 1 ms from step 1. (DESIGN CHOICE, log entry 7) -/
def execJoinTimeout (p : Fin 2) (s : State) : Out :=
  s.doesPort p fun d =>
    match (d.rport p).joinAt with
    | some t => if d.rstate p = psJoining ∧ t + 1000000 ≤ d.now then d.refuseJoin p 4 else d
    | none => d

/-- JOIN_BACKOFF_EXPIRY (R379): the port trains again. -/
def execJoinBackoffExpiry (p : Fin 2) (s : State) : Out :=
  s.doesPort p fun d =>
    match (d.rport p).backoff with
    | some t => if t ≤ d.now then
        let d := d.modRport p fun x => { x with backoff := none }
        if d.rstate p = psDown ∧ d.ringEnabled p then d.setRstate p psTraining else d
      else d
    | none => d

/-- BLOCK_TAG_FAIL (R381): a sealed frame whose tag is wrong. -/
def execBlockTagFail (p : Fin 2) (f : RFrame) (s : State) : Out :=
  s.doesPort p fun d => if d.linkUp p && isSealed f.ftype then (d.bumpPort p 1).tagFail p f else d

/-- HELLO_FRAME (R384). -/
def execHelloFrame (p : Fin 2) (f : RFrame) (s : State) : Out := s.doesPort p fun d => if f.ftype = 0x10 then d.ringReceive p f else d

/-- ENUM_QUIET_EXPIRY (R385, R386, R388). -/
def execEnumQuietExpiry (s : State) : Out :=
  s.doesIn 1 fun d => d.ringDo fun d =>
    if d.tstate = 1 ∧ d.rng.quietAt + d.fld F.RNG_ENUM_QUIET_US * 1000 ≤ d.now then
      let n := d.rng.members.length
      let id := d.rankOf ownSerial
      let peer (d : Dev) (p : Fin 2) : Dev :=
        if d.rstate p = psJoined then let r := d.rankOf (d.rport p).peerSerial; d.setFld (F.RNG_PSTAT_PEER_ID p.val) (if r ≤ 255 then r else 0) else d
      let d := peer (peer d 0) 1
      let d := if 255 < id then (d.setFld F.RNG_STAT_TSTATE 4).event .rng 0x07 n d.epoch 0
        else
          let t := if d.rng.closed then 2 else 3
          ((d.setFld F.RNG_STAT_TSTATE t).setFld F.RNG_STAT_NODE_ID id).event .rng 0x05 t d.epoch n
      d.raiseAenAll ⟨7, 0xE3, 0⟩
    else d

/-- RREQ_FRAME (R390). -/
def execRreqFrame (p : Fin 2) (f : RFrame) (s : State) : Out := s.doesPort p fun d => if f.ftype = 0x22 then d.ringReceive p f else d

/-- RDATA_FRAME (R390). -/
def execRdataFrame (p : Fin 2) (f : RFrame) (s : State) : Out := s.doesPort p fun d => if f.ftype = 0x92 then d.ringReceive p f else d

/-- JOB_START_FRAME (R395). -/
def execJobStartFrame (p : Fin 2) (f : RFrame) (s : State) : Out := s.doesPort p fun d => if f.ftype = 0x90 then d.ringReceive p f else d

/-- ACC_FRAME (R396, R397). -/
def execAccFrame (p : Fin 2) (f : RFrame) (s : State) : Out := s.doesPort p fun d => if f.ftype = 0x91 then d.ringReceive p f else d

/-- JCREDIT_FRAME (R397). -/
def execJcreditFrame (p : Fin 2) (f : RFrame) (s : State) : Out := s.doesPort p fun d => if f.ftype = 0x20 then d.ringReceive p f else d

/-- JEND_FRAME (R400, R401). -/
def execJendFrame (p : Fin 2) (f : RFrame) (s : State) : Out := s.doesPort p fun d => if f.ftype = 0x21 then d.ringReceive p f else d

/-! ## The erasure engine -/

/-- Product in GF(2^8) with polynomial 0x11D (R391). -/
def gf8Mul : Nat → Nat → Nat → Nat
  | 0, _, _ => 0
  | n + 1, a, b => (if b % 2 = 1 then a else 0) ^^^ gf8Mul n (if a < 128 then 2 * a else (2 * a) ^^^ 0x11D) (b / 2)

/-- acc XOR coef × chunk, byte by byte. -/
def foldBytes (coef : Nat) : Bytes → Bytes → Bytes
  | a :: x, c :: y => BitVec.ofNat 8 (a.toNat ^^^ gf8Mul 8 coef c.toNat) :: foldBytes coef x y
  | _, _ => []

/-- The zero block. -/
def zeroBlock : Bytes := List.replicate 256 0

/-- The comparison of the two lanes (R403): a mismatch, real or injected (ECE.INJECT), is counted and logged; whether there was one. (DESIGN CHOICE, log entry 26) -/
def Dev.laneCheck (d : Dev) (mism : Bool) (job b tgt : Nat) : Dev × Bool :=
  let inj := d.flag F.ECE_INJECT_ARM
  let d := if inj then d.setFlag F.ECE_INJECT_ARM false else d
  if mism || inj then ((d.bump .ece 4).event .ece 0x01 job b (tgt + injBit inj) tgt, true) else (d, false)

/-- Event 0x1002 for the first block of an unreadable chunk sector (R398). -/
def Dev.chunkBad (d : Dev) (l : Land) (old : List Nat) (job i tgt : Nat) : Dev :=
  if l = .bad ∧ ¬ (old.any fun b => decide (b / 16 = i)) then d.event .ece 0x02 job i tgt tgt else d

/-- The arbiter would grant ECE, client 6, a request now (R237). -/
def Dev.eceTurn (d : Dev) : Bool := match d.bufTurnOf (some 6) with | some (c, _) => c == 6 | none => false

/-- ECE's blocks read and written, 2 units each, are charged (R237, Table 13.8). -/
def Dev.eceUnits (d : Dev) (k : Nat) : Dev := d.bufCharge 6 (match d.bufTurnOf (some 6) with | some (_, g) => g | none => 1) (2 * k)

/-- A participant's fold of block b (R396 to R398). -/
def Dev.foldPart (d : Dev) (j : PJob) (b : Nat) (edc : List EdcFail) (mism : Bool) : Dev :=
  let acc : Option (Bool × Bytes) := if j.far then some (false, zeroBlock) else j.blocks.get (fun _ => none) b
  match acc, j.land.get (fun _ => none) (b / 16), j.next with
  | some (e, a), some l, some next =>
    if 16 * j.nlb ≤ b ∨ j.sent.contains b ∨ j.freedBy + j.jwin ≤ b then d
    else
      let d := ((d.eceUnits (if j.far then 2 else 3)).ringUnits j.port.val 1).chunkBad l j.sent j.job (b / 16) j.tgt
      let (x, d) := d.chunkBlock l (b % 16) edc
      let (d, m) := d.laneCheck mism j.job b j.tgt
      let err := e || x.isNone || m
      let d := d.bump .ece (if j.far then 1 else 0)
      let d := if err then d.bump .ece 3 else d
      let out := if err then zeroBlock else foldBytes j.part.coef a (x.getD zeroBlock)
      let freed := if j.far then 0 else j.freed + 1
      let j' : PJob := { j with sent := b :: j.sent, errs := if err then b :: j.errs else j.errs, blocks := j.blocks.set (fun _ => none) b none
                                freed := freed, traffic := d.now }
      let same (y : PJob) : Bool := decide (y.tgt = j.tgt ∧ y.job = j.job)
      let allSent := decide (j'.sent.length = 16 * j.nlb)
      let d : Dev := d.modRng fun r => { r with pjobs := if allSent then r.pjobs.filter fun y => !same y else r.pjobs.map fun y => if same y then j' else y }
      let d := d.originate j.port { ftype := 0x91, flags := err.toNat + (if b + 1 = 16 * j.nlb then 4 else 0), dst := next, tgt := j.tgt, job := j.job
                                    block := b, body := out }
      let d := if j.far then d else d.originate (opp j.port) { ftype := 0x20, dst := j.prev, tgt := j.tgt, job := j.job, body := padTo 16 (leBytes 4 freed) }
      if allSent then (d.sendJend j.port j.tgt j.tgt j.job 0 d.nodeId (j'.errs.foldl min (j'.errs.headD 0)) j'.errs.length).showJobs else d
  | _, _, _ => d

/-- Sector i of a result is complete: a marked sector reads as zeros (R399). -/
def Dev.sectorDone (d : Dev) (j : TJob) (i : Nat) : Dev :=
  let bad := j.errs.contains i
  let d := if bad ∧ j.dest = 0 then
      (List.range 32).foldl (fun (d : Dev) k => d.lineWrite (d.resultLine j i + k) (List.replicate 128 0) []) d else d
  if j.dest = 0 then d
  else
    let d := d.mapCache (fun c => decide (c.nsid = j.nsid ∧ c.lba = j.lba + i)) fun c => { c with lines := 32, zero := bad }
    let d := match d.ns? j.nsid with | some n => d.syncZone n (j.lba / n.zs) | none => d
    let mark (y : TJob) : TJob := if y.job = j.job then { y with posted := i :: y.posted } else y
    (d.modRng fun r => { r with tjobs := r.tjobs.map mark }).noteSector (secKey j.nsid (j.lba + i)) true

/-- The target's combination of block b (R396): the side blocks that exist, and COEF × its own chunk block if it is listed. (DESIGN CHOICE, log entry 66) -/
def Dev.combineBlock (d : Dev) (j : TJob) (b : Nat) (edc : List EdcFail) (mism : Bool) : Dev :=
  let side (es : List JPart) (p : Nat) : Option (Bool × Bytes) := if es = [] then some (false, zeroBlock) else j.blocks.get (fun _ => none) (2 * b + p)
  let own : Option (Option (JPart × Land)) := match j.own with
    | none => some none
    | some e => (j.land.get (fun _ => none) (b / 16)).map fun l => some (e, l)
  match side j.east 0, side j.west 1, own with
  | some (e0, x0), some (e1, x1), some own =>
    if 16 * j.nlb ≤ b ∨ j.done.contains b ∨ (j.dest = 0 ∧ j.delivered + j.window ≤ b / 16) then d
    else
      let d := d.eceUnits (1 + (j.east != []).toNat + (j.west != []).toNat + j.own.isSome.toNat)
      let acc := foldBytes 1 x0 x1
      let (r, d) : Option Bytes × Dev := match own with
        | none => (some acc, d)
        | some (e, l) =>
          let d := d.chunkBad l j.done j.job (b / 16) d.nodeId
          let (x, d) := d.chunkBlock l (b % 16) edc
          (x.map fun x => foldBytes e.coef acc x, d)
      let (d, m) := d.laneCheck mism j.job b d.nodeId
      let err := e0 || e1 || r.isNone || m
      let d := d.bump .ece 2
      let d := if err then d.bump .ece 3 else d
      let out := if err then zeroBlock else r.getD zeroBlock
      let j' : TJob := { j with done := b :: j.done, errs := if err ∧ ¬ j.errs.contains (b / 16) then b / 16 :: j.errs else j.errs
                                blocks := (j.blocks.set (fun _ => none) (2 * b) none).set (fun _ => none) (2 * b + 1) none }
      let d : Dev := d.modRng fun r => { r with tjobs := r.tjobs.map fun y => if y.job = j.job then j' else y }
      let line := d.resultLine j (b / 16) + 2 * (b % 16)
      let d := (d.lineWrite line (out.take 128) []).lineWrite (line + 1) (out.drop 128) []
      let credit (d : Dev) (es : List JPart) (p : Fin 2) : Dev := match es.getLast? with
        | some e => d.originate p { ftype := 0x20, dst := e.node, tgt := d.nodeId, job := j.job, body := padTo 16 (leBytes 4 j'.done.length) }
        | none => d
      let d := credit (credit d j.east 0) j.west 1
      if j'.full.contains (b / 16) then d.sectorDone j' (b / 16) else d
  | _, _, _ => d

/-- ECE_FOLD (R396 to R398, R403): block b of a job, at a participant (the target `tgt` is another node) or at the target itself (`own`). `mism` says
that the lanes disagree. It acts once the inputs are in the buffer, the window is open and the arbiter grants ECE, which is charged 2 units for each block read or
written (R237, Table 13.8). (DESIGN CHOICE, log entry 26; DESIGN CHOICE, log entry 66) -/
def execEceFold (own : Bool) (tgt : Byte) (job : BitVec 16) (b : Nat) (edc : List EdcFail) (mism : Bool) (s : State) : Out :=
  s.doesIn 1 fun d => d.ringDo fun d =>
    if own then match d.rng.tjobs.find? fun j => decide (j.job = job.toNat) with
      | some j => if d.eceTurn then d.combineBlock j b edc mism else d
      | none => d
    else match d.rng.pjobs.find? fun j => decide (j.tgt = tgt.toNat ∧ j.job = job.toNat) with
      | some j => if d.eceTurn then d.foldPart j b edc mism else d
      | none => d

/-- The bound of R401 in ns. -/
def Dev.jobBound (d : Dev) : Nat := d.fld F.RNG_JOB_JOB_MS * 10 * 1000000

/-- JOB_TIMEOUT (R401): no ACC block on a side that still owes some. (DESIGN CHOICE, log entry 7) -/
def execJobTimeout (job : BitVec 16) (s : State) : Out :=
  s.doesIn 1 fun d => d.ringDo fun d =>
    match d.rng.tjobs.find? fun j => decide (j.job = job.toNat) with
    | none => d
    | some j =>
      let owes (es : List JPart) (p : Nat) : Bool :=
        es != [] && (List.range (16 * j.nlb)).any fun b => !j.done.contains b && (j.blocks.get (fun _ => none) (2 * b + p)).isNone
      if (owes j.east 0 && decide (j.lastE + d.jobBound ≤ d.now)) || (owes j.west 1 && decide (j.lastW + d.jobBound ≤ d.now)) then
        d.failJob j (stRing 0xD4) 0
      else d

/-- PARTICIPANT_TIMEOUT (R401): no block sent, no JCREDIT or ACC received. The job is abandoned, and the target is told with JEND STATUS 2. -/
def execParticipantTimeout (tgt : Byte) (job : BitVec 16) (s : State) : Out :=
  s.doesIn 1 fun d => d.ringDo fun d =>
    match d.rng.pjobs.find? fun j => decide (j.tgt = tgt.toNat ∧ j.job = job.toNat) with
    | none => d
    | some j =>
      if j.traffic + d.jobBound ≤ d.now then
        let d : Dev := d.modRng fun r => { r with pjobs := r.pjobs.filter fun y => decide (¬ (y.tgt = j.tgt ∧ y.job = j.job)) }
        (d.sendJend j.port j.tgt j.tgt j.job 2 d.nodeId (j.errs.foldl min (j.errs.headD 0)) j.errs.length).showJobs.pruneOrders
      else d

/-! ## Ring Administration -/

/-- Insert a member in order of SERIAL. -/
def insertMember (m : Member) : List Member → List Member
  | [] => [m]
  | x :: r => if serialLt m.serial x.serial then m :: x :: r else x :: insertMember m r

/-- RING_ADMIN_STATUS (Table 13.12, R388). -/
def execRingAdminStatus (t : Tag) (len : Word) (s : State) : Out :=
  s.doesIn 1 fun d => d.host t false fun d =>
    let ms := d.rng.members.foldr insertMember []
    let hdr := leBytes 2 d.epoch ++ leBytes 1 d.tstate ++ leBytes 1 d.nodeId ++ leBytes 2 ms.length ++ leBytes 1 (d.rstate 0) ++ leBytes 1 (d.rstate 1)
    let row (m : Member) : Bytes :=
      let id := d.rankOf m.serial
      leBytes 1 (if id ≤ 255 then id else 0) ++ leBytes 1 m.port ++ leBytes 1 m.hops ++ [0] ++ m.serial ++ List.replicate 8 0
    let d := d.unmaskPage t.ctrl fun e => e.ty == 7 && e.info == 0xE3
    d.reply t ((padTo 32 hdr ++ ms.flatMap row).take len.toNat)

/-- RING_ADMIN_SET_KEY (R378): 64 bytes of data; KEY_ID 0 removes the key. The key is stored wrapped. (DESIGN CHOICE, log entry 59) -/
def execRingAdminSetKey (t : Tag) (data : Bytes) (s : State) : Out :=
  s.doesIn 1 fun d => d.host t false fun d =>
    let id := leAt data 32 4
    let k : Option Bytes := if id = 0 then none else some (padTo 32 (slice data 0 32))
    let d := { d with sec := { d.sec with ringKey := k, ringKeyId := id, wrapped := d.sec.wrapped.set (fun _ => none) 64 (k.map Config.wrap) } }
    (d.setFlag F.RNG_STAT_KEY_OK k.isSome).finish t stOk

/-- RING_ADMIN_PORTS (Table 13.12): CDW12. -/
def execRingAdminPorts (t : Tag) (cdw12 : Word) (s : State) : Out :=
  s.doesIn 1 fun d => d.host t false fun d => d.ringDo fun d =>
    let d := (d.setFld F.RNG_CTRL_EAST_EN (cdw12.toNat % 2)).setFld F.RNG_CTRL_WEST_EN (cdw12.toNat / 2 % 2)
    (d.ringPorts (cdw12.toNat.testBit 2)).finish t stOk

/-- RING_ADMIN_EXPORT (R389). -/
def execRingAdminExport (t : Tag) (nsid : Word) (on : Bool) (s : State) : Out :=
  s.doesIn 1 fun d => d.host t false fun d =>
    if (d.ns? nsid.toNat).isNone then d.finish t stInvalidNs
    else
      let x := nsxOf nsid.toNat
      let f := if x < 32 then F.RNG_NSEXP_LO_EXP else F.RNG_NSEXP_HI_EXP
      (d.setFld ⟨f.a, x % 32, 1⟩ on.toNat).finish t stOk

/-- Insert a participant after those that are as far or farther. -/
def insertFar (x : Nat × JPart) : List (Nat × JPart) → List (Nat × JPart)
  | [] => [x]
  | y :: r => if y.1 < x.1 then x :: y :: r else y :: insertFar x r

/-- The participants of a side, from the farthest inward (R394). -/
def Dev.sideParts (d : Dev) (es : List JPart) (p : Fin 2) : List JPart :=
  ((es.filterMap fun e => match d.sideOf e.node with | some (q, h) => if q = p then some (h, e) else none | none => none).foldl
    (fun l x => insertFar x l) []).map Prod.snd

/-- The JOB_STARTs of a side (R395): at most 14 entries each. -/
def Dev.sendStarts (d : Dev) (p : Fin 2) (j : TJob) (es : List JPart) : Dev :=
  match es with
  | [] => d
  | e :: _ =>
    let hdr := padTo 32 (leBytes 2 j.nlb ++ leBytes 1 es.length ++ leBytes 1 p.val ++ leBytes 1 j.jwin)
    let frame (k : Nat) (part : List JPart) : RFrame :=
      { ftype := 0x90, dst := e.node, tgt := d.nodeId, job := j.job, block := k, body := padTo 256 (hdr ++ (part.flatMap partBytes)) }
    let d := d.originate p (frame 0 (es.take 14))
    if es.length ≤ 14 then d else d.originate p (frame 1 (es.drop 14))

/-- Lowest job slot that no job uses. -/
def Dev.jobSlot (d : Dev) : Nat := ((List.range 33).find? fun k => !d.rng.tjobs.any fun j => decide (j.slot = k)).getD 0

/-- A job takes its place (R393, R395): JOB_START leaves on each side, its own chunk is read, its number is used. -/
def Dev.issueJob (d : Dev) (j : TJob) : Dev :=
  let j := { j with job := d.rng.nextJob, jwin := d.fld F.RNG_JOB_JWIN, lastE := d.now, lastW := d.now, slot := d.jobSlot
                    land := match j.own with | some e => (match d.ns? e.nsid with | some n => d.landNow n e.slba j.nlb | none => []) | none => [] }
  let d : Dev := d.modRng fun r => { r with tjobs := r.tjobs ++ [j], nextJob := (r.nextJob + 1) % 65536 }
  (((d.bump .rng 19).showJobs).sendStarts 0 j j.east).sendStarts 1 j j.west

/-- RING_ADMIN_RECONSTRUCT (R392, R393): CDW11, the descriptor's host address, the descriptor, and for DEST 1 the buffer granule of the reservation. -/
def execRingAdminReconstruct (t : Tag) (len : Word) (dptr : BitVec 64) (desc : Bytes) (buf : Nat) (s : State) : Out :=
  s.doesIn 1 fun d => d.host t false fun d => d.ringDo fun d =>
    let nlb := leAt desc 0 2
    let np := leAt desc 2 1
    let dest := leAt desc 3 1
    let nsid := leAt desc 4 4
    let zslba := leAt desc 8 8
    let addr := leAt desc 16 8
    let es := (List.range np).map fun i => partOf (slice desc (64 + 16 * i) 16)
    let nodes := es.map JPart.node
    let own := es.find? fun e => decide (e.node = d.nodeId)
    let ownOk : Bool := match own with
      | some e => d.exported e.nsid && (match d.ns? e.nsid with | some n => decide (e.slba + nlb ≤ n.cap) | none => false)
      | none => true
    if !d.inRing || d.sec.ringKey.isNone then d.finish t (stRing 0xD3)
    else if !(decide (1 ≤ nlb ∧ nlb ≤ 512 ∧ 1 ≤ np ∧ np ≤ 28 ∧ dest ≤ 1 ∧ len.toNat = 128 + 16 * np ∧ (dest = 1 ∨ addr % 4096 = 0)) &&
        decide nodes.Nodup && (es.all fun e => e.coef != 0) && ownOk) then d.finish t stInvalidField
    else match nodes.find? fun x => (d.member? x).isNone with
      | some x => d.finish t (stRing 0xD2) x
      | none =>
        if d.fld F.RNG_JOB_JOBS_T ≤ d.rng.tjobs.length then d.finish t (stRing 0xD5)
        else
          let bm := dptr.toNat + 64 + 16 * np
          let j : TJob := { job := 0, tag := t, nlb := nlb, dest := dest, nsid := nsid, addr := addr, bitmapAt := bm, own := own
                            east := d.sideParts es 0, west := d.sideParts es 1 }
          let c : CmdRec := { tag := t, kind := .ring, committed := true, started := d.now }
          if dest = 0 then (d.putCmd c).issueJob j
          else match d.ns? nsid with
            | none => d.finish t stInvalidNs
            | some n =>
              let gs := (List.range nlb).map fun i => buf + i
              if n.cap ≤ zslba then d.finish t stRange
              else if !d.granulesFree buf nlb then d
              else
                let d := d.bump .zne 0
                match d.zoneCheck n zslba nlb true with
                | some st => d.finish t st
                | none =>
                  let z := zslba / n.zs
                  let ctx := d.zctx (n.ctx + z)
                  let first := z * n.zs + ctx.wp
                  let d := (d.bump .zne 2).reserve n z nlb
                  let sec (i : Nat) : CacheSec := { nsid := n.nsid, lba := first + i, rlba := recorded ctx.gen (first + i), addr := 4096 * (buf + i) }
                  let d := (d.clearGranules gs).putCmd { c with nsid := n.nsid, slba := first, nlb := nlb, reserved := true }
                  let d := (d.modZne fun x => { x with cache := x.cache ++ (List.range nlb).map sec }).syncZone n z
                  d.issueJob { j with lba := first }

/-- The lowest free space of n bytes in the landing area (R390, R408). -/
def Dev.landingFree (d : Dev) (n : Nat) : Option Nat :=
  let rs := d.rng.reads.map fun r => (r.addr, r.addr + 256 * r.blocks)
  let ok (a : Nat) : Bool := decide (a + n ≤ 4194304) && rs.all fun r => decide (a + n ≤ r.1 ∨ r.2 ≤ a)
  ((0 :: rs.map Prod.snd).filter ok).foldl (fun m a => match m with | none => some a | some x => some (min x a)) none

/-- RING_ADMIN_REMOTE_READ (R390, Table 13.12): node, NLB, NSID and SLBA there, and the host's address list. (DESIGN CHOICE, log entry 66) -/
def execRingAdminRemoteRead (t : Tag) (node : Byte) (nlb : BitVec 16) (nsid : Word) (slba : BitVec 64) (segs : List (Nat × Nat)) (s : State) : Out :=
  s.doesIn 1 fun d => d.host t false fun d => d.ringDo fun d =>
    let n := nlb.toNat
    if !d.inRing || d.sec.ringKey.isNone then d.finish t (stRing 0xD3)
    else if n = 0 ∨ 512 < n ∨ segLines segs ≠ 32 * n then d.finish t stInvalidField
    else match d.sideOf node.toNat with
      | none => d.finish t (stRing 0xD2) node.toNat
      | some (p, _) => match d.landingFree (4096 * n) with
        | none => d.finish t (stRing 0xD5)
        | some a =>
          let job := d.rng.nextJob
          let r : RRead := { job := job, tag := t, node := node.toNat, blocks := 16 * n, addr := a }
          let d := d.putCmd { tag := t, kind := .ring, committed := true, started := d.now, segs := segs }
          let d := (d.modRng fun x => { x with reads := x.reads ++ [r], nextJob := (job + 1) % 65536 }).bump .rng 22
          d.originate p { ftype := 0x22, dst := node.toNat, job := job
                          body := padTo 16 (leBytes 4 nsid.toNat ++ leBytes 8 slba.toNat ++ leBytes 2 n) }

/-- RING_ADMIN_WHISTLE (R407): CDW12. -/
def execRingAdminWhistle (t : Tag) (cdw12 : Word) (s : State) : Out :=
  s.doesIn 1 fun d => d.host t false fun d => d.ringDo fun d =>
    let d := if cdw12.toNat.testBit 0 then d.sendWhistle 0 false else d
    (if cdw12.toNat.testBit 1 then d.sendWhistle 1 false else d).finish t stOk

/-- RING_ADMIN_INVALID (R404). -/
def execRingAdminInvalid (t : Tag) (s : State) : Out := s.doesIn 1 fun d => d.host t false fun d => d.finish t stInvalidField

/-! ## Register writes and the line -/

/-- A write to RNG.WHISTLE (R407, Table 13.13). -/
def Dev.whistleWrite (d : Dev) (v who : Nat) : Dev :=
  let d := (d.regWrite F.RNG_WHISTLE_EAST_GO.a v who).1
  let d := if v.testBit 0 then d.sendWhistle 0 false else d
  if v.testBit 1 then d.sendWhistle 1 false else d

/-- WHISTLE_GO_WRITE (R407). -/
def execWhistleGoWrite (v : Word) (who : Requester) (s : State) : Out := s.doesIn 1 fun d => d.whistleWrite v.toNat (reqCode who)

/-- RNG_INJECT_ARM (Table 13.13). -/
def execRngInjectArm (v : Word) (who : Requester) (s : State) : Out := s.doesIn 1 fun d => (d.regWrite F.RNG_INJECT_ARM.a v.toNat (reqCode who)).1

/-- ECE_INJECT_ARM (Table 13.14). -/
def execEceInjectArm (v : Word) (who : Requester) (s : State) : Out := s.doesIn 1 fun d => (d.regWrite F.ECE_INJECT_ARM.a v.toNat (reqCode who)).1

/-- RING_LINK_DOWN (R384): a joined port's link goes down. -/
def execRingLinkDown (p : Fin 2) (s : State) : Out :=
  s.doesIn 1 fun d => d.ringDo fun d => if d.rstate p = psJoined then d.dropLink p psDown else d

/-- WHISTLE_END (R406, R407): WHISTLE_MS have passed; the port tries to train. -/
def execWhistleEnd (p : Fin 2) (s : State) : Out :=
  s.doesIn 1 fun d =>
    match (d.rport p).whistle with
    | some t =>
      if d.rstate p = psWhistling ∧ t + d.fld F.RNG_WHISTLE_WHISTLE_MS * 1000000 ≤ d.now then
        (d.setRstate p psTraining).modRport p fun x => { x with whistle := none, relayed := false }
      else d
    | none => d

end Sys2Proof.Machine
end

