-- ==== Sys2Proof/Machine/SeqOps.lean ====
section
/-! DEFINITION. Machine/SeqOps.lean: threads, contexts, locks, conditions and faults of the sequencers (chapter Microcoded Sequencers). -/
namespace Sys2Proof.Machine

/-- Type, threads and contexts of a sequencer (Table 14.1). -/
def seqType (s : Nat) : Nat := if s < 4 then 0 else if s < 6 then 1 else if s = 6 then 2 else 3
def seqThreads (s : Nat) : Nat := if s < 6 then 32 else if s = 6 then 16 else 8
def seqContexts (s : Nat) : Nat := if s < 4 then 4096 else if s < 6 then 1024 else if s = 6 then 512 else 256

/-- A sequencer is present, started and not halted. -/
def Dev.seqRuns (d : Dev) (s : Nat) : Bool :=
  (d.fld F.SEQ_STAT_PRESENT).testBit s && d.flag (F.SEQ_SSTAT_RUN s) && d.fld (F.SEQ_SSTAT_HALTED s) == 0

/-! ## Contexts -/

/-- Word i of a context of sequencer s. -/
def Dev.ctxWord (d : Dev) (s c i : Nat) : Word := d.seq.ctx.get (fun _ => 0) ((4096 * s + c) * 32 + i)

/-- Write word i of a context of sequencer s; a context beyond its store does not exist. An armed SEQ.INJECT of KIND 2 flips a bit of the store, which R246
mends (Table 14.10). -/
def Dev.setCtxWord (d : Dev) (s c i : Nat) (w : Word) : Dev :=
  if seqContexts s ≤ c then d
  else
    let d := d.modSeq fun q => { q with ctx := q.ctx.set (fun _ => 0) ((4096 * s + c) * 32 + i) w }
    if d.flag F.SEQ_INJECT_ARM && decide (d.fld F.SEQ_INJECT_KIND = 2 ∧ d.fld F.SEQ_INJECT_S = s) then
      let v := d.fld F.SEQ_INJECT_VALUE % 512
      (d.setFlag F.SEQ_INJECT_ARM false).sram .seq s (.mended ((128 * c + 4 * i) / 64) (v / 8) (v % 8)) true
    else d

/-! ## Flags -/

/-- Writes to SEQ.FLAGSETs and SEQ.FLAGCLRs (R437). -/
def Dev.flagSet (d : Dev) (s v who : Nat) : Dev :=
  let d := (d.regWrite (F.SEQ_FLAGSET_SET s).a v who).1
  d.setFld (F.SEQ_FLAGS_FLAGS s) (d.fld (F.SEQ_FLAGS_FLAGS s) ||| (v % 65536))
def Dev.flagClear (d : Dev) (s v who : Nat) : Dev :=
  let d := (d.regWrite (F.SEQ_FLAGCLR_CLR s).a v who).1
  d.setFld (F.SEQ_FLAGS_FLAGS s) (d.fld (F.SEQ_FLAGS_FLAGS s) &&& (65535 ^^^ (v % 65536)))

/-! ## Registers of a thread -/

/-- r0 reads zero (R416). -/
def ThreadS.reg (x : ThreadS) (i : Nat) : Word := if i = 0 then 0 else x.regs.get (fun _ => 0) i

/-- Write a register: r0 discards, r31 sets the thread's timer (R416). -/
def ThreadS.setReg (x : ThreadS) (now i : Nat) (w : Word) : ThreadS :=
  if i = 0 then x
  else
    let x := { x with regs := x.regs.set (fun _ => 0) i w }
    if i = 31 then { x with timer := some (now + w.toNat), expired := false } else x

/-- Write a run of registers from i on; those beyond r31 are not there. -/
def ThreadS.setRegs (x : ThreadS) (now : Nat) : Nat → List Word → ThreadS
  | _, [] => x
  | i, w :: r => if 32 ≤ i then x else (x.setReg now i w).setRegs now (i + 1) r

/-! ## Conditions (Table 14.5) -/

/-- Level of a condition for a thread of sequencer s. (DESIGN CHOICE, log entry 62) -/
def Dev.condLevel (d : Dev) (s : Nat) (x : ThreadS) (c : Nat) : Bool :=
  let ty := seqType s
  let a := s - 4
  let dueBg (k : BgKind) : Bool := d.bg.any fun r => decide (r.kind = k)
  match c with
  | 0 => true
  | 1 => x.resp != []
  | 2 => x.locked
  | 3 => x.expired
  | 4 => x.z
  | 5 => x.n
  | 6 => x.c
  | 7 => (d.ctxWord s x.ctx 0).toNat.testBit (Config.intrBit % 32)
  | 8 => d.pwr.pf.isSome
  | 16 => if ty = 0 then d.hst.c0.rdy else if ty = 1 then decide (bitsAt (d.fld F.SRV_LFAULT_FAULT) (2 + 10 * a) 10 ≠ 0) || (d.fld F.SRV_LFAULT_FAULT).testBit a
          else if ty = 2 then d.tstate == 1 else d.spn.cond
  | 17 => if ty = 0 then d.hst.c1.rdy else if ty = 1 then d.spn.cond else if ty = 2 then d.tstate == 2 || d.tstate == 3 else dueBg .roll
  | 18 => if ty = 0 then d.flag F.ZNE_STAT_READY else if ty = 1 then d.flag F.SPN_STAT_LOCKED else if ty = 2 then d.flag F.RNG_STAT_KEY_OK else dueBg .scrub
  | 19 => if ty = 0 then d.flag F.BUF_STAT_READY else if ty = 1 then (d.pwr.grants.any fun g => decide (g.1 / 10 = a))
          else if ty = 2 then decide (d.fld F.ECE_STAT_BUSY < 64) else d.log.flushReq.isSome
  | 20 => if ty = 0 then d.flag F.MDC_MOP_STAT_DONE else if ty = 1 then decide (d.fld (F.BUF_TBSTAT_BUSY a) < d.tbufSize a)
          else if ty = 2 then decide (d.rng.tjobs.length < d.fld F.RNG_JOB_JOBS_T) else d.flag F.ZNE_STAT_RECOVERING
  | n => decide (48 ≤ n) && (d.fld (F.SEQ_FLAGS_FLAGS s)).testBit (n - 48)

/-! ## Faults and restarts (R423 to R428) -/

/-- Abandon a routine and restart it from its entry: outbox discarded, lock released, registers and flags zero. -/
def Dev.restart (d : Dev) (s t : Nat) : Dev :=
  let d := d.releaseLock s t
  let x := d.thread s t
  (d.setThread s t { active := true, entry := x.entry, ctx := x.ctx, pc := x.entry, run := x.run + 1, restarts := x.restarts }).bump .seq (4 * s + 3)

/-- A thread is free again. -/
def Dev.endThread (d : Dev) (s t : Nat) : Dev :=
  let d := d.releaseLock s t
  d.setThread s t { run := (d.thread s t).run + 1 }

/-- Commands with work on a sequencer. -/
def Dev.workOn (d : Dev) (s : Nat) : List CmdRec :=
  d.cmds.filter fun c =>
    if s < 4 then csqOf c.tag.sq == s
    else if s < 6 then (d.msq.orders.any fun o => o.a == s - 4 && o.cmd == some c.tag) || (d.msq.ladders.any fun l => l.head / 10 == s - 4 && l.owner == some c.tag)
    else if s = 6 then c.kind == .ring
    else c.kind == .rollCall

/-- SEQUENCER_HALT (R428). -/
def Dev.haltSeq (d : Dev) (s pc : Nat) (inj : Bool) : Dev :=
  let busy := (List.range 32).filter fun t => (d.thread s t).active
  let work := d.workOn s
  let d := (d.setFld (F.SEQ_SSTAT_HALTED s) 1).setFld F.SEQ_STAT_HALTED (d.fld F.SEQ_STAT_HALTED ||| (1 <<< s))
  let d : Dev := busy.foldl (fun (d : Dev) t => d.endThread s t) d
  let d := d.event .seq 0x03 pc busy.length (work.length + injBit inj) s
  work.foldl (fun (d : Dev) c => d.quit c.tag stInternal 0 fun d => d.abandon c) d

/-- A fault restarts the routine; the third without a COMMIT or DROP halts the sequencer (R426 to R428). -/
def Dev.faultRestart (d : Dev) (s t : Nat) (inj : Bool) : Dev :=
  let x := d.thread s t
  let pc := x.pc
  let d := (d.incSat (F.SEQ_SSTAT_FAULT_RESTARTS s) 1).bump .seq 32
  let d := (d.setThread s t { x with restarts := x.restarts + 1 }).restart s t
  if 3 ≤ x.restarts + 1 then d.haltSeq s pc inj else d

/-- CONTROL_STORE_ERROR (R426): kind 0 ROM parity, 1 patch SRAM, 2 invalid address. -/
def Dev.cstoreError (d : Dev) (s t kind : Nat) (inj : Bool) : Dev :=
  let d := (d.flagFault .seq 4 3).bump .seq 33
  (d.event .seq 0x01 (d.thread s t).pc kind (t + injBit inj) s).faultRestart s t inj

/-- A register-file read that R246 cannot mend: as a control-store error, but it sets FSTAT.PARITY, which the read itself has done (R426). Table 14.12 gives its
event no parameter 2. (DESIGN CHOICE, log entry 62) -/
def Dev.regFileError (d : Dev) (s t : Nat) : Dev :=
  let (k, d) := d.drawNat
  (d.event .seq 0x01 (d.thread s t).pc k t s).faultRestart s t false

/-- MICROCODE_FAULT (R427): 0 outbox full, 1 stack, 2 RECV without response, 3 second lock. -/
def Dev.microFault (d : Dev) (s t kind : Nat) : Dev := (d.event .seq 0x06 (d.thread s t).pc kind t s).faultRestart s t false

end Sys2Proof.Machine
end

