-- ==== Sys2Proof/Machine/Spindle.lean ====
section
/-! DEFINITION. Machine/Spindle.lean: the spindle block SPN (chapter Spindle Commutation, Braking and Retract). -/
namespace Sys2Proof.Machine

/-! ## States -/

def Dev.spinState (d : Dev) : Nat := d.fld F.SPN_STAT_STATE
def Dev.setSpn (d : Dev) (x : SpnS) : Dev := { d with spn := x }
def Dev.modSpn (d : Dev) (f : SpnS → SpnS) : Dev := { d with spn := f d.spn }

/-- The spindle turns below 30 rpm. -/
def Dev.slowSpin (d : Dev) : Bool := decide (d.spn.rpm.natAbs < 30)

/-- rpm_tgt in whole rpm. -/
def Dev.rpmTgt (d : Dev) : Int := d.spn.tgtN.tdiv 1000000000

/-- Show the speeds (SPN.SPEED, SPN.STAT.DIR). -/
def Dev.showSpeed (d : Dev) : Dev :=
  ((d.setFld F.SPN_SPEED_RPM_MEAS (min d.spn.rpm.natAbs 65535)).setFld F.SPN_SPEED_RPM_TGT d.rpmTgt.natAbs).setFlag F.SPN_STAT_DIR
    (decide (d.spn.rpm < 0))

/-- LOCKED falls (R191, R215): counted, the spindle wait condition, event 0x0703. -/
def Dev.lockLost (d : Dev) : Dev :=
  if d.flag F.SPN_STAT_LOCKED then
    let d := (d.setFld F.SPN_STAT_LOCKED 0).setSpn { d.spn with cond := true, goodRevs := 0 }
    (d.bump .spn 5).event .spn 0x03 d.rpmTgt.natAbs (tc 32 d.spn.rpm)
  else d.setSpn { d.spn with goodRevs := 0 }

/-- Command the gates: what they did before stays known, for the dead time (R187). -/
def Dev.setGates (d : Dev) (g : Gates) : Dev :=
  if d.spn.gates = g then d else d.setSpn { d.spn with gates := g, gatesWere := d.spn.gates, gatesAt := d.now }

/-- Enter a state; leaving RUN drops LOCKED. -/
def Dev.spin (d : Dev) (st : Nat) (g : Gates) : Dev :=
  let d := if d.spinState = 2 ∧ st ≠ 2 then d.lockLost else d
  ((d.setFld F.SPN_STAT_STATE st).setSpn { d.spn with pulse := false, braking := false }).setGates g

/-- Turn every gate off: STOP or COAST by the speed. -/
def Dev.gatesOff (d : Dev) : Dev := d.spin (if d.slowSpin then 0 else 4) .off

/-- Enter RUN from the measured speed with the presets of R199. -/
def Dev.enterRun (d : Dev) : Dev :=
  let d := d.spin 2 .off
  let ke := d.fld F.SPN_KE_KE
  (d.setSpn { d.spn with
    tgtN := d.spn.rpm * 1000000000, tgtAt := d.now, iSpd := 0, iD := 0, iQ := roundAway ((ke : Int) * d.spn.rpm * 2 ^ 28) 1000
    istar := 0, goodRevs := 0, revs := 0, runAt := d.now, lockRose := false, lockTmo := false, measure := none }).showSpeed

/-- Enter short brake. -/
def Dev.shortBrake (d : Dev) : Dev := d.spin 3 .low

/-- A condition of rank 1 to 3 of Table 7.4 holds, or SPN is not enabled: no start goes on (R196, R204). -/
def Dev.spinBarred (d : Dev) : Bool :=
  !d.flag F.SPN_CTRL_EN || d.flag F.SPN_STAT_RSV_FAIL || d.flag F.SPN_STAT_OV || d.flag F.SPN_STAT_PF

/-- Begin the speed measurement of a start (R197). -/
def Dev.startMeasure (d : Dev) : Dev := if d.spinBarred then d else d.setSpn { d.spn with measure := some d.now }

/-- What the gates follow while a condition of rank 1 to 3 holds (Table 7.4), or SPN is not enabled (R196): all off, the short brake of an overvoltage, the bus loop
of a power-fail that regenerates. -/
def Dev.spinRanked (d : Dev) : Dev :=
  if d.flag F.SPN_STAT_RSV_FAIL || !d.flag F.SPN_CTRL_EN then d.gatesOff
  else if d.flag F.SPN_STAT_OV then d.shortBrake
  else if d.spn.regen then d.spin 5 .off
  else d.gatesOff

/-! ## Speed curve (R193, R194) -/

/-- Interpolation over points (x, y) with rising x, rounded to nearest, ties away from zero (R193). (DESIGN CHOICE, log entry 25) -/
def interp (pts : List (Int × Int)) (x : Int) : Int :=
  match pts with
  | [] => 0
  | p :: rest =>
    if x ≤ p.1 then p.2
    else
      let rec go : Int × Int → List (Int × Int) → Int
        | p, [] => p.2
        | p, q :: r => if x < q.1 then roundAway (p.2 * (q.1 - p.1) + (q.2 - p.2) * (x - p.1)) (max (q.1 - p.1).natAbs 1) else go q r
      go p rest

def Dev.curve (d : Dev) (dmd : Nat) : Nat :=
  (interp ((List.range 16).map fun i => ((d.fld (F.SPN_SPC_DMD i) : Int), (d.fld (F.SPN_SPC_RPM i) : Int))) dmd).toNat

def Dev.advance (d : Dev) (rpm : Nat) : Int :=
  interp ((List.range 16).map fun i => ((d.fld (F.SPN_ADV_RPM i) : Int), sext 16 (d.fld (F.SPN_ADV_ADV i)))) rpm

/-- The speed that the demand asks for (R194). -/
def Dev.spinTarget (d : Dev) : Nat := if d.spn.on then d.curve (d.fld F.SPN_DEMAND_DEMAND) else 0

/-- Act on the demand: the on bit, a start when it rises in STOP or COAST, the abandonment of a start when it falls (R194, R197); LOCKED falls
when the ramp's target changes. With EN = 0 the demand is ignored and the gates are off (R196). -/
def Dev.spinDemand (d : Dev) (old : Nat) : Dev :=
  if !d.flag F.SPN_CTRL_EN then
    let d := d.setSpn { d.spn with on := false, measure := none }
    if d.spinState = 0 ∨ d.spinState = 4 then d else d.gatesOff
  else
    let dm := d.fld F.SPN_DEMAND_DEMAND
    let was := d.spn.on
    let on := if !was && decide (d.fld F.SPN_ONOFF_ON_THR ≤ dm) then true else was
    let on := if on && decide (dm ≤ d.fld F.SPN_ONOFF_OFF_THR) then false else on
    let d := d.setSpn { d.spn with on := on }
    let d := if d.spinTarget ≠ old ∧ d.spinState = 2 then d.lockLost else d
    let st := d.spinState
    if on && !was && (st == 0 || st == 4) then d.startMeasure
    else if !on && was && (d.spn.measure.isSome || st == 1 || d.spn.braking) then
      let d := d.setSpn { d.spn with measure := none, braking := false }
      if d.spinBarred then d else if d.slowSpin then d.gatesOff else if st = 0 ∨ st = 1 ∨ st = 4 then d.shortBrake else d
    else d

/-- A write to SPN.DEMAND (R194). -/
def Dev.demandWrite (d : Dev) (v who : Nat) : Dev :=
  let old := d.spinTarget
  ((d.regWrite F.SPN_DEMAND_DEMAND.a v who).1).spinDemand old

/-- SPN_DEMAND_WRITE (R194). -/
def execSpnDemandWrite (v : Word) (who : Requester) (s : State) : Out := s.doesIn 3 fun d => d.demandWrite v.toNat (reqCode who)

/-! ## Sine -/

/-- 2π × 2^64. -/
def twoPi : Int := 115904311329233965478

/-- Terms of the sine's series from `t` on, times 2^64: the k-th has been reached. -/
def sinSeries (xx : Int) : Nat → Nat → Int → Int
  | 0, _, _ => 0
  | n + 1, k, t => t + sinSeries xx n (k + 2) (-(roundAway (t * xx) (2 ^ 64 * ((k + 1) * (k + 2)))))

/-- sin of an angle of at most a quarter turn, in 1/65,536 turn. -/
def sinQuarter (t : Nat) : Int :=
  let x := roundAway (twoPi * t) 65536
  roundAway (sinSeries (roundAway (x * x) (2 ^ 64)) 14 1 x) (2 ^ 36)

/-- sin of an angle in 1/65,536 turn, with 28 fraction bits, rounded to nearest. (DESIGN CHOICE, log entry 79) -/
def qsin (t : Nat) : Int :=
  let r := t % 16384
  match t / 16384 % 4 with
  | 0 => sinQuarter r
  | 1 => sinQuarter (16384 - r)
  | 2 => -sinQuarter r
  | _ => -sinQuarter (16384 - r)

def qcos (t : Nat) : Int := qsin (t + 16384)

/-- Angle of a point with non-negative coordinates below a quarter turn, in 1/65,536 turn, by bits from `n` down. -/
def angleBits (sn cs : Int) : Nat → Nat → Nat
  | 0, a => a
  | n + 1, a => angleBits sn cs n (if 0 ≤ sn * qcos (a + 2 ^ n) - cs * qsin (a + 2 ^ n) then a + 2 ^ n else a)

/-- Angle of sine and cosine samples, in 1/65,536 turn. -/
def angleOf (sn cs : Int) : Nat :=
  let a := angleBits sn.natAbs cs.natAbs 14 0
  (if 0 ≤ cs then (if 0 ≤ sn then a else 65536 - a) else if 0 ≤ sn then 32768 - a else 32768 + a) % 65536

/-! ## Resolver -/

/-- Integer square root by bits, from bit `n` down. -/
def isqrt : Nat → Nat → Nat → Nat
  | 0, _, r => r
  | n + 1, x, r => isqrt n x (if (r + 2 ^ n) * (r + 2 ^ n) ≤ x then r + 2 ^ n else r)

/-- Phase of the excitation in 1/65,536 period; RSV_EXC_P/N carries its sine (R188). (DESIGN CHOICE, log entry 79) -/
def Dev.excPhase (d : Dev) : Nat := d.now * d.fld F.SPN_RSV_EXC_KHZ * 65536 / 1000000 % 65536

/-- RSV_EXC, as a fraction of its amplitude with 28 fraction bits. -/
def Dev.rsvExc (d : Dev) : Int := qsin d.excPhase

/-- What the observer's speed adds to the angle since the last sample, in 2^-32 cycles: two samples are taken in an excitation period (R188). -/
def Dev.sinceSample (d : Dev) : Int := match d.spn.seenAt with
  | some t => (d.spn.omega * ((d.now - t : Nat) : Int) * (d.fld F.SPN_RSV_EXC_KHZ : Int)).tdiv 500000
  | none => 0

/-- θr now, extrapolated from the last sample at the observer's speed, in 1/65,536 resolver cycle (R188). -/
def Dev.thetaR (d : Dev) : Nat :=
  (((d.spn.obs : Int) + d.sinceSample) % 2 ^ 32).toNat / 65536

/-- RESOLVER_FAILED (R190): RSV_FAIL, gates off, the wait condition, event 0x0705. -/
def Dev.resolverFail (d : Dev) (why m : Nat) (inj : Bool) : Dev :=
  if d.flag F.SPN_STAT_RSV_FAIL then d
  else
    let st := d.spinState
    let d := (d.setFld F.SPN_STAT_RSV_FAIL 1).gatesOff
    let d := d.setSpn { d.spn with cond := true, measure := none }
    (d.bump .spn 8).event .spn 0x05 why m (st + injBit inj)

/-- The check that a sample fails, if any: M low, M high, tracking. `mm` is the square of M in 1/32,768 of full scale, `err` the observer's angle error in 1/65,536
resolver cycle; TRK_TOL is in electrical turns (R189, R190). -/
def Dev.resolverCheck (d : Dev) (mm err : Nat) : Option Nat :=
  if mm * 10000 < (d.fld F.SPN_RSV_AMP_LO * 32768) ^ 2 then some 0
  else if (d.fld F.SPN_RSV_AMP_HI * 32768) ^ 2 < mm * 10000 then some 1
  else if d.fld F.SPN_RSV_TRK_TOL * 256 * d.fld F.SPN_MOTOR_RSV_NR < err * d.fld F.SPN_MOTOR_POLES then some 2
  else none

/-- The observer's prediction of the angle at this sample. -/
def Dev.predicted (d : Dev) : Nat := (((d.spn.obs : Int) + d.spn.omega) % 2 ^ 32).toNat

/-- Angle error of a sample: measured angle minus prediction, between half a cycle back and forth; the first sample sets the observer. (DESIGN CHOICE, log entry 79) -/
def Dev.angleError (d : Dev) (angle : Nat) : Int :=
  if d.spn.seenAt.isNone then 0 else ((angle : Int) - (d.predicted / 65536 : Nat) + 32768) % 65536 - 32768

/-- The tracking observer takes a sample: angle, speed and measured rpm (R188, R191). (DESIGN CHOICE, log entry 79) -/
def Dev.observe (d : Dev) (angle : Nat) : Dev :=
  let e := d.angleError angle
  let x := d.spn
  let step := x.omega + Config.observerAngle * e
  let obs := if x.seenAt.isNone then angle * 65536 else (((x.obs : Int) + step) % 2 ^ 32).toNat
  let omega := x.omega + Config.observerSpeed * e
  let rpm := roundAway (omega * (120000 * d.fld F.SPN_RSV_EXC_KHZ : Nat)) (2 ^ 32 * max (d.fld F.SPN_MOTOR_RSV_NR) 1)
  (d.setSpn { x with obs := obs, omega := omega, seenAt := some d.now, rpm := rpm, turned := if x.seenAt.isNone then 0 else x.turned + step
                     turnAt := if x.seenAt.isNone then d.now else x.turnAt }).showSpeed

/-- Count failing samples, the third in a row fails the resolver (R190). -/
def Dev.resolverTake (d : Dev) (why : Option Nat) (m : Nat) (inj : Bool) : Dev :=
  match why with
  | none => d.modSpn ({ · with fails := 0 })
  | some w =>
    let d := d.modSpn fun x => { x with fails := x.fails + 1 }
    if 3 ≤ d.spn.fails then d.resolverFail w m inj else d

/-- An injection of KIND 2 is used up after three samples. -/
def Dev.resolverInj (d : Dev) : Dev :=
  let d := d.modSpn fun x => { x with injRsv := x.injRsv + 1 }
  if 3 ≤ d.spn.injRsv then d.setFlag F.SPN_INJECT_ARM false else d

/-- The state follows the speed: STOP and COAST; a brake before ALIGN ends at 30 rpm (Table 7.3); a short brake that stands in for regeneration
ends at rpm_tgt (R202). -/
def Dev.followSpeed (d : Dev) : Dev :=
  let s0 := d.spinState
  if s0 = 0 ∨ s0 = 4 then d.setFld F.SPN_STAT_STATE (if d.slowSpin then 0 else 4)
  else if s0 = 3 ∧ d.spn.braking ∧ d.spn.rpm.natAbs ≤ 30 then (d.spin 1 .off).modSpn ({ · with alignAt := d.now, iD := 0, iQ := 0 })
  else if s0 = 3 ∧ d.spn.pulse ∧ d.spn.rpm ≤ d.rpmTgt then d.enterRun
  else d

/-- RESOLVER_SAMPLE (R188 to R190): the converters' sine and cosine at a peak of the excitation, in 1/32,768 of full scale; the sign is corrected at a negative
peak. -/
def execResolverSample (sn cs : BitVec 16) (st : State) : Out :=
  st.doesIn 3 fun d =>
    let inj := d.flag F.SPN_INJECT_ARM && d.fld F.SPN_INJECT_KIND = 2
    let s := if d.excPhase < 32768 then sn.toInt else -sn.toInt
    let c := if d.excPhase < 32768 then cs.toInt else -cs.toInt
    let mm := if inj then 0 else (s * s + c * c).natAbs
    let why := d.resolverCheck mm (d.angleError (angleOf s c)).natAbs
    let d := (d.observe (angleOf s c)).resolverTake why (isqrt 32 (mm * 10000) 0 / 32768) inj
    (if inj then d.resolverInj else d).followSpeed

/-- One mechanical revolution is complete: θr has advanced by RSV_NR cycles (R191). -/
def Dev.revolved (d : Dev) : Bool := decide (2 ^ 32 * d.fld F.SPN_MOTOR_RSV_NR ≤ (d.spn.turned + d.sinceSample).natAbs)

/-- REVOLUTION_COMPLETE (R191): θr has advanced by a revolution; its time is taken on TBASE. LOCKED rises after LOCK_REVS good ones in RUN with the ramp ended, and
falls outside UNLOCK_TOL. -/
def execRevolutionComplete (s : State) : Out :=
  s.doesIn 3 fun d =>
    if !d.revolved then d
    else
      let ns := d.now - d.spn.turnAt
      let turn : Int := (2 ^ 32 * d.fld F.SPN_MOTOR_RSV_NR : Nat) * (if d.spn.turned < 0 then -1 else 1)
      let tgt := d.rpmTgt.natAbs
      let off := ((ns * tgt : Nat) - (60000000000 : Nat) : Int).natAbs * 10000
      let d := (d.bump .spn 0).setSpn { d.spn with revs := d.spn.revs + 1, turnAt := d.now, turned := d.spn.turned - turn }
      let ended := d.spn.tgtN == (d.spinTarget : Int) * 1000000000
      if d.flag F.SPN_STAT_LOCKED then
        if d.fld F.SPN_LOCK_UNLOCK_TOL * 60000000000 < off then d.lockLost else d
      else if d.spinState = 2 ∧ ended ∧ off ≤ d.fld F.SPN_LOCK_LOCK_TOL * 60000000000 then
        let n := d.spn.goodRevs + 1
        let d := d.setSpn { d.spn with goodRevs := n }
        if d.fld F.SPN_LOCK_LOCK_REVS ≤ n then
          let d := ((d.setFld F.SPN_STAT_LOCKED 1).modSpn ({ · with lockRose := true })).event .spn 0x02 tgt d.spn.revs
          let st := d.flag F.SPN_STAT_OV || d.flag F.SPN_STAT_PF || d.flag F.SPN_STAT_RSV_FAIL
          if st then d else d.setSpn { d.spn with cond := false }
        else d
      else d.setSpn { d.spn with goodRevs := 0 }

/-- LOCK_TIMEOUT (R191): LOCKED has not risen within LOCK_TMO seconds of entering RUN; event 0x070B, once. (DESIGN CHOICE, log entry 7) -/
def execLockTimeout (s : State) : Out :=
  s.doesIn 3 fun d =>
    if d.spinState = 2 ∧ !d.spn.lockRose ∧ !d.spn.lockTmo ∧ d.spn.runAt + d.fld F.SPN_LOCK_LOCK_TMO * 1000000000 ≤ d.now then
      (d.setSpn { d.spn with lockTmo := true }).event .spn 0x0B d.rpmTgt.natAbs (tc 32 d.spn.rpm)
    else d

/-! ## Commutation (R192) -/

/-- A PI step: output and integrator (with 28 fraction bits), both clamped at `lim`. -/
def piStep (kp ki integ err lim : Int) : Int × Int :=
  let i := clampAbs (lim * 2 ^ 28) (integ + ki * err)
  (clampAbs lim (roundAway (kp * err + i) (2 ^ 28)), i)

/-- Electrical angle of R189, now. -/
def Dev.thetaE (d : Dev) : Nat :=
  (d.thetaR * d.fld F.SPN_MOTOR_POLES / max (d.fld F.SPN_MOTOR_RSV_NR) 1 + d.fld F.SPN_MOTOR_ANG_OFS) % 65536

/-- Scale by a fixed-point factor. -/
def qScale (a q : Int) : Int := roundAway (a * q) (2 ^ 28)

/-- park(clarke(iu, iv, iw), θ): (id, iq). -/
def parkClarke (iu iv iw : Int) (t : Nat) : Int × Int :=
  let a := roundAway (2 * iu - iv - iw) 3
  let b := qScale (iv - iw) 154981022
  (qScale a (qcos t) + qScale b (qsin t), qScale b (qcos t) - qScale a (qsin t))

/-- Duties of the phases in 1/65,536, centred between the largest and the smallest phase voltage. -/
def svpwm (vd vq : Int) (t : Nat) (vbus : Int) : Gates :=
  let a := qScale vd (qcos t) - qScale vq (qsin t)
  let b := qScale vd (qsin t) + qScale vq (qcos t)
  let u := a
  let h := qScale b 232471534
  let v := h - roundAway a 2
  let w := -h - roundAway a 2
  let mid := roundAway (max u (max v w) + min u (min v w)) 2
  let duty (x : Int) : Int := max 0 (min 65536 (32768 + roundAway ((x - mid) * 65536) (max vbus.natAbs 1)))
  .pwm (duty u) (duty v) (duty w)

/-- The gate outputs (high, low) of one phase at `x` ns of a PWM period of `per` ns: the high switch is on for the phase's duty around the middle of the period, the
low switch for the rest, each from `dead` ns after the other has gone off (R187, R192). -/
def phaseGates (duty : Int) (per dead x : Nat) : Bool × Bool :=
  let on := (duty.toNat * per) / 65536
  let a := (per - on) / 2
  let b := a + on
  (decide (a + dead ≤ x ∧ x < b), decide (x < a) || decide (b + dead ≤ x))

/-- The gate outputs of a phase under a gate command: what Table 7.2 gives for off and low. -/
def Gates.outputs (g : Gates) (per dead x : Nat) : List (Bool × Bool) := match g with
  | .off => [(false, false), (false, false), (false, false)]
  | .low => [(false, true), (false, true), (false, true)]
  | .pwm u v w => [phaseGates u per dead x, phaseGates v per dead x, phaseGates w per dead x]

/-- The gate outputs now, `x` ns into the PWM period: for DEAD_NS after a change of command a switch is on only where both the old and the new command have it on,
so no switch goes on before the other of its phase has been off for DEAD_NS (R187). -/
def Dev.gateOutputs (d : Dev) (x : Nat) : List (Bool × Bool) :=
  let per := 1000000 / max (d.fld F.SPN_PWM_PWM_KHZ) 1
  let dead := 5 * d.fld F.SPN_PWM_DEAD_NS
  let new := d.spn.gates.outputs per dead x
  if d.spn.gatesAt + dead ≤ d.now then new
  else List.zipWith (fun a b => (a.1 && b.1, a.2 && b.2)) new (d.spn.gatesWere.outputs per dead x)

/-- Gains of the loops. -/
def gain (d : Dev) (f : RF) : Int := sext 32 (d.fld f)

/-- Current loops with given demands; sets the gates. -/
def Dev.currents (d : Dev) (iu iv iw idr iqr : Int) (t : Nat) : Dev :=
  let (id, iq) := parkClarke iu iv iw t
  let vbus : Int := d.fld F.SPN_VBUS_NOW * 20
  let kp := gain d F.SPN_KCUR_KP_K
  let ki := gain d F.SPN_KCUR_KI_K
  let (vd, iD) := piStep kp ki d.spn.iD (idr - id) vbus
  let (vq, iQ) := piStep kp ki d.spn.iQ (iqr - iq) vbus
  (d.setSpn { d.spn with iD := iD, iQ := iQ, iu := iu, iv := iv, iw := iw }).setGates (svpwm vd vq t vbus)

/-- Move rpm_tgt toward the target (R195). -/
def Dev.moveTarget (d : Dev) : Dev :=
  let goal : Int := (d.spinTarget : Int) * 1000000000
  let dt : Int := ((d.now - d.spn.tgtAt : Nat) : Int)
  let up := dt * (d.fld F.SPN_RAMP_ACCEL : Int)
  let down := dt * (d.fld F.SPN_RAMP_DECEL : Int)
  let t := d.spn.tgtN
  let t' := if t < goal then min goal (t + up) else max goal (t - down)
  (d.setSpn { d.spn with tgtN := t', tgtAt := d.now }).showSpeed

/-- The chopper can burn regenerated energy (R202). -/
def Dev.chopperUsable (d : Dev) : Bool := d.flag F.SPN_CTRL_CHOP_EN && !d.flag F.SPN_STAT_CHOP_FAIL

/-- Field-oriented control with torque current istar (R192). -/
def Dev.foc (d : Dev) (iu iv iw istar : Int) : Dev :=
  let phi := (d.advance d.spn.rpm.natAbs % 65536).toNat
  (d.setSpn { d.spn with istar := istar }).currents iu iv iw (-(qScale istar.natAbs (qsin phi))) (qScale istar (qcos phi)) d.thetaE

/-- The power stage's profile, once it is identified on lane 0: it scales the spindle's sense inputs (R187, Table 7.6). -/
def Dev.spinStage (d : Dev) : Option PStage := if d.flag (F.ACT_PSID_FOUND 0) then d.pstage (d.fld (F.ACT_PSID_ID 0)) else none

/-- A phase-current sample, in 1/32,768 of full scale, in mA. (DESIGN CHOICE, log entry 79) -/
def Dev.phaseMa (d : Dev) (c : BitVec 16) : Int := match d.spinStage with
  | some p => roundAway (c.toInt * p.isnsMa) 32768
  | none => 0

/-- PWM_PERIOD (R192, R202, R208): one period with the phase-current samples of its centre. In RUN the speed loop, in PFREGEN the bus loop gives the torque current;
in ALIGN the d axis carries ALIGN_MA at θe = 0. (DESIGN CHOICE, log entry 79) -/
def execPwmPeriod (cu cv cw : BitVec 16) (s : State) : Out :=
  s.doesIn 3 fun d =>
    let iu := d.phaseMa cu
    let iv := d.phaseMa cv
    let iw := d.phaseMa cw
    let st := d.spinState
    if st = 1 then d.currents iu iv iw (d.fld F.SPN_ALIGN_ALIGN_MA) 0 0
    else if st = 2 then
      let d := d.moveTarget
      let lim : Int := if d.spn.rpm.natAbs < 1000 then d.fld F.SPN_CURR_I_START else d.fld F.SPN_CURR_I_RUN
      let (istar, i) := piStep (gain d F.SPN_KSPD_KP_K) (gain d F.SPN_KSPD_KI_K) d.spn.iSpd (d.rpmTgt - d.spn.rpm) lim
      let d := d.setSpn { d.spn with iSpd := i }
      if istar < 0 ∧ !d.chopperUsable then d.shortBrake.modSpn ({ · with pulse := true, istar := istar })
      else d.foc iu iv iw istar
    else if st = 5 then
      let (x, i) := piStep (gain d F.SPN_KBUS_KP_K) (gain d F.SPN_KBUS_KI_K) d.spn.iBus
        ((d.fld F.SPN_VTHR3_REGEN_V * 20 : Nat) - (d.fld F.SPN_VBUS_NOW * 20 : Nat) : Int) (d.fld F.SPN_CURR_I_RUN)
      (d.setSpn { d.spn with iBus := min i 0 }).foc iu iv iw (min x 0)
    else if st = 3 ∧ d.spn.pulse then d.moveTarget
    else d

/-! ## Starts and stops -/

/-- START_MEASURE_DONE (R197, Table 7.3): 2 ms after the measurement began SPN decides: catch, align, or brake and align. -/
def execStartMeasureDone (s : State) : Out :=
  s.doesIn 3 fun d =>
    match d.spn.measure with
    | none => d
    | some t =>
      if d.now < t + 2000000 ∨ d.spinBarred then d
      else
        let r := d.spn.rpm
        let dec := if 60 < r then 0 else if -30 ≤ r then 1 else 2
        let d := (d.setSpn { d.spn with measure := none }).event .spn 0x01 dec (tc 32 r)
        let d := d.bump .spn 1
        if dec = 0 then (d.bump .spn 2).enterRun
        else if dec = 1 then (d.spin 1 .off).modSpn ({ · with alignAt := d.now, iD := 0, iQ := 0 })
        else (d.bump .spn 3).shortBrake.modSpn ({ · with braking := true })

/-- ALIGN_DONE (R198): after ALIGN_MS the measured electrical angle is compared with 0. -/
def execAlignDone (s : State) : Out :=
  s.doesIn 3 fun d =>
    if d.spinState ≠ 1 ∨ d.now < d.spn.alignAt + 1000000 * d.fld F.SPN_ALIGN_ALIGN_MS then d
    else
      let e := min d.thetaE (65536 - d.thetaE)
      if e ≤ 256 * d.fld F.SPN_ALIGN_ALIGN_TOL then d.enterRun
      else ((d.gatesOff).bump .spn 4).event .spn 0x04 e

/-- SPINDLE_STOPPED (R195, R197): braking has brought the spindle below 30 rpm; gates off, STOP. With the on bit set again meanwhile, a new start
begins. -/
def execSpindleStopped (s : State) : Out :=
  s.doesIn 3 fun d =>
    let st := d.spinState
    if !d.slowSpin || d.flag F.SPN_STAT_OV then d
    else if st = 2 ∧ d.spinTarget = 0 then d.gatesOff
    else if st = 3 ∧ !d.spn.pulse ∧ !d.spn.braking then (if d.spn.on then d.gatesOff.startMeasure else d.gatesOff)
    else if st = 3 ∧ d.spn.pulse ∧ !d.spn.on then d.gatesOff
    else d

/-! ## The spindle bus -/

/-- OVERVOLTAGE_SHORT_BRAKE (R203): a start in progress is given up; the gates follow Table 7.4. -/
def Dev.overVoltage (d : Dev) (vb : Nat) (inj : Bool) : Dev :=
  if d.flag F.SPN_STAT_OV then d
  else
    let st := d.spinState
    let d := (d.setFld F.SPN_STAT_OV 1).setSpn { d.spn with cond := true, ovClear := none, measure := none }
    (d.spinRanked.bump .spn 7).event .spn 0x06 vb (tc 32 d.spn.rpm) (st + injBit inj)

/-- POWER_FAIL_DECLARED (R208): ISOLATE and HOLDUP on channel 11, PFREGEN while the speed allows it, else the gates off, as Table 7.4 ranks them; event 0x0708. -/
def Dev.powerFail (d : Dev) (vb : Nat) : Dev :=
  if d.flag F.SPN_STAT_PF then d
  else
    let regen := decide (d.fld F.SPN_HOLD_REGEN_MIN ≤ d.spn.rpm.natAbs) && !d.flag F.SPN_STAT_RSV_FAIL && d.flag F.SPN_CTRL_EN
    let d := d.setFunc 11 3
    let d := (d.setFld F.SPN_STAT_PF 1).setSpn { d.spn with cond := true, pfAt := d.now, measure := none, iBus := 0, regen := regen }
    let d := if regen then d.spinRanked.bump .spn 9 else d.spinRanked
    d.event .spn 0x08 vb (tc 32 d.spn.rpm) regen.toNat

/-- The chopper follows VBUS (R200); its first window begins 4 µs after BRAKE rises (R201). -/
def Dev.chop (d : Dev) (vb : Nat) : Dev :=
  if !d.chopperUsable then d.setSpn { d.spn with brake := false, win := none }
  else if !d.spn.brake && decide (d.fld F.SPN_VTHR1_CHOP_ON ≤ vb) then
    let inj := d.flag F.SPN_INJECT_ARM && d.fld F.SPN_INJECT_KIND = 0
    (d.setSpn { d.spn with brake := true, win := some (d.now + 4000, vb), lowWin := 0, injChop := inj }).bump .spn 6
  else if d.spn.brake && decide (vb ≤ d.fld F.SPN_VTHR1_CHOP_OFF) then
    let d := if d.spn.injChop then d.setFlag F.SPN_INJECT_ARM false else d
    d.setSpn { d.spn with brake := false, win := none, lowWin := 0, injChop := false }
  else match d.spn.win with
    | some (t, _) => if d.now ≤ t then d.setSpn { d.spn with win := some (t, vb) } else d
    | none => d

/-- A sample of SPN_VBUS, in 1/65,536 of the converter's full scale, in 20 mV units; without a power stage identified it has no scale. (DESIGN CHOICE, log entry 79) -/
def Dev.vbusUnits (d : Dev) (c : BitVec 16) : Option Nat := d.spinStage.map fun p => min (c.toNat * p.vbusMv / 65536 / 20) 1023

/-- VBUS_SAMPLE (R200, R203, R208): a sample of the converter; the chopper, the overvoltage and the power-fail thresholds act on it. (DESIGN CHOICE, log entry 79) -/
def execVbusSample (c : BitVec 16) (s : State) : Out :=
  s.doesIn 3 fun d =>
    match d.vbusUnits c with
    | none => d
    | some v =>
      let inj := d.flag F.SPN_INJECT_ARM && d.fld F.SPN_INJECT_KIND = 1
      let d := if inj && d.spn.injUntil.isNone then d.setSpn { d.spn with injUntil := some (d.now + 100000) } else d
      let live := inj && match d.spn.injUntil with | some t => decide (d.now < t) | none => false
      let d := if inj && !live then (d.setFlag F.SPN_INJECT_ARM false).setSpn { d.spn with injUntil := none } else d
      let vb := min (v + (if live then d.fld F.SPN_INJECT_VALUE else 0)) 1023
      let d := d.setFld F.SPN_VBUS_NOW vb
      let d := if d.fld F.SPN_VBUS_PEAK < vb then d.setFld F.SPN_VBUS_PEAK vb else d
      let d := d.chop vb
      let d := if d.fld F.SPN_VTHR2_OV_THR < vb then d.overVoltage vb live else d
      let d := if vb < d.fld F.SPN_VTHR3_PF_THR then d.powerFail vb else d
      if d.flag F.SPN_STAT_OV then
        if d.fld F.SPN_VTHR2_OV_CLR ≤ vb then d.setSpn { d.spn with ovClear := none }
        else if d.spn.regen then ((d.setFld F.SPN_STAT_OV 0).setSpn { d.spn with ovClear := none }).spinRanked
        else if d.spn.ovClear.isNone then d.setSpn { d.spn with ovClear := some d.now } else d
      else d

/-- Mean current of the bridge's DC link into the bus, in mA, from the phase currents and the switch states: each phase draws its current for its duty; with all
gates off or low nothing flows (R201). (DESIGN CHOICE, log entry 79) -/
def Dev.linkMa (d : Dev) : Int := match d.spn.gates with
  | .pwm u v w => -(roundAway (u * d.spn.iu + v * d.spn.iv + w * d.spn.iw) 65536)
  | _ => 0

/-- CHOPPER_WINDOW_END (R201): a window of 8 µs has ended; three low windows in a row fail the chopper. -/
def execChopperWindowEnd (s : State) : Out :=
  s.doesIn 3 fun d =>
    match d.spn.win with
    | none => d
    | some (t, v0) =>
      if d.now < t + 8000 then d
      else
        let dv : Int := ((d.fld F.SPN_VBUS_NOW : Int) - v0) * 20
        let est : Int := if d.spn.injChop then 0
          else d.linkMa - roundAway ((d.fld F.SPN_CHOP_CBUS_UF : Int) * dv) 8 - (d.fld F.SPN_HOLD_ILOAD * 100 : Nat)
        let expd := d.fld F.SPN_VBUS_NOW * 20000 / max (d.fld F.SPN_CHOP_RBRK_MOHM) 1
        let n := if 4 * est < expd then d.spn.lowWin + 1 else 0
        let d := d.setSpn { d.spn with lowWin := n, win := some (t + 8000, d.fld F.SPN_VBUS_NOW) }
        if n < 3 then d
        else
          let inj := d.spn.injChop
          let d := if inj then d.setFlag F.SPN_INJECT_ARM false else d
          let d := (d.setFld F.SPN_STAT_CHOP_FAIL 1).setSpn { d.spn with brake := false, win := none, lowWin := 0, injChop := false }
          let d := if d.spn.istar < 0 ∧ d.spinState = 2 then d.shortBrake.modSpn ({ · with pulse := true }) else d
          d.event .spn 0x07 expd (tc 32 est) (d.fld F.SPN_VBUS_NOW + injBit inj)

/-- OV_HOLD_END (R203): VBUS has stayed below OV_CLR for SB_HOLD_MS; OV clears and SPN goes on by its demand and speed, or by Table 7.4 under a power-fail that does
not regenerate. -/
def execOvHoldEnd (s : State) : Out :=
  s.doesIn 3 fun d =>
    match d.spn.ovClear with
    | none => d
    | some t =>
      if !d.flag F.SPN_STAT_OV || d.spn.regen || decide (d.now < t + 1000000 * d.fld F.SPN_HOLD_SB_HOLD_MS) then d
      else
        let d := (d.setFld F.SPN_STAT_OV 0).setSpn { d.spn with ovClear := none }
        if d.spinBarred then d.spinRanked
        else if !d.spn.on then (if d.slowSpin then d.gatesOff else d)
        else if 60 < d.spn.rpm then d.enterRun
        else d.startMeasure

/-- REGEN_END (R210): below REGEN_MIN in PFREGEN the gates go off, HOLDUP is cleared, event 0x0709. -/
def execRegenEnd (s : State) : Out :=
  s.doesIn 3 fun d =>
    if d.spinState = 5 ∧ d.spn.rpm.natAbs < d.fld F.SPN_HOLD_REGEN_MIN then
      let d := ((d.spin 4 .off).modSpn ({ · with regen := false })).setFunc 11 1
      d.event .spn 0x09 (tc 32 d.spn.rpm) ((d.now - d.spn.pfAt) / 1000)
    else d

/-- SPN_INJECT_ARM (R213): a write to SPN.INJECT. -/
def execSpnInjectArm (v : Word) (who : Requester) (s : State) : Out :=
  s.doesIn 3 fun d => ((d.regWrite 0x03100030 v.toNat (reqCode who)).1).modSpn ({ · with injUntil := none, injRsv := 0 })

end Sys2Proof.Machine
end

