-- ==== Sys2Proof/Machine/Mdc.lean ====
section
/-! DEFINITION. Machine/Mdc.lean: the metadata cache (chapter Metadata Cache). -/
namespace Sys2Proof.Machine

/-! ## Lines and sets -/

def Dev.modMdc (d : Dev) (f : MdcS → MdcS) : Dev := { d with mdc := f d.mdc }

/-- Set and tag of a line (R254). -/
def mset (line : Nat) : Nat := line % 16384
def mtag (line : Nat) : Nat := line / 16384

def Dev.mline (d : Dev) (set way : Nat) : Option MLine := d.mdc.lines.get (fun _ => none) (12 * set + way)

/-- Show VALID and DIRTY. -/
def Dev.mdcShow (d : Dev) : Dev :=
  (d.setFld F.MDC_STAT_VALID d.mdc.lines.length).setFld F.MDC_DIRTY_LINES
    (d.mdc.lines.filter fun p => match p.2 with | some l => l.dirty | none => false).length

/-- An armed injection of memory `tagStore` strikes the write of a set or way (Table 9.4). (DESIGN CHOICE, log entry 15) -/
def Dev.minject (d : Dev) (tagStore : Bool) (set way : Nat) (low : Bool) : Dev :=
  if !d.flag F.MDC_INJECT_ARM || d.flag F.MDC_INJECT_MEM != tagStore then d
  else
    let f : MFlip := { set := set, way := if tagStore then none else some way, two := d.flag F.MDC_INJECT_TWO
                       blk := if low then 0 else 1, bit := d.fld F.MDC_INJECT_BIT }
    (d.setFlag F.MDC_INJECT_ARM false).modMdc fun m => { m with flips := m.flips ++ [f] }

/-- Write the state of a way, and with it the tag block of its set (R254). -/
def Dev.setMline (d : Dev) (set way : Nat) (l : Option MLine) : Dev :=
  ((d.modMdc fun m => { m with lines := m.lines.set (fun _ => none) (12 * set + way) l }).mdcShow).minject true set 0 true

/-- The way that holds a line. -/
def Dev.mway (d : Dev) (line : Nat) : Option Nat :=
  (List.range 12).find? fun w => match d.mline (mset line) w with | some l => decide (l.tag = mtag line) | none => false

/-- A fill into way w of a set is in flight. -/
def Dev.mfilling (d : Dev) (set w : Nat) : Bool := d.mdc.fills.any fun f => decide (mset f.line = set ∧ f.way = w)
def Dev.mfillOf (d : Dev) (line : Nat) : Option MFill := d.mdc.fills.find? fun f => decide (f.line = line)

/-- Buffer capacity in lines (R222). -/
def Dev.mcap (d : Dev) : Nat := 32 * d.granules

/-- The token of a response (Table 9.2): 16 bytes of header, and for a READ answered OK the line. -/
def MResp.token (r : MResp) : Bytes := leBytes 2 r.tag ++ leBytes 1 r.status ++ leBytes 1 r.hit.toNat ++ List.replicate 12 0 ++ r.data

/-- Return a response to ZNE. -/
def Dev.mresp (d : Dev) (r : MReq) (status : Nat) (hit : Bool) (data : Bytes := []) : Dev :=
  d.modMdc fun m => { m with resps := m.resps ++ [{ tag := r.tag, status := status, hit := hit, data := data }] }

/-- All 128 mask bits are set. -/
def MReq.full (r : MReq) : Bool := match r.write with | some (m, _) => m % 2 ^ 128 == 2 ^ 128 - 1 | none => false

/-- A line with the masked bytes of a request merged in. -/
def mmerge (old : Bytes) (mask : Nat) (data : Bytes) : Bytes :=
  (List.range 128).map fun i => if mask.testBit i then data.getD i 0 else old.getD i 0

/-- Drop the patterns of a way whose contents are gone. -/
def Dev.mclear (d : Dev) (set way : Nat) : Dev :=
  d.modMdc fun m => { m with flips := m.flips.filter fun f => !(decide (f.set = set ∧ f.way = some way)) }

/-! ## Errors -/

/-- Poison a line (R273): event 0x0A01. -/
def Dev.mpoison (d : Dev) (line w : Nat) (l : MLine) (inj : Bool) : Dev :=
  let d := ((d.mclear (mset line) w).setMline (mset line) w (some { l with poison := true })).bump .mdc 12
  d.event .mdc 0x01 line w (l.dirty.toNat + injBit inj)

/-- Fail a set (R274): event 0x0A02 with the valid ways it had; its lines can no longer be identified. (DESIGN CHOICE, log entry 31) -/
def Dev.mfailSet (d : Dev) (set : Nat) (inj : Bool) : Dev :=
  let n := ((List.range 12).filter fun w => (d.mline set w).isSome).length
  let d := d.modMdc fun m => { m with failed := m.failed ++ [set], lines := m.lines.filter fun p => decide (p.1 / 12 ≠ set) }
  (d.mdcShow.flagFault .mdc 1 0).event .mdc 0x02 set n (injBit inj)

/-- A read of a set's tag block: an injected pattern is mended, or fails the set; `sram` is what the read itself meets (R246). -/
def Dev.mtagRead (d : Dev) (set : Nat) (sram : SramRead) : Dev :=
  match d.mdc.flips.find? fun f => decide (f.set = set ∧ f.way = none) with
  | some f =>
    let d := d.modMdc fun m => { m with flips := m.flips.erase f }
    if f.two then d.mfailSet set true else d.sram .mdc 1 (.mended set (f.bit / 8) (f.bit % 8)) true
  | none => match sram with
    | .uncorrectable _ _ => (d.memError .mdc 1 { addr := set, uncorr := true }).mfailSet set false
    | r => d.sram .mdc 1 r

/-- A read of the data of a way: mended, or poisoned. -/
def Dev.mdataRead (d : Dev) (line w : Nat) (l : MLine) (sram : SramRead) : Dev :=
  match d.mdc.flips.find? fun f => decide (f.set = mset line ∧ f.way = some w) with
  | some f =>
    if f.two then (d.flagFault .mdc 1 0).mpoison line w l true
    else (d.modMdc fun m => { m with flips := m.flips.erase f }).sram .mdc 0
      (.mended (2 * (12 * mset line + w) + f.blk) (f.bit / 8) (f.bit % 8)) true
  | none => match sram with
    | .uncorrectable blk pat =>
      ((d.memError .mdc 0 { addr := blk, uncorr := true, pattern := pat % 65536 }).flagFault .mdc 1 0).mpoison line w l false
    | r => d.sram .mdc 0 r

/-! ## Serving requests -/

/-- Serve a request on a line that is present in way w (R257, R273); `hit` is false when it is served from a fill that has landed. -/
def Dev.mserve (d : Dev) (r : MReq) (w : Nat) (l : MLine) (hit : Bool) (sram : SramRead) : Dev :=
  let set := mset r.line
  let age (x : MLine) : MLine := if hit then { x with age := 0 } else x
  match r.write with
  | none =>
    let d := if l.poison then d else d.mdataRead r.line w l sram
    match d.mline set w with
    | some l =>
      if l.poison then d.mresp r 1 hit
      else (d.setMline set w (some (age l))).mresp r 0 hit l.data
    | none => d.mresp r 3 hit
  | some (mask, data) =>
    if r.full then
      let d := (d.mclear set w).setMline set w (some (age { l with data := data, dirty := true, poison := false }))
      ((d.minject false set w true).bump .mdc 7).mresp r 0 hit
    else
      let d := if l.poison then d else d.mdataRead r.line w l sram
      match d.mline set w with
      | some l =>
        if l.poison then d.mresp r 1 hit
        else
          let d := d.setMline set w (some (age { l with data := mmerge l.data mask data, dirty := true }))
          ((d.minject false set w (mask % 2 ^ 64 != 0)).bump .mdc 6).mresp r 0 hit
      | none => d.mresp r 3 hit

/-- The next request number at BUF. -/
def Dev.mnext (d : Dev) : Nat × Dev := (d.mdc.nextId, d.modMdc fun m => { m with nextId := m.nextId + 1 })

/-- Write a line back to BUF (R259). The number of the write is returned, so that its response can be awaited. -/
def Dev.mwriteBack (d : Dev) (line : Nat) (data : Bytes) : Nat × Dev :=
  let (id, d) := d.mnext
  (id, ((d.modMdc fun m => { m with wbs := m.wbs ++ [id] }).bump .mdc 5).bufAsk { client := 7, id := id, line := line, n := 1, op := .write data })

/-- What a miss finds (R262). -/
inductive Victim where
  | way (w : Nat) | wait | none
deriving DecidableEq, Repr

/-- A way that may be allocated. -/
def Dev.mallocable (d : Dev) (w : Nat) : Bool := (d.fld F.MDC_WAYS_ALLOC).testBit w && !(d.fld F.MDC_WAYS_LOCK).testBit w
def Dev.meligible (d : Dev) (set w : Nat) : Bool :=
  d.mallocable w && !d.mfilling set w && (match d.mline set w with | some l => !l.poison | none => true)

/-- Age of the line in a way; an empty way is not aged. -/
def Dev.mage (d : Dev) (set w : Nat) : Nat := match d.mline set w with | some l => l.age | none => 0

/-- MDC_VICTIM_SELECT (R262): age the eligible ways until one has age 3, and take the lowest. -/
def Dev.mvictim (d : Dev) (set : Nat) : Victim × Dev :=
  let el := (List.range 12).filter fun w => d.meligible set w
  match el.find? fun w => (d.mline set w).isNone with
  | some w => (.way w, d)
  | none =>
    match el with
    | [] => (if (List.range 12).any fun w => d.mallocable w && d.mfilling set w then .wait else .none, d)
    | _ =>
      let top := el.foldl (fun m w => max m (d.mage set w)) 0
      let d : Dev := el.foldl (fun (d : Dev) w => match d.mline set w with
        | some l => d.setMline set w (some { l with age := min (l.age + (3 - top)) 3 })
        | none => d) d
      match el.find? fun w => decide (d.mage set w = 3) with
      | some w => (.way w, d)
      | none => (.none, d)

/-- Evict what is in a way: a dirty line is read and written back first (R259); one that the read finds uncorrectable is poisoned in place of it (R273), and the way stays. -/
def Dev.mevict (d : Dev) (set w : Nat) : Bool × Dev :=
  match d.mline set w with
  | none => (true, d)
  | some l =>
    let d := if l.dirty then d.mdataRead (l.tag * 16384 + set) w l .ok else d
    if (match d.mline set w with | some l => l.poison | none => false) then (false, d)
    else (true, ((if l.dirty then (d.mwriteBack (l.tag * 16384 + set) l.data).2 else d).mclear set w).setMline set w none)

/-- Free a way for a line (R262): the victim is evicted; where it turns out poisoned the next one is. -/
def Dev.mclaim (d : Dev) (set : Nat) : Nat → Victim × Dev
  | 0 => (.none, d)
  | fuel + 1 => match d.mvictim set with
    | (.way w, d) => (match d.mevict set w with | (true, d) => (.way w, d) | (false, d) => d.mclaim set fuel)
    | x => x

/-- Start a fill of a line into a way. -/
def Dev.mfill (d : Dev) (line w age : Nat) (stream : Bool) (reqs : List MReq) : Dev :=
  let (id, d) := d.mnext
  let d := (d.modMdc fun m => { m with fills := m.fills ++ [{ id := id, line := line, way := w, age := age, reqs := reqs }] }).bump .mdc 2
  (if stream then d.bump .mdc 3 else d).bufAsk { client := 7, id := id, line := line, n := 1, op := .read }

/-- Number of poisoned ways of a set. -/
def Dev.mpoisoned (d : Dev) (set : Nat) : Nat :=
  ((List.range 12).filter fun w => match d.mline set w with | some l => l.poison | none => false).length

/-- No way is eligible because every allocable way is poisoned: event 0x0A06. -/
def Dev.mnoWay (d : Dev) (line : Nat) : Dev := (d.bump .mdc 13).event .mdc 0x06 line (d.fld F.MDC_WAYS_LOCK) (d.mpoisoned (mset line))

/-- A miss (R257, R262, R263). With 64 fills in flight, or every allocable way filling, it waits. -/
def Dev.mmiss (d : Dev) (r : MReq) : Dev :=
  let set := mset r.line
  let age := if r.stream then 3 else d.fld F.MDC_REPL_INS_AGE
  if !r.full && decide (64 ≤ d.mdc.fills.length) then d.modMdc fun m => { m with waiting := m.waiting ++ [r] }
  else match d.mclaim set 13 with
  | (.wait, d) => d.modMdc fun m => { m with waiting := m.waiting ++ [r] }
  | (.none, d) => (d.mnoWay r.line).mresp r 4 false
  | (.way w, d) =>
    let d := d.bump .mdc 1
    if r.full then
      let l : MLine := { tag := mtag r.line, dirty := true, age := age, data := match r.write with | some (_, x) => x | none => [] }
      (((d.setMline set w (some l)).minject false set w true).bump .mdc 7).mresp r 0 false
    else d.mfill r.line w age r.stream [r]

/-- Pass a request through to BUF (R271, R272). -/
def Dev.mpass (d : Dev) (r : MReq) : Dev :=
  let d := (if d.mdc.lines ≠ [] then d.setFld F.MDC_STAT_PASSED 1 else d).bump .mdc 8
  let (id, d) := d.mnext
  let d := d.modMdc fun m => { m with passes := m.passes ++ [{ id := id, req := r, reading := !r.full }] }
  d.bufAsk { client := 7, id := id, line := r.line, n := 1
             op := match r.write with | some (_, x) => if r.full then .write x else .read | none => .read }

/-- A maintenance action, a waiting request or a pass-through is at work on a line, so that a later request for it waits (R258, R268). -/
def Dev.mblocked (d : Dev) (line : Nat) : Bool :=
  (d.mdc.waiting.any fun q => decide (q.line = line)) || (d.mdc.passes.any fun p => decide (p.req.line = line)) ||
    (match d.mdc.mop with | some m => decide (m.next = line ∧ line < m.line + m.cnt) && (d.mfillOf line).isSome | none => false)

/-- Accept a line request whose set's tag block has been read. -/
def Dev.mtake (d : Dev) (r : MReq) (sram : SramRead) : Dev :=
  if d.mdc.failed.contains (mset r.line) then d.mresp r 3 false
  else if d.mblocked r.line then d.modMdc fun m => { m with waiting := m.waiting ++ [r] }
  else if !d.flag F.MDC_CTRL_EN then d.mpass r
  else match d.mfillOf r.line with
    | some f =>
      (d.modMdc fun m => { m with fills := m.fills.map fun x => if x.id = f.id then { x with reqs := x.reqs ++ [r] } else x }).bump .mdc 4
    | none => match d.mway r.line with
      | some w => match d.mline (mset r.line) w with
        | some l => (d.bump .mdc 0).mserve r w l true sram
        | none => d
      | none => d.mmiss r

/-- Serve a line request (R255 to R257, R271, R273, R274). (DESIGN CHOICE, log entry 31) -/
def Dev.mrequest (d : Dev) (r : MReq) (sram tags : SramRead) : Dev :=
  if !d.flag F.MDC_STAT_READY then d.mresp r 6 false
  else if d.mcap ≤ r.line then d.mresp r 5 false
  else if (match r.write with | some (m, _) => m % 2 ^ 128 == 0 | none => false) then d.mresp r 0 (d.mway r.line).isSome
  else (if d.mdc.failed.contains (mset r.line) then d else d.mtagRead (mset r.line) tags).mtake r sram

/-- Requests that waited are taken again in acceptance order. -/
def Dev.mretry (d : Dev) : Dev :=
  let q := d.mdc.waiting
  q.foldl (fun (d : Dev) r => d.mtake r .ok) (d.modMdc fun m => { m with waiting := [] })

/-! ## Maintenance -/

/-- Add to MOP_SKIP, MOP_DROP or MOP_WB. -/
def Dev.mcount (d : Dev) (f : RF) (n : Nat := 1) : Dev := d.setFld f (d.fld f + n)

/-- Drop a line in a way. -/
def Dev.mdrop (d : Dev) (set w : Nat) (l : MLine) : Dev :=
  let d := (d.mclear set w).setMline set w none
  if l.dirty then (d.mcount F.MDC_MOP_DROP_DROP).bump .mdc 11 else d

/-- Write a present dirty line back as part of the operation and mark it clean. -/
def Dev.mclean (d : Dev) (line w : Nat) (l : MLine) : Dev :=
  if !l.dirty then d
  else
    let (id, d) := d.mwriteBack line l.data
    let d := (d.setMline (mset line) w (some { l with dirty := false })).mcount F.MDC_MOP_WB_WB
    d.modMdc fun m => { m with mop := m.mop.map fun o => { o with wbs := o.wbs ++ [id] } }

/-- An action on a line that is present (Table 9.3). CLEAN and CLEAN_INVAL read a dirty line, which poisons it where it is uncorrectable (R273). -/
def Dev.mactPresent (d : Dev) (op line w : Nat) (l : MLine) : Dev :=
  let set := mset line
  let locked := (d.fld F.MDC_WAYS_LOCK).testBit w
  let skip (d : Dev) : Dev := d.mcount F.MDC_MOP_SKIP_SKIP
  let d := if (op = 2 ∨ op = 4) ∧ l.dirty ∧ !l.poison then d.mdataRead line w l .ok else d
  let l := (d.mline set w).getD l
  match op with
  | 0 => if l.poison then skip d else d.setMline set w (some { l with age := 0 })
  | 1 =>
    let d := (d.mclear set w).setMline set w (some { l with data := List.replicate 128 0, dirty := true, poison := false
                                                            age := d.fld F.MDC_REPL_INS_AGE })
    d.minject false set w true
  | 2 => if l.poison then skip d else d.mclean line w l
  | 3 => if locked then (skip d).bump .mdc 10 else d.mdrop set w l
  | _ =>
    if l.poison then
      if locked then (skip d).bump .mdc 10
      else
        let d := ((d.mclear set w).setMline set w none).mcount F.MDC_MOP_DROP_DROP
        if l.dirty then d.bump .mdc 11 else d
    else
      let d := d.mclean line w l
      if locked then (skip d).bump .mdc 10 else (d.mclear set w).setMline set w none

/-- An action on one line: done, or it must wait for a fill (R265, R268). -/
def Dev.mact (d : Dev) (op line : Nat) : Bool × Dev :=
  let set := mset line
  let d := if d.mdc.failed.contains set then d else d.mtagRead set .ok
  if d.mdc.failed.contains set then (true, d.mcount F.MDC_MOP_SKIP_SKIP)
  else if (d.mfillOf line).isSome ∨ (d.mdc.passes.any fun p => decide (p.req.line = line)) then (false, d)
  else match d.mway line with
    | some w => match d.mline set w with
      | some l => (true, (d.mactPresent op line w l).bump .mdc 9)
      | none => (true, d)
    | none =>
      if 2 ≤ op then (true, d)
      else if op = 0 ∧ 64 ≤ d.mdc.fills.length then (false, d)
      else match d.mclaim set 13 with
        | (.wait, d) => (false, d)
        | (.none, d) => (true, (d.mnoWay line).mcount F.MDC_MOP_SKIP_SKIP)
        | (.way w, d) =>
          let d := d.bump .mdc 9
          if op = 0 then (true, d.mfill line w 0 false [])
          else
            let l : MLine := { tag := mtag line, dirty := true, age := d.fld F.MDC_REPL_INS_AGE, data := List.replicate 128 0 }
            (true, (d.setMline set w (some l)).minject false set w true)

/-- The next line of an operation that it may have to act on: every line for FETCH and ZERO and where a set has failed; else only lines that
are present or being filled. -/
def Dev.mskipTo (d : Dev) (m : MMop) : Nat :=
  if m.op < 2 ∨ d.mdc.failed ≠ [] then m.next
  else
    let here := (d.mdc.lines.filterMap fun p => p.2.map fun l => l.tag * 16384 + p.1 / 12) ++ d.mdc.fills.map MFill.line
    (here.filter fun x => decide (m.next ≤ x ∧ x < m.line + m.cnt)).foldl min (m.line + m.cnt)

/-- Go on with the operation until its last line or a line that must wait. -/
def Dev.mrun (d : Dev) : Nat → Dev
  | 0 => d
  | fuel + 1 =>
    match d.mdc.mop with
    | none => d
    | some m =>
      let x := d.mskipTo m
      let at_ (d : Dev) (n : Nat) : Dev := d.modMdc fun s => { s with mop := s.mop.map fun o => { o with next := n } }
      if m.line + m.cnt ≤ x then at_ d (m.line + m.cnt)
      else
        let d := at_ d x
        match d.mact m.op x with
        | (true, d) => (at_ d (x + 1)).mrun fuel
        | (false, d) => d

/-- A refused GO (R266): event 0x0A03. (DESIGN CHOICE, log entry 31) -/
def Dev.mrefuse (d : Dev) (op err : Nat) : Dev :=
  ((d.setFld F.MDC_MOP_STAT_DONE 1).setFld F.MDC_MOP_STAT_ERR err).event .mdc 0x03 op err (d.fld F.MDC_MOP_ADDR_LINE)

/-- A write of GO with an OP (R266). (DESIGN CHOICE, log entry 31) -/
def Dev.mopGo (d : Dev) (op : Nat) : Dev :=
  let a := d.fld F.MDC_MOP_ADDR_LINE
  let n := d.fld F.MDC_MOP_CNT_CNT
  if d.flag F.MDC_MOP_STAT_BUSY then d.event .mdc 0x03 op 0 a
  else
    let d := (d.setFld F.MDC_MOP_STAT_DONE 0).setFld F.MDC_MOP_STAT_ERR 0
    if n = 0 ∨ d.mcap < a + n then d.mrefuse op 1
    else if op ≤ 1 ∧ ¬ d.flag F.MDC_CTRL_EN then d.mrefuse op 2
    else if 5 ≤ op then d.mrefuse op 3
    else
      let d := ((d.setFld F.MDC_MOP_SKIP_SKIP 0).setFld F.MDC_MOP_DROP_DROP 0).setFld F.MDC_MOP_WB_WB 0
      let d := (d.setFld F.MDC_MOP_STAT_BUSY 1).setFld F.MDC_STAT_MOP_BUSY 1
      (d.modMdc fun m => { m with mop := some { op := op, line := a, cnt := n, next := a } }).mrun n

/-- A write to MDC.MOP_CTRL. -/
def Dev.mopCtrlWrite (d : Dev) (v who : Nat) : Dev :=
  let d := (d.regWrite F.MDC_MOP_CTRL_GO.a v who).1
  if v.testBit 0 then d.mopGo (bitsAt v 1 3) else d

/-- What enabling the cache by commit says of lines that may be stale (R272). -/
def Dev.mdcEnabled (d : Dev) (was : Bool) : Dev :=
  if !was && d.flag F.MDC_CTRL_EN && d.flag F.MDC_STAT_PASSED && decide (0 < d.fld F.MDC_STAT_VALID) then
    d.event .mdc 0x05 (d.fld F.MDC_STAT_VALID) (d.fld F.MDC_DIRTY_LINES)
  else d

/-! ## Responses of BUF -/

/-- Serve what is merged on a fill that has landed, in acceptance order. -/
def Dev.mserveAll (d : Dev) (w : Nat) (rs : List MReq) : Dev :=
  rs.foldl (fun (d : Dev) r => match d.mline (mset r.line) w with
    | some l => if l.tag = mtag r.line then d.mserve r w l false .ok else d.mtake r .ok
    | none => d.mtake r .ok) d

/-- MDC_FILL_ERROR (R261): reads and partial writes before the first full-mask write get BUF_ERR; that write allocates the way, and those
behind it are served from its line. -/
def Dev.mfillError (d : Dev) (f : MFill) : Dev :=
  let before := f.reqs.takeWhile fun r => !r.full
  let after := f.reqs.dropWhile fun r => !r.full
  let d : Dev := before.foldl (fun (d : Dev) r => d.mresp r 2 false) d
  match after with
  | [] => d
  | r :: rest =>
    let l : MLine := { tag := mtag r.line, dirty := true, age := f.age, data := match r.write with | some (_, x) => x | none => [] }
    let d := ((((d.mclear (mset r.line) f.way).setMline (mset r.line) f.way (some l)).minject false (mset r.line) f.way true).bump .mdc 7).mresp r 0 false
    d.mserveAll f.way rest

/-- A fill has come back. -/
def Dev.mland (d : Dev) (f : MFill) (resp : BufResp) : Dev :=
  let d := d.modMdc fun m => { m with fills := m.fills.filter fun x => decide (x.id ≠ f.id) }
  if d.mdc.failed.contains (mset f.line) then f.reqs.foldl (fun (d : Dev) r => d.mresp r 3 false) d
  else if resp.err then d.mfillError f
  else
    let l : MLine := { tag := mtag f.line, age := f.age, data := resp.data }
    let d := ((d.mclear (mset f.line) f.way).setMline (mset f.line) f.way (some l)).minject false (mset f.line) f.way true
    d.mserveAll f.way f.reqs

/-- A pass-through response has come back (R271). -/
def Dev.mpassed (d : Dev) (p : MPass) (resp : BufResp) : Dev :=
  let gone : Dev := d.modMdc fun m => { m with passes := m.passes.filter fun x => decide (x.id ≠ p.id) }
  if resp.err then gone.mresp p.req 2 false
  else match p.req.write with
    | none => gone.mresp p.req 0 false resp.data
    | some (mask, data) =>
      if p.reading then
        let d := d.modMdc fun m => { m with passes := m.passes.map fun x => if x.id = p.id then { x with reading := false } else x }
        d.bufAsk { client := 7, id := p.id, line := p.req.line, n := 1, op := .write (mmerge resp.data mask data) }
      else gone.mresp p.req 0 false

/-- The response to a write-back has come back. -/
def Dev.mwbBack (d : Dev) (id : Nat) : Dev :=
  d.modMdc fun m => { m with wbs := m.wbs.erase id, mop := m.mop.map fun (o : MMop) => { o with wbs := o.wbs.erase id } }

/-- The next response of BUF to MDC: a fill, a pass-through or a write-back. -/
def Dev.mbuf (d : Dev) : Option (BufResp × Dev) :=
  match d.buf.resps.find? fun r => decide (r.client = 7) with
  | some r => d.bufTake 7 r.id
  | none => none

/-! ## Commands -/

/-- Line requests that MDC has taken and not yet answered; writes among them. -/
def Dev.mtaken (d : Dev) : List MReq := d.mdc.waiting ++ d.mdc.fills.flatMap (fun f => f.reqs) ++ d.mdc.passes.map fun p => p.req

/-- ZNE holds the credits for a line request (R16, R276): pool 0, and pool 1 for the data of a write. -/
def Dev.mcredit (d : Dev) (write : Bool) : Bool :=
  decide (d.mtaken.length < d.credits .mdc 0) && (!write || decide ((d.mtaken.filter fun r => r.write.isSome).length < d.credits .mdc 1))

/-- MDC takes a line request; `bad` tells that its token's parity is wrong, a detected fault (R37, R54). (DEDUCED, log entry 11) -/
def Dev.mask (d : Dev) (r : MReq) (sram tags : SramRead) (bad : Bool) : Dev :=
  if !d.mcredit r.write.isSome then d
  else (if bad then d.fault .mdc 1 0 0 else d).mrequest r sram tags

/-- MDC_LINE_READ (R256, R257): `sram` is what a read of the data store meets, `tags` what the read of the set's tag block meets. -/
def execMdcLineRead (tag : BitVec 16) (stream : Bool) (line : BitVec 27) (sram tags : SramBits) (bad : Bool) (s : State) : Out :=
  s.doesIn 4 fun d => d.mask { tag := tag.toNat, stream := stream, line := line.toNat } (sramRead sram) (sramRead tags) bad

/-- MDC_LINE_WRITE (R256, R257). -/
def execMdcLineWrite (tag : BitVec 16) (stream : Bool) (line : BitVec 27) (mask : BitVec 128) (data : Bytes) (sram tags : SramBits)
    (bad : Bool) (s : State) : Out :=
  s.doesIn 4 fun d => d.mask { tag := tag.toNat, stream := stream, line := line.toNat
                               write := some (mask.toNat, (data ++ List.replicate (128 - data.length) 0).take 128) } (sramRead sram) (sramRead tags) bad

/-- MDC_BAD_OP (R255, R256): a reserved OP is answered with BAD_OP, or NOT_READY before READY. -/
def execMdcBadOp (tag : BitVec 16) (s : State) : Out :=
  s.doesIn 4 fun d => d.mresp { tag := tag.toNat, stream := false, line := 0 } (if d.flag F.MDC_STAT_READY then 7 else 6) false

/-- MDC_FILL_LAND (R258, R261, R268, R271): the next response of BUF; then what waited goes on. -/
def execMdcFillLand (s : State) : Out :=
  s.doesIn 4 fun d =>
    match d.mbuf with
    | none => d
    | some (resp, d) =>
      let d := match d.mdc.fills.find? fun f => decide (f.id = resp.id), d.mdc.passes.find? fun p => decide (p.id = resp.id) with
        | some f, _ => d.mland f resp
        | none, some p => d.mpassed p resp
        | none, none => d.mwbBack resp.id
      let d := d.mrun (match d.mdc.mop with | some m => m.cnt | none => 0)
      d.mretry

/-- The write to MDC.MOP_CTRL that a maintenance command is. -/
def Dev.mopCmd (d : Dev) (op : Nat) (who : Requester) : Dev := d.mopCtrlWrite (2 * op + 1) (reqCode who)

/-- MOP_FETCH (R265). -/
def execMopFetch (who : Requester) (s : State) : Out := s.doesIn 4 fun d => d.mopCmd 0 who
/-- MOP_ZERO (R265). -/
def execMopZero (who : Requester) (s : State) : Out := s.doesIn 4 fun d => d.mopCmd 1 who
/-- MOP_CLEAN (R265). -/
def execMopClean (who : Requester) (s : State) : Out := s.doesIn 4 fun d => d.mopCmd 2 who
/-- MOP_INVAL (R265). -/
def execMopInval (who : Requester) (s : State) : Out := s.doesIn 4 fun d => d.mopCmd 3 who
/-- MOP_CLEAN_INVAL (R265). -/
def execMopCleanInval (who : Requester) (s : State) : Out := s.doesIn 4 fun d => d.mopCmd 4 who
/-- MOP_RESERVED (R266): OP 5, 6 or 7. -/
def execMopReserved (op : Fin 3) (who : Requester) (s : State) : Out := s.doesIn 4 fun d => d.mopCmd (5 + op) who

/-- MOP_DONE (R266): the last line has been acted on and every write-back's response is back: event 0x0A04. -/
def execMopDone (s : State) : Out :=
  s.doesIn 4 fun d =>
    let d := d.mrun (match d.mdc.mop with | some m => m.cnt | none => 0)
    match d.mdc.mop with
    | none => d
    | some m =>
      if m.next < m.line + m.cnt ∨ m.wbs ≠ [] ∨ (m.op = 0 ∧ (d.mdc.fills.any fun f => decide (m.line ≤ f.line ∧ f.line < m.line + m.cnt))) then d
      else
        let d := ((d.modMdc fun x => { x with mop := none }).setFld F.MDC_MOP_STAT_BUSY 0).setFld F.MDC_STAT_MOP_BUSY 0
        (d.setFld F.MDC_MOP_STAT_DONE 1).event .mdc 0x04 m.op (d.fld F.MDC_MOP_SKIP_SKIP) (d.fld F.MDC_MOP_DROP_DROP)

/-- MDC_INJECT_ARM (Table 9.4): a write to MDC.INJECT. -/
def execMdcInjectArm (v : Word) (who : Requester) (s : State) : Out := s.doesIn 4 fun d => (d.regWrite 0x04100060 v.toNat (reqCode who)).1

end Sys2Proof.Machine
end

