-- ==== Sys2Proof/Machine/Rules.lean ====
section
/-! DEFINITION. Machine/Rules.lean: the consistency rules of every block (R475, Table 16.10). -/
namespace Sys2Proof.Machine

/-- The device as it would be with the staged set of a block in effect: the proposed set of R472. -/
def Dev.withStaged (d : Dev) (b : Blk) : Dev := (d.stagedOf b).foldl (fun (x : Dev) p => x.setWord p.1 (d.proposed p.1)) d

/-- A number lies in a closed range. -/
def inRange (lo hi x : Nat) : Bool := decide (lo ≤ x ∧ x ≤ hi)

/-! ## The sets of the servo engine (R164) -/

/-- Word o of the set at an address. -/
def Dev.setWordAt (d : Dev) (base o : Nat) : Int := sext 32 (d.word (base + o)).toNat

/-- The five words of the biquads of a set. -/
def Dev.setBiquads (d : Dev) (base : Nat) : List (List Int) :=
  (List.range 6).map fun b => (List.range 5).map fun i => d.setWordAt base (0x1E0 + 20 * b + 4 * i)

/-- CFG is in range, and every entry beyond NSTATE or NOUT is zero. -/
def Dev.setCfgOk (d : Dev) (base : Nat) : Bool :=
  let cfg := (d.word (base + 0x1D8)).toNat
  let ns := bitsAt cfg 0 4
  let no := bitsAt cfg 4 2
  let zero (o : Nat) : Bool := d.word (base + o) == 0
  inRange 1 8 ns && inRange 1 2 no && decide (bitsAt cfg 8 5 ≤ 20) && decide (cfg &&& (0xFFFFFFFF ^^^ 0x1F3F) = 0) &&
    ((List.range 8).all fun i => (List.range 8).all fun j => decide (i < ns ∧ j < ns) || zero (4 * (8 * i + j))) &&
    ((List.range 8).all fun i => decide (i < ns) || (zero (0x100 + 4 * i) && zero (0x1A0 + 4 * i))) &&
    ((List.range 2).all fun o => (List.range 8).all fun j => decide (o < no ∧ j < ns) || (zero (0x120 + 4 * (8 * o + j)) && zero (0x160 + 4 * (2 * j + o))))

/-- |a2| < 1 and |a1| < 1 + a2 for every biquad. -/
def Dev.setBiquadsOk (d : Dev) (base : Nat) : Bool :=
  (d.setBiquads base).all fun q => match q with
    | [_, _, _, a1, a2] => decide ((a2.natAbs : Int) < 2 ^ 28 ∧ (a1.natAbs : Int) < 2 ^ 28 + a2)
    | _ => false

/-- The cascade's DC gain as a fraction. -/
def Dev.setGain (d : Dev) (base : Nat) : Int × Int :=
  (d.setBiquads base).foldl (fun g q => match q with
    | [b0, b1, b2, a1, a2] => (g.1 * (b0 + b1 + b2), g.2 * (2 ^ 28 + a1 + a2))
    | _ => g) (1, 1)

/-- 0.125 < |G| < 8. -/
def Dev.setGainOk (d : Dev) (base : Nat) : Bool :=
  let (n, m) := d.setGain base
  decide (m < 8 * n.natAbs ∧ (n.natAbs : Int) < 8 * m)

/-- DCINV = 1 / G. -/
def Dev.setDcinv (d : Dev) (base : Nat) : Int :=
  let (n, m) := d.setGain base
  if n = 0 then 0 else qSat (roundAway (m * n.sign * 2 ^ 28) n.natAbs)

/-- UMAX, ICLAMP and INNO_LIM lie in the ranges of Table 6.3. (DESIGN CHOICE, log entry 63) -/
def Dev.setLimitsOk (d : Dev) (base : Nat) : Bool :=
  let um := d.setWordAt base 0x1CC
  let ic := d.setWordAt base 0x1C8
  let no := bitsAt (d.word (base + 0x1D8)).toNat 4 2
  decide (0 < um ∧ um ≤ 2 ^ 28 ∧ 0 ≤ ic ∧ ic ≤ um) && (List.range no).all fun o => decide (0 < d.setWordAt base (0x1D0 + 4 * o))

/-- The sets that a commit judges (R164): those that LBANK selects, which stay active or become pending; the ones still active of a loop that is not in DOWN
(a loop in DOWN uses no set: Table 6.4); and the RAMP set of a VCM loop in DOWN. (DEDUCED, log entry 63) -/
def Dev.judged (d : Dev) : List (Nat × Nat × Nat) :=
  ((List.range 22).filter fun k => d.hasLoop k).flatMap fun k =>
    let next : List (Nat × Nat × Nat) := [(k, 0, setBase k 0 (d.fld (F.SRV_LBANK_HEEL_NEXT k))), (k, 1, setBase k 1 (d.fld (F.SRV_LBANK_FETCH_NEXT k)))]
    let used : List (Nat × Nat × Nat) := [(k, 0, setBase k 0 (d.activeBank k 0)), (k, 1, setBase k 1 (d.activeBank k 1))]
    next ++ (if d.mode k = 0 then [] else used.filter fun x => !next.contains x) ++ (if k < 2 ∧ d.mode k = 0 then [(k, 2, setBase k 2 0)] else [])

/-- Wedges that the profile takes to move one stripe track from rest (R166), by fuel. -/
def profileLen (amax vmax : Int) : Nat → Int → Int → Nat → Option Nat
  | 0, _, _, _ => none
  | f + 1, rp, vp, n =>
    let (rp, vp, _, fin) := profileStep 4096 amax vmax rp vp
    if fin then some (n + 1) else profileLen amax vmax f rp vp (n + 1)

/-- The switch-time rule of R166 for a present actuator with format tables. (DESIGN CHOICE, log entry 63) -/
def Dev.switchOk (d : Dev) (a : Nat) : Bool :=
  match (if a = 0 then d.load.fmt0 else d.load.fmt1) with
  | none => true
  | some f => match profileLen (d.fld (F.SRV_LPROF_AMAX a)) (d.fld (F.SRV_LPROF_VMAX a)) 8192 0 0 0 with
    | some d1 => decide ((d1 + d.fld (F.SRV_LFETCH_FETCH_EXTRA a) + d.fld (F.SRV_LWIN_SIT_MAX a)) * 60000000 ≤
        f.hdr.switchUs * (f.hdr.wedges * d.load.rpmMax))
    | none => false

/-- The register fields lie in the ranges of Tables 6.14 and 6.15. -/
def Dev.loopFieldsOk (d : Dev) (k : Nat) : Bool :=
  let n := d.fld (F.SRV_LWIN_SETTLE_N k)
  inRange 1 15 n && decide (n + 1 ≤ d.fld (F.SRV_LWIN_SIT_MAX k)) && decide (1 ≤ d.fld (F.SRV_LRAMP_RAMP_STEP k)) &&
    decide (1 ≤ d.fld (F.SRV_LRAMP_SAT_N k)) &&
    (decide (2 ≤ k) || decide (1 ≤ d.fld (F.SRV_LPROF_AMAX k) ∧ 2 ≤ d.fld (F.SRV_LPARK_TICK_US k) ∧ d.fld (F.SRV_LVEL_UNLOAD_VREF k) ≠ 0))

/-- The actuators of the variant. -/
def Dev.acts (d : Dev) : List Nat := if d.v then [0] else [0, 1]

/-! ## The rules, from 2 onward; `d` is the proposed device, `o` the device in effect -/

def rulesCh (d : Dev) (n : Nat) : List Bool :=
  [inRange 1 255 (d.fld (F.CH_GUARD_MSE_LIM n)) && inRange 1 15 (d.fld (F.CH_GUARD_NCONS n)) && inRange 1 15 (d.fld (F.CH_GUARD_REVERT_MAX n)) &&
     decide (d.fld (F.CH_GUARD_CONF n) ≤ 31) && inRange 8 64 (d.fld (F.CH_SYNC_PSM_WIN n)) && decide (d.fld (F.CH_SYNC_PSM_THR n) ≤ 8) &&
     decide (d.fld (F.CH_SYNC_SSM_THR n) ≤ 8) && decide (d.fld (F.CH_SYNC_RSM_THR n) ≤ 8) && inRange 8 64 (d.fld (F.CH_SYNC_SSM_WIN n)) &&
     inRange 1 63 (d.fld (F.CH_TA_TA_THR n)) && decide (1 ≤ d.fld (F.CH_TA_TA_MIN n)),
   (List.range 4).all fun k => decide (d.fld (F.CH_LCTL_ACQ_STEP n k) ≤ d.fld (F.CH_LCTL_STEP n k)),
   (List.range 8).all fun k => decide (1 ≤ d.fld (F.CH_LCTL_CLAMP n k)),
   !(d.flag (F.CH_AFE_A_LANE_OFF n) && d.flag (F.CH_AFE_B_LANE_OFF n)),
   (List.range 16).all fun p => decide (d.plin n p < d.plin n (p + 1)),
   (List.range 17).all fun p => absLe (d.plin n p - (256 * (p : Int) - 2048)) 480,
   decide (1 ≤ d.fld (F.CH_SVO_FLOOR n))]

def rulesDec (d : Dev) : List Bool :=
  let sum := ((List.range 20).map fun j => if (poolAt d.v .dec j).isSome then d.fld (fCREDITS .dec j) else 0).foldl (· + ·) 0
  [decide (sum ≤ 96),
   decide (1 ≤ d.fld F.DEC_CTRL_ITER_PRESS ∧ d.fld F.DEC_CTRL_ITER_PRESS ≤ d.fld F.DEC_CTRL_ITER_MAX ∧
     d.fld F.DEC_CTRL_ITER_MAX ≤ d.fld F.DEC_CTRL_ITER_RETRY ∧ d.fld F.DEC_CTRL_ITER_RETRY ≤ 63),
   inRange 16 96 (d.fld F.DEC_CTRL_PRESS_THR), inRange 2 8 (d.fld F.DEC_RETRY_COMB_READS), decide (1 ≤ d.fld F.DEC_RETRY_OFF_STEP),
   decide (d.fld F.DEC_RETRY_BUDGET ≤ 64)]

def rulesWrp (d : Dev) : List Bool :=
  let pc (i : Nat) : Int := sext 8 (d.wrec (i / 512) (i / 8 % 64) (8 + i % 8))
  [decide (8 ≤ d.fld F.WRP_ALINK_BITNS ∧ d.fld F.WRP_ALINK_BITNS % 4 = 0), decide (1 ≤ d.fld F.WRP_ALINK_ACK_US),
   inRange 1 7 (d.fld F.WRP_ALINK_RESENDS),
   decide (d.fld F.WRP_WINH_WIL_OFF < d.fld F.WRP_WINH_WIL_ON ∧ d.fld F.WRP_WINH_WIL_ON ≤ 0x800), inRange 1 15 (d.fld F.WRP_WINH_REARM),
   decide (1 ≤ d.fld F.WRP_SHOCK_HOLD), decide (d.fld F.WRP_RETRY_BUDGET ≤ 64), decide (20 ≤ d.fld F.WRP_HEAT_PREHEAT_US),
   d.regs.all fun p => decide (p.1 < 0x02101000 ∨ 0x0210B000 ≤ p.1) || decide (p.1 % 32 ≠ 8 ∧ p.1 % 32 ≠ 12) ||
     (List.range 4).all fun i => absLe (pc ((p.1 - 0x02101000) / 32 * 8 + (p.1 % 32 - 8) + i)) 16]

def rulesSrv (d : Dev) : List Bool :=
  let sets := d.judged
  [sets.all fun s => d.setCfgOk s.2.2, sets.all fun s => d.setBiquadsOk s.2.2, sets.all fun s => d.setGainOk s.2.2,
   sets.all fun s => d.setLimitsOk s.2.2, ((List.range 22).filter fun k => d.hasLoop k).all fun k => d.loopFieldsOk k,
   d.acts.all fun a => d.switchOk a, inRange 1 200 (d.fld F.SRV_CTRL_GATHER_NS), decide (20 ≤ d.fld F.SRV_ACCEL_PERIOD_US),
   inRange 1 15 (d.fld F.SRV_ACCEL_MISS_N)]

def rulesSpn (d : Dev) : List Bool :=
  let bridge := (d.load.pstages.map PStage.bridgeMa).foldl min 65535
  let adv (i : Nat) : Int := sext 16 (d.fld (F.SPN_ADV_ADV i))
  [inRange 1 15 (d.fld F.SPN_MOTOR_POLES) && inRange 1 8 (d.fld F.SPN_MOTOR_RSV_NR) && inRange 20 80 (d.fld F.SPN_PWM_PWM_KHZ) &&
     decide (4 ≤ d.fld F.SPN_PWM_DEAD_NS) && decide (1 ≤ d.fld F.SPN_RAMP_ACCEL) && decide (1 ≤ d.fld F.SPN_RAMP_DECEL) &&
     decide (1 ≤ d.fld F.SPN_LOCK_LOCK_REVS) && inRange 5 20 (d.fld F.SPN_RSV_EXC_KHZ),
   decide (d.fld F.SPN_MOTOR_POLES % d.fld F.SPN_MOTOR_RSV_NR = 0),
   (List.range 15).all fun i => decide (d.fld (F.SPN_SPC_DMD i) < d.fld (F.SPN_SPC_DMD (i + 1))),
   (List.range 16).all fun i => inRange 3600 10000 (d.fld (F.SPN_SPC_RPM i)) && decide (d.fld (F.SPN_SPC_RPM i) ≤ d.load.rpmMax),
   ((List.range 15).all fun i => decide (d.fld (F.SPN_ADV_RPM i) < d.fld (F.SPN_ADV_RPM (i + 1)))) &&
     (List.range 16).all fun i => absLe (adv i) 0x2000,
   decide (d.fld F.SPN_ONOFF_OFF_THR < d.fld F.SPN_ONOFF_ON_THR),
   decide (d.fld F.SPN_LOCK_LOCK_TOL < d.fld F.SPN_LOCK_UNLOCK_TOL),
   decide (d.fld F.SPN_VTHR3_REGEN_V < d.fld F.SPN_VTHR3_PF_THR ∧ d.fld F.SPN_VTHR3_PF_THR < d.fld F.SPN_VTHR1_CHOP_OFF ∧
     d.fld F.SPN_VTHR1_CHOP_OFF < d.fld F.SPN_VTHR1_CHOP_ON ∧ d.fld F.SPN_VTHR1_CHOP_ON < d.fld F.SPN_VTHR2_OV_THR),
   decide (d.fld F.SPN_VTHR2_OV_CLR < d.fld F.SPN_VTHR2_OV_THR),
   decide (d.fld F.SPN_HOLD_REGEN_MIN ≤ 3000),
   decide (d.fld F.SPN_CURR_I_RUN ≤ bridge ∧ d.fld F.SPN_CURR_I_START ≤ bridge ∧ d.fld F.SPN_ALIGN_ALIGN_MA ≤ bridge),
   [F.SPN_KSPD_KP_K, F.SPN_KSPD_KI_K, F.SPN_KCUR_KP_K, F.SPN_KCUR_KI_K, F.SPN_KBUS_KP_K, F.SPN_KBUS_KI_K].all fun f => d.fld f != 0]

def rulesBuf (d o : Dev) : List Bool :=
  let r := d.fld F.BUF_PHY_RATE
  let sum := ((List.range 9).map fun c => d.fld (F.BUF_SHARE_SHARE c)).foldl (· + ·) 0
  [decide (r ≠ 3) && (!o.flag F.BUF_STAT_TRAINED || (r == o.fld F.BUF_PHY_RATE && d.fld F.BUF_PHY_DENS == o.fld F.BUF_PHY_DENS)),
   decide (sum ≤ 1024) && decide (d.fld (F.BUF_SHARE_SHARE 8) % 2 = 0), inRange 1 7 (d.fld F.BUF_PHY_EDC_RETRY), decide (1 ≤ d.fld F.BUF_LINK_LINK_LIM),
   decide (10 ≤ d.fld F.BUF_PHY_RETRAIN_MS), decide (1 ≤ d.fld F.BUF_FILL_FILL_NS), decide (1 ≤ d.fld F.BUF_CTRL_SUSPECT)]

/-- Rings of two enabled channels that lie in the store do not overlap. (DESIGN CHOICE, log entry 63) -/
def Dev.ringsOk (d : Dev) : Bool :=
  let en := (List.range 56).filter fun x => d.flag (F.DMA_C_CFG_EN x)
  let lo (x : Nat) : Nat := 16 * d.fld (F.DMA_C_CFG_RING_OFS x)
  en.all fun x => decide (lo x % d.ringSize x = 0 ∧ lo x + d.ringSize x ≤ 65536) &&
    en.all fun y => x == y || decide (lo x + d.ringSize x ≤ lo y ∨ lo y + d.ringSize y ≤ lo x)

def rulesDma (d o : Dev) : List Bool :=
  let rd := d.fld F.DMA_STAGE_RD_FLITS
  let wr := d.fld F.DMA_STAGE_WR_FLITS
  [decide (64 ≤ rd ∧ 64 ≤ wr ∧ rd + wr ≤ 8192),
   decide (d.fld F.DMA_DIAG_LO_FIRST < d.fld F.DMA_DIAG_HI_LIMIT ∧ d.fld F.DMA_DIAG_HI_LIMIT ≤ d.granules),
   (List.range 64).all fun x => inRange 4 16 (d.fld (F.DMA_C_CFG_RING_LOG2 x)) && inRange 1 15 (d.fld (F.DMA_C_CFG_BURST x)),
   d.ringsOk,
   (List.range 8).all fun i => !d.flag (F.DMA_C_CFG_EN (56 + i)) || decide (d.hostRing (56 + i) 0 % (32 * d.ringSize (56 + i)) = 0),
   (List.range 64).all fun x => decide (d.word (F.DMA_C_CFG_EN x).a = o.word (F.DMA_C_CFG_EN x).a) ||
     (!o.flag (F.DMA_C_STAT_BUSY x) && (decide (56 ≤ x) || (List.range (o.ringSize x)).all fun i => !(o.slotDesc x i).own))]

def rulesHst (d o : Dev) : List Bool :=
  let adr := d.fld F.HST_MI_ADDR
  [!o.load.loaded || d.fld F.HST_CTRL_PORTCFG == o.fld F.HST_CTRL_PORTCFG, inRange 1 6 (d.fld F.HST_LINK_MAXSPEED),
   decide (10 ≤ d.fld F.HST_LINK_RECOV_MS), decide (adr ≠ 0x35 ∧ 0x07 < adr ∧ adr < 0x78)]

def rulesZne (d o : Dev) : List Bool :=
  [inRange 1 4096 (d.fld F.ZNE_LIMIT_ACT_MAX), inRange 1 64 (d.fld F.ZNE_SCAN_SCAN_BUDGET),
   decide (d.fld F.ZNE_CTX_BASE_GRANULE + 2048 ≤ d.granules),
   !o.flag F.ZNE_STAT_READY || d.fld F.ZNE_CTX_BASE_GRANULE == o.fld F.ZNE_CTX_BASE_GRANULE]

def rulesRng (d : Dev) : List Bool :=
  let h := [d.fld F.RNG_HCRED_CMD, d.fld F.RNG_HCRED_DATA, d.fld F.RNG_HCRED_RSP, d.fld F.RNG_HCRED_MGT]
  [(h.all fun x => decide (2 ≤ x)) && decide (h.foldl (· + ·) 0 ≤ 255),
   inRange 1 15 (d.fld F.RNG_LINK_RETRY_LIM) && decide (1 ≤ d.fld F.RNG_LINK_ACK_US), decide (100 ≤ d.fld F.RNG_ENUM_QUIET_US),
   inRange 16 255 (d.fld F.RNG_JOB_JWIN) && inRange 1 32 (d.fld F.RNG_JOB_JOBS_T) && inRange 1 128 (d.fld F.RNG_JOB_JOBS_P) &&
     decide (1 ≤ d.fld F.RNG_JOB_JOB_MS),
   decide (d.fld F.RNG_JAREA_GRANULE + 2048 ≤ d.granules),
   decide ((3 * d.fld F.RNG_JOB_JOBS_T + d.fld F.RNG_JOB_JOBS_P) * d.fld F.RNG_JOB_JWIN * 256 + 4194304 ≤ 8388608),
   decide (2 ≤ d.fld F.RNG_WHISTLE_WHISTLE_MS)]

def rulesLog (d : Dev) : List Bool :=
  [inRange 1 16384 (d.fld F.LOG_FLUSH_FLUSH_THR), inRange 1 4 (d.fld F.LOG_FLUSH_RES_SECT), inRange 1 340 (d.fld F.LOG_FLUSH_PF_MAX),
   (List.range 4096).all fun b => d.fld (F.LOG_BUCKET_DEPTH b) == 0 || decide (1 ≤ d.fld (F.LOG_BUCKET_REFILL_MS b))]

def rulesPwr (d : Dev) : List Bool :=
  let base (s : Nat) : Nat := d.powerOf 1 (popcount 2 (d.fld (F.PWR_SCAP_RINGP s))) (d.fld (F.PWR_SCAP_BUFCAP s)) 0 0
  let heads := if d.v then 10 else 20
  let drop (f : Nat → RF) : Bool := (List.range 4).all fun s => decide (d.fld (f (s + 1)) ≤ d.fld (f s))
  let lim := d.fld F.PWR_LIMIT_LIMIT_MW
  [(List.range 4).all fun s => decide (base s ≤ d.fld (F.PWR_SMP_MP_MW s)),
   (d.word (F.PWR_SCAP_DEMAND 4).a == 0) && decide (d.fld (F.PWR_SMP_MP_MW 4) ≤ 35),
   (List.range 5).all fun s => decide (d.fld (F.PWR_SCAP_RD_MAX s) ≤ heads ∧ d.fld (F.PWR_SCAP_WR_MAX s) ≤ heads) &&
     (decide (s < 2) || (d.fld (F.PWR_SCAP_RD_MAX s) == 0 && d.fld (F.PWR_SCAP_WR_MAX s) == 0)),
   drop F.PWR_SCAP_DEMAND && drop F.PWR_SCAP_RD_MAX && drop F.PWR_SCAP_WR_MAX && drop F.PWR_SCAP_BUFCAP && drop F.PWR_SMP_MP_MW &&
     (List.range 4).all fun s => decide (d.fld (F.PWR_SCAP_RINGP (s + 1)) &&& (3 ^^^ d.fld (F.PWR_SCAP_RINGP s)) = 0),
   d.fld (F.PWR_SCAP_DEMAND 3) == 0 && d.fld (F.PWR_SCAP_DEMAND 4) == 0,
   lim == 0 || decide (base 0 + d.fld F.PWR_COST2_READ_MW ≤ lim), decide (d.fld F.PWR_PF_PFWP_MAX ≤ 293),
   decide (d.fld F.PWR_CTRL_BOOT_STATE ≤ 3 ∧ d.fld F.PWR_CTRL_WHISTLE_STATE ≤ 3)]

/-- The rules of a block from 2 onward (Table 16.10). -/
def rulesFrom2 (d o : Dev) : Blk → List Bool
  | .fab => [decide (d.fld F.FAB_PROMOTE_SCAN_MS ≠ 0 ∧ d.fld F.FAB_PROMOTE_SCRUB_MS ≠ 0 ∧ d.fld F.FAB_PROMOTE_ROLL_MS ≠ 0 ∧
      d.fld F.FAB_PROMOTE_FLUSH_MS ≠ 0)]
  | .knl => [decide (d.fld F.KNL_VCORE_VSET_HI ≤ 0x38 ∧ d.fld F.KNL_VCORE_VSET_LO ≤ 0x38),
      decide (d.fld F.KNL_VCORE_VSET_LO ≤ d.fld F.KNL_VCORE_VSET_HI)]
  | .ch n => rulesCh d n.val
  | .dec => rulesDec d
  | .wrp => rulesWrp d
  | .srv => rulesSrv d
  | .spn => rulesSpn d
  | .act => [decide (0x0A ≤ d.fld F.ACT_CTRL_ACK_NS), inRange 1 15 (d.fld F.ACT_CTRL_MISS_N)]
  | .buf => rulesBuf d o
  | .mdc => [decide (d.fld F.MDC_WAYS_ALLOC &&& (0xFFF ^^^ d.fld F.MDC_WAYS_LOCK) ≠ 0), decide (d.fld F.MDC_REPL_INS_AGE ≤ 3)]
  | .scb => [inRange 1 720 (d.fld F.SCB_PACE_PASS_H)]
  | .dma => rulesDma d o
  | .hst => rulesHst d o
  | .zne => rulesZne d o
  | .rng => rulesRng d
  | .flc => [inRange 20 1000 (d.fld F.FLC_CTRL_AUTO_MAX_US)]
  | .log => rulesLog d
  | .pwr => rulesPwr d
  | .ece | .seq | .sec => []

/-- The number of the first rule that a block's proposed set breaks, 0 if it breaks none (R472, R475). RNG's rule 1 also covers ECE's pools. -/
def Dev.failingRule (o : Dev) (b : Blk) : Nat :=
  let d := o.withStaged b
  firstFail 1 ((o.ruleOne b && (decide (b ≠ .rng) || o.ruleOne .ece)) :: rulesFrom2 d o b)

end Sys2Proof.Machine
end

