-- ==== Sys2Proof/Machine/Commit.lean ====
section
/-! DEFINITION. Machine/Commit.lean: staged commits of blocks and domains (R471 to R477). A commit takes no time of its own here: BUSY rises and falls
within one command. -/
namespace Sys2Proof.Machine

/-- The power domain of a block (Table 17.1). WRP and RNG, which the table does not name, stand with SRV and with the core fabric. (DESIGN CHOICE, log entry 8) -/
def blkDom : Blk → Nat
  | .knl | .log | .pwr => 0
  | .ch _ | .dec => 2
  | .srv | .spn | .act | .wrp => 3
  | .buf | .mdc | .scb => 4
  | _ => 1

/-- The present channels. -/
def Dev.channels (d : Dev) : List (Fin 20) := (List.finRange 20).filter fun n => !(d.v && decide (10 ≤ n.val))

/-- The blocks of a class; class 0x03 has one for each present channel. -/
def Dev.blksOf (d : Dev) (cls : Nat) : List Blk :=
  if cls = 3 then d.channels.map .ch else singleBlks.filter fun b => decide (blkCls b = cls)

/-- The core regulator's code in a state (R539). -/
def Dev.vidOf (d : Dev) (s : Nat) : Nat :=
  if s ≤ 1 then d.fld F.KNL_VCORE_VSET_HI else if s ≤ 3 then d.fld F.KNL_VCORE_VSET_LO else 0

/-- Move CORE_VID towards the code of the present state, by one step and no sooner than a microsecond after the last (R539); with CORE_EN low it is 0. -/
def Dev.driveVid (d : Dev) : Dev :=
  let v := d.vidOf d.pstate
  if !d.pwr.coreEn then d.modPwr fun p => { p with vid := 0 }
  else if d.pwr.vid = v ∨ d.now < d.pwr.vidAt + 1000 then d
  else d.modPwr fun p => { p with vid := if p.vid < v then p.vid + 1 else p.vid - 1, vidAt := d.now }

/-- What an applied commit of SRV does beside taking the values: DCINV of the sets judged, which have now passed; the RAMP set of a loop in DOWN is
taken; swaps become pending, and a FETCH swap happens at once outside FETCH (R162, R164). -/
def Dev.srvCommitted (d : Dev) : Dev :=
  let d : Dev := d.judged.foldl (fun (d : Dev) s =>
    let (k, kind, base) := s
    let d := d.setWord (base + 0x1DC) (BitVec.ofInt 32 (d.setDcinv base))
    let l := d.lp k
    d.setLp k (if kind = 0 then { l with okHeel := true } else if kind = 1 then { l with okFetch := true }
      else { l with okRamp := true, ramp := (List.range 256).map fun i => d.setWordAt base (4 * i) })) d
  ((List.range 22).filter fun k => d.hasLoop k).foldl (fun (d : Dev) k =>
    let d := d.setFlag (F.SRV_LSTAT_HEEL_PEND k) (d.fld (F.SRV_LBANK_HEEL_NEXT k) != d.fld (F.SRV_LSTAT_HEEL_ACT k))
    let d := d.setFlag (F.SRV_LSTAT_FETCH_PEND k) (d.fld (F.SRV_LBANK_FETCH_NEXT k) != d.fld (F.SRV_LSTAT_FETCH_ACT k))
    if d.mode k = 2 then d else d.fetchSwap k) d

/-- What an applied commit does in its block beside taking the values. -/
def Dev.committed (d old : Dev) : Blk → Dev
  | .srv => d.srvCommitted
  | .spn => d.spinDemand old.spinTarget
  | .mdc => d.mdcEnabled (old.flag F.MDC_CTRL_EN)
  | .pwr => d.showVotes.govern
  | .knl => d.driveVid
  | .rng => d.ringPorts false
  | _ => d

/-- Apply a block's staged set at one instant (R472). RNG's commit applies ECE's fabric page too (R471). -/
def Dev.applyBlock (d : Dev) (b : Blk) : Dev :=
  let e := d.applyStaged b
  (if b = .rng then e.setFld ⟨blkBase .ece + 0xF4, 29, 1⟩ 0 else e).committed d b

/-- Show the outcome of a commit in CSTAT (Table 16.9). -/
def Dev.showCommit (d : Dev) (b : Blk) (failed : Bool) (dom rule : Nat) : Dev :=
  ((d.setFlag (fCFAILED b) failed).setFld (fCDOMAIN b) dom).setFld (fCRULE b) rule

/-- A GO that R473 refuses: event 0xF0 with rule 0. -/
def Dev.refuseGo (d : Dev) (b : Blk) (who : Nat) : Dev := d.event b 0xF0 0 0xFF who

/-- A block commit (R472): the staged set is applied if every rule holds, and kept if one fails. (DESIGN CHOICE, log entry 63) -/
def Dev.commitBlock (d : Dev) (b : Blk) (who : Nat) : Dev :=
  if blkAbsent d.v b ∨ b = .ece then d
  else if d.flag (fCBUSY b) then d.refuseGo b who
  else
    let r := d.failingRule b
    if r = 0 then (d.applyBlock b).showCommit b false 0xFF 0
    else (d.showCommit b true 0xFF r).event b 0xF0 r 0xFF who

/-- Class and channel codes of a block for CDSTAT. -/
def chOf : Blk → Nat
  | .ch n => n.val
  | _ => 0

/-- A domain commit over given members, in roll order (R477): every member runs its rules; all apply, or none. -/
def Dev.commitMembers (d : Dev) (dom : Nat) (mem : List Blk) (who : Nat) : Dev :=
  let out := mem.map fun b => (b, d.failingRule b)
  let bad := out.find? fun p => p.2 != 0
  let d := match bad with
    | none =>
      let d : Dev := mem.foldl (fun (d : Dev) b => (d.applyBlock b).showCommit b false dom 0) d
      ((((d.setFld F.FAB_CDSTAT_FAILED 0).setFld F.FAB_CDSTAT_RULE 0).setFld F.FAB_CDSTAT_CLASS 0).setFld F.FAB_CDSTAT_CH 0)
    | some (b, r) =>
      let d : Dev := out.foldl (fun (d : Dev) (p : Blk × Nat) =>
        let d := d.showCommit p.1 true dom p.2
        if p.2 = 0 then d else d.event p.1 0xF0 p.2 dom who) d
      let d := (d.setFld F.FAB_CDSTAT_FAILED 1).setFld F.FAB_CDSTAT_RULE r
      ((d.setFld F.FAB_CDSTAT_CLASS (blkCls b)).setFld F.FAB_CDSTAT_CH (chOf b)).event .fab 0xF1 r (blkCls b) dom
  d.setFld F.FAB_CDSTAT_DOMAIN dom

/-- The members of commit domain i (R476). -/
def Dev.domainOf (d : Dev) (i : Nat) : List Blk :=
  let cls := d.fld (F.FAB_CDOM_CLASSES i)
  let chs := d.fld (F.FAB_CDOMCH_CH i)
  allBlks.filter fun b => decide (b ≠ .ece) && cls.testBit (blkCls b - 1) && !blkAbsent d.v b && (match b with | .ch n => chs.testBit n.val | _ => true)

/-- A GO to FAB.CDGO (R477). (DESIGN CHOICE, log entry 63) -/
def Dev.commitDomain (d : Dev) (i who : Nat) : Dev :=
  if d.flag F.FAB_CDSTAT_BUSY then d.event .fab 0xF1 0 0 i else d.commitMembers i (d.domainOf i) who

/-- The outcome of a Commit command: Success, or Consistency Rule Failed with the rule in Dword 0 (R474). -/
def Dev.endCommit (d : Dev) (t : Tag) (rule : Nat) : Dev :=
  if rule = 0 then d.finish t stOk else d.finish t (stOf 7 0xC1) rule 0

end Sys2Proof.Machine
end

