-- ==== Sys2Proof/Machine/Vendor.lean ====
section
/-! DEFINITION. Machine/Vendor.lean: Control Space Read, Commit, and the commits themselves (Table 12.10, R350, R472 to R477). -/
namespace Sys2Proof.Machine

/-- CONTROL_SPACE_READ_CMD (R350): Dword 0 is the value at the address. (DESIGN CHOICE, log entry 16) -/
def execControlSpaceReadCmd (t : Tag) (a : Word) (s : State) : Out :=
  s.doesIn 1 fun d => d.host t false fun d =>
    let (v, bad, d) := d.access a.toNat
    if bad then d.finish t (stOf 7 0xC0) else d.finish t stOk v 0

/-- COMMIT_CMD (R474): CDW10 names a block class, with a channel or all channels for class 0x03, or a commit domain. -/
def execCommitCmd (t : Tag) (cdw10 : Word) (s : State) : Out :=
  s.doesIn 1 fun d => d.host t false fun d =>
    let w := cdw10.toNat
    let who := 9 + t.ctrl.val
    let cls := bitsAt w 0 8
    if w.testBit 31 then
      let i := bitsAt w 8 8
      if 8 ≤ i then d.finish t stInvalidField
      else if d.flag F.FAB_CDSTAT_BUSY then (d.commitDomain i who).finish t ⟨7, 0xC7, false⟩
      else
        let d := d.commitDomain i who
        d.endCommit t (d.fld F.FAB_CDSTAT_RULE)
    else if cls = 3 ∧ w.testBit 21 then
      let (i, d) := d.drawNat
      if d.flag F.FAB_CDSTAT_BUSY then (d.commitDomain (i % 8) who).finish t ⟨7, 0xC7, false⟩
      else
        let d := d.commitMembers (i % 8) (d.channels.map .ch) who
        d.endCommit t (d.fld F.FAB_CDSTAT_RULE)
    else match (d.blksOf cls).find? fun b => decide (b ≠ .ece) && (decide (cls ≠ 3) || decide (chOf b = bitsAt w 16 5)) with
      | none => d.finish t stInvalidField
      | some b =>
        if d.flag (fCBUSY b) then (d.refuseGo b who).finish t ⟨7, 0xC7, false⟩
        else
          let d := d.commitBlock b who
          d.endCommit t (d.fld (fCRULE b))

/-- BLOCK_COMMIT (R472, R473): a GO written to a block's COMMIT word. -/
def execBlockCommit (b : Blk) (who : Requester) (s : State) : Out := s.doesIn (blkDom b) fun d => d.commitBlock b (reqCode who)

/-- DOMAIN_COMMIT (R477): a GO written to FAB.CDGO. -/
def execDomainCommit (i : Fin 8) (who : Requester) (s : State) : Out := s.doesIn 1 fun d => d.commitDomain i.val (reqCode who)

end Sys2Proof.Machine
end

