-- ==== Sys2Proof/Machine/Control.lean ====
section
/-! DEFINITION. Machine/Control.lean: a control-space write with everything it does (R10 to R14): by whatever path it comes, a write to a register has the
effect that the chapter of its block gives it. -/
namespace Sys2Proof.Machine

/-- A write to PWR.PADREL (R496): pads of a domain that is on are released; of one that is off, the release is refused with event 0x1405. -/
def Dev.padrelWrite (d : Dev) (v who : Nat) : Dev :=
  let d := (d.regWrite F.PWR_PADREL_REL.a v who).1
  ((List.range 9).filter fun k => v.testBit k).foldl (fun (d : Dev) k =>
    if d.on k then d.setFld F.PWR_STAT_HOLD (d.fld F.PWR_STAT_HOLD &&& (0x1FF ^^^ (1 <<< k))) else d.event .pwr 0x05 k) d

/-- A write to FLC.OPs_CTRL (R444). -/
def Dev.flashGo (d : Dev) (s : Fin 9) (v who : Nat) : Dev :=
  let d := (d.regWrite (F.FLC_OP_CTRL_GO s).a v who).1
  if !v.testBit 0 then d
  else match bitsAt v 1 3 with
    | 0 => d.flashRead s []
    | 1 => d.flashProgram s
    | 2 => d.flashErase s
    | 3 => d.flashSuspend s
    | 4 => d.flashResume s
    | 5 => d.flashBadOp s 0
    | 6 => d.flashBadOp s 1
    | _ => d.flashBadOp s 2

/-- A write to FLC.EXEC (R458). -/
def Dev.flashExecWrite (d : Dev) (v who : Nat) : Dev :=
  let d := (d.regWrite F.FLC_EXEC_START.a v who).1
  let d := if v.testBit 30 && d.flag F.FLC_STAT_EXEC then d.execEnd else d
  if v.testBit 31 then d.flashExecStart (Fin.ofNat 8 (v % 8)) else d

/-- A write at offset o of a block's window that does more than its access code says; none where it does not. -/
def Dev.special (d : Dev) (b : Blk) (o v who : Nat) : Option Dev :=
  let a := blkBase b + o
  if o = 0xF0 then some (if v.testBit 0 then ((d.regWrite a v who).1).commitBlock b who else (d.regWrite a v who).1)
  else match b with
    | .fab => if o = 0x100 then some (if v.testBit 0 then ((d.regWrite a v who).1).requestRoll [] else (d.regWrite a v who).1)
        else if o = 0x180 then some (if v.testBit 31 then ((d.regWrite a v who).1).commitDomain (v % 8) who else (d.regWrite a v who).1)
        else none
    | .wrp => if 0x1000 ≤ o ∧ o < 0x1000 + 32 * 64 * 20 then some (d.wrecWrite a v who) else none
    | .srv => if 0x10000 ≤ o ∧ o < 0x10000 + 0x2000 * 22 then some (d.coefWrite a v who)
        else if o = 0x30 then some { (d.regWrite a v who).1 with srv := { d.srv with injCount := 0 } } else none
    | .spn => if a = F.SPN_DEMAND_DEMAND.a then some (d.demandWrite v who)
        else if o = 0x30 then some (((d.regWrite a v who).1).modSpn ({ · with injUntil := none, injRsv := 0 })) else none
    | .buf => if o = 0x24 then some (d.vclrWrite v who)
        else if a = (F.BUF_TBUF_GRANULE 0).a then some (d.tbufWrite 0 v who)
        else if a = (F.BUF_TBUF_GRANULE 1).a then some (if d.v then (d.regWrite a v who).1 else d.tbufWrite 1 v who)
        else if a = (F.BUF_TBCLR_FIRST 0).a then some (d.tbclrWrite 0 v who)
        else if a = (F.BUF_TBCLR_FIRST 1).a then some (if d.v then (d.regWrite a v who).1 else d.tbclrWrite 1 v who)
        else none
    | .mdc => if a = F.MDC_MOP_CTRL_GO.a then some (d.mopCtrlWrite v who) else none
    | .dma => if 0x1000 ≤ o ∧ o < 0x1800 ∧ o % 32 = 12 then some (d.dmaCtrlWrite ((o - 0x1000) / 32) v who) else none
    | .rng => if a = F.RNG_WHISTLE_EAST_GO.a then some (d.whistleWrite v who) else none
    | .seq => if 0x80 ≤ o ∧ o < 0xA0 then some (d.mutexWrite ((o - 0x80) / 4) v who)
        else if 0x400 ≤ o ∧ o < 0x600 ∧ o % 64 = 0x18 ∧ (accOf d.v a).wo ≠ 0 then some (d.flagSet ((o - 0x400) / 64) v who)
        else if 0x400 ≤ o ∧ o < 0x600 ∧ o % 64 = 0x1C ∧ (accOf d.v a).wo ≠ 0 then some (d.flagClear ((o - 0x400) / 64) v who)
        else none
    | .flc => if o = 8 then some (d.flashExecWrite v who)
        else if h : 0x104 ≤ o ∧ o < 0x344 ∧ o % 64 = 4 then some (d.flashGo ⟨(o - 0x104) / 64, by omega⟩ v who) else none
    | .pwr => if a = F.PWR_HEADREQ_OP.a then some (d.headreqWrite v who) else if a = F.PWR_PADREL_REL.a then some (d.padrelWrite v who) else none
    | _ => none

/-- A control-space write: the device after it, and whether it ended in the address error of R11. A block whose power domain is off takes no write. (DESIGN CHOICE, log entry 8) -/
def Dev.controlWrite (d : Dev) (a v who : Nat) : Dev × Bool :=
  if a % 4 ≠ 0 then (d, true)
  else match locate a with
    | none => (d, true)
    | some (b, o) =>
      if !d.live (blkDom b) then (d, false)
      else match d.special b o v who with
        | some d => (d, false)
        | none => d.regWrite a v who

/-- REGISTER_WRITE (R13): a control-space write by its access code. -/
def execRegisterWrite (a v : Word) (who : Requester) (s : State) : Out :=
  s.does fun d => (d.controlWrite a.toNat v.toNat (reqCode who)).1

/-- CONTROL_SPACE_WRITE_CMD (R350): the value goes to the address; an access that R11 refuses ends the command with Invalid Address. -/
def execControlSpaceWriteCmd (t : Tag) (a v : Word) (s : State) : Out :=
  s.doesIn 1 fun d => d.host t false fun d =>
    let (d, bad) := d.controlWrite a.toNat v.toNat (9 + t.ctrl.val)
    if bad then d.finish t (stOf 7 0xC0) else d.finish t stOk

/-- BAR2_ACCESS (R299): while diagnostics are unlocked, an aligned 4-byte access is a control-space access; another size, or an address that R11 refuses, ends
in Completer Abort with event 0x0D08. The access takes a credit of FAB's pool 1 while it runs (R551). `wr` is the value of a write. (DESIGN CHOICE, log entry 16) -/
def execBar2Access (c : Fin 2) (a : BitVec 28) (size : Nat) (wr : Option Word) (s : State) : Out :=
  s.doesIn 5 fun d =>
    if !d.hasCtrl c then d
    else
      let answer (d : Dev) (v : Option Word) : Dev := if wr.isSome && v.isSome then d else d.sendTx (.cpl c v)
      if !d.flag F.DMA_DIAG_UNLOCKED then answer d (some 0)
      else if !d.canSend .fab 1 then d
      else if size ≠ 4 ∨ a.toNat % 4 ≠ 0 ∨ (locate a.toNat).isNone then answer (d.event .hst 0x08 a.toNat size 0 c.val) none
      else match wr with
        | some v => answer (d.controlWrite a.toNat v.toNat (9 + c.val)).1 (some 0)
        | none =>
          let (v, _, d) := d.access a.toNat
          answer d (some (BitVec.ofNat 32 v))

end Sys2Proof.Machine
end

