-- ==== Sys2Proof/Machine/Dma.lean ====
section
/-! DEFINITION. Machine/Dma.lean: the commands of the DMA engine (chapter DMA Engine). -/
namespace Sys2Proof.Machine

/-- DMA_POST (R281, R282): a 40-byte post token of a sequencer goes with a credit of its pool (R16), which DMA returns when it has taken the post; bytes 33 to 39
carry nothing. -/
def execDmaPost (seq : Fin 8) (post : Bytes) (s : State) : Out :=
  s.doesIn 1 fun d => if d.canSend .dma seq then d.dmaPost seq (leAt post 32 1 % 64) (descOf post) else d

/-- DMA_BURST_ISSUE (R278, R284, R285): engine 0 is the read engine, 1 the write engine. -/
def execDmaBurstIssue (e : Fin 2) (s : State) : Out := s.doesIn 1 fun d => (d.dmaGrant e).ringSettle

/-- An injected staging fault (Table 10.6, KIND 0 and 1), or what the staging read itself meets (R246): the device, whether the data is lost, and whether the injection did it. -/
def Dev.stageRead (d : Dev) (sram : SramRead) : Dev × Bool × Bool :=
  if d.flag F.DMA_INJECT_ARM && decide (d.fld F.DMA_INJECT_KIND ≤ 1) then
    let two := d.fld F.DMA_INJECT_KIND = 1
    let bit := d.fld F.DMA_INJECT_BIT
    let d := d.setFlag F.DMA_INJECT_ARM false
    (d.sram .dma 0 (if two then .uncorrectable 0 0 else .mended 0 (bit / 8) (bit % 8)) true, two, two)
  else (d.sram .dma 0 sram, (match sram with | .uncorrectable _ _ => true | _ => false), false)

/-- DMA_READ_DATA (R286, R288): the next response of BUF to the read engine arrives in staging and is delivered in order. -/
def execDmaReadData (sram : SramBits) (s : State) : Out :=
  s.doesIn 1 fun d => Dev.ringSettle <|
    match d.buf.resps.find? fun r => decide (r.client = 2) with
    | none => d
    | some r => match d.bufTake 2 r.id with
      | none => d
      | some (r, d) =>
        let (d, lost, inj) := d.stageRead (sramRead sram)
        if lost then d.stageData r.id 0 r.data (some (6, 0)) inj
        else d.stageData r.id 0 r.data (if r.err then some (2, r.bad.getD 0) else none)

/-- DMA_WRITE_RESPONSE (R32, R287): HST's response for the oldest burst the read engine has sent, or BUF's next response to the write engine. -/
def execDmaWriteResponse (e : Fin 2) (s : State) : Out :=
  s.doesIn 1 fun d => Dev.ringSettle <|
    if e = 0 then
      match d.dma.bursts.find? fun b => b.sent && decide (d.fld (F.DMA_C_CFG_ENGINE b.ch) = 0) with
      | some b => d.burstAcked b
      | none => d
    else match d.buf.resps.find? fun r => decide (r.client = 3) with
      | none => d
      | some r => match d.bufTake 3 r.id with
        | none => d
        | some (r, d) => match d.dma.bursts.find? fun b => decide (b.id = r.id) with
          | none => d
          | some b => if r.err then (d.freeStage b).descError b.ch b.idx 2 b.first else d.burstAcked b

/-- DMA_STOP (R289): a write of STOP to DMA.CHx_CTRL. -/
def execDmaStop (x : Fin 64) (who : Requester) (s : State) : Out := s.doesIn 1 fun d => (d.dmaCtrlWrite x 4 (reqCode who)).ringSettle

/-- DMA_RESUME (R288): a write of RESUME. -/
def execDmaResume (x : Fin 64) (who : Requester) (s : State) : Out := s.doesIn 1 fun d => d.dmaCtrlWrite x 2 (reqCode who)

/-- DMA_DOORBELL (R283, R290): a write of DOOR; it acts on channels 56 to 63 while the lock is open. -/
def execDmaDoorbell (x : Fin 64) (who : Requester) (s : State) : Out := s.doesIn 1 fun d => d.dmaCtrlWrite x 1 (reqCode who)

/-- DMA_HOST_DESCRIPTOR_FETCHED (R283): the descriptor at HEAD has come from host memory; with OWN = 1 it runs, else the channel goes idle.
A doorbell that came while it was read has it read again. -/
def execDmaHostDescriptorFetched (x : Fin 64) (desc : Bytes) (s : State) : Out :=
  s.doesIn 1 fun d =>
    let c := d.dch x
    if !c.fetching then d
    else
      let d := { d with hst := { d.hst with reads := d.hst.reads.filter fun r => !(r.burst.isNone && r.ch == x.val) } }
      let q := descOf desc
      if q.own && !c.stopping && d.flag F.DMA_DIAG_UNLOCKED && !d.flag (F.DMA_C_STAT_HALTED x) then
        d.setDch x { c with fetching := false, again := false, runs := [{ idx := d.fld (F.DMA_C_STAT_HEAD x), desc := q }] }
      else
        let d := d.setDch x { c with fetching := false, again := false }
        if c.again then d.fetchDesc x else d

/-- DMA_INJECT_ARM (Table 10.6): a write to DMA.INJECT. -/
def execDmaInjectArm (v : Word) (who : Requester) (s : State) : Out := s.doesIn 1 fun d => (d.regWrite 0x05000060 v.toNat (reqCode who)).1

end Sys2Proof.Machine
end

