-- ==== Sys2Proof/Machine/Firmware.lean ====
section
/-! DEFINITION. Machine/Firmware.lean: Firmware Image Download and Firmware Commit (R478 to R480). -/
namespace Sys2Proof.Machine

/-- Overlapping Range, Invalid Firmware Slot, Invalid Firmware Image, and Firmware Activation Requires NVM Subsystem Reset. (PRESUMED, log entry 34) -/
def stOverlap : Status := stOf 1 0x14
def stFwSlot : Status := stOf 1 0x06
def stFwImage : Status := stOf 1 0x07
def stFwReset : Status := stOf 1 0x10

/-- Program the code words of a piece; the status of the first that is not programmed, or OK. (DESIGN CHOICE, log entry 49) -/
def Dev.programPiece (d : Dev) (k ofs slot : Nat) (b : Bytes) : Dev × Nat :=
  (List.range (b.length / 32)).foldl (fun (p : Dev × Nat) i =>
    if p.2 ≠ fsOK then p else p.1.programWord (imgBase k + ofs / 32 + i) (slice b (32 * i) 32) slot) (d, fsOK)

/-- FIRMWARE_IMAGE_DOWNLOAD (R478): a piece of the target copy, written into its IMAGE partition. A piece with OFST 0 first erases the partition, which
waits while an execution is open (R480). (DESIGN CHOICE, log entry 49) -/
def execFirmwareImageDownload (t : Tag) (ofs : BitVec 34) (piece : Bytes) (s : State) : Out :=
  s.doesIn 1 fun d => d.host t true fun d =>
    let o := ofs.toNat
    let n := piece.length
    let k := d.targetCopy
    let mine : Bool := match d.dl with | some x => decide (x.ctrl = t.ctrl) | none => false
    let other : Bool := match d.dl with | some x => decide (x.ctrl ≠ t.ctrl) | none => false
    let meets : Bool := o != 0 && (match d.dl with | some x => x.pieces.any fun p => decide (p.1 < o + n ∧ o < p.1 + p.2) | none => false)
    if o % 4096 ≠ 0 ∨ n % 32 ≠ 0 ∨ n = 0 ∨ 10485728 < o + n then d.finish t stInvalidField
    else if other || (o != 0 && !mine) || meets then d.finish t stOverlap
    else if o = 0 ∧ d.flag F.FLC_STAT_EXEC then d
    else
      let slot := csqOf t.sq
      let d : Dev := if o = 0 then (List.range 160).foldl (fun (d : Dev) i => d.eraseSector (4 + 512 * k + i)) d else d
      let old := if o = 0 then [] else match d.dl with | some x => x.pieces | none => []
      let d : Dev := { d with dl := some { ctrl := t.ctrl, pieces := old ++ [(o, n)] } }
      let (d, st) := d.programPiece k o slot piece
      d.finish t (if st = fsOK then stOk else stOf 0 0x06)

/-- The copy a Firmware Commit acts on (R479): FS 0 the target, 1 copy A, 2 copy B; none where the slot is invalid or holds the loaded copy. -/
def Dev.commitCopy (d : Dev) (fs : Nat) : Option Nat :=
  let k := if fs = 0 then some d.targetCopy else if fs = 1 then some 0 else if fs = 2 then some 1 else none
  match k with
  | some k => if d.loadedCopy = some k then none else some k
  | none => none

/-- The checks of R465 and R466 hold for a copy, its activation word left out, and its GEN exceeds the loaded one; with GEN. -/
def Dev.commitGen (d : Dev) (k : Nat) : Option Nat :=
  match d.imgHeader k with
  | some h => match d.proveCopy k h with
    | .good _ _ => if d.fld F.FAB_LOADGEN_GEN < h.gen then some h.gen else none
    | _ => none
  | none => none

/-- Firmware Commit: the checks, then (if it activates) the activation word where it is blank. -/
def Dev.fwCommit (d : Dev) (t : Tag) (fs : Nat) (activate : Bool) : Dev :=
  match d.commitCopy fs with
  | none => d.finish t stFwSlot
  | some k => match d.commitGen k with
    | none => d.finish t stFwImage
    | some g =>
      if !activate then d.finish t stOk
      else if d.fword (imgAct k) ≠ .erased then d.finish t stFwReset
      else
        let (d, st) := d.programWord (imgAct k) (actWord g) (csqOf t.sq)
        d.finish t (if st = fsOK then stFwReset else stOf 0 0x06)

/-- FIRMWARE_COMMIT_CA0 (R479): checked, not activated. -/
def execFirmwareCommitCa0 (t : Tag) (fs : Fin 8) (s : State) : Out :=
  s.doesIn 1 fun d => d.host t true fun d => d.fwCommit t fs.val false

/-- FIRMWARE_COMMIT_CA1 (R479). (DESIGN CHOICE, log entry 49) -/
def execFirmwareCommitCa1 (t : Tag) (fs : Fin 8) (s : State) : Out :=
  s.doesIn 1 fun d => d.host t true fun d => d.fwCommit t fs.val true

/-- FIRMWARE_COMMIT_CA2 (R479): the image already in the slot is activated. -/
def execFirmwareCommitCa2 (t : Tag) (fs : Fin 8) (s : State) : Out :=
  s.doesIn 1 fun d => d.host t true fun d => d.fwCommit t fs.val true

/-- FIRMWARE_COMMIT_OTHER (R479). -/
def execFirmwareCommitOther (t : Tag) (ca : Fin 8) (s : State) : Out :=
  s.doesIn 1 fun d => d.host t true fun d => if ca.val ≤ 2 then d else d.finish t stInvalidField

end Sys2Proof.Machine
end

