-- ==== Sys2Proof/Machine/Host.lean ====
section
/-! DEFINITION. Machine/Host.lean: the commands of the PCIe and NVMe transport (chapter PCIe and NVMe Transport). -/
namespace Sys2Proof.Machine

/-- INVALID_DOORBELL (R308): the write is ignored, and the controller reports it: event type error, information 0 (no such queue) or 1 (invalid
value), page 0x01. (DESIGN CHOICE, log entry 35) -/
def Dev.badDoorbell (d : Dev) (c : Fin 2) (info : Nat) : Dev := d.raiseAen c ⟨0, info, 1⟩

/-- SQ_TAIL_DOORBELL (R306, R308). (DESIGN CHOICE, log entry 35) -/
def execSqTailDoorbell (c : Fin 2) (q v : BitVec 16) (s : State) : Out :=
  s.doesIn 1 fun d =>
    if !d.hasCtrl c || !(d.ctrl c).rdy then d
    else match (d.ctrl c).sq q.toNat with
      | none => d.badDoorbell c 0
      | some x => if x.size ≤ v.toNat then d.badDoorbell c 1 else d.setSq c q.toNat (some { x with tail := v.toNat })

/-- CQ_HEAD_DOORBELL (R307, R308): a head may move only over entries that have been posted. (DESIGN CHOICE, log entry 35) -/
def execCqHeadDoorbell (c : Fin 2) (q v : BitVec 16) (s : State) : Out :=
  s.doesIn 1 fun d =>
    if !d.hasCtrl c || !(d.ctrl c).rdy then d
    else match (d.ctrl c).cq q.toNat with
      | none => d.badDoorbell c 0
      | some x =>
        if x.size ≤ v.toNat ∨ (x.tail + x.size - x.head) % x.size < (v.toNat + x.size - x.head) % x.size then d.badDoorbell c 1
        else d.setCq c q.toNat (some { x with head := v.toNat })

/-- Entries waiting in a submission queue. -/
def SqS.waiting (x : SqS) : Nat := (x.tail + x.size - x.head) % x.size

/-! ## NVMe-MI requests (R318, R319) -/

/-- What an NVMe-MI request asks for (Table 11.9): refused, a Reset, or one that is answered with data. Byte 1 holds the message type (1: MI command, 2: admin
command) in bits 6:3, byte 4 the opcode. (PRESUMED, log entry 36) -/
inductive MiOp where
  | refused | reset | answer
deriving DecidableEq, Repr

def miOp (msg : Bytes) : MiOp :=
  let kind := leAt msg 1 1 / 8 % 16
  let op := leAt msg 4 1
  if kind = 1 then (if op = 7 then .reset else if op ≤ 5 then .answer else .refused)
  else if kind = 2 ∧ (op = 6 ∨ op = 2 ∨ op = 0xA) then .answer
  else .refused

/-- CSQ0 serves an MI request (R319): the response data goes into HST.MIBUF and out; a Reset begins the NVM Subsystem Reset of R317. Response status 0x00 is Success,
0x02 Internal Error (CSQ0 is halted), 0x03 Invalid Command Opcode. (PRESUMED, log entry 36) -/
def Dev.miAnswer (d : Dev) (msg : Bytes) : Dev :=
  if d.fld (F.SEQ_SSTAT_HALTED 0) ≠ 0 then d.sendTx (.mi [0x02])
  else match miOp msg with
    | .refused => d.sendTx (.mi [0x03])
    | .reset =>
      let d := if d.hst.nssr.isSome then d else (d.modHst fun h => { h with nssr := some d.now }).releaseHeld fun _ => true
      d.sendTx (.mi [0x00])
    | .answer =>
      let b := (Config.miData d.free msg).take 4223
      let d := (List.range ((b.length + 3) / 4)).foldl (fun (d : Dev) i => d.setWord (0x06008000 + 4 * i) (BitVec.ofNat 32 (leAt b (4 * i) 4)))
        { d with free := d.free + 1 }
      d.sendTx (.mi (0x00 :: b))

/-- The turn of the MI requests: the oldest goes to CSQ0, with a credit of its queue that comes back with the completion entry. -/
def Dev.miTurn (d : Dev) : Dev :=
  match d.hst.mi with
  | [] => d
  | m :: rest => (d.modHst fun h => { h with mi := rest }).miAnswer m

/-! ## Queues -/

/-- An input of the round robin over a controller's queues has an entry that may be fetched (R305, R306): queue q of a ready controller with room for a command, or,
as input 129 of controller 1 (CNTLID 0x0001), the MI requests (R319). -/
def Dev.sqReady (d : Dev) (c : Fin 2) (q : Nat) : Bool :=
  let x := d.ctrl c
  let credit (n : Nat) : Bool := decide (0 < (d.pool .seq n).held) && !d.flag (fFENCED .seq n)
  if q = 129 then decide (c = 0) && d.hst.mi != [] && credit 0
  else x.rdy && decide (d.inFlight c < d.maxCmd) && decide (x.shst = 0) && match x.sq q with
    | some y => decide (0 < y.waiting) && credit (csqOf q)
    | none => false

/-- SQ_ENTRY_FETCH (R305, R306): a turn of the round robin over a controller's queues and, for controller 1, the MI requests; `cids` are the command identifiers that
host memory holds in the entries fetched, in order. -/
def execSqEntryFetch (c : Fin 2) (cids : List (BitVec 16)) (s : State) : Out :=
  s.doesIn 1 fun d =>
    let x := d.ctrl c
    let room := d.maxCmd - d.inFlight c
    if !d.hasCtrl c then d
    else match rrFirst (d.sqReady c) 130 130 x.rrSq with
      | none => d
      | some q =>
        if q = 129 then (d.modCtrl c fun x => { x with rrSq := 0 }).miTurn
        else match x.sq q with
        | none => d
        | some y =>
          let n := min (min (min y.waiting (2 ^ x.ab)) room) (min cids.length (d.pool .seq (csqOf q)).held)
          let d := (d.setSq c q (some { y with head := (y.head + n) % y.size })).modCtrl c fun x => { x with rrSq := (q + 1) % 130 }
          let p := d.pool .seq (csqOf q)
          let d := d.setPool .seq (csqOf q) { p with held := p.held - n, busy := p.busy + n }
          let d : Dev := (cids.take n).foldl (fun (d : Dev) i =>
            d.putCmd { tag := ⟨c, q, i.toNat⟩, kind := .fetched, started := d.now, ordered := y.ordered }) d
          let d := (d.bump .hst 0 n).bindCtx (csqOf q)
          if d.fld (F.SEQ_SSTAT_HALTED (csqOf q)) = 0 then d
          else (cids.take n).foldl (fun (d : Dev) i => d.finish ⟨c, q, i.toNat⟩ stInternal) d

/-- The completion entries that have gone to HST: of each CSQ's, as many as it holds credits for; the others wait at the CSQ behind them (R16, R38). -/
def Dev.postSent (d : Dev) : List Cpl :=
  let gone (n : Nat) : List Cpl := credited (fun _ => 1) (min (d.pool .hst n).held (d.fld (fCREDITS .hst n)))
    (d.hst.post.filter fun p => decide (csqOf p.tag.sq = n))
  d.hst.post.filter fun p => (gone (csqOf p.tag.sq)).contains p

/-- CQ_ENTRY_POST (R307, R309, R349): the first entry handed over for completion queue q is written, if there is a free slot and nothing must be
posted before it; then its interrupt is announced, and its context is free for an entry that waits at the CSQ (R413). An entry that comes through a fenced pool carries
Internal Error (R53). (DESIGN CHOICE, log entry 71) -/
def execCqEntryPost (c : Fin 2) (q : BitVec 16) (s : State) : Out :=
  s.doesIn 1 fun d =>
    let x := d.ctrl c
    let forQ (p : Cpl) : Bool := p.tag.ctrl = c && (match x.sq p.tag.sq with | some y => y.cqid = q.toNat | none => false)
    match x.cq q.toNat, d.postSent.find? forQ with
    | some cq, some p =>
      let blocked : Bool := match p.after with
        | some t => (d.cmd? t).isSome || (d.hst.post.any fun e => decide (e.tag = t))
        | none => false
      if (cq.tail + 1) % cq.size = cq.head ∨ blocked then d
      else
        let head := match x.sq p.tag.sq with | some y => y.head | none => 0
        let d := d.modHst fun h => { h with post := h.post.erase p }
        let out : Cpl := if d.flag (fFENCED .hst (csqOf p.tag.sq)) then { p with st := stInternal } else p
        let d := (d.sendTx (.entry out q.toNat cq.tail cq.phase head)).bump .hst 1
        let cq := { cq with tail := (cq.tail + 1) % cq.size, phase := if cq.tail + 1 = cq.size then !cq.phase else cq.phase }
        ((d.setCq c q.toNat (some cq)).announce c q.toNat cq).bindCtx (csqOf p.tag.sq)
    | _, _ => d

/-- COALESCE_TIMEOUT (R310): the window of a vector, [t, t + 100 × TIME) µs, closes. (DESIGN CHOICE, log entry 7) -/
def execCoalesceTimeout (c : Fin 2) (v : BitVec 16) (s : State) : Out :=
  s.doesIn 1 fun d =>
    let x := d.ctrl c
    let h := x.coal.get (fun _ => {}) v.toNat
    if h.held = 0 ∨ d.now < h.opened + 100000 * x.coalTime then d
    else (d.modCtrl c fun x => { x with coal := x.coal.set (fun _ => {}) v.toNat {} }).interrupt c v.toNat

/-- TAG of the descriptor a host read serves. -/
def Dev.readTag (d : Dev) (r : HRead) : Nat :=
  match r.burst with
  | none => 0
  | some id => match d.dma.bursts.find? fun b => decide (b.id = id) with
    | some b => match (d.dch r.ch).runs.find? fun q => decide (q.idx = b.idx) with | some q => q.desc.tag | none => 0
    | none => 0

/-- A host read has failed (R311): its descriptor ends with `status`; event 0x0D05 and an AER report. -/
def Dev.hostReadFails (d : Dev) (r : HRead) (status why : Nat) (inj : Bool) : Dev :=
  let d := (d.event .hst 0x05 r.ch why (d.readTag r + injBit inj) r.port.val).sendTx (.aerReport r.port false)
  match r.burst with
  | some id => d.stageData id r.ofs [] (some (status, r.ofs / 128)) inj
  | none => d.setDch r.ch { d.dch r.ch with fetching := false, again := false }

/-- HOST_READ_COMPLETION (R288, R311): the completion of read number `id` of a burst. An armed DMA.INJECT of KIND 2 for its channel makes it a
Completer Abort. -/
def execHostReadCompletion (id : Nat) (res : HostRes) (s : State) : Out :=
  s.doesIn 1 fun d =>
    match d.hst.reads.find? fun r => decide (r.id = id) with
    | none => d
    | some r =>
      let d := d.modHst fun h => { h with reads := h.reads.erase r }
      let inj := d.flag F.DMA_INJECT_ARM && d.fld F.DMA_INJECT_KIND = 2 && d.fld F.DMA_INJECT_CH = r.ch
      let d := if inj then d.setFlag F.DMA_INJECT_ARM false else d
      match (if inj then HostRes.ca else res), r.burst with
      | .ok b, some k => d.stageData k r.ofs (b.take r.len) (if b.length < r.len then some (3, (r.ofs + b.length) / 128) else none)
      | .ok _, none => d
      | .ur, _ => (d.bump .hst 6).hostReadFails r 3 1 inj
      | .ca, _ => (d.bump .hst 6).hostReadFails r 3 2 inj
      | .poisoned, _ => (d.bump .hst 6).hostReadFails r 3 3 inj

/-- HOST_COMPLETION_TIMEOUT (R311). -/
def execHostCompletionTimeout (id : Nat) (s : State) : Out :=
  s.doesIn 1 fun d =>
    match d.hst.reads.find? fun r => decide (r.id = id) with
    | none => d
    | some r => ((d.modHst fun h => { h with reads := h.reads.erase r }).bump .hst 5).hostReadFails r 4 0 false

/-- HOST_WRITE_POISONED (R312): the write is discarded and reported through AER. -/
def execHostWritePoisoned (c : Fin 2) (s : State) : Out := s.doesIn 1 fun d => if d.hasCtrl c then d.sendTx (.aerReport c true) else d

/-- CC_ENABLE (R301, R302): CC.EN goes from 0 to 1 with the admin queues of AQA, ASQ and ACQ. (DESIGN CHOICE, log entry 64) -/
def execCcEnable (c : Fin 2) (cc aqa : Word) (asq acq : BitVec 64) (cfg : HostCfg) (s : State) : Out :=
  s.doesIn 1 fun d =>
    if !d.hasCtrl c || (d.ctrl c).rdy || !cc.toNat.testBit 0 then d
    else
      let x := { d.ctrl c with cc := cc.toNat, aqa := aqa.toNat, asq := asq.toNat, acq := acq.toNat, mps := cfg.mps, mrrs := cfg.mrrs
                               msixOn := cfg.msix, intms := cfg.intms }
      if getBits cc 4 3 ≠ 6 ∨ getBits cc 16 4 ≠ 6 ∨ getBits cc 20 4 ≠ 4 then (d.setCtrl c x).event .hst 0x09 cc.toNat 0 0 c.val
      else
        let sq : SqS := { base := asq.toNat, size := getBits aqa 0 12 + 1, cqid := 0 }
        let cq : CqS := { base := acq.toNat, size := getBits aqa 16 12 + 1 }
        let d := d.setCtrl c { x with rdy := true, shst := 0, sqs := [(0, some sq)], cqs := [(0, some cq)] }
        if d.zne.recov = [] then d else d.raiseAen c ⟨7, 0xE1, 0xD1⟩

/-- CONTROLLER_RESET (R315): CC.EN goes from 1 to 0. -/
def execControllerReset (c : Fin 2) (s : State) : Out := s.doesIn 1 fun d => if d.hasCtrl c then d.resetCtrl c 1 else d

/-- FUNCTION_LEVEL_RESET (Table 11.7). -/
def execFunctionLevelReset (c : Fin 2) (s : State) : Out :=
  s.doesIn 1 fun d => if d.hasCtrl c then (d.resetCtrl c 2).cfgDefaults c else d

/-- PORT_HOT_RESET (Table 11.7, R485): Hot Reset, or PERSTp_N low if `perst`, which makes the function vote PS4. -/
def execPortHotReset (p : Fin 2) (perst : Bool) (s : State) : Out :=
  s.doesIn 1 fun d =>
    if !d.hasCtrl p then d
    else
      let d := ((d.resetCtrl p 3).cfgDefaults p).linkDefaults p
      if perst then (d.modCtrl p fun x => { x with perst := true }).voted d else d

/-- SHUTDOWN_NOTIFY (R316): CC.SHN is set; every run of the write cache is to be destaged, held runs with a fresh try. The controller reports the
end when nothing but held runs is left. -/
def execShutdownNotify (c : Fin 2) (s : State) : Out :=
  s.doesIn 1 fun d =>
    if !d.hasCtrl c || (d.ctrl c).shst ≠ 0 then d
    else ((d.modCtrl c fun x => { x with shst := 1 }).releaseHeld fun _ => true).endShutdown

/-- LINK_UP (R314): port p has trained. -/
def execLinkUp (p : Fin 2) (speed : Fin 7) (width : Fin 5) (flit : Bool) (s : State) : Out :=
  s.doesIn 5 fun d =>
    if !d.hasCtrl p || (d.ctrl p).perst then d
    else
      let d := ((d.setFld (F.HST_PSTAT_DL_UP p.val) 1).setFld (F.HST_PSTAT_FAILED p.val) 0).setFld (F.HST_PSTAT_SPEED p.val) speed
      let d := (d.setFld (F.HST_PSTAT_WIDTH p.val) width).setFlag (F.HST_PSTAT_FLIT p.val) flit
      ((d.modCtrl p fun x => { x with trained := true, pausedAt := none }).voted d).event .hst 0x01 speed width flit.toNat p.val

/-- PORT_DL_DOWN (R314): the data link layer leaves DL_Active. -/
def execPortDlDown (p : Fin 2) (s : State) : Out :=
  s.doesIn 5 fun d => if d.hasCtrl p && d.flag (F.HST_PSTAT_DL_UP p.val) then d.failPort p 0 else d

/-- LINK_RECOVERY_TIMEOUT (R314): the LTSSM has stayed out of L0 and L1 for RECOV_MS ms. -/
def execLinkRecoveryTimeout (p : Fin 2) (s : State) : Out :=
  s.doesIn 5 fun d => if d.hasCtrl p && d.flag (F.HST_PSTAT_DL_UP p.val) then d.failPort p 1 else d

/-- LINK_RETRAINED (R314): back in L0 after `us` µs, within the bound; the pause shows only as slips. -/
def execLinkRetrained (p : Fin 2) (us : BitVec 32) (s : State) : Out :=
  s.doesIn 5 fun d =>
    if d.hasCtrl p && d.flag (F.HST_PSTAT_DL_UP p.val) && decide (us.toNat < 1000 * d.fld F.HST_LINK_RECOV_MS) then
      let d := (d.incSat (F.HST_PSTAT_RETRAINS p.val) 1).bump .hst 7
      d.event .hst 0x03 us.toNat (d.fld (F.HST_PSTAT_SPEED p.val)) (d.fld (F.HST_PSTAT_WIDTH p.val)) p.val
    else d

/-- MI_MESSAGE (R318, R319): an NVMe-MI request waits for its turn to CSQ0; one longer than 4,224 bytes is refused with Invalid Parameter
(response status 0x04). (PRESUMED, log entry 36) -/
def execMiMessage (msg : Bytes) (s : State) : Out :=
  s.doesIn 1 fun d =>
    if 4224 < msg.length then d.sendTx (.mi [0x04])
    else (d.modHst fun h => { h with mi := h.mi ++ [msg] }).bump .hst 10

/-- BMC_BASIC_READ (R318): the NVMe Basic Management Command read at address 0x35, with BMC_EN = 1. (PRESUMED, log entry 36) -/
def execBmcBasicRead (s : State) : Out :=
  s.doesIn 1 fun d =>
    if !d.flag F.HST_MI_BMC_EN then d
    else
      let rdy := (d.ctrl 0).rdy || (d.ctrl 1).rdy
      let flags := 0x80 + 0x40 * (!rdy).toNat + 0x20 + 0x10 + 8 * (d.fld (F.HST_PSTAT_DL_UP 0)) + 4 * (d.fld (F.HST_PSTAT_DL_UP 1))
      d.sendTx (.mi ([6] ++ leBytes 1 flags ++ leBytes 1 (255 - d.log.crit % 256) ++ leBytes 1 (d.fld F.KNL_TEMP_TJ) ++ [0, 0, 0]))

/-- DIAG_CHALLENGE (R300): a fresh challenge, valid for 10 s. -/
def execDiagChallenge (t : Tag) (s : State) : Out :=
  s.doesIn 1 fun d => d.host t false fun d =>
    let (b, d) := d.drawBytes 32
    (d.modHst fun h => { h with challenge := some { value := b, issued := d.now } }).reply t b

/-- DIAG_UNLOCK (R300): with DIAG_ALLOW and the HMAC of a valid challenge under the diagnostic key, BAR2 and the host channels open; after four
failures every attempt is refused until device reset. -/
def execDiagUnlock (t : Tag) (answer : Bytes) (s : State) : Out :=
  s.doesIn 1 fun d => d.host t false fun d =>
    let ok := match d.hst.challenge, d.load.diagKey with
      | some ch, some k => d.flag F.HST_CTRL_DIAG_ALLOW && decide (d.now < ch.issued + 10000000000) &&
          answer.take 32 == hmac k ch.value && decide (d.hst.diagFails < 4)
      | _, _ => false
    if ok then
      let d := (d.modHst fun h => { h with unlockedBy := some t.ctrl }).setFld F.DMA_DIAG_UNLOCKED 1
      (d.event .hst 0x06 (t.ctrl.val + 1) 0 0 t.ctrl.val).finish t stOk
    else
      let d := d.modHst fun h => { h with diagFails := h.diagFails + 1 }
      (d.event .hst 0x07 (t.ctrl.val + 1) d.hst.diagFails 0 t.ctrl.val).finish t stDenied

/-- DIAG_LOCK (R300, R290). -/
def execDiagLock (t : Tag) (s : State) : Out := s.doesIn 1 fun d => d.host t false fun d => d.closeDiag.finish t stOk

end Sys2Proof.Machine
end

