-- ==== Sys2Proof/Machine/ResetOps.lean ====
section
/-! DEFINITION. Machine/ResetOps.lean: what a device reset, a kennel restart and a rejected image leave (R469, R492, R544, R552). -/
namespace Sys2Proof.Machine

/-- A PROGRAM that a bank runs when the die loses its controller leaves a torn word. -/
def Dev.tornWords (d : Dev) : Tab FWord :=
  [0, 1].foldl (fun (w : Tab FWord) k => match (d.bank k).run with
    | some o => if o.erase then w else w.set (fun _ => .erased) o.at_ .torn
    | none => w) d.flc.words

/-- Reset every block but those of `keep`. Kept beside them: TBASE, what is in flash (with what the namespaces and the wrapped keys stand for there), the
logbook's SRAM with its epoch and count (R522), the supply side of the kennel, the levels of PERSTp_N, and across a
kennel restart the completion entries not yet posted. `staged` tells whether staged values of kept blocks stay. (DESIGN CHOICE, log entry 39; DESIGN CHOICE, log entry 55; DESIGN CHOICE, log entry 56) -/
def Dev.wipe (d : Dev) (keep : Blk → Bool) (staged : Bool) : Dev :=
  let has (k : Nat) : Bool := allBlks.any fun b => keep b && blkKey b == k
  let at_ (a : Nat) : Bool := match locate a with | some (b, _) => keep b | none => false
  let l := d.log
  let p := d.pwr
  let log : LogS := { recs := l.recs, count := l.count, kepoch := l.kepoch, flushed := l.flushed, batch := l.batch, wp0 := l.wp0, wp1 := l.wp1, inq := l.inq
                      crit := if p.hotSince.isSome then 2 else 0 }
  let pwr : PwrS := { vaux := p.vaux, kennel := p.kennel, coreEn := p.coreEn, enAt := p.enAt, vid := p.vid, vidAt := p.vidAt, pgAt := p.pgAt, late := p.late, hotSince := p.hotSince
                      msAt := d.now }
  { v := d.v, tbase := d.tbase, free := d.free
    regs := d.regs.filter fun x => at_ x.1
    staged := if staged then d.staged.filter fun x => at_ x.1 else []
    pools := d.pools.filter fun x => has (x.1 / 32)
    lost := d.lost.filter fun x => has x.1
    cnt := d.cnt.filter fun x => has (x.1 / 64)
    shadows := d.shadows.filter fun x => has (x.1 / 2)
    mem := d.mem.filter fun x => has (x.1 / 32)
    log := if keep .log then l else log
    flc := if keep .flc then d.flc else { words := d.tornWords }
    zne := { nss := d.zne.nss.map fun n => { n with leaving := none }, half := d.zne.half, jword := d.zne.jword, jseq := d.zne.jseq }
    sec := { wrapped := d.sec.wrapped, ringKeyId := d.sec.ringKeyId }
    hst := { c0 := { perst := d.hst.c0.perst }, c1 := { perst := d.hst.c1.perst }, post := if keep .pwr then d.hst.post else [] }
    pwr := if keep .pwr then p else pwr }

/-- A device reset: KNL's registers alone stand, but for its staged set and TJ_PEAK (R552); the logbook stays as it is (R522). `nssr` tells a reset by an
NVM Subsystem Reset (R317). (DESIGN CHOICE, log entry 56) -/
def Dev.afterReset (d : Dev) (nssr : Bool) : Dev :=
  let ready := d.flag F.LOG_STAT_READY
  let unsure := d.flag F.LOG_STAT_EPOCH_UNSURE
  let d := d.wipe (fun b => b == .knl) false
  let d := (d.setFld F.KNL_TEMP_TJ_PEAK (d.fld F.KNL_TEMP_TJ)).setFld (fCSTAGED .knl) 0
  let d := ((d.setFlag F.LOG_STAT_READY ready).setFlag F.LOG_STAT_EPOCH_UNSURE unsure).setPool .knl 0 { held := d.fld (fCREDITS .knl 0) }
  let mark (x : CtrlS) : CtrlS := { x with nssro := nssr }
  { d with hst := { d.hst with c0 := mark d.hst.c0, c1 := mark d.hst.c1 } }

/-- A kennel restart (R491, R492): the kennel's blocks stand; what the retention store keeps is put back. (DESIGN CHOICE, log entry 56) -/
def Dev.afterRestart (d : Dev) : Dev :=
  let d := d.wipe (fun b => b == .knl || b == .log || b == .pwr) true
  match d.pwr.ret with
  | none => d
  | some r =>
    let d : Dev := r.words.foldl (fun (d : Dev) (p : Nat × Word) => d.setWord p.1 p.2) d
    { d with hst := { d.hst with c0 := r.c0, c1 := r.c1 } }

end Sys2Proof.Machine
end

