-- ==== Sys2Proof/Machine/Image.lean ====
section
/-! DEFINITION. Machine/Image.lean: the load of the configuration image (R465 to R470). -/
namespace Sys2Proof.Machine

/-- The requester code of the loader (R435). -/
def loaderCode : Nat := 8

/-- Write 32-bit little-endian words to register words from an address on, as the loader does with tables; RES bits stay 0 (R13). -/
def Dev.fillWords (d : Dev) (a : Nat) (b : Bytes) : Dev :=
  (List.range (b.length / 4)).foldl (fun (d : Dev) i =>
    d.setWord (a + 4 * i) (BitVec.ofNat 32 (leAt b (4 * i) 4 &&& (0xFFFFFFFF ^^^ (accOf d.v (a + 4 * i)).res)))) d

/-- A table of the image for a unit that the EO7230 lacks (R3): no effect, and one RES-write event if it is not zero, with the address and the value of its first
word. (DESIGN CHOICE, log entry 50) -/
def Dev.skipTable (d : Dev) (b : Blk) (a : Nat) (t : Bytes) : Dev := if t.all (· == 0) then d else d.resWrite b a (leAt t 0 4) loaderCode

/-- Write the pairs of a SETTINGS group under R13, until one ends in an address error. (DESIGN CHOICE, log entry 50) -/
def Dev.writePairs : Dev → List (Nat × Nat) → Dev × Bool
  | d, [] => (d, false)
  | d, p :: r =>
    let (e, bad) := d.controlWrite p.1 p.2 loaderCode
    if bad then (e, true) else e.writePairs r

/-- The commit of a group (Table 16.3): whether it failed. A class that names no block with a staged set cannot be committed. (DESIGN CHOICE, log entry 50) -/
def Dev.commitGroup (d : Dev) (g : Group) : Dev × Bool :=
  if g.kind = 0 then
    match (if g.target = 3 then (allBlks.find? fun b => decide (blkCls b = 3 ∧ chOf b = g.ch)) else singleBlks.find? fun b => decide (blkCls b = g.target ∧ b ≠ .ece)) with
    | some b => if blkAbsent d.v b then (d, false) else ((d.commitBlock b loaderCode), (d.commitBlock b loaderCode).flag (fCFAILED b))
    | none => (d, true)
  else if g.kind = 1 ∧ g.target < 8 then (d.commitDomain g.target loaderCode, (d.commitDomain g.target loaderCode).flag F.FAB_CDSTAT_FAILED)
  else (d, true)

/-- Run the SETTINGS groups (step 2 of R468): 0, or the rejection reason. -/
def Dev.runGroups : Dev → List Group → Dev × Nat
  | d, [] => (d, 0)
  | d, g :: r =>
    let (d, bad) := d.writePairs g.pairs
    if bad then (d, 6)
    else
      let (d, bad) := d.commitGroup g
      if bad then (d, 0xC) else d.runGroups r

/-- Step 1 of R468: tables and profiles go to their users. On the EO7230 the format tables of actuator 1 are ignored, with one RES-write event of FAB (R64, R514), whose
address and value are open. (DESIGN CHOICE, log entry 50) -/
def Dev.handTables (d : Dev) (ss : List Section) : Dev :=
  let gmr := match findSec ss 11 with | some s => (List.range (s.len / 4)).map fun i => (leAt s.data (4 * i) 2, leAt s.data (4 * i + 2) 2) | none => []
  let d := if d.v && (findSec ss 3 (some 1)).isSome then
      let (x, d) := d.drawNat
      let (y, d) := d.drawNat
      d.event .fab 0xF2 x y loaderCode
    else d
  { d with load := { d.load with
      fmt0 := (findSec ss 3 (some 0)).map fun s => formatOf s.data
      fmt1 := if d.v then none else (findSec ss 3 (some 1)).map fun s => formatOf s.data
      preamps := (ss.filter fun s => s.ty == 6).map fun s => preampOf s.data
      pstages := (ss.filter fun s => s.ty == 7).map fun s => pstageOf s.data
      rpmMax := rpmMaxOf ss, gmr := gmr } }

/-- Step 3 of R468: SEEDS to both seed tables, WREC to WRP, POWER to PWR with its commit, DIAG to SEC; whether the commit failed (R505). -/
def Dev.loadTables (d : Dev) (ss : List Section) : Dev × Bool :=
  let seeds (d : Dev) (s : Section) : Dev :=
    if d.v && decide (10 ≤ s.arg) then d.skipTable (.ch ⟨s.arg % 20, Nat.mod_lt _ (by decide)⟩) (0x01001000 + 0x10000 * s.arg) s.data
    else (d.fillWords (0x01001000 + 0x10000 * s.arg) s.data).fillWords (0x01003000 + 0x10000 * s.arg) s.data
  let wrec (d : Dev) (s : Section) : Dev := if d.v && decide (10 ≤ s.arg) then d.skipTable .wrp (0x02101000 + 2048 * s.arg) s.data
    else d.fillWords (0x02101000 + 2048 * s.arg) s.data
  let d : Dev := (ss.filter fun s => s.ty == 4).foldl seeds d
  let d : Dev := (ss.filter fun s => s.ty == 5).foldl wrec d
  let ofs : List Nat := [0, 0x28] ++ (List.range 5).map (0x40 + 4 * ·) ++ (List.range 5).map (0x100 + 4 * ·) ++ (List.range 5).map (0x120 + 4 * ·) ++
    (List.range 4).map (0x140 + 4 * ·)
  let power (d : Dev) (b : Bytes) : Dev :=
    (List.range 21).foldl (fun (d : Dev) i => (d.regWrite (0x0B000000 + ofs.getD i 0) (leAt b (4 * i) 4) loaderCode).1) d
  let d := match findSec ss 8 with | some s => (power d s.data).commitBlock .pwr loaderCode | none => d
  let d : Dev := match findSec ss 12 with | some s => { d with load := { d.load with diagKey := some (slice s.data 0 32) } } | none => d
  (d, d.flag (fCFAILED .pwr))

/-- Step 4 of R468: the execute-only regions, and XO_LOCK. -/
def Dev.loadXo (d : Dev) (ss : List Section) : Dev :=
  let d := match findSec ss 9 with
    | some s => (List.range s.arg).foldl (fun (d : Dev) i =>
        ((d.setFld (F.FLC_XO_EN i) 1).setFld (F.FLC_XO_FIRST i) (xoEntry s.data i).1).setFld (F.FLC_XO_COUNT i) (xoEntry s.data i).2) d
    | none => d
  d.setFld F.FLC_STAT_XO_LOCK 1

/-- A patch section (R430): its words, its match registers, event 0x1104. -/
def Dev.loadPatch (d : Dev) (s : Section) : Dev :=
  let b := s.data
  let t := leAt b 0 1
  let nm := leAt b 2 2
  let nw := leAt b 4 2
  let d : Dev := (List.range nw).foldl (fun (d : Dev) w =>
    d.modSeq fun q => { q with patch := q.patch.set (fun _ => 0) (2048 * t + w) (BitVec.ofNat 128 (leAt b (32 + 4 * nm + 16 * w) 16)) }) d
  let d : Dev := (List.range nm).foldl (fun (d : Dev) i =>
    ((d.setFld (F.SEQ_MATCH_EN t i) 1).setFld (F.SEQ_MATCH_ROM t i) (leAt b (32 + 4 * i) 2)).setFld (F.SEQ_MATCH_PATCH t i) (leAt b (34 + 4 * i) 2)) d
  let d := ((d.setFld (F.SEQ_PATCH_LOADED t) 1).setFld (F.SEQ_PATCH_MATCHES t) nm).setFld (F.SEQ_PATCH_WORDS t) nw
  d.event .seq 0x04 (leAt b 8 4) nw nm t

/-- The sequencers begin (R431): those of a list that are present. -/
def Dev.startSeqs (d : Dev) (ss : List Nat) : Dev :=
  let d := (d.setFld F.SEQ_STAT_LOCKED 1).setFld F.SEQ_STAT_RUN 1
  (ss.filter fun s => (d.fld F.SEQ_STAT_PRESENT).testBit s).foldl (fun (d : Dev) s => d.setFld (F.SEQ_SSTAT_RUN s) 1) d

/-- Apply a proven copy (R468): 0, or the rejection reason. -/
def Dev.applyImage (d : Dev) (ss : List Section) : Dev × Nat :=
  let (d, why) := (d.handTables ss).runGroups (allGroups ss)
  if why ≠ 0 then (d, why)
  else
    let (d, bad) := d.loadTables ss
    if bad then (d, 0xC)
    else ((((ss.filter fun s => s.ty == 2).foldl (fun (d : Dev) s => d.loadPatch s) (d.loadXo ss)).startSeqs (List.range 8)), 0)

/-- The reason of a rejected proof with what else it logs: 0x1105, 0x1209 (R430, R455, R467). -/
def Dev.proofReason (d : Dev) : Proof → Dev × Nat
  | .good _ _ => (d, 0)
  | .bad r => (d, r)
  | .badFormat _ => (d, 9)
  | .badPatch t rom check i => (d.event .seq 0x05 rom check i t, 0xA)
  | .badXo i f c => (d.event .flc 0x09 i f c 0xFF, 0xB)

/-- A copy is rejected (R467): event 0x0102; its first parameter is the failing check of Table 3.9 where that was the reason (R84); the others are not
stated. (DESIGN CHOICE, log entry 14) -/
def Dev.rejectCopy (d : Dev) (p : Proof) : Dev :=
  let (x, d) := d.drawNat
  let (y, d) := d.drawNat
  let (z, d) := d.drawNat
  d.event .fab 0x02 (match p with | .badFormat c => c | _ => x) y z

/-- Try one copy (R466 to R469): the reason code, 0 when it is loaded. A copy that fails while it is applied leaves nothing: every block except KNL, LOG and
FLC is reset. (DESIGN CHOICE, log entry 50) -/
def Dev.tryCopy (d : Dev) (k : Nat) : Dev × Nat :=
  match d.imgHeader k with
  | none => (d, 1)
  | some h =>
    let p := d.proveCopy k h
    let (d, why) := d.proofReason p
    match p with
    | .good h ss =>
      let (e, bad) := d.applyImage ss
      if bad = 0 then
        let e := ((e.setFld F.FAB_LOAD_COPY (k + 1)).setFld F.FAB_LOADGEN_GEN h.gen)
        ({ e with load := { e.load with loaded := true } }, 0)
      else
        let keep (b : Blk) : Bool := b == .knl || b == .log || b == .flc
        ((e.wipe keep true).rejectCopy p, bad)
    | p => (d.rejectCopy p, why)

/-- Try the candidates in turn: the reasons of the copies tried, and whether one is loaded. -/
def Dev.tryCopies : Dev → List Nat → Dev × List (Nat × Nat) × Bool
  | d, [] => (d, [], false)
  | d, k :: r =>
    let (d, why) := d.tryCopy k
    if why = 0 then (d, [(k, 0)], true)
    else
      let (d, l, ok) := d.tryCopies r
      (d, (k, why) :: l, ok)

/-- NO_IMAGE_START (R470). (DESIGN CHOICE, log entry 14) -/
def Dev.minimalStart (d : Dev) : Dev :=
  let (x, d) := d.drawNat
  let (y, d) := d.drawNat
  let (z, d) := d.drawNat
  let d := ((d.setFld F.FAB_LOAD_COPY 0).event .fab 0x03 x y z).startSeqs [0, 1, 2, 3]
  { d with load := { d.load with minimal := true } }

/-- SEC takes the wrapped ring key out of flash; RNG.STAT.KEY_OK tells whether there is one (R378). -/
def Dev.loadRingKey (d : Dev) : Dev :=
  let k := (d.sec.wrapped.get (fun _ => none) 64).bind Config.unwrap
  ({ d with sec := { d.sec with ringKey := k } }).setFlag F.RNG_STAT_KEY_OK k.isSome

/-- SEC unwraps the namespaces' keys; a key that fails its integrity check makes its namespace unusable (R354). (DESIGN CHOICE, log entry 40) -/
def Dev.loadKeys (d : Dev) : Dev :=
  (d.zne.nss.filter fun n => n.reg.enc).foldl (fun (d : Dev) n =>
    let x := n.nsid - 1
    let k := (d.sec.wrapped.get (fun _ => none) x).bind Config.unwrap
    let st : KeyState := if k.isSome then .ready else .unusable
    let set (y : Ns) : Ns := if y.nsid = n.nsid then { y with key := st } else y
    let d : Dev := { d with sec := { d.sec with keys := d.sec.keys.set (fun _ => none) x k }, zne := { d.zne with nss := d.zne.nss.map set } }
    if k.isSome then d else d.event .sec 0x03 x 0 0 n.nsid) d

/-- A node that a whistle has woken whistles on its other port, if RNG.CTRL.RELAY says so and that port is down (R407). -/
def Dev.relayWhistle (d : Dev) (woken : Nat) : Dev :=
  if !d.flag F.RNG_CTRL_RELAY then d
  else if woken = 5 then (if d.live 7 then d.sendWhistle 1 true else d)
  else if woken = 6 then (if d.live 6 then d.sendWhistle 0 true else d)
  else d

/-- IMAGE_LOAD (R465 to R470): once FLC is ready after a device reset or a kennel restart, the loader chooses, proves and applies a copy. A kennel restart
proves only the copy that FAB.LOAD.COPY, restored, names (R491), if the retention store holds anything. (DESIGN CHOICE, log entry 50) -/
def execImageLoad (s : State) : Out :=
  s.doesIn 1 fun d =>
    if d.load.loaded || d.load.minimal || !d.flag F.FLC_STAT_READY then d
    else
      let again := d.pwr.restart && d.pwr.ret.isSome
      let woken := if d.pwr.restart then d.fld F.PWR_WAKE_LAST else 0xFF
      let cands := if again then (match d.loadedCopy with | some k => [k] | none => []) else d.candidates
      let old := d
      let (d, why, ok) := d.tryCopies cands
      let reason (k : Nat) : Nat := match why.find? fun p => decide (p.1 = k) with
        | some p => p.2
        | none => if again ∨ (old.candidate k).isSome then 0 else 1
      let d := (d.setFld F.FAB_LOAD_REASON_A (reason 0)).setFld F.FAB_LOAD_REASON_B (reason 1)
      let d := if ok then
          let (x, d) := d.drawNat
          let (y, d) := d.drawNat
          let (z, d) := d.drawNat
          (d.event .fab 0x01 x y z).loadRingKey.loadKeys.relayWhistle woken
        else d.minimalStart
      d.modPwr fun p => { p with restart := false, ret := none }

end Sys2Proof.Machine
end

