-- ==== Sys2Proof/Machine/LogOps.lean ====
section
/-! DEFINITION. Machine/LogOps.lean: records, buckets, flush batches (chapter Event Logbook and Error Reporting). -/
namespace Sys2Proof.Machine

/-- The bucket of an event code (R515). -/
def bucketOf (code : Nat) : Nat := bitsAt code 8 5 * 128 + code % 128

/-- A code that is admitted without a token, whatever its bucket (R515). -/
def freeCode (code : Nat) : Bool := [0xF8, 0xF9, 0xFA].contains (code % 256) || code == 0x1301

/-- What a bucket keeps beside its registers. -/
def Dev.bucket (d : Dev) (b : Nat) : BucketS := d.log.buckets.get (fun _ => {}) b
def Dev.setBucket (d : Dev) (b : Nat) (x : BucketS) : Dev := { d with log := { d.log with buckets := d.log.buckets.set (fun _ => {}) b x } }

/-- Request a flush (R518); a power-fail request replaces another. -/
def Dev.requestFlush (d : Dev) (cause : Nat) : Dev :=
  match d.log.flushReq with
  | none => { d with log := { d.log with flushReq := some cause, reqStamp := d.now }, bg := d.bg ++ [{ kind := .flush, raised := d.now }] }
  | some c => { d with log := { d.log with flushReq := some (max c cause) } }

/-- Put a record into its slot under the next SEQ (R511). -/
def Dev.storeRecord (d : Dev) (e : Event) : Dev :=
  { d with log := { d.log with
    recs := d.log.recs.set (fun _ => none) (d.log.count % 32768) (some { seq := d.log.head, ev := e })
    count := d.log.count + 1 } }

/-- The flush requests that an admitted event makes (R518): its bucket's FLUSH bit, 0xF8 and 0xF9, and FLUSH_THR. -/
def Dev.flushOn (d : Dev) (code : Nat) : Dev :=
  if d.flag (F.LOG_BUCKET_FLUSH (bucketOf code)) || code % 256 == 0xF8 || code % 256 == 0xF9 then d.requestFlush 1
  else if d.fld F.LOG_FLUSH_FLUSH_THR ≤ d.log.count - d.log.flushed then d.requestFlush 0 else d

/-- The asynchronous event of an admitted event whose bucket has AEN (R525). -/
def Dev.aenOn (d : Dev) (code : Nat) : Dev := if d.flag (F.LOG_BUCKET_AEN (bucketOf code)) then d.raiseAenAll ⟨7, 0xE0, 0⟩ else d

/-! ## Flush batches -/

/-- First code word of flush slot 0 or 1 (R519); a slot is a ring of 16 sectors, 32,768 words. -/
def slotBase (slot : Nat) : Nat := (if slot = 0 then 164 else 676) * 2048

/-- Code word at a ring offset of a flush slot. -/
def ringWord (slot ofs : Nat) : Nat := slotBase slot + ofs % 32768

/-- The write point of a flush slot. -/
def Dev.flushWp (d : Dev) (slot : Nat) : Nat := if slot = 0 then d.log.wp0 else d.log.wp1
def Dev.setFlushWp (d : Dev) (slot w : Nat) : Dev :=
  if slot = 0 then { d with log := { d.log with wp0 := w % 32768 } } else { d with log := { d.log with wp1 := w % 32768 } }

/-- Program words at the write point of a flush slot, one after the other; stops at the first that is refused or fails. -/
def Dev.flushWords (d : Dev) (slot : Nat) : List Bytes → Dev × Nat
  | [] => (d, fsOK)
  | w :: ws =>
    match d.programWord (ringWord slot (d.flushWp slot)) w 7 with
    | (d, st) =>
      let d := d.setFlushWp slot (d.flushWp slot + 1)
      if st = fsOK then d.flushWords slot ws else (d, st)

/-- The epoch words of both flush slots, each with its sector (R522). -/
def Dev.epochWords (d : Dev) : List (Nat × Bytes) :=
  d.flc.words.filterMap fun p => match p.2 with
    | .prog b => if (slotBase 0 ≤ p.1 ∧ p.1 < slotBase 0 + 32768 ∨ slotBase 1 ≤ p.1 ∧ p.1 < slotBase 1 + 32768) ∧ leAt b 16 2 = 0xFFE7 then some (p.1 / 2048, b) else none
    | _ => none

/-- Before sector x is erased: where it alone holds the newest epoch word, that word is programmed again at the write point, and the sector may be erased only if
that succeeds (R522). (DESIGN CHOICE, log entry 41) -/
def Dev.keepEpoch (d : Dev) (slot x : Nat) : Dev × Bool :=
  let top := d.epochWords.foldl (fun m e => max m (leAt e.2 0 8)) 0
  let newest := d.epochWords.filter fun e => leAt e.2 0 8 == top
  match newest with
  | (_, b) :: _ =>
    if newest.all fun e => e.1 == x then
      let (d, st) := d.flushWords slot [b]
      (d, st == fsOK)
    else (d, true)
  | [] => (d, true)

/-- Keep RES_SECT erased sectors ahead of the write point by erasing the oldest, of which none holds the only newest epoch word (R519, R522). -/
def Dev.keepAhead (d : Dev) (slot : Nat) : Dev :=
  let cur := d.flushWp slot / 2048
  (List.range (d.fld F.LOG_FLUSH_RES_SECT)).foldl (fun d i =>
    let x := slotBase slot / 2048 + (cur + 1 + i) % 16
    if d.flc.words.any fun p => decide (p.1 / 2048 = x) then
      let (d, ok) := d.keepEpoch slot x
      if ok then (d.eraseSector x).bump .log 8 else d
    else d) d

/-- Batch marker words (Table 18.4). -/
def beginWord (seq stamp cause batch oldest : Nat) : Bytes :=
  leBytes 8 seq ++ leBytes 8 stamp ++ leBytes 2 0xFFB1 ++ leBytes 1 cause ++ [0] ++ leBytes 4 batch ++ leBytes 8 oldest
def endWord (seq stamp batch count : Nat) : Bytes :=
  leBytes 8 seq ++ leBytes 8 stamp ++ leBytes 2 0xFFE2 ++ [0, 0] ++ leBytes 4 batch ++ leBytes 4 count ++ leBytes 4 0
/-- Epoch word (R522). -/
def epochWord (kepoch stamp : Nat) : Bytes :=
  leBytes 8 (kepoch * 2 ^ 40) ++ leBytes 8 stamp ++ leBytes 2 0xFFE7 ++ List.replicate 14 0

/-- Records still held whose count lies in [lo, hi). -/
def Dev.recRange (d : Dev) (lo hi : Nat) : List Rec :=
  (List.range (hi - lo)).filterMap fun i => d.log.recs.get (fun _ => none) ((lo + i) % 32768)

/-- The open batch ends without its END word: a program was refused or failed, or LOG.INJECT left the word out. With the die failed LOG stops flushing (R519). -/
def Dev.batchOver (d : Dev) (slot st : Nat) : Dev :=
  let d := (({ d with log := { d.log with opened := none } }).setFld F.LOG_STAT_FLUSHING 0).setFld F.LOG_STAT_PF_BATCH 0
  if st = fsDieFailed ∧ !d.flag F.LOG_STAT_FLASH_OFF then (d.setFld F.LOG_STAT_FLASH_OFF 1).event .log 0x03 st slot else d

/-- Close the open batch with its END word: FLUSHED advances only then (R518). A normal batch is followed by the erases that keep RES_SECT sectors ahead of each
slot's write point (R519); the power-fail batch by event 0x1304 if it skipped records (R520). (DESIGN CHOICE, log entry 41) -/
def Dev.closeBatch (d : Dev) : Dev :=
  match d.log.opened with
  | none => d
  | some x =>
    let last := d.log.kepoch * 2 ^ 40 + x.first + x.recs - 1
    let (d, st) := if x.torn then (d, fsOK) else d.flushWords x.slot [endWord last d.now x.batch x.recs]
    let d := d.batchOver x.slot st
    let d := if x.cause = 2 then d else (d.keepAhead 0).keepAhead 1
    if st ≠ fsOK ∨ x.torn then d
    else
      let d := ((({ d with log := { d.log with flushed := x.first + x.recs } }).bump .log 4).bump .log 5 x.recs)
      if x.cause ≠ 2 then d
      else
        let d := (d.bump .log 6).bump .log 7 (x.first - x.oldest)
        if x.oldest < x.first then d.event .log 0x04 (x.first - x.oldest) ((d.log.kepoch * 2 ^ 40 + x.oldest) % 2 ^ 32) else d

/-- Append records to the open batch; a power-fail batch that reaches PF_MAX ends (R520). -/
def Dev.appendBatch (d : Dev) (rs : List Rec) : Dev :=
  match d.log.opened with
  | none => d
  | some x =>
    let (d, st) := d.flushWords x.slot (rs.map recBytes)
    if st ≠ fsOK then d.batchOver x.slot st
    else
      let n := x.recs + rs.length
      let d : Dev := { d with log := { d.log with opened := some { x with recs := n } } }
      if x.cause = 2 ∧ d.fld F.LOG_FLUSH_PF_MAX ≤ n then d.closeBatch else d

/-- The flush slot of a batch (R519): the power-fail batch goes to the bank without the active journal half; a normal batch goes to slot 0
unless an execution is open from bank 0. -/
def Dev.flushSlot (d : Dev) (pf : Bool) : Nat :=
  if pf then 1 - d.zne.half else if d.flag F.FLC_STAT_EXEC && d.fld F.FLC_STAT_EXEC_BANK = 0 then 1 else 0

/-- Open a batch (R518, R520): BEGIN, then every record from the oldest unflushed one; the power-fail batch takes the newest, at most PF_MAX of them. -/
def Dev.openBatch (d : Dev) (cause : Nat) : Dev :=
  let pf := cause == 2
  let slot := d.flushSlot pf
  let hi := d.log.count
  let old := max d.log.flushed (hi - 32768)
  let lo := if pf then max old (hi - d.fld F.LOG_FLUSH_PF_MAX) else old
  let torn := d.flag F.LOG_INJECT_ARM && d.fld F.LOG_INJECT_KIND = 1
  let d := if torn then d.setFlag F.LOG_INJECT_ARM false else d
  let x : OpenBatch := { cause := cause, slot := slot, batch := d.log.batch, first := lo, oldest := old, torn := torn }
  let d : Dev := { d with log := { d.log with batch := d.log.batch + 1, flushReq := none, opened := some x } }
  let d := (d.setFld F.LOG_STAT_FLUSHING 1).setFlag F.LOG_STAT_PF_BATCH pf
  let (d, st) := d.flushWords slot [beginWord (d.log.kepoch * 2 ^ 40 + lo) d.now cause x.batch (d.log.kepoch * 2 ^ 40 + old)]
  if st ≠ fsOK then d.batchOver slot st else d.appendBatch (d.recRange lo hi)

/-- Carry out a flush (R518): a normal batch is opened and closed at once; the power-fail batch stays open, and records accepted meanwhile are appended (R520). -/
def Dev.flushBatch (d : Dev) (cause : Nat) : Dev := if cause = 2 then d.openBatch 2 else (d.openBatch cause).closeBatch

/-! ## Admission -/

/-- An armed LOG.INJECT of KIND 0 flips a bit of the record just written to a slot, which its SRAM code mends (R246, Table 18.6). -/
def Dev.strikeRecord (d : Dev) (slot : Nat) : Dev :=
  if d.flag F.LOG_INJECT_ARM && d.fld F.LOG_INJECT_KIND = 0 then
    let bit := d.fld F.LOG_INJECT_BIT
    (d.setFlag F.LOG_INJECT_ARM false).sram .log 0 (.mended (slot / 2) (bit / 8) (bit % 8)) true
  else d

/-- Write a record (R511), with the flush requests of R518 and the asynchronous event of R525; an open batch takes it too (R520). `r` is what the write finds in the record's
block, half of which it covers: in a block that cannot be mended nothing is written (R247). (DESIGN CHOICE, log entry 68) -/
def Dev.writeRecord (d : Dev) (e : Event) (r : SramRead := .ok) : Dev :=
  let x : Rec := { seq := d.log.head, ev := e }
  let d := match r with
    | .uncorrectable _ _ => d.sram .log 0 r
    | _ => ((((d.storeRecord e).bump .log 0).appendBatch [x]).strikeRecord (d.log.count % 32768)).sram .log 0 r
  (d.flushOn e.code).aenOn e.code

/-- Take a token of a bucket: its refill clock starts when TOKENS falls below DEPTH (R515). -/
def Dev.takeToken (d : Dev) (b : Nat) : Dev :=
  let t := d.fld (F.LOG_BSTAT_TOKENS b)
  let d := if t = d.fld (F.LOG_BUCKET_DEPTH b) then d.setBucket b { d.bucket b with clock := d.now } else d
  d.setFld (F.LOG_BSTAT_TOKENS b) (t - 1)

/-- Suppress an event (R515). -/
def Dev.suppress (d : Dev) (b : Nat) (e : Event) : Dev :=
  let s := d.fld (F.LOG_BSTAT_SUPPRESSED b)
  let x := d.bucket b
  ((d.incSat (F.LOG_BSTAT_SUPPRESSED b) 1).setBucket b { x with last := e.code, first := if s = 0 then e.stamp else x.first }).bump .log 1

/-- Admit or suppress an event (R515). -/
def Dev.poolEvent (d : Dev) (e : Event) (r : SramRead) : Dev :=
  let b := bucketOf e.code
  let d := if e.code % 256 = 0xFA then d.bump .log 3 else d
  if d.fld (F.LOG_BUCKET_DEPTH b) = 0 ∨ freeCode e.code then d.writeRecord e r
  else if 1 ≤ d.fld (F.LOG_BSTAT_TOKENS b) then (d.takeToken b).writeRecord e r
  else d.suppress b e

/-- The words of a flush slot, each with its ring offset. -/
def Dev.slotWords (d : Dev) (slot : Nat) : List (Nat × Bytes) :=
  d.flc.words.filterMap fun p => match p.2 with
    | .prog b => if slotBase slot ≤ p.1 ∧ p.1 < slotBase slot + 32768 then some (p.1 - slotBase slot, b) else none
    | _ => none

/-- The write point of a slot that is found in flash: the erased word behind a word that is not, the slot's first word where all are erased; none where no word is
erased (R519, R522). -/
def Dev.scanPoint (d : Dev) (slot : Nat) : Option Nat :=
  let used := d.flc.words.filterMap fun p => if slotBase slot ≤ p.1 ∧ p.1 < slotBase slot + 32768 then some (p.1 - slotBase slot) else none
  if used = [] then some 0 else (used.map fun p => (p + 1) % 32768).find? fun p => !used.contains p

/-- The batches of a slot that have begun: BATCH number, ring offset of BEGIN, and COUNT of the END word of the same BATCH if one is there. -/
def batchesOf (ws : List (Nat × Bytes)) : List (Nat × Nat × Option Nat) :=
  (ws.filter fun p => leAt p.2 16 2 == 0xFFB1).map fun p =>
    let n := leAt p.2 20 4
    (n, p.1, (ws.find? fun q => leAt q.2 16 2 == 0xFFE2 && leAt q.2 20 4 == n).map fun q => leAt q.2 24 4)

/-- The record words of the valid batches of a slot (R518). -/
def Dev.flashRecords (d : Dev) (slot : Nat) : List Bytes :=
  let ws := d.slotWords slot
  (batchesOf ws).flatMap fun b => match b.2.2 with
    | some c => (List.range c).filterMap fun i => d.fdata (ringWord slot (b.2.1 + 1 + i))
    | none => []

/-- Insert a record word in ascending SEQ, dropping a second one of the same SEQ (R523). -/
def insertRec (r : Bytes) : List Bytes → List Bytes
  | [] => [r]
  | x :: xs => if leAt r 0 8 < leAt x 0 8 then r :: x :: xs else if leAt r 0 8 = leAt x 0 8 then x :: xs else x :: insertRec r xs

end Sys2Proof.Machine
end

