-- ==== Sys2Proof/Machine/Logbook.lean ====
section
/-! DEFINITION. Machine/Logbook.lean: the commands of the event logbook (chapter Event Logbook and Error Reporting). -/
namespace Sys2Proof.Machine

/-- LOG_EVENT_ACCEPT (R511): LOG takes the first event of its pool, assigns SEQ and writes the record, or suppresses it (R515). A token whose parity is wrong
(`bad`) is a detected fault (R37, R54); a fenced pool accepts nothing (R52). (DEDUCED, log entry 11) -/
def execLogEventAccept (bad : Bool) (sram : SramBits) (s : State) : Out :=
  s.does fun d =>
    match d.log.inq with
    | [] => d
    | e :: rest =>
      if !d.flag F.LOG_STAT_READY || !d.poolOpen .log 0 then d
      else
        let d : Dev := { d with log := { d.log with inq := rest } }
        (if bad then d.fault .log 1 0 0 else d).poolEvent e (sramRead sram)

/-- BUCKET_REFILL (R515, R516): REFILL_MS after the later of its last gain and its falling below DEPTH, the bucket gains a token; if events
were suppressed, record 0x1301 is written without a token and SUPPRESSED is cleared. -/
def execBucketRefill (b : Fin 4096) (s : State) : Out :=
  s.does fun d =>
    let x := d.bucket b
    let due := x.clock + d.fld (F.LOG_BUCKET_REFILL_MS b) * 1000000
    let t := d.fld (F.LOG_BSTAT_TOKENS b)
    if t < d.fld (F.LOG_BUCKET_DEPTH b) ∧ due ≤ d.now then
      let n := d.fld (F.LOG_BSTAT_SUPPRESSED b)
      let d := (d.setFld (F.LOG_BSTAT_TOKENS b) (t + 1)).setBucket b { x with clock := due }
      if n = 0 then d
      else
        ((d.setFld (F.LOG_BSTAT_SUPPRESSED b) 0).writeRecord
          { code := 0x1301, src := 0, p1 := b.val * 65536 + x.last, p2 := n, p3 := x.first % 2 ^ 32, stamp := d.now }).bump .log 2
    else d

/-- Whether the flush may go to the flash now (R50): promoted, or no normal operation waits for a bank; the power-fail flush waits for nothing (R503). -/
def Dev.flushGrantable (d : Dev) (cause : Nat) : Bool :=
  cause == 2 || (d.bg.any fun r => decide (r.kind = .flush) && r.promoted) ||
    (d.flc.bank0.wait.isEmpty && d.flc.bank0.reads.isEmpty && d.flc.bank1.wait.isEmpty && d.flc.bank1.reads.isEmpty)

/-- LOG_FLUSH_BATCH (R518): the HSQ carries out the flush that LOG has requested, as background work (R50); while a batch is open no second one opens. With the flash die failed, flushing has stopped
(R519). -/
def execLogFlushBatch (s : State) : Out :=
  s.does fun d =>
    match d.log.flushReq with
    | none => d
    | some cause =>
      if !d.flushGrantable cause || d.log.opened.isSome then d
      else
      let d := d.grantBg .flush
      if d.flag F.LOG_STAT_FLASH_OFF then { d with log := { d.log with flushReq := none } } else d.flushBatch cause

/-- LOG_EPOCH_SCAN (R522): after the first kennel power-up LOG scans both slots, takes KEPOCH above every value found, programs its epoch word
and from then on accepts events. -/
def execLogEpochScan (s : State) : Out :=
  s.does fun d =>
    if !d.flag F.FLC_STAT_READY || d.flag F.LOG_STAT_READY then d
    else
      let ws := d.slotWords 0 ++ d.slotWords 1
      let bs := batchesOf (d.slotWords 0) ++ batchesOf (d.slotWords 1)
      let valid := (bs.filter fun b => b.2.2.isSome).length
      let eps := (ws.filter fun p => leAt p.2 16 2 == 0xFFE7).map fun p => leAt p.2 0 8 / 2 ^ 40
      let recEps := (d.flashRecords 0 ++ d.flashRecords 1).map fun b => leAt b 0 8 / 2 ^ 40
      let k := (eps ++ recEps).foldl max 0 + 1
      let batch := bs.foldl (fun m b => max m (b.1 + 1)) 0
      let slot := if (d.scanPoint 0).isSome then 0 else 1
      let d := (d.setFlushWp 0 ((d.scanPoint 0).getD 0)).setFlushWp 1 ((d.scanPoint 1).getD 0)
      let (d, st) := d.flushWords slot [epochWord k d.now]
      let unsure := decide (st ≠ fsOK)
      let d := { d with log := { d.log with kepoch := k, count := 0, flushed := 0, batch := batch } }
      let d := (d.setFlag F.LOG_STAT_EPOCH_UNSURE unsure).setFld F.LOG_STAT_READY 1
      d.event .log 0x02 k valid (bs.length - valid + injBit unsure)

/-- LOGBOOK_READ (R523): records in ascending SEQ from the first wanted, from SRAM or from the valid flash batches; CLR_AE unmasks the
logbook's asynchronous event (R525). -/
def execLogbookRead (t : Tag) (cdw10 numr : Word) (first : BitVec 64) (len : Nat) (s : State) : Out :=
  s.does fun d => d.host t true fun d =>
    let src := cdw10.toNat % 2
    let n := numr.toNat
    if cdw10.toNat / 4 ≠ 0 ∨ n = 0 ∨ 32768 < n ∨ len < 32 * n then d.finish t stInvalidField
    else
      let held := (d.recRange (d.log.count - 32768) d.log.count).map recBytes
      let all := if src = 0 then held else (d.flashRecords 0 ++ d.flashRecords 1).foldl (fun l r => insertRec r l) []
      let out := (all.filter fun r => decide (first.toNat ≤ leAt r 0 8)).take n
      let d := if cdw10.toNat / 2 % 2 = 1 then
          d.unmaskPage 0 (fun e => e.info == 0xE0) |>.unmaskPage 1 (fun e => e.info == 0xE0) else d
      (d.sendData t out.flatten).finish t stOk out.length

/-- LOG_INJECT_ARM (Table 18.6): a write to LOG.INJECT. (DESIGN CHOICE, log entry 15) -/
def execLogInjectArm (v : Word) (who : Requester) (s : State) : Out := s.does fun d => (d.regWrite 0x0A000060 v.toNat (reqCode who)).1

end Sys2Proof.Machine
end

