-- ==== Sys2Proof/Machine/Namespace.lean ====
section
/-! DEFINITION. Machine/Namespace.lean: layout, creation, deletion and attachment of namespaces, their keys (R327 to R330, R351 to R353). -/
namespace Sys2Proof.Machine

/-- NAMESPACE_LAYOUT (R327): the region is checked and held as the controller's staged layout; Dword 0 is its zones. -/
def execNamespaceLayout (t : Tag) (w10 w11 w12 : Word) (s : State) : Out :=
  s.doesIn 1 fun d => d.host t false fun d =>
    let r := regionOf w10.toNat w11.toNat w12.toNat
    match d.layoutCheck w10.toNat r with
    | some st => d.finish t st
    | none => (d.modCtrl t.ctrl fun x => { x with layout := some r }).finish t stOk (d.zonesIn r)

/-- NAMESPACE_CREATE (R328): NSZE and NCAP are the data structure's fields. (DESIGN CHOICE, log entry 39) -/
def execNamespaceCreate (t : Tag) (nsze ncap : BitVec 64) (s : State) : Out :=
  s.doesIn 1 fun d => d.host t false fun d =>
    match (d.ctrl t.ctrl).layout with
    | none => d.finish t stInvalidField
    | some r =>
      let d := d.modCtrl t.ctrl fun x => { x with layout := none }
      let zones := d.zonesIn r
      let size (x : Nat) : Bool := x == 0 || x == zones * r.zs
      if !size nsze.toNat || !size ncap.toNat then d.finish t stInvalidField
      else match (List.range 65).find? fun i => decide (1 ≤ i) && (d.ns? i).isNone, d.freeContexts zones with
        | none, _ => d.finish t (stOf 1 0x16)
        | _, none => d.finish t (stOf 1 0x15)
        | some i, some ctx =>
          if (d.zne.nss.any fun n => regionsMeet r n.reg) then d.finish t (stOf 7 0xC5)
          else
            let n : Ns := { nsid := i, reg := r, ctx := ctx, zones := zones, key := if r.enc then .ready else .unencrypted }
            let d := d.modZne fun z => { z with nss := z.nss ++ [n] }
            let d := if r.enc then (d.drawKey (nsxOf i)).event .sec 0x01 (nsxOf i) 0 0 i else d
            let (g, d) := d.newGen
            let d := (d.emptyZones n g 1).event .zne 0x01 zones (r.a * 256 + r.w * 16 + r.g) r.s0 i
            d.finish t stOk i

/-- NAMESPACE_DELETE (R330): the namespace is detached at once; the delete completes when none of its commands is in flight. (DESIGN CHOICE, log entry 39) -/
def execNamespaceDelete (t : Tag) (nsid : Word) (s : State) : Out :=
  s.doesIn 1 fun d => d.host t false fun d =>
    match d.ns? nsid.toNat with
    | none => d.finish t stInvalidNs
    | some n =>
      if n.leaving.isSome then d.finish t stInvalidNs
      else
        let d := d.putCmd { tag := t, kind := .nsDelete, nsid := n.nsid, committed := true, started := d.now }
        let d := d.setNs { n with att0 := false, att1 := false, leaving := some t }
        let d := if n.att0 then d.nsChanged 0 n.nsid else d
        let d := if n.att1 then d.nsChanged 1 n.nsid else d
        d.drainNs

/-- The controllers that a controller list names; none if one of them does not exist. -/
def Dev.ctrlIds (d : Dev) (ids : List (BitVec 16)) : Option (List (Fin 2)) :=
  if ids.all fun i => i.toNat = 1 || (i.toNat = 2 && d.hasCtrl 1) then some (ids.map fun i => if i.toNat = 1 then 0 else 1) else none

/-- Set the attachment of a namespace to a controller. -/
def Ns.attach (n : Ns) (c : Fin 2) (b : Bool) : Ns := if c = 0 then { n with att0 := b } else { n with att1 := b }

/-- A Namespace Attachment command (R329). (PRESUMED, log entry 34) -/
def Dev.nsAttach (d : Dev) (t : Tag) (nsid : Nat) (ids : List (BitVec 16)) (on : Bool) : Dev :=
  match d.ns? nsid, d.ctrlIds ids with
  | none, _ => d.finish t stInvalidNs
  | _, none => d.finish t (stOf 1 0x1C)
  | some n, some cs =>
    if cs = [] then d.finish t (stOf 1 0x1C)
    else if (on && n.leaving.isSome) then d.finish t stInvalidNs
    else if (cs.any fun c => n.attached c == on) then d.finish t (stOf 1 (if on then 0x18 else 0x1A))
    else
      let d := d.setNs (cs.foldl (fun (n : Ns) c => n.attach c on) n)
      let d : Dev := cs.foldl (fun (d : Dev) c => d.nsChanged c nsid) d
      d.finish t stOk

/-- NAMESPACE_ATTACH (R329). -/
def execNamespaceAttach (t : Tag) (nsid : Word) (ids : List (BitVec 16)) (s : State) : Out :=
  s.doesIn 1 fun d => d.host t false fun d => d.nsAttach t nsid.toNat ids true

/-- NAMESPACE_DETACH (R329). -/
def execNamespaceDetach (t : Tag) (nsid : Word) (ids : List (BitVec 16)) (s : State) : Out :=
  s.doesIn 1 fun d => d.host t false fun d => d.nsAttach t nsid.toNat ids false

/-! ## Keys -/

/-- CRYPTO_ERASE (R353): a namespace that exists and is encrypted gets a new key once none of its commands is in flight. (DESIGN CHOICE, log entry 40) -/
def execCryptoErase (t : Tag) (nsid : Word) (s : State) : Out :=
  s.doesIn 1 fun d => d.host t false fun d =>
    match d.ns? nsid.toNat with
    | none => d.finish t stInvalidField
    | some n =>
      if n.leaving.isSome ∨ n.key = .unencrypted then d.finish t stInvalidField
      else
        let d := d.putCmd { tag := t, kind := .cryptoErase, nsid := n.nsid, committed := true, started := d.now }
        (d.setNs { n with leaving := some t }).drainNs

/-- Key state code (Table 12.11). -/
def keyCode : KeyState → Nat
  | .unencrypted => 1 | .ready => 2 | .unusable => 3

/-- KEY_STATE_RECEIVE (R352): 64 entries of 8 bytes. -/
def execKeyStateReceive (t : Tag) (len : Word) (s : State) : Out :=
  s.doesIn 1 fun d => d.host t false fun d =>
    let entry (i : Nat) : Bytes := match d.ns? (i + 1) with
      | some n => leBytes 4 (i + 1) ++ leBytes 1 (keyCode n.key) ++ [0, 0, 0]
      | none => List.replicate 8 0
    d.reply t (((List.range 64).flatMap entry).take len.toNat)

/-- SECURITY_PROTOCOL_LIST (R352): protocols 0x00 and 0xEA. (PRESUMED, log entry 34) -/
def execSecurityProtocolList (t : Tag) (len : Word) (s : State) : Out :=
  s.doesIn 1 fun d => d.host t false fun d => d.reply t (([0, 0, 0, 0, 0, 0, 0, 2, 0x00, 0xEA] : Bytes).take len.toNat)

end Sys2Proof.Machine
end

