-- ==== Sys2Proof/Machine/PowerMove.lean ====
section
/-! DEFINITION. Machine/PowerMove.lean: the moves between device states, wakes and the power-fail sequence (chapter Power Domains, States and Wake). -/
namespace Sys2Proof.Machine

/-! ## Time in a state -/

/-- Whole milliseconds spent in the present state since they were last counted go to its MS_ counter (R507). -/
def Dev.countMs (d : Dev) : Dev :=
  let n := (d.now - d.pwr.msAt) / 1000000
  if n = 0 then d else (d.bump .pwr d.pstate n).modPwr fun p => { p with msAt := p.msAt + n * 1000000 }

/-! ## Domains (R482, R484) -/

/-- Domains on in a state (Table 17.2); the ring PHYs of UNLOAD and STANDBY are as RINGP allows. -/
def Dev.domainsOf (d : Dev) (s : Nat) : Nat :=
  let ring := d.fld (F.PWR_SCAP_RINGP s) * 64
  if s ≤ 1 then 0x1FF else if s = 2 then 0x13B + ring else if s = 3 then 0x12B + ring else 1

/-- What a domain that goes off leaves behind: the channels and the decoder pool hold nothing (2), the buffer loses its contents and the write cache with
it (4), unless it goes into retention, the host links are down (5), the ring ports are down (6, 7). (DESIGN CHOICE, log entry 56) -/
def Dev.domainOff (d : Dev) (k : Nat) (retain : Bool) : Dev :=
  match k with
  | 2 => { d with ch := [], dec := {} }
  | 4 => if retain then d
      else
        let d := (((d.setFld F.BUF_STAT_READY 0).setFld F.BUF_STAT_TRAINED 0).setFld F.BUF_STAT_FILLS 0).dropCache (fun _ => true)
        let d := ((d.2.2.setFld F.MDC_STAT_READY 0).setFld F.MDC_STAT_VALID 0).setFld F.MDC_DIRTY_LINES 0
        { d with buf := {}, mdc := { failed := d.mdc.failed }, scb := {} }
  | 5 => (d.setFld (F.HST_PSTAT_DL_UP 0) 0).setFld (F.HST_PSTAT_DL_UP 1) 0
  | 6 => if d.rstate 0 = psDown then d else d.dropLink 0 psDown
  | 7 => if d.rstate 1 = psDown then d else d.dropLink 1 psDown
  | _ => d

/-- Switch the domains to a set. -/
def Dev.switchTo (d : Dev) (on : Nat) (retain : Bool := false) : Dev :=
  let off := (List.range 9).filter fun k => d.on k && !on.testBit k
  off.foldl (fun (d : Dev) k => d.domainOff k retain) (d.setDomains on)

/-! ## Arriving in a state -/

/-- PWR writes SPN.DEMAND (R194, R488). -/
def Dev.demandOf (d : Dev) (s : Nat) : Dev :=
  if d.live 3 then d.demandWrite (d.fld (F.PWR_SCAP_DEMAND s) * 2 ^ F.SPN_DEMAND_DEMAND.lo) 0xFF else d

/-- Set Features that wait for the target have reached it (R490). -/
def Dev.endAsking (d : Dev) : Dev :=
  let l := d.pwr.asking
  l.foldl (fun (d : Dev) t => d.finish t stOk) (d.modPwr fun p => { p with asking := [] })

/-- The device is in state n: event 0x1401, SPN.DEMAND (once the servo domain has power), domains, core voltage, caps (R194, R484). -/
def Dev.arrive (d : Dev) (n : Nat) : Dev :=
  let old := d.pstate
  let d := d.modPwr fun p => { p with caps := n }
  if old = n then (d.switchTo (d.domainsOf n) d.pwr.retain).govern
  else
    let d := d.countMs.modPwr fun p => { p with msAt := d.now }
    let d := ((d.setFld F.PWR_STAT_STATE n).bump .pwr 5).event .pwr 0x01 old n (d.word F.PWR_VOTE_VOTE0.a).toNat
    let was := d.live 3
    let d := (d.demandOf n).switchTo (d.domainsOf n) d.pwr.retain
    (if was then d else d.demandOf n).driveVid.govern

/-! ## Steps (Table 17.3) -/

/-- Steps between state hi and the next one down. Step 5 is for STANDBY alone: on the way to KENNEL the buffer is lost anyway. (DESIGN CHOICE, log entry 52) -/
def stepsOf (hi target : Nat) : List Nat :=
  match hi with
  | 0 => [1]
  | 1 => [1, 2, 3]
  | 2 => if target = 3 then [1, 4, 5] else [1, 4]
  | _ => [1, 6, 7, 8]

/-- The step after, and before, step k. -/
def stepAfter (l : List Nat) (k : Nat) : Option Nat := l.find? fun x => decide (k < x)
def stepBefore (l : List Nat) (k : Nat) : Option Nat := l.reverse.find? fun x => decide (x < k)

/-- VCM loops present. -/
def Dev.vcms (d : Dev) : List Nat := [0, 1].filter fun k => d.hasLoop k

/-- R489: runs are held where entry to KENNEL is wanted. A Set Features that asked for it fails, and its vote is what it was before; otherwise the loss is
accepted and logged. (DESIGN CHOICE, log entry 52) -/
def Dev.heldCheck (d : Dev) (m : MoveS) : Dev × MoveS :=
  let (runs, secs) := d.heldRuns
  if d.targetState ≠ 4 ∨ runs = 0 ∨ m.lost then (d, m)
  else
    let askers := d.cmds.filter fun c => d.pwr.asking.contains c.tag && c.kind == .powerMgmt 4
    if askers = [] then (d.event .pwr 0x06 runs secs, { m with lost := true })
    else
      let d : Dev := askers.foldl (fun (d : Dev) c =>
        let d := (d.modCtrl c.tag.ctrl fun x => { x with psVote := c.nlb }).modPwr fun p => { p with asking := p.asking.filter fun t => decide (t ≠ c.tag) }
        (d.event .pwr 0x04 runs secs (c.tag.ctrl.val + 1)).finish c.tag (stOf 7 0xC6)) d
      (d.showVotes, m)

/-- What the retention store keeps (R492). -/
def Dev.saveRet (d : Dev) : Dev :=
  let keep (a : Nat) : Nat × Word := (a, d.word a)
  let enables := ((d.setWord F.RNG_CTRL_EAST_EN.a (resetWord d.v F.RNG_CTRL_EAST_EN.a)).setFlag F.RNG_CTRL_EAST_EN (d.flag F.RNG_CTRL_EAST_EN)).setFlag
    F.RNG_CTRL_WEST_EN (d.flag F.RNG_CTRL_WEST_EN)
  let words := [keep F.FAB_LOAD_COPY.a, keep F.FAB_LOADGEN_GEN.a, keep F.RNG_NSEXP_LO_EXP.a, keep F.RNG_NSEXP_HI_EXP.a,
    (F.RNG_CTRL_EAST_EN.a, enables.word F.RNG_CTRL_EAST_EN.a)]
  d.modPwr fun p => { p with ret := some { words := words, c0 := d.hst.c0, c1 := d.hst.c1 } }

/-- Begin a step downward: what it does at once, and the instant its bound ends. (DESIGN CHOICE, log entry 8) -/
def Dev.beginDown (d : Dev) (m : MoveS) : Dev × MoveS :=
  let m := { m with begun := true, ends := d.now }
  match m.step with
  | 1 => ((d.modPwr fun p => { p with caps := m.hi + 1 }).govern, m)
  | 2 => (d.releaseHeld fun _ => true, { m with ends := d.now + 10000000000 })
  | 3 =>
    let d : Dev := d.vcms.foldl (fun (d : Dev) k => d.unloadVcm k) d
    (d, { m with ends := d.now + 1000000 * (d.vcms.map fun k => d.fld (F.SRV_LPARK_UNLOAD_TMO k)).foldl max 0 })
  | 4 =>
    let decel := d.fld F.SPN_RAMP_DECEL
    let ramp := if decel = 0 then 0 else d.rpmTgt.natAbs * 1000000000 / decel
    (d.demandOf (m.hi + 1), { m with ends := d.now + ramp + 2000000000 })
  | 5 =>
    let d : Dev := d.buf.fills.foldl (fun (d : Dev) e => d.closeFill e) d
    ((d.modPwr fun p => { p with retain := true }).setDomains (d.fld F.PWR_STAT_ON &&& 0x1EF), m)
  | 6 => (d.jclean.saveRet, m)
  | 7 => ((d.switchTo 1).modPwr fun p => { p with retain := false }, m)
  | _ => ((d.modPwr fun p => { p with coreEn := false, vid := 0, pgAt := none }), m)

/-- The step has done what it waits for, or its bound has ended. Step 4 has its own report when its bound ends (R554). -/
def Dev.downDone (d : Dev) (m : MoveS) : Bool :=
  match m.step with
  | 2 => d.shutdownDone || decide (m.ends ≤ d.now)
  | 3 => (d.vcms.all fun k => d.mode k == 0) || decide (m.ends ≤ d.now)
  | 4 => d.spinState == 0
  | _ => true

/-- Begin to undo a step. (DESIGN CHOICE, log entry 52) -/
def Dev.beginUp (d : Dev) (m : MoveS) : Dev × MoveS :=
  let m := { m with begun := true, ends := d.now }
  match m.step with
  | 3 =>
    let d := d.setDomains (d.fld F.PWR_STAT_ON ||| 4)
    let d : Dev := d.vcms.foldl (fun (d : Dev) k => if d.mayLoad k then (d.setFld (F.SRV_LSTAT_FAULT k) 0).loadVcm k else d) d
    (d, { m with ends := d.now + 1000000 * (d.vcms.map fun k => d.fld (F.SRV_LPARK_LOAD_TMO k)).foldl max 0 })
  | 4 => (d.demandOf m.hi, m)
  | 5 =>
    let d := (d.modPwr fun p => { p with retain := false }).setDomains (d.fld F.PWR_STAT_ON ||| 0x10)
    ({ (d.setFld F.BUF_STAT_READY 0) with buf := { d.buf with training := some 1 } }, m)
  | _ => (d, m)

/-- A step is undone. (DESIGN CHOICE, log entry 52) -/
def Dev.upDone (d : Dev) (m : MoveS) : Bool :=
  match m.step with
  | 3 => (d.vcms.all fun k => d.mode k != 1 && d.mode k != 6) || decide (m.ends ≤ d.now)
  | 4 => d.spinLocked || !d.flag F.SPN_CTRL_EN || d.fld (F.PWR_SCAP_DEMAND m.hi) == 0
  | 5 => d.buf.training.isNone
  | _ => true

/-! ## Wakes (R497 to R500) -/

/-- A function in D3cold with PME enabled: the kennel drives its WAKEp_N low (R499). (DESIGN CHOICE, log entry 53) -/
def Dev.pmeWake (d : Dev) : Dev :=
  d.modPwr fun p => { p with wake0 := p.wake0 || (p.pme0 && d.hst.c0.perst), wake1 := p.wake1 || (p.pme1 && d.hst.c1.perst && d.hasCtrl 1) }

/-- A wake (R491, R497): the kennel restart begins. PERSTp_N that has risen ends the function's reset. -/
def Dev.wake (d : Dev) (src : Nat) (inj : Bool) : Dev :=
  let d := ((d.setFld F.PWR_WAKE_LAST src).bump .pwr 10).event .knl 0x20 src d.pstate (injBit inj)
  let d := if 4 ≤ src ∧ src ≤ 8 then d.pmeWake else d
  d.modPwr fun p => { p with coreEn := true, enAt := d.now, vid := d.fld F.KNL_VCORE_VSET_HI, pgAt := none, late := false, restart := true, pend := []
                             whistle := src == 5 || src == 6 }

/-- PERSTp_N is high: its function is out of reset, in what the device holds and in what the retention store holds; WAKEp_N rises (R499). -/
def Dev.perstHigh (d : Dev) (p : Nat) : Dev :=
  let up (x : CtrlS) : CtrlS := { x with perst := false }
  let ret := d.pwr.ret.map fun r => if p = 0 then { r with c0 := up r.c0 } else { r with c1 := up r.c1 }
  let d := d.modPwr fun q => { q with ret := ret, wake0 := q.wake0 && p != 0, wake1 := q.wake1 && p != 1 }
  if p = 0 then d.modCtrl 0 up else d.modCtrl 1 up

/-- A wake source is seen (R497, R500): in KENNEL it wakes the device if it is enabled; while a move into KENNEL runs and the core's detectors have not been
frozen it is latched as a pending wake. (DESIGN CHOICE, log entry 53) -/
def Dev.wakeSource (d : Dev) (src : Nat) (inj : Bool) : Dev :=
  let d := if src ≤ 1 ∧ d.pstate = 4 then d.perstHigh src else d
  if !(d.fld F.PWR_WAKE_EN).testBit src then d
  else if d.pstate = 4 then (if d.pwr.coreEn then d else d.wake src inj)
  else match d.pwr.mv with
    | some m => if m.hi = 3 ∧ !m.up then d.modPwr fun p => { p with pend := if p.pend.contains src then p.pend else p.pend ++ [src] } else d
    | none => d

/-- The handover's end (Table 17.6): a pending wake wakes the device at once. An edge that an armed PWR.INJECT of KIND 0 raises in the window is lost (R500). (DESIGN CHOICE, log entry 15; DESIGN CHOICE, log entry 53) -/
def Dev.handover (d : Dev) : Dev :=
  let d := if d.flag F.PWR_INJECT_ARM && d.fld F.PWR_INJECT_KIND = 0 then d.setFlag F.PWR_INJECT_ARM false else d
  match d.pwr.pend with
  | s :: _ => d.wake s false
  | [] => d

/-! ## One step of a move (R488) -/

/-- The move ends. -/
def Dev.endMove (d : Dev) : Dev :=
  let d := (d.modPwr fun p => { p with mv := none }).setFld F.PWR_STAT_MOVING 0
  if d.targetState = d.pstate then d.endAsking else d

/-- After a step downward: the next step, the next pair of states, the way back, or the end. Held runs are looked for at the end of step 2, and before
whatever step would lose them (R489); refused at the end of step 2, the entry ends in UNLOAD. (DESIGN CHOICE, log entry 52) -/
def Dev.afterDown (d : Dev) (m : MoveS) : Dev :=
  let was := d.targetState
  let last := (stepAfter (stepsOf m.hi was) m.step).isNone
  let check := m.step == 2 || (m.hi == 2 && last) || stepAfter (stepsOf m.hi was) m.step == some 6
  let (d, m) := if check then d.heldCheck m else (d, m)
  let t := d.targetState
  let m := { m with begun := false, stay := m.stay || (m.step == 2 && was == 4 && t != 4) }
  let put (d : Dev) (m : MoveS) : Dev := d.modPwr fun p => { p with mv := some m }
  if t ≤ m.hi ∧ m.step < 7 ∧ !m.stay then put d { m with up := true }
  else match stepAfter (stepsOf m.hi t) m.step with
    | some k => if m.hi = 3 ∧ t ≠ 4 ∧ m.step < 7 then put d { m with up := true } else put d { m with step := k }
    | none =>
      let d := d.arrive (m.hi + 1)
      if m.hi = 3 then d.endMove.handover
      else if m.stay ∨ t ≤ m.hi + 1 then d.endMove
      else put d { m with hi := m.hi + 1, step := 1 }

/-- After a step has been undone. -/
def Dev.afterUp (d : Dev) (m : MoveS) : Dev :=
  let t := d.targetState
  let put (d : Dev) (m : MoveS) : Dev := d.modPwr fun p => { p with mv := some { m with begun := false } }
  if m.hi < t then put d { m with up := false }
  else match stepBefore (stepsOf m.hi 3) m.step with
    | some k => put d { m with step := k }
    | none =>
      let d := d.arrive m.hi
      if m.hi ≤ t then d.endMove
      else put d { m with hi := m.hi - 1, step := ((stepsOf (m.hi - 1) 3).getLast?).getD 1 }

/-- A move begins (R488): from STANDBY upward, it undoes step 5 only if the buffer is in retention. From UNLOAD or below toward KENNEL, held runs are looked
for first (R489). (DESIGN CHOICE, log entry 52) -/
def Dev.startMove (d : Dev) : Dev :=
  let s := d.pstate
  let (d, m) := if 2 ≤ s ∧ d.targetState = 4 then d.heldCheck { hi := s, up := false, step := 1 } else (d, { hi := s, up := false, step := 1 })
  let t := d.targetState
  if t = s then d
  else
    let m : MoveS := if s < t then m
      else { hi := s - 1, up := true, step := if s = 3 then (if d.pwr.retain then 5 else 4) else ((stepsOf (s - 1) 3).getLast?).getD 1 }
    (d.modPwr fun p => { p with mv := some m }).setFld F.PWR_STAT_MOVING 1

/-- Run the present step of the move. -/
def Dev.moveStep (d : Dev) : Dev :=
  match d.pwr.mv with
  | none => d
  | some m =>
    let (d, m) := if m.begun then (d, m) else if m.up then d.beginUp m else d.beginDown m
    let d := d.modPwr fun p => { p with mv := some m }
    if m.up then (if d.upDone m then d.afterUp m else d) else if d.downDone m then d.afterDown m else d

/-! ## Power-fail (R502, R503) -/

/-- Insert a zone before the first whose last write is older. -/
def insertNewest (p : Nat × ZCtx) : List (Nat × ZCtx) → List (Nat × ZCtx)
  | [] => [p]
  | q :: r => if q.2.lastWr < p.2.lastWr then p :: q :: r else q :: insertNewest p r

/-- PF_JOURNAL_RECORDS (R503): PF_WP records, newest write first, at most PFWP_MAX and as many as the half has room for beside PF_END; then PF_END. (DESIGN CHOICE, log entry 54) -/
def Dev.pfJournal (d : Dev) : Nat × Dev :=
  let zones := d.activeZones.foldl (fun l p => insertNewest p l) []
  let none_ := d.flag F.ZNE_INJECT_ARM && d.fld F.ZNE_INJECT_KIND = 1
  let d := if none_ then d.setFlag F.ZNE_INJECT_ARM false else d
  let n := if none_ then 0 else min (d.fld F.PWR_PF_PFWP_MAX) (jlimit - d.zne.jword - 1)
  let l := zones.take n
  let d : Dev := l.foldl (fun (d : Dev) (p : Nat × ZCtx) => d.jput { ty := 9, nsx := p.2.nsx, ctx := p.1, gen := p.2.gen, value := p.2.wp }) d
  (l.length, d.jput { ty := 10 })

/-- Steps 2 to 6 of the power-fail sequence (Table 17.7). -/
def Dev.pfBegin (d : Dev) (vb : Nat) : Dev :=
  let s := d.pstate
  let d := ((d.setFld F.PWR_STAT_PF 1).setFld F.PWR_STAT_MOVING 0).modPwr fun p => { p with mv := none, pf := some { began := d.now } }
  let d := ((d.bump .pwr 11).event .pwr 0x02 vb s d.cacheRuns).flashPowerFail
  let d : Dev := if d.live 3 then d.vcms.foldl (fun (d : Dev) k => if d.mode k = 0 then d else (d.unloadVcm k).setFunc 13 1) d else d
  let d := (d.switchTo (d.fld F.PWR_STAT_ON &&& 0x10B)).modPwr fun p => { p with retain := false }
  let (n, d) := d.pfJournal
  (d.modPwr fun p => { p with pf := p.pf.map fun f => { f with wrote := n, ended := true } }).requestFlush 2

/-- Retract has ended, or its bound has. -/
def Dev.pfRetracted (d : Dev) (f : PfS) : Bool :=
  !d.live 3 || (d.vcms.all fun k => d.mode k == 0) ||
    decide (f.began + 1000000 * (d.vcms.map fun k => d.fld (F.SRV_LPARK_UNLOAD_TMO k)).foldl max 0 ≤ d.now)

/-- Step 8: the power-fail batch of the logbook, opened if it has not been, ends (R520), event 0x1403, the domains off: the device is in KENNEL. (DESIGN CHOICE, log entry 54) -/
def Dev.pfEnd (d : Dev) (f : PfS) : Dev :=
  let d := (if d.flag F.LOG_STAT_FLASH_OFF ∨ d.log.flushReq ≠ some 2 ∨ d.log.opened.isSome then d else (d.grantBg .flush).flushBatch 2).closeBatch
  let d := d.event .pwr 0x03 f.wrote f.ended.toNat ((d.now - f.began) / 1000000)
  let d := (d.arrive 4).modPwr fun p => { p with pf := none, ret := none, asking := [], coreEn := false, vid := 0, pgAt := none }
  d.setFld F.PWR_STAT_PF 1

end Sys2Proof.Machine
end

