-- ==== Sys2Proof/Machine/Power.lean ====
section
/-! DEFINITION. Machine/Power.lean: the commands of PWR and of the supply side of KNL (chapters Power Domains, States and Wake; Balls, Electrical Limits and
Package), and the NVM Subsystem Reset. -/
namespace Sys2Proof.Machine

/-! ## Moves -/

/-- POWER_MOVE_STEP (R488 to R490): a move begins if the target state is not the present one, and its present step runs. From KENNEL only a wake leads
back. -/
def execPowerMoveStep (s : State) : Out :=
  s.does fun d =>
    let d := d.countMs
    if d.pwr.pf.isSome ∨ d.pwr.held ∨ d.pwr.restart then d
    else
      let d := if d.pwr.mv.isNone && d.pstate != 4 && d.targetState != d.pstate then d.startMove else d
      d.showVotes.moveStep

/-- SPINDLE_STOP_TIMEOUT (R554): the bound of step 4 has ended without STOP; event 0x1409, and the move goes on. -/
def execSpindleStopTimeout (s : State) : Out :=
  s.does fun d =>
    match d.pwr.mv with
    | some m =>
      if m.step = 4 ∧ !m.up ∧ m.begun ∧ m.ends ≤ d.now ∧ d.spinState ≠ 0 then
        (d.event .pwr 0x09 d.spinState (tc 32 d.spn.rpm)).afterDown m
      else d
    | none => d

/-! ## The governor -/

/-- HEAD_REQUEST_READ (R494): OP 1. -/
def execHeadRequestRead (n : Fin 20) (who : Requester) (s : State) : Out := s.does fun d => d.headreqWrite (1 * 2 ^ 30 + n.val) (reqCode who)
/-- HEAD_REQUEST_WRITE (R494): OP 2. -/
def execHeadRequestWrite (n : Fin 20) (who : Requester) (s : State) : Out := s.does fun d => d.headreqWrite (2 * 2 ^ 30 + n.val) (reqCode who)
/-- HEAD_RELEASE (R494): OP 3. -/
def execHeadRelease (n : Fin 20) (who : Requester) (s : State) : Out := s.does fun d => d.headreqWrite (3 * 2 ^ 30 + n.val) (reqCode who)

/-- VCORE_THRESHOLD_CROSS (R495, R539): KNL.VCORE.MEAS takes the measured code, and the governor looks again. -/
def execVcoreThresholdCross (meas : BitVec 7) (s : State) : Out := s.does fun d => (d.setFld F.KNL_VCORE_MEAS meas.toNat).govern

/-! ## Pads, wake sources -/

/-- PAD_RELEASE_WRITE (R496). -/
def execPadReleaseWrite (v : Word) (who : Requester) (s : State) : Out := s.does fun d => d.padrelWrite v.toNat (reqCode who)

/-- WAKE_SOURCE (R497, Table 17.5). -/
def execWakeSource (src : Fin 9) (s : State) : Out := s.does fun d => d.wakeSource src.val false

/-- SMBUS_ADDRESS_MATCH (R501): in KENNEL the matcher compares an address byte with HST.MI.ADDR, and with 0x35 where BMC_EN is 1. -/
def execSmbusAddressMatch (addr : BitVec 7) (s : State) : Out :=
  s.does fun d =>
    if d.pstate = 4 ∧ (addr.toNat = d.fld F.HST_MI_ADDR ∨ (d.flag F.HST_MI_BMC_EN ∧ addr.toNat = 0x35)) then d.wakeSource 7 false else d

/-- WHISTLE_DETECTED (R406, R498): 16 ON and OFF periods in a row, each in [3,000, 5,000) ns. In KENNEL it is wake source 5 or 6; otherwise it powers the
port, if its PHY is off. -/
def execWhistleDetected (p : Fin 2) (periods : List Nat) (s : State) : Out :=
  s.does fun d =>
    if periods.length < 16 ∨ !((periods.drop (periods.length - 16)).all fun x => decide (3000 ≤ x ∧ x < 5000)) then d
    else if d.pstate == 4 || (match d.pwr.mv with | some m => m.hi == 3 && !m.up | none => false) then d.wakeSource (5 + p.val) false
    else if d.on (6 + p.val) then d
    else (d.setDomains (d.fld F.PWR_STAT_ON ||| (1 <<< (6 + p.val)))).govern

/-- POWER_FAIL_SEQUENCE (R502, R503, R520): after SPN's declaration steps 2 to 6 run; once every VCM loop is in DOWN, steps 7 and 8. `vb` is VBUS in 20 mV. -/
def execPowerFailSequence (vb : BitVec 16) (s : State) : Out :=
  s.does fun d =>
    match d.pwr.pf with
    | some f => if d.pfRetracted f then d.pfEnd f else d
    | none => if d.flag F.SPN_STAT_PF && d.pstate != 4 && !d.pwr.held then d.countMs.pfBegin vb.toNat else d

/-- PWR_INJECT_ARM (R506): a write to PWR.INJECT. -/
def execPwrInjectArm (v : Word) (who : Requester) (s : State) : Out := s.does fun d => (d.regWrite F.PWR_INJECT_ARM.a v.toNat (reqCode who)).1

/-! ## Kennel supply (R538, R543 to R545) -/

/-- Kennel power is there: TBASE starts at 0, CORE_VID takes VSET_HI and CORE_EN rises. -/
def Dev.powerOn (d : Dev) : Dev :=
  if d.pwr.kennel then d
  else
    let d := (({ d with tbase := 0 }).setFld F.KNL_TBASE_STAT_RUNNING 1).setFld F.PWR_STAT_ON 1
    let v := d.fld F.KNL_VCORE_VSET_HI
    d.modPwr fun p => { p with kennel := true, coreEn := true, enAt := 0, vid := v, pgAt := none, late := false, msAt := 0, xtal := true }

/-- KENNEL_POWER_ON (R543). -/
def execKennelPowerOn (s : State) : Out := .next { s with dev := s.dev.powerOn }

/-- KENNEL_SUPPLY_SWITCH (R482, R538): TBASE goes on. -/
def execKennelSupplySwitch (vaux : Bool) (s : State) : Out := s.does fun d => d.modPwr fun p => { p with vaux := vaux }

/-- KENNEL_POWER_LOST (R538): nothing is left but what is in flash. -/
def execKennelPowerLost (s : State) : Out :=
  s.does fun d =>
    let e := d.wipe (fun _ => false) false
    let e : Dev := { e with tbase := 0, log := {} }
    (e.setFld F.PWR_STAT_ON 0).modPwr fun _ => { kennel := false, coreEn := false, vid := 0, pgAt := none }

/-- KENNEL_RESTART (R491): the state that the device comes up in, on its way to the target. (DESIGN CHOICE, log entry 52) -/
def Dev.endRestart (d : Dev) : Dev :=
  let d := d.countMs.afterRestart
  let back (x : CtrlS) : CtrlS := { x with psVote := x.lastOp }
  let d := ({ d with hst := { d.hst with c0 := back d.hst.c0, c1 := back d.hst.c1 } }).showVotes
  let d := (d.setFld F.PWR_STAT_PF 0).modPwr fun p => { p with mv := none }
  d.arrive (if d.targetState ≤ 2 then 2 else 3)

/-- CORE_PG_RISE (R491, R544, R545): CORE_PG has been high for 1 ms: the kennel restart goes on, or a device reset ends. -/
def execCorePgRise (s : State) : Out :=
  s.does fun d =>
    if !d.pwr.coreEn || d.pwr.pgAt.isSome then d
    else
      let d := d.modPwr fun p => { p with pgAt := some d.now, late := false, held := false }
      if d.pwr.restart then d.endRestart else d.afterReset false

/-- CORE_PG_LATE (R544): 100 ms after CORE_EN; once. (DESIGN CHOICE, log entry 7) -/
def execCorePgLate (s : State) : Out :=
  s.does fun d =>
    if d.pwr.coreEn ∧ d.pwr.pgAt.isNone ∧ !d.pwr.late ∧ d.pwr.enAt + 100000000 ≤ d.now then
      (d.modPwr fun p => { p with late := true }).event .knl 0x21 d.pstate 1 (d.fld F.KNL_VCORE_MEAS)
    else d

/-- CORE_PG_FALL (R545): domains 1 to 8 are held in reset with their balls held; the buffer is lost; a power-fail sequence ends, its batch left torn (R521). -/
def execCorePgFall (s : State) : Out :=
  s.does fun d =>
    if d.pwr.coreEn ∧ d.pwr.pgAt.isSome then
      let d := (d.domainOff 4 false).setFld F.PWR_STAT_HOLD 0x1FE
      let d := match d.log.opened with | some x => d.batchOver x.slot fsOK | none => d
      let d := (d.setFld F.PWR_STAT_MOVING 0).modPwr fun p => { p with pgAt := none, held := true, pf := none, mv := none, restart := false, late := true }
      d.event .knl 0x21 d.pstate 0 (d.fld F.KNL_VCORE_MEAS)
    else d

/-! ## Temperature (R547) -/

/-- The threshold of Feature 0x04: the lower one where both controllers have set it. (DESIGN CHOICE, log entry 55) -/
def Dev.hotAt (d : Dev) : Nat := d.ctrls.foldl (fun m c => min m (d.ctrl c).tempOver) 0xFFFF

/-- KNL.TEMP shows a temperature. -/
def Dev.setTj (d : Dev) (tj : Nat) : Dev := (d.setFld F.KNL_TEMP_TJ tj).setFld F.KNL_TEMP_TJ_PEAK (max tj (d.fld F.KNL_TEMP_TJ_PEAK))

/-- OVER_TEMP_RISE (R547): critical warning bit 1 and event 0x0222. -/
def execOverTempRise (tj : Byte) (sensor : Fin 8) (s : State) : Out :=
  s.does fun d =>
    let d := d.setTj tj.toNat
    if d.hotAt ≤ tj.toNat + 273 ∧ d.pwr.hotSince.isNone then
      ((d.modPwr fun p => { p with hotSince := some d.now }).critWarn 2 1).event .knl 0x22 tj.toNat d.hotAt sensor
    else d

/-- OVER_TEMP_FALL (R547): the warning ends; event 0x0223 with the seconds above. -/
def execOverTempFall (tj : Byte) (s : State) : Out :=
  s.does fun d =>
    let d := d.setTj tj.toNat
    match d.pwr.hotSince with
    | some t =>
      if tj.toNat + 273 < d.hotAt then
        let d : Dev := { d with log := { d.log with crit := d.log.crit &&& 0xFD } }
        (d.modPwr fun p => { p with hotSince := none }).event .knl 0x23 tj.toNat d.hotAt ((d.now - t) / 1000000000)
      else d
    | none => d

/-! ## Functions' power states -/

/-- PERST_RELEASE (R485, R499): PERSTp_N rises outside KENNEL; the function no longer votes PS4. -/
def execPerstRelease (p : Fin 2) (s : State) : Out :=
  s.does fun d => if !d.hasCtrl p ∨ d.pstate = 4 then d else (d.perstHigh p.val).voted d

/-- PCI_POWER_STATE_WRITE (R485, R499): D0 or D3hot, and PME enable. -/
def execPciPowerStateWrite (c : Fin 2) (d3 pme : Bool) (s : State) : Out :=
  s.doesIn 1 fun d =>
    if !d.hasCtrl c then d
    else
      let d' := (d.modCtrl c fun x => { x with d3 := d3 }).modPwr fun p => if c = 0 then { p with pme0 := pme } else { p with pme1 := pme }
      d'.voted d

/-! ## NVM Subsystem Reset (R317) -/

/-- The reset at the end of an NVM Subsystem Reset: event 0x0D0A with what the cache still holds, if anything. (DESIGN CHOICE, log entry 57) -/
def Dev.nssrEnd (d : Dev) : Dev :=
  let d := if d.zne.cache = [] then d else d.event .hst 0x0A d.cacheRuns d.zne.cache.length 1
  d.afterReset true

/-- NVM_SUBSYSTEM_RESET (R317): the write cache is destaged first; with nothing left but held runs the device resets. (DESIGN CHOICE, log entry 57) -/
def execNvmSubsystemReset (s : State) : Out :=
  s.doesIn 1 fun d =>
    let d := if d.hst.nssr.isSome then d else (d.modHst fun h => { h with nssr := some d.now }).releaseHeld fun _ => true
    if d.shutdownDone then d.nssrEnd else d

/-- NSSR_DESTAGE_LIMIT (R317): 10 s after its begin. (DESIGN CHOICE, log entry 7) -/
def execNssrDestageLimit (s : State) : Out :=
  s.doesIn 1 fun d =>
    match d.hst.nssr with
    | some t => if t + 10000000000 ≤ d.now then d.nssrEnd else d
    | none => d

end Sys2Proof.Machine
end

