-- ==== Sys2Proof/Machine/Flags.lean ====
section
/-! DEFINITION. Machine/Flags.lean: results and flags of the ALU operations of a microword (R417, Table 14.4). -/
namespace Sys2Proof.Machine

/-- Result, and new flags, of an operation that has a result: a and b are the operands, x the thread before it. (DESIGN CHOICE, log entry 61) -/
def aluOp (op : Nat) (a b : Word) (x : ThreadS) : Word × Bool × Bool × Bool :=
  let zn (w : Word) : Word × Bool × Bool × Bool := (w, w == 0, w.msb, x.c)
  let keep (w : Word) : Word × Bool × Bool × Bool := (w, x.z, x.n, x.c)
  match op with
  | 1 => keep b
  | 2 => (a + b, a + b == 0, (a + b).msb, decide (2 ^ 32 ≤ a.toNat + b.toNat))
  | 3 | 9 => (a - b, a - b == 0, (a - b).msb, (decide (a.toNat < b.toNat)).xor Config.subCarry)
  | 4 => zn (a &&& b)
  | 5 => zn (a ||| b)
  | 6 => zn (a ^^^ b)
  | 7 => keep (a <<< (b.toNat % 32))
  | 8 => keep (a >>> (b.toNat % 32))
  | 12 => keep (if b.toNat < a.toNat then b else a)
  | 13 => keep (if a.toNat < b.toNat then b else a)
  | _ => keep 0

end Sys2Proof.Machine
end

