-- ==== Sys2Proof/Machine/Seq.lean ====
section
/-! DEFINITION. Machine/Seq.lean: what the sequencers do: routines, microwords, interrupts, mutexes and flags (chapter Microcoded Sequencers). -/
namespace Sys2Proof.Machine

/-! ## Fetch (R417, R425, R426, R429) -/

/-- The patch word that a fetch at pc takes: patch SRAM addressed directly, or the one that an enabled match register names (R429). (DESIGN CHOICE, log entry 60) -/
def Dev.patchIndex (d : Dev) (s pc : Nat) : Option Nat :=
  let t := seqType s
  if 0x8000 ≤ pc then some (pc - 0x8000)
  else ((List.range 32).find? fun i => d.flag (F.SEQ_MATCH_EN t i) && d.fld (F.SEQ_MATCH_ROM t i) == pc).map fun i => d.fld (F.SEQ_MATCH_PATCH t i)

/-- Fetch a microword for a thread, as its 128 bits; none where the fetch is a control-store error or the register file cannot be read (R426). An armed SEQ.INJECT of KIND 0
or 1 makes the fetch fail; KIND 0 is spent by it. A thread that waits has its word. (DESIGN CHOICE, log entry 60) -/
def Dev.fetchWord (d : Dev) (s t : Nat) (f : Fetch) : Option (BitVec 128) × Dev :=
  let pc := (d.thread s t).pc
  let idx := d.patchIndex s pc
  let word : BitVec 128 := match idx with
    | some i => d.seq.patch.get (fun _ => 0) (2048 * seqType s + i)
    | none => f.rom
  let kind := d.fld F.SEQ_INJECT_KIND
  let hit := d.flag F.SEQ_INJECT_ARM && decide (kind ≤ 1 ∧ d.fld F.SEQ_INJECT_S = s) &&
    (d.fld F.SEQ_INJECT_VALUE == 0xFFFF || d.fld F.SEQ_INJECT_VALUE == pc)
  match (d.thread s t).waiting with
  | some (w, _) => (some w, d)
  | none =>
  if 0x8800 ≤ pc then (none, d.cstoreError s t 2 false)
  else if hit then (none, (if kind = 0 then d.setFlag F.SEQ_INJECT_ARM false else d).cstoreError s t (if idx.isSome then 1 else 0) true)
  else
    let d : Dev := if idx.isSome then (d.bump .seq 34).sram .seq (8 + seqType s) (sramRead f.patch) else d
    let bad : Bool := match (sramRead f.patch) with | .uncorrectable _ _ => idx.isSome | _ => false
    if idx.isNone && !f.parityOk then (none, d.cstoreError s t 0 false)
    else if bad then (none, d.cstoreError s t 1 false)
    else
      let d := d.sram .seq (12 + s) (sramRead f.regs)
      match (sramRead f.regs) with
      | .uncorrectable _ _ => (none, d.regFileError s t)
      | _ => (some word, d)

/-! ## ALU (Table 14.4) -/

/-- The ALU step of a word: the thread's new registers and outbox, or none for a full outbox (R419). LDC of a context beyond the store, or of a
block that cannot be mended (R246), has no stated value. (DESIGN CHOICE, log entry 61) -/
def Dev.aluStep (d : Dev) (s t : Nat) (u : UWord) (ctx : SramBits) : Bool × Dev :=
  let x := d.thread s t
  let a := x.reg u.srcA
  let b := if u.imm then BitVec.ofNat 32 u.immed else x.reg u.srcB
  if u.alu = 0 ∨ 14 ≤ u.alu then (true, d)
  else if u.alu = 10 then
    if seqContexts s ≤ a.toNat then
      let (k, d) := d.drawNat
      (true, d.setThread s t (x.setReg d.now u.dst (BitVec.ofNat 32 k)))
    else
      let d := d.sram .seq s (sramRead ctx)
      match sramRead ctx with
      | .uncorrectable _ _ =>
        let (k, d) := d.drawNat
        (true, d.setThread s t (x.setReg d.now u.dst (BitVec.ofNat 32 k)))
      | _ => (true, d.setThread s t (x.setReg d.now u.dst (d.ctxWord s a.toNat (u.immed % 32))))
  else if u.alu = 11 then
    if 16 ≤ x.writes.length then (false, d)
    else (true, d.setThread s t { x with writes := x.writes ++ [(a.toNat, u.immed % 32, x.reg u.srcB)] })
  else
    let (w, z, n, c) := aluOp u.alu a b x
    let x := { x with z := z, n := n, c := c }
    (true, d.setThread s t (if u.alu = 9 then x else x.setReg d.now u.dst w))

/-! ## Tokens (R16, R421, R422) -/

/-- The registers from i on, the payload of a token. (DESIGN CHOICE, log entry 62) -/
def ThreadS.payload (x : ThreadS) (i : Nat) : List Word := (List.range (32 - i)).map fun k => x.reg (i + k)

/-- The pool that an IOQ number of sequencer s names. (DESIGN CHOICE, log entry 62) -/
def ioqOf (s ioq : Nat) : Blk × Nat := (allBlks.getD (Config.ioqPool s ioq).1 .fab, (Config.ioqPool s ioq).2)

/-- The credit of a token is held: of its queue, or of FAB's pool 0 for a control-space access (R16, R551). -/
def Dev.tokGoes (d : Dev) (s : Nat) (k : OutTok) : Bool :=
  match k with
  | .csr _ _ => d.canSend .fab 0
  | .send q _ => d.canSend (ioqOf s q).1 (ioqOf s q).2

/-- A token leaves: it takes a credit of its queue; a control-space write acts, and its credit comes back. -/
def Dev.leave (d : Dev) (s : Nat) (k : OutTok) : Dev :=
  match k with
  | .csr a v => (d.controlWrite a v s).1
  | .send q ws =>
    (d.sendTo (ioqOf s q).1 (ioqOf s q).2 (ws.flatMap fun w => leBytes 4 w.toNat)).modSeq fun x => { x with sent := x.sent ++ [(s, k)] }

/-- The tokens of an outbox leave in order, each with its credit; the first whose credit is not held waits, with those behind it (R422). -/
def Dev.leaveAll (d : Dev) (s : Nat) : List OutTok → List OutTok × Dev
  | [] => ([], d)
  | k :: r => if d.tokGoes s k then (d.leave s k).leaveAll s r else (k :: r, d)

/-! ## IO (Table 14.3) -/

/-- The IO of a word has the credit that it needs: SENDQ, that of its queue; CSR_RD, one of FAB's pool 0 (R16, R551). -/
def Dev.ioReady (d : Dev) (s : Nat) (u : UWord) : Bool :=
  if u.io = 1 then d.tokGoes s (.send u.ioq []) else if u.io = 4 then d.canSend .fab 0 else true

/-- The IO step of a word: the device after it, or the microcode fault that it is (Table 14.12's code). -/
def Dev.ioStep (d : Dev) (s t : Nat) (u : UWord) : Option Nat × Dev :=
  let x := d.thread s t
  let add (k : OutTok) : Option Nat × Dev := if 8 ≤ x.toks.length then (some 0, d) else (none, d.setThread s t { x with toks := x.toks ++ [k] })
  match u.io with
  | 1 => (none, d.leave s (.send u.ioq (x.payload u.ioreg)))
  | 2 => add (.send u.ioq (x.payload u.ioreg))
  | 3 => match x.resp with
    | [] => (some 2, d)
    | ws :: r => (none, d.setThread s t (({ x with resp := r }).setRegs d.now u.ioreg ws))
  | 4 =>
    let (v, _, d) := d.access (x.reg u.srcA).toNat
    (none, d.setThread s t (x.setReg d.now u.ioreg (BitVec.ofNat 32 v)))
  | 5 => add (.csr (x.reg u.srcA).toNat (x.reg u.srcB).toNat)
  | 6 =>
    if x.locked then (some 3, d)
    else (none, d.askLock s t (if u.immed.testBit 31 then .mutex (u.immed % 8) else .ctx (x.reg u.srcA).toNat))
  | _ => (none, d)

/-! ## Routines and interrupts (R414, R422, R423) -/

/-- The thread that runs a routine on a context. -/
def Dev.threadOf (d : Dev) (s c : Nat) : Option Nat := (List.range 32).find? fun t => (d.thread s t).active && (d.thread s t).ctx == c

/-- Start a routine at a dispatch entry on the lowest free thread, if one is free and no routine runs on the context. -/
def Dev.dispatch (d : Dev) (s entry c : Nat) : Dev :=
  if (d.threadOf s c).isSome || decide (seqContexts s ≤ c) then d
  else match (List.range (seqThreads s)).find? fun t => !(d.thread s t).active with
    | none => d
    | some t => (d.setThread s t { active := true, entry := entry, ctx := c, pc := entry, run := (d.thread s t).run }).bump .seq (4 * s)

/-- An interrupt on a context (R423): its flag is set in word 0; a routine running there restarts from its entry, else the interrupt's entry is dispatched. An uncommitted
command that the interrupt aborts ends (R348, R349). (DESIGN CHOICE, log entry 62) -/
def Dev.ctxInterrupt (d : Dev) (i : Intr) : Dev :=
  let d : Dev := d.modSeq fun x => { x with ctx := x.ctx.modify (fun _ => 0) ((4096 * i.s + i.ctx) * 32) (· ||| BitVec.ofNat 32 (1 <<< (Config.intrBit % 32))) }
  let d := match d.threadOf i.s i.ctx with
    | some t => d.restart i.s t
    | none => d.dispatch i.s i.entry i.ctx
  match i.victim.bind d.cmd? with
  | some x => if x.isCommitted || decide (4 ≤ i.s) then d else d.quit x.tag stAborted 0 fun d => (d.abandon x).dropWork x.tag
  | none => d

/-- The outbox of a committed routine drains; when its last token has left the routine ends, and the interrupts held for its context act (R422). -/
def Dev.drainThread (d : Dev) (s t : Nat) : Dev :=
  let (left, d) := d.leaveAll s (d.thread s t).toks
  let x := d.thread s t
  if left ≠ [] then d.setThread s t { x with toks := left }
  else
    let held := d.seq.intrs.filter fun i => decide (i.s = s ∧ i.ctx = x.ctx)
    let d := (d.endThread s t).modSeq fun q => { q with intrs := q.intrs.filter fun i => !decide (i.s = s ∧ i.ctx = x.ctx) }
    held.foldl Dev.ctxInterrupt d

/-- Routines whose tokens wait for credits look again. -/
def Dev.drainAll (d : Dev) : Dev :=
  (d.seq.threads.filter fun p => p.2.draining).foldl (fun (d : Dev) p => if d.seqRuns (p.1 / 32) then d.drainThread (p.1 / 32) (p.1 % 32) else d) d

/-! ## MARK and FLOW -/

/-- COMMIT (R422): the context writes take effect at one instant, the thread's mutex is released, and the tokens leave in order, each with its credit; with the last of them
the routine ends. `ctx` is what it finds in the context store's block of its first write, unless it covers that block: one that cannot be mended keeps its words (R247).
(DESIGN CHOICE, log entry 61) -/
def Dev.commitRoutine (d : Dev) (s t : Nat) (ctx : SramBits) : Dev :=
  let ws := (d.thread s t).writes
  let d : Dev := match ws with
    | [] => d
    | w :: _ =>
      let first (p : Nat × Nat × Word) : Bool := p.1 == w.1 && p.2.1 / 16 == w.2.1 / 16
      let covered := (List.range 16).all fun i => ws.any fun p => first p && p.2.1 % 16 == i
      let r := if covered then SramRead.ok else sramRead ctx
      let kept : Nat × Nat × Word → Bool := match r with | .uncorrectable _ _ => fun p => !first p | _ => fun _ => true
      (ws.filter kept).foldl (fun (d : Dev) (p : Nat × Nat × Word) => d.setCtxWord s p.1 p.2.1 p.2.2) (d.sram .seq s r)
  let d := (d.releaseLock s t).bump .seq (4 * s + 1)
  (d.setThread s t { d.thread s t with writes := [], draining := true }).drainThread s t

/-- DROP (R422): nothing of the outbox takes effect. -/
def Dev.dropRoutine (d : Dev) (s t : Nat) : Dev := (d.endThread s t).bump .seq (4 * s + 2)

/-- The MARK and FLOW of a word. (DESIGN CHOICE, log entry 61) -/
def Dev.markStep (d : Dev) (s t : Nat) (u : UWord) (taken : Bool) (ctx : SramBits) : Dev :=
  let x := d.thread s t
  let next := (x.pc + 1) % 65536
  if u.mark = 1 then d.commitRoutine s t ctx
  else if u.mark = 2 then d.dropRoutine s t
  else if !taken || u.flow == 0 then d.setThread s t { x with pc := next }
  else if u.flow = 1 then d.setThread s t { x with pc := u.next }
  else if u.flow = 2 then
    if 4 ≤ x.stack.length then d.microFault s t 1 else d.setThread s t { x with pc := u.next, stack := next :: x.stack }
  else match x.stack with
    | [] => d.microFault s t 1
    | p :: r => d.setThread s t { x with pc := p, stack := r }

/-! ## One microword (R418) -/

/-- The word waits: its condition has not the value it waits for. (DESIGN CHOICE, log entry 61) -/
def Dev.mustWait (d : Dev) (s t : Nat) (u : UWord) : Bool :=
  let l := d.condLevel s (d.thread s t) u.cond
  (u.wmode == 1 && !l) || (u.wmode == 2 && l)

/-- A word acts in this order: wait, ALU, IO, MARK, FLOW (R418). `w` is its 128 bits. (DESIGN CHOICE, log entry 61) -/
def Dev.runWord (d : Dev) (s t : Nat) (w : BitVec 128) (ctx : SramBits) : Dev :=
  let u := uword w
  if d.mustWait s t u then d.setThread s t { d.thread s t with waiting := some (w, d.now) }
  else
    let d := d.setThread s t { d.thread s t with waiting := none }
    let (ok, e) := d.aluStep s t u ctx
    if !ok then d.microFault s t 0
    else match e.ioStep s t u with
      | (some k, _) => d.microFault s t k
      | (none, e) => e.markStep s t u (u.wmode != 3 || e.condLevel s (e.thread s t) u.cond) ctx

/-- A thread competes for issue: its routine runs, has not committed, and does not wait, or what it waits for has come (R415). -/
def Dev.threadReady (d : Dev) (s t : Nat) : Bool :=
  let x := d.thread s t
  x.active && !x.draining && (match x.waiting with | some (w, _) => !d.mustWait s t (uword w) | none => true)

/-- The thread whose turn it is under R49 (R415). -/
def Dev.seqTurn (d : Dev) (s : Nat) : Option Nat := rrFirst (d.threadReady s) 32 32 (d.seq.turn.get (fun _ => 0) s)

/-- Thread t has issued a word: the turn moves on (R49). -/
def Dev.issued (d : Dev) (s t : Nat) : Dev := d.modSeq fun q => { q with turn := q.turn.set (fun _ => 0) s ((t + 1) % 32) }

/-- The thread of a running sequencer whose turn it is fetches its word and, if the word is of the kind that the command names and the credit of its IO is held, executes it. (DESIGN
CHOICE, log entry 60) -/
def Dev.uword (d : Dev) (s : Fin 8) (t : Fin 32) (f : Fetch) (kind : UWord → Bool) : Dev :=
  if !d.seqRuns s || d.seqTurn s != some t.val then d
  else match d.fetchWord s t f with
    | (none, e) => e.issued s t
    | (some w, e) => if kind (Sys2Proof.Machine.uword w) && (e.mustWait s t (Sys2Proof.Machine.uword w) || e.ioReady s (Sys2Proof.Machine.uword w)) then (e.runWord s t w f.ctx).issued s t else d

/-- UWORD_WAIT_UNTIL (R420). -/
def execUwordWaitUntil (q : Fin 8) (t : Fin 32) (f : Fetch) (s : State) : Out := s.doesIn 1 fun d => d.uword q t f fun u => u.wmode == 1
/-- UWORD_WAIT_WHILE (R420). -/
def execUwordWaitWhile (q : Fin 8) (t : Fin 32) (f : Fetch) (s : State) : Out := s.doesIn 1 fun d => d.uword q t f fun u => u.wmode == 2
/-- UWORD_BRANCH (R418). -/
def execUwordBranch (q : Fin 8) (t : Fin 32) (f : Fetch) (s : State) : Out := s.doesIn 1 fun d => d.uword q t f fun u => u.wmode == 3
/-- UWORD_JUMP (R418). -/
def execUwordJump (q : Fin 8) (t : Fin 32) (f : Fetch) (s : State) : Out := s.doesIn 1 fun d => d.uword q t f fun u => u.flow == 1
/-- UWORD_CALL (R418, R419). -/
def execUwordCall (q : Fin 8) (t : Fin 32) (f : Fetch) (s : State) : Out := s.doesIn 1 fun d => d.uword q t f fun u => u.flow == 2
/-- UWORD_RETURN (R418, R419). -/
def execUwordReturn (q : Fin 8) (t : Fin 32) (f : Fetch) (s : State) : Out := s.doesIn 1 fun d => d.uword q t f fun u => u.flow == 3
/-- UWORD_MOV (R417). -/
def execUwordMov (q : Fin 8) (t : Fin 32) (f : Fetch) (s : State) : Out := s.doesIn 1 fun d => d.uword q t f fun u => u.alu == 1
/-- UWORD_ADD (R417). -/
def execUwordAdd (q : Fin 8) (t : Fin 32) (f : Fetch) (s : State) : Out := s.doesIn 1 fun d => d.uword q t f fun u => u.alu == 2
/-- UWORD_SUB (R417). -/
def execUwordSub (q : Fin 8) (t : Fin 32) (f : Fetch) (s : State) : Out := s.doesIn 1 fun d => d.uword q t f fun u => u.alu == 3
/-- UWORD_AND (R417). -/
def execUwordAnd (q : Fin 8) (t : Fin 32) (f : Fetch) (s : State) : Out := s.doesIn 1 fun d => d.uword q t f fun u => u.alu == 4
/-- UWORD_OR (R417). -/
def execUwordOr (q : Fin 8) (t : Fin 32) (f : Fetch) (s : State) : Out := s.doesIn 1 fun d => d.uword q t f fun u => u.alu == 5
/-- UWORD_XOR (R417). -/
def execUwordXor (q : Fin 8) (t : Fin 32) (f : Fetch) (s : State) : Out := s.doesIn 1 fun d => d.uword q t f fun u => u.alu == 6
/-- UWORD_SHL (R417). -/
def execUwordShl (q : Fin 8) (t : Fin 32) (f : Fetch) (s : State) : Out := s.doesIn 1 fun d => d.uword q t f fun u => u.alu == 7
/-- UWORD_SHR (R417). -/
def execUwordShr (q : Fin 8) (t : Fin 32) (f : Fetch) (s : State) : Out := s.doesIn 1 fun d => d.uword q t f fun u => u.alu == 8
/-- UWORD_CMP (R417). -/
def execUwordCmp (q : Fin 8) (t : Fin 32) (f : Fetch) (s : State) : Out := s.doesIn 1 fun d => d.uword q t f fun u => u.alu == 9
/-- UWORD_LDC (R417). -/
def execUwordLdc (q : Fin 8) (t : Fin 32) (f : Fetch) (s : State) : Out := s.doesIn 1 fun d => d.uword q t f fun u => u.alu == 10
/-- UWORD_STC (R421). -/
def execUwordStc (q : Fin 8) (t : Fin 32) (f : Fetch) (s : State) : Out := s.doesIn 1 fun d => d.uword q t f fun u => u.alu == 11
/-- UWORD_MIN (R417). -/
def execUwordMin (q : Fin 8) (t : Fin 32) (f : Fetch) (s : State) : Out := s.doesIn 1 fun d => d.uword q t f fun u => u.alu == 12
/-- UWORD_MAX (R417). -/
def execUwordMax (q : Fin 8) (t : Fin 32) (f : Fetch) (s : State) : Out := s.doesIn 1 fun d => d.uword q t f fun u => u.alu == 13
/-- UWORD_SENDQ (R421). -/
def execUwordSendq (q : Fin 8) (t : Fin 32) (f : Fetch) (s : State) : Out := s.doesIn 1 fun d => d.uword q t f fun u => u.io == 1
/-- UWORD_SEND (R421). -/
def execUwordSend (q : Fin 8) (t : Fin 32) (f : Fetch) (s : State) : Out := s.doesIn 1 fun d => d.uword q t f fun u => u.io == 2
/-- UWORD_RECV (R421). -/
def execUwordRecv (q : Fin 8) (t : Fin 32) (f : Fetch) (s : State) : Out := s.doesIn 1 fun d => d.uword q t f fun u => u.io == 3
/-- UWORD_CSR_RD (R417). -/
def execUwordCsrRd (q : Fin 8) (t : Fin 32) (f : Fetch) (s : State) : Out := s.doesIn 1 fun d => d.uword q t f fun u => u.io == 4
/-- UWORD_CSR_WR (R421). -/
def execUwordCsrWr (q : Fin 8) (t : Fin 32) (f : Fetch) (s : State) : Out := s.doesIn 1 fun d => d.uword q t f fun u => u.io == 5
/-- UWORD_LOCK (R435). -/
def execUwordLock (q : Fin 8) (t : Fin 32) (f : Fetch) (s : State) : Out := s.doesIn 1 fun d => d.uword q t f fun u => u.io == 6
/-- UWORD_COMMIT (R422). -/
def execUwordCommit (q : Fin 8) (t : Fin 32) (f : Fetch) (s : State) : Out := s.doesIn 1 fun d => d.uword q t f fun u => u.mark == 1
/-- UWORD_DROP (R422). -/
def execUwordDrop (q : Fin 8) (t : Fin 32) (f : Fetch) (s : State) : Out := s.doesIn 1 fun d => d.uword q t f fun u => u.mark == 2

/-! ## Routines and interrupts (R414, R423) -/

/-- ROUTINE_DISPATCH (R414, R421): a token starts a routine; a response goes to its thread, or is dropped if its run has ended. -/
def execRoutineDispatch (q : Fin 8) (a : Arrival) (s : State) : Out :=
  s.doesIn 1 fun d =>
    if !d.seqRuns q then d
    else match a with
      | .start e c => d.dispatch q e.toNat c.toNat
      | .resp t run ws =>
        let x := d.thread q t
        if x.active && x.run == run then d.setThread q t { x with resp := x.resp ++ [ws] } else d

/-- CONTEXT_INTERRUPT (R423, R424, Table 14.6): it acts at once, or, where the routine on the context has committed, once the last token of that has left (R422). `victim` is the
uncommitted command that the interrupt aborts (R348, R349). (DESIGN CHOICE, log entry 62) -/
def execContextInterrupt (q : Fin 8) (c : BitVec 12) (entry : BitVec 8) (victim : Option Tag) (s : State) : Out :=
  s.doesIn 1 fun d =>
    if !d.seqRuns q || decide (seqContexts q ≤ c.toNat) then d
    else
      let i : Intr := { s := q, ctx := c.toNat, entry := entry.toNat, victim := victim }
      if (match d.threadOf q c.toNat with | some t => (d.thread q t).draining | none => false) then d.modSeq fun x => { x with intrs := x.intrs ++ [i] }
      else d.ctxInterrupt i

/-- THREAD_TIMER_EXPIRY (R416): TBASE has reached the timer's value. -/
def execThreadTimerExpiry (q : Fin 8) (t : Fin 32) (s : State) : Out :=
  s.doesIn 1 fun d =>
    let x := d.thread q t
    match x.timer with
    | some e => if x.active && decide (e ≤ d.now) then d.setThread q t { x with timer := none, expired := true } else d
    | none => d

/-! ## Mutexes, flags, injection (R435, R437) -/

/-- MUTEX_CLAIM_WRITE (R435). -/
def execMutexClaimWrite (m : Fin 8) (who : Requester) (s : State) : Out := s.doesIn 1 fun d => d.mutexWrite m 1 (reqCode who)
/-- MUTEX_RELEASE_WRITE (R435). -/
def execMutexReleaseWrite (m : Fin 8) (who : Requester) (s : State) : Out := s.doesIn 1 fun d => d.mutexWrite m 2 (reqCode who)
/-- FLAG_SET_WRITE (R437). -/
def execFlagSetWrite (q : Fin 8) (v : BitVec 16) (who : Requester) (s : State) : Out :=
  s.doesIn 1 fun d => (d.controlWrite (F.SEQ_FLAGSET_SET q).a v.toNat (reqCode who)).1
/-- FLAG_CLEAR_WRITE (R437). -/
def execFlagClearWrite (q : Fin 8) (v : BitVec 16) (who : Requester) (s : State) : Out :=
  s.doesIn 1 fun d => (d.controlWrite (F.SEQ_FLAGCLR_CLR q).a v.toNat (reqCode who)).1
/-- SEQ_INJECT_ARM (R437): a write to SEQ.INJECT. -/
def execSeqInjectArm (v : Word) (who : Requester) (s : State) : Out := s.doesIn 1 fun d => (d.regWrite 0x08000060 v.toNat (reqCode who)).1

end Sys2Proof.Machine
end

