-- ==== Sys2Proof/Machine/ZoneRec.lean ====
section
/-! DEFINITION. Machine/ZoneRec.lean: zone contexts through MDC, and their recovery at load (R331, R355, R357 to R359). -/
namespace Sys2Proof.Machine

/-- ZONE_CONTEXT_REQUEST (R331, R342): ZNE reads the line of the context table that holds context `ctx` through MDC, with STREAM for a zone report, or (`put`) writes the 32
bytes of the context there; without a credit of MDC the request waits (R16). (DESIGN CHOICE, log entry 46) -/
def execZoneContextRequest (ctx : BitVec 18) (tag : BitVec 16) (put stream : Bool) (sram tags : SramBits) (s : State) : Out :=
  s.doesIn 1 fun d =>
    if !d.live 4 || !d.mcredit put then d
    else
      let k := 32 * (ctx.toNat % 4)
      let write := if put then some ((2 ^ 32 - 1) * 2 ^ k, List.replicate k 0 ++ (d.zctx ctx.toNat).bytes ++ List.replicate (96 - k) 0) else none
      (d.bump .zne 0).mrequest { tag := tag.toNat, stream := stream, line := 32 * d.fld F.ZNE_CTX_BASE_GRANULE + ctx.toNat / 4, write := write }
        (sramRead sram) (sramRead tags)

/-! ## Replay (R357, R358) -/

/-- The words of a journal half that are not erased, by offset, with their records; a word that cannot be read gives none. -/
def Dev.jwords (d : Dev) (half : Nat) : List (Nat × Option JRec) :=
  (d.flc.words.filter fun p => decide (jbase half ≤ p.1 ∧ p.1 < jbase half + jlimit)).map fun p =>
    (p.1 - jbase half, match p.2 with | .prog b => some (jrecOf b) | _ => none)

/-- The records of a half, in order. -/
def Dev.jrecs (d : Dev) (half : Nat) : List JRec := (d.jwords half).filterMap fun p => p.2

/-- The greatest sequence number of a half. (DESIGN CHOICE, log entry 45) -/
def topSeq (l : List JRec) : Option Nat := l.foldl (fun m r => some (match m with | some x => max x r.seq | none => r.seq)) none

/-- The newest half: the one with the greater sequence numbers. -/
def Dev.newestHalf (d : Dev) : Nat :=
  match topSeq (d.jrecs 0), topSeq (d.jrecs 1) with
  | some a, some b => if a < b then 1 else 0
  | none, some _ => 1
  | _, none => 0

/-- Journal states of a zone (R358). -/
inductive JState where
  | empty | full | open_
deriving DecidableEq, Repr

/-- What replay finds of a zone: journal state, generation, last HINT, MEDIA of its newest SNAPSHOT or ZONE_WP, its ZONE_WP (WP, MEDIA) and PF_WP. -/
structure JZone where
  st : JState := .empty
  gen : Nat := 0
  hint : Nat := 0
  media : Nat := 0
  wp : Option (Nat × Nat) := none
  pf : Option Nat := none
deriving DecidableEq, Repr

/-- A SNAPSHOT record of a zone names its condition; one of a namespace has zero there. -/
def zoneSnap (r : JRec) : Bool := decide (2 ^ 28 ≤ r.value)

/-- One record's bearing on the zone with context i of the namespace with index x. (DESIGN CHOICE, log entry 45) -/
def JZone.replay (x i : Nat) (z : JZone) (r : JRec) : JZone :=
  if (r.ty = 1 ∨ r.ty = 3) ∧ r.nsx = x then { gen := r.gen }
  else if r.ctx ≠ i ∨ r.nsx ≠ x then z
  else match r.ty with
    | 4 => { z with st := .open_, gen := r.gen }
    | 5 => { gen := r.gen }
    | 6 => { z with st := .full }
    | 7 => { z with hint := r.value }
    | 9 => { z with pf := some r.value }
    | 11 => if zoneSnap r then
        { z with st := if r.value / 2 ^ 28 = 1 then .empty else if r.value / 2 ^ 28 = 0xE then .full else .open_, gen := r.gen, media := r.value % 2 ^ 28 }
        else z
    | 12 => { z with wp := some (r.value, r.media), media := r.media }
    | _ => z

/-- A zone takes a recovered write pointer: Closed, Empty at 0, Full at zs. (DESIGN CHOICE, log entry 45) -/
def Dev.recoverAt (d : Dev) (n : Ns) (z gen wp : Nat) : Dev :=
  let i := n.ctx + z
  let k : ZCond := if wp = 0 then .empty else if wp = n.zs then .full else .closed
  d.setZctx i { cond := k, nsx := nsxOf n.nsid, gen := gen, wp := wp, arrived := wp, media := wp, stamp := d.now }

/-- A zone whose write pointer has moved back is reported (R358, R359). -/
def Dev.movedBack (d : Dev) (n : Ns) (z wp : Nat) (prev : Option Nat) (reason stamp : Nat) : Dev :=
  let e : WpEntry := { nsid := n.nsid, zslba := z * n.zs, now := z * n.zs + wp, prev := prev.map fun p => z * n.zs + p, reason := reason, stamp := stamp }
  let d : Dev := d.modZne fun y => { y with recov := if y.recov.length < 8192 then y.recov ++ [e] else y.recov }
  (d.bump .zne 12).event .zne 0x05 z wp (prev.getD 0xFFFFFFFF) n.nsid

/-- Recover one zone (R358). `clean` and `pfEnd` are the stamps of the CLEAN or PF_END record with which the journal ends. (DESIGN CHOICE, log entry 45) -/
def Dev.recoverZone (d : Dev) (n : Ns) (z : Nat) (j : JZone) (clean pfEnd : Option Nat) (ends : List ScanEnd) : Dev :=
  let scan : Dev :=
    let start := max j.hint j.media
    let e := (ends.find? fun e => decide (e.ctx = n.ctx + z)).getD ⟨n.ctx + z, 0, 1⟩
    let wp := min (start + e.good) n.zs
    let prev := if pfEnd.isSome then j.pf else none
    let d := (d.bump .zne 11).recoverAt n z j.gen wp
    if (match prev with | some p => decide (wp < p) | none => true) then d.movedBack n z wp prev e.reason (pfEnd.getD 0) else d
  match j.st with
  | .empty => d.recoverAt n z j.gen 0
  | .full => d.recoverAt n z j.gen n.zs
  | .open_ => match clean, j.wp with
    | some t, some (wp, media) =>
      if media = wp then d.recoverAt n z j.gen wp else (d.recoverAt n z j.gen media).movedBack n z media (some wp) 3 t
    | _, _ => scan

/-- ZONE_RECOVERY (R357 to R359): once the image is loaded and the buffer is ready, ZNE replays the journal and recovers every zone. `ends` are outcomes of the scans: while
one of them is missing ZNE is RECOVERING; with all of them it is READY. (DESIGN CHOICE, log entry 45) -/
def execZoneRecovery (ends : List ScanEnd) (s : State) : Out :=
  s.doesIn 1 fun d =>
    if d.flag F.ZNE_STAT_READY || !d.load.loaded || !d.flag F.FLC_STAT_READY || !d.live 4 || !d.flag F.BUF_STAT_READY then d
    else
      let h := d.newestHalf
      let rs := d.jrecs h
      let last := rs.getLast?
      let stampOf (ty : Nat) : Option Nat := last.bind fun r => if r.ty = ty then some r.stamp else none
      let clean := stampOf 8
      let pfEnd := stampOf 10
      let zoneOf (n : Ns) (z : Nat) : JZone := rs.foldl (fun j r => j.replay (nsxOf n.nsid) (n.ctx + z) r) {}
      let scans := d.zne.nss.flatMap fun n => ((List.range n.zones).filter fun z =>
        let j := zoneOf n z
        j.st == .open_ && !(clean.isSome && j.wp.isSome)).map fun z => n.ctx + z
      let d := if d.flag F.ZNE_STAT_RECOVERING then d else d.event .zne 0x03 scans.length pfEnd.isSome.toNat 0 0
      if (scans.any fun i => !ends.any fun e => decide (e.ctx = i)) then d.setFlag F.ZNE_STAT_RECOVERING true
      else
        let gen := rs.foldl (fun g r => if r.ty = 1 ∨ r.ty = 3 ∨ r.ty = 5 then r.gen else if r.ty = 11 then max g r.gen else g) 0
        let d : Dev := d.modZne fun y => { y with half := h, jword := (d.jwords h).foldl (fun m p => max m (p.1 + 1)) 0
                                                  jseq := match topSeq rs with | some x => x + 1 | none => 0, ctx := [], recov := [] }
        let d := d.setFld F.ZNE_GEN_GEN gen
        let d : Dev := d.zne.nss.foldl (fun (d : Dev) n =>
          (List.range n.zones).foldl (fun (d : Dev) z => d.recoverZone n z (zoneOf n z) clean pfEnd ends) d) d
        let d := if d.zne.recov = [] then d else d.raiseAenAll ⟨7, 0xE1, 0xD1⟩
        (d.setFlag F.ZNE_STAT_RECOVERING false).setFld F.ZNE_STAT_READY 1

/-- ZNE_INJECT_ARM (R360): a write to ZNE.INJECT. -/
def execZneInjectArm (v : Word) (who : Requester) (s : State) : Out := s.doesIn 1 fun d => (d.regWrite F.ZNE_INJECT_ARM.a v.toNat (reqCode who)).1

end Sys2Proof.Machine
end

