-- ==== Sys2Proof/Machine/Dispatch.lean ====
section
/-! DEFINITION. Machine/Dispatch.lean: one arm for each command: the definition that gives it its meaning. -/
namespace Sys2Proof.Machine

/-- The effect of a command on everything but the queue of waiting commands. -/
def exec (i : Instr) (s : State) : Host.Outcome State Fault Refusal :=
  match i with
  | .registerWrite a v who => Sys2Proof.Machine.execRegisterWrite a v who s
  | .tokenSend b j payload data rsp back => Sys2Proof.Machine.execTokenSend b j payload data rsp back s
  | .tokenAccept b j back flip sram => Sys2Proof.Machine.execTokenAccept b j back flip sram s
  | .creditReturn b j => Sys2Proof.Machine.execCreditReturn b j s
  | .eventOffer b n p1 p2 p3 => Sys2Proof.Machine.execEventOffer b n p1 p2 p3 s
  | .eventCreditRegained b => Sys2Proof.Machine.execEventCreditRegained b s
  | .backgroundPromotion k => Sys2Proof.Machine.execBackgroundPromotion k s
  | .stallDetected b j lane since cmds => Sys2Proof.Machine.execStallDetected b j lane since cmds s
  | .registerParitySweep b bad => Sys2Proof.Machine.execRegisterParitySweep b bad s
  | .tbaseDupMismatch => Sys2Proof.Machine.execTbaseDupMismatch s
  | .xtalLost => Sys2Proof.Machine.execXtalLost s
  | .tbaseLoRead => Sys2Proof.Machine.execTbaseLoRead s
  | .rollCallRequest => Sys2Proof.Machine.execRollCallRequest s
  | .rollTokenAtBank b => Sys2Proof.Machine.execRollTokenAtBank b s
  | .rollCallComplete => Sys2Proof.Machine.execRollCallComplete s
  | .rollPeriodDue => Sys2Proof.Machine.execRollPeriodDue s
  | .rollCallCmd t => Sys2Proof.Machine.execRollCallCmd t s
  | .wedgeDemodulated n w => Sys2Proof.Machine.execWedgeDemodulated n w s
  | .samWindowMiss n => Sys2Proof.Machine.execSamWindowMiss n s
  | .sectorRunOrder n tbuf => Sys2Proof.Machine.execSectorRunOrder n tbuf s
  | .sectorStart n v => Sys2Proof.Machine.execSectorStart n v s
  | .thermalAsperity n first len depart => Sys2Proof.Machine.execThermalAsperity n first len depart s
  | .pllLockLost n pos phase => Sys2Proof.Machine.execPllLockLost n pos phase s
  | .loopUpdateBlock n a b resync => Sys2Proof.Machine.execLoopUpdateBlock n a b resync s
  | .softBlockSend n => Sys2Proof.Machine.execSoftBlockSend n s
  | .chRunEnd n => Sys2Proof.Machine.execChRunEnd n s
  | .decBlockAccept n flip => Sys2Proof.Machine.execDecBlockAccept n flip s
  | .decoderSlotTake k => Sys2Proof.Machine.execDecoderSlotTake k s
  | .decodeEnd k => Sys2Proof.Machine.execDecodeEnd k s
  | .parkedRedecode k => Sys2Proof.Machine.execParkedRedecode k s
  | .decSectorWriteResponse => Sys2Proof.Machine.execDecSectorWriteResponse s
  | .sectorReportReceive a => Sys2Proof.Machine.execSectorReportReceive a s
  | .retryLadderStep nsid lba => Sys2Proof.Machine.execRetryLadderStep nsid lba s
  | .decInjectArm v who => Sys2Proof.Machine.execDecInjectArm v who s
  | .alinkCommandSend a => Sys2Proof.Machine.execAlinkCommandSend a s
  | .alinkReplyReceive a wave => Sys2Proof.Machine.execAlinkReplyReceive a wave s
  | .alinkReplyTimeout a => Sys2Proof.Machine.execAlinkReplyTimeout a s
  | .preampFaultInput a low => Sys2Proof.Machine.execPreampFaultInput a low s
  | .armLinkBringup a => Sys2Proof.Machine.execArmLinkBringup a s
  | .writeRunOrder n nsid lba count => Sys2Proof.Machine.execWriteRunOrder n nsid lba count s
  | .heaterNotice n nsid lba count => Sys2Proof.Machine.execHeaterNotice n nsid lba count s
  | .heaterPreheatDone n => Sys2Proof.Machine.execHeaterPreheatDone n s
  | .wrpSectorData n => Sys2Proof.Machine.execWrpSectorData n s
  | .writeSectorStart n => Sys2Proof.Machine.execWriteSectorStart n s
  | .writeGateDrop n => Sys2Proof.Machine.execWriteGateDrop n s
  | .writeRunEnd n => Sys2Proof.Machine.execWriteRunEnd n s
  | .writeRetry a => Sys2Proof.Machine.execWriteRetry a s
  | .shockComparatorTrip a mv => Sys2Proof.Machine.execShockComparatorTrip a mv s
  | .shockInhibitRelease a => Sys2Proof.Machine.execShockInhibitRelease a s
  | .wrpInjectArm v who => Sys2Proof.Machine.execWrpInjectArm v who s
  | .servoWedgeAccept n flip pair mismatch ns => Sys2Proof.Machine.execServoWedgeAccept n flip pair mismatch ns s
  | .gatherClose a pair mismatch ns => Sys2Proof.Machine.execGatherClose a pair mismatch ns s
  | .servoTick a pair mismatch => Sys2Proof.Machine.execServoTick a pair mismatch s
  | .loopFaultInnov k => Sys2Proof.Machine.execLoopFaultInnov k s
  | .loopFaultLost k => Sys2Proof.Machine.execLoopFaultLost k s
  | .loopFaultSat k => Sys2Proof.Machine.execLoopFaultSat k s
  | .integratorClampWarn k => Sys2Proof.Machine.execIntegratorClampWarn k s
  | .fetchTmo a => Sys2Proof.Machine.execFetchTmo a s
  | .sitTmo k => Sys2Proof.Machine.execSitTmo k s
  | .loadTmo a => Sys2Proof.Machine.execLoadTmo a s
  | .reacqTmo a => Sys2Proof.Machine.execReacqTmo a s
  | .unloadTmo a => Sys2Proof.Machine.execUnloadTmo a s
  | .servoLoadOrder j flip => Sys2Proof.Machine.execServoLoadOrder j flip s
  | .servoFetchOrder j flip => Sys2Proof.Machine.execServoFetchOrder j flip s
  | .servoStayOrder j flip => Sys2Proof.Machine.execServoStayOrder j flip s
  | .servoUnloadOrder j retract flip => Sys2Proof.Machine.execServoUnloadOrder j retract flip s
  | .servoOffsetOrder j flip => Sys2Proof.Machine.execServoOffsetOrder j flip s
  | .servoOrderRefused j flip => Sys2Proof.Machine.execServoOrderRefused j flip s
  | .coefMemoryWrite a v who => Sys2Proof.Machine.execCoefMemoryWrite a v who s
  | .srvInjectArm v who => Sys2Proof.Machine.execSrvInjectArm v who s
  | .actSetFrame a ch => Sys2Proof.Machine.execActSetFrame a ch s
  | .actReplyReceive a chars => Sys2Proof.Machine.execActReplyReceive a chars s
  | .actReplyTimeout a => Sys2Proof.Machine.execActReplyTimeout a s
  | .actFaultInput low => Sys2Proof.Machine.execActFaultInput low s
  | .powerStageDiscovery a => Sys2Proof.Machine.execPowerStageDiscovery a s
  | .functionChannelRefresh c => Sys2Proof.Machine.execFunctionChannelRefresh c s
  | .actInjectArm v who => Sys2Proof.Machine.execActInjectArm v who s
  | .accelSample b => Sys2Proof.Machine.execAccelSample b s
  | .resolverSample sn cs => Sys2Proof.Machine.execResolverSample sn cs s
  | .revolutionComplete => Sys2Proof.Machine.execRevolutionComplete s
  | .lockTimeout => Sys2Proof.Machine.execLockTimeout s
  | .pwmPeriod cu cv cw => Sys2Proof.Machine.execPwmPeriod cu cv cw s
  | .spnDemandWrite v who => Sys2Proof.Machine.execSpnDemandWrite v who s
  | .startMeasureDone => Sys2Proof.Machine.execStartMeasureDone s
  | .alignDone => Sys2Proof.Machine.execAlignDone s
  | .spindleStopped => Sys2Proof.Machine.execSpindleStopped s
  | .vbusSample c => Sys2Proof.Machine.execVbusSample c s
  | .chopperWindowEnd => Sys2Proof.Machine.execChopperWindowEnd s
  | .ovHoldEnd => Sys2Proof.Machine.execOvHoldEnd s
  | .regenEnd => Sys2Proof.Machine.execRegenEnd s
  | .spnInjectArm v who => Sys2Proof.Machine.execSpnInjectArm v who s
  | .bufferBringup selfRefresh => Sys2Proof.Machine.execBufferBringup selfRefresh s
  | .trainingDone fails => Sys2Proof.Machine.execTrainingDone fails s
  | .bufRequestGrant edc upsets bad => Sys2Proof.Machine.execBufRequestGrant edc upsets bad s
  | .fillTrackerTimeout => Sys2Proof.Machine.execFillTrackerTimeout s
  | .bufPeriodicRetrain => Sys2Proof.Machine.execBufPeriodicRetrain s
  | .vclrCntWrite v who => Sys2Proof.Machine.execVclrCntWrite v who s
  | .vclrDone => Sys2Proof.Machine.execVclrDone s
  | .tbufConfigWrite a v who => Sys2Proof.Machine.execTbufConfigWrite a v who s
  | .tbclrWrite a v who => Sys2Proof.Machine.execTbclrWrite a v who s
  | .markDeviceDead t x => Sys2Proof.Machine.execMarkDeviceDead t x s
  | .markDeviceAlive t x fail => Sys2Proof.Machine.execMarkDeviceAlive t x fail s
  | .resilverGranule edc => Sys2Proof.Machine.execResilverGranule edc s
  | .scrubSlot edc upsets => Sys2Proof.Machine.execScrubSlot edc upsets s
  | .scrubPassOverrun => Sys2Proof.Machine.execScrubPassOverrun s
  | .bufInjectArm v who => Sys2Proof.Machine.execBufInjectArm v who s
  | .mdcLineRead tag stream line sram tags bad => Sys2Proof.Machine.execMdcLineRead tag stream line sram tags bad s
  | .mdcLineWrite tag stream line mask data sram tags bad => Sys2Proof.Machine.execMdcLineWrite tag stream line mask data sram tags bad s
  | .mdcBadOp tag => Sys2Proof.Machine.execMdcBadOp tag s
  | .mdcFillLand => Sys2Proof.Machine.execMdcFillLand s
  | .mopFetch who => Sys2Proof.Machine.execMopFetch who s
  | .mopZero who => Sys2Proof.Machine.execMopZero who s
  | .mopClean who => Sys2Proof.Machine.execMopClean who s
  | .mopInval who => Sys2Proof.Machine.execMopInval who s
  | .mopCleanInval who => Sys2Proof.Machine.execMopCleanInval who s
  | .mopReserved op who => Sys2Proof.Machine.execMopReserved op who s
  | .mopDone => Sys2Proof.Machine.execMopDone s
  | .mdcInjectArm v who => Sys2Proof.Machine.execMdcInjectArm v who s
  | .dmaPost seq post => Sys2Proof.Machine.execDmaPost seq post s
  | .dmaBurstIssue e => Sys2Proof.Machine.execDmaBurstIssue e s
  | .dmaReadData sram => Sys2Proof.Machine.execDmaReadData sram s
  | .dmaWriteResponse e => Sys2Proof.Machine.execDmaWriteResponse e s
  | .dmaStop x who => Sys2Proof.Machine.execDmaStop x who s
  | .dmaResume x who => Sys2Proof.Machine.execDmaResume x who s
  | .dmaDoorbell x who => Sys2Proof.Machine.execDmaDoorbell x who s
  | .dmaHostDescriptorFetched x desc => Sys2Proof.Machine.execDmaHostDescriptorFetched x desc s
  | .dmaInjectArm v who => Sys2Proof.Machine.execDmaInjectArm v who s
  | .sqTailDoorbell c q v => Sys2Proof.Machine.execSqTailDoorbell c q v s
  | .cqHeadDoorbell c q v => Sys2Proof.Machine.execCqHeadDoorbell c q v s
  | .sqEntryFetch c cids => Sys2Proof.Machine.execSqEntryFetch c cids s
  | .cqEntryPost c q => Sys2Proof.Machine.execCqEntryPost c q s
  | .coalesceTimeout c v => Sys2Proof.Machine.execCoalesceTimeout c v s
  | .hostReadCompletion id res => Sys2Proof.Machine.execHostReadCompletion id res s
  | .hostCompletionTimeout id => Sys2Proof.Machine.execHostCompletionTimeout id s
  | .hostWritePoisoned c => Sys2Proof.Machine.execHostWritePoisoned c s
  | .bar2Access c a size wr => Sys2Proof.Machine.execBar2Access c a size wr s
  | .ccEnable c cc aqa asq acq cfg => Sys2Proof.Machine.execCcEnable c cc aqa asq acq cfg s
  | .controllerReset c => Sys2Proof.Machine.execControllerReset c s
  | .functionLevelReset c => Sys2Proof.Machine.execFunctionLevelReset c s
  | .portHotReset p perst => Sys2Proof.Machine.execPortHotReset p perst s
  | .shutdownNotify c => Sys2Proof.Machine.execShutdownNotify c s
  | .nvmSubsystemReset => Sys2Proof.Machine.execNvmSubsystemReset s
  | .linkUp p speed width flit => Sys2Proof.Machine.execLinkUp p speed width flit s
  | .portDlDown p => Sys2Proof.Machine.execPortDlDown p s
  | .linkRecoveryTimeout p => Sys2Proof.Machine.execLinkRecoveryTimeout p s
  | .linkRetrained p us => Sys2Proof.Machine.execLinkRetrained p us s
  | .miMessage msg => Sys2Proof.Machine.execMiMessage msg s
  | .bmcBasicRead => Sys2Proof.Machine.execBmcBasicRead s
  | .diagChallenge t => Sys2Proof.Machine.execDiagChallenge t s
  | .diagUnlock t answer => Sys2Proof.Machine.execDiagUnlock t answer s
  | .diagLock t => Sys2Proof.Machine.execDiagLock t s
  | .createIoSq t qid size cqid base pc => Sys2Proof.Machine.execCreateIoSq t qid size cqid base pc s
  | .createIoCq t qid size iv base ien pc => Sys2Proof.Machine.execCreateIoCq t qid size iv base ien pc s
  | .deleteIoSq t qid => Sys2Proof.Machine.execDeleteIoSq t qid s
  | .deleteIoCq t qid => Sys2Proof.Machine.execDeleteIoCq t qid s
  | .invalidOpcode t => Sys2Proof.Machine.execInvalidOpcode t s
  | .identify t cns csi nsid cntid => Sys2Proof.Machine.execIdentify t cns csi nsid cntid s
  | .getLogErrorInfo t rae lpo len => Sys2Proof.Machine.execGetLogErrorInfo t rae lpo len s
  | .getLogSmartHealth t rae nsid lpo len => Sys2Proof.Machine.execGetLogSmartHealth t rae nsid lpo len s
  | .getLogFirmwareSlot t rae lpo len => Sys2Proof.Machine.execGetLogFirmwareSlot t rae lpo len s
  | .getLogChangedNs t rae lpo len => Sys2Proof.Machine.execGetLogChangedNs t rae lpo len s
  | .getLogCmdEffects t rae lpo len => Sys2Proof.Machine.execGetLogCmdEffects t rae lpo len s
  | .getLogWpRecovery t rae lpo len => Sys2Proof.Machine.execGetLogWpRecovery t rae lpo len s
  | .getLogFormatTables t rae lsp lpo len => Sys2Proof.Machine.execGetLogFormatTables t rae lsp lpo len s
  | .getLogBufferHealth t rae lpo len => Sys2Proof.Machine.execGetLogBufferHealth t rae lpo len s
  | .getLogHeldRuns t rae lpo len => Sys2Proof.Machine.execGetLogHeldRuns t rae lpo len s
  | .getLogInvalid t => Sys2Proof.Machine.execGetLogInvalid t s
  | .getFeatures t fid sel arg => Sys2Proof.Machine.execGetFeatures t fid sel arg s
  | .setFeatureArbitration t save w => Sys2Proof.Machine.execSetFeatureArbitration t save w s
  | .setFeaturePowerMgmt t save w => Sys2Proof.Machine.execSetFeaturePowerMgmt t save w s
  | .setFeatureTempThreshold t save w => Sys2Proof.Machine.execSetFeatureTempThreshold t save w s
  | .setFeatureWriteCache t save w => Sys2Proof.Machine.execSetFeatureWriteCache t save w s
  | .setFeatureNumQueues t save w => Sys2Proof.Machine.execSetFeatureNumQueues t save w s
  | .setFeatureIntCoalescing t save w => Sys2Proof.Machine.execSetFeatureIntCoalescing t save w s
  | .setFeatureIntVectorCfg t save w => Sys2Proof.Machine.execSetFeatureIntVectorCfg t save w s
  | .setFeatureAsyncEventCfg t save w => Sys2Proof.Machine.execSetFeatureAsyncEventCfg t save w s
  | .setFeatureHostBehavior t save w => Sys2Proof.Machine.execSetFeatureHostBehavior t save w s
  | .setFeatureOrderedQueue t save w => Sys2Proof.Machine.execSetFeatureOrderedQueue t save w s
  | .asyncEventRequest t => Sys2Proof.Machine.execAsyncEventRequest t s
  | .abort t sqid cid => Sys2Proof.Machine.execAbort t sqid cid s
  | .contextInterrupt q c entry victim => Sys2Proof.Machine.execContextInterrupt q c entry victim s
  | .namespaceLayout t w10 w11 w12 => Sys2Proof.Machine.execNamespaceLayout t w10 w11 w12 s
  | .namespaceCreate t nsze ncap => Sys2Proof.Machine.execNamespaceCreate t nsze ncap s
  | .namespaceDelete t nsid => Sys2Proof.Machine.execNamespaceDelete t nsid s
  | .namespaceAttach t nsid ids => Sys2Proof.Machine.execNamespaceAttach t nsid ids s
  | .namespaceDetach t nsid ids => Sys2Proof.Machine.execNamespaceDetach t nsid ids s
  | .nvmRead t nsid slba nlb0 segs => Sys2Proof.Machine.execNvmRead t nsid slba nlb0 segs s
  | .nvmWrite t nsid slba nlb0 fua segs buf => Sys2Proof.Machine.execNvmWrite t nsid slba nlb0 fua segs buf s
  | .writeZeroes t nsid slba nlb0 fua => Sys2Proof.Machine.execWriteZeroes t nsid slba nlb0 fua s
  | .zoneAppend t nsid zslba nlb0 fua segs buf => Sys2Proof.Machine.execZoneAppend t nsid zslba nlb0 fua segs buf s
  | .nvmFlush t nsid => Sys2Proof.Machine.execNvmFlush t nsid s
  | .zoneContextRequest ctx tag put stream sram tags => Sys2Proof.Machine.execZoneContextRequest ctx tag put stream sram tags s
  | .journalHalfSwitch => Sys2Proof.Machine.execJournalHalfSwitch s
  | .destageOrder q nsid slba n => Sys2Proof.Machine.execDestageOrder q nsid slba n s
  | .mediaOrder t q nsid slba n => Sys2Proof.Machine.execMediaOrder t q nsid slba n s
  | .zoneClose t nsid slba all => Sys2Proof.Machine.execZoneClose t nsid slba all s
  | .zoneFinish t nsid slba all => Sys2Proof.Machine.execZoneFinish t nsid slba all s
  | .zoneOpen t nsid slba all => Sys2Proof.Machine.execZoneOpen t nsid slba all s
  | .zoneReset t nsid slba all => Sys2Proof.Machine.execZoneReset t nsid slba all s
  | .zoneOffline t nsid => Sys2Proof.Machine.execZoneOffline t nsid s
  | .setZoneDescExt t => Sys2Proof.Machine.execSetZoneDescExt t s
  | .reportZones t nsid slba opt part len => Sys2Proof.Machine.execReportZones t nsid slba opt part len s
  | .extendedReportZones t => Sys2Proof.Machine.execExtendedReportZones t s
  | .controlSpaceReadCmd t a => Sys2Proof.Machine.execControlSpaceReadCmd t a s
  | .controlSpaceWriteCmd t a v => Sys2Proof.Machine.execControlSpaceWriteCmd t a v s
  | .commitCmd t cdw10 => Sys2Proof.Machine.execCommitCmd t cdw10 s
  | .blockCommit b who => Sys2Proof.Machine.execBlockCommit b who s
  | .domainCommit dom who => Sys2Proof.Machine.execDomainCommit dom who s
  | .bufferDeviceStateCmd t x alive => Sys2Proof.Machine.execBufferDeviceStateCmd t x alive s
  | .cryptoErase t nsid => Sys2Proof.Machine.execCryptoErase t nsid s
  | .keyStateReceive t len => Sys2Proof.Machine.execKeyStateReceive t len s
  | .securityProtocolList t len => Sys2Proof.Machine.execSecurityProtocolList t len s
  | .zoneRecovery ends => Sys2Proof.Machine.execZoneRecovery ends s
  | .zneInjectArm v who => Sys2Proof.Machine.execZneInjectArm v who s
  | .ringLinkUp p skew first => Sys2Proof.Machine.execRingLinkUp p skew first s
  | .ringFrameCrcFail p a b => Sys2Proof.Machine.execRingFrameCrcFail p a b s
  | .ringFrameForward p f => Sys2Proof.Machine.execRingFrameForward p f s
  | .idleFrame p => Sys2Proof.Machine.execIdleFrame p s
  | .ackFrame p ackseq held cret again => Sys2Proof.Machine.execAckFrame p ackseq held cret again s
  | .ackTimer p => Sys2Proof.Machine.execAckTimer p s
  | .frameResendTimeout p => Sys2Proof.Machine.execFrameResendTimeout p s
  | .ringPortFailed p why => Sys2Proof.Machine.execRingPortFailed p why s
  | .ringPortRetrain p => Sys2Proof.Machine.execRingPortRetrain p s
  | .joinChalFrame p f => Sys2Proof.Machine.execJoinChalFrame p f s
  | .joinRespFrame p f => Sys2Proof.Machine.execJoinRespFrame p f s
  | .joinConfFrame p f => Sys2Proof.Machine.execJoinConfFrame p f s
  | .joinTimeout p => Sys2Proof.Machine.execJoinTimeout p s
  | .joinBackoffExpiry p => Sys2Proof.Machine.execJoinBackoffExpiry p s
  | .blockTagFail p f => Sys2Proof.Machine.execBlockTagFail p f s
  | .helloFrame p f => Sys2Proof.Machine.execHelloFrame p f s
  | .enumQuietExpiry => Sys2Proof.Machine.execEnumQuietExpiry s
  | .rreqFrame p f => Sys2Proof.Machine.execRreqFrame p f s
  | .rdataFrame p f => Sys2Proof.Machine.execRdataFrame p f s
  | .jobStartFrame p f => Sys2Proof.Machine.execJobStartFrame p f s
  | .accFrame p f => Sys2Proof.Machine.execAccFrame p f s
  | .jcreditFrame p f => Sys2Proof.Machine.execJcreditFrame p f s
  | .jendFrame p f => Sys2Proof.Machine.execJendFrame p f s
  | .eceFold own tgt job b edc mism => Sys2Proof.Machine.execEceFold own tgt job b edc mism s
  | .jobTimeout job => Sys2Proof.Machine.execJobTimeout job s
  | .participantTimeout tgt job => Sys2Proof.Machine.execParticipantTimeout tgt job s
  | .ringAdminStatus t len => Sys2Proof.Machine.execRingAdminStatus t len s
  | .ringAdminSetKey t data => Sys2Proof.Machine.execRingAdminSetKey t data s
  | .ringAdminPorts t cdw12 => Sys2Proof.Machine.execRingAdminPorts t cdw12 s
  | .ringAdminExport t nsid on => Sys2Proof.Machine.execRingAdminExport t nsid on s
  | .ringAdminReconstruct t len dptr desc buf => Sys2Proof.Machine.execRingAdminReconstruct t len dptr desc buf s
  | .ringAdminRemoteRead t node nlb nsid slba segs => Sys2Proof.Machine.execRingAdminRemoteRead t node nlb nsid slba segs s
  | .ringAdminWhistle t cdw12 => Sys2Proof.Machine.execRingAdminWhistle t cdw12 s
  | .ringAdminInvalid t => Sys2Proof.Machine.execRingAdminInvalid t s
  | .whistleGoWrite v who => Sys2Proof.Machine.execWhistleGoWrite v who s
  | .whistleDetected p periods => Sys2Proof.Machine.execWhistleDetected p periods s
  | .rngInjectArm v who => Sys2Proof.Machine.execRngInjectArm v who s
  | .eceInjectArm v who => Sys2Proof.Machine.execEceInjectArm v who s
  | .routineDispatch q a => Sys2Proof.Machine.execRoutineDispatch q a s
  | .uwordWaitUntil q t f => Sys2Proof.Machine.execUwordWaitUntil q t f s
  | .uwordWaitWhile q t f => Sys2Proof.Machine.execUwordWaitWhile q t f s
  | .uwordBranch q t f => Sys2Proof.Machine.execUwordBranch q t f s
  | .uwordJump q t f => Sys2Proof.Machine.execUwordJump q t f s
  | .uwordCall q t f => Sys2Proof.Machine.execUwordCall q t f s
  | .uwordReturn q t f => Sys2Proof.Machine.execUwordReturn q t f s
  | .uwordMov q t f => Sys2Proof.Machine.execUwordMov q t f s
  | .uwordAdd q t f => Sys2Proof.Machine.execUwordAdd q t f s
  | .uwordSub q t f => Sys2Proof.Machine.execUwordSub q t f s
  | .uwordAnd q t f => Sys2Proof.Machine.execUwordAnd q t f s
  | .uwordOr q t f => Sys2Proof.Machine.execUwordOr q t f s
  | .uwordXor q t f => Sys2Proof.Machine.execUwordXor q t f s
  | .uwordShl q t f => Sys2Proof.Machine.execUwordShl q t f s
  | .uwordShr q t f => Sys2Proof.Machine.execUwordShr q t f s
  | .uwordCmp q t f => Sys2Proof.Machine.execUwordCmp q t f s
  | .uwordLdc q t f => Sys2Proof.Machine.execUwordLdc q t f s
  | .uwordStc q t f => Sys2Proof.Machine.execUwordStc q t f s
  | .uwordMin q t f => Sys2Proof.Machine.execUwordMin q t f s
  | .uwordMax q t f => Sys2Proof.Machine.execUwordMax q t f s
  | .uwordSendq q t f => Sys2Proof.Machine.execUwordSendq q t f s
  | .uwordSend q t f => Sys2Proof.Machine.execUwordSend q t f s
  | .uwordRecv q t f => Sys2Proof.Machine.execUwordRecv q t f s
  | .uwordCsrRd q t f => Sys2Proof.Machine.execUwordCsrRd q t f s
  | .uwordCsrWr q t f => Sys2Proof.Machine.execUwordCsrWr q t f s
  | .uwordLock q t f => Sys2Proof.Machine.execUwordLock q t f s
  | .uwordCommit q t f => Sys2Proof.Machine.execUwordCommit q t f s
  | .uwordDrop q t f => Sys2Proof.Machine.execUwordDrop q t f s
  | .threadTimerExpiry q t => Sys2Proof.Machine.execThreadTimerExpiry q t s
  | .mutexClaimWrite m who => Sys2Proof.Machine.execMutexClaimWrite m who s
  | .mutexReleaseWrite m who => Sys2Proof.Machine.execMutexReleaseWrite m who s
  | .flagSetWrite q v who => Sys2Proof.Machine.execFlagSetWrite q v who s
  | .flagClearWrite q v who => Sys2Proof.Machine.execFlagClearWrite q v who s
  | .seqInjectArm v who => Sys2Proof.Machine.execSeqInjectArm v who s
  | .flashRead slot flips => Sys2Proof.Machine.execFlashRead slot flips s
  | .flashProgram slot => Sys2Proof.Machine.execFlashProgram slot s
  | .flashErase slot => Sys2Proof.Machine.execFlashErase slot s
  | .flashSuspend slot => Sys2Proof.Machine.execFlashSuspend slot s
  | .flashResume slot => Sys2Proof.Machine.execFlashResume slot s
  | .flashBadOp slot op => Sys2Proof.Machine.execFlashBadOp slot op s
  | .flashProgramVerify k same => Sys2Proof.Machine.execFlashProgramVerify k same s
  | .flashEraseVerify k blank => Sys2Proof.Machine.execFlashEraseVerify k blank s
  | .flashAutoSuspend k => Sys2Proof.Machine.execFlashAutoSuspend k s
  | .flashAutoResume k => Sys2Proof.Machine.execFlashAutoResume k s
  | .flashIntentScan => Sys2Proof.Machine.execFlashIntentScan s
  | .flashExecStart region => Sys2Proof.Machine.execFlashExecStart region s
  | .flashExecStop => Sys2Proof.Machine.execFlashExecStop s
  | .flashExecFetch word flips => Sys2Proof.Machine.execFlashExecFetch word flips s
  | .flcInjectArm v who => Sys2Proof.Machine.execFlcInjectArm v who s
  | .imageLoad => Sys2Proof.Machine.execImageLoad s
  | .firmwareImageDownload t ofs piece => Sys2Proof.Machine.execFirmwareImageDownload t ofs piece s
  | .firmwareCommitCa0 t fs => Sys2Proof.Machine.execFirmwareCommitCa0 t fs s
  | .firmwareCommitCa1 t fs => Sys2Proof.Machine.execFirmwareCommitCa1 t fs s
  | .firmwareCommitCa2 t fs => Sys2Proof.Machine.execFirmwareCommitCa2 t fs s
  | .firmwareCommitOther t ca => Sys2Proof.Machine.execFirmwareCommitOther t ca s
  | .powerMoveStep => Sys2Proof.Machine.execPowerMoveStep s
  | .spindleStopTimeout => Sys2Proof.Machine.execSpindleStopTimeout s
  | .headRequestRead n who => Sys2Proof.Machine.execHeadRequestRead n who s
  | .headRequestWrite n who => Sys2Proof.Machine.execHeadRequestWrite n who s
  | .headRelease n who => Sys2Proof.Machine.execHeadRelease n who s
  | .vcoreThresholdCross meas => Sys2Proof.Machine.execVcoreThresholdCross meas s
  | .padReleaseWrite v who => Sys2Proof.Machine.execPadReleaseWrite v who s
  | .wakeSource src => Sys2Proof.Machine.execWakeSource src s
  | .smbusAddressMatch addr => Sys2Proof.Machine.execSmbusAddressMatch addr s
  | .powerFailSequence vb => Sys2Proof.Machine.execPowerFailSequence vb s
  | .pwrInjectArm v who => Sys2Proof.Machine.execPwrInjectArm v who s
  | .logEventAccept bad sram => Sys2Proof.Machine.execLogEventAccept bad sram s
  | .bucketRefill b => Sys2Proof.Machine.execBucketRefill b s
  | .logFlushBatch => Sys2Proof.Machine.execLogFlushBatch s
  | .logEpochScan => Sys2Proof.Machine.execLogEpochScan s
  | .logbookRead t cdw10 numr first len => Sys2Proof.Machine.execLogbookRead t cdw10 numr first len s
  | .logInjectArm v who => Sys2Proof.Machine.execLogInjectArm v who s
  | .kennelPowerOn => Sys2Proof.Machine.execKennelPowerOn s
  | .kennelSupplySwitch vaux => Sys2Proof.Machine.execKennelSupplySwitch vaux s
  | .corePgRise => Sys2Proof.Machine.execCorePgRise s
  | .corePgLate => Sys2Proof.Machine.execCorePgLate s
  | .corePgFall => Sys2Proof.Machine.execCorePgFall s
  | .overTempRise tj sensor => Sys2Proof.Machine.execOverTempRise tj sensor s
  | .overTempFall tj => Sys2Proof.Machine.execOverTempFall tj s
  | .ringLinkDown p => Sys2Proof.Machine.execRingLinkDown p s
  | .whistleEnd p => Sys2Proof.Machine.execWhistleEnd p s
  | .perstRelease p => Sys2Proof.Machine.execPerstRelease p s
  | .pciPowerStateWrite c d3 pme => Sys2Proof.Machine.execPciPowerStateWrite c d3 pme s
  | .kennelPowerLost => Sys2Proof.Machine.execKennelPowerLost s
  | .nssrDestageLimit => Sys2Proof.Machine.execNssrDestageLimit s

end Sys2Proof.Machine
end

