-- ==== Sys2Proof/Machine/Tick.lean ====
section
/-! DEFINITION. Machine/Tick.lean: what time does by itself while no command waits (R24, R507). -/
namespace Sys2Proof.Machine

/-- One step of TBASE (R24), which runs while the kennel has power; while it counts from the crystal RUNNING is 1 (R29). With it, whatever ends as soon as nothing stands in its way any more ends: a whole
millisecond is counted for the present state (R507), CORE_VID takes its next step (R539), a namespace delete or crypto erase whose commands are gone completes (R330, R353), ring jobs
look again (R392), a scheduled roll request that waits is granted if it may be (R50), tokens and commands that wait for a credit or a context go on (R413, R422), and a destaged subsystem reset acts (R317). (DESIGN CHOICE, log entry 5; DESIGN CHOICE, log entry 57) -/
def Dev.tick (d : Dev) : Dev :=
  if !d.pwr.kennel then d
  else
    let d := ({ d with tbase := d.tbase + 4 }).countMs.driveVid
    let d := if d.pwr.xtal && !d.flag F.KNL_TBASE_STAT_RUNNING then d.setFld F.KNL_TBASE_STAT_RUNNING 1 else d
    if !d.live 1 then d
    else
      let d := d.drainNs.ringSettle.rollGrant.drainAll.bindAll
      if d.hst.nssr.isSome && d.shutdownDone then d.nssrEnd else d

end Sys2Proof.Machine
end

