-- ==== Sys2Proof/WellFormed.lean ====
section
/-! DEFINITION. WellFormed.lean: which commands the formats of the spec can spell: the lengths and ranges of those operands whose type is wider than
their field. exec answers for every command; these are the ones a sender can send. -/
namespace Sys2Proof

/-- A ring frame of type `ty` fits the fields of Tables 13.2 to 13.4. -/
def RFrame.wellFormed (f : RFrame) (ty : Nat) : Bool :=
  decide (f.ftype = ty) && decide (f.flags < 256) && decide (f.seq < 65536) && decide (f.epoch < 65536) && decide (f.src < 256) && decide (f.dst < 256) &&
    decide (f.tgt < 256) && decide (f.job < 65536) && decide (f.hops < 256)

/-- Flipped bits lie in the 64 data bytes or the column byte of a block, each with its parity bit (R246). -/
def SramBits.wellFormed (x : SramBits) : Bool := x.flips.all fun f => decide (f.1 ≤ 64) && decide (f.2 ≤ 8)

/-- The flips a fetch names lie in the blocks it reads. -/
def Fetch.wellFormed (f : Fetch) : Bool := f.patch.wellFormed && f.regs.wellFormed && f.ctx.wellFormed

/-- A lane's samples of one block are 97 numbers of 7 bits (R87, R96). -/
def lanesFit (l : List Int) : Bool := decide (l.length = 97) && l.all fun x => decide (-64 ≤ x ∧ x < 64)

/-- The command is one that its sender can send. -/
def Instr.wellFormed : Instr → Bool
  | .registerWrite .. => true
  | .tokenSend .. => true
  | .tokenAccept _ _ _ _ sram => sram.wellFormed
  | .creditReturn .. => true
  | .eventOffer .. => true
  | .eventCreditRegained .. => true
  | .backgroundPromotion .. => true
  | .stallDetected .. => true
  | .registerParitySweep .. => true
  | .tbaseDupMismatch => true
  | .xtalLost => true
  | .tbaseLoRead => true
  | .rollCallRequest => true
  | .rollTokenAtBank .. => true
  | .rollCallComplete => true
  | .rollPeriodDue => true
  | .rollCallCmd .. => true
  | .wedgeDemodulated .. => true
  | .samWindowMiss .. => true
  | .sectorRunOrder .. => true
  | .sectorStart .. => true
  | .thermalAsperity .. => true
  | .pllLockLost .. => true
  | .loopUpdateBlock _ a b _ => lanesFit a && lanesFit b
  | .softBlockSend .. => true
  | .chRunEnd .. => true
  | .decBlockAccept .. => true
  | .decoderSlotTake .. => true
  | .decodeEnd .. => true
  | .parkedRedecode .. => true
  | .decSectorWriteResponse => true
  | .sectorReportReceive .. => true
  | .retryLadderStep .. => true
  | .decInjectArm .. => true
  | .alinkCommandSend .. => true
  | .alinkReplyReceive .. => true
  | .alinkReplyTimeout .. => true
  | .preampFaultInput .. => true
  | .armLinkBringup .. => true
  | .writeRunOrder .. => true
  | .heaterNotice .. => true
  | .heaterPreheatDone .. => true
  | .wrpSectorData .. => true
  | .writeSectorStart .. => true
  | .writeGateDrop .. => true
  | .writeRunEnd .. => true
  | .writeRetry .. => true
  | .shockComparatorTrip .. => true
  | .shockInhibitRelease .. => true
  | .wrpInjectArm .. => true
  | .servoWedgeAccept .. => true
  | .gatherClose .. => true
  | .servoTick .. => true
  | .loopFaultInnov .. => true
  | .loopFaultLost .. => true
  | .loopFaultSat .. => true
  | .integratorClampWarn .. => true
  | .fetchTmo .. => true
  | .sitTmo .. => true
  | .loadTmo .. => true
  | .reacqTmo .. => true
  | .unloadTmo .. => true
  | .servoLoadOrder .. => true
  | .servoFetchOrder .. => true
  | .servoStayOrder .. => true
  | .servoUnloadOrder .. => true
  | .servoOffsetOrder .. => true
  | .servoOrderRefused .. => true
  | .coefMemoryWrite .. => true
  | .srvInjectArm .. => true
  | .actSetFrame .. => true
  | .actReplyReceive _ chars => decide (chars.length = 6)
  | .actReplyTimeout .. => true
  | .actFaultInput .. => true
  | .powerStageDiscovery .. => true
  | .functionChannelRefresh .. => true
  | .actInjectArm .. => true
  | .accelSample b => decide (b.length = 6)
  | .resolverSample .. => true
  | .revolutionComplete .. => true
  | .lockTimeout => true
  | .pwmPeriod .. => true
  | .spnDemandWrite .. => true
  | .startMeasureDone => true
  | .alignDone => true
  | .spindleStopped => true
  | .vbusSample .. => true
  | .chopperWindowEnd .. => true
  | .ovHoldEnd => true
  | .regenEnd => true
  | .spnInjectArm .. => true
  | .bufferBringup .. => true
  | .trainingDone fails => decide (fails.length = 6)
  | .bufRequestGrant .. => true
  | .fillTrackerTimeout => true
  | .bufPeriodicRetrain => true
  | .vclrCntWrite .. => true
  | .vclrDone => true
  | .tbufConfigWrite .. => true
  | .tbclrWrite .. => true
  | .markDeviceDead .. => true
  | .markDeviceAlive .. => true
  | .resilverGranule .. => true
  | .scrubSlot .. => true
  | .scrubPassOverrun => true
  | .bufInjectArm .. => true
  | .mdcLineRead _ _ _ sram tags _ => sram.wellFormed && tags.wellFormed
  | .mdcLineWrite _ _ _ _ data sram tags _ => decide (data.length = 128) && sram.wellFormed && tags.wellFormed
  | .mdcBadOp .. => true
  | .mdcFillLand => true
  | .mopFetch .. => true
  | .mopZero .. => true
  | .mopClean .. => true
  | .mopInval .. => true
  | .mopCleanInval .. => true
  | .mopReserved .. => true
  | .mopDone => true
  | .mdcInjectArm .. => true
  | .dmaPost _ post => decide (post.length = 40)
  | .dmaBurstIssue .. => true
  | .dmaReadData sram => sram.wellFormed
  | .dmaWriteResponse .. => true
  | .dmaStop .. => true
  | .dmaResume .. => true
  | .dmaDoorbell .. => true
  | .dmaHostDescriptorFetched _ desc => decide (desc.length = 32)
  | .dmaInjectArm .. => true
  | .sqTailDoorbell .. => true
  | .cqHeadDoorbell .. => true
  | .sqEntryFetch .. => true
  | .cqEntryPost .. => true
  | .coalesceTimeout .. => true
  | .hostReadCompletion .. => true
  | .hostCompletionTimeout .. => true
  | .hostWritePoisoned .. => true
  | .bar2Access _ _ size _ => decide (0 < size)
  | .ccEnable .. => true
  | .controllerReset .. => true
  | .functionLevelReset .. => true
  | .portHotReset .. => true
  | .shutdownNotify .. => true
  | .nvmSubsystemReset => true
  | .linkUp .. => true
  | .portDlDown .. => true
  | .linkRecoveryTimeout .. => true
  | .linkRetrained .. => true
  | .miMessage .. => true
  | .bmcBasicRead => true
  | .diagChallenge .. => true
  | .diagUnlock _ answer => decide (answer.length = 32)
  | .diagLock .. => true
  | .createIoSq .. => true
  | .createIoCq .. => true
  | .deleteIoSq .. => true
  | .deleteIoCq .. => true
  | .invalidOpcode .. => true
  | .identify .. => true
  | .getLogErrorInfo .. => true
  | .getLogSmartHealth .. => true
  | .getLogFirmwareSlot .. => true
  | .getLogChangedNs .. => true
  | .getLogCmdEffects .. => true
  | .getLogWpRecovery .. => true
  | .getLogFormatTables .. => true
  | .getLogBufferHealth .. => true
  | .getLogHeldRuns .. => true
  | .getLogInvalid .. => true
  | .getFeatures .. => true
  | .setFeatureArbitration .. => true
  | .setFeaturePowerMgmt .. => true
  | .setFeatureTempThreshold .. => true
  | .setFeatureWriteCache .. => true
  | .setFeatureNumQueues .. => true
  | .setFeatureIntCoalescing .. => true
  | .setFeatureIntVectorCfg .. => true
  | .setFeatureAsyncEventCfg .. => true
  | .setFeatureHostBehavior .. => true
  | .setFeatureOrderedQueue .. => true
  | .asyncEventRequest .. => true
  | .abort .. => true
  | .contextInterrupt .. => true
  | .namespaceLayout .. => true
  | .namespaceCreate .. => true
  | .namespaceDelete .. => true
  | .namespaceAttach .. => true
  | .namespaceDetach .. => true
  | .nvmRead .. => true
  | .nvmWrite .. => true
  | .writeZeroes .. => true
  | .zoneAppend .. => true
  | .nvmFlush .. => true
  | .zoneContextRequest _ _ _ _ sram tags => sram.wellFormed && tags.wellFormed
  | .journalHalfSwitch => true
  | .destageOrder .. => true
  | .mediaOrder .. => true
  | .zoneClose .. => true
  | .zoneFinish .. => true
  | .zoneOpen .. => true
  | .zoneReset .. => true
  | .zoneOffline .. => true
  | .setZoneDescExt .. => true
  | .reportZones .. => true
  | .extendedReportZones .. => true
  | .controlSpaceReadCmd .. => true
  | .controlSpaceWriteCmd .. => true
  | .commitCmd .. => true
  | .blockCommit .. => true
  | .domainCommit .. => true
  | .bufferDeviceStateCmd .. => true
  | .cryptoErase .. => true
  | .keyStateReceive .. => true
  | .securityProtocolList .. => true
  | .zoneRecovery .. => true
  | .zneInjectArm .. => true
  | .ringLinkUp .. => true
  | .ringFrameCrcFail .. => true
  | .ringFrameForward .. => true
  | .idleFrame .. => true
  | .ackFrame _ _ _ cret _ => decide (cret.length = 4)
  | .ackTimer .. => true
  | .frameResendTimeout .. => true
  | .ringPortFailed .. => true
  | .ringPortRetrain .. => true
  | .joinChalFrame _ f => f.wellFormed 0x80
  | .joinRespFrame _ f => f.wellFormed 0x81
  | .joinConfFrame _ f => f.wellFormed 0x82
  | .joinTimeout .. => true
  | .joinBackoffExpiry .. => true
  | .blockTagFail .. => true
  | .helloFrame _ f => f.wellFormed 0x10
  | .enumQuietExpiry => true
  | .rreqFrame _ f => f.wellFormed 0x22
  | .rdataFrame _ f => f.wellFormed 0x92
  | .jobStartFrame _ f => f.wellFormed 0x90
  | .accFrame _ f => f.wellFormed 0x91
  | .jcreditFrame _ f => f.wellFormed 0x20
  | .jendFrame _ f => f.wellFormed 0x21
  | .eceFold .. => true
  | .jobTimeout .. => true
  | .participantTimeout .. => true
  | .ringAdminStatus .. => true
  | .ringAdminSetKey _ data => decide (data.length = 64)
  | .ringAdminPorts .. => true
  | .ringAdminExport .. => true
  | .ringAdminReconstruct .. => true
  | .ringAdminRemoteRead .. => true
  | .ringAdminWhistle .. => true
  | .ringAdminInvalid .. => true
  | .whistleGoWrite .. => true
  | .whistleDetected _ periods => decide (periods.length = 16)
  | .rngInjectArm .. => true
  | .eceInjectArm .. => true
  | .routineDispatch .. => true
  | .uwordWaitUntil _ _ f => f.wellFormed
  | .uwordWaitWhile _ _ f => f.wellFormed
  | .uwordBranch _ _ f => f.wellFormed
  | .uwordJump _ _ f => f.wellFormed
  | .uwordCall _ _ f => f.wellFormed
  | .uwordReturn _ _ f => f.wellFormed
  | .uwordMov _ _ f => f.wellFormed
  | .uwordAdd _ _ f => f.wellFormed
  | .uwordSub _ _ f => f.wellFormed
  | .uwordAnd _ _ f => f.wellFormed
  | .uwordOr _ _ f => f.wellFormed
  | .uwordXor _ _ f => f.wellFormed
  | .uwordShl _ _ f => f.wellFormed
  | .uwordShr _ _ f => f.wellFormed
  | .uwordCmp _ _ f => f.wellFormed
  | .uwordLdc _ _ f => f.wellFormed
  | .uwordStc _ _ f => f.wellFormed
  | .uwordMin _ _ f => f.wellFormed
  | .uwordMax _ _ f => f.wellFormed
  | .uwordSendq _ _ f => f.wellFormed
  | .uwordSend _ _ f => f.wellFormed
  | .uwordRecv _ _ f => f.wellFormed
  | .uwordCsrRd _ _ f => f.wellFormed
  | .uwordCsrWr _ _ f => f.wellFormed
  | .uwordLock _ _ f => f.wellFormed
  | .uwordCommit _ _ f => f.wellFormed
  | .uwordDrop _ _ f => f.wellFormed
  | .threadTimerExpiry .. => true
  | .mutexClaimWrite .. => true
  | .mutexReleaseWrite .. => true
  | .flagSetWrite .. => true
  | .flagClearWrite .. => true
  | .seqInjectArm .. => true
  | .flashRead .. => true
  | .flashProgram .. => true
  | .flashErase .. => true
  | .flashSuspend .. => true
  | .flashResume .. => true
  | .flashBadOp .. => true
  | .flashProgramVerify .. => true
  | .flashEraseVerify .. => true
  | .flashAutoSuspend .. => true
  | .flashAutoResume .. => true
  | .flashIntentScan => true
  | .flashExecStart .. => true
  | .flashExecStop => true
  | .flashExecFetch .. => true
  | .flcInjectArm .. => true
  | .imageLoad => true
  | .firmwareImageDownload .. => true
  | .firmwareCommitCa0 .. => true
  | .firmwareCommitCa1 .. => true
  | .firmwareCommitCa2 .. => true
  | .firmwareCommitOther .. => true
  | .powerMoveStep => true
  | .spindleStopTimeout => true
  | .headRequestRead .. => true
  | .headRequestWrite .. => true
  | .headRelease .. => true
  | .vcoreThresholdCross .. => true
  | .padReleaseWrite .. => true
  | .wakeSource .. => true
  | .smbusAddressMatch .. => true
  | .powerFailSequence .. => true
  | .pwrInjectArm .. => true
  | .logEventAccept _ sram => sram.wellFormed
  | .bucketRefill .. => true
  | .logFlushBatch => true
  | .logEpochScan => true
  | .logbookRead .. => true
  | .logInjectArm .. => true
  | .kennelPowerOn => true
  | .kennelSupplySwitch .. => true
  | .corePgRise => true
  | .corePgLate => true
  | .corePgFall => true
  | .overTempRise .. => true
  | .overTempFall .. => true
  | .ringLinkDown .. => true
  | .whistleEnd .. => true
  | .perstRelease .. => true
  | .pciPowerStateWrite .. => true
  | .kennelPowerLost => true
  | .nssrDestageLimit => true

end Sys2Proof
end

