-- ==== Sys2Proof/Safety.lean ====
section
/-! DEFINITION. Safety.lean: what counts as a safe run, and the invariants that claims name. -/
namespace Sys2Proof.Machine

/-- The machine goes on for `k` steps: none of them stops it. -/
def SafeRun (k : Nat) (s : State) : Prop := ∃ t, Host.Core.run core k s = .next t

/-- The command completes: it answers a next state with the queue as it was, whose device `P` describes. -/
def Gives (c : Instr) (s : State) (P : Dev → Prop) : Prop := ∃ t, exec c s = .next t ∧ t.pending = s.pending ∧ P t.dev

/-- Between `d0` and `d` host command `t` has ended with status `st`: no record of it is left, and its completion entry is the last that was handed over for
posting (R307), unless its controller had been reset (R315). -/
def Ended (d0 d : Dev) (t : Tag) (st : Status) : Prop :=
  d.cmd? t = none ∧
    ((∀ c, d0.cmd? t = some c → c.silent = false) → ∃ l c, d.hst.post = d0.hst.post ++ l ++ [c] ∧ c.tag = t ∧ c.st = st)

/-- An I/O command of `t` on namespace `nsid` reaches its own checks (R329, R470, R486, Table 12.4): an image is loaded, the power state is operational, and the
namespace `n` exists, is attached, has a usable key and its buffer and zone engine are ready. -/
def IoReady (d : Dev) (t : Tag) (nsid : Nat) (n : Ns) : Prop :=
  d.live 1 = true ∧ d.load.minimal = false ∧ d.pstate < 2 ∧ d.ns? nsid = some n ∧ n.attached t.ctrl = true ∧ n.key ≠ .unusable ∧
    d.flag F.BUF_STAT_READY = true ∧ d.flag F.ZNE_STAT_READY = true

/-- No frame waits to be sent on a ring port, and the frame counters are far from their end. -/
def RingQuiet (d : Dev) : Prop := ∀ p : Fin 2, (d.rport p).txq = [] ∧ (d.rport p).fcntTx < 2 ^ 47 ∧ (d.rport p).fcntRx < 2 ^ 47

/-- Nothing of the ring is under way that a frame of another kind could move on: no job or remote read of this node, no frame waiting to be sent, frame counters
far from their end. -/
def RingIdle (d : Dev) : Prop := d.rng.tjobs = [] ∧ d.rng.reads = [] ∧ RingQuiet d

/-- The frame is the next in SEQ order on a port whose link is up (R371), without a CRC error, and its tag is right if it is sealed (R381). -/
def RingNext (d : Dev) (p : Fin 2) (f : RFrame) : Prop :=
  d.live 1 = true ∧ d.live (6 + p.val) = true ∧ d.linkUp p = true ∧ f.badCrc = false ∧ f.seq = (d.rport p).expect ∧ (d.rport p).held = [] ∧ f.fcnt < 2 ^ 47 ∧
    (isSealed f.ftype = true → ∃ k, (d.rport p).keyRx = some k ∧ f.tag = frameSeal f k)

/-- From `d0` to `d` only the ring's state, its registers and counters, and what events change have changed. -/
def RingOnly (d0 d : Dev) : Prop :=
  d = { d0 with rng := d.rng, regs := d.regs, cnt := d.cnt, log := d.log, lost := d.lost, hst := d.hst, free := d.free }

/-- From `d0` to `d` a frame that `P` describes has gone to the line of port q (R371, R375), and no other on it. -/
def RingSent (d0 d : Dev) (q : Fin 2) (P : RFrame → Prop) : Prop := ∃ g, (d.rport q).line = (d0.rport q).line ++ [g] ∧ P g

/-- No burst of DMA is under way. -/
def NoBurst (d : Dev) : Prop := ∀ x : Nat, (d.dch x).runs = []

/-- A port that is joined can send a frame of class c that this node originates (R375). -/
def RingRoom (d : Dev) (p : Fin 2) (c : Nat) : Prop := d.rstate p = 3 ∧ (d.rport p).retry.length < 256 ∧ 2 ≤ (d.rport p).peerCred.getD c 0

/-- It is the turn of thread t of sequencer q, and its word is w: the one it waits in, or the one it fetches without error (R415, R417, R425, R426, R429). -/
def Fetches (d : Dev) (q t : Nat) (f : Fetch) (w : BitVec 128) : Prop :=
  let x := d.thread q t
  d.live 1 = true ∧ d.seqRuns q = true ∧ d.seqTurn q = some t ∧
    ((∃ since, x.waiting = some (w, since)) ∨
      (x.waiting = none ∧ d.flag F.SEQ_INJECT_ARM = false ∧ x.pc < 0x8800 ∧ (d.patchIndex q x.pc = none → f.parityOk = true) ∧ sramRead f.patch = .ok ∧ sramRead f.regs = .ok ∧
        w = match d.patchIndex q x.pc with | some i => d.seq.patch.get (fun _ => 0) (2048 * seqType q + i) | none => f.rom))

/-- From `d0` to `d` thread t of sequencer q has issued a word: the turn of the sequencer has moved on (R49, R415), and no other thread has changed. -/
def Issued (d0 d : Dev) (q t : Nat) : Prop :=
  d.seq.turn.get (fun _ => 0) q = (t + 1) % 32 ∧ (∀ i : Nat, i ≠ q → d.seq.turn.get (fun _ => 0) i = d0.seq.turn.get (fun _ => 0) i) ∧
    ∀ q' t' : Nat, 32 * q' + t' ≠ 32 * q + t → d.thread q' t' = d0.thread q' t'

/-- From `d0` to `d` a fault has restarted the routine of thread t from its entry: its outbox is empty, its registers and flags are zero, and the restart is counted (R423, R426, R427). -/
def FaultRestarted (d0 d : Dev) (q t : Nat) : Prop :=
  let x := d0.thread q t
  d.thread q t = { active := true, entry := x.entry, ctx := x.ctx, pc := x.entry, run := x.run + 1, restarts := x.restarts + 1 } ∧
    d.fld (F.SEQ_SSTAT_FAULT_RESTARTS q) = min (d0.fld (F.SEQ_SSTAT_FAULT_RESTARTS q) + 1) (2 ^ (F.SEQ_SSTAT_FAULT_RESTARTS q).n - 1) ∧
    d.counter .seq 32 = d0.counter .seq 32 + 1 ∧ d.counter .seq (4 * q + 3) = d0.counter .seq (4 * q + 3) + 1 ∧ d.seq.ctx = d0.seq.ctx ∧ d.seq.sent = d0.seq.sent ∧
    d = { d0 with seq := d.seq, regs := d.regs, cnt := d.cnt, log := d.log, lost := d.lost, hst := d.hst }

/-- When the frame that the level changes of a reply line end with began (R130). -/
def Dev.replyBegan (d : Dev) (wave : List (Nat × Bool × Bool)) : Nat :=
  d.now - (((wave.drop (wave.length - (dsDecode (d.fld F.WRP_ALINK_BITNS) wave).length + 1)).map Prod.fst).foldl (· + ·) 0)

/-- Byte i of the frame that the level changes of a reply line end with (R130, R131). -/
def Dev.replyByte (d : Dev) (wave : List (Nat × Bool × Bool)) (i : Nat) : Nat := leAt (bytesOfBits 7 (dsDecode (d.fld F.WRP_ALINK_BITNS) wave)) i 1

/-- The reply is a whole frame in time: it begins within ACK_US of the command, has 7 bytes behind SYNC, and its CRC holds (R131, R132). -/
def Dev.replyWhole (d : Dev) (a : Nat) (wave : List (Nat × Bool × Bool)) : Prop :=
  d.replyBegan wave ≤ (d.alink a).sentAt + 1000 * d.fld F.WRP_ALINK_ACK_US ∧ (dsDecode (d.fld F.WRP_ALINK_BITNS) wave).length = 56 ∧
    d.replyByte wave 0 = 0xD3 ∧ d.replyByte wave 6 = crc8 (slice (bytesOfBits 7 (dsDecode (d.fld F.WRP_ALINK_BITNS) wave)) 1 5)

/-- The reply echoes OP, SEQ and, but for ENUM, REG of the command (R131). -/
def Dev.replyEchoes (d : Dev) (wave : List (Nat × Bool × Bool)) (f : AFrame) : Prop :=
  d.replyByte wave 1 = 16 * f.op + f.seq ∧ (f.op = 5 ∨ d.replyByte wave 3 = f.reg)

/-- The value that a reply carries (Table 5.2). -/
def Dev.replyData (d : Dev) (wave : List (Nat × Bool × Bool)) : Nat := 256 * d.replyByte wave 4 + d.replyByte wave 5

/-- From `d0` to `d` the command f of arm link a has gone out once more with its SEQ, and was counted; nothing else of WRP's links has changed but what a reply line shows (R132). -/
def Resent (d0 d : Dev) (a : Nat) (f : AFrame) : Prop :=
  d.alink a = { d0.alink a with resends := (d0.alink a).resends + 1, sentAt := (d.alink a).sentAt, wave := (d.alink a).wave, tx := (d.alink a).tx, rx := (d.alink a).rx } ∧
    (d.alink a).wave.map Prod.snd = dsEncode (d0.alink a).tx (bitsOfBytes f.bytes) ∧ d.counter .wrp 7 = d0.counter .wrp 7 + 1 ∧
    d = { d0 with wrp := d.wrp, cnt := d.cnt, regs := d.regs, log := d.log, lost := d.lost, hst := d.hst }

/-- Arm link a is declared failed: its commands are dropped, and its heads have no write run, order or notice left (R132). -/
def LinkLost (d : Dev) (a : Nat) : Prop :=
  d.linkFailed a = true ∧ (d.alink a).out = none ∧ (d.alink a).queue = [] ∧ (d.alink a).bring = none ∧
    ∀ l : Nat, l < 10 → (d.whead (10 * a + l)).run = none ∧ (d.whead (10 * a + l)).orders = [] ∧ (d.whead (10 * a + l)).notices = []

/-- The report that goes out before a loop takes a new order: its outstanding order's, as SUPERSEDED (R173). -/
def Dev.supersedes (d : Dev) (k : Nat) : List ModeReport :=
  match (d.lp k).order with
  | some o => [{ tag := o.tag, loop := k, mode := d.mode k, status := 2, fault := 0, wedges := min o.wedges 65535, peak := d.fld (F.SRV_LERR_PEAK k) }]
  | none => []

/-- From `d0` to `d` the servo engine has reported, moved loops and sent commands; nothing outside it has changed but SAM tracking, write inhibits, mailboxes and the logbook's pool. -/
def ServoOnly (d0 d : Dev) : Prop :=
  d = { d0 with regs := d.regs, srv := d.srv, wrp := { d0.wrp with heads := d.wrp.heads }, lanes := d.lanes, cnt := d.cnt, ch := d.ch, log := d.log, lost := d.lost, hst := d.hst
                msq := { d0.msq with modes := d.msq.modes } }

/-- A loop's wedge or tick is computed: it is not in DOWN, no fault is due, a compare pair is in service and its lanes agree, and no injection is armed (R160, R176). -/
def Computes (d : Dev) (k : Nat) (pair : Fin 4) (mismatch : Bool) : Prop :=
  d.mode k ≠ 0 ∧ d.dueFault k = none ∧ d.pairFor pair ≠ none ∧ mismatch = false ∧ d.flag F.SRV_INJECT_ARM = false

/-- Between `d0` and `d` one wedge or tick was counted as used (R160), or as unused. -/
def OneWedge (d0 d : Dev) (used : Bool) : Prop :=
  d.counter .srv 0 = d0.counter .srv 0 + (if used then 1 else 0) ∧ d.counter .srv 1 = d0.counter .srv 1 + (if used then 0 else 1)

/-- Lane a of the actuator link is declared failed: nothing is out on it, and every loop it drives is in DOWN (R178). -/
def LaneDown (d : Dev) (a : Nat) : Prop :=
  (d.fld F.ACT_STAT_FAILED).testBit a = true ∧ (d.lane a).out = none ∧ (d.lane a).disc = none ∧ ∀ k ∈ laneLoops a, d.hasLoop k = true → d.mode k = 0

/-- From `d0` to `d` frame f of lane a was missed (R178, R180): counted; sent again if it is no SET, has been sent less than four times and the channel has not reached MISS_N; else it has
ended, and with MISS_N reached, or in a discovery, the lane is failed. -/
def FrameMissed (d0 d : Dev) (a : Nat) (f : LFrame) : Prop :=
  let n := (d0.lane a).miss.get (fun _ => 0) f.ch + 1
  let again := f.ty ≠ 0 ∧ f.resends < 3 ∧ n < d0.fld F.ACT_CTRL_MISS_N
  (d.lane a).miss.get (fun _ => 0) f.ch = n ∧ d.counter .act 2 = d0.counter .act 2 + 1 ∧
    (again → (d.lane a).out = some { f with resends := f.resends + 1, sentAt := d0.now } ∧ d.counter .act 0 = d0.counter .act 0 + 1) ∧
    (¬again → (d.lane a).out = none) ∧
    (¬again → d0.laneOk a = true → ((d0.lane a).disc ≠ none ∨ d0.fld F.ACT_CTRL_MISS_N ≤ n) → LaneDown d a) ∧
    ((again ∨ ((d0.lane a).disc = none ∧ n < d0.fld F.ACT_CTRL_MISS_N)) →
      d = { d0 with lanes := d.lanes, cnt := d.cnt, regs := d.regs, log := d.log, lost := d.lost, hst := d.hst }) ∧
    ServoOnly d0 d

/-- The characters are a whole frame that comes in time, with its CRC (R178, Table 6.12). -/
def Dev.actFrame (d : Dev) (f : LFrame) (chars : Bytes) : Prop :=
  d.now ≤ f.sentAt + 10 * d.fld F.ACT_CTRL_ACK_NS ∧ chars.length = 6 ∧ crc16 (chars.take 4) = 256 * leAt chars 4 1 + leAt chars 5 1

/-- The characters are the good reply to frame f: a whole frame of the answering type with its SEQ (R178). -/
def Dev.actGood (d : Dev) (f : LFrame) (chars : Bytes) : Prop :=
  d.actFrame f chars ∧ leAt chars 0 1 / 32 = (if f.ty = 1 then 6 else 4) ∧ leAt chars 1 1 = f.seq

/-- From `d0` to `d` only the spindle block, the frames of lane 0 and the logbook's pool have changed. -/
def SpindleOnly (d0 d : Dev) : Prop :=
  d = { d0 with spn := d.spn, regs := d.regs, lanes := d.lanes, cnt := d.cnt, log := d.log, lost := d.lost, hst := d.hst }

/-- Every command that waits is one that its sender can send. -/
def State.queueOk (s : State) : Bool := s.pending.all Instr.wellFormed

/-- The canonical form of the control-space registers: addresses strictly rising, and no entry equal to its reset value. -/
def Dev.regsOk (d : Dev) : Bool := Tab.wf (resetWord d.v) d.regs

end Sys2Proof.Machine
end

