-- ==== Sys2Proof/Certificates/Slice0/Obligations.lean ====
section
/-! DEFINITION. Certificates/Slice0/Obligations.lean: what the provers are asked to prove of the model, family by family. `Gives c s P` says that command
`c` completes in state `s`: exec answers a next state, with the queue as it was, and `P` describes its device. `s.dev.live k` says that power domain k of the
command's block acts. -/

open Sys2Proof Sys2Proof.Machine

/-! ## Fabric and time base -/

/-- R16, R39, R40: a token that may go takes one credit of its pool, the DATA that travels with it one of the DATA pool, and one that will provoke a response a response slot
of its return queue; the tokens join their queues at the end, with their byte parity, and nothing else changes. One that may not go waits: nothing changes. A response goes into a slot that was
reserved for it, without a credit. R37, R39, R52, R54: the consumer takes the first token of the pool, whose slot stays in use; the requester takes the first response of a hand-off, whose reservation is released. Where the parity
of the token holds and no SRAM bit has flipped that is all; where the parity does not hold, the block's parity fault is flagged and counted, and FIRST names it if nothing was flagged before. A fenced pool
accepts nothing. R38, R44, R52: freeing a slot returns its credit while no more credits are out than CREDITS allows, and withholds it otherwise; a fenced pool
returns nothing, and where no slot is in use nothing changes. (Model choices in it: log entries 8, 11, 12.) -/
def Obligations.CreditsCarryTokens : Prop :=
  ((∀ (s : State) (b : Blk) (j : Fin 32) (payload : Bytes) (data : Option (Fin 32 × Bytes)) (rsp : Bool) (p : PoolCfg),
    s.dev.live 0 = true → poolAt s.dev.v b j = some p → s.dev.forwardOk b j data rsp = true →
    Gives (.tokenSend b j payload data rsp false) s fun d =>
      (d.pool b j).held + 1 = (s.dev.pool b j).held ∧ (d.pool b j).queue = (s.dev.pool b j).queue ++ [mkToken p.cls payload] ∧
      (d.pool b j).busy = (s.dev.pool b j).busy ∧
      (rsp = true → s.dev.backPool b j = (b, j.val) → (d.pool b j).reserved = (s.dev.pool b j).reserved + 1) ∧
      (rsp = false → (d.pool b j).reserved = (s.dev.pool b j).reserved) ∧
      (∀ jd x q, data = some (jd, x) → poolAt s.dev.v b jd = some q →
        (d.pool b jd).held + 1 = (s.dev.pool b jd).held ∧ (d.pool b jd).queue = (s.dev.pool b jd).queue ++ [mkToken q.cls x]) ∧
      (∀ b' j', poolKey b' j' ≠ poolKey b j → (∀ jd x, data = some (jd, x) → poolKey b' j' ≠ poolKey b jd) →
        (rsp = true → poolKey b' j' ≠ poolKey (s.dev.backPool b j).1 (s.dev.backPool b j).2) → d.pool b' j' = s.dev.pool b' j') ∧
      d = { s.dev with pools := d.pools }) ∧
  (∀ (s : State) (b : Blk) (j : Fin 32) (payload : Bytes) (data : Option (Fin 32 × Bytes)) (rsp : Bool),
    s.dev.live 0 = true → s.dev.forwardOk b j data rsp = false → Gives (.tokenSend b j payload data rsp false) s fun d => d = s.dev) ∧
  (∀ (s : State) (b : Blk) (j : Fin 32) (payload : Bytes) (data : Option (Fin 32 × Bytes)) (rsp : Bool), s.dev.live 0 = true →
    Gives (.tokenSend b j payload data rsp true) s fun d =>
      ((s.dev.pool b j).back.length < (s.dev.pool (s.dev.backPool b j).1 (s.dev.backPool b j).2).reserved →
        d.pool b j = { s.dev.pool b j with back := (s.dev.pool b j).back ++ [mkToken .rsp payload] }) ∧
      (¬(s.dev.pool b j).back.length < (s.dev.pool (s.dev.backPool b j).1 (s.dev.backPool b j).2).reserved → d.pool b j = s.dev.pool b j) ∧
      (∀ b' j', poolKey b' j' ≠ poolKey b j → d.pool b' j' = s.dev.pool b' j') ∧ d = { s.dev with pools := d.pools })) ∧
  ((∀ (s : State) (b : Blk) (j : Fin 32) (flip : Option Nat) (sram : SramBits) (t : Token) (r : List Token),
    s.dev.live 0 = true → (s.dev.pool b j).queue = t :: r → s.dev.flag (fFENCED b j) = false →
    Gives (.tokenAccept b j false flip sram) s fun d =>
      d.pool b j = { s.dev.pool b j with queue := r, busy := (s.dev.pool b j).busy + 1 } ∧
      (∀ b' j', poolKey b' j' ≠ poolKey b j → d.pool b' j' = s.dev.pool b' j') ∧
      ((t.seen flip).good = true → sramRead sram = .ok → d = { s.dev with pools := d.pools }) ∧
      ((t.seen flip).good = false → sramRead sram = .ok → d.fld (fFBIT b 0) = 1 ∧ d.fld (fCOUNT b) = min (s.dev.fld (fCOUNT b) + 1) 255 ∧
        (s.dev.fld (fFIRST b) = 0 → d.fld (fFIRST b) = 1) ∧ d = { s.dev with pools := d.pools, regs := d.regs, log := d.log, lost := d.lost, hst := d.hst }) ∧
      d = { s.dev with pools := d.pools, regs := d.regs, log := d.log, lost := d.lost, hst := d.hst, mem := d.mem, cnt := d.cnt }) ∧
  (∀ (s : State) (b : Blk) (j : Fin 32) (flip : Option Nat) (sram : SramBits),
    s.dev.live 0 = true → ((s.dev.pool b j).queue = [] ∨ s.dev.flag (fFENCED b j) = true) → Gives (.tokenAccept b j false flip sram) s fun d => d = s.dev) ∧
  (∀ (s : State) (b : Blk) (j : Fin 32) (flip : Option Nat) (t : Token) (r : List Token),
    s.dev.live 0 = true → (s.dev.pool b j).back = t :: r →
    Gives (.tokenAccept b j true flip {}) s fun d =>
      (d.pool b j).back = r ∧ (d.pool b j).queue = (s.dev.pool b j).queue ∧
      (d.pool (s.dev.backPool b j).1 (s.dev.backPool b j).2).reserved = (s.dev.pool (s.dev.backPool b j).1 (s.dev.backPool b j).2).reserved - 1 ∧
      ((t.seen flip).good = true → d = { s.dev with pools := d.pools }) ∧
      ((t.seen flip).good = false → d.fld (fFBIT b 0) = 1 ∧ d = { s.dev with pools := d.pools, regs := d.regs, log := d.log, lost := d.lost, hst := d.hst }))) ∧
  (∀ (s : State) (b : Blk) (j : Fin 32), s.dev.live 0 = true →
    Gives (.creditReturn b j) s fun d =>
      (s.dev.flag (fFENCED b j) = true ∨ (s.dev.pool b j).busy = 0 → d.pool b j = s.dev.pool b j) ∧
      (s.dev.flag (fFENCED b j) = false → 0 < (s.dev.pool b j).busy → (s.dev.pool b j).out ≤ s.dev.fld (fCREDITS b j) →
        d.pool b j = { s.dev.pool b j with busy := (s.dev.pool b j).busy - 1, held := (s.dev.pool b j).held + 1 }) ∧
      (s.dev.flag (fFENCED b j) = false → 0 < (s.dev.pool b j).busy → s.dev.fld (fCREDITS b j) < (s.dev.pool b j).out →
        d.pool b j = { s.dev.pool b j with busy := (s.dev.pool b j).busy - 1 }) ∧
      (∀ b' j', poolKey b' j' ≠ poolKey b j → d.pool b' j' = s.dev.pool b' j') ∧ d = { s.dev with pools := d.pools })

/-- R42: an event whose block holds a credit goes to the end of LOG's pool with its code, source and parameters; without one the block's count of lost events rises instead, and
the first lost one's stamp is kept. Nothing waits. What was lost before is reported first (R517); an armed injection of KIND 2 makes the event lost. R517: a block that has lost events and holds a credit again offers event 0xFA with their number and clears the count; with nothing lost, or no credit, nothing changes. (Model choices in it: log entries 8, 10, 68, 70.) -/
def Obligations.EventsAreOfferedOrCountedLost : Prop :=
  ((∀ (s : State) (b : Blk) (n : Byte) (p1 p2 p3 : Word), s.dev.live 0 = true → (s.dev.flag F.LOG_INJECT_ARM = true ∧ s.dev.fld F.LOG_INJECT_KIND = 2) →
    Gives (.eventOffer b n p1 p2 p3) s fun d => d.flag F.LOG_INJECT_ARM = false ∧ d.log.inq = s.dev.log.inq ∧
      (d.lost.get (fun _ => {}) (blkKey b)).count = (s.dev.lost.get (fun _ => {}) (blkKey b)).count + 1 ∧
      d = { s.dev with regs := d.regs, lost := d.lost, log := { s.dev.log with crit := d.log.crit }, hst := d.hst }) ∧
  ∀ (s : State) (b : Blk) (n : Byte) (p1 p2 p3 : Word), s.dev.live 0 = true → ¬(s.dev.flag F.LOG_INJECT_ARM = true ∧ s.dev.fld F.LOG_INJECT_KIND = 2) →
    Gives (.eventOffer b n p1 p2 p3) s fun d =>
      (s.dev.logCredit = true → (s.dev.lost.get (fun _ => {}) (blkKey b)).count = 0 → d.lost = s.dev.lost ∧
        d.log.inq = s.dev.log.inq ++ [{ code := blkCls b * 256 + n.toNat, src := blkInst b, p1 := p1.toNat, p2 := p2.toNat, p3 := p3.toNat, stamp := s.dev.now }]) ∧
      (s.dev.logCredit = false → d.log.inq = s.dev.log.inq ∧
        (d.lost.get (fun _ => {}) (blkKey b)).count = (s.dev.lost.get (fun _ => {}) (blkKey b)).count + 1 ∧
        ((s.dev.lost.get (fun _ => {}) (blkKey b)).count = 0 → (d.lost.get (fun _ => {}) (blkKey b)).first = s.dev.now)) ∧
      (critOf (blkCls b * 256 + n.toNat) = 0 → d = { s.dev with lost := d.lost, log := { s.dev.log with inq := d.log.inq } }) ∧
      d = { s.dev with lost := d.lost, log := { s.dev.log with inq := d.log.inq, crit := d.log.crit }, hst := d.hst }) ∧
  ((∀ (s : State) (b : Blk), s.dev.live 0 = true → (s.dev.logCredit = false ∨ (s.dev.lost.get (fun _ => {}) (blkKey b)).count = 0) → Gives (.eventCreditRegained b) s fun d => d = s.dev) ∧
  ∀ (s : State) (b : Blk), s.dev.live 0 = true → s.dev.logCredit = true → 0 < (s.dev.lost.get (fun _ => {}) (blkKey b)).count →
    Gives (.eventCreditRegained b) s fun d =>
      (d.lost.get (fun _ => {}) (blkKey b)).count = 0 ∧
      (∃ e, d.log.inq = s.dev.log.inq ++ [e] ∧ e.code = blkCls b * 256 + 0xFA ∧ e.p1 = (s.dev.lost.get (fun _ => {}) (blkKey b)).count) ∧
      d = { s.dev with lost := d.lost, log := { s.dev.log with inq := d.log.inq } })

/-- R50: every request of the kind that has waited its promotion interval is promoted, the others and those of other kinds are as they were. (A roll request is also granted at once where it
may be, so this is said of the other kinds; of a roll request that is then promoted: it starts or adds to a roll.) R52, R53: where a handshake has been stuck for the pool's bound, the pool is fenced, the stall is flagged and counted in FSTAT, the sequencer is signalled, and every command with a token in the pool,
or named as waiting on it, is no longer in flight; other commands are as they were. Before the bound, and on a pool that is fenced already, nothing changes. R37, R55: a sweep that finds every register's parity right changes nothing; one that finds a bit of a register flipped (a bit that is not reserved, in a register of the block) flags the block's register fault
and counts it, and the register reads with that bit flipped. (Model choices in it: log entries 8, 10, 11, 70, 71.) -/
def Obligations.PromotionsStallsAndSweeps : Prop :=
  ((∀ (s : State) (k : BgKind), s.dev.live 0 = true → k ≠ .roll →
    Gives (.backgroundPromotion k) s fun (d : Dev) =>
      d.bg.length = s.dev.bg.length ∧
      (∀ (i : Nat) (r : BgReq), s.dev.bg[i]? = some r → (r.kind = k ∧ r.raised + s.dev.promoteNs k ≤ s.dev.now) → d.bg[i]? = some { r with promoted := true }) ∧
      (∀ (i : Nat) (r : BgReq), s.dev.bg[i]? = some r → ¬(r.kind = k ∧ r.raised + s.dev.promoteNs k ≤ s.dev.now) → d.bg[i]? = some r) ∧
      d = { s.dev with bg := d.bg }) ∧
  (∀ (s : State), s.dev.live 0 = true →
    Gives (.backgroundPromotion .roll) s fun (d : Dev) =>
      ((∃ r ∈ s.dev.bg, r.kind = .roll ∧ r.raised + s.dev.promoteNs .roll ≤ s.dev.now) → d.flag F.FAB_RC_STAT_BUSY = true ∧ d.bg.length + 1 = s.dev.bg.length) ∧
      d = { s.dev with bg := d.bg, regs := d.regs, roll := d.roll })) ∧
  (∀ (s : State) (b : Blk) (j : Fin 32) (lane : Bool) (since : BitVec 64) (cmds : List Tag) (p : PoolCfg), s.dev.live 0 = true → poolAt s.dev.v b j = some p →
    Gives (.stallDetected b j lane since cmds) s fun d =>
      ((s.dev.flag (fFENCED b j) = true ∨ s.dev.now < since.toNat + s.dev.stallBound b j lane) → d = s.dev) ∧
      (s.dev.flag (fFENCED b j) = false → since.toNat + s.dev.stallBound b j lane ≤ s.dev.now →
        d.flag (fFENCED b j) = true ∧ d.fld (fFBIT b 1) = 1 ∧ d.fld (fCOUNT b) = min (s.dev.fld (fCOUNT b) + 1) 255 ∧
        (s.dev.fld (fFIRST b) = 0 → d.fld (fFIRST b) = 2) ∧ d.seq = { s.dev.seq with stalls := s.dev.seq.stalls ++ [poolKey b j] } ∧
        (∀ t ∈ s.dev.cmdsIn b j ++ cmds, d.cmd? t = none) ∧ (∀ t, t ∉ s.dev.cmdsIn b j ++ cmds → d.cmd? t = s.dev.cmd? t)) ∧
      d = { s.dev with regs := d.regs, log := d.log, lost := d.lost, hst := d.hst, cmds := d.cmds, free := d.free, seq := d.seq }) ∧
  (∀ (s : State) (b : Blk), s.dev.live 0 = true →
    Gives (.registerParitySweep b none) s (fun d => d = s.dev) ∧
    ∀ (a : Word) (i : Fin 32), (locate a.toNat).map Prod.fst = some b → (BitVec.ofNat 32 (accOf s.dev.v a.toNat).res).getLsbD i = false →
      a.toNat ≠ (fFBIT b 5).a → a.toNat ≠ F.LOG_INJECT_ARM.a →
      Gives (.registerParitySweep b (some (a, i))) s fun d =>
        d.word a.toNat = s.dev.word a.toNat ^^^ BitVec.ofNat 32 (2 ^ i.val) ∧
        d.fld (fFBIT b 5) = 1 ∧ d.fld (fCOUNT b) = min (s.dev.fld (fCOUNT b) + 1) 255 ∧ (s.dev.fld (fFIRST b) = 0 → d.fld (fFIRST b) = 6) ∧
        (∀ x, x ≠ a.toNat → x ≠ (fFBIT b 5).a → x ≠ F.LOG_INJECT_ARM.a → d.word x = s.dev.word x) ∧
        d = { s.dev with regs := d.regs, log := d.log, lost := d.lost, hst := d.hst })

/-- R26: a step at which the two counters of KNL disagree while DUP_MISMATCH is 0 sets it, counts one fault of class 0x05 in FSTAT and logs event 0x02F9 with P1 = 0x05; while it is 1 further
mismatches do nothing; TBASE stands on the first counter in every case. (The event goes to LOG where KNL holds a credit, no injection of LOG is armed and nothing was lost before.) -/
def Obligations.CounterMismatchIsCountedOnce : Prop :=
  ∀ s : State, s.dev.live 0 = true →
    (s.dev.flag F.KNL_TBASE_STAT_DUP_MISMATCH = true → Gives .tbaseDupMismatch s fun d => d = s.dev) ∧
    (s.dev.flag F.KNL_TBASE_STAT_DUP_MISMATCH = false → Gives .tbaseDupMismatch s fun d =>
      d.flag F.KNL_TBASE_STAT_DUP_MISMATCH = true ∧ d.fld (fFBIT .knl 4) = 1 ∧ d.fld (fCOUNT .knl) = min (s.dev.fld (fCOUNT .knl) + 1) 255 ∧
      d.fld (fFIRST .knl) = (if s.dev.fld (fFIRST .knl) = 0 then 5 else s.dev.fld (fFIRST .knl)) ∧
      (s.dev.logCredit = true → s.dev.flag F.LOG_INJECT_ARM = false → (s.dev.lost.get (fun _ => {}) (blkKey .knl)).count = 0 →
        ∃ e, d.log.inq = s.dev.log.inq ++ [e] ∧ e.code = 0x02F9 ∧ e.p1 = 5) ∧
      d.tbase = s.dev.tbase ∧ d = { s.dev with regs := d.regs, log := d.log, lost := d.lost, hst := d.hst })

/-- R27, R28, R93: when the crystal is lost while XTAL_LOST is 0, XTAL_LOST is set, RUNNING is cleared, every channel reports loss of lock, and TBASE goes on from where it stood; while XTAL_LOST is 1 nothing more
changes. A read of TBASE_LO captures the upper half of TBASE into TBASE_HI and changes nothing else. R58 to R61: a requested roll starts with the next epoch if none runs, else it is pending. The token, with a slot reserved for its return and a credit of the bank's queue, reaches the next bank, whose
shadow set takes its counters, the epoch and the stamp; a bank that is not the next, or whose credit or slot is missing, is not visited. When every bank has been visited RC_EPOCH takes the epoch, BUSY falls, and the commands served are no longer in flight; before that nothing ends. (Model choices in it: log entries 5, 7, 8, 9, 10, 13, 43, 70.) -/
def Obligations.TimeAndRollCalls : Prop :=
  (∀ s : State, s.dev.live 0 = true →
    (s.dev.flag F.KNL_TBASE_STAT_XTAL_LOST = true → Gives .xtalLost s fun d => d = s.dev) ∧
    (s.dev.flag F.KNL_TBASE_STAT_XTAL_LOST = false → Gives .xtalLost s fun d =>
      d.flag F.KNL_TBASE_STAT_XTAL_LOST = true ∧ d.flag F.KNL_TBASE_STAT_RUNNING = false ∧ d.tbase = s.dev.tbase ∧
      (∀ n : Fin 20, s.dev.hasCh n = true → d.flag (F.CH_STAT_PLL_LOCK n) = false) ∧
      d = { s.dev with regs := d.regs, log := d.log, lost := d.lost, hst := d.hst, pwr := d.pwr, ch := d.ch }) ∧
    Gives .tbaseLoRead s (fun d => d.fld F.KNL_TBASE_HI_NS_HI = s.dev.tbase.toNat / 2 ^ 32 ∧ d = { s.dev with regs := d.regs } ∧
      ∀ a, a ≠ F.KNL_TBASE_HI_NS_HI.a → d.word a = s.dev.word a)) ∧
  ((∀ s : State, s.dev.live 1 = true →
    Gives .rollCallRequest s fun d =>
      d.flag F.FAB_RC_STAT_BUSY = true ∧
      (s.dev.flag F.FAB_RC_STAT_BUSY = true → d.flag F.FAB_RC_STAT_PENDING = true ∧ d.roll = s.dev.roll) ∧
      (s.dev.flag F.FAB_RC_STAT_BUSY = false → d.roll.epoch = (s.dev.fld F.FAB_RC_EPOCH_EPOCH + 1) % 2 ^ 32 ∧ d.roll.visited = [] ∧
        d.roll.start = s.dev.now ∧ d.roll.serving = []) ∧
      (∀ a, a ≠ F.FAB_RC_STAT_BUSY.a → d.word a = s.dev.word a) ∧ d = { s.dev with regs := d.regs, roll := d.roll }) ∧
  (∀ (s : State) (b : Blk), s.dev.live 1 = true → ¬(s.dev.flag F.FAB_RC_STAT_BUSY = true ∧ (s.dev.rollSlot).roll.slot = true ∧ s.dev.canSend b (mgtPool b) = true) →
    Gives (.rollTokenAtBank b) s fun d => d = s.dev) ∧
  (∀ (s : State) (b : Blk), s.dev.live 1 = true → s.dev.flag F.FAB_RC_STAT_BUSY = true → (s.dev.rollSlot).roll.slot = true → s.dev.canSend b (mgtPool b) = true →
    Gives (.rollTokenAtBank b) s fun d =>
      (((banksOf s.dev.v).find? fun x => !s.dev.roll.visited.contains (blkKey x)) = some b →
        (d.shadows.get (fun _ => {}) (2 * blkKey b + s.dev.roll.epoch % 2)).epoch = s.dev.roll.epoch ∧
        (d.shadows.get (fun _ => {}) (2 * blkKey b + s.dev.roll.epoch % 2)).stamp = s.dev.now ∧
        (∀ i, i < 64 → Tab.get (fun _ => 0) (d.shadows.get (fun _ => {}) (2 * blkKey b + s.dev.roll.epoch % 2)).vals i = s.dev.counter b i) ∧
        d.roll.visited = s.dev.roll.visited ++ [blkKey b] ∧ d.roll.slot = true) ∧
      (((banksOf s.dev.v).find? fun x => !s.dev.roll.visited.contains (blkKey x)) ≠ some b → d = s.dev) ∧
      (∀ k, k ≠ 2 * blkKey b + s.dev.roll.epoch % 2 → d.shadows.get (fun _ => {}) k = s.dev.shadows.get (fun _ => {}) k) ∧
      d = { s.dev with shadows := d.shadows, roll := d.roll, pools := d.pools }) ∧
  (∀ s : State, s.dev.live 1 = true → ¬(s.dev.flag F.FAB_RC_STAT_BUSY = true ∧ ((banksOf s.dev.v).all fun b => s.dev.roll.visited.contains (blkKey b)) = true) →
    Gives .rollCallComplete s fun d => d = s.dev) ∧
  (∀ s : State, s.dev.live 1 = true → s.dev.flag F.FAB_RC_STAT_BUSY = true → s.dev.roll.epoch < 2 ^ 32 →
    ((banksOf s.dev.v).all fun b => s.dev.roll.visited.contains (blkKey b)) = true →
    Gives .rollCallComplete s fun d =>
      d.fld F.FAB_RC_EPOCH_EPOCH = s.dev.roll.epoch ∧ (∀ t ∈ s.dev.roll.serving, d.cmd? t = none) ∧ (∀ t, t ∉ s.dev.roll.serving → d.cmd? t = s.dev.cmd? t) ∧
      (s.dev.flag F.FAB_RC_STAT_PENDING = false → d.flag F.FAB_RC_STAT_BUSY = false ∧ d.roll.serving = []) ∧
      (s.dev.flag F.FAB_RC_STAT_PENDING = true → d.flag F.FAB_RC_STAT_BUSY = true ∧ d.flag F.FAB_RC_STAT_PENDING = false ∧ d.roll.serving = s.dev.roll.waiting ∧
        d.roll.epoch = (s.dev.roll.epoch + 1) % 2 ^ 32) ∧
      d = { s.dev with regs := d.regs, roll := d.roll, pools := d.pools, cmds := d.cmds, hst := d.hst, free := d.free }) ∧
  (∀ s : State, s.dev.live 1 = true →
    Gives .rollPeriodDue s fun d =>
      (s.dev.fld F.FAB_RC_PERIOD_PERIOD_MS = 0 ∨ s.dev.now < s.dev.roll.due + s.dev.fld F.FAB_RC_PERIOD_PERIOD_MS * 1000000 → d = s.dev) ∧
      (s.dev.fld F.FAB_RC_PERIOD_PERIOD_MS ≠ 0 → s.dev.roll.due + s.dev.fld F.FAB_RC_PERIOD_PERIOD_MS * 1000000 ≤ s.dev.now → d.roll.due = s.dev.now ∧
        ((s.dev.pool .fab 0).queue = [] → (s.dev.pool .fab 1).queue = [] → d.flag F.FAB_RC_STAT_BUSY = true ∧ d.bg.length = s.dev.bg.length)) ∧
      d = { s.dev with regs := d.regs, roll := d.roll, bg := d.bg }) ∧
  (∀ (s : State) (t : Tag), s.dev.live 1 = true → s.dev.load.minimal = false →
    Gives (.rollCallCmd t) s fun d =>
      d.flag F.FAB_RC_STAT_BUSY = true ∧ (∃ c, d.cmd? t = some c ∧ c.kind = .rollCall ∧ c.committed = true) ∧ (∀ u, u ≠ t → d.cmd? u = s.dev.cmd? u) ∧
      (s.dev.flag F.FAB_RC_STAT_BUSY = false → d.roll.serving = [t]) ∧ (s.dev.flag F.FAB_RC_STAT_BUSY = true → d.roll.waiting = s.dev.roll.waiting ++ [t]) ∧
      d = { s.dev with regs := d.regs, roll := d.roll, cmds := d.cmds }))

/-! ## Read channel and decoder pool -/

/-- R66 to R68: a SAM that the channel may take (its mark is found, and it lies in the search window where there is one; in servo mode LOAD there is none) advances its tracking, and the wedge's token goes to SRV if
a credit is held; any other wedge changes nothing. A window that closes without one counts as a miss and moves the prediction on by the period; the fifth miss in a row loses the prediction. Until the window has closed, or in
servo mode LOAD, nothing happens. No other channel changes. (Model choices in it: log entries 7, 8, 9, 17, 70, 72.) -/
def Obligations.SamTrackingFollowsTheWedges : Prop :=
  (∀ (s : State) (n : Fin 20) (w : WedgeRaw) (sam : SamS), s.dev.live 2 = true →
    (sam = if s.dev.inLoad n then { (s.dev.chan n).sam with window := false } else (s.dev.chan n).sam) →
    Gives (.wedgeDemodulated n w) s fun d =>
      (s.dev.hasCh n = true → samFound w.sam.toNat = true → (sam.window = true → sam.inWindow s.dev.now = true) →
        d.chan n = { s.dev.chan n with sam := { sam.found1 s.dev.now with wedge := (pairBits 11 w.number.toNat).1 % 1024 } } ∧
        (s.dev.canSend .srv (2 + n) = true → (d.pool .srv (2 + n)).held + 1 = (s.dev.pool .srv (2 + n)).held ∧
          (d.pool .srv (2 + n)).queue = (s.dev.pool .srv (2 + n)).queue ++ [mkToken .data (s.dev.wedgeToken n s.dev.now w)]) ∧
        (s.dev.canSend .srv (2 + n) = false → d.pools = s.dev.pools)) ∧
      ((s.dev.hasCh n = false ∨ samFound w.sam.toNat = false ∨ (sam.window = true ∧ sam.inWindow s.dev.now = false)) → d = s.dev) ∧
      (∀ m, m ≠ n.val → d.chan m = s.dev.chan m) ∧ d = { s.dev with ch := d.ch, cnt := d.cnt, pools := d.pools }) ∧
  (∀ (s : State) (n : Fin 20), s.dev.live 2 = true →
    Gives (.samWindowMiss n) s fun d =>
      let closed := s.dev.hasCh n = true ∧ (s.dev.chan n).sam.window = true ∧ s.dev.inLoad n = false ∧
        50 * (s.dev.chan n).sam.next + (s.dev.chan n).sam.period ≤ 50 * s.dev.now
      (closed → (s.dev.chan n).sam.misses = 4 → (d.chan n).sam.window = false ∧ (d.chan n).sam.found = 0) ∧
      (closed → (s.dev.chan n).sam.misses ≠ 4 → (d.chan n).sam.misses = (s.dev.chan n).sam.misses + 1 ∧ (d.chan n).sam.window = true ∧
        (d.chan n).sam.next = (s.dev.chan n).sam.next + (s.dev.chan n).sam.period) ∧
      (closed → s.dev.canSend .srv (2 + n) = true →
        (d.pool .srv (2 + n)).queue = (s.dev.pool .srv (2 + n)).queue ++ [mkToken .data (missToken n (s.dev.chan n).sam.next)]) ∧
      (¬closed → d = s.dev) ∧ (d.chan n).run = (s.dev.chan n).run ∧
      (∀ m, m ≠ n.val → d.chan m = s.dev.chan m) ∧ d = { s.dev with ch := d.ch, cnt := d.cnt, pools := d.pools })

/-- R31, R89, R110, R111, R113: the order of a head whose heater notice has been answered starts at once on an idle channel with a usable reader, else it waits behind the others; without a credit or an answered notice nothing
happens. At its wedge a sector is read only 2 µs after its order, with a decoder credit, a free slot and a grant, and its slot becomes busy; it slips otherwise. When every sector has passed the run's report goes to MSQa, and the
next waiting order starts. (Model choices in it: log entries 8, 9, 10, 17, 18, 65, 70, 72.) -/
def Obligations.SectorRunsReadOrSlip : Prop :=
  (∀ (s : State) (n : Fin 20) (tbuf : BitVec 16) (r : RunReport) (o : RunOrder), s.dev.live 2 = true →
    (s.dev.msq.runs.find? fun r => r.notice && r.head == n.val) = some r → o = { r.ord with tbufFirst := tbuf.toNat % max r.ord.tbufSize 1 } →
    (s.dev.fld (fCREDITS (chBlk n) 0) ≤ (s.dev.chan n).orders.length → Gives (.sectorRunOrder n tbuf) s fun d => d = s.dev) ∧
    ((s.dev.chan n).orders.length < s.dev.fld (fCREDITS (chBlk n) 0) → s.dev.hasCh n = true → (s.dev.fld F.WRP_STAT_AL_FAIL).testBit (actOf n) = false →
      ((s.dev.readers n o).1 || (s.dev.readers n o).2) = true → ((s.dev.chan n).run ≠ none ∨ (s.dev.chan n).orders = []) →
      Gives (.sectorRunOrder n tbuf) s fun d =>
        ((s.dev.chan n).run = none →
          ∃ r, (d.chan n).run = some r ∧ r.ord = o ∧ r.accepted = s.dev.now ∧ r.next = 0 ∧ r.sent = 0 ∧ r.cur = none ∧ (d.chan n).orders = []) ∧
        ((s.dev.chan n).run ≠ none → d.chan n = { s.dev.chan n with orders := (s.dev.chan n).orders ++ [(o, s.dev.now)] }) ∧
        d.msq = { s.dev.msq with runs := s.dev.msq.runs.erase r } ∧
        (∀ m, m ≠ n.val → d.chan m = s.dev.chan m) ∧ d = { s.dev with ch := d.ch, regs := d.regs, msq := d.msq })) ∧
  (∀ (s : State) (n : Fin 20) (tbuf : BitVec 16), s.dev.live 2 = true → (s.dev.msq.runs.find? fun r => r.notice && r.head == n.val) = none →
    Gives (.sectorRunOrder n tbuf) s fun d => d = s.dev) ∧
  (∀ (s : State) (n : Fin 20) (v : SectorView) (r : RunS), s.dev.live 2 = true → (s.dev.chan n).run = some r →
    Gives (.sectorStart n v) s fun d =>
      let here := r.cur = none ∧ r.next < r.ord.count ∧ s.dev.atSector n r.ord r.next 0 = true
      let may := r.accepted + 2000 ≤ s.dev.now ∧ s.dev.canSend .dec n = true ∧ s.dev.tbufSize (actOf n) ≠ 0 ∧
        s.dev.slotBusy (actOf n) (runSlot r.ord r.next) = false ∧ s.dev.granted n false = true
      (¬here → d = s.dev) ∧
      (here → ((s.dev.readers n r.ord).1 || (s.dev.readers n r.ord).2) = true →
        (may → (∃ c, d.chan n = { s.dev.chan n with run := some { r with cur := some c } } ∧ c.index = r.next ∧ c.tbuf = runSlot r.ord r.next ∧
            c.view = v ∧ c.frame = s.dev.frameSector n r.ord r.next v []) ∧
          d.slotBusy (actOf n) (runSlot r.ord r.next) = true ∧ d.flag (F.CH_STAT_PLL_LOCK n) = true ∧ d = { s.dev with ch := d.ch, buf := d.buf, regs := d.regs }) ∧
        (¬may → d.chan n = { s.dev.chan n with run := some { r with next := r.next + 1, slipped := r.slipped + 1, firstSlip := some (r.firstSlip.getD r.next) } } ∧
          d.counter .seq (35 + actOf n) = s.dev.counter .seq (35 + actOf n) + 1 ∧ d = { s.dev with ch := d.ch, cnt := d.cnt }) ∧
        (∀ m, m ≠ n.val → d.chan m = s.dev.chan m))) ∧
  (∀ (s : State) (n : Fin 20) (r : RunS), s.dev.live 2 = true → (s.dev.chan n).run = some r →
    (¬(r.cur = none ∧ r.ord.count ≤ r.next) → Gives (.chRunEnd n) s fun d => d = s.dev) ∧
    (r.cur = none → r.ord.count ≤ r.next → (∀ o t l, (s.dev.chan n).orders = (o, t) :: l → ((s.dev.readers n o).1 || (s.dev.readers n o).2) = true) →
      Gives (.chRunEnd n) s fun d =>
        d.msq = { s.dev.msq with runs := s.dev.msq.runs ++ [runReportOf n r 0] } ∧
        ((s.dev.chan n).orders = [] → (d.chan n).run = none ∧ d.flag (F.CH_STAT_RUN n) = false) ∧
        (∀ o t l, (s.dev.chan n).orders = (o, t) :: l → (d.chan n).orders = l ∧ ∃ r', (d.chan n).run = some r' ∧ r'.ord = o ∧ r'.accepted = t ∧ r'.next = 0) ∧
        (∀ m, m ≠ n.val → d.chan m = s.dev.chan m) ∧ d = { s.dev with ch := d.ch, regs := d.regs, msq := d.msq }))

/-- R93, R96, R98, R109, R112: a thermal asperity that qualifies erases its stretch of the sector's present part, one that does not changes nothing; a lost timing lock erases from its bit on and clears PLL_LOCK; a block of 64 channel bits
adds 64 soft values to the present part of the sector, or to a new part behind a wedge, and moves no loop that is held, nor any loop of a nominally framed sector or of a run that holds the image seeds; a sector whose
parts are all there goes to DEC with a credit, and the run goes on to the next sector. (Model choices in it: log entries 8, 9, 17, 18, 72, 73, 76.) -/
def Obligations.ChannelErasesUpdatesAndSends : Prop :=
  (∀ (s : State) (n : Fin 20) (first len depart : Nat) (r : RunS) (c : SectorS), s.dev.live 2 = true → (s.dev.chan n).run = some r → r.cur = some c →
    Gives (.thermalAsperity n first len depart) s fun d =>
      let hit := s.dev.flag (F.CH_CTRL_TA_EN n) = true ∧ s.dev.fld (F.CH_TA_TA_MIN n) ≤ len ∧ s.dev.fld (F.CH_TA_TA_THR n) < depart
      (hit → (∃ c', d.chan n = { s.dev.chan n with run := some { r with cur := some c' } } ∧ c'.soft = c.soft ∧ c'.index = c.index ∧ c'.tbuf = c.tbuf ∧
          c'.erase = c.erase ++ [(c.soft.length - 1, first - 16, first + len + s.dev.fld (F.CH_TA_TA_TAIL n))]) ∧
        d.counter (chBlk n) 6 = s.dev.counter (chBlk n) 6 + 1) ∧ (¬hit → d = s.dev) ∧
      (∀ m, m ≠ n.val → d.chan m = s.dev.chan m) ∧ d = { s.dev with ch := d.ch, cnt := d.cnt }) ∧
  (∀ (s : State) (n : Fin 20) (pos : Nat) (phase : Int) (r : RunS) (c : SectorS), s.dev.live 2 = true → (s.dev.chan n).run = some r → r.cur = some c →
    Gives (.pllLockLost n pos phase) s fun d =>
      (phase.natAbs ≤ 256 → d = s.dev) ∧
      (256 < phase.natAbs → d.flag (F.CH_STAT_PLL_LOCK n) = false ∧ ∃ hi, d.chan n = { s.dev.chan n with
        run := some { r with cur := some { c with erase := c.erase ++ [(c.soft.length - 1, pos, hi)] }, pllLost := true } }) ∧
      (∀ m, m ≠ n.val → d.chan m = s.dev.chan m) ∧ d = { s.dev with ch := d.ch, regs := d.regs, log := d.log, lost := d.lost, hst := d.hst }) ∧
  (∀ (s : State) (n : Fin 20) (a b : List Int) (resync : Bool) (r : RunS) (c : SectorS), s.dev.live 2 = true → (s.dev.chan n).run = some r →
    r.cur = some c → c.soft ≠ [] →
    Gives (.loopUpdateBlock n a b resync) s fun d =>
      (resync = true → (s.dev.sectorSplits n r.ord c.index).length < c.soft.length → d = s.dev) ∧
      ((resync = true → c.soft.length ≤ (s.dev.sectorSplits n r.ord c.index).length) →
        ∃ r' c', (d.chan n).run = some r' ∧ r'.cur = some c' ∧ r'.ord = r.ord ∧ r'.next = r.next ∧ c'.index = c.index ∧ c'.frame = c.frame ∧
          c'.soft.length = c.soft.length + resync.toNat ∧
          (c'.soft.getLastD []).length = (if resync then 0 else (c.soft.getLastD []).length) + 64) ∧
      ((c.frame.noFrame = true ∨ r.ord.freezeImg = true ∨ r.frozen = true) → ∀ k ∈ valueLoops, d.loopVal n k = s.dev.loopVal n k) ∧
      (∀ k ∈ valueLoops, s.dev.flag (F.CH_LCTL_FREEZE n k) = true → d.loopVal n k = s.dev.loopVal n k) ∧
      (∀ m, m ≠ n.val → d.chan m = s.dev.chan m) ∧ d = { s.dev with ch := d.ch, regs := d.regs, cnt := d.cnt, free := d.free }) ∧
  (∀ (s : State) (n : Fin 20) (r : RunS) (c : SectorS), s.dev.live 2 = true → (s.dev.chan n).run = some r → r.cur = some c →
    ((s.dev.canSend .dec n = false ∨ c.soft.length ≤ (s.dev.sectorSplits n r.ord c.index).length) → Gives (.softBlockSend n) s fun d => d = s.dev) ∧
    (s.dev.canSend .dec n = true → (s.dev.sectorSplits n r.ord c.index).length < c.soft.length → r.lost = false → Gives (.softBlockSend n) s fun d =>
      d.dec = { s.dev.dec with flight := s.dev.dec.flight ++ [s.dev.blockOf n r c] } ∧
      (∃ r', (d.chan n).run = some r' ∧ r'.cur = none ∧ r'.next = r.next + 1 ∧ r'.sent = r.sent + 1 ∧ r'.ord = r.ord) ∧
      (d.pool .dec n).held + 1 = (s.dev.pool .dec n).held ∧
      (d.pool .dec n).queue = (s.dev.pool .dec n).queue ++ [mkToken .data (blockBytes (s.dev.blockOf n r c))] ∧
      (∀ m, m ≠ n.val → d.chan m = s.dev.chan m) ∧
      d = { s.dev with dec := d.dec, ch := d.ch, pools := d.pools, cnt := d.cnt, regs := d.regs, log := d.log, lost := d.lost, hst := d.hst }))

/-- R37, R115, R117 to R119, R121, R553: a block in flight enters the input store, and a flipped bit of its token is a parity fault; a first block of ladder step 7 is retained and reported PARKED instead. A free slot takes a retained block asked for, else a
parked block that is due, else the oldest in the store. A decode that finds no codeword tries the next shift of step 5, or is reported NO_CONVERGE (under pressure it is parked while there is room); one with a good CRC is written to
the buffer; one with a bad CRC is reported CRC_FAIL. The report of a written sector follows BUF's response. (Model choices in it: log entries 8, 9, 10, 19, 76.) -/
def Obligations.DecoderPoolDecodesAndReports : Prop :=
  (∀ (s : State) (n : Fin 20) (flip : Option Nat) (b b' : SoftBlock) (t : Token), s.dev.live 2 = true → (s.dev.dec.flight.find? fun x => decide (x.head = n.val)) = some b →
    t = (s.dev.pool .dec n).queue.headD (mkToken .data (blockBytes b)) → b' = blockSeen b t flip → s.dev.flag F.DEC_INJECT_ARM = false →
    ((96 ≤ s.dev.dec.store.length ∨ s.dev.flag (fFENCED .dec n) = true) → Gives (.decBlockAccept n flip) s fun d => d = s.dev) ∧
    (s.dev.dec.store.length < 96 → s.dev.flag (fFENCED .dec n) = false → Gives (.decBlockAccept n flip) s fun d =>
      (b.ord.step ≠ 7 → d.dec = { s.dev.dec with store := s.dev.dec.store ++ [b'], flight := s.dev.dec.flight.erase b } ∧ d.msq = s.dev.msq ∧
        d.pool .dec n = (s.dev.pool .dec n).take) ∧
      (b.ord.step = 7 → s.dev.retained? b = none → s.dev.dec.park.length < 16 → d.dec.park = s.dev.dec.park ++ [.retained b' 1] ∧ d.dec.store = s.dev.dec.store ∧
        d.dec.flight = s.dev.dec.flight.erase b ∧ d.msq = { s.dev.msq with reports := s.dev.msq.reports ++ [reportOf b' 0 rsParked 0 0 b.frame.reframe] }) ∧
      ((t.seen flip).good = false → d.fld (fFBIT .dec 0) = 1) ∧
      ((t.seen flip).good = true → b.ord.step ≠ 7 → d = { s.dev with dec := d.dec, pools := d.pools, cnt := d.cnt, regs := d.regs }))) ∧
  (∀ (s : State) (k : Fin 48), s.dev.live 2 = true →
    (s.dev.slot? k ≠ none → Gives (.decoderSlotTake k) s (fun d => d = s.dev) ∧ Gives (.parkedRedecode k) s fun d => d = s.dev) ∧
    (∀ b r, s.dev.slot? k = none → s.dev.dec.redo = b :: r → Gives (.decoderSlotTake k) s fun d => d.dec.redo = r ∧
      d.slot? k = some { blk := b, cap := s.dev.fld F.DEC_CTRL_ITER_RETRY, retained := true } ∧ d.dec.store = s.dev.dec.store ∧ d.dec.park = s.dev.dec.park ∧
      d = { s.dev with dec := d.dec, regs := d.regs }) ∧
    (∀ b r, s.dev.slot? k = none → s.dev.dec.redo = [] → s.dev.parkedDue = false → s.dev.dec.store = b :: r → Gives (.decoderSlotTake k) s fun d =>
      d.dec.store = r ∧ (∃ x, d.slot? k = some x ∧ x.blk = b ∧ x.retained = false ∧ x.cap = (s.dev.capOf b r.length).1) ∧ d.dec.park = s.dev.dec.park ∧
      d = { s.dev with dec := d.dec, regs := d.regs, pools := d.pools }) ∧
    (∀ b, s.dev.slot? k = none → s.dev.parkedDue = true → s.dev.parkedHead = some b → Gives (.parkedRedecode k) s fun d =>
      d.slot? k = some { blk := b, cap := s.dev.fld F.DEC_CTRL_ITER_MAX } ∧ d.dec.park = s.dev.dec.park.erase (.parked b) ∧ d.dec.store = s.dev.dec.store ∧
      d = { s.dev with dec := d.dec, regs := d.regs })) ∧
  (∀ (s : State) (k : Fin 48) (x : SlotS) (iter : Nat) (code : Option (List Bool)), s.dev.live 2 = true → s.dev.slot? k = some x →
    ldpcDecode x.cap (slotVals x) = (iter, code) →
    (code = none → x.blk.ord.step = 5 → x.shift < 5 → Gives (.decodeEnd k) s fun d => d.slot? k = some { x with shift := x.shift + 1 } ∧ d.msq = s.dev.msq ∧
      d = { s.dev with dec := d.dec, cnt := d.cnt, regs := d.regs }) ∧
    (code = none → x.blk.ord.step ≠ 5 → x.press = false → Gives (.decodeEnd k) s fun d => d.slot? k = none ∧
      d.msq = { s.dev.msq with reports := s.dev.msq.reports ++ [reportOf x.blk k rsNoConverge iter 0 x.blk.frame.reframe] } ∧ d.dec.writes = s.dev.dec.writes ∧
      d = { s.dev with dec := d.dec, cnt := d.cnt, regs := d.regs, buf := d.buf, msq := d.msq, ch := d.ch }) ∧
    (code = none → x.blk.ord.step ≠ 5 → x.press = true → s.dev.dec.park.length < 16 → Gives (.decodeEnd k) s fun d => d.slot? k = none ∧
      d.dec.park = s.dev.dec.park ++ [.parked x.blk] ∧ d.msq = { s.dev.msq with reports := s.dev.msq.reports ++ [reportOf x.blk k rsParked iter 0 x.blk.frame.reframe] } ∧
      d = { s.dev with dec := d.dec, cnt := d.cnt, regs := d.regs, msq := d.msq }) ∧
    (∀ w, code = some w → x.blk.inject ≠ some 1 → crcGood x.blk.lba x.blk.ord.nsid (bytesOfBits 4100 w) = true → Gives (.decodeEnd k) s fun d => d.slot? k = none ∧
      (∃ r, d.dec.writes = s.dev.dec.writes ++ [(s.dev.dec.nextId, r)] ∧ r.status = rsOK ∧ r.lba = x.blk.lba ∧ r.iter = iter) ∧
      d = { s.dev with dec := d.dec, cnt := d.cnt, regs := d.regs, buf := d.buf, log := d.log, lost := d.lost, hst := d.hst }) ∧
    (∀ w, code = some w → x.blk.ord.step ≠ 5 → x.blk.inject ≠ some 1 → crcGood x.blk.lba x.blk.ord.nsid (bytesOfBits 4100 w) = false → Gives (.decodeEnd k) s fun d =>
      d.slot? k = none ∧ (∃ r, d.msq = { s.dev.msq with reports := s.dev.msq.reports ++ [r] } ∧ r.status = rsCrcFail ∧ r.iter = iter) ∧
      d.dec.writes = s.dev.dec.writes ∧ d = { s.dev with dec := d.dec, cnt := d.cnt, regs := d.regs, buf := d.buf, msq := d.msq, ch := d.ch })) ∧
  (∀ (s : State) (id : Nat) (r : SecReport) (resp : BufResp), s.dev.live 2 = true →
    (s.dev.dec.writes.find? fun w => s.dev.buf.resps.any fun q => decide (q.client = 0 ∧ q.id = w.1)) = some (id, r) →
    (s.dev.buf.resps.find? fun q => decide (q.client = 0 ∧ q.id = id)) = some resp →
    Gives .decSectorWriteResponse s fun d =>
      d.dec = { s.dev.dec with writes := s.dev.dec.writes.erase (id, r) } ∧
      d.msq = { s.dev.msq with reports := s.dev.msq.reports ++ [if resp.err then { r with status := rsBufErr } else r] } ∧
      (resp.err = true → d.slotBusy (actOf r.head) r.tbuf = false) ∧
      d = { s.dev with dec := d.dec, msq := d.msq, buf := d.buf, ch := d.ch, regs := d.regs, log := d.log, lost := d.lost, hst := d.hst })

/-- R113, R118, R121 to R124, R126: MSQa takes its oldest sector report: one that did not converge or has a bad CRC starts the ladder of a sector somebody awaits, one that was PARK_FULL counts as a slip; with none it takes its oldest run report.
The next step of a ladder with budget left is a read of that step; a ladder that nobody awaits stops; one that waits for its read goes on waiting. (Model choices in it: log entries 8, 20, 21, 65.) -/
def Obligations.RetryLadderGoesStepByStep : Prop :=
  (∀ (s : State) (a : Fin 2), s.dev.live 1 = true →
    (∀ r, (s.dev.msq.reports.find? fun x => decide (actOf x.head = a.val)) = some r → Gives (.sectorReportReceive a) s fun d =>
      ((r.status = rsNoConverge ∨ r.status = rsCrcFail) → s.dev.ladder? r.ord.nsid (r.lba % 2 ^ 34) = none →
        s.dev.wanted r.ord.nsid (r.lba % 2 ^ 34) = true →
        (∃ l, d.ladder? r.ord.nsid (r.lba % 2 ^ 34) = some l ∧ l.step = 0 ∧ l.waiting = false ∧ l.head = r.head ∧ l.span = r.frame.span) ∧
        d.msq.reports = s.dev.msq.reports.erase r ∧ d = { s.dev with msq := d.msq }) ∧
      (r.status = rsParkFull → d.msq = { s.dev.msq with reports := s.dev.msq.reports.erase r } ∧ d.counter .seq (35 + a) = s.dev.counter .seq (35 + a) + 1 ∧
        d = { s.dev with msq := d.msq, cnt := d.cnt })) ∧
    ((s.dev.msq.reports.find? fun x => decide (actOf x.head = a.val)) = none → Gives (.sectorReportReceive a) s fun d =>
      (∀ r, s.dev.readRun a = some r → d.msq = { s.dev.msq with runs := s.dev.msq.runs.erase r }) ∧ (s.dev.readRun a = none → d = s.dev) ∧
      d = { s.dev with msq := d.msq })) ∧
  (∀ (s : State) (nsid lba : Nat) (l : Ladder), s.dev.live 2 = true → s.dev.ladder? nsid lba = some l →
    (l.waiting = true → s.dev.ladderSlipped l = none → Gives (.retryLadderStep nsid lba) s fun d => d = s.dev) ∧
    (l.waiting = false → s.dev.wanted nsid lba = false → Gives (.retryLadderStep nsid lba) s fun d => d.ladder? nsid lba = none ∧
      d = { s.dev with msq := d.msq, dec := d.dec, regs := d.regs, buf := d.buf }) ∧
    (∀ k, l.waiting = false → s.dev.wanted nsid lba = true → (s.dev.whead l.head).orders.length + (s.dev.whead l.head).notices.length < s.dev.fld (fCREDITS .wrp l.head) →
      s.dev.charged l < s.dev.fld F.DEC_RETRY_BUDGET → (l.step ≠ 0 → s.dev.stepReads l.step ≤ l.made) → s.dev.nextStep l = some k → k ≠ 1 → k ≠ 8 →
      s.dev.linkFailed (actOf l.head) = true →
      Gives (.retryLadderStep nsid lba) s fun d =>
        (∃ l', d.ladder? nsid lba = some l' ∧ l'.step = k ∧ l'.made = 1 ∧ l'.waiting = true) ∧ d.msq.nextId = s.dev.msq.nextId + 1 ∧
        d = { s.dev with msq := d.msq, cmds := d.cmds }) ∧
    (∀ k, l.waiting = false → s.dev.wanted nsid lba = true → (s.dev.whead l.head).orders.length + (s.dev.whead l.head).notices.length < s.dev.fld (fCREDITS .wrp l.head) →
      s.dev.charged l < s.dev.fld F.DEC_RETRY_BUDGET → (l.step ≠ 0 → s.dev.stepReads l.step ≤ l.made) → s.dev.nextStep l = some k → k ≠ 1 → k ≠ 8 →
      Gives (.retryLadderStep nsid lba) s fun d =>
        (∃ l', d.ladder? nsid lba = some l' ∧ l'.step = k ∧ l'.made = 1 ∧ l'.waiting = true) ∧ d.msq.nextId = s.dev.msq.nextId + 1 ∧
        d = { s.dev with msq := d.msq, cmds := d.cmds, wrp := d.wrp }))

/-- Tables 4.16, 5.9, 6.14, 6.16, 7.8, 8.7, 9.4, 10.6, 12.14, 13.13, 13.14, 14.10, 15.6, 17.8, 18.6, R13, R514: a write to a block's INJECT register
puts the value into its fields at once, and changes no other register; a write that sets a RES bit is logged beside that, and may use up an armed LOG.INJECT. Only SRV and SPN also restart what they count for their injections, and WRP the
inhibit of the head that the write names. (Model choices in it: log entries 8, 15, 74.) -/
def Obligations.InjectRegistersArmAtOnce : Prop :=
  ∀ x ∈ ([(.decInjectArm, 2, 0x02000020), (.wrpInjectArm, 3, 0x02100060), (.srvInjectArm, 3, 0x03000030), (.spnInjectArm, 3, 0x03100030),
      (.actInjectArm, 3, 0x03200020), (.bufInjectArm, 4, 0x04000030), (.mdcInjectArm, 4, 0x04100060), (.dmaInjectArm, 1, 0x05000060),
      (.zneInjectArm, 1, 0x06100060), (.rngInjectArm, 1, 0x07000060), (.eceInjectArm, 1, 0x07100060), (.seqInjectArm, 1, 0x08000060),
      (.flcInjectArm, 1, 0x09000060), (.logInjectArm, 0, 0x0A000060), (.pwrInjectArm, 0, 0x0B000060)] :
      List ((Word → Requester → Instr) × Nat × Nat)),
    ∀ (s : State) (v : Word) (who : Requester), s.dev.live x.2.1 = true →
      Gives (x.1 v who) s fun d =>
        (d.word x.2.2).toNat &&& (accOf s.dev.v x.2.2).rw = v.toNat &&& (accOf s.dev.v x.2.2).rw ∧
        (∀ a, a ≠ x.2.2 → a ≠ F.LOG_INJECT_ARM.a → d.word a = s.dev.word a) ∧
        (v.toNat &&& (accOf s.dev.v x.2.2).res = 0 → (∀ a, a ≠ x.2.2 → d.word a = s.dev.word a) ∧ d.log = s.dev.log ∧ d.lost = s.dev.lost ∧ d.hst = s.dev.hst) ∧
        (x.2.2 = 0x03000030 → d.srv = { s.dev.srv with injCount := 0 }) ∧ (x.2.2 ≠ 0x03000030 → d.srv = s.dev.srv) ∧
        (x.2.2 = 0x03100030 → d.spn = { s.dev.spn with injUntil := none, injRsv := 0 }) ∧ (x.2.2 ≠ 0x03100030 → d.spn = s.dev.spn) ∧
        (x.2.2 = 0x02100060 → ∀ m : Nat, (m ≠ getBits v 20 5 → d.whead m = s.dev.whead m) ∧ (d.whead m).run = (s.dev.whead m).run ∧ (d.whead m).orders = (s.dev.whead m).orders) ∧
        (x.2.2 ≠ 0x02100060 → d.wrp = s.dev.wrp) ∧
        d = { s.dev with regs := d.regs, srv := d.srv, spn := d.spn, wrp := d.wrp, log := d.log, lost := d.lost, hst := d.hst }

/-! ## Write path -/

/-- R130 to R134: the first waiting command goes out under the link's SEQ, which counts on, as 56 data-strobe levels. A whole reply in time with STATUS 0 that echoes it ends it (a MODE or HEAT then stands); one that
echoes nothing is no reply; a bad reply, STATUS 1 or silence for ACK_US makes it go again while RESENDS allows, and else fails the link; STATUS 2 or 3 ends it, and fails a bring-up. A bring-up sends ENUM; its answer gives ID
and head count and is followed by the profile's values, MODE 0 and ten HEATs; the last good answer makes the link up. R133, R144, R181: when FLT falls, no gate of the actuator stays raised, each of its runs is marked PREAMP_FAULT (a sector under a gate is written if it had ended, else not), and the profile's fault register is read for all
heads; FLT rising or staying changes nothing else. A comparator trips where the level exceeds THR × 4 mV and rearms 20 mV below; a trip raises the shock inhibit where CMP_EN is 1. The inhibit falls only when more than
10 × HOLD µs have passed since the last trip. (Model choices in it: log entries 7, 8, 9, 10, 20, 22, 24, 70.) -/
def Obligations.ArmLinkAndWriteInhibits : Prop :=
  ((∀ (s : State) (a : Fin 2), s.dev.live 3 = true →
    Gives (.alinkCommandSend a) s fun d =>
      (∀ f rest, (s.dev.alink a).out = none → (s.dev.alink a).queue = f :: rest → s.dev.linkFailed a = false → s.dev.hasLink a = true → f.after ≤ s.dev.now →
        (d.alink a).out = some { f with seq := (s.dev.alink a).seq } ∧ (d.alink a).queue = rest ∧ (d.alink a).resends = 0 ∧
        (d.alink a).seq = ((s.dev.alink a).seq + 1) % 16 ∧
        (d.alink a).wave.map Prod.snd = dsEncode (s.dev.alink a).tx (bitsOfBytes (AFrame.bytes { f with seq := (s.dev.alink a).seq })) ∧
        (d.alink a).sentAt = s.dev.now + s.dev.fld F.WRP_ALINK_BITNS * 55 ∧
        ∀ i x, (d.alink a).wave[i]? = some x → x.1 = s.dev.now + s.dev.fld F.WRP_ALINK_BITNS * i) ∧
      ((s.dev.alink a).out ≠ none ∨ (s.dev.alink a).queue = [] ∨ s.dev.linkFailed a = true ∨ s.dev.hasLink a = false ∨
        (∃ f rest, (s.dev.alink a).queue = f :: rest ∧ s.dev.now < f.after) → d = s.dev) ∧
      (∀ b : Nat, b ≠ a.val → d.alink b = s.dev.alink b) ∧ d = { s.dev with wrp := { s.dev.wrp with links := d.wrp.links } }) ∧
  (∀ (s : State) (a : Fin 2) (w : List (Nat × Bool × Bool)), s.dev.live 3 = true →
    ((s.dev.alink a).out = none → Gives (.alinkReplyReceive a w) s fun d => d = s.dev.setAlink a { s.dev.alink a with rx := (d.alink a).rx }) ∧
    ∀ f, (s.dev.alink a).out = some f →
      (s.dev.replyWhole a w → ¬s.dev.replyEchoes w f →
        Gives (.alinkReplyReceive a w) s fun d => d = s.dev.setAlink a { s.dev.alink a with rx := (d.alink a).rx }) ∧
      (¬s.dev.replyWhole a w ∨ (s.dev.replyWhole a w ∧ s.dev.replyEchoes w f ∧ s.dev.replyByte w 2 % 16 = 1) →
        Gives (.alinkReplyReceive a w) s fun d =>
          ((s.dev.alink a).resends < s.dev.fld F.WRP_ALINK_RESENDS → Resent s.dev d a f) ∧
          (s.dev.fld F.WRP_ALINK_RESENDS ≤ (s.dev.alink a).resends → LinkLost d a)) ∧
      (s.dev.replyWhole a w → s.dev.replyEchoes w f → s.dev.replyByte w 2 % 16 = 0 → (s.dev.alink a).bring = none →
        Gives (.alinkReplyReceive a w) s fun d =>
          d.alink a = { s.dev.alink a with out := none, reply := s.dev.replyData w, rx := (d.alink a).rx, modes := if f.op = 4 then f.data else (s.dev.alink a).modes
                                           modesAt := if f.op = 4 then (s.dev.alink a).sentAt else (s.dev.alink a).modesAt } ∧
          (f.op = 3 → f.head < 10 → (d.whead (10 * a + f.head)).heatAt = s.dev.now) ∧
          (f.op = 1 → f.head < 10 → (d.whead (10 * a + f.head)).recAt = (s.dev.alink a).sentAt + 2000) ∧
          (f.op ≠ 2 → d = { s.dev with wrp := d.wrp }) ∧
          d = { s.dev with wrp := d.wrp, regs := d.regs, log := d.log, lost := d.lost, hst := d.hst }) ∧
      (s.dev.replyWhole a w → s.dev.replyEchoes w f → 2 ≤ s.dev.replyByte w 2 % 16 →
        Gives (.alinkReplyReceive a w) s fun d =>
          ((s.dev.alink a).bring = none → d.alink a = { s.dev.alink a with out := none, reply := s.dev.replyData w, rx := (d.alink a).rx } ∧
            d = { s.dev with wrp := { s.dev.wrp with links := d.wrp.links }, regs := d.regs, log := d.log, lost := d.lost, hst := d.hst }) ∧
          ((s.dev.alink a).bring ≠ none → LinkLost d a)) ∧
      (∀ b p, s.dev.replyWhole a w → s.dev.replyEchoes w f → s.dev.replyByte w 2 % 16 = 0 → (s.dev.alink a).bring = some b → f.op = 5 → b.step = 1 →
        s.dev.now ≤ b.began + 200000 → (s.dev.load.preamps.find? fun p => decide (p.id = s.dev.replyData w)) = some p → s.dev.linkFailed a = false →
        s.dev.replyByte w 3 = 10 →
        Gives (.alinkReplyReceive a w) s fun d =>
          d.fld (F.WRP_PREID_FOUND a) = 1 ∧ d.fld (F.WRP_PREID_HEADS a) = 10 ∧ d.fld (F.WRP_PREID_ID a) = s.dev.replyData w ∧
          (d.alink a).out = none ∧ (∃ b', (d.alink a).bring = some b' ∧ b'.began = b.began ∧ b'.left = p.init.length) ∧
          (d.alink a).queue = (s.dev.alink a).queue ++ p.init.map (fun x => { op := 1, seq := 0, head := 0xF, reg := x.1, data := x.2 }) ++
            [{ op := 4, seq := 0, head := 0xF, data := 0 }] ++
            (List.range 10).map (fun l => { op := 3, seq := 0, head := (10 * a + l) % 10, data := s.dev.wrec (10 * a + l) 0 1 }) ∧
          d = { s.dev with wrp := d.wrp, regs := d.regs, log := d.log, lost := d.lost, hst := d.hst }) ∧
      (∀ b, s.dev.replyWhole a w → s.dev.replyEchoes w f → s.dev.replyByte w 2 % 16 = 0 → (s.dev.alink a).bring = some b → f.op = 3 → b.left ≤ 1 →
        s.dev.replyData w = f.data → s.dev.now ≤ b.began + 2000000 →
        Gives (.alinkReplyReceive a w) s fun d =>
          (d.fld F.WRP_STAT_AL_UP).testBit a = true ∧ (d.alink a).bring = none ∧ (d.alink a).out = none ∧ d = { s.dev with wrp := d.wrp, regs := d.regs })) ∧
  (∀ (s : State) (a : Fin 2), s.dev.live 3 = true →
    ((s.dev.alink a).out = none ∨ s.dev.now < (s.dev.alink a).sentAt + 1000 * s.dev.fld F.WRP_ALINK_ACK_US → Gives (.alinkReplyTimeout a) s fun d => d = s.dev) ∧
    (∀ f, (s.dev.alink a).out = some f → (s.dev.alink a).sentAt + 1000 * s.dev.fld F.WRP_ALINK_ACK_US ≤ s.dev.now → Gives (.alinkReplyTimeout a) s fun d =>
      ((s.dev.alink a).resends < s.dev.fld F.WRP_ALINK_RESENDS → Resent s.dev d a f) ∧
      (s.dev.fld F.WRP_ALINK_RESENDS ≤ (s.dev.alink a).resends → LinkLost d a))) ∧
  (∀ (s : State) (a : Fin 2), s.dev.live 3 = true →
    Gives (.armLinkBringup a) s fun d =>
      (s.dev.hasLink a = true → s.dev.linkFailed a = false → (s.dev.fld F.WRP_STAT_AL_UP).testBit a = false → (s.dev.alink a).bring = none →
        d = s.dev.setAlink a { s.dev.alink a with bring := some { began := s.dev.now }, queue := (s.dev.alink a).queue ++ [{ op := 5, seq := 0, head := 0xF }] }) ∧
      (s.dev.hasLink a = false ∨ s.dev.linkFailed a = true ∨ (s.dev.fld F.WRP_STAT_AL_UP).testBit a = true ∨ (s.dev.alink a).bring ≠ none → d = s.dev))) ∧
  ((∀ (s : State) (a : Fin 2), s.dev.live 3 = true → s.dev.hasLink a = true → (s.dev.alink a).fltLow = false →
    Gives (.preampFaultInput a true) s fun d =>
      (d.alink a).fltLow = true ∧
      (∀ (l : Nat) (r : WRunS), l < 10 → (s.dev.whead (10 * a + l)).run = some r →
        ∃ r' : WRunS, (d.whead (10 * a + l)).run = some r' ∧ r'.gate = none ∧ r'.flags.testBit 2 = true ∧
          r'.written + r'.notWritten = r.written + r.notWritten + r.gate.isSome.toNat) ∧
      (∀ p, s.dev.preamp a = some p → s.dev.linkFailed a = false →
        (d.alink a).queue = (s.dev.alink a).queue ++ [{ op := 2, seq := 0, head := 0xF, reg := p.fltReg }] ∧ d = { s.dev with wrp := d.wrp, cnt := d.cnt }) ∧
      d.counter .wrp 8 = s.dev.counter .wrp 8 + 1 ∧
      d = { s.dev with wrp := d.wrp, cnt := d.cnt, regs := d.regs, log := d.log, lost := d.lost, hst := d.hst }) ∧
  (∀ (s : State) (a : Fin 2) (low : Bool), s.dev.live 3 = true → (low = false ∨ (s.dev.alink a).fltLow = true ∨ s.dev.hasLink a = false) →
    Gives (.preampFaultInput a low) s fun d => d = s.dev.setAlink a { s.dev.alink a with fltLow := low }) ∧
  (∀ (s : State) (a : Fin 2) (mv : Nat), s.dev.live 3 = true →
    Gives (.shockComparatorTrip a mv) s fun d =>
      let above := s.dev.srv.above.get (fun _ => false) a
      (s.dev.hasLink a = false ∨ (above = true ∧ s.dev.shockMv a < mv + 20) ∨ (above = false ∧ mv ≤ s.dev.shockMv a) → d = s.dev) ∧
      (s.dev.hasLink a = true → above = true → mv + 20 ≤ s.dev.shockMv a → d.srv.above.get (fun _ => false) a = false ∧ d = { s.dev with srv := d.srv }) ∧
      (s.dev.hasLink a = true → above = false → s.dev.shockMv a < mv → d.srv.above.get (fun _ => false) a = true ∧
        (s.dev.flag F.WRP_SHOCK_CMP_EN = false → d = { s.dev with srv := d.srv }) ∧
        (s.dev.flag F.WRP_SHOCK_CMP_EN = true → d.shockUp a = true ∧ (if a = 0 then d.wrp.shock0 else d.wrp.shock1) = some s.dev.now)) ∧
      (∀ b : Fin 2, b ≠ a → d.shockUp b = s.dev.shockUp b) ∧ d.wrp.heads = s.dev.wrp.heads ∧ d.wrp.links = s.dev.wrp.links ∧
      d = { s.dev with srv := { s.dev.srv with above := d.srv.above }, wrp := d.wrp, regs := d.regs, log := d.log, lost := d.lost, hst := d.hst }) ∧
  (∀ (s : State) (a : Fin 2), s.dev.live 3 = true →
    Gives (.shockInhibitRelease a) s fun d =>
      (∀ t, (if a = 0 then s.dev.wrp.shock0 else s.dev.wrp.shock1) = some t →
        (s.dev.now ≤ t + 10000 * s.dev.fld F.WRP_SHOCK_HOLD → d = s.dev) ∧ (t + 10000 * s.dev.fld F.WRP_SHOCK_HOLD < s.dev.now → d.shockUp a = false)) ∧
      ((if a = 0 then s.dev.wrp.shock0 else s.dev.wrp.shock1) = none → d = s.dev) ∧
      (∀ b : Fin 2, b ≠ a → d.shockUp b = s.dev.shockUp b) ∧ d.wrp.heads = s.dev.wrp.heads ∧ d = { s.dev with wrp := d.wrp }))

/-- R135 to R137, R141, R142, R146: a write run order at the place R83 gives, whose sectors a destage order holds whole, starts at once on an idle head and else waits behind the others. The data that the head's run has asked for is
held as the sector's information bytes. At its wedge a sector's gate rises exactly where no condition of G1 to G9 fails, and behind a wedge that splits it where none of G2, G3, G6, G8 fails; else the sector is not written and its causes are
marked. A gate falls when its sector has ended, and the sector is written. When every sector has passed the run's report goes to MSQa. R140, R147, R148: a read run whose sectors a media order asks for sends its heater notice: answered at once with the heaters off, with ALINK_LOST on a failed link, else put in the queue; the oldest is answered when its code has
stood for PREHEAT_US µs, or with the heaters off. Of a write report the sectors that are still to be written are ordered again with RETRY = 1 as runs of consecutive sectors, the order charged once a revolution for
causes that cost; with RETRY_BUDGET spent, or the link lost, the order fails (event 0x0507, RETRY_EXHAUSTED). (Model choices in it: log entries 8, 9, 20, 22, 23, 24, 70, 75.) -/
def Obligations.WriteRunsGateAndRetry : Prop :=
  ((∀ (s : State) (n : Fin 20) (nsid : Word) (lba : BitVec 64) (count : Nat), s.dev.live 3 = true →
    (∀ o, s.dev.runFor nsid.toNat lba.toNat count = some (n.val, o) → ((runLbas o).all fun l => s.dev.writeDue (actOf n) o.nsid l) = true →
      s.dev.combFree (actOf n) o.stripe = true →
      Gives (.writeRunOrder n nsid lba count) s fun d =>
        (s.dev.hasCh n = true → (s.dev.whead n).orders.length < s.dev.fld (fCREDITS .wrp n) → s.dev.linkFailed (actOf n) = false →
          ∃ x : RunOrder × Bool × Nat, x.1.lba = o.lba ∧ x.1.stripe = o.stripe ∧ x.1.track = o.track ∧ x.1.first = o.first ∧ x.1.count = o.count ∧ x.1.nsid = o.nsid ∧
            x.1.tag = s.dev.msq.nextId % 65536 ∧ x.2 = (false, s.dev.now) ∧
            ((s.dev.whead n).run ≠ none → (d.whead n).orders = (s.dev.whead n).orders ++ [x]) ∧
            ((s.dev.whead n).run = none → (d.whead n).orders = ((s.dev.whead n).orders ++ [x]).drop 1 ∧
              ∃ r : WRunS, (d.whead n).run = some r ∧ ((s.dev.whead n).orders ++ [x]).head? = some (r.ord, r.retry, r.accepted) ∧ r.next = 0 ∧ r.written = 0 ∧
                r.notWritten = 0 ∧ r.gate = none)) ∧
        (s.dev.hasCh n = true → (s.dev.whead n).orders.length < s.dev.fld (fCREDITS .wrp n) → s.dev.linkFailed (actOf n) = true →
          (∃ r, d.msq.runs = s.dev.msq.runs ++ [r] ∧ r.head = n.val ∧ r.flags = 8 ∧ r.notWritten = o.count ∧ r.write = true) ∧ d = { s.dev with msq := d.msq }) ∧
        (s.dev.hasCh n = false ∨ s.dev.fld (fCREDITS .wrp n) ≤ (s.dev.whead n).orders.length → d = { s.dev with msq := { s.dev.msq with nextId := s.dev.msq.nextId + 1 } }) ∧
        (∀ m, actOf m ≠ actOf n → d.whead m = s.dev.whead m) ∧ d = { s.dev with wrp := d.wrp, buf := d.buf, msq := d.msq }) ∧
    ((∀ o, s.dev.runFor nsid.toNat lba.toNat count = some (n.val, o) → ((runLbas o).all fun l => s.dev.writeDue (actOf n) o.nsid l) = false ∨
      s.dev.combFree (actOf n) o.stripe = false) → Gives (.writeRunOrder n nsid lba count) s fun d => d = s.dev)) ∧
  (∀ (s : State) (n : Fin 20), s.dev.live 3 = true →
    ((s.dev.buf.resps.find? fun x => decide (x.client = 1 ∧ x.id % 32 = n.val)) = none → Gives (.wrpSectorData n) s fun d => d = s.dev) ∧
    ∀ q, (s.dev.buf.resps.find? fun x => decide (x.client = 1 ∧ x.id % 32 = n.val)) = some q →
      ((∀ r, (s.dev.whead n).run = some r → r.reqId ≠ some q.id) → Gives (.wrpSectorData n) s fun d => d = { s.dev with buf := { s.dev.buf with resps := s.dev.buf.resps.erase q } }) ∧
      ∀ r, (s.dev.whead n).run = some r → r.reqId = some q.id →
        Gives (.wrpSectorData n) s fun d =>
          (∃ r' : WRunS, (d.whead n).run = some r' ∧ r.asked < r'.asked ∧ r'.next = r.next ∧ r'.ord = r.ord ∧
            ∀ c, s.dev.cacheFor r.ord r.asked = some c → q.err = false → (r.asked, s.dev.sectorInfo r.ord c.rlba q.data) ∈ r'.held) ∧
          (∀ m, actOf m ≠ actOf n → d.whead m = s.dev.whead m) ∧ d = { s.dev with wrp := d.wrp, buf := d.buf }) ∧
  (∀ (s : State) (n : Fin 20) (d0 : Dev), s.dev.live 3 = true → d0 = s.dev.gateNow n →
    (∀ r, (d0.whead n).run = some r → r.gate = none → r.next < r.ord.count → d0.atSector n r.ord r.next 0 = true →
      Gives (.writeSectorStart n) s fun d =>
        ((d0.gateFails n r.next r).1 = 0 → (∃ r' : WRunS, (d.whead n).run = some r' ∧ r'.gate = some r.next ∧ r'.up = true ∧ r'.next = r.next ∧
          r'.written = r.written ∧ r'.notWritten = r.notWritten) ∧ d = { d0 with wrp := d.wrp, free := d.free }) ∧
        ((d0.gateFails n r.next r).1 ≠ 0 → (∃ r' : WRunS, (d.whead n).run = some r' ∧ r'.gate = none ∧ r'.next = r.next + 1 ∧
          r'.notWritten = r.notWritten + 1 ∧ r'.flags = r.flags ||| (d0.gateFails n r.next r).1 ∧ r'.firstNw = some (r.firstNw.getD r.next))) ∧
        (∀ m : Nat, m ≠ n.val → d.whead m = d0.whead m) ∧
        d = { d0 with wrp := d.wrp, cnt := d.cnt, regs := d.regs, log := d.log, lost := d.lost, hst := d.hst, free := d.free }) ∧
    (∀ r i p rest f, (d0.whead n).run = some r → r.gate = some i → r.up = false → r.parts = p :: rest → d0.fmtOf (actOf n) = some f →
      d0.atSector n r.ord i ((sectorParts (bandAt f r.ord.band).dataIv 64 (((d0.sectorPos n r.ord i).map Prod.snd).getD 0) (List.replicate 35056 false)).length -
        r.parts.length) = true →
      Gives (.writeSectorStart n) s fun d =>
        (d0.cutCause n = (0, false) → (∃ r' : WRunS, (d.whead n).run = some r' ∧ r'.gate = some i ∧ r'.up = true ∧ r'.parts = rest) ∧ d = { d0 with wrp := d.wrp, free := d.free }) ∧
        (d0.cutCause n ≠ (0, false) → ∃ r' : WRunS, (d.whead n).run = some r' ∧ r'.gate = none ∧ r'.next = i + 1 ∧ r'.notWritten = r.notWritten + 1 ∧
          r'.flags.testBit 5 = true)) ∧
    (((d0.whead n).run = none ∨ (∃ r, (d0.whead n).run = some r ∧ ((∃ i, r.gate = some i ∧ (r.parts = [] ∨ r.up = true)) ∨
      (r.gate = none ∧ (r.ord.count ≤ r.next ∨ d0.atSector n r.ord r.next 0 = false))))) → Gives (.writeSectorStart n) s fun d => d = d0)) ∧
  (∀ (s : State) (n : Fin 20) (r : WRunS) (i : Nat), s.dev.live 3 = true → (s.dev.whead n).run = some r → r.gate = some i → r.up = true →
    (s.dev.now < r.ends → Gives (.writeGateDrop n) s fun d =>
      (s.dev.cutCause n = (0, false) → d = s.dev) ∧
      (s.dev.cutCause n ≠ (0, false) → (∃ r' : WRunS, (d.whead n).run = some r' ∧ r'.gate = none ∧ r'.next = i + 1 ∧ r'.notWritten = r.notWritten + 1 ∧
        r'.written = r.written ∧ r'.flags = r.flags ||| ((s.dev.cutCause n).1 ||| 32)) ∧ d.counter .wrp 4 = s.dev.counter .wrp 4 + 1) ∧
      (∀ m : Nat, m ≠ n.val → d.whead m = s.dev.whead m) ∧ d = { s.dev with wrp := d.wrp, cnt := d.cnt, regs := d.regs, log := d.log, lost := d.lost, hst := d.hst }) ∧
    (r.ends ≤ s.dev.now → r.parts = [] → Gives (.writeGateDrop n) s fun d =>
      (∃ r' : WRunS, (d.whead n).run = some r' ∧ r'.gate = none ∧ r'.next = i + 1 ∧ r'.written = r.written + 1 ∧ r'.notWritten = r.notWritten ∧ r'.landed = r.landed ++ [i]) ∧
      d.counter .wrp 0 = s.dev.counter .wrp 0 + 1 ∧ (∀ m : Nat, m ≠ n.val → d.whead m = s.dev.whead m) ∧ d = { s.dev with wrp := d.wrp, cnt := d.cnt })) ∧
  (∀ (s : State) (n : Fin 20), s.dev.live 3 = true → (∀ r, (s.dev.whead n).run = some r → r.gate = none ∨ r.up = false) → Gives (.writeGateDrop n) s fun d => d = s.dev) ∧
  (∀ (s : State) (n : Fin 20) (d0 : Dev), s.dev.live 3 = true → d0 = s.dev.gateNow n →
    (∀ r, (d0.whead n).run = some r → r.gate = none → r.ord.count ≤ r.next →
      Gives (.writeRunEnd n) s fun d =>
        d.msq.runs = s.dev.msq.runs ++ [d0.writeReport n r 0] ∧ ((s.dev.whead n).orders = [] → (d.whead n).run = none) ∧
        (r.landed = [] → s.dev.msq.orders = [] → d = { d0 with msq := d.msq, wrp := d.wrp, buf := d.buf })) ∧
    ((∀ r, (d0.whead n).run = some r → r.gate ≠ none ∨ r.next < r.ord.count) → Gives (.writeRunEnd n) s fun d => d = d0))) ∧
  ((∀ (s : State) (n : Fin 20) (nsid : Word) (lba : BitVec 64) (count : Nat), s.dev.live 3 = true →
    (∀ o, s.dev.runFor nsid.toNat lba.toNat count = some (n.val, o) → s.dev.hasCh n = true → ((runLbas o).all fun l => s.dev.readDue (actOf n) o.nsid l) = true →
      s.dev.combFree (actOf n) o.stripe = true → (s.dev.whead n).orders.length + (s.dev.whead n).notices.length < s.dev.fld (fCREDITS .wrp n) →
      Gives (.heaterNotice n nsid lba count) s fun d =>
        let o' : RunOrder := { o with tag := s.dev.msq.nextId % 65536 }
        (s.dev.linkFailed (actOf n) = true → d.msq.runs = s.dev.msq.runs ++ [noticeReport n o' true] ∧ d.wrp = s.dev.wrp) ∧
        (s.dev.linkFailed (actOf n) = false → (s.dev.flag F.WRP_CTRL_HEAT_EN = false ∨
          ((s.dev.whead n).run = none ∧ (s.dev.whead n).notices = [] ∧ (s.dev.whead n).heat = s.dev.wrec n o.band 1 ∧ s.dev.heatStands n = true)) → d.msq.runs = s.dev.msq.runs ++ [noticeReport n o' false] ∧ d.wrp = s.dev.wrp) ∧
        (s.dev.linkFailed (actOf n) = false → s.dev.flag F.WRP_CTRL_HEAT_EN = true →
          ((s.dev.whead n).run ≠ none ∨ (s.dev.whead n).notices ≠ [] ∨ (s.dev.whead n).heat ≠ s.dev.wrec n o.band 1 ∨ s.dev.heatStands n = false) →
          (d.whead n).notices = (s.dev.whead n).notices ++ [⟨o', s.dev.wrec n o.band 1⟩] ∧ d.msq.runs = s.dev.msq.runs) ∧
        (d.whead n).run = (s.dev.whead n).run ∧ (∀ m : Nat, m ≠ n.val → d.whead m = s.dev.whead m) ∧ d = { s.dev with wrp := d.wrp, msq := d.msq }) ∧
    ((∀ o, s.dev.runFor nsid.toNat lba.toNat count = some (n.val, o) → s.dev.hasCh n = false ∨ ((runLbas o).all fun l => s.dev.readDue (actOf n) o.nsid l) = false ∨
      s.dev.combFree (actOf n) o.stripe = false ∨ s.dev.fld (fCREDITS .wrp n) ≤ (s.dev.whead n).orders.length + (s.dev.whead n).notices.length) →
      Gives (.heaterNotice n nsid lba count) s fun d => d = s.dev)) ∧
  (∀ (s : State) (n : Fin 20), s.dev.live 3 = true →
    (∀ x rest, (s.dev.whead n).notices = x :: rest → (s.dev.flag F.WRP_CTRL_HEAT_EN = false ∨
        ((s.dev.whead n).run = none ∧ (s.dev.whead n).heat = x.code ∧ s.dev.heatStands n = true)) →
      Gives (.heaterPreheatDone n) s fun d =>
        d.msq.runs = s.dev.msq.runs ++ [noticeReport n x.ord false] ∧ (d.whead n).notices = rest ∧ (d.whead n).run = (s.dev.whead n).run ∧
        d = { s.dev with wrp := d.wrp, msq := { s.dev.msq with runs := d.msq.runs } }) ∧
    ((s.dev.whead n).notices = [] ∨ (s.dev.flag F.WRP_CTRL_HEAT_EN = true ∧ ∃ x rest, (s.dev.whead n).notices = x :: rest ∧
        ((s.dev.whead n).run ≠ none ∨ (s.dev.whead n).heat ≠ x.code ∨ s.dev.heatStands n = false)) →
      Gives (.heaterPreheatDone n) s fun d => d = s.dev)) ∧
  (∀ (s : State) (a : Fin 2), s.dev.live 3 = true →
    ((s.dev.msq.runs.find? fun r => r.write && !r.notice && actOf r.head == a.val) = none → Gives (.writeRetry a) s fun d => d = s.dev) ∧
    ∀ r, (s.dev.msq.runs.find? fun r => r.write && !r.notice && actOf r.head == a.val) = some r →
      let runs := stretches ((missing r).filter fun i => match s.dev.cacheFor r.ord i with | some c => !c.held && c.order.isSome | none => false)
      let live := s.dev.msq.orders.filter fun o => (s.dev.destageOf r).contains o.id && !o.failed
      let pay := bitsAt r.flags 0 3 ≠ 0 ∧ ∃ o ∈ live, o.lastRev ≠ some r.rev
      let spent := live.foldl (fun m o => max m o.charges) 0
      (runs = [] → Gives (.writeRetry a) s fun d => d = { s.dev with msq := { s.dev.msq with runs := s.dev.msq.runs.erase r } }) ∧
      (runs ≠ [] → live = [] → Gives (.writeRetry a) s fun d => d.msq.runs = s.dev.msq.runs.erase r) ∧
      (runs ≠ [] → live ≠ [] → (r.flags.testBit 3 = true ∨ (pay ∧ s.dev.fld F.WRP_RETRY_BUDGET ≤ spent)) →
        Gives (.writeRetry a) s fun d => d.counter .wrp 6 = s.dev.counter .wrp 6 + 1 ∧ ∀ o ∈ d.msq.orders, (s.dev.destageOf r).contains o.id = true → o.failed = true) ∧
      (runs ≠ [] → live ≠ [] → ¬(r.flags.testBit 3 = true ∨ (pay ∧ s.dev.fld F.WRP_RETRY_BUDGET ≤ spent)) →
        (s.dev.fld (fCREDITS .wrp r.head) < (s.dev.whead r.head).orders.length + runs.length → Gives (.writeRetry a) s fun d => d = s.dev) ∧
        ((s.dev.whead r.head).orders.length + runs.length ≤ s.dev.fld (fCREDITS .wrp r.head) → s.dev.hasCh r.head = true → s.dev.linkFailed (actOf r.head) = false →
          Gives (.writeRetry a) s fun d =>
            d.msq.runs = s.dev.msq.runs.erase r ∧
            (∃ l : List (RunOrder × Bool × Nat),
              l.map (fun x => (x.1.first, x.1.count, x.1.lba, x.1.track, x.2)) =
                runs.map (fun p => (r.ord.first + p.1, p.2, runLba r.ord.lba r.ord.w p.1, r.ord.track, true, s.dev.now)) ∧
              ((s.dev.whead r.head).run ≠ none → (d.whead r.head).orders = (s.dev.whead r.head).orders ++ l) ∧
              ((s.dev.whead r.head).run = none → (d.whead r.head).orders = ((s.dev.whead r.head).orders ++ l).drop 1 ∧
                ∃ x : WRunS, (d.whead r.head).run = some x ∧ ((s.dev.whead r.head).orders ++ l).head? = some (x.ord, x.retry, x.accepted))) ∧
            (pay → d.counter .wrp 5 = s.dev.counter .wrp 5 + 1) ∧
            d.msq.orders = (s.dev.msq.orders.map fun o => if bitsAt r.flags 0 3 ≠ 0 ∧ (∃ o ∈ live, o.lastRev ≠ some r.rev) ∧ (s.dev.destageOf r).contains o.id = true then
              { o with charges := o.charges + 1, lastRev := some r.rev } else o) ∧
            d = { s.dev with msq := d.msq, wrp := d.wrp, buf := d.buf, cnt := d.cnt }))))

/-! ## Servo engine -/

/-- R165, R166, R168, R171 to R173: SRV takes the token at the head of an order queue; an outstanding order of the loop is reported SUPERSEDED, and the order is accepted (it is outstanding, the fault code is cleared, the loop moves) or
reported REFUSED: LOAD for a VCM loop that may load, FETCH for a loop in a mode that allows it, STAY from HEEL or STAY, OFFSET for a microactuator in HEEL, UNLOAD always. Another ORDER code or loop is refused.
The retract order of a power-fail unloads the VCM loop. A fault that is due comes before the order. R167, R168, R170, R172, R177: a fault that is due takes a VCM loop to STAY or a microactuator loop to DOWN, shows its code, and is reported to the outstanding order or else raised as a loop fault; LOAD and holding that run
out of time go to UNLOAD, UNLOAD to DOWN, with every microactuator loop in DOWN; what is not due changes nothing. A long stand at ICLAMP is logged once. (Model choices in it: log entries 7, 8, 9, 15, 70, 77.) -/
def Obligations.ServoOrdersAndLoopFaults : Prop :=
  ((∀ x ∈ ([(.servoLoadOrder, 1), (.servoFetchOrder, 2), (.servoStayOrder, 5), (fun j flip => .servoUnloadOrder j false flip, 6), (.servoOffsetOrder, 7)] :
      List ((Fin 2 → Option Nat → Instr) × Nat)), ∀ (s : State) (j : Fin 2) (flip : Option Nat), s.dev.live 3 = true →
    (s.dev.acceptFrom .srv j flip = none → Gives (x.1 j flip) s fun d => d = s.dev) ∧
    (∀ b d0, s.dev.acceptFrom .srv j flip = some (b, d0) → d0.isOrder x.2 (modeOrder b) = false → Gives (x.1 j flip) s fun d => d = s.dev) ∧
    (∀ b d0, s.dev.acceptFrom .srv j flip = some (b, d0) → d0.isOrder x.2 (modeOrder b) = true → Gives (x.1 j flip) s fun d =>
      (d.pool .srv j).queue = (s.dev.pool .srv j).queue.drop 1 ∧ ServoOnly d0 d)) ∧
  (∀ (s : State) (j : Fin 2) (flip : Option Nat) (b : Bytes) (d0 : Dev) (o : ModeOrder), s.dev.live 3 = true → s.dev.acceptFrom .srv j flip = some (b, d0) →
    o = modeOrder b →
    (d0.isOrder 1 o = true → Gives (.servoLoadOrder j flip) s fun d =>
      (o.loop < 2 → d0.mayLoad o.loop = true →
        d.mode o.loop = 1 ∧ d.fld (F.SRV_LSTAT_FAULT o.loop) = 0 ∧ (d.lp o.loop).order = some { tag := o.tag, code := 1 } ∧ (d.lp o.loop).tick = s.dev.now ∧
        d.msq.modes = d0.msq.modes ++ d0.supersedes o.loop) ∧
      ((2 ≤ o.loop ∨ d0.mayLoad o.loop = false) → d.mode o.loop = d0.mode o.loop ∧ (d.lp o.loop).order = none ∧
        ∃ r, d.msq.modes = d0.msq.modes ++ d0.supersedes o.loop ++ [r] ∧ r.tag = o.tag ∧ r.loop = o.loop ∧ r.status = 3)) ∧
    (∀ d1, d1 = d0.takeDue o.loop → d0.isOrder 2 o = true → Gives (.servoFetchOrder j flip) s fun d =>
      let okVcm := o.loop < 2 ∧ 2 ≤ d1.mode o.loop ∧ d1.mode o.loop ≤ 5 ∧ (d1.lp o.loop).holding = false ∧ d1.setsOk o.loop = true ∧ o.ofs.natAbs ≤ 1024
      let okMicro := 2 ≤ o.loop ∧ (d1.mode o.loop = 0 ∨ (3 ≤ d1.mode o.loop ∧ d1.mode o.loop ≤ 5)) ∧ d1.setsOk o.loop = true ∧ o.ofs.natAbs ≤ 1024 ∧
        2 ≤ d1.mode (loopAct o.loop) ∧ d1.mode (loopAct o.loop) ≤ 5 ∧ (d1.lp (loopAct o.loop)).holding = false ∧ (d1.lp (loopAct o.loop)).tgt = o.stripe
      (okVcm ∨ okMicro → d.mode o.loop = 2 ∧ (d.lp o.loop).tgt = o.stripe ∧ (d.lp o.loop).order = some { tag := o.tag, code := 2 } ∧
        d.fld (F.SRV_LSTAT_FAULT o.loop) = 0 ∧ d.counter .srv 6 = d1.counter .srv 6 + 1 ∧ d.msq.modes = d1.msq.modes ++ d1.supersedes o.loop) ∧
      (okVcm → (d.lp o.loop).ended = false) ∧ (okMicro → (d.lp o.loop).wr = o.wr ∧ (d.lp o.loop).ofs = o.ofs) ∧
      (¬(okVcm ∨ okMicro) → d.mode o.loop = d1.mode o.loop ∧ (d.lp o.loop).order = none ∧
        ∃ r, d.msq.modes = d1.msq.modes ++ d1.supersedes o.loop ++ [r] ∧ r.tag = o.tag ∧ r.loop = o.loop ∧ r.status = 3)) ∧
    (∀ d1, d1 = d0.takeDue o.loop → d0.isOrder 5 o = true → Gives (.servoStayOrder j flip) s fun d =>
      let ok := (d1.mode o.loop = 4 ∨ (d1.mode o.loop = 5 ∧ (d1.lp o.loop).holding = false)) ∧ d1.setsOk o.loop = true
      (d.lp o.loop).order = none ∧ (ok → d.mode o.loop = 5) ∧ (¬ok → d.mode o.loop = d1.mode o.loop) ∧
        ∃ r, d.msq.modes = d1.msq.modes ++ d1.supersedes o.loop ++ [r] ∧ r.tag = o.tag ∧ r.loop = o.loop ∧ (ok → r.mode = 5 ∧ r.status = 0) ∧ (¬ok → r.status = 3)) ∧
    (∀ d1, d1 = d0.takeDue o.loop → d0.isOrder 6 o = true → Gives (.servoUnloadOrder j false flip) s fun d =>
      ((2 ≤ o.loop ∨ d1.mode o.loop = 0) → d.mode o.loop = 0 ∧ (d.lp o.loop).order = none ∧
        ∃ r, d.msq.modes = d1.msq.modes ++ d1.supersedes o.loop ++ [r] ∧ r.tag = o.tag ∧ r.loop = o.loop ∧ r.mode = 0 ∧ r.status = 0) ∧
      (o.loop < 2 → d1.mode o.loop ≠ 0 → d.mode o.loop = 6 ∧ (d.lp o.loop).order = some { tag := o.tag, code := 6 } ∧
        d.msq.modes = d1.msq.modes ++ d1.supersedes o.loop ∧ (d1.mode o.loop ≠ 6 → ∀ l : Nat, l < 10 → d.mode (2 + 10 * o.loop + l) = 0))) ∧
    (∀ d1, d1 = d0.takeDue o.loop → d0.isOrder 7 o = true → Gives (.servoOffsetOrder j flip) s fun d =>
      let ok := 2 ≤ o.loop ∧ d1.mode o.loop = 4 ∧ d1.setsOk o.loop = true ∧ o.ofs.natAbs ≤ 1024
      (ok → d.mode o.loop = 3 ∧ (d.lp o.loop).ofs = o.ofs ∧ (d.lp o.loop).wr = o.wr ∧ (d.lp o.loop).order = some { tag := o.tag, code := 7 } ∧
        d.flag (inhBit (o.loop - 2)) = true ∧ d.msq.modes = d1.msq.modes ++ d1.supersedes o.loop) ∧
      (¬ok → d.mode o.loop = d1.mode o.loop ∧ (d.lp o.loop).order = none ∧
        ∃ r, d.msq.modes = d1.msq.modes ++ d1.supersedes o.loop ++ [r] ∧ r.tag = o.tag ∧ r.loop = o.loop ∧ r.status = 3))) ∧
  (∀ (s : State) (j : Fin 2) (flip : Option Nat), s.dev.live 3 = true →
    (s.dev.acceptFrom .srv j flip = none → Gives (.servoOrderRefused j flip) s fun d => d = s.dev) ∧
    ∀ b d0, s.dev.acceptFrom .srv j flip = some (b, d0) → Gives (.servoOrderRefused j flip) s fun d =>
      let known := s.dev.hasLoop (modeOrder b).loop = true ∧ (modeOrder b).order ∈ [1, 2, 5, 6, 7]
      (known → d = s.dev) ∧
      (¬known → (∃ r, d.msq.modes = d0.msq.modes ++ (if s.dev.hasLoop (modeOrder b).loop then d0.supersedes (modeOrder b).loop else []) ++ [r] ∧
        r.tag = (modeOrder b).tag ∧ r.loop = (modeOrder b).loop ∧ r.status = 3) ∧ d = { d0 with srv := d.srv, msq := { d0.msq with modes := d.msq.modes } })) ∧
  (∀ (s : State) (a : Fin 2) (flip : Option Nat), s.dev.live 3 = true → Gives (.servoUnloadOrder a true flip) s fun d =>
      (s.dev.hasLoop a = false → d = s.dev) ∧
      (s.dev.hasLoop a = true → (s.dev.mode a ≠ 0 → d.mode a = 6) ∧ (s.dev.mode a = 0 → d.mode a = 0) ∧ (d.lane 0).func.get (fun _ => 0) 13 = 1) ∧
      (d.lp a).order = (s.dev.lp a).order ∧ d.msq = s.dev.msq)) ∧
  ((∀ x ∈ ([(.loopFaultInnov, 1), (.loopFaultLost, 2), (.loopFaultSat, 5), (.sitTmo, 4)] : List ((Fin 22 → Instr) × Nat)),
    ∀ (s : State) (k : Fin 22), s.dev.live 3 = true →
      (s.dev.dueFault k ≠ some x.2 → Gives (x.1 k) s fun d => d = s.dev) ∧
      (s.dev.dueFault k = some x.2 → Gives (x.1 k) s fun d =>
        d.fld (F.SRV_LSTAT_FAULT k) = x.2 ∧ d.mode k = (if k.val < 2 then 5 else 0) ∧ (d.lp k).order = none ∧
        (∀ o, (s.dev.lp k).order = some o → ∃ r, d.msq.modes = s.dev.msq.modes ++ [r] ∧ r.tag = o.tag ∧ r.status = 1 ∧ r.fault = x.2) ∧
        ((s.dev.lp k).order = none → d.msq.modes = s.dev.msq.modes ∧ d.flag ⟨F.SRV_LFAULT_FAULT.a, k, 1⟩ = true) ∧ ServoOnly s.dev d)) ∧
  (∀ (s : State) (a : Fin 2), s.dev.live 3 = true →
    Gives (.fetchTmo a) s (fun d =>
      (s.dev.dueFault a ≠ some 3 → d = s.dev) ∧
      (s.dev.dueFault a = some 3 → d.fld (F.SRV_LSTAT_FAULT a) = 3 ∧ d.mode a = 5 ∧ (d.lp a).order = none ∧ ServoOnly s.dev d)) ∧
    Gives (.loadTmo a) s (fun d =>
      let late := s.dev.mode a = 1 ∧ (s.dev.lp a).since + 1000000 * s.dev.fld (F.SRV_LPARK_LOAD_TMO a) ≤ s.dev.now
      (¬late → d = s.dev) ∧
      (late → d.fld (F.SRV_LSTAT_FAULT a) = 6 ∧ d.mode a = 6 ∧ (∀ l : Nat, l < 10 → d.mode (2 + 10 * a + l) = 0) ∧ ServoOnly s.dev d)) ∧
    Gives (.reacqTmo a) s (fun d =>
      let late := s.dev.mode a = 5 ∧ (s.dev.lp a).holding = true ∧ (s.dev.lp a).since + 1000000 * s.dev.fld (F.SRV_LPARK_REACQ_MS a) ≤ s.dev.now
      (¬late → d = s.dev) ∧
      (late → d.fld (F.SRV_LSTAT_FAULT a) = 7 ∧ d.mode a = 6 ∧ (∀ l : Nat, l < 10 → d.mode (2 + 10 * a + l) = 0) ∧ ServoOnly s.dev d)) ∧
    Gives (.unloadTmo a) s (fun d =>
      let late := s.dev.mode a = 6 ∧ (s.dev.lp a).since + 1000000 * s.dev.fld (F.SRV_LPARK_UNLOAD_TMO a) ≤ s.dev.now
      (¬late → d = s.dev) ∧
      (late → d.fld (F.SRV_LSTAT_FAULT a) = 8 ∧ d.mode a = 0 ∧ d.fld (F.SRV_UOUT_U a) = 0 ∧ (∀ l : Nat, l < 10 → d.mode (2 + 10 * a + l) = 0) ∧ ServoOnly s.dev d))) ∧
  (∀ (s : State) (k : Fin 22), s.dev.live 3 = true → Gives (.integratorClampWarn k) s fun d =>
      let warn := (s.dev.mode k = 4 ∨ s.dev.mode k = 5) ∧ (s.dev.lp k).iclLog = false ∧ s.dev.fld (F.SRV_LRAMP_ICL_N k) ≤ (s.dev.lp k).iclC ∧ 0 < (s.dev.lp k).iclC
      (¬warn → d = s.dev) ∧ (warn → (d.lp k) = { s.dev.lp k with iclLog := true }) ∧ (∀ j : Nat, j ≠ k.val → d.lp j = s.dev.lp j) ∧
      d = { s.dev with srv := d.srv, regs := d.regs, log := d.log, lost := d.lost, hst := d.hst }))

/-- R143, R144, R153, R154, R160, R161, R163, R176, R181: SRV takes a head's token and frees its slot; a wedge without a valid position raises the inhibit of a head with a write run; a loop that computes counts the wedge as used or
unused, never used without a valid position. A gather closes when it is full or GATHER_NS have passed; a VCM loop in LOAD, UNLOAD or holding computes once per TICK_US. Coefficients are written in a bank that is not active and refused in one
that is; the RAMP set takes writes in DOWN alone. Accelerometer samples raise the shock inhibits above ACC_THR, and MISS_N missing ones fail it. (Model choices in it: log entries 5, 8, 9, 10, 24, 25, 26, 27, 57, 70, 77.) -/
def Obligations.ServoTakesWedgesTicksAndSamples : Prop :=
  (∀ (s : State) (n : Fin 20) (flip : Option Nat) (pair : Fin 4) (mismatch : Bool) (ns : Nat), s.dev.live 3 = true →
    ((s.dev.pool .srv (2 + n)).queue = [] ∨ s.dev.flag (fFENCED .srv (2 + n)) = true → Gives (.servoWedgeAccept n flip pair mismatch ns) s fun d => d = s.dev) ∧
    (∀ tk r, (s.dev.pool .srv (2 + n)).queue = tk :: r → s.dev.flag (fFENCED .srv (2 + n)) = false → Gives (.servoWedgeAccept n flip pair mismatch ns) s fun d =>
      (d.pool .srv (2 + n)).queue = r ∧ (d.pool .srv (2 + n)).busy = (s.dev.pool .srv (2 + n)).busy ∧
      (∀ b j, poolKey b j ≠ poolKey .srv (2 + n) → d.pool b j = s.dev.pool b j) ∧
      ((wtok (tk.seen flip).payload).flags = true → (s.dev.whead n).run ≠ none → d.flag (inhBit n) = true) ∧
      (Computes s.dev (2 + n) pair mismatch → ∃ used, OneWedge s.dev d used ∧ ((wtok (tk.seen flip).payload).flags = true → used = false)) ∧
      ServoOnly { s.dev with pools := d.pools } d)) ∧
  (∀ (s : State) (a : Fin 2) (pair : Fin 4) (mismatch : Bool) (ns : Nat), s.dev.live 3 = true →
    Gives (.gatherClose a pair mismatch ns) s fun d =>
      let ready := ∀ g rest, s.dev.gathers a = g :: rest → s.dev.gatherFull a g = true ∨ s.dev.gatherOver g = true ∨ g.first = none
      (¬ready ∨ s.dev.hasLoop a = false → d = s.dev) ∧
      (ready → s.dev.hasLoop a = true → d.gathers a = (s.dev.gathers a).drop 1 ∧ d.lastComb a = some (s.dev.combNumber a) ∧
        (Computes s.dev a pair mismatch → 2 ≤ s.dev.mode a → s.dev.mode a ≤ 5 → (s.dev.lp a).holding = false → ∃ used, OneWedge s.dev d used ∧
          ((s.dev.gathers a).all (fun g => g.parts.isEmpty) = true → used = false))) ∧
      (∀ b : Fin 2, b ≠ a → d.gathers b = s.dev.gathers b) ∧ ServoOnly s.dev d) ∧
  (∀ (s : State) (a : Fin 2) (pair : Fin 4) (mismatch : Bool), s.dev.live 3 = true →
    Gives (.servoTick a pair mismatch) s fun d =>
      let due := s.dev.hasLoop a = true ∧ (s.dev.mode a = 1 ∨ s.dev.mode a = 6 ∨ (s.dev.mode a = 5 ∧ (s.dev.lp a).holding = true)) ∧ (s.dev.lp a).tick ≤ s.dev.now
      (¬due → d = s.dev) ∧
      (due → (d.lp a).tick = s.dev.now + 1000 * s.dev.fld (F.SRV_LPARK_TICK_US a) ∧ (Computes s.dev a pair mismatch → ∃ used, OneWedge s.dev d used)) ∧
      ServoOnly s.dev d) ∧
  (∀ (s : State) (a v : Word) (who : Requester), s.dev.live 3 = true →
    (a.toNat < 0x03010000 ∨ 0x03010000 + 0x2000 * 22 ≤ a.toNat → Gives (.coefMemoryWrite a v who) s fun d => d = s.dev) ∧
    (∀ k kind bank w, s.dev.hasLoop k = true → kind < 2 → bank < 2 → w < 0x400 → a.toNat = 0x03010000 + 0x2000 * k + 0x800 * kind + 0x400 * bank + w → w % 4 = 0 →
      (s.dev.activeBank k kind = bank → Gives (.coefMemoryWrite a v who) s fun d =>
        (∀ x, x ≠ F.LOG_INJECT_ARM.a → d.word x = s.dev.word x) ∧ d = { s.dev with regs := d.regs, log := d.log, lost := d.lost, hst := d.hst }) ∧
      (s.dev.activeBank k kind ≠ bank → Gives (.coefMemoryWrite a v who) s fun d =>
          d.flag (if kind = 0 then F.SRV_LSTAT_HEEL_PEND k else F.SRV_LSTAT_FETCH_PEND k) = false ∧
          (d.word a.toNat).toNat &&& (accOf s.dev.v a.toNat).rw = v.toNat &&& (accOf s.dev.v a.toNat).rw ∧
          (∀ x, x ≠ a.toNat → x ≠ (F.SRV_LSTAT_MODE k).a → x ≠ F.LOG_INJECT_ARM.a → d.word x = s.dev.word x) ∧
          d = { s.dev with regs := d.regs, log := d.log, lost := d.lost, hst := d.hst })) ∧
    (∀ k w, k < 2 → s.dev.hasLoop k = true → w < 0x400 → a.toNat = 0x03010000 + 0x2000 * k + 0x1000 + w → w % 4 = 0 →
      (s.dev.mode k ≠ 0 → Gives (.coefMemoryWrite a v who) s fun d =>
        (∀ x, x ≠ F.LOG_INJECT_ARM.a → d.word x = s.dev.word x) ∧ d = { s.dev with regs := d.regs, log := d.log, lost := d.lost, hst := d.hst }) ∧
      (s.dev.mode k = 0 → Gives (.coefMemoryWrite a v who) s fun d =>
        (d.word a.toNat).toNat &&& (accOf s.dev.v a.toNat).rw = v.toNat &&& (accOf s.dev.v a.toNat).rw ∧
        (∀ x, x ≠ a.toNat → x ≠ F.LOG_INJECT_ARM.a → d.word x = s.dev.word x)))) ∧
  (∀ (s : State) (b : Bytes), s.dev.live 3 = true →
    Gives (.accelSample b) s fun d =>
      (s.dev.now < s.dev.srv.accAt + 1000 * s.dev.fld F.SRV_ACCEL_PERIOD_US → d = s.dev) ∧
      (s.dev.srv.accAt + 1000 * s.dev.fld F.SRV_ACCEL_PERIOD_US ≤ s.dev.now → d.srv.accAt = s.dev.now ∧
        (sampleMissing b = true → d.srv.accMiss = s.dev.srv.accMiss + 1 ∧ d.wrp = s.dev.wrp ∧
          (s.dev.srv.accMiss + 1 = s.dev.fld F.SRV_ACCEL_MISS_N → d.flag F.SRV_STAT_ACC_FAIL = true)) ∧
        (sampleMissing b = false → d.srv.accMiss = 0 ∧
          (s.dev.flag F.WRP_SHOCK_ACC_EN = true → s.dev.fld F.WRP_SHOCK_ACC_THR < sampleMag b → d.shockUp 0 = true ∧ (s.dev.v = false → d.shockUp 1 = true)) ∧
          (s.dev.flag F.WRP_SHOCK_ACC_EN = false ∨ sampleMag b ≤ s.dev.fld F.WRP_SHOCK_ACC_THR → d.wrp = s.dev.wrp))) ∧
      d = { s.dev with srv := d.srv, wrp := d.wrp, cnt := d.cnt, regs := d.regs, log := d.log, lost := d.lost, hst := d.hst })

/-! ## Actuator link and spindle -/

/-- R178 to R180, R207: a mailbox's command leaves a free lane as a SET frame under the lane's SEQ; a good reply ends it and gives the loop its measurement; a late, bad, refused or wrongly numbered one, or none in ACK_NS, is a miss. A
low ACT_FLT_N fails every lane. Discovery sends ENUM, records the ID, sends zero SETs to every channel and brings the lane up, or fails it. A function channel that the power stage supports is refreshed with its value. (Model choices in it: log entries 7, 8, 9, 15, 70, 77, 78.) -/
def Obligations.ActuatorLinkCarriesCommandsAndReplies : Prop :=
  (∀ (s : State) (a : Fin 2) (ch : Fin 11), s.dev.live 3 = true →
    Gives (.actSetFrame a ch) s fun d =>
      (∀ c, (s.dev.lane a).mail.get (fun _ => none) ch = some c → s.dev.laneOk a = true → (s.dev.lane a).out = none → (s.dev.lane a).disc = none →
        (d.lane a).mail.get (fun _ => none) ch = none ∧ (d.lane a).seq = ((s.dev.lane a).seq + 1) % 256 ∧
        (∃ f, (d.lane a).out = some f ∧ f.ty = 0 ∧ f.ch = ch.val ∧ f.seq = (s.dev.lane a).seq ∧ f.value = tc 16 c ∧ f.sentAt = s.dev.now ∧
          f.badCrc = s.dev.actArmed a ch) ∧ d.counter .act 0 = s.dev.counter .act 0 + 1) ∧
      ((s.dev.lane a).mail.get (fun _ => none) ch = none ∨ s.dev.laneOk a = false ∨ (s.dev.lane a).out ≠ none ∨ (s.dev.lane a).disc ≠ none → d = s.dev) ∧
      (∀ b : Fin 2, b ≠ a → d.lane b = s.dev.lane b) ∧ d = { s.dev with lanes := d.lanes, cnt := d.cnt, regs := d.regs }) ∧
  (∀ (s : State) (a : Fin 2) (chars : Bytes), s.dev.live 3 = true →
    ((s.dev.lane a).out = none → Gives (.actReplyReceive a chars) s (fun d => d = s.dev) ∧ Gives (.actReplyTimeout a) s (fun d => d = s.dev)) ∧
    ∀ f, (s.dev.lane a).out = some f →
      (s.dev.now ≤ f.sentAt + 10 * s.dev.fld F.ACT_CTRL_ACK_NS → Gives (.actReplyTimeout a) s fun d => d = s.dev) ∧
      (f.sentAt + 10 * s.dev.fld F.ACT_CTRL_ACK_NS < s.dev.now → Gives (.actReplyTimeout a) s fun d => FrameMissed s.dev d a f) ∧
      (¬s.dev.actFrame f chars ∨ leAt chars 0 1 / 32 = 5 ∨ leAt chars 1 1 ≠ f.seq → Gives (.actReplyReceive a chars) s fun d => FrameMissed s.dev d a f) ∧
      (s.dev.actFrame f chars → leAt chars 0 1 / 32 ≠ 5 → leAt chars 1 1 = f.seq → leAt chars 0 1 / 32 ≠ (if f.ty = 1 then 6 else 4) →
        Gives (.actReplyReceive a chars) s fun d => d = s.dev) ∧
      (s.dev.actGood f chars → (s.dev.lane a).disc = none → Gives (.actReplyReceive a chars) s fun d =>
        (d.lane a).out = none ∧ (d.lane a).miss.get (fun _ => 0) f.ch = 0 ∧ (d.lane a).ack.get (fun _ => 0) f.ch = leAt chars 2 2 ∧
        (f.ty = 0 → f.ch = 0 → (d.lp a).z2 = sext 16 (leAt chars 2 2)) ∧ (f.ty = 0 → 1 ≤ f.ch → f.ch ≤ 10 → (d.lp (1 + 10 * a + f.ch)).z2 = sext 16 (leAt chars 2 2)) ∧
        (f.ty = 0 → f.ch = 15 → d.spn.ch15 = leAt chars 2 2) ∧
        d.counter .act 1 = s.dev.counter .act 1 + 1 ∧ d = { s.dev with lanes := d.lanes, cnt := d.cnt, srv := d.srv, spn := d.spn, regs := d.regs, log := d.log, lost := d.lost, hst := d.hst }) ∧
      (∀ x, s.dev.actGood f chars → (s.dev.lane a).disc = some x → f.ty = 1 → Gives (.actReplyReceive a chars) s fun d =>
        let ok := s.dev.now ≤ x.since + 100000 ∧ (s.dev.pstage (leAt chars 2 2)).isSome = true
        (ok → d.fld (F.ACT_PSID_FOUND a) = 1 ∧ d.fld (F.ACT_PSID_ID a) = leAt chars 2 2 ∧
          (∃ x', (d.lane a).disc = some x' ∧ x'.since = x.since ∧ x'.step = 3 ∧ ∀ c, 1 ≤ c → c < 11 → c ∈ x'.left) ∧
          ∃ g, (d.lane a).out = some g ∧ g.ty = 0 ∧ g.ch = 0 ∧ g.value = 0) ∧
        (¬ok → s.dev.laneOk a = true → LaneDown d a)) ∧
      (∀ x, s.dev.actGood f chars → (s.dev.lane a).disc = some x → f.ty = 0 → Gives (.actReplyReceive a chars) s fun d =>
        (∀ c r, x.left = c :: r → (d.lane a).disc = some { x with left := r } ∧ ∃ g, (d.lane a).out = some g ∧ g.ty = 0 ∧ g.ch = c ∧ g.value = 0) ∧
        (x.left = [] → s.dev.now ≤ x.since + 200000 → (d.lane a).disc = none ∧ (d.lane a).out = none ∧ (d.fld F.ACT_STAT_UP).testBit a = true) ∧
        (x.left = [] → x.since + 200000 < s.dev.now → s.dev.laneOk a = true → LaneDown d a))) ∧
  (∀ s : State, s.dev.live 3 = true →
    Gives (.actFaultInput false) s (fun d => d = s.dev.setFlag F.ACT_STAT_FLT false) ∧
    Gives (.actFaultInput true) s fun d => d.flag F.ACT_STAT_FLT = true ∧ (∀ a : Fin 2, s.dev.laneOk a = true → LaneDown d a) ∧ ServoOnly s.dev d) ∧
  (∀ (s : State) (a : Fin 2), s.dev.live 3 = true → Gives (.powerStageDiscovery a) s fun d =>
      ((s.dev.lane a).disc = none → s.dev.laneOk a = true → (s.dev.lane a).out = none → (d.lane a).disc = some { since := s.dev.now } ∧
        (∃ f, (d.lane a).out = some f ∧ f.ty = 1 ∧ f.ch = 31 ∧ f.seq = (s.dev.lane a).seq ∧ f.value = 0 ∧ f.sentAt = s.dev.now ∧ f.badCrc = false) ∧
        d.counter .act 0 = s.dev.counter .act 0 + 1 ∧ d = { s.dev with lanes := d.lanes, cnt := d.cnt }) ∧
      ((s.dev.lane a).disc = none → (s.dev.laneOk a = false ∨ (s.dev.lane a).out ≠ none) → d = s.dev) ∧
      (∀ x, (s.dev.lane a).disc = some x →
        ((x.step = 2 ∧ x.since + 100000 < s.dev.now) ∨ x.since + 200000 < s.dev.now → s.dev.laneOk a = true → LaneDown d a) ∧
        (¬((x.step = 2 ∧ x.since + 100000 < s.dev.now) ∨ x.since + 200000 < s.dev.now) → d = s.dev)) ∧ ServoOnly s.dev d) ∧
  (∀ (s : State) (c : Fin 5), s.dev.live 3 = true → Gives (.functionChannelRefresh c) s fun d =>
      let may := s.dev.laneOk 0 = true ∧ s.dev.funcOk (11 + c.val) = true ∧ (s.dev.lane 0).out = none ∧ (s.dev.lane 0).disc = none ∧
        (c.val ≤ 2 ∨ (s.dev.lane 0).funcAt.get (fun _ => 0) (11 + c.val) ≤ s.dev.now)
      (may → (d.lane 0).funcAt.get (fun _ => 0) (11 + c.val) = s.dev.now + 1000000 ∧
        ∃ f, (d.lane 0).out = some f ∧ f.ty = 0 ∧ f.ch = 11 + c.val ∧ f.seq = (s.dev.lane 0).seq ∧ f.value = s.dev.funcValue (11 + c.val)) ∧
      (¬may → d = s.dev) ∧ d = { s.dev with lanes := d.lanes, cnt := d.cnt, regs := d.regs })

/-- R188, R190 to R192, R194, R195, R197, R198: a resolver sample moves the observer and its speed; the third failing one in a row fails the resolver and opens the gates. LOCKED rises and falls with the revolutions, and its absence is
logged once. The demand's on bit starts the spindle with a measurement, where no condition of Table 7.4 holds; it decides to catch, align or brake; alignment runs or gives up; a spindle that should stop is stopped below 30 rpm. R192, R200 to R203, R208, R210: a PWM period modulates the gates in ALIGN, RUN and PFREGEN, moves the target of a pulsed brake, and touches nothing in other states; a bus sample is shown, drives the chopper, and declares overvoltage and
power fail at their thresholds; three low windows in a row fail the chopper; overvoltage ends after its hold, and SPN goes on by its demand; regeneration ends below REGEN_MIN. (Model choices in it: log entries 7, 8, 9, 10, 25, 27, 70, 78, 79.) -/
def Obligations.SpindleRunsAndGuardsItsBus : Prop :=
  ((∀ (s : State) (sn cs : BitVec 16), s.dev.live 3 = true → Gives (.resolverSample sn cs) s fun d =>
      let sn' := if s.dev.excPhase < 32768 then sn.toInt else -sn.toInt
      let cs' := if s.dev.excPhase < 32768 then cs.toInt else -cs.toInt
      let inj := s.dev.flag F.SPN_INJECT_ARM = true ∧ s.dev.fld F.SPN_INJECT_KIND = 2
      let why := s.dev.resolverCheck (if inj then 0 else (sn' * sn' + cs' * cs').natAbs) (s.dev.angleError (angleOf sn' cs')).natAbs
      d.spn.omega = s.dev.spn.omega + Config.observerSpeed * s.dev.angleError (angleOf sn' cs') ∧
      d.spn.rpm = roundAway (d.spn.omega * (120000 * s.dev.fld F.SPN_RSV_EXC_KHZ : Nat)) (2 ^ 32 * max (s.dev.fld F.SPN_MOTOR_RSV_NR) 1) ∧ d.spn.seenAt = some s.dev.now ∧
      (why = none → d.spn.fails = 0 ∧ d.flag F.SPN_STAT_RSV_FAIL = s.dev.flag F.SPN_STAT_RSV_FAIL) ∧ (why ≠ none → d.spn.fails = s.dev.spn.fails + 1) ∧
      (why ≠ none → s.dev.flag F.SPN_STAT_RSV_FAIL = false → 2 ≤ s.dev.spn.fails → d.flag F.SPN_STAT_RSV_FAIL = true ∧ d.spn.gates = .off ∧ d.spn.cond = true) ∧
      SpindleOnly s.dev d) ∧
  (∀ s : State, s.dev.live 3 = true → Gives .revolutionComplete s fun d =>
      let off := (((s.dev.now - s.dev.spn.turnAt) * s.dev.rpmTgt.natAbs : Nat) - (60000000000 : Nat) : Int).natAbs * 10000
      let good := s.dev.spinState = 2 ∧ s.dev.spn.tgtN = (s.dev.spinTarget : Int) * 1000000000 ∧ off ≤ s.dev.fld F.SPN_LOCK_LOCK_TOL * 60000000000
      (s.dev.revolved = false → d = s.dev) ∧
      (s.dev.revolved = true → d.spn.revs = s.dev.spn.revs + 1 ∧ d.spn.turnAt = s.dev.now ∧ d.counter .spn 0 = s.dev.counter .spn 0 + 1 ∧
        (s.dev.flag F.SPN_STAT_LOCKED = true → (d.flag F.SPN_STAT_LOCKED = true ↔ off ≤ s.dev.fld F.SPN_LOCK_UNLOCK_TOL * 60000000000)) ∧
        (s.dev.flag F.SPN_STAT_LOCKED = false → good → d.spn.goodRevs = s.dev.spn.goodRevs + 1 ∧
          (d.flag F.SPN_STAT_LOCKED = true ↔ s.dev.fld F.SPN_LOCK_LOCK_REVS ≤ s.dev.spn.goodRevs + 1)) ∧
        (s.dev.flag F.SPN_STAT_LOCKED = false → ¬good → d.flag F.SPN_STAT_LOCKED = false ∧ d.spn.goodRevs = 0)) ∧
      d = { s.dev with spn := d.spn, regs := d.regs, cnt := d.cnt, log := d.log, lost := d.lost, hst := d.hst }) ∧
  (∀ s : State, s.dev.live 3 = true → Gives .lockTimeout s fun d =>
      let late := s.dev.spinState = 2 ∧ s.dev.spn.lockRose = false ∧ s.dev.spn.lockTmo = false ∧ s.dev.spn.runAt + s.dev.fld F.SPN_LOCK_LOCK_TMO * 1000000000 ≤ s.dev.now
      (late → d.spn = { s.dev.spn with lockTmo := true }) ∧ (¬late → d = s.dev) ∧
      d = { s.dev with spn := d.spn, regs := d.regs, log := d.log, lost := d.lost, hst := d.hst }) ∧
  (∀ (s : State) (v : Word) (who : Requester) (dm : Nat), s.dev.live 3 = true → dm = getBits v F.SPN_DEMAND_DEMAND.lo F.SPN_DEMAND_DEMAND.n →
    Gives (.spnDemandWrite v who) s fun d =>
      d.fld F.SPN_DEMAND_DEMAND = dm ∧
      (s.dev.flag F.SPN_CTRL_EN = false → d.spn.on = false ∧ d.spn.measure = none ∧ (d.spinState = 0 ∨ d.spinState = 4)) ∧
      (s.dev.flag F.SPN_CTRL_EN = true → s.dev.spn.on = false →
        (d.spn.on = true ↔ s.dev.fld F.SPN_ONOFF_ON_THR ≤ dm ∧ s.dev.fld F.SPN_ONOFF_OFF_THR < dm) ∧
        (d.spn.on = true → (s.dev.spinState = 0 ∨ s.dev.spinState = 4) → s.dev.spinBarred = false → d.spn.measure = some s.dev.now)) ∧
      (s.dev.flag F.SPN_CTRL_EN = true → s.dev.spn.on = true → (d.spn.on = true ↔ s.dev.fld F.SPN_ONOFF_OFF_THR < dm) ∧
        (d.spn.on = false → s.dev.spn.measure ≠ none → d.spn.measure = none)) ∧
      d = { s.dev with spn := d.spn, regs := d.regs, cnt := d.cnt, log := d.log, lost := d.lost, hst := d.hst }) ∧
  (∀ s : State, s.dev.live 3 = true → Gives .startMeasureDone s fun d =>
      let due := s.dev.spinBarred = false ∧ ∃ t, s.dev.spn.measure = some t ∧ t + 2000000 ≤ s.dev.now
      (¬due → d = s.dev) ∧
      (due → d.spn.measure = none ∧ d.spn.rpm = s.dev.spn.rpm ∧ d.counter .spn 1 = s.dev.counter .spn 1 + 1 ∧
        (60 < s.dev.spn.rpm → d.spinState = 2 ∧ d.spn.tgtN = s.dev.spn.rpm * 1000000000 ∧ d.spn.runAt = s.dev.now) ∧
        (-30 ≤ s.dev.spn.rpm → s.dev.spn.rpm ≤ 60 → d.spinState = 1 ∧ d.spn.alignAt = s.dev.now ∧ d.spn.gates = .off) ∧
        (s.dev.spn.rpm < -30 → d.spinState = 3 ∧ d.spn.gates = .low ∧ d.spn.braking = true)) ∧
      d = { s.dev with spn := d.spn, regs := d.regs, cnt := d.cnt, log := d.log, lost := d.lost, hst := d.hst }) ∧
  (∀ s : State, s.dev.live 3 = true → Gives .alignDone s fun d =>
      let due := s.dev.spinState = 1 ∧ s.dev.spn.alignAt + 1000000 * s.dev.fld F.SPN_ALIGN_ALIGN_MS ≤ s.dev.now
      (¬due → d = s.dev) ∧
      (due → min s.dev.thetaE (65536 - s.dev.thetaE) ≤ 256 * s.dev.fld F.SPN_ALIGN_ALIGN_TOL → d.spinState = 2 ∧ d.spn.runAt = s.dev.now) ∧
      (due → 256 * s.dev.fld F.SPN_ALIGN_ALIGN_TOL < min s.dev.thetaE (65536 - s.dev.thetaE) →
        d.spinState = (if s.dev.slowSpin then 0 else 4) ∧ d.spn.gates = .off ∧ d.counter .spn 4 = s.dev.counter .spn 4 + 1) ∧
      d = { s.dev with spn := d.spn, regs := d.regs, cnt := d.cnt, log := d.log, lost := d.lost, hst := d.hst }) ∧
  (∀ s : State, s.dev.live 3 = true → Gives .spindleStopped s fun d =>
      let stands := s.dev.spinState = 3 ∧ s.dev.spn.pulse = false ∧ s.dev.spn.braking = false
      let stop := s.dev.slowSpin = true ∧ s.dev.flag F.SPN_STAT_OV = false ∧
        ((s.dev.spinState = 2 ∧ s.dev.spinTarget = 0) ∨ stands ∨ (s.dev.spinState = 3 ∧ s.dev.spn.pulse = true ∧ s.dev.spn.on = false))
      (stop → d.spinState = 0 ∧ d.spn.gates = .off ∧ (stands → s.dev.spn.on = true → s.dev.spinBarred = false → d.spn.measure = some s.dev.now)) ∧ (¬stop → d = s.dev) ∧
      d = { s.dev with spn := d.spn, regs := d.regs, cnt := d.cnt, log := d.log, lost := d.lost, hst := d.hst })) ∧
  ((∀ (s : State) (cu cv cw : BitVec 16), s.dev.live 3 = true → Gives (.pwmPeriod cu cv cw) s fun d =>
      ((s.dev.spinState = 1 ∨ s.dev.spinState = 5) → (∃ u v w, d.spn.gates = .pwm u v w) ∧ d = { s.dev with spn := d.spn }) ∧
      (s.dev.spinState = 2 → d.spn.tgtAt = s.dev.now ∧
        ((d.spinState = 2 ∧ ∃ u v w, d.spn.gates = .pwm u v w) ∨
          (s.dev.chopperUsable = false ∧ d.spinState = 3 ∧ d.spn.gates = .low ∧ d.spn.pulse = true ∧ d.spn.istar < 0))) ∧
      (s.dev.spinState = 3 → s.dev.spn.pulse = true → d.spn.tgtAt = s.dev.now ∧ d.spn.gates = s.dev.spn.gates) ∧
      (s.dev.spinState ≠ 1 → s.dev.spinState ≠ 2 → s.dev.spinState ≠ 5 → ¬(s.dev.spinState = 3 ∧ s.dev.spn.pulse = true) → d = s.dev) ∧
      d = { s.dev with spn := d.spn, regs := d.regs, cnt := d.cnt, log := d.log, lost := d.lost, hst := d.hst }) ∧
  (∀ (s : State) (c : BitVec 16), s.dev.live 3 = true →
    (s.dev.vbusUnits c = none → Gives (.vbusSample c) s fun d => d = s.dev) ∧
    ∀ v vb, s.dev.vbusUnits c = some v →
      vb = min (v + if (s.dev.flag F.SPN_INJECT_ARM = true ∧ s.dev.fld F.SPN_INJECT_KIND = 1 ∧ ∀ t, s.dev.spn.injUntil = some t → s.dev.now < t) then
        s.dev.fld F.SPN_INJECT_VALUE else 0) 1023 →
      Gives (.vbusSample c) s fun d =>
        d.fld F.SPN_VBUS_NOW = vb ∧ d.fld F.SPN_VBUS_PEAK = max (s.dev.fld F.SPN_VBUS_PEAK) vb ∧
        (s.dev.chopperUsable = false → d.spn.brake = false) ∧
        (s.dev.chopperUsable = true → s.dev.spn.brake = false → (d.spn.brake = true ↔ s.dev.fld F.SPN_VTHR1_CHOP_ON ≤ vb)) ∧
        (s.dev.chopperUsable = true → s.dev.spn.brake = true → (d.spn.brake = false ↔ vb ≤ s.dev.fld F.SPN_VTHR1_CHOP_OFF)) ∧
        (s.dev.fld F.SPN_VTHR2_OV_THR < vb → s.dev.fld F.SPN_VTHR2_OV_CLR ≤ vb → d.flag F.SPN_STAT_OV = true) ∧
        (s.dev.flag F.SPN_STAT_OV = true → vb < s.dev.fld F.SPN_VTHR2_OV_CLR → d.spn.regen = false → d.flag F.SPN_STAT_OV = true ∧ d.spn.ovClear ≠ none) ∧
        (vb < s.dev.fld F.SPN_VTHR3_PF_THR → d.flag F.SPN_STAT_PF = true ∧
          (s.dev.flag F.SPN_STAT_PF = false → (d.lane 0).func.get (fun _ => 0) 11 = 3 ∧ d.spn.pfAt = s.dev.now)) ∧
        (s.dev.fld F.SPN_VTHR3_PF_THR ≤ vb → d.flag F.SPN_STAT_PF = s.dev.flag F.SPN_STAT_PF) ∧ SpindleOnly s.dev d) ∧
  (∀ s : State, s.dev.live 3 = true →
    ((∀ t v0, s.dev.spn.win = some (t, v0) → s.dev.now < t + 8000) → Gives .chopperWindowEnd s fun d => d = s.dev) ∧
    ∀ t v0, s.dev.spn.win = some (t, v0) → t + 8000 ≤ s.dev.now → Gives .chopperWindowEnd s fun d =>
      let est := if s.dev.spn.injChop then 0 else s.dev.linkMa -
        roundAway ((s.dev.fld F.SPN_CHOP_CBUS_UF : Int) * (((s.dev.fld F.SPN_VBUS_NOW : Int) - v0) * 20)) 8 - (s.dev.fld F.SPN_HOLD_ILOAD * 100 : Nat)
      let low := 4 * est < ((s.dev.fld F.SPN_VBUS_NOW * 20000 / max (s.dev.fld F.SPN_CHOP_RBRK_MOHM) 1 : Nat) : Int)
      (¬low → d = s.dev.setSpn { s.dev.spn with lowWin := 0, win := some (t + 8000, s.dev.fld F.SPN_VBUS_NOW) }) ∧
      (low → s.dev.spn.lowWin < 2 → d = s.dev.setSpn { s.dev.spn with lowWin := s.dev.spn.lowWin + 1, win := some (t + 8000, s.dev.fld F.SPN_VBUS_NOW) }) ∧
      (low → 2 ≤ s.dev.spn.lowWin → d.flag F.SPN_STAT_CHOP_FAIL = true ∧ d.spn.brake = false ∧ d.spn.win = none) ∧
      d = { s.dev with spn := d.spn, regs := d.regs, cnt := d.cnt, log := d.log, lost := d.lost, hst := d.hst }) ∧
  (∀ s : State, s.dev.live 3 = true → Gives .ovHoldEnd s fun d =>
      let due := s.dev.flag F.SPN_STAT_OV = true ∧ s.dev.spn.regen = false ∧ ∃ t, s.dev.spn.ovClear = some t ∧ t + 1000000 * s.dev.fld F.SPN_HOLD_SB_HOLD_MS ≤ s.dev.now
      let free := s.dev.flag F.SPN_CTRL_EN = true ∧ s.dev.flag F.SPN_STAT_RSV_FAIL = false ∧ s.dev.flag F.SPN_STAT_PF = false
      (¬due → d = s.dev) ∧
      (due → d.flag F.SPN_STAT_OV = false ∧ d.spn.ovClear = none ∧ (¬free → d.spn.gates = .off) ∧
        (free → s.dev.spn.on = true → 60 < s.dev.spn.rpm → d.spinState = 2) ∧
        (free → s.dev.spn.on = true → s.dev.spn.rpm ≤ 60 → d.spn.measure = some s.dev.now)) ∧
      d = { s.dev with spn := d.spn, regs := d.regs, cnt := d.cnt, log := d.log, lost := d.lost, hst := d.hst }) ∧
  (∀ s : State, s.dev.live 3 = true → Gives .regenEnd s fun d =>
      let due := s.dev.spinState = 5 ∧ s.dev.spn.rpm.natAbs < s.dev.fld F.SPN_HOLD_REGEN_MIN
      (¬due → d = s.dev) ∧ (due → d.spinState = 4 ∧ d.spn.gates = .off ∧ d.spn.regen = false ∧ (d.lane 0).func.get (fun _ => 0) 11 = 1) ∧ SpindleOnly s.dev d))

/-! ## Buffer memory and scrubber -/

/-- R218, R219, R221, R231, R232: bring-up, for a trained or an untrained buffer as it is, lowers READY; at its end at load each device that passed is LIVE and the others UNTRAINED, the stores are empty and MDC is ready; from self-refresh DEAD and
UNTRAINED devices stay, and RESILVER goes on; READY rises where at most one device is not LIVE. Retraining takes the devices in turn. VCLR clears the valid bits of its range alone, refused while one runs; TBUF frees a
track buffer, TBCLR the slots of its range. R233 to R235, R239 to R241: a device is marked dead, or once alive starts to resilver, only while every other device is LIVE. A resilver goes granule by granule in the arbiter's turn and makes the device LIVE at the end; a scrub slot that is
due passes its granule, at once where nothing is valid there, else when its request is granted; an overrun is logged once. (Model choices in it: log entries 7, 8, 9, 10, 28, 29, 30, 43, 70.) -/
def Obligations.BufferTrainsClearsAndRebuilds : Prop :=
  ((∀ (s : State) (sr : Bool), s.dev.live 4 = true → Gives (.bufferBringup sr) s fun d =>
      (s.dev.buf.training = none → s.dev.flag F.BUF_STAT_TRAINED = sr → d.flag F.BUF_STAT_READY = false ∧ d.buf = { s.dev.buf with training := some sr.toNat } ∧
        (sr = false → (d.fld F.PWR_STAT_HOLD).testBit 4 = false) ∧ d = { s.dev with regs := d.regs, buf := d.buf }) ∧
      (s.dev.buf.training ≠ none ∨ s.dev.flag F.BUF_STAT_TRAINED ≠ sr → d = s.dev)) ∧
  (∀ (s : State) (fails : List (Option (Fin 4))), s.dev.live 4 = true →
    (s.dev.buf.training = none → Gives (.trainingDone fails) s fun d => d = s.dev) ∧
    ∀ occ, s.dev.buf.training = some occ → Gives (.trainingDone fails) s fun d =>
      d.buf.training = none ∧
      (occ = 0 → (∀ x : Nat, x < 6 → d.devState x = if (fails.getD x none).isSome then 1 else 0) ∧ d.buf.valid = [] ∧ d.buf.fills = [] ∧
        d.buf.slots0 = [] ∧ d.buf.slots1 = [] ∧ d.flag F.BUF_STAT_TRAINED = true ∧ d.flag F.MDC_STAT_READY = true) ∧
      (occ = 1 → ∀ x : Nat, x < 6 → d.devState x = if s.dev.devState x = 1 ∨ s.dev.devState x = 2 then s.dev.devState x else if (fails.getD x none).isSome then 1 else
        if s.dev.devState x = 3 then 3 else 0) ∧
      (occ ≠ 0 → d.buf.valid = s.dev.buf.valid ∧ d.buf.slots0 = s.dev.buf.slots0 ∧ d.buf.slots1 = s.dev.buf.slots1 ∧ d.mdc = s.dev.mdc) ∧
      (s.dev.flag F.BUF_STAT_READY = false → (d.flag F.BUF_STAT_READY = true ↔ d.notLive ≤ 1)) ∧
      d = { s.dev with regs := d.regs, buf := d.buf, mdc := d.mdc, log := d.log, lost := d.lost, hst := d.hst }) ∧
  (∀ s : State, s.dev.live 4 = true → Gives .bufPeriodicRetrain s fun d =>
      let due := s.dev.flag F.BUF_STAT_TRAINED = true ∧ s.dev.buf.retrainAt + 1000000 * s.dev.fld F.BUF_PHY_RETRAIN_MS ≤ s.dev.now
      (¬due → d = s.dev) ∧
      (due → d.buf.retrainAt = s.dev.now ∧
        (∀ x, rrFirst (fun x => s.dev.devState x != 1 && s.dev.devState x != 2) 6 6 s.dev.buf.retrainNext = some x → d.buf.retrainNext = (x + 1) % 6) ∧
        (rrFirst (fun x => s.dev.devState x != 1 && s.dev.devState x != 2) 6 6 s.dev.buf.retrainNext = none → d.buf.retrainNext = s.dev.buf.retrainNext)) ∧
      d = { s.dev with buf := { s.dev.buf with retrainNext := d.buf.retrainNext, retrainAt := d.buf.retrainAt } }) ∧
  (∀ (s : State) (v : Word) (who : Requester), s.dev.live 4 = true →
    (s.dev.flag F.BUF_STAT_VCLR_BUSY = false → Gives (.vclrCntWrite v who) s fun d =>
      d.flag F.BUF_STAT_VCLR_BUSY = true ∧
      (∀ g, (s.dev.fld F.BUF_VCLR_FIRST_FIRST ≤ g ∧ g < s.dev.fld F.BUF_VCLR_FIRST_FIRST + v.toNat % 2 ^ 22) → d.valid g = false) ∧
      (∀ g, ¬(s.dev.fld F.BUF_VCLR_FIRST_FIRST ≤ g ∧ g < s.dev.fld F.BUF_VCLR_FIRST_FIRST + v.toNat % 2 ^ 22) → d.valid g = s.dev.valid g) ∧
      d = { s.dev with regs := d.regs, buf := { s.dev.buf with valid := d.buf.valid, fills := d.buf.fills }, mem := d.mem, cnt := d.cnt, log := d.log, lost := d.lost, hst := d.hst }) ∧
    (s.dev.flag F.BUF_STAT_VCLR_BUSY = true → Gives (.vclrCntWrite v who) s fun d =>
      d = { s.dev with regs := d.regs, log := d.log, lost := d.lost, hst := d.hst }) ∧
    Gives .vclrDone s fun d => d.flag F.BUF_STAT_VCLR_BUSY = false ∧ d = { s.dev with regs := d.regs }) ∧
  (∀ (s : State) (a : Fin 2) (v : Word) (who : Requester), s.dev.live 4 = true →
    Gives (.tbufConfigWrite a v who) s (fun d =>
      (∀ k, d.slotBusy a k = false) ∧ d.fld (F.BUF_TBSTAT_BUSY a) = 0 ∧ (∀ (b : Fin 2) (k : Nat), b ≠ a → d.slotBusy b k = s.dev.slotBusy b k) ∧
      d = { s.dev with regs := d.regs, buf := { s.dev.buf with slots0 := d.buf.slots0, slots1 := d.buf.slots1 }, log := d.log, lost := d.lost, hst := d.hst }) ∧
    Gives (.tbclrWrite a v who) s fun d =>
      (s.dev.tbufSize a ≠ 0 → ∀ k, d.slotBusy a k = (s.dev.slotBusy a k && decide ((if bitsAt v.toNat 16 12 = 0 then 4096 else bitsAt v.toNat 16 12) ≤
        (k + s.dev.tbufSize a - bitsAt v.toNat 0 12 % s.dev.tbufSize a) % s.dev.tbufSize a))) ∧
      (s.dev.tbufSize a = 0 → ∀ k, d.slotBusy a k = s.dev.slotBusy a k) ∧ (∀ (b : Fin 2) (k : Nat), b ≠ a → d.slotBusy b k = s.dev.slotBusy b k) ∧
      d = { s.dev with regs := d.regs, buf := { s.dev.buf with slots0 := d.buf.slots0, slots1 := d.buf.slots1 }, log := d.log, lost := d.lost, hst := d.hst })) ∧
  ((∀ (s : State) (t : Tag) (x : Fin 8), s.dev.live 1 = true → s.dev.load.minimal = false →
    (6 ≤ x.val → Gives (.markDeviceDead t x) s fun d => (∀ y, d.devState y = s.dev.devState y) ∧ Ended s.dev d t stInvalidField) ∧
    (x.val < 6 → s.dev.devState x = 2 → Gives (.markDeviceDead t x) s fun d => (∀ y, d.devState y = s.dev.devState y) ∧ Ended s.dev d t stOk) ∧
    (x.val < 6 → s.dev.devState x ≠ 2 → s.dev.otherNotLive x = false → Gives (.markDeviceDead t x) s fun d => d.devState x = 2 ∧ Ended s.dev d t stOk ∧
      (s.dev.devState x = 3 → d.buf.resilver = none)) ∧
    (x.val < 6 → s.dev.devState x ≠ 2 → s.dev.otherNotLive x = true → Gives (.markDeviceDead t x) s fun d => (∀ y, d.devState y = s.dev.devState y) ∧ Ended s.dev d t stDeviceState)) ∧
  (∀ (s : State) (t : Tag) (x : Fin 8) (fail : Option (Fin 4)), s.dev.live 1 = true → s.dev.load.minimal = false →
    (6 ≤ x.val → Gives (.markDeviceAlive t x fail) s fun d => (∀ y, d.devState y = s.dev.devState y) ∧ Ended s.dev d t stInvalidField) ∧
    (x.val < 6 → (s.dev.devState x = 0 ∨ s.dev.devState x = 3) → Gives (.markDeviceAlive t x fail) s fun d => (∀ y, d.devState y = s.dev.devState y) ∧ Ended s.dev d t stOk) ∧
    (x.val < 6 → s.dev.devState x ≠ 0 → s.dev.devState x ≠ 3 → s.dev.otherNotLive x = true →
      Gives (.markDeviceAlive t x fail) s fun d => (∀ y, d.devState y = s.dev.devState y) ∧ Ended s.dev d t stDeviceState) ∧
    (x.val < 6 → s.dev.devState x ≠ 0 → s.dev.devState x ≠ 3 → s.dev.otherNotLive x = false → Gives (.markDeviceAlive t x fail) s fun d =>
      (fail = none → d.devState x = 3 ∧ d.fld F.BUF_RSLV_PTR = 0 ∧ d.buf.resilver = some { dev := x, start := s.dev.now } ∧ Ended s.dev d t stOk) ∧
      (fail ≠ none → (∀ y, d.devState y = s.dev.devState y) ∧ Ended s.dev d t stTrainingFailed))) ∧
  (∀ (s : State) (t : Tag) (x : Fin 8) (alive : Bool), s.dev.live 1 = true → s.dev.load.minimal = false →
    let same := if alive then s.dev.devState x == 0 || s.dev.devState x == 3 else s.dev.devState x == 2
    (6 ≤ x.val → Gives (.bufferDeviceStateCmd t x alive) s fun d => (∀ y, d.devState y = s.dev.devState y) ∧ Ended s.dev d t stInvalidField) ∧
    (x.val < 6 → same = false → s.dev.otherNotLive x = true → Gives (.bufferDeviceStateCmd t x alive) s fun d => (∀ y, d.devState y = s.dev.devState y) ∧ Ended s.dev d t stDeviceState) ∧
    (x.val < 6 → (same = true ∨ s.dev.otherNotLive x = false) → Gives (.bufferDeviceStateCmd t x alive) s fun d => d = s.dev)) ∧
  (∀ (s : State) (edc : List EdcFail) (d0 : Dev), s.dev.live 4 = true → d0 = s.dev.bufIdle →
    (s.dev.buf.resilver = none ∨ s.dev.flag F.BUF_STAT_READY = false → Gives (.resilverGranule edc) s fun d => d = d0) ∧
    ∀ r : ResilverS, s.dev.buf.resilver = some r → r.dev < 6 → s.dev.flag F.BUF_STAT_READY = true →
      ((s.dev.buf.valid.find? fun p => decide (s.dev.fld F.BUF_RSLV_PTR ≤ p.1 ∧ p.1 < s.dev.granules)) = none →
        Gives (.resilverGranule edc) s fun d => d.devState r.dev = 0 ∧ d.buf.resilver = none ∧ d.fld F.BUF_RSLV_PTR = s.dev.granules) ∧
      (∀ (g : Nat) (b : Bool), (s.dev.buf.valid.find? fun p => decide (s.dev.fld F.BUF_RSLV_PTR ≤ p.1 ∧ p.1 < s.dev.granules)) = some (g, b) →
        Gives (.resilverGranule edc) s fun d =>
          ((∀ q, d0.bufTurn ≠ some (8, q)) → d = d0) ∧
          ∀ q k, d0.bufTurn = some (8, q) → k = (if q = 1 then min (min (32 - r.line) (d0.share 8 / 2)) (d0.bufRoom / 2) else 32 - r.line) →
            (k = 0 ∨ d0.bufRoom < 2 * k → d = d0) ∧
            (0 < k → 2 * k ≤ d0.bufRoom → r.line + k < 32 → d.buf.resilver = some { r with line := r.line + k } ∧ d.fld F.BUF_RSLV_PTR = s.dev.fld F.BUF_RSLV_PTR) ∧
            (0 < k → 2 * k ≤ d0.bufRoom → 32 ≤ r.line + k → d.fld F.BUF_RSLV_PTR = g + 1 ∧
              (g + 1 ≠ s.dev.granules → d.buf.resilver = some { r with done := r.done + 1, line := 0 }) ∧
              (g + 1 = s.dev.granules → d.buf.resilver = none ∧ d.devState r.dev = 0)))) ∧
  (∀ (s : State) (edc : List EdcFail) (ups : List Upset) (d0 : Dev), s.dev.live 4 = true →
    d0 = (if s.dev.scb.running = false ∧ s.dev.flag F.SCB_CTRL_EN = true then (s.dev.upset ups).passStart else s.dev.upset ups) →
    Gives (.scrubSlot edc ups) s fun d =>
      let g := d0.fld F.SCB_POS_GRANULE
      let due := d0.scb.running = true ∧ s.dev.flag F.SCB_CTRL_EN = true ∧ s.dev.flag F.BUF_STAT_READY = true ∧ s.dev.buf.resilver = none ∧
        d0.scb.began + g * (d0.scb.passH * 3600000000000) / s.dev.granules ≤ s.dev.now
      (¬due → d = d0) ∧
      (due → d0.valid g = true → d0.scrubGrantable = false → d = { d0 with bg := d.bg } ∧ ∃ r ∈ d.bg, r.kind = .scrub) ∧
      (due → (d0.valid g = false ∨ d0.scrubGrantable = true) →
        (g + 1 < s.dev.granules → d.fld F.SCB_POS_GRANULE = g + 1) ∧
        (g + 1 = s.dev.granules → d.fld F.SCB_POS_GRANULE = 0 ∧ d.fld F.SCB_PASSES_PASSES = (d0.fld F.SCB_PASSES_PASSES + 1) % 2 ^ 32)) ∧
      (due → d0.valid g = false → g + 1 < s.dev.granules → d = { d0 with regs := d.regs })) ∧
  (∀ s : State, s.dev.live 4 = true → Gives .scrubPassOverrun s fun d =>
      let over_ := s.dev.scb.running = true ∧ s.dev.scb.overrun = false ∧ s.dev.scb.began + s.dev.scb.passH * 3600000000000 ≤ s.dev.now
      (over_ → d.scb = { s.dev.scb with overrun := true } ∧ d.counter .scb 6 = s.dev.counter .scb 6 + 1) ∧ (¬over_ → d = s.dev) ∧
      d = { s.dev with scb := d.scb, cnt := d.cnt, regs := d.regs, log := d.log, lost := d.lost, hst := d.hst }))

/-- R219, R220, R225 to R229, R237: the arbiter grants the request whose turn it is, as far as the round has room: granted whole it is answered and leaves; in part, it stays; with READY 0 it is answered with an error. A read of a line that
nothing has written gives zeros; a line that is written no longer reads as zero, and its symbols stand on every device that takes writes. The oldest fill entry, open for FILL_NS, is closed. (Model choices in it: log entries 8, 9, 11, 30, 70.) -/
def Obligations.BufferServesRequests : Prop :=
  (∀ (s : State) (edc : List EdcFail) (ups : List Upset) (bad : Bool) (d0 : Dev), s.dev.live 4 = true → d0 = (s.dev.upset ups).bufIdle →
    (d0.bufPick = none → Gives (.bufRequestGrant edc ups bad) s fun d => d = d0) ∧
    ∀ r g k, d0.bufPick = some (r, g, k) →
      (s.dev.flag F.BUF_STAT_READY = false → Gives (.bufRequestGrant edc ups bad) s fun d =>
        d.buf.reqs = s.dev.buf.reqs.erase r ∧ ∃ q, d.buf.resps = s.dev.buf.resps ++ [q] ∧ q.client = r.client ∧ q.id = r.id ∧ q.err = true) ∧
      (s.dev.flag F.BUF_STAT_READY = true → d0.bufRoom < k → bad = false → Gives (.bufRequestGrant edc ups bad) s fun d => d = d0) ∧
      (s.dev.flag F.BUF_STAT_READY = true → k ≤ d0.bufRoom → k < r.n → Gives (.bufRequestGrant edc ups bad) s fun d =>
        d.buf.reqs.length = s.dev.buf.reqs.length ∧ d.buf.resps = s.dev.buf.resps) ∧
      (s.dev.flag F.BUF_STAT_READY = true → k ≤ d0.bufRoom → k = r.n → Gives (.bufRequestGrant edc ups bad) s fun d =>
        d.buf.reqs = s.dev.buf.reqs.erase r ∧
        (∃ q, d.buf.resps = s.dev.buf.resps ++ [q] ∧ q.client = r.client ∧ q.id = r.id ∧
          (r.op = .read → r.n = 1 → r.got = [] → r.err = false → d0.readsZero r.line = true → q.data = List.replicate 128 0 ∧ q.err = false)) ∧
        (bad = true → d.flag (fFBIT .buf 0) = true) ∧
        (∀ data, r.op = .write data → r.n = 1 → d.readsZero r.line = false ∧
          (edc = [] → s.dev.flag F.BUF_INJECT_ARM = false → ∀ b x, b < 16 → x ∈ s.dev.writable → d.sym r.line b x = (beatOf (data.take 128) b).getD x 0 % 65536)))) ∧
  (∀ s : State, s.dev.live 4 = true → Gives .fillTrackerTimeout s fun d =>
      ((∀ e rest, s.dev.buf.fills = e :: rest → s.dev.now < e.opened + 10 * s.dev.fld F.BUF_FILL_FILL_NS) → d = s.dev) ∧
      (∀ e rest, s.dev.buf.fills = e :: rest → e.opened + 10 * s.dev.fld F.BUF_FILL_FILL_NS ≤ s.dev.now →
        d.valid e.granule = true ∧ d.buf.fills = rest ∧ (∀ g, g ≠ e.granule → d.valid g = s.dev.valid g)) ∧
      d = { s.dev with regs := d.regs, buf := d.buf, cnt := d.cnt, mem := d.mem, log := d.log, lost := d.lost, hst := d.hst })

/-! ## Metadata cache and DMA -/

/-- R16, R255 to R258, R261, R271 to R274: a line request goes with a credit, else it waits at ZNE. Before READY, beyond the buffer, with a reserved OP, in a failed set or on a poisoned line it is answered with that status, with an empty mask at
once. A hit is served from its way, whose age becomes 0; uncorrectable data poisons the line, an uncorrectable tag block fails the set. With the cache off a request passes through; on a line being filled it joins; a miss claims a way, waits or ends with
NO_WAY. A fill that lands fills its way and answers its request; a failed one answers BUF_ERR. (Model choices in it: log entries 8, 9, 11, 31.) -/
def Obligations.MetadataCacheServesLines : Prop :=
  (∀ (s : State) (tag : BitVec 16) (stream : Bool) (line : BitVec 27) (mask : BitVec 128) (data : Bytes) (sram tags : SramBits) (bad : Bool), s.dev.live 4 = true →
    (∀ c ∈ [Instr.mdcLineRead tag stream line sram tags bad, Instr.mdcLineWrite tag stream line mask data sram tags bad],
      (s.dev.mcredit (match c with | .mdcLineWrite .. => true | _ => false) = false → Gives c s fun d => d = s.dev) ∧
      (s.dev.mcredit (match c with | .mdcLineWrite .. => true | _ => false) = true →
        (s.dev.flag F.MDC_STAT_READY = false → Gives c s fun d => d.mdc = { s.dev.mdc with resps := s.dev.mdc.resps ++ [{ tag := tag.toNat, status := 6, hit := false }] } ∧
          (bad = true → d.flag (fFBIT .mdc 0) = true) ∧ d = { s.dev with mdc := d.mdc, regs := d.regs, log := d.log, lost := d.lost, hst := d.hst }) ∧
        (s.dev.flag F.MDC_STAT_READY = true → s.dev.mcap ≤ line.toNat → Gives c s fun d =>
          d.mdc = { s.dev.mdc with resps := s.dev.mdc.resps ++ [{ tag := tag.toNat, status := 5, hit := false }] } ∧
          d = { s.dev with mdc := d.mdc, regs := d.regs, log := d.log, lost := d.lost, hst := d.hst }))) ∧
    (s.dev.mcredit true = true → s.dev.flag F.MDC_STAT_READY = true → line.toNat < s.dev.mcap → Gives (.mdcLineWrite tag stream line 0 data sram tags bad) s fun d =>
      d.mdc = { s.dev.mdc with resps := s.dev.mdc.resps ++ [{ tag := tag.toNat, status := 0, hit := (s.dev.mway line.toNat).isSome }] } ∧
      d = { s.dev with mdc := d.mdc, regs := d.regs, log := d.log, lost := d.lost, hst := d.hst }) ∧
    Gives (.mdcBadOp tag) s fun d => d = { s.dev with mdc := { s.dev.mdc with resps := s.dev.mdc.resps ++
      [{ tag := tag.toNat, status := if s.dev.flag F.MDC_STAT_READY then 7 else 6, hit := false }] } }) ∧
  (∀ (s : State) (tag : BitVec 16) (stream : Bool) (line : BitVec 27) (sram tags : SramBits) (bad : Bool), s.dev.live 4 = true → s.dev.flag F.MDC_STAT_READY = true →
    line.toNat < s.dev.mcap → s.dev.mcredit false = true →
    (s.dev.mdc.failed.contains (mset line.toNat) = true → Gives (.mdcLineRead tag stream line sram tags bad) s fun d =>
      d.mdc = { s.dev.mdc with resps := s.dev.mdc.resps ++ [{ tag := tag.toNat, status := 3, hit := false }] }) ∧
    (s.dev.mdc.failed.contains (mset line.toNat) = false → (∀ f ∈ s.dev.mdc.flips, f.set ≠ mset line.toNat) →
      (∀ b p, sramRead tags = .uncorrectable b p → Gives (.mdcLineRead tag stream line sram tags bad) s fun d =>
        d.mdc.resps = s.dev.mdc.resps ++ [{ tag := tag.toNat, status := 3, hit := false }] ∧ d.mdc.failed = s.dev.mdc.failed ++ [mset line.toNat]) ∧
      ((∀ b p, sramRead tags ≠ .uncorrectable b p) →
        (s.dev.mblocked line.toNat = true → Gives (.mdcLineRead tag stream line sram tags bad) s fun d =>
          d.mdc = { s.dev.mdc with waiting := s.dev.mdc.waiting ++ [{ tag := tag.toNat, stream := stream, line := line.toNat }] }) ∧
        (s.dev.mblocked line.toNat = false → s.dev.flag F.MDC_CTRL_EN = false → Gives (.mdcLineRead tag stream line sram tags bad) s fun d =>
          d.mdc.resps = s.dev.mdc.resps ∧ d.mdc.passes = s.dev.mdc.passes ++ [{ id := s.dev.mdc.nextId, req := { tag := tag.toNat, stream := stream, line := line.toNat }, reading := true }]) ∧
        (s.dev.mblocked line.toNat = false → s.dev.flag F.MDC_CTRL_EN = true → ∀ f, s.dev.mfillOf line.toNat = some f → Gives (.mdcLineRead tag stream line sram tags bad) s fun d =>
          d.mdc.resps = s.dev.mdc.resps ∧ d.mdc.fills = s.dev.mdc.fills.map fun x => if x.id = f.id then { x with reqs := x.reqs ++ [{ tag := tag.toNat, stream := stream, line := line.toNat }] } else x)))) ∧
  (∀ (s : State) (tag : BitVec 16) (stream : Bool) (line : BitVec 27) (sram tags : SramBits) (bad : Bool), s.dev.live 4 = true → s.dev.flag F.MDC_STAT_READY = true →
    s.dev.flag F.MDC_CTRL_EN = true → line.toNat < s.dev.mcap → s.dev.mdc.failed.contains (mset line.toNat) = false →
    (∀ f ∈ s.dev.mdc.flips, f.set ≠ mset line.toNat) → s.dev.mblocked line.toNat = false → s.dev.mfillOf line.toNat = none → (∀ b p, sramRead tags ≠ .uncorrectable b p) →
    (∀ (w : Nat) (l : MLine), s.dev.mway line.toNat = some w → s.dev.mline (mset line.toNat) w = some l →
      (s.dev.mcredit false = true → l.poison = false → (∀ b p, sramRead sram ≠ .uncorrectable b p) → Gives (.mdcLineRead tag stream line sram tags bad) s (fun d =>
        d.mdc.resps = s.dev.mdc.resps ++ [{ tag := tag.toNat, status := 0, hit := true, data := l.data }] ∧
        d.mline (mset line.toNat) w = some { l with age := 0 } ∧ d.counter .mdc 0 = s.dev.counter .mdc 0 + 1 ∧
        d = { s.dev with mdc := d.mdc, cnt := d.cnt, regs := d.regs, mem := d.mem, log := d.log, lost := d.lost, hst := d.hst })) ∧
      (s.dev.mcredit false = true → (l.poison = true ∨ ∃ b p, sramRead sram = .uncorrectable b p) → Gives (.mdcLineRead tag stream line sram tags bad) s (fun d =>
        d.mdc.resps = s.dev.mdc.resps ++ [{ tag := tag.toNat, status := 1, hit := true }] ∧ ∃ l', d.mline (mset line.toNat) w = some l' ∧ l'.poison = true)) ∧
      ∀ (mask : BitVec 128) (data : Bytes), s.dev.mcredit true = true → mask ≠ 0 → data.length = 128 → (mask.toNat = 2 ^ 128 - 1 ∨ (l.poison = false ∧ ∀ b p, sramRead sram ≠ .uncorrectable b p)) →
        Gives (.mdcLineWrite tag stream line mask data sram tags bad) s fun d =>
          d.mdc.resps = s.dev.mdc.resps ++ [{ tag := tag.toNat, status := 0, hit := true }] ∧
          (∃ l', d.mline (mset line.toNat) w = some l' ∧ l'.dirty = true ∧ l'.poison = false ∧ l'.age = 0 ∧ l'.tag = l.tag ∧
            l'.data = if mask.toNat = 2 ^ 128 - 1 then data else mmerge l.data mask.toNat data) ∧
          d = { s.dev with mdc := d.mdc, cnt := d.cnt, regs := d.regs, mem := d.mem, log := d.log, lost := d.lost, hst := d.hst }) ∧
    (s.dev.mway line.toNat = none → s.dev.mcredit false = true → sramRead tags = .ok → bad = false →
      (64 ≤ s.dev.mdc.fills.length → Gives (.mdcLineRead tag stream line sram tags bad) s fun d =>
        d.mdc = { s.dev.mdc with waiting := s.dev.mdc.waiting ++ [{ tag := tag.toNat, stream := stream, line := line.toNat }] }) ∧
      (s.dev.mdc.fills.length < 64 → ∀ v d1, s.dev.mclaim (mset line.toNat) 13 = (v, d1) → Gives (.mdcLineRead tag stream line sram tags bad) s fun d =>
        (∀ w, v = .way w → d.mdc.fills = d1.mdc.fills ++ [{ id := d1.mdc.nextId, line := line.toNat, way := w, age := if stream then 3 else d1.fld F.MDC_REPL_INS_AGE
                                                            reqs := [{ tag := tag.toNat, stream := stream, line := line.toNat }] }] ∧ d.mdc.resps = d1.mdc.resps) ∧
        (v = .wait → d.mdc = { d1.mdc with waiting := d1.mdc.waiting ++ [{ tag := tag.toNat, stream := stream, line := line.toNat }] }) ∧
        (v = .none → d.mdc.resps = d1.mdc.resps ++ [{ tag := tag.toNat, status := 4, hit := false }])) ∧
      (∀ w : Nat, s.dev.mdc.fills.length < 64 →
        ((List.range 12).filter fun w => s.dev.meligible (mset line.toNat) w).find? (fun w => (s.dev.mline (mset line.toNat) w).isNone) = some w →
        Gives (.mdcLineRead tag stream line sram tags bad) s fun d =>
          d.mdc.fills = s.dev.mdc.fills ++ [{ id := s.dev.mdc.nextId, line := line.toNat, way := w, age := if stream then 3 else s.dev.fld F.MDC_REPL_INS_AGE
                                              reqs := [{ tag := tag.toNat, stream := stream, line := line.toNat }] }] ∧ d.mdc.resps = s.dev.mdc.resps))) ∧
  (∀ s : State, s.dev.live 4 = true → (s.dev.buf.resps.find? fun x => decide (x.client = 7)) = none → Gives .mdcFillLand s fun d => d = s.dev) ∧
  (∀ (s : State) (q : BufResp) (f : MFill) (r : MReq), s.dev.live 4 = true → (s.dev.buf.resps.find? fun x => decide (x.client = 7)) = some q →
    (s.dev.mdc.fills.find? fun x => decide (x.id = q.id)) = some f → s.dev.mdc.failed.contains (mset f.line) = false →
    (∀ x ∈ s.dev.mdc.flips, x.set ≠ mset f.line) → s.dev.mdc.mop = none → s.dev.mdc.waiting = [] → f.reqs = [r] → r.write = none → r.line = f.line → Gives .mdcFillLand s fun d =>
      (q.err = false → s.dev.flag F.MDC_INJECT_ARM = false → d.mline (mset f.line) f.way = some { tag := mtag f.line, age := f.age, data := q.data } ∧
        d.mdc.resps = s.dev.mdc.resps ++ [{ tag := r.tag, status := 0, hit := false, data := q.data }]) ∧
      (q.err = true → d.mdc.lines = s.dev.mdc.lines ∧ d.mdc.resps = s.dev.mdc.resps ++ [{ tag := r.tag, status := 2, hit := false }]) ∧
      (∀ x ∈ d.mdc.fills, x.id ≠ f.id) ∧ d.buf.resps = s.dev.buf.resps.erase q)

/-- R265, R266: GO with a valid range begins its maintenance operation over the lines of MOP_ADDR and MOP_CNT; while one runs a GO is refused without effect; an empty or overlong range, FETCH or ZERO with the cache off, and a reserved OP, end at once with their
ERR. When the last line has been acted on, every write-back is back and every fetched line has landed, BUSY falls and DONE rises. (Model choices in it: log entries 8, 10, 31.) -/
def Obligations.MaintenanceOperationsRunAndEnd : Prop :=
  (∀ x ∈ ([(.mopFetch, 0), (.mopZero, 1), (.mopClean, 2), (.mopInval, 3), (.mopCleanInval, 4), (.mopReserved 0, 5), (.mopReserved 1, 6), (.mopReserved 2, 7)] :
      List ((Requester → Instr) × Nat)), ∀ (s : State) (who : Requester), s.dev.live 4 = true →
    let a := s.dev.fld F.MDC_MOP_ADDR_LINE
    let n := s.dev.fld F.MDC_MOP_CNT_CNT
    (s.dev.flag F.MDC_MOP_STAT_BUSY = true → Gives (x.1 who) s fun d => d = { s.dev with regs := d.regs, log := d.log, lost := d.lost, hst := d.hst } ∧
      (∀ y, y ≠ F.LOG_INJECT_ARM.a → d.word y = s.dev.word y)) ∧
    (s.dev.flag F.MDC_MOP_STAT_BUSY = false → (n = 0 ∨ s.dev.mcap < a + n) → Gives (x.1 who) s fun d =>
      d.flag F.MDC_MOP_STAT_BUSY = false ∧ d.flag F.MDC_MOP_STAT_DONE = true ∧ d.fld F.MDC_MOP_STAT_ERR = 1 ∧ d.mdc = s.dev.mdc) ∧
    (s.dev.flag F.MDC_MOP_STAT_BUSY = false → n ≠ 0 → a + n ≤ s.dev.mcap → (5 ≤ x.2 ∨ (x.2 ≤ 1 ∧ s.dev.flag F.MDC_CTRL_EN = false)) → Gives (x.1 who) s fun d =>
      d.flag F.MDC_MOP_STAT_BUSY = false ∧ d.flag F.MDC_MOP_STAT_DONE = true ∧ d.fld F.MDC_MOP_STAT_ERR = (if 5 ≤ x.2 then 3 else 2) ∧ d.mdc = s.dev.mdc) ∧
    (s.dev.flag F.MDC_MOP_STAT_BUSY = false → n ≠ 0 → a + n ≤ s.dev.mcap → x.2 < 5 → (x.2 ≤ 1 → s.dev.flag F.MDC_CTRL_EN = true) →
      Gives (x.1 who) s fun d => d.flag F.MDC_MOP_STAT_BUSY = true ∧ d.flag F.MDC_MOP_STAT_DONE = false ∧
        ∃ m, d.mdc.mop = some m ∧ m.op = x.2 ∧ m.line = a ∧ m.cnt = n)) ∧
  (∀ s : State, s.dev.live 4 = true → (s.dev.mdc.mop = none → Gives .mopDone s fun d => d = s.dev) ∧
    ∀ m : MMop, s.dev.mdc.mop = some m → m.line + m.cnt ≤ m.next → Gives .mopDone s fun d =>
      let fetching := m.op = 0 ∧ (s.dev.mdc.fills.any fun f => decide (m.line ≤ f.line ∧ f.line < m.line + m.cnt)) = true
      (m.wbs = [] → ¬fetching → d.mdc = { s.dev.mdc with mop := none } ∧ d.flag F.MDC_MOP_STAT_BUSY = false ∧ d.flag F.MDC_MOP_STAT_DONE = true ∧
        d.flag F.MDC_STAT_MOP_BUSY = false ∧ d = { s.dev with mdc := d.mdc, regs := d.regs, log := d.log, lost := d.lost, hst := d.hst }) ∧
      (m.wbs ≠ [] ∨ fetching → (∃ m', d.mdc.mop = some m' ∧ m'.op = m.op ∧ m'.wbs = m.wbs) ∧ d = { s.dev with mdc := { s.dev.mdc with mop := d.mdc.mop } }))

/-- R16, R281 to R283, R285 to R289: with a credit a post by the owner of an open channel fills the ring slot at TAIL and moves it on, and any other is reported refused; an engine grants one channel in round-robin order and issues one burst where staging and
credits allow; read data goes out in order; a write response frees the burst's staging; STOP halts a channel that has settled, RESUME lifts the halt; a doorbell fetches the descriptor at HEAD of a host channel, which runs if it has OWN. (Said of states in which no
ring job of this node is under way.) (Model choices in it: log entries 3, 8, 32, 33.) -/
def Obligations.DmaPostsIssuesAndDelivers : Prop :=
  (∀ (s : State) (seq : Fin 8) (post : Bytes) (x : Nat), s.dev.live 1 = true → x = leAt post 32 1 % 64 →
    (s.dev.canSend .dma seq = false → Gives (.dmaPost seq post) s fun d => d = s.dev) ∧
    (s.dev.canSend .dma seq = true → x < 56 → s.dev.fld (F.DMA_C_CFG_OWNER x) = seq.val → s.dev.flag (F.DMA_C_CFG_EN x) = true →
      (s.dev.slotDesc x (s.dev.fld (F.DMA_C_TAIL_TAIL x))).own = false → Gives (.dmaPost seq post) s fun d =>
        d.slotDesc x (s.dev.fld (F.DMA_C_TAIL_TAIL x)) = { descOf post with own := true, status := 0, done := 0 } ∧
        d.fld (F.DMA_C_TAIL_TAIL x) = (s.dev.fld (F.DMA_C_TAIL_TAIL x) + 1) % s.dev.ringSize x ∧
        d.counter .dma 0 = s.dev.counter .dma 0 + 1 ∧ d = { s.dev with dma := { s.dev.dma with store := d.dma.store }, regs := d.regs, cnt := d.cnt }) ∧
    (∀ st, s.dev.canSend .dma seq = true →
      ((st = 9 ∧ (56 ≤ x ∨ s.dev.fld (F.DMA_C_CFG_OWNER x) ≠ seq.val)) ∨ (st = 0xA ∧ x < 56 ∧ s.dev.fld (F.DMA_C_CFG_OWNER x) = seq.val ∧ s.dev.flag (F.DMA_C_CFG_EN x) = false) ∨
        (st = 8 ∧ x < 56 ∧ s.dev.fld (F.DMA_C_CFG_OWNER x) = seq.val ∧ s.dev.flag (F.DMA_C_CFG_EN x) = true ∧ (s.dev.slotDesc x (s.dev.fld (F.DMA_C_TAIL_TAIL x))).own = true)) →
      Gives (.dmaPost seq post) s fun d =>
        d.dma = { s.dev.dma with reports := s.dev.dma.reports ++ [{ seq := seq, tag := (descOf post).tag, ch := x, status := st, done := 0, idx := 0xFFFF }] } ∧
        d.counter .dma 1 = s.dev.counter .dma 1 + 1 ∧ d = { s.dev with dma := d.dma, regs := d.regs, cnt := d.cnt, log := d.log, lost := d.lost, hst := d.hst })) ∧
  (∀ (s : State) (e : Fin 2), s.dev.live 1 = true → s.dev.rng.tjobs = [] → s.dev.rng.reads = [] →
    (rrFirst (fun x => s.dev.dmaMay e x) 64 64 (if e = 0 then s.dev.dma.rr0 else s.dev.dma.rr1) = none → Gives (.dmaBurstIssue e) s fun d =>
      (s.dev.stageWaits e = false → d = s.dev) ∧ (s.dev.stageWaits e = true → d.counter .dma 9 = s.dev.counter .dma 9 + 1) ∧ d = { s.dev with cnt := d.cnt }) ∧
    ∀ x r new, rrFirst (fun x => s.dev.dmaMay e x) 64 64 (if e = 0 then s.dev.dma.rr0 else s.dev.dma.rr1) = some x → s.dev.dmaNext x = some (r, new) →
      Gives (.dmaBurstIssue e) s fun d => (if e = 0 then d.dma.rr0 else d.dma.rr1) = (x + 1) % 64 ∧
        (s.dev.dmaEnds e x r = none →
          d.dma.bursts = s.dev.dma.bursts ++ [{ id := s.dev.dma.nextId, ch := x, idx := r.idx, first := r.issued, n := s.dev.burstOf e x r, flits := (s.dev.burstOf e x r + 1) / 2 }] ∧
          d.dma.nextId = s.dev.dma.nextId + 1 ∧ d = { s.dev with dma := d.dma, regs := d.regs, buf := d.buf, hst := d.hst, cnt := d.cnt }) ∧
        (s.dev.dmaEnds e x r ≠ none → d.dma.nextId = s.dev.dma.nextId)) ∧
  (∀ (s : State) (sram : SramBits), s.dev.live 1 = true → s.dev.rng.tjobs = [] → s.dev.rng.reads = [] →
    ((s.dev.buf.resps.find? fun x => decide (x.client = 2)) = none → Gives (.dmaReadData sram) s fun d => d = s.dev) ∧
    ∀ q b r, (s.dev.buf.resps.find? fun x => decide (x.client = 2)) = some q → (s.dev.dma.bursts.find? fun b => decide (b.id = q.id)) = some b → b.dead = false →
      s.dev.flag F.DMA_INJECT_ARM = false → (∀ k p, sramRead sram ≠ .uncorrectable k p) →
      (q.err = true → q.bad.getD 0 = 0 → Gives (.dmaReadData sram) s fun d => d.buf.resps = s.dev.buf.resps.erase q ∧ ∀ y ∈ d.dma.bursts, y.id ≠ b.id) ∧
      (q.err = false → (s.dev.dma.bursts.find? fun y => y.ch == b.ch && !y.sent && !y.dead) = some b → b.parts = [] → q.data.length = 128 * b.n →
        s.dev.fld (F.DMA_C_CFG_ENGINE b.ch) = 0 → ((s.dev.dch b.ch).runs.find? fun r => decide (r.idx = b.idx)) = some r → Gives (.dmaReadData sram) s fun d =>
          d.buf.resps = s.dev.buf.resps.erase q ∧ (s.dev.burstGoes b = true → ∃ b' ∈ d.dma.bursts, b'.id = b.id ∧ b'.sent = true) ∧
          (s.dev.burstGoes b = false → ∃ b' ∈ d.dma.bursts, b'.id = b.id ∧ b'.sent = false ∧ b'.parts = [(0, q.data)]))) ∧
  (∀ s : State, s.dev.live 1 = true → s.dev.rng.tjobs = [] → s.dev.rng.reads = [] →
    ((s.dev.dma.bursts.find? fun b => b.sent && decide (s.dev.fld (F.DMA_C_CFG_ENGINE b.ch) = 0)) = none → Gives (.dmaWriteResponse 0) s fun d => d = s.dev) ∧
    ((s.dev.buf.resps.find? fun x => decide (x.client = 3)) = none → Gives (.dmaWriteResponse 1) s fun d => d = s.dev) ∧
    (∀ b, (s.dev.dma.bursts.find? fun b => b.sent && decide (s.dev.fld (F.DMA_C_CFG_ENGINE b.ch) = 0)) = some b → Gives (.dmaWriteResponse 0) s fun d =>
      (∀ y ∈ d.dma.bursts, y.id ≠ b.id) ∧ d.fld F.DMA_STAT_RD_USED = s.dev.fld F.DMA_STAT_RD_USED - b.flits) ∧
    (∀ q b, (s.dev.buf.resps.find? fun x => decide (x.client = 3)) = some q → (s.dev.dma.bursts.find? fun b => decide (b.id = q.id)) = some b →
      s.dev.fld (F.DMA_C_CFG_ENGINE b.ch) = 1 → Gives (.dmaWriteResponse 1) s fun d =>
        (∀ y ∈ d.dma.bursts, y.id ≠ b.id) ∧ d.fld F.DMA_STAT_WR_USED = s.dev.fld F.DMA_STAT_WR_USED - b.flits)) ∧
  (∀ (s : State) (x : Fin 64) (who : Requester), s.dev.live 1 = true →
    (s.dev.rng.tjobs = [] → s.dev.rng.reads = [] → Gives (.dmaStop x who) s fun d =>
      ((s.dev.dch x).runs = [] → d.flag (F.DMA_C_STAT_HALTED x) = true ∧ (d.dch x).stopping = false ∧ (d.dch x).runs = []) ∧
      (∀ r rest, (s.dev.dch x).runs = r :: rest → (s.dev.dma.bursts.any fun b => b.ch == x.val && b.idx == r.idx && !b.dead) = true →
        (d.dch x).stopping = true ∧ d.flag (F.DMA_C_STAT_HALTED x) = s.dev.flag (F.DMA_C_STAT_HALTED x))) ∧
    Gives (.dmaResume x who) s (fun d => d.flag (F.DMA_C_STAT_HALTED x) = false ∧ d.dma.bursts = s.dev.dma.bursts ∧ (x.val < 56 → d.dma = s.dev.dma)) ∧
    (x.val < 56 → Gives (.dmaDoorbell x who) s fun d => d = { s.dev with regs := d.regs, log := d.log, lost := d.lost, hst := d.hst }) ∧
    (56 ≤ x.val → (s.dev.dch x).fetching = true → Gives (.dmaDoorbell x who) s fun d => (d.dch x).fetching = true ∧ (d.dch x).again = true ∧ (d.dch x).runs = (s.dev.dch x).runs) ∧
    (56 ≤ x.val → (s.dev.dch x).fetching = false →
      let may := s.dev.flag (F.DMA_C_CFG_EN x) = true ∧ s.dev.flag F.DMA_DIAG_UNLOCKED = true ∧ s.dev.flag (F.DMA_C_STAT_HALTED x) = false ∧ (s.dev.dch x).runs = []
      Gives (.dmaDoorbell x who) s fun d =>
        (may → (d.dch x).fetching = true ∧ ∃ r, d.hst.reads = s.dev.hst.reads ++ [r] ∧ r.ch = x.val ∧ r.len = 32 ∧ r.addr = s.dev.hostRing x (s.dev.fld (F.DMA_C_STAT_HEAD x))) ∧
        (¬may → d = { s.dev with regs := d.regs, log := d.log, lost := d.lost, hst := d.hst }))) ∧
  (∀ (s : State) (x : Fin 64) (desc : Bytes), s.dev.live 1 = true → Gives (.dmaHostDescriptorFetched x desc) s fun d =>
      let runs := (descOf desc).own = true ∧ (s.dev.dch x).stopping = false ∧ s.dev.flag F.DMA_DIAG_UNLOCKED = true ∧ s.dev.flag (F.DMA_C_STAT_HALTED x) = false
      ((s.dev.dch x).fetching = false → d = s.dev) ∧
      ((s.dev.dch x).fetching = true → runs → (d.dch x).fetching = false ∧ (d.dch x).again = false ∧
        (d.dch x).runs = [{ idx := s.dev.fld (F.DMA_C_STAT_HEAD x), desc := descOf desc }]) ∧
      ((s.dev.dch x).fetching = true → ¬runs → (d.dch x).runs = (s.dev.dch x).runs ∧ (d.dch x).again = false ∧ ((s.dev.dch x).again = false → (d.dch x).fetching = false)) ∧
      d = { s.dev with dma := d.dma, hst := d.hst, regs := d.regs, cnt := d.cnt })

/-! ## Host transport -/

/-- R305 to R310, R319, R413: a doorbell of a queue of a ready controller moves its tail or head to a valid value, and any other value or queue is reported as an asynchronous event; the round robin
over queues with an entry, room and a credit takes entries of one queue: each becomes a command in flight, or ends with Internal Error where its CSQ is halted; at the turn of the MI requests the oldest is answered;
a completion entry that has gone to HST is written at its queue's tail with the phase bit, unless the queue is full or another must go before it; a coalescing window that ends sends its interrupt. (Model choices in it: log entries 7, 8, 9, 35, 70, 71.) -/
def Obligations.QueuesTakeDoorbellsAndEntries : Prop :=
  (∀ (s : State) (c : Fin 2) (q v : BitVec 16), s.dev.live 1 = true →
    ((s.dev.hasCtrl c = false ∨ (s.dev.ctrl c).rdy = false) → Gives (.sqTailDoorbell c q v) s (fun d => d = s.dev) ∧ Gives (.cqHeadDoorbell c q v) s (fun d => d = s.dev)) ∧
    (s.dev.hasCtrl c = true → (s.dev.ctrl c).rdy = true →
      ((s.dev.ctrl c).sq q.toNat = none → Gives (.sqTailDoorbell c q v) s fun d => d = s.dev.raiseAen c ⟨0, 0, 1⟩) ∧
      (∀ x, (s.dev.ctrl c).sq q.toNat = some x →
        (v.toNat < x.size → Gives (.sqTailDoorbell c q v) s fun d => (d.ctrl c).sq q.toNat = some { x with tail := v.toNat } ∧
          (∀ k, k ≠ q.toNat → (d.ctrl c).sq k = (s.dev.ctrl c).sq k) ∧ d = s.dev.setCtrl c { s.dev.ctrl c with sqs := (d.ctrl c).sqs }) ∧
        (x.size ≤ v.toNat → Gives (.sqTailDoorbell c q v) s fun d => d = s.dev.raiseAen c ⟨0, 1, 1⟩)) ∧
      ((s.dev.ctrl c).cq q.toNat = none → Gives (.cqHeadDoorbell c q v) s fun d => d = s.dev.raiseAen c ⟨0, 0, 1⟩) ∧
      (∀ x, (s.dev.ctrl c).cq q.toNat = some x →
        (v.toNat < x.size → (v.toNat + x.size - x.head) % x.size ≤ (x.tail + x.size - x.head) % x.size → Gives (.cqHeadDoorbell c q v) s fun d =>
          (d.ctrl c).cq q.toNat = some { x with head := v.toNat } ∧ (∀ k, k ≠ q.toNat → (d.ctrl c).cq k = (s.dev.ctrl c).cq k) ∧
          d = s.dev.setCtrl c { s.dev.ctrl c with cqs := (d.ctrl c).cqs }) ∧
        ((x.size ≤ v.toNat ∨ (x.tail + x.size - x.head) % x.size < (v.toNat + x.size - x.head) % x.size) → Gives (.cqHeadDoorbell c q v) s fun d =>
          d = s.dev.raiseAen c ⟨0, 1, 1⟩)))) ∧
  (∀ (s : State) (c : Fin 2) (cids : List (BitVec 16)), s.dev.live 1 = true →
    ((s.dev.hasCtrl c = false ∨ rrFirst (s.dev.sqReady c) 130 130 (s.dev.ctrl c).rrSq = none) → Gives (.sqEntryFetch c cids) s fun d => d = s.dev) ∧
    (s.dev.hasCtrl c = true →
      (∀ (q : Nat) (y : SqS), rrFirst (s.dev.sqReady c) 130 130 (s.dev.ctrl c).rrSq = some q → q ≠ 129 → (s.dev.ctrl c).sq q = some y →
        let n := min (min (min y.waiting (2 ^ (s.dev.ctrl c).ab)) (s.dev.maxCmd - s.dev.inFlight c)) (min cids.length (s.dev.pool .seq (csqOf q)).held)
        Gives (.sqEntryFetch c cids) s fun d =>
          (d.ctrl c).sq q = some { y with head := (y.head + n) % y.size } ∧ (d.ctrl c).rrSq = (q + 1) % 130 ∧ d.counter .hst 0 = s.dev.counter .hst 0 + BitVec.ofNat 64 n ∧
          (s.dev.fld (F.SEQ_SSTAT_HALTED (csqOf q)) = 0 → ∀ i ∈ cids.take n,
            d.cmd? ⟨c, q, i.toNat⟩ = some { tag := ⟨c, q, i.toNat⟩, kind := .fetched, started := s.dev.now, ordered := y.ordered }) ∧
          (s.dev.fld (F.SEQ_SSTAT_HALTED (csqOf q)) ≠ 0 → ∀ i ∈ cids.take n, d.cmd? ⟨c, q, i.toNat⟩ = none ∧ ∃ p ∈ d.hst.post, p.tag = ⟨c, q, i.toNat⟩ ∧ p.st = stInternal) ∧
          d = { s.dev with hst := d.hst, pools := d.pools, cmds := d.cmds, cnt := d.cnt, free := d.free }) ∧
      (∀ m rest, rrFirst (s.dev.sqReady c) 130 130 (s.dev.ctrl c).rrSq = some 129 → s.dev.hst.mi = m :: rest → Gives (.sqEntryFetch c cids) s fun d =>
        d.hst.mi = rest ∧ (d.ctrl c).rrSq = 0 ∧
        (s.dev.fld (F.SEQ_SSTAT_HALTED 0) ≠ 0 → d.hst.tx = s.dev.hst.tx ++ [.mi [2]]) ∧
        (s.dev.fld (F.SEQ_SSTAT_HALTED 0) = 0 → (miOp m = .refused → d.hst.tx = s.dev.hst.tx ++ [.mi [3]]) ∧
          (miOp m = .reset → d.hst.tx = s.dev.hst.tx ++ [.mi [0]] ∧ d.hst.nssr.isSome = true) ∧
          (miOp m = .answer → ∃ b : Bytes, d.hst.tx = s.dev.hst.tx ++ [.mi (0 :: b)] ∧ b.length ≤ 4223)) ∧
        d = { s.dev with hst := d.hst, zne := { s.dev.zne with cache := d.zne.cache }, regs := d.regs, free := d.free }))) ∧
  (∀ (s : State) (c : Fin 2) (q : BitVec 16), s.dev.live 1 = true →
    let first := s.dev.postSent.find? fun p => decide (p.tag.ctrl = c) && (match (s.dev.ctrl c).sq p.tag.sq with | some y => decide (y.cqid = q.toNat) | none => false)
    (((s.dev.ctrl c).cq q.toNat = none ∨ first = none) → Gives (.cqEntryPost c q) s fun d => d = s.dev) ∧
    ∀ (cq : CqS) (p : Cpl) (y : SqS), (s.dev.ctrl c).cq q.toNat = some cq → first = some p → (s.dev.ctrl c).sq p.tag.sq = some y →
      let goes := (cq.tail + 1) % cq.size ≠ cq.head ∧ ∀ t, p.after = some t → s.dev.cmd? t = none ∧ ∀ e ∈ s.dev.hst.post, e.tag ≠ t
      (¬goes → Gives (.cqEntryPost c q) s fun d => d = s.dev) ∧
      (goes → Gives (.cqEntryPost c q) s fun d =>
        d.hst.post = s.dev.hst.post.erase p ∧
        (d.ctrl c).cq q.toNat = some { cq with tail := (cq.tail + 1) % cq.size, phase := if cq.tail + 1 = cq.size then !cq.phase else cq.phase } ∧
        (∃ l, d.hst.tx = s.dev.hst.tx ++ [.entry (if s.dev.flag (fFENCED .hst (csqOf p.tag.sq)) then { p with st := stInternal } else p) q.toNat cq.tail cq.phase y.head] ++ l) ∧
        d.counter .hst 1 = s.dev.counter .hst 1 + 1 ∧ d = { s.dev with hst := d.hst, cnt := d.cnt, pools := d.pools })) ∧
  (∀ (s : State) (c : Fin 2) (v : BitVec 16), s.dev.live 1 = true →
    let w := (s.dev.ctrl c).coal.get (fun _ => {}) v.toNat
    ((w.held = 0 ∨ s.dev.now < w.opened + 100000 * (s.dev.ctrl c).coalTime) → Gives (.coalesceTimeout c v) s fun d => d = s.dev) ∧
    (w.held ≠ 0 → w.opened + 100000 * (s.dev.ctrl c).coalTime ≤ s.dev.now → Gives (.coalesceTimeout c v) s fun d =>
      ((d.ctrl c).coal.get (fun _ => {}) v.toNat) = {} ∧
      d.hst.tx = s.dev.hst.tx ++ (if (s.dev.ctrl c).msixOn then [.msix c v.toNat] else if (s.dev.ctrl c).intms % 2 = 1 then [] else [.inta c]) ∧
      d = { s.dev with hst := d.hst, cnt := d.cnt }))

/-- R299, R311, R312, R314, R318: a host read that completes puts its data into the staging of its burst; one that fails, or that an armed injection aborts, is reported through AER and counted, and its burst keeps at
most the lines before it; a poisoned write is only reported; a link that trains shows in PSTAT, one that goes down or stays in recovery fails its port and takes its controller's queues away; an MI request waits, one too long
is refused; BAR2 answers 0 while locked, refuses a bad access with Completer Abort, and else is a control-space access. (Model choices in it: log entries 7, 8, 9, 10, 16, 32, 36.) -/
def Obligations.HostReadsLinksAndSideBand : Prop :=
  (∀ (s : State) (id : Nat) (res : HostRes), s.dev.live 1 = true →
    ((s.dev.hst.reads.find? fun r => decide (r.id = id)) = none → Gives (.hostReadCompletion id res) s (fun d => d = s.dev) ∧ Gives (.hostCompletionTimeout id) s (fun d => d = s.dev)) ∧
    ∀ r, (s.dev.hst.reads.find? fun r => decide (r.id = id)) = some r →
      let inj := s.dev.flag F.DMA_INJECT_ARM = true ∧ s.dev.fld F.DMA_INJECT_KIND = 2 ∧ s.dev.fld F.DMA_INJECT_CH = r.ch
      (∀ b : Bytes, ¬inj → res = .ok b → Gives (.hostReadCompletion id res) s fun d => (∃ l, d.hst.reads = s.dev.hst.reads.erase r ++ l) ∧
        (∀ k y, r.burst = some k → (s.dev.dma.bursts.find? fun x => decide (x.id = k)) = some y →
          (y.dead = true → ∀ x ∈ d.dma.bursts, x.id ≠ k) ∧
          (y.dead = false → r.len ≤ b.length → ∃ x ∈ d.dma.bursts, x.id = k ∧ (x.sent = true ∨ x.parts = y.parts ++ [(r.ofs, b.take r.len)])) ∧
          (y.dead = false → b.length < r.len → ∀ x ∈ d.dma.bursts, x.id = k → x.n ≤ (r.ofs + b.length) / 128)) ∧
        ((∀ k, r.burst = some k → (s.dev.dma.bursts.find? fun x => decide (x.id = k)) = none) → d = { s.dev with hst := { s.dev.hst with reads := s.dev.hst.reads.erase r } })) ∧
      (∀ i ∈ [(Instr.hostReadCompletion id res, 6), (.hostCompletionTimeout id, 5)], (i.2 = 6 → inj ∨ ∀ b, res ≠ .ok b) → Gives i.1 s fun d =>
        d.counter .hst i.2 = s.dev.counter .hst i.2 + 1 ∧ (∃ l, d.hst.reads = s.dev.hst.reads.erase r ++ l) ∧ (∃ l, d.hst.tx = s.dev.hst.tx ++ [.aerReport r.port false] ++ l) ∧
        (r.burst = none → (d.dch r.ch).fetching = false ∧ d = { s.dev with hst := d.hst, dma := d.dma, regs := d.regs, cnt := d.cnt, log := d.log, lost := d.lost }) ∧
        ∀ k y, r.burst = some k → (s.dev.dma.bursts.find? fun x => decide (x.id = k)) = some y →
          (y.dead = true → ∀ x ∈ d.dma.bursts, x.id ≠ k) ∧ (y.dead = false → ∀ x ∈ d.dma.bursts, x.id = k → x.n ≤ r.ofs / 128))) ∧
  (∀ (s : State) (c : Fin 2), s.dev.live 1 = true → Gives (.hostWritePoisoned c) s fun d => d = if s.dev.hasCtrl c then s.dev.sendTx (.aerReport c true) else s.dev) ∧
  (∀ (s : State) (p : Fin 2), s.dev.live 5 = true →
    (∀ (speed : Fin 7) (width : Fin 5) (flit : Bool),
      ((s.dev.hasCtrl p = false ∨ (s.dev.ctrl p).perst = true) → Gives (.linkUp p speed width flit) s fun d => d = s.dev) ∧
      (s.dev.hasCtrl p = true → (s.dev.ctrl p).perst = false → Gives (.linkUp p speed width flit) s fun d =>
        d.fld (F.HST_PSTAT_DL_UP p.val) = 1 ∧ d.fld (F.HST_PSTAT_FAILED p.val) = 0 ∧ d.fld (F.HST_PSTAT_SPEED p.val) = speed.val ∧
        d.fld (F.HST_PSTAT_WIDTH p.val) = width.val ∧ d.flag (F.HST_PSTAT_FLIT p.val) = flit ∧ (d.ctrl p).trained = true ∧
        d = { s.dev with regs := d.regs, hst := d.hst, pwr := d.pwr, log := d.log, lost := d.lost })) ∧
    (∀ i ∈ [Instr.portDlDown p, .linkRecoveryTimeout p],
      ((s.dev.hasCtrl p = false ∨ s.dev.flag (F.HST_PSTAT_DL_UP p.val) = false ∨ s.dev.flag (F.HST_PSTAT_FAILED p.val) = true) → Gives i s fun d => d = s.dev) ∧
      (s.dev.hasCtrl p = true → s.dev.flag (F.HST_PSTAT_DL_UP p.val) = true → s.dev.flag (F.HST_PSTAT_FAILED p.val) = false → Gives i s fun d =>
        d.flag (F.HST_PSTAT_FAILED p.val) = true ∧ d.flag (F.HST_PSTAT_DL_UP p.val) = false ∧ d.counter .hst 8 = s.dev.counter .hst 8 + 1 ∧
        (d.ctrl p).rdy = false ∧ (d.ctrl p).sqs = [] ∧ (d.ctrl p).cqs = [] ∧ (∀ x ∈ d.cmds, x.tag.ctrl = p → x.silent = true) ∧
        d.ch = s.dev.ch ∧ d.wrp = s.dev.wrp ∧ d.srv = s.dev.srv ∧ d.spn = s.dev.spn)) ∧
    ∀ us : BitVec 32,
      let may := s.dev.hasCtrl p = true ∧ s.dev.flag (F.HST_PSTAT_DL_UP p.val) = true ∧ us.toNat < 1000 * s.dev.fld F.HST_LINK_RECOV_MS
      (¬may → Gives (.linkRetrained p us) s fun d => d = s.dev) ∧
      (may → Gives (.linkRetrained p us) s fun d =>
        d.counter .hst 7 = s.dev.counter .hst 7 + 1 ∧ d.fld (F.HST_PSTAT_RETRAINS p.val) = min (s.dev.fld (F.HST_PSTAT_RETRAINS p.val) + 1) (2 ^ (F.HST_PSTAT_RETRAINS p.val).n - 1) ∧
        d.fld (F.HST_PSTAT_DL_UP p.val) = s.dev.fld (F.HST_PSTAT_DL_UP p.val) ∧ d = { s.dev with regs := d.regs, cnt := d.cnt, log := d.log, lost := d.lost, hst := d.hst })) ∧
  (∀ (s : State) (msg : Bytes), s.dev.live 1 = true →
    (4224 < msg.length → Gives (.miMessage msg) s fun d => d = s.dev.sendTx (.mi [4])) ∧
    (msg.length ≤ 4224 → Gives (.miMessage msg) s fun d => d.hst.mi = s.dev.hst.mi ++ [msg] ∧ d.counter .hst 10 = s.dev.counter .hst 10 + 1 ∧
      d = { s.dev with hst := { s.dev.hst with mi := d.hst.mi }, cnt := d.cnt }) ∧
    (s.dev.flag F.HST_MI_BMC_EN = false → Gives .bmcBasicRead s fun d => d = s.dev) ∧
    (s.dev.flag F.HST_MI_BMC_EN = true → Gives .bmcBasicRead s fun d =>
      (∃ b : Bytes, b.length = 7 ∧ d.hst.tx = s.dev.hst.tx ++ [.mi b]) ∧ d = { s.dev with hst := { s.dev.hst with tx := d.hst.tx } })) ∧
  (∀ (s : State) (c : Fin 2) (a : BitVec 28) (size : Nat) (wr : Option Word), s.dev.live 5 = true →
    ((s.dev.hasCtrl c = false ∨ (s.dev.flag F.DMA_DIAG_UNLOCKED = true ∧ s.dev.canSend .fab 1 = false)) → Gives (.bar2Access c a size wr) s fun d => d = s.dev) ∧
    (s.dev.hasCtrl c = true →
      (s.dev.flag F.DMA_DIAG_UNLOCKED = false → Gives (.bar2Access c a size wr) s fun d => d = if wr.isSome then s.dev else s.dev.sendTx (.cpl c (some 0))) ∧
      (s.dev.flag F.DMA_DIAG_UNLOCKED = true → s.dev.canSend .fab 1 = true →
        ((size ≠ 4 ∨ a.toNat % 4 ≠ 0 ∨ locate a.toNat = none) → Gives (.bar2Access c a size wr) s fun d =>
          d.hst.tx = s.dev.hst.tx ++ [.cpl c none] ∧ d = { s.dev with hst := d.hst, log := d.log, lost := d.lost, regs := d.regs }) ∧
        (size = 4 → a.toNat % 4 = 0 → locate a.toNat ≠ none →
          (∀ v, wr = some v → Gives (.bar2Access c a size wr) s fun d => d = (s.dev.controlWrite a.toNat v.toNat (9 + c.val)).1) ∧
          (∀ w, wr = none → s.dev.readWord a.toNat = some w → Gives (.bar2Access c a size wr) s fun d =>
            d.hst.tx = s.dev.hst.tx ++ [.cpl c (some w)] ∧ d = { s.dev with hst := d.hst, regs := d.regs })))))

/-- R300 to R302, R315, R316, Table 11.7: CC.EN with the supported fields makes the controller ready with its admin queues, and with others it is only logged; every kind of controller reset takes its queues away and lowers RDY, and
its commands end without completions; a shutdown releases held runs, and is reported complete at once when the cache is empty; a challenge is fresh, a right answer in time opens the lock and every other counts as a failure
and is denied, and the lock closes. (Model choices in it: log entries 3, 4, 6, 8, 9, 10, 43, 56, 64, 70.) -/
def Obligations.ControllersEnableResetAndUnlock : Prop :=
  (∀ (s : State) (c : Fin 2) (cc aqa : Word) (asq acq : BitVec 64) (cfg : HostCfg), s.dev.live 1 = true →
    ((s.dev.hasCtrl c = false ∨ (s.dev.ctrl c).rdy = true ∨ cc.toNat.testBit 0 = false) → Gives (.ccEnable c cc aqa asq acq cfg) s fun d => d = s.dev) ∧
    (s.dev.hasCtrl c = true → (s.dev.ctrl c).rdy = false → cc.toNat.testBit 0 = true →
      (getBits cc 4 3 = 6 → getBits cc 16 4 = 6 → getBits cc 20 4 = 4 → Gives (.ccEnable c cc aqa asq acq cfg) s fun d =>
        (d.ctrl c).rdy = true ∧ (d.ctrl c).cc = cc.toNat ∧ (d.ctrl c).shst = 0 ∧ (d.ctrl c).mps = cfg.mps ∧ (d.ctrl c).mrrs = cfg.mrrs ∧ (d.ctrl c).msixOn = cfg.msix ∧
        (d.ctrl c).sq 0 = some { base := asq.toNat, size := getBits aqa 0 12 + 1, cqid := 0 } ∧
        (d.ctrl c).cq 0 = some { base := acq.toNat, size := getBits aqa 16 12 + 1 } ∧ (∀ b : Fin 2, b ≠ c → d.ctrl b = s.dev.ctrl b) ∧
        d = { s.dev with hst := d.hst }) ∧
      ((getBits cc 4 3 ≠ 6 ∨ getBits cc 16 4 ≠ 6 ∨ getBits cc 20 4 ≠ 4) → Gives (.ccEnable c cc aqa asq acq cfg) s fun d =>
        (d.ctrl c).rdy = false ∧ (d.ctrl c).sqs = (s.dev.ctrl c).sqs ∧ d = { s.dev with hst := d.hst, log := d.log, lost := d.lost, regs := d.regs }))) ∧
  (∀ (s : State) (c : Fin 2), s.dev.live 1 = true →
    let resets := [Instr.controllerReset c, .functionLevelReset c, .portHotReset c false, .portHotReset c true]
    (s.dev.hasCtrl c = false → ∀ i ∈ resets, Gives i s fun d => d = s.dev) ∧
    (s.dev.hasCtrl c = true →
      (∀ i ∈ resets, Gives i s fun d => (d.ctrl c).rdy = false ∧ (d.ctrl c).cc = 0 ∧ (d.ctrl c).sqs = [] ∧ (d.ctrl c).cqs = [] ∧ (d.ctrl c).aers = [] ∧
        (∀ x ∈ d.cmds, x.tag.ctrl = c → x.silent = true) ∧ d.counter .hst 9 = s.dev.counter .hst 9 + 1 ∧
        d.ch = s.dev.ch ∧ d.wrp = s.dev.wrp ∧ d.srv = s.dev.srv ∧ d.spn = s.dev.spn) ∧
      (∀ i ∈ resets.drop 1, Gives i s fun d => (d.ctrl c).mps = 128 ∧ (d.ctrl c).mrrs = 512 ∧ (d.ctrl c).msixOn = false) ∧
      ∀ perst, Gives (.portHotReset c perst) s fun d => d.word (F.HST_PSTAT_DL_UP c.val).a = 0 ∧ (perst = true → (d.ctrl c).perst = true))) ∧
  (∀ (s : State) (c : Fin 2), s.dev.live 1 = true →
    ((s.dev.hasCtrl c = false ∨ (s.dev.ctrl c).shst ≠ 0) → Gives (.shutdownNotify c) s fun d => d = s.dev) ∧
    (s.dev.hasCtrl c = true → (s.dev.ctrl c).shst = 0 →
      (s.dev.zne.cache = [] → Gives (.shutdownNotify c) s fun d => (d.ctrl c).shst = 2 ∧ d.zne.cache = []) ∧
      (s.dev.zne.cache ≠ [] → Gives (.shutdownNotify c) s fun d => (d.ctrl c).shst = 1 ∧ (∀ x ∈ d.zne.cache, x.held = false) ∧
        d.zne.cache.length = s.dev.zne.cache.length ∧ d = { s.dev with hst := d.hst, zne := { s.dev.zne with cache := d.zne.cache } }))) ∧
  (∀ (s : State) (t : Tag) (answer : Bytes), s.dev.live 1 = true →
    let right := ∃ (ch : Challenge) (k : Bytes), s.dev.hst.challenge = some ch ∧ s.dev.load.diagKey = some k ∧ s.dev.flag F.HST_CTRL_DIAG_ALLOW = true ∧
      s.dev.now < ch.issued + 10000000000 ∧ answer.take 32 = hmac k ch.value ∧ s.dev.hst.diagFails < 4
    (s.dev.load.minimal = true → ∀ i ∈ [Instr.diagChallenge t, .diagUnlock t answer, .diagLock t], Gives i s fun d => Ended s.dev d t stSequence ∧
      d = { s.dev with cmds := d.cmds, hst := d.hst, free := d.free }) ∧
    (s.dev.load.minimal = false →
      Gives (.diagChallenge t) s (fun d => (∃ v, d.hst.challenge = some { value := v, issued := s.dev.now } ∧ v.length = 32 ∧
        d.hst.tx = s.dev.hst.tx ++ [.data t v]) ∧ Ended s.dev d t stOk ∧ d = { s.dev with cmds := d.cmds, hst := d.hst, free := d.free }) ∧
      (right → Gives (.diagUnlock t answer) s fun d =>
          d.flag F.DMA_DIAG_UNLOCKED = true ∧ d.hst.unlockedBy = some t.ctrl ∧ Ended s.dev d t stOk ∧
          d = { s.dev with cmds := d.cmds, hst := d.hst, regs := d.regs, log := d.log, lost := d.lost }) ∧
      (¬right → Gives (.diagUnlock t answer) s fun d =>
          d.flag F.DMA_DIAG_UNLOCKED = s.dev.flag F.DMA_DIAG_UNLOCKED ∧ d.hst.unlockedBy = s.dev.hst.unlockedBy ∧ d.hst.diagFails = s.dev.hst.diagFails + 1 ∧ Ended s.dev d t stDenied ∧
          d = { s.dev with cmds := d.cmds, hst := d.hst, free := d.free, regs := d.regs, log := d.log, lost := d.lost }) ∧
      Gives (.diagLock t) s fun d => d.flag F.DMA_DIAG_UNLOCKED = false ∧ Ended s.dev d t stOk ∧
        d = { s.dev with cmds := d.cmds, hst := d.hst, dma := d.dma, regs := d.regs, cnt := d.cnt, log := d.log, lost := d.lost }))

/-! ## Admin commands -/

/-- R304, R309, R323: the queue-creation commands make a queue of size + 1 entries where the identifier is free and between 1 and 128, and each check that fails ends them with its own status; a deleted submission queue is gone
with its commands: those that were not committed are abandoned and the others run on unseen; a completion queue in use is not deleted. (Model choices in it: log entries 8, 33, 34, 37, 43.) -/
def Obligations.QueuesAreCreatedAndDeleted : Prop :=
  ∀ (s : State) (t : Tag) (qid size x : BitVec 16) (base : BitVec 64) (ien pc : Bool), s.dev.live 1 = true →
    let k := s.dev.ctrl t.ctrl
    let q := qid.toNat
    let fails (i : Instr) (st : Status) : Prop := Gives i s fun d => Ended s.dev d t st ∧
      d.ctrl t.ctrl = { k with errCount := (d.ctrl t.ctrl).errCount, errors := (d.ctrl t.ctrl).errors } ∧ d = { s.dev with hst := d.hst, cmds := d.cmds, free := d.free }
    ((q = 0 ∨ 128 < q ∨ (k.sq q).isSome = true) → fails (.createIoSq t qid size x base pc) (stOf 1 0x01)) ∧
    (q ≠ 0 → q ≤ 128 → k.sq q = none →
      ((x.toNat = 0 ∨ k.cq x.toNat = none) → fails (.createIoSq t qid size x base pc) (stOf 1 0x00)) ∧
      (x.toNat ≠ 0 → (k.cq x.toNat).isSome = true →
        ((size.toNat = 0 ∨ 4095 < size.toNat) → fails (.createIoSq t qid size x base pc) (stOf 1 0x02)) ∧
        (size.toNat ≠ 0 → size.toNat ≤ 4095 →
          (pc = false → fails (.createIoSq t qid size x base pc) stInvalidField) ∧
          (pc = true → Gives (.createIoSq t qid size x base pc) s fun d =>
            (d.ctrl t.ctrl).sq q = some { base := base.toNat, size := size.toNat + 1, cqid := x.toNat } ∧ (∀ j, j ≠ q → (d.ctrl t.ctrl).sq j = k.sq j) ∧
            d.ctrl t.ctrl = { k with sqs := (d.ctrl t.ctrl).sqs } ∧ (∀ c : Fin 2, c ≠ t.ctrl → d.ctrl c = s.dev.ctrl c) ∧ Ended s.dev d t stOk ∧
            d = { s.dev with hst := d.hst, cmds := d.cmds })))) ∧
    ((q = 0 ∨ 128 < q ∨ (k.cq q).isSome = true) → fails (.createIoCq t qid size x base ien pc) (stOf 1 0x01)) ∧
    (q ≠ 0 → q ≤ 128 → k.cq q = none →
      ((size.toNat = 0 ∨ 4095 < size.toNat) → fails (.createIoCq t qid size x base ien pc) (stOf 1 0x02)) ∧
      (size.toNat ≠ 0 → size.toNat ≤ 4095 →
        (128 < x.toNat → fails (.createIoCq t qid size x base ien pc) (stOf 1 0x08)) ∧
        (x.toNat ≤ 128 → pc = false → fails (.createIoCq t qid size x base ien pc) stInvalidField) ∧
        (x.toNat ≤ 128 → pc = true → Gives (.createIoCq t qid size x base ien pc) s fun d =>
          (d.ctrl t.ctrl).cq q = some { base := base.toNat, size := size.toNat + 1, vector := x.toNat, ien := ien } ∧ (∀ j, j ≠ q → (d.ctrl t.ctrl).cq j = k.cq j) ∧
          d.ctrl t.ctrl = { k with cqs := (d.ctrl t.ctrl).cqs } ∧ (∀ c : Fin 2, c ≠ t.ctrl → d.ctrl c = s.dev.ctrl c) ∧ Ended s.dev d t stOk ∧
          d = { s.dev with hst := d.hst, cmds := d.cmds }))) ∧
    ((q = 0 ∨ k.sq q = none) → fails (.deleteIoSq t qid) (stOf 1 0x01)) ∧
    (q ≠ 0 → (k.sq q).isSome = true → Gives (.deleteIoSq t qid) s fun d =>
      (d.ctrl t.ctrl).sq q = none ∧ (∀ j, j ≠ q → (d.ctrl t.ctrl).sq j = k.sq j) ∧ (∀ c ∈ d.cmds, c.tag.ctrl = t.ctrl → c.tag.sq = q → c.silent = true) ∧
      (∀ c ∈ s.dev.cmds, c.tag.ctrl = t.ctrl → c.tag.sq = q → c.silent = false → c.isCommitted = false → d.cmd? c.tag = none) ∧
      (∀ p ∈ d.hst.post, p.tag.ctrl = t.ctrl → p.tag.sq = q → p.tag = t) ∧ d.cmd? t = none ∧
      (t.sq ≠ q → (∀ c, s.dev.cmd? t = some c → c.silent = false) → ∃ l c, d.hst.post = l ++ [c] ∧ c.tag = t ∧ c.st = stOk) ∧
      d.ch = s.dev.ch ∧ d.wrp = s.dev.wrp ∧ d.srv = s.dev.srv ∧ d.spn = s.dev.spn) ∧
    ((q = 0 ∨ k.cq q = none) → fails (.deleteIoCq t qid) (stOf 1 0x01)) ∧
    (q ≠ 0 → (k.cq q).isSome = true →
      ((∃ p ∈ k.sqs, ∃ y, p.2 = some y ∧ y.cqid = q) → fails (.deleteIoCq t qid) (stOf 1 0x0C)) ∧
      ((∀ p ∈ k.sqs, ∀ y, p.2 = some y → y.cqid ≠ q) → Gives (.deleteIoCq t qid) s fun d =>
        (d.ctrl t.ctrl).cq q = none ∧ (∀ j, j ≠ q → (d.ctrl t.ctrl).cq j = k.cq j) ∧ d.ctrl t.ctrl = { k with cqs := (d.ctrl t.ctrl).cqs } ∧ Ended s.dev d t stOk ∧
        d = { s.dev with hst := d.hst, cmds := d.cmds })) ∧
    fails (.invalidOpcode t) (if s.dev.load.minimal then stSequence else stOf 0 0x01)

/-- R85, R245, R323 to R325, R346, R359, R481, R524, R547: Identify returns the structure of its CNS, the lists in ascending order, and an unsupported CNS ends with its status; each log page is returned from the byte offset on, the
two pages whose contents a read consumes are emptied by a read with RAE 0, an offset beyond the page fails with Invalid Field in Command, and an unsupported page with Invalid Log Page. (Model choices in it: log entries 4, 8, 34, 43, 67.) -/
def Obligations.IdentifyAndLogPagesAreReturned : Prop :=
  ∀ (s : State) (t : Tag), s.dev.live 1 = true →
    let k := s.dev.ctrl t.ctrl
    let fails (i : Instr) (st : Status) : Prop := Gives i s fun d => Ended s.dev d t st ∧ d.hst.tx = s.dev.hst.tx ∧ d = { s.dev with hst := d.hst, cmds := d.cmds, free := d.free }
    let answers (i : Instr) (b : Bytes) : Prop := Gives i s fun d => d.hst.tx = s.dev.hst.tx ++ [.data t b] ∧ Ended s.dev d t stOk ∧ d = { s.dev with hst := d.hst, cmds := d.cmds, free := d.free }
    (∀ (cns csi : Byte) (nsid : Word) (cntid : BitVec 16),
      (let r := s.dev.identify t.ctrl cns.toNat nsid.toNat csi.toNat cntid.toNat
       (r.1.1 = stOk → answers (.identify t cns csi nsid cntid) r.1.2) ∧ (r.1.1 ≠ stOk → fails (.identify t cns csi nsid cntid) r.1.1)) ∧
      Gives (.identify t 0x01 csi nsid cntid) s (fun d => ∃ free : Bytes, free.length = 4096 ∧ d.hst.tx = s.dev.hst.tx ++ [.data t (pageOf free (s.dev.idCtrl t.ctrl))]) ∧
      answers (.identify t 0x02 csi nsid cntid) (nsList ((s.dev.zne.nss.filter fun n => n.attached t.ctrl).map Ns.nsid) nsid.toNat) ∧
      answers (.identify t 0x10 csi nsid cntid) (nsList (s.dev.zne.nss.map Ns.nsid) nsid.toNat) ∧
      ((nsid.toNat = 0 ∨ 64 < nsid.toNat) → ∀ c ∈ ([0x00, 0x03, 0x08, 0x11] : List Byte), fails (.identify t c csi nsid cntid) stInvalidNs) ∧
      (cns.toNat ∉ [0x00, 0x01, 0x02, 0x03, 0x05, 0x06, 0x07, 0x08, 0x10, 0x11, 0x12, 0x13, 0x1C] → fails (.identify t cns csi nsid cntid) stInvalidField)) ∧
    (∀ (rae : Bool) (lpo : BitVec 64) (len : Word),
      (∀ p ∈ [(Instr.getLogErrorInfo t rae lpo len, errPage k), (.getLogFirmwareSlot t rae lpo len, s.dev.slotPage), (.getLogChangedNs t rae lpo len, nsList k.changed 0),
          (.getLogCmdEffects t rae lpo len, effectsPage), (.getLogWpRecovery t rae lpo len, (s.dev.zne.recov.take 8192).flatMap wpBytes),
          (.getLogFormatTables t rae 0 lpo len, match s.dev.load.fmt0 with | some f => f.raw | none => []),
          (.getLogBufferHealth t rae lpo len, s.dev.healthPage), (.getLogHeldRuns t rae lpo len, s.dev.heldPage)] ++
          (if s.dev.v then [] else [(.getLogFormatTables t rae 1 lpo len, match s.dev.load.fmt1 with | some f => f.raw | none => [])]),
        (lpo.toNat ≤ p.2.length → Gives p.1 s fun d => d.hst.tx = s.dev.hst.tx ++ [.data t (slice p.2 lpo.toNat len.toNat)] ∧ Ended s.dev d t stOk ∧
          (rae = true → d = { s.dev with hst := d.hst, cmds := d.cmds } ∧ (d.ctrl t.ctrl).changed = k.changed) ∧
          d = { s.dev with hst := d.hst, cmds := d.cmds, zne := { s.dev.zne with recov := d.zne.recov } }) ∧
        (p.2.length < lpo.toNat → fails p.1 stInvalidField)) ∧
      (lpo.toNat ≤ (nsList k.changed 0).length → Gives (.getLogChangedNs t false lpo len) s fun d => (d.ctrl t.ctrl).changed = []) ∧
      (lpo.toNat ≤ ((s.dev.zne.recov.take 8192).flatMap wpBytes).length → Gives (.getLogWpRecovery t false lpo len) s fun d => d.zne.recov = []) ∧
      (∀ nsid : Word,
        ((nsid.toNat = 0 ∨ nsid.toNat = 0xFFFFFFFF) → Gives (.getLogSmartHealth t rae nsid lpo len) s fun d => ∃ free : Bytes, free.length = 512 ∧
          let page := pageOf free [(0, leBytes 1 s.dev.critByte), (1, leBytes 2 (s.dev.fld F.KNL_TEMP_TJ + 273))]
          (lpo.toNat ≤ page.length → d.hst.tx = s.dev.hst.tx ++ [.data t (slice page lpo.toNat len.toNat)] ∧ Ended s.dev d t stOk) ∧
          (page.length < lpo.toNat → d.hst.tx = s.dev.hst.tx ∧ Ended s.dev d t stInvalidField) ∧ d = { s.dev with hst := d.hst, cmds := d.cmds, free := d.free }) ∧
        (nsid.toNat ≠ 0 → nsid.toNat ≠ 0xFFFFFFFF → fails (.getLogSmartHealth t rae nsid lpo len) stInvalidField)) ∧
      (∀ lsp : Byte, (1 < lsp.toNat ∨ (s.dev.v = true ∧ lsp.toNat = 1)) → fails (.getLogFormatTables t rae lsp lpo len) stInvalidField)) ∧
    fails (.getLogInvalid t) (stOf 1 0x09)

/-- R304, R306, R308, R310, R323, R338, R343, R485, R490, R547: each Set Features command sets its feature for its controller alone, or ends with Invalid Field in Command where its value is none that it takes; Save is refused; Get Features reads
a feature back; and a power state asked for completes at once where the device is there already, and waits else. (Model choices in it: log entries 8, 34, 38, 43, 70.) -/
def Obligations.FeaturesAreSetAndRead : Prop :=
  ∀ (s : State) (t : Tag) (w : Word), s.dev.live 1 = true →
    let k := s.dev.ctrl t.ctrl
    let fails (i : Instr) (st : Status) : Prop := Gives i s fun d => Ended s.dev d t st ∧
      d.ctrl t.ctrl = { k with errCount := (d.ctrl t.ctrl).errCount, errors := (d.ctrl t.ctrl).errors } ∧ d = { s.dev with hst := d.hst, cmds := d.cmds, free := d.free }
    let sets (i : Instr) (k' : CtrlS) : Prop := Gives i s fun d => d.ctrl t.ctrl = k' ∧ (∀ c : Fin 2, c ≠ t.ctrl → d.ctrl c = s.dev.ctrl c) ∧ Ended s.dev d t stOk ∧
      d = { s.dev with hst := d.hst, cmds := d.cmds }
    (∀ i ∈ [Instr.setFeatureArbitration t true w, .setFeaturePowerMgmt t true w, .setFeatureTempThreshold t true w, .setFeatureWriteCache t true w,
        .setFeatureNumQueues t true w, .setFeatureIntCoalescing t true w, .setFeatureIntVectorCfg t true w, .setFeatureAsyncEventCfg t true w, .setFeatureHostBehavior t true w,
        .setFeatureOrderedQueue t true w], fails i (stOf 1 0x0D)) ∧
    (∀ p ∈ [(Instr.setFeatureArbitration t false w, { k with ab := getBits w 0 3 }), (.setFeatureWriteCache t false w, { k with wce := w.toNat.testBit 0 }),
        (.setFeatureIntCoalescing t false w, { k with coalThr := getBits w 0 8, coalTime := getBits w 8 8 }), (.setFeatureAsyncEventCfg t false w, { k with asyncCfg := w.toNat })],
      sets p.1 p.2) ∧
    (getBits w 16 4 = 0 →
      (getBits w 20 2 = 0 → sets (.setFeatureTempThreshold t false w) { k with tempOver := getBits w 0 16 }) ∧
      (getBits w 20 2 = 1 → sets (.setFeatureTempThreshold t false w) { k with tempUnder := getBits w 0 16 })) ∧
    ((getBits w 16 4 ≠ 0 ∨ 1 < getBits w 20 2) → fails (.setFeatureTempThreshold t false w) stInvalidField) ∧
    ((k.sqs.any (fun p => p.1 != 0) || k.cqs.any (fun p => p.1 != 0)) = true → fails (.setFeatureNumQueues t false w) (stOf 0 0x0C)) ∧
    ((k.sqs.any (fun p => p.1 != 0) || k.cqs.any (fun p => p.1 != 0)) = false →
      ((getBits w 0 16 = 65535 ∨ getBits w 16 16 = 65535) → fails (.setFeatureNumQueues t false w) stInvalidField) ∧
      (getBits w 0 16 ≠ 65535 → getBits w 16 16 ≠ 65535 → Gives (.setFeatureNumQueues t false w) s fun d =>
        Ended s.dev d t stOk ∧ ((∀ c, s.dev.cmd? t = some c → c.silent = false) → ∃ c ∈ d.hst.post, c.tag = t ∧ c.dw0 = 0x007F007F) ∧ d = { s.dev with hst := d.hst, cmds := d.cmds })) ∧
    (128 < getBits w 0 16 → fails (.setFeatureIntVectorCfg t false w) stInvalidField) ∧
    (getBits w 0 16 ≤ 128 → Gives (.setFeatureIntVectorCfg t false w) s fun d =>
      (d.ctrl t.ctrl).coalOff.contains (getBits w 0 16) = w.toNat.testBit 16 ∧ (∀ v, v ≠ getBits w 0 16 → (d.ctrl t.ctrl).coalOff.contains v = k.coalOff.contains v) ∧
      d.ctrl t.ctrl = { k with coalOff := (d.ctrl t.ctrl).coalOff } ∧ Ended s.dev d t stOk ∧ d = { s.dev with hst := d.hst, cmds := d.cmds }) ∧
    (getBits w 0 9 = 0 → sets (.setFeatureHostBehavior t false w) k) ∧
    (getBits w 0 9 ≠ 0 → fails (.setFeatureHostBehavior t false w) stInvalidField) ∧
    ((getBits w 0 16 = 0 ∨ k.sq (getBits w 0 16) = none) → fails (.setFeatureOrderedQueue t false w) stInvalidField) ∧
    (∀ x, getBits w 0 16 ≠ 0 → k.sq (getBits w 0 16) = some x → Gives (.setFeatureOrderedQueue t false w) s fun d =>
      (d.ctrl t.ctrl).sq (getBits w 0 16) = some { x with ordered := w.toNat.testBit 31 } ∧ (∀ j, j ≠ getBits w 0 16 → (d.ctrl t.ctrl).sq j = k.sq j) ∧
      d.ctrl t.ctrl = { k with sqs := (d.ctrl t.ctrl).sqs } ∧ Ended s.dev d t stOk ∧ d = { s.dev with hst := d.hst, cmds := d.cmds }) ∧
    (4 < getBits w 0 5 → fails (.setFeaturePowerMgmt t false w) stInvalidField) ∧
    (getBits w 0 5 ≤ 4 → Gives (.setFeaturePowerMgmt t false w) s fun d => (d.ctrl t.ctrl).psVote = getBits w 0 5 ∧
      (d.targetState = s.dev.pstate → s.dev.pwr.mv = none → Ended s.dev d t stOk) ∧
      ((d.targetState ≠ s.dev.pstate ∨ s.dev.pwr.mv ≠ none) → d.pwr.asking = s.dev.pwr.asking ++ [t] ∧ (d.cmd? t).isSome = true ∧ d.hst.post = s.dev.hst.post) ∧
      d = { s.dev with hst := d.hst, cmds := d.cmds, pwr := d.pwr, regs := d.regs }) ∧
    (∀ (fid : Byte) (arg : Word),
      (∀ v, s.dev.feature t.ctrl fid.toNat arg.toNat = some v → Gives (.getFeatures t fid 0 arg) s fun d => Ended s.dev d t stOk ∧
        ((∀ c, s.dev.cmd? t = some c → c.silent = false) → ∃ c ∈ d.hst.post, c.tag = t ∧ c.dw0 = v) ∧ d = { s.dev with hst := d.hst, cmds := d.cmds }) ∧
      (s.dev.feature t.ctrl fid.toNat arg.toNat = none → fails (.getFeatures t fid 0 arg) stInvalidField) ∧
      (∀ sel : Fin 8, sel ≠ 0 → fails (.getFeatures t fid sel arg) stInvalidField))

/-- R33, R323, R349: at most eight event requests wait, and one that finds an event waiting completes with it; Abort of a command that is not committed reports 0, and its target ends with Command Abort Requested, at
once if it has no DMA descriptor out; Abort of any other reports 1, its completion after that of its target; and Abort is refused where four are outstanding. (Model choices in it: log entries 8, 34, 37, 43.) -/
def Obligations.EventRequestsAndAborts : Prop :=
  (∀ (s : State) (t : Tag), s.dev.live 1 = true →
    let k := s.dev.ctrl t.ctrl
    (8 ≤ k.aers.length → Gives (.asyncEventRequest t) s fun d => Ended s.dev d t (stOf 1 0x05) ∧ (d.ctrl t.ctrl).aers = k.aers ∧ d = { s.dev with hst := d.hst, cmds := d.cmds, free := d.free }) ∧
    (k.aers.length < 8 → k.aens = [] → Gives (.asyncEventRequest t) s fun d => d.ctrl t.ctrl = { k with aers := k.aers ++ [t] } ∧ d.hst.post = s.dev.hst.post ∧ d.cmd? t = none ∧
      d = { s.dev with hst := d.hst, cmds := d.cmds }) ∧
    (∀ e r, k.aers.length < 8 → k.aens = e :: r → Gives (.asyncEventRequest t) s fun d => d.ctrl t.ctrl = { k with aens := r, masked := e :: k.masked } ∧ d.cmd? t = none ∧
      d.hst.post = s.dev.hst.post ++ [{ tag := t, st := stOk, dw0 := e.ty + e.info * 256 + e.page * 65536 }] ∧ d = { s.dev with hst := d.hst, cmds := d.cmds })) ∧
  (∀ (s : State) (t : Tag) (sqid cid : BitVec 16), s.dev.live 1 = true →
    let g : Tag := ⟨t.ctrl, sqid.toNat, cid.toNat⟩
    let out := (s.dev.hst.post.filter fun p => decide (p.tag.ctrl = t.ctrl) && p.after.isSome).length
    let shows (d : Dev) (v : Nat) : Prop := (∀ c, s.dev.cmd? t = some c → c.silent = false) → ∃ c ∈ d.hst.post, c.tag = t ∧ c.dw0 = v
    (s.dev.load.minimal = true → Gives (.abort t sqid cid) s fun d => Ended s.dev d t stSequence ∧ d = { s.dev with hst := d.hst, cmds := d.cmds, free := d.free }) ∧
    (s.dev.load.minimal = false →
      (4 ≤ out → Gives (.abort t sqid cid) s fun d => Ended s.dev d t (stOf 1 0x03) ∧ d = { s.dev with hst := d.hst, cmds := d.cmds, free := d.free }) ∧
      (out < 4 →
        (∀ c, s.dev.cmd? g = some c →
          ((g = t ∨ c.silent = true) → Gives (.abort t sqid cid) s fun d => Ended s.dev d t stOk ∧ shows d 1 ∧ d = { s.dev with hst := d.hst, cmds := d.cmds }) ∧
          (g ≠ t → c.silent = false →
            (c.isCommitted = true → Gives (.abort t sqid cid) s fun d =>
              d.hst.post = s.dev.hst.post ++ [{ tag := t, st := stOk, dw0 := 1, after := some g }] ∧ d.cmd? g = some c ∧ d.cmd? t = none ∧
              d = { s.dev with hst := d.hst, cmds := d.cmds }) ∧
            (c.isCommitted = false → Gives (.abort t sqid cid) s fun d =>
              (∃ l, d.hst.post = l ++ [{ tag := t, st := stOk, dw0 := 0, after := some g }]) ∧ d.cmd? t = none ∧ (c.desc = 0 → d.cmd? g = none) ∧
              (d.cmd? g = none → ∃ p ∈ d.hst.post, p.tag = g ∧ p.st = stAborted) ∧ (∀ c', d.cmd? g = some c' → c'.quit = some (stAborted, 0)) ∧
              d.ch = s.dev.ch ∧ d.wrp = s.dev.wrp ∧ d.srv = s.dev.srv ∧ d.spn = s.dev.spn))) ∧
        (s.dev.cmd? g = none →
          ((∃ p ∈ s.dev.hst.post, p.tag = g) → Gives (.abort t sqid cid) s fun d =>
            d.hst.post = s.dev.hst.post ++ [{ tag := t, st := stOk, dw0 := 1, after := some g }] ∧ d.cmd? t = none ∧ d = { s.dev with hst := d.hst, cmds := d.cmds }) ∧
          ((∀ p ∈ s.dev.hst.post, p.tag ≠ g) → Gives (.abort t sqid cid) s fun d => Ended s.dev d t stOk ∧ shows d 1 ∧ d = { s.dev with hst := d.hst, cmds := d.cmds })))))

/-! ## Namespaces, keys, firmware, logbook -/

/-- R4: on the EO7230 a Namespace Layout that names actuator 1, and with it a head from H10 to H19, fails with Invalid Field in Command and creates nothing. -/
def Obligations.LayoutOnAnAbsentActuatorFails : Prop :=
  ∀ (s : State) (t : Tag) (w10 w11 w12 : Word), s.dev.live 1 = true → s.dev.load.minimal = false → s.dev.v = true → w10.toNat.testBit 0 = true →
    Gives (.namespaceLayout t w10 w11 w12) s fun d =>
      Ended s.dev d t stInvalidField ∧ d.zne = s.dev.zne ∧ (d.ctrl t.ctrl).layout = (s.dev.ctrl t.ctrl).layout ∧ d = { s.dev with hst := d.hst, cmds := d.cmds, free := d.free }

/-- R327 to R330, R470, Table 12.5: a layout that passes the checks is staged, and a create makes the namespace of it, every zone Empty, with the lowest free NSID; attachment follows the controller list; a delete detaches at once,
waits while a command of the namespace is in flight, and then takes its sectors, zones and key away (said where no other namespace is leaving); what a check refuses ends with its status, and every such command with Command
Sequence Error without an image. (Model choices in it: log entries 8, 10, 34, 39, 40, 43, 70.) -/
def Obligations.NamespacesAreMadeAttachedAndDeleted : Prop :=
  ∀ (s : State) (t : Tag), s.dev.live 1 = true →
    let k := s.dev.ctrl t.ctrl
    let fails (i : Instr) (st : Status) : Prop := Gives i s fun d => Ended s.dev d t st ∧ (d.ctrl t.ctrl).layout = k.layout ∧ d = { s.dev with hst := d.hst, cmds := d.cmds, free := d.free }
    let unmade (nsze ncap : BitVec 64) (st : Status) : Prop := Gives (.namespaceCreate t nsze ncap) s fun d =>
      Ended s.dev d t st ∧ (d.ctrl t.ctrl).layout = none ∧ d = { s.dev with hst := d.hst, cmds := d.cmds, free := d.free }
    (s.dev.load.minimal = true → ∀ (w10 w11 w12 : Word) (nsze ncap : BitVec 64) (ids : List (BitVec 16)), ∀ i ∈ [Instr.namespaceLayout t w10 w11 w12, .namespaceCreate t nsze ncap,
      .namespaceDelete t w10, .namespaceAttach t w10 ids, .namespaceDetach t w10 ids], fails i stSequence) ∧
    (s.dev.load.minimal = false →
      (∀ w10 w11 w12 : Word,
        let r := regionOf w10.toNat w11.toNat w12.toNat
        (s.dev.layoutCheck w10.toNat r = none → Gives (.namespaceLayout t w10 w11 w12) s fun d => d.ctrl t.ctrl = { k with layout := some r } ∧ Ended s.dev d t stOk ∧
          ((∀ c, s.dev.cmd? t = some c → c.silent = false) → ∃ c ∈ d.hst.post, c.tag = t ∧ c.dw0 = s.dev.zonesIn r) ∧ d = { s.dev with hst := d.hst, cmds := d.cmds }) ∧
        (∀ st, s.dev.layoutCheck w10.toNat r = some st → fails (.namespaceLayout t w10 w11 w12) st)) ∧
      (∀ nsze ncap : BitVec 64,
        (k.layout = none → fails (.namespaceCreate t nsze ncap) stInvalidField) ∧
        (∀ r, k.layout = some r →
          let zones := s.dev.zonesIn r
          let id := (List.range 65).find? fun i => decide (1 ≤ i) && (s.dev.ns? i).isNone
          let sized := (nsze.toNat = 0 ∨ nsze.toNat = zones * r.zs) ∧ (ncap.toNat = 0 ∨ ncap.toNat = zones * r.zs)
          (¬sized → unmade nsze ncap stInvalidField) ∧
          (sized → id = none → unmade nsze ncap (stOf 1 0x16)) ∧
          (sized → id ≠ none → s.dev.freeContexts zones = none → unmade nsze ncap (stOf 1 0x15)) ∧
          (sized → ∀ i ctx, id = some i → s.dev.freeContexts zones = some ctx →
            ((∃ n ∈ s.dev.zne.nss, regionsMeet r n.reg = true) → unmade nsze ncap (stOf 7 0xC5)) ∧
            ((∀ n ∈ s.dev.zne.nss, regionsMeet r n.reg = false) → Gives (.namespaceCreate t nsze ncap) s fun d =>
              d.zne.nss = s.dev.zne.nss ++ [{ nsid := i, reg := r, ctx := ctx, zones := zones, key := if r.enc then .ready else .unencrypted }] ∧
              (∃ g, ∀ z, z < zones → d.zctx (ctx + z) = { nsx := i - 1, gen := g, stamp := s.dev.now }) ∧
              (r.enc = true → ∃ x, d.sec.keys.get (fun _ => none) (i - 1) = some x ∧ d.sec.wrapped.get (fun _ => none) (i - 1) = some (Config.wrap x)) ∧
              (d.ctrl t.ctrl).layout = none ∧ Ended s.dev d t stOk ∧ d.ch = s.dev.ch ∧ d.wrp = s.dev.wrp ∧ d.srv = s.dev.srv ∧ d.buf = s.dev.buf ∧ d.dma = s.dev.dma)))) ∧
      (∀ (nsid : Word) (ids : List (BitVec 16)),
        (s.dev.ns? nsid.toNat = none → fails (.namespaceDelete t nsid) stInvalidNs ∧ fails (.namespaceAttach t nsid ids) stInvalidNs ∧ fails (.namespaceDetach t nsid ids) stInvalidNs) ∧
        (∀ n, s.dev.ns? nsid.toNat = some n →
          ((∀ cs, s.dev.ctrlIds ids = some cs → cs = []) → fails (.namespaceAttach t nsid ids) (stOf 1 0x1C) ∧ fails (.namespaceDetach t nsid ids) (stOf 1 0x1C)) ∧
          (∀ cs, s.dev.ctrlIds ids = some cs → cs ≠ [] →
            (n.leaving ≠ none → fails (.namespaceAttach t nsid ids) stInvalidNs) ∧
            (n.leaving = none → (∃ c ∈ cs, n.attached c = true) → fails (.namespaceAttach t nsid ids) (stOf 1 0x18)) ∧
            (n.leaving = none → (∀ c ∈ cs, n.attached c = false) → Gives (.namespaceAttach t nsid ids) s fun d =>
              (∃ m, d.ns? nsid.toNat = some m ∧ (∀ c, m.attached c = (n.attached c || decide (c ∈ cs))) ∧ m = { n with att0 := m.att0, att1 := m.att1 }) ∧
              (∀ c ∈ cs, nsid.toNat ∈ (d.ctrl c).changed) ∧ Ended s.dev d t stOk ∧ d = { s.dev with hst := d.hst, cmds := d.cmds, zne := { s.dev.zne with nss := d.zne.nss } }) ∧
            ((∃ c ∈ cs, n.attached c = false) → fails (.namespaceDetach t nsid ids) (stOf 1 0x1A)) ∧
            ((∀ c ∈ cs, n.attached c = true) → Gives (.namespaceDetach t nsid ids) s fun d =>
              (∃ m, d.ns? nsid.toNat = some m ∧ (∀ c, m.attached c = (n.attached c && !decide (c ∈ cs))) ∧ m = { n with att0 := m.att0, att1 := m.att1 }) ∧
              (∀ c ∈ cs, nsid.toNat ∈ (d.ctrl c).changed) ∧ Ended s.dev d t stOk ∧ d = { s.dev with hst := d.hst, cmds := d.cmds, zne := { s.dev.zne with nss := d.zne.nss } })) ∧
          (n.leaving ≠ none → fails (.namespaceDelete t nsid) stInvalidNs) ∧
          ((∀ m ∈ s.dev.zne.nss, m.leaving = none) →
            (s.dev.nsBusy n.nsid t = true → Gives (.namespaceDelete t nsid) s fun d =>
              (∃ m, d.ns? nsid.toNat = some m ∧ m.att0 = false ∧ m.att1 = false ∧ m.leaving = some t) ∧ (d.cmd? t).isSome = true ∧
              d = { s.dev with hst := d.hst, cmds := d.cmds, zne := { s.dev.zne with nss := d.zne.nss } }) ∧
            (s.dev.nsBusy n.nsid t = false → Gives (.namespaceDelete t nsid) s fun d =>
              d.ns? nsid.toNat = none ∧ (∀ c ∈ d.zne.cache, c.nsid ≠ nsid.toNat) ∧ d.sec.keys.get (fun _ => none) (nsid.toNat - 1) = none ∧
              d.sec.wrapped.get (fun _ => none) (nsid.toNat - 1) = none ∧ Ended s.dev d t stOk ∧ d.ch = s.dev.ch ∧ d.wrp = s.dev.wrp ∧ d.srv = s.dev.srv ∧ d.dma = s.dev.dma)))))

/-- R352, R353, R470: a crypto erase of an encrypted namespace waits for the commands of the namespace; with none in flight it gives it a fresh key, drops its cached sectors and empties its zones (said where no other
namespace is leaving); any other ends with Invalid Field; the key states are reported without the keys, and the protocols are 0x00 and 0xEA. (Model choices in it: log entries 6, 8, 34, 40, 43, 70.) -/
def Obligations.KeysAreErasedAndReported : Prop :=
  ∀ (s : State) (t : Tag), s.dev.live 1 = true →
    let fails (i : Instr) (st : Status) : Prop := Gives i s fun d => Ended s.dev d t st ∧ d = { s.dev with hst := d.hst, cmds := d.cmds, free := d.free }
    (s.dev.load.minimal = true → ∀ w : Word, ∀ i ∈ [Instr.cryptoErase t w, .keyStateReceive t w, .securityProtocolList t w], fails i stSequence) ∧
    (s.dev.load.minimal = false →
      (∀ (nsid : Word) (n : Ns), s.dev.ns? nsid.toNat = some n →
        ((n.leaving ≠ none ∨ n.key = .unencrypted) → fails (.cryptoErase t nsid) stInvalidField) ∧
        ((∀ m ∈ s.dev.zne.nss, m.leaving = none) → n.key ≠ .unencrypted →
          (s.dev.nsBusy n.nsid t = true → Gives (.cryptoErase t nsid) s fun d => d.ns? nsid.toNat = some { n with leaving := some t } ∧ (d.cmd? t).isSome = true ∧
            d = { s.dev with cmds := d.cmds, zne := { s.dev.zne with nss := d.zne.nss } }) ∧
          (s.dev.nsBusy n.nsid t = false → Gives (.cryptoErase t nsid) s fun d =>
            d.ns? nsid.toNat = some { n with key := .ready } ∧ (∃ x, d.sec.keys.get (fun _ => none) (nsid.toNat - 1) = some x ∧
              d.sec.wrapped.get (fun _ => none) (nsid.toNat - 1) = some (Config.wrap x)) ∧
            (∀ c ∈ d.zne.cache, c.nsid ≠ nsid.toNat) ∧ (∀ z, z < n.zones → (d.zctx (n.ctx + z)).cond = .empty ∧ (d.zctx (n.ctx + z)).wp = 0) ∧ Ended s.dev d t stOk ∧
            d.ch = s.dev.ch ∧ d.wrp = s.dev.wrp ∧ d.srv = s.dev.srv ∧ d.dma = s.dev.dma))) ∧
      (∀ nsid : Word, s.dev.ns? nsid.toNat = none → fails (.cryptoErase t nsid) stInvalidField) ∧
      (∀ len : Word, Gives (.keyStateReceive t len) s (fun d => (∃ b : Bytes, d.hst.tx = s.dev.hst.tx ++ [.data t (b.take len.toNat)] ∧ b.length = 512 ∧
          ∀ i, i < 64 → slice b (8 * i) 8 = match s.dev.ns? (i + 1) with
            | some n => leBytes 4 (i + 1) ++ [BitVec.ofNat 8 (keyCode n.key)] ++ [0, 0, 0]
            | none => List.replicate 8 0) ∧ Ended s.dev d t stOk ∧ d = { s.dev with hst := d.hst, cmds := d.cmds }) ∧
        Gives (.securityProtocolList t len) s (fun d => d.hst.tx = s.dev.hst.tx ++ [.data t (([0, 0, 0, 0, 0, 0, 0, 2, 0x00, 0xEA] : Bytes).take len.toNat)] ∧
          Ended s.dev d t stOk ∧ d = { s.dev with hst := d.hst, cmds := d.cmds })))

/-- R478 to R480: a piece of an image is programmed into the copy that is not loaded, and ends with Success or, where the flash refuses a word, Internal Error; one that is not aligned, of another controller's download, without its
first piece or over another piece is refused, and a first piece waits while an execution is open; a commit proves the copy, and one that activates programs the activation word if it is blank and asks for a reset; a slot that
holds the loaded copy is invalid. (Model choices in it: log entries 8, 34, 41, 43, 49.) -/
def Obligations.FirmwareIsDownloadedAndCommitted : Prop :=
  ∀ (s : State) (t : Tag), s.dev.live 1 = true →
    let fails (i : Instr) (st : Status) : Prop := Gives i s fun d => Ended s.dev d t st ∧ d = { s.dev with hst := d.hst, cmds := d.cmds, free := d.free }
    let blank := s.dev.flag F.FLC_STAT_READY = true ∧ s.dev.flag F.FLC_STAT_FAILED = false ∧ s.dev.flag F.FLC_STAT_EXEC = false ∧
      (∀ b, (s.dev.bank b).suspended = false) ∧ ∀ y, s.dev.xoRegion y = none
    (∀ (ofs : BitVec 34) (piece : Bytes),
      let wrong := ofs.toNat % 4096 ≠ 0 ∨ piece.length % 32 ≠ 0 ∨ piece.length = 0 ∨ 10485728 < ofs.toNat + piece.length
      (wrong → fails (.firmwareImageDownload t ofs piece) stInvalidField) ∧
      (¬wrong →
        ((∃ x, s.dev.dl = some x ∧ x.ctrl ≠ t.ctrl) → fails (.firmwareImageDownload t ofs piece) stOverlap) ∧
        (ofs ≠ 0 → s.dev.dl = none → fails (.firmwareImageDownload t ofs piece) stOverlap) ∧
        (∀ x, ofs ≠ 0 → s.dev.dl = some x → (∃ p ∈ x.pieces, p.1 < ofs.toNat + piece.length ∧ ofs.toNat < p.1 + p.2) → fails (.firmwareImageDownload t ofs piece) stOverlap) ∧
        (ofs = 0 → (∀ x, s.dev.dl = some x → x.ctrl = t.ctrl) →
          (s.dev.flag F.FLC_STAT_EXEC = true → Gives (.firmwareImageDownload t ofs piece) s fun d => d = s.dev) ∧
          (s.dev.flag F.FLC_STAT_EXEC = false → Gives (.firmwareImageDownload t ofs piece) s fun d =>
            d.dl = some { ctrl := t.ctrl, pieces := [(0, piece.length)] } ∧ (Ended s.dev d t stOk ∨ Ended s.dev d t (stOf 0 0x06)) ∧
            d.zne = s.dev.zne ∧ d.buf = s.dev.buf ∧ d.dma = s.dev.dma ∧ d.wrp = s.dev.wrp)) ∧
        (∀ x, ofs ≠ 0 → s.dev.dl = some x → x.ctrl = t.ctrl → (∀ p ∈ x.pieces, p.1 + p.2 ≤ ofs.toNat ∨ ofs.toNat + piece.length ≤ p.1) →
          Gives (.firmwareImageDownload t ofs piece) s fun d =>
            d.dl = some { ctrl := t.ctrl, pieces := x.pieces ++ [(ofs.toNat, piece.length)] } ∧ (Ended s.dev d t stOk ∨ Ended s.dev d t (stOf 0 0x06)) ∧
            (blank → (∀ i, i < piece.length / 32 → s.dev.fword (imgBase s.dev.targetCopy + ofs.toNat / 32 + i) = .erased) →
              (∀ i, i < piece.length / 32 → d.fword (imgBase s.dev.targetCopy + ofs.toNat / 32 + i) = .prog (slice piece (32 * i) 32)) ∧ Ended s.dev d t stOk ∧
              d = { s.dev with hst := d.hst, cmds := d.cmds, dl := d.dl, cnt := d.cnt, flc := { s.dev.flc with words := d.flc.words } })))) ∧
    (∀ fs : Fin 8, let cas := [Instr.firmwareCommitCa0 t fs, .firmwareCommitCa1 t fs, .firmwareCommitCa2 t fs]
      (s.dev.commitCopy fs.val = none → ∀ i ∈ cas, fails i (stOf 1 0x06)) ∧
      ((∃ k, s.dev.loadedCopy = some k ∧ fs.val = k + 1) → ∀ i ∈ cas, fails i (stOf 1 0x06)) ∧
      (∀ k, s.dev.commitCopy fs.val = some k →
        (s.dev.commitGen k = none → ∀ i ∈ cas, fails i (stOf 1 0x07)) ∧
        (∀ g, s.dev.commitGen k = some g →
          Gives (.firmwareCommitCa0 t fs) s (fun d => Ended s.dev d t stOk ∧ d = { s.dev with hst := d.hst, cmds := d.cmds }) ∧
          (s.dev.fword (imgAct k) ≠ .erased → ∀ i ∈ cas.drop 1, fails i (stOf 1 0x10)) ∧
          (s.dev.fword (imgAct k) = .erased →
            (∀ i ∈ cas.drop 1, Gives i s fun d => Ended s.dev d t (stOf 1 0x10) ∨ (Ended s.dev d t (stOf 0 0x06) ∧ d.flc = s.dev.flc)) ∧
            (blank → ∀ i ∈ cas.drop 1, Gives i s fun d => d.fword (imgAct k) = .prog (actWord g) ∧ (∀ w, w ≠ imgAct k → d.fword w = s.dev.fword w) ∧ Ended s.dev d t (stOf 1 0x10) ∧
              d = { s.dev with hst := d.hst, cmds := d.cmds, free := d.free, cnt := d.cnt, flc := { s.dev.flc with words := d.flc.words } }))))) ∧
    (∀ ca : Fin 8, (2 < ca.val → fails (.firmwareCommitOther t ca) stInvalidField) ∧ (ca.val ≤ 2 → Gives (.firmwareCommitOther t ca) s fun d => d = s.dev))

/-- R37, R52, R247, R511, R515, R516, R518, R519, R522, R523: LOG, once it is ready, takes the first event of its pool: its bucket admits it under the next SEQ (nothing is written to a block that cannot be mended), or suppresses it, and one with wrong parity is flagged as a fault besides; a bucket that is due
gains a token and reports what it suppressed; a flush that may go writes a batch, and FLUSHED moves only with a batch closed by END; the epoch exceeds that of every record found; a read returns records from the first wanted on. (Model choices in it: log entries 8, 10, 11, 14, 41, 43, 68, 70.) -/
def Obligations.LogbookAdmitsFlushesAndReads : Prop :=
  (∀ (s : State) (bad : Bool) (sram : SramBits), s.dev.live 0 = true →
    ((s.dev.log.inq = [] ∨ s.dev.flag F.LOG_STAT_READY = false ∨ s.dev.poolOpen .log 0 = false) → Gives (.logEventAccept bad sram) s fun d => d = s.dev) ∧
    (∀ e r, s.dev.log.inq = e :: r → s.dev.flag F.LOG_STAT_READY = true → s.dev.poolOpen .log 0 = true →
      let b := bucketOf e.code
      let quiet := bad = false ∧ sramRead sram = .ok ∧ ¬(s.dev.flag F.LOG_INJECT_ARM = true ∧ s.dev.fld F.LOG_INJECT_KIND = 0) ∧ s.dev.log.opened = none
      (bad = true → Gives (.logEventAccept bad sram) s fun d => d.flag (fFBIT .log 0) = true ∧ ∃ l, d.log.inq = r ++ l) ∧
      ((s.dev.fld (F.LOG_BUCKET_DEPTH b) = 0 ∨ freeCode e.code = true ∨ 1 ≤ s.dev.fld (F.LOG_BSTAT_TOKENS b)) → Gives (.logEventAccept bad sram) s fun d =>
        (∃ l, d.log.inq = r ++ l) ∧ ((∃ blk pat, sramRead sram = .uncorrectable blk pat) → d.log.recs = s.dev.log.recs ∧ d.log.count = s.dev.log.count) ∧
        ((∀ blk pat, sramRead sram ≠ .uncorrectable blk pat) → d.log.recs.get (fun _ => none) (s.dev.log.count % 32768) = some { seq := s.dev.log.head, ev := e } ∧ d.log.count = s.dev.log.count + 1) ∧
        (s.dev.fld (F.LOG_BUCKET_DEPTH b) ≠ 0 → freeCode e.code = false → d.fld (F.LOG_BSTAT_TOKENS b) + 1 = s.dev.fld (F.LOG_BSTAT_TOKENS b)) ∧
        (quiet → d.log.inq = r ∧ d = { s.dev with log := d.log, regs := d.regs, cnt := d.cnt, hst := d.hst, bg := d.bg })) ∧
      (s.dev.fld (F.LOG_BUCKET_DEPTH b) ≠ 0 → freeCode e.code = false → s.dev.fld (F.LOG_BSTAT_TOKENS b) = 0 → Gives (.logEventAccept bad sram) s fun d =>
        (∃ l, d.log.inq = r ++ l) ∧ d.log.recs = s.dev.log.recs ∧ d.log.count = s.dev.log.count ∧ (d.bucket b).last = e.code ∧
        (quiet → d.log.inq = r ∧ d = { s.dev with log := d.log, regs := d.regs, cnt := d.cnt })))) ∧
  (∀ (s : State) (b : Fin 4096), s.dev.live 0 = true →
    let t := s.dev.fld (F.LOG_BSTAT_TOKENS b.val)
    let due := (s.dev.bucket b.val).clock + s.dev.fld (F.LOG_BUCKET_REFILL_MS b.val) * 1000000
    let n := s.dev.fld (F.LOG_BSTAT_SUPPRESSED b.val)
    ((s.dev.fld (F.LOG_BUCKET_DEPTH b.val) ≤ t ∨ s.dev.now < due) → Gives (.bucketRefill b) s fun d => d = s.dev) ∧
    (t < s.dev.fld (F.LOG_BUCKET_DEPTH b.val) → due ≤ s.dev.now → Gives (.bucketRefill b) s fun d =>
      d.fld (F.LOG_BSTAT_TOKENS b.val) = t + 1 ∧ d.fld (F.LOG_BSTAT_SUPPRESSED b.val) = 0 ∧ (d.bucket b.val).clock = due ∧
      (n = 0 → d = { s.dev with log := { s.dev.log with buckets := d.log.buckets }, regs := d.regs }) ∧
      (n ≠ 0 → d.log.count = s.dev.log.count + 1 ∧ (∃ e, d.log.recs.get (fun _ => none) (s.dev.log.count % 32768) = some { seq := s.dev.log.head, ev := e } ∧ e.code = 0x1301 ∧ e.p2 = n) ∧
        (s.dev.log.opened = none → ¬(s.dev.flag F.LOG_INJECT_ARM = true ∧ s.dev.fld F.LOG_INJECT_KIND = 0) → d = { s.dev with log := d.log, regs := d.regs, cnt := d.cnt, hst := d.hst, bg := d.bg })))) ∧
  (∀ (s : State), s.dev.live 0 = true →
    (s.dev.log.flushReq = none → Gives .logFlushBatch s fun d => d = s.dev) ∧
    (∀ cause, s.dev.log.flushReq = some cause →
      ((s.dev.flushGrantable cause = false ∨ s.dev.log.opened ≠ none) → Gives .logFlushBatch s fun d => d = s.dev) ∧
      (s.dev.flushGrantable cause = true → s.dev.log.opened = none →
        (s.dev.flag F.LOG_STAT_FLASH_OFF = true → Gives .logFlushBatch s fun d => d.log = { s.dev.log with flushReq := none } ∧ d = { s.dev with log := d.log, bg := d.bg }) ∧
        (s.dev.flag F.LOG_STAT_FLASH_OFF = false → Gives .logFlushBatch s fun d =>
          d.log.flushReq = none ∧ d.log.batch = s.dev.log.batch + 1 ∧ d.log.recs = s.dev.log.recs ∧ d.log.count = s.dev.log.count ∧ (cause ≠ 2 → d.log.opened = none) ∧
          (s.dev.flag F.FLC_STAT_READY = true → s.dev.flag F.FLC_STAT_FAILED = true → d.log.flushed = s.dev.log.flushed ∧ d.flag F.LOG_STAT_FLASH_OFF = true) ∧
          (s.dev.flag F.LOG_INJECT_ARM = true → s.dev.fld F.LOG_INJECT_KIND = 1 → d.log.flushed = s.dev.log.flushed) ∧
          (let rs := s.dev.recRange (max s.dev.log.flushed (s.dev.log.count - 32768)) s.dev.log.count
           cause ≠ 2 → ¬(s.dev.flag F.LOG_INJECT_ARM = true ∧ s.dev.fld F.LOG_INJECT_KIND = 1) → s.dev.flag F.FLC_STAT_READY = true → s.dev.flag F.FLC_STAT_FAILED = false →
            s.dev.flag F.FLC_STAT_EXEC = false → (∀ b, (s.dev.bank b).suspended = false) → (∀ y, s.dev.xoRegion y = none) → (∀ w, s.dev.fword w = .erased) → rs.length ≤ 32766 →
            d.log.flushed = max s.dev.log.flushed (s.dev.log.count - 32768) + rs.length) ∧
          d.zne = s.dev.zne ∧ d.buf = s.dev.buf ∧ d.dma = s.dev.dma ∧ d.cmds = s.dev.cmds))) ∧
    (s.dev.flag F.FLC_STAT_READY = true → s.dev.flag F.LOG_STAT_READY = false → Gives .logEpochScan s fun d =>
      d.flag F.LOG_STAT_READY = true ∧ d.log.count = 0 ∧ d.log.flushed = 0 ∧ (∀ b ∈ s.dev.flashRecords 0 ++ s.dev.flashRecords 1, leAt b 0 8 / 2 ^ 40 < d.log.kepoch) ∧
      d.zne = s.dev.zne ∧ d.buf = s.dev.buf ∧ d.dma = s.dev.dma ∧ d.cmds = s.dev.cmds) ∧
    ((s.dev.flag F.FLC_STAT_READY = false ∨ s.dev.flag F.LOG_STAT_READY = true) → Gives .logEpochScan s fun d => d = s.dev)) ∧
  (∀ (s : State) (t : Tag) (cdw10 numr : Word) (first : BitVec 64) (len : Nat), s.dev.live 0 = true →
    let wrong := cdw10.toNat / 4 ≠ 0 ∨ numr.toNat = 0 ∨ 32768 < numr.toNat ∨ len < 32 * numr.toNat
    (wrong → Gives (.logbookRead t cdw10 numr first len) s fun d => Ended s.dev d t stInvalidField ∧ d = { s.dev with hst := d.hst, cmds := d.cmds, free := d.free }) ∧
    (¬wrong → Gives (.logbookRead t cdw10 numr first len) s fun d =>
      (∃ out : List Bytes, d.hst.tx = s.dev.hst.tx ++ [.data t out.flatten] ∧
        out = ((if cdw10.toNat % 2 = 0 then (s.dev.recRange (s.dev.log.count - 32768) s.dev.log.count).map recBytes
          else (s.dev.flashRecords 0 ++ s.dev.flashRecords 1).foldl (fun l r => insertRec r l) []).filter fun r => decide (first.toNat ≤ leAt r 0 8)).take numr.toNat ∧
        ((∀ c, s.dev.cmd? t = some c → c.silent = false) → ∃ c ∈ d.hst.post, c.tag = t ∧ c.st = stOk ∧ c.dw0 = out.length)) ∧ Ended s.dev d t stOk ∧
      (cdw10.toNat / 2 % 2 = 1 → ∀ (c : Fin 2), ∀ e ∈ (d.ctrl c).masked, e.info ≠ 0xE0) ∧ d = { s.dev with hst := d.hst, cmds := d.cmds }))

/-! ## I/O commands, zones, commits -/

/-- R30, R329, R334, R470, R486, Table 12.4: an I/O command ends with Command Sequence Error without an image, waits in a non-operational state, where the vote returns to the last operational one, and ends with its status where the namespace is not
there, its key is unusable or the buffer or zone engine is not ready; a read of sectors that lie at or above WP is zeros at once; one of sectors on the media is recorded and waits for them, or ends with Unrecovered Read
Error where the actuator has failed; a cached sector is posted to DMA; a range beyond the capacity and a wrong address list are refused. (Model choices in it: log entries 8, 32, 33, 34, 38, 42, 43, 44, 65, 70.) -/
def Obligations.ReadsComeFromZerosOrMedia : Prop :=
  (∀ (s : State) (t : Tag) (w len : Word) (x : BitVec 64) (y : BitVec 16) (fua all part : Bool) (segs : List (Nat × Nat)) (buf : Nat) (opt : Byte), s.dev.live 1 = true →
    let onNs := [Instr.nvmRead t w x y segs, .nvmWrite t w x y fua segs buf, .writeZeroes t w x y fua, .zoneAppend t w x y fua segs buf, .zoneClose t w x all, .zoneOpen t w x all,
      .zoneReset t w x all, .zoneFinish t w x all, .zoneOffline t w, .reportZones t w x opt part len] ++ (if w.toNat = 0xFFFFFFFF then [] else [.nvmFlush t w])
    let fails (i : Instr) (st : Status) : Prop := Gives i s fun d => Ended s.dev d t st ∧ d = { s.dev with hst := d.hst, cmds := d.cmds, free := d.free }
    (∀ i ∈ onNs ++ [.nvmFlush t w, .setZoneDescExt t, .extendedReportZones t],
      (s.dev.load.minimal = true → fails i stSequence) ∧
      (s.dev.load.minimal = false → 2 ≤ s.dev.pstate → Gives i s fun d => (d.ctrl t.ctrl).psVote = (s.dev.ctrl t.ctrl).lastOp ∧ d.hst.post = s.dev.hst.post ∧
        d = { s.dev with hst := d.hst, pwr := d.pwr, regs := d.regs })) ∧
    (s.dev.load.minimal = false → s.dev.pstate < 2 → ∀ i ∈ onNs,
      (s.dev.ns? w.toNat = none → fails i stInvalidNs) ∧
      (∀ n, s.dev.ns? w.toNat = some n →
        (n.attached t.ctrl = false → fails i stInvalidNs) ∧
        (n.attached t.ctrl = true → n.key = .unusable → fails i (stNotReady true)) ∧
        (n.attached t.ctrl = true → n.key ≠ .unusable → (s.dev.flag F.BUF_STAT_READY = false ∨ s.dev.flag F.ZNE_STAT_READY = false) → fails i (stNotReady false))))) ∧
  (∀ (s : State) (t : Tag) (nsid : Word) (slba : BitVec 64) (nlb0 : BitVec 16) (segs : List (Nat × Nat)) (n : Ns), IoReady s.dev t nsid.toNat n →
    let nlb := nlb0.toNat + 1
    let src (i : Nat) : Source := s.dev.sourceOf n (slba.toNat + i)
    let wp (i : Nat) : Nat := (s.dev.zctx (n.ctx + (slba.toNat + i) / n.zs)).wp
    let media := (List.range nlb).filter fun i => src i == .media
    let fails (st : Status) : Prop := Gives (.nvmRead t nsid slba nlb0 segs) s fun d => Ended s.dev d t st ∧ d.hst.tx = s.dev.hst.tx ∧ d = { s.dev with hst := d.hst, cmds := d.cmds, free := d.free }
    (n.cap < slba.toNat + nlb → fails (stOf 0 0x80)) ∧
    (slba.toNat + nlb ≤ n.cap → (512 < nlb ∨ segLines segs ≠ 32 * nlb) → fails stInvalidField) ∧
    (slba.toNat + nlb ≤ n.cap → nlb ≤ 512 → segLines segs = 32 * nlb →
      (media ≠ [] → s.dev.actuatorFailed n.reg.a = true → fails ⟨2, 0x81, true⟩) ∧
      ((media = [] ∨ s.dev.actuatorFailed n.reg.a = false) → (∀ i c, i < nlb → src i ≠ .cache c) → Gives (.nvmRead t nsid slba nlb0 segs) s fun d =>
        d.hst.tx = s.dev.hst.tx ++ List.replicate (nlb - media.length) (.data t (List.replicate 4096 0)) ∧ (media = [] → Ended s.dev d t stOk) ∧
        (media ≠ [] → d.hst.post = s.dev.hst.post ∧ d.cmd? t = some { tag := t, kind := .read, nsid := n.nsid, slba := slba.toNat, nlb := nlb, segs := segs, started := s.dev.now
                                                                      need := media.map fun i => secKey n.nsid (slba.toNat + i) }) ∧ d = { s.dev with hst := d.hst, cmds := d.cmds }) ∧
      (∀ i, i < nlb → s.dev.cached n.nsid (slba.toNat + i) = none → (s.dev.zctx (n.ctx + (slba.toNat + i) / n.zs)).finAt = none →
        src i = if wp i ≤ (slba.toNat + i) % n.zs then .zeros else .media) ∧
      (∀ a c (x : Nat), nlb0 = 0 → segs = [(a, 32)] → src 0 = .cache c → x = s.dev.freeChan (csqOf t.sq) (8 * csqOf t.sq) 2 4 → s.dev.fld (F.DMA_C_CFG_OWNER x) = csqOf t.sq →
        s.dev.flag (F.DMA_C_CFG_EN x) = true → (s.dev.slotDesc x (s.dev.fld (F.DMA_C_TAIL_TAIL x))).own = false → s.dev.poolOpen .dma (csqOf t.sq) = true →
        Gives (.nvmRead t nsid slba nlb0 segs) s fun d => d.hst.tx = s.dev.hst.tx ∧ d.hst.post = s.dev.hst.post ∧
          (∃ q, d.slotDesc x (s.dev.fld (F.DMA_C_TAIL_TAIL x)) = q ∧ q.own = true ∧ q.src = 128 * (c.addr / 128) ∧ q.dst = a ∧ q.lines = 32) ∧
          (∃ r, d.cmd? t = some r ∧ r.kind = .read ∧ r.need = [] ∧ r.desc = 1) ∧ d = { s.dev with dma := d.dma, cmds := d.cmds, regs := d.regs, cnt := d.cnt })))

/-- R148, R335, R336, R343, R347, Table 12.7: a write that crosses the zone's end, meets a Full zone, does not start at WP or would open one zone too many ends with its zone status and changes no zone; one that passes moves WP by its
length, opens an Empty or Closed zone and fills the zone it completes (said of nvmWrite and zoneAppend where no Zone Reset waits); its sectors enter the write cache under the zone's generation; Write Zeroes completes at once, or with FUA or
the cache off waits for the writing; an append starts at WP; and a write waits for its turn in an ordered queue, for an entry of the active-zone table and for granules. (Model choices in it: log entries 32, 33, 34, 38, 42, 43, 44, 70.) -/
def Obligations.ZoneWritesCheckAndReserve : Prop :=
  ∀ (s : State) (t : Tag) (nsid : Word) (slba : BitVec 64) (nlb0 : BitVec 16) (fua : Bool) (segs : List (Nat × Nat)) (buf : Nat) (n : Ns), IoReady s.dev t nsid.toNat n →
    let nlb := nlb0.toNat + 1
    let z := slba.toNat / n.zs
    let i := n.ctx + z
    let c := s.dev.zctx i
    let write := Instr.nvmWrite t nsid slba nlb0 fua segs buf
    let zeroes := Instr.writeZeroes t nsid slba nlb0 fua
    let append := Instr.zoneAppend t nsid slba nlb0 fua segs buf
    let listed := nlb ≤ 512 ∧ segLines segs = 32 * nlb
    let may := c.cond ≠ .full ∧ (c.cond = .empty → s.dev.activeCount < s.dev.fld F.ZNE_LIMIT_ACT_MAX)
    let moved : Dev → Prop := fun d => (d.zctx i).wp = c.wp + nlb ∧ (d.zctx i).gen = c.gen ∧ (d.zctx i).lastWr = s.dev.now ∧
      (d.zctx i).cond = (if c.wp + nlb = n.zs then .full else if c.cond = .empty ∨ c.cond = .closed then .implicit else c.cond) ∧ ∀ j, j ≠ i → d.zctx j = s.dev.zctx j
    let fails (cmd : Instr) (st : Status) : Prop := Gives cmd s fun d => Ended s.dev d t st ∧ d = { s.dev with hst := d.hst, cmds := d.cmds, cnt := d.cnt, free := d.free }
    (n.cap < slba.toNat + nlb → ∀ cmd ∈ [write, zeroes, append], fails cmd (stOf 0 0x80)) ∧
    (slba.toNat + nlb ≤ n.cap → ¬listed → fails write stInvalidField ∧ fails append stInvalidField) ∧
    (slba.toNat + nlb ≤ n.cap → ∀ p ∈ [(write, listed, s.dev.granulesFree buf nlb), (zeroes, True, true), (append, listed, s.dev.granulesFree buf nlb)], p.2.1 →
      (s.dev.actuatorFailed n.reg.a = true → fails p.1 ⟨2, 0x80, true⟩) ∧
      (s.dev.actuatorFailed n.reg.a = false →
        ((s.dev.orderedWait t = true ∨ (c.cond = .empty ∧ 8192 ≤ s.dev.activeZones.length) ∨ p.2.2 = false) → Gives p.1 s fun d => d = s.dev))) ∧
    (slba.toNat + nlb ≤ n.cap → s.dev.actuatorFailed n.reg.a = false → s.dev.orderedWait t = false → (c.cond = .empty → s.dev.activeZones.length < 8192) →
      (∀ p ∈ [(write, listed ∧ s.dev.granulesFree buf nlb = true), (zeroes, True)], p.2 →
        (n.zs < slba.toNat % n.zs + nlb → fails p.1 (stOf 1 0xB8)) ∧
        (slba.toNat % n.zs + nlb ≤ n.zs →
          (c.cond = .full → fails p.1 (stOf 1 0xB9)) ∧
          (c.cond ≠ .full → slba.toNat % n.zs ≠ c.wp → fails p.1 (stOf 1 0xBC)) ∧
          (c.cond = .empty → slba.toNat % n.zs = c.wp → s.dev.fld F.ZNE_LIMIT_ACT_MAX ≤ s.dev.activeCount → fails p.1 (stOf 1 0xBD)) ∧
          (slba.toNat % n.zs = c.wp → may → (∀ x ∈ s.dev.cmds, x.kind ≠ .zoneReset) → Gives p.1 s moved))) ∧
      (slba.toNat % n.zs + nlb ≤ n.zs → slba.toNat % n.zs = c.wp → may →
        (let secs := (List.range nlb).map fun k => ({ nsid := n.nsid, lba := slba.toNat + k, rlba := c.gen * 2 ^ 34 + (slba.toNat + k), addr := 4096 * k, lines := 32, zero := true } : CacheSec)
         let now := fua = false ∧ (s.dev.ctrl t.ctrl).wce = true
         Gives zeroes s fun d => moved d ∧ d.zne.cache = s.dev.zne.cache ++ secs ∧ (now → Ended s.dev d t stOk) ∧
           (¬now → (∀ x ∈ s.dev.zne.cache, x.nsid = n.nsid → x.lba < slba.toNat ∨ slba.toNat + nlb ≤ x.lba) →
             ∃ r, d.cmd? t = some r ∧ r.need = (List.range nlb).map (fun k => secKey n.nsid (slba.toNat + k)) ∧ r.committed = true) ∧
           d.buf = s.dev.buf ∧ d.dma = s.dev.dma ∧ d.ch = s.dev.ch ∧ d.wrp = s.dev.wrp) ∧
        (∀ (a x : Nat), segs = [(a, 32 * nlb)] → nlb ≤ 512 → s.dev.granulesFree buf nlb = true → x = s.dev.freeChan (csqOf t.sq) (8 * csqOf t.sq + 1) 2 4 →
          s.dev.fld (F.DMA_C_CFG_OWNER x) = csqOf t.sq → s.dev.flag (F.DMA_C_CFG_EN x) = true → (s.dev.slotDesc x (s.dev.fld (F.DMA_C_TAIL_TAIL x))).own = false →
          s.dev.poolOpen .dma (csqOf t.sq) = true → Gives write s fun d => moved d ∧
            (d.zne.cache = s.dev.zne.cache ++ (List.range nlb).map fun k =>
              { nsid := n.nsid, lba := slba.toNat + k, rlba := c.gen * 2 ^ 34 + (slba.toNat + k), addr := 4096 * (buf + k) }) ∧
            (∃ q, d.slotDesc x (s.dev.fld (F.DMA_C_TAIL_TAIL x)) = q ∧ q.own = true ∧ q.src = a ∧ q.dst = 4096 * buf ∧ q.lines = 32 * nlb) ∧
            (∃ r, d.cmd? t = some r ∧ r.slba = slba.toNat ∧ r.nlb = nlb ∧ r.reserved = true ∧ r.committed = false) ∧ d.ch = s.dev.ch ∧ d.wrp = s.dev.wrp ∧ d.srv = s.dev.srv)) ∧
      (listed → s.dev.granulesFree buf nlb = true →
        (n.zs < c.wp + nlb → fails append (stOf 1 0xB8)) ∧
        (c.wp + nlb ≤ n.zs →
          (c.cond = .full → fails append (stOf 1 0xB9)) ∧
          (c.cond ≠ .full → slba.toNat % n.zs ≠ 0 → fails append (stOf 1 0xBC)) ∧
          (c.cond = .empty → slba.toNat % n.zs = 0 → s.dev.fld F.ZNE_LIMIT_ACT_MAX ≤ s.dev.activeCount → fails append (stOf 1 0xBD)) ∧
          (slba.toNat % n.zs = 0 → may → (∀ x ∈ s.dev.cmds, x.kind ≠ .zoneReset) → Gives append s moved))))

/-- R16, R19, R35, R148, R331, R344, R357 to R359: a Flush covers the cached sectors of completed writes, of one namespace or of all, and held ones get a fresh try; destage and read orders are placed with a credit of MSQ, and only for sectors that
are all in the cache, or all awaited; a context is read or written through MDC; a full journal half gives way to the other; recovery, once image, flash and buffer are there, makes ZNE ready when every scan it needs has
ended, and RECOVERING before. (Model choices in it: log entries 8, 10, 11, 31, 42, 43, 44, 45, 46, 65, 70.) -/
def Obligations.FlushesOrdersAndRecovery : Prop :=
  (∀ (s : State) (t : Tag) (nsid : Word) (n : Ns), s.dev.live 1 = true → s.dev.load.minimal = false → s.dev.pstate < 2 →
    let all := decide (nsid.toNat = 0xFFFFFFFF)
    let covered (c : CacheSec) : Bool := (all || decide (c.nsid = n.nsid)) && !s.dev.inWrite c
    (all = true → s.dev.flag F.BUF_STAT_READY = false → Gives (.nvmFlush t nsid) s fun d => Ended s.dev d t (stNotReady false) ∧ d = { s.dev with hst := d.hst, cmds := d.cmds, free := d.free }) ∧
    (((all = true ∧ s.dev.flag F.BUF_STAT_READY = true) ∨ (all = false ∧ IoReady s.dev t nsid.toNat n)) → Gives (.nvmFlush t nsid) s fun d =>
      ((∀ c ∈ s.dev.zne.cache, covered c = false) → Ended s.dev d t stOk) ∧
      ((∃ c ∈ s.dev.zne.cache, covered c = true) → ∃ r, d.cmd? t = some r ∧ r.kind = .flush ∧ ∀ k, k ∈ r.need ↔ ∃ c ∈ s.dev.zne.cache, covered c = true ∧ k = secKey c.nsid c.lba) ∧
      d.zne.cache = s.dev.zne.cache.map (fun c => if c.held && covered c then { c with held := false, order := none } else c) ∧
      d = { s.dev with hst := d.hst, cmds := d.cmds, zne := { s.dev.zne with cache := d.zne.cache, ctx := d.zne.ctx }, regs := d.regs, mem := d.mem, log := d.log, lost := d.lost })) ∧
  (∀ (s : State) (q : Fin 4) (nsid : Word) (slba : BitVec 64) (n : Nat), s.dev.live 1 = true →
    (s.dev.ns? nsid.toNat = none → Gives (.destageOrder q nsid slba n) s (fun d => d = s.dev) ∧ ∀ o, Gives (.mediaOrder o q nsid slba n) s (fun d => d = s.dev)) ∧
    (∀ x, s.dev.ns? nsid.toNat = some x →
      (let j := 4 + 2 * q.val + x.reg.a
       let ready := n ≠ 0 ∧ (∀ i, i < n → ∃ c, s.dev.cached x.nsid (slba.toNat + i) = some c ∧ c.lines = 32 ∧ c.order = none ∧ c.held = false) ∧
         s.dev.flag (fFENCED .seq j) = false ∧ 0 < (s.dev.pool .seq j).held
       (¬ready → Gives (.destageOrder q nsid slba n) s fun d => d = s.dev) ∧
       (ready → Gives (.destageOrder q nsid slba n) s fun d =>
         d.msq.orders = s.dev.msq.orders ++ [{ a := x.reg.a, cmd := none, nsid := x.nsid, slba := slba.toNat, n := n, write := true, csq := q.val, id := s.dev.msq.nextId }] ∧
         (d.pool .seq j).held + 1 = (s.dev.pool .seq j).held ∧
         (∀ c ∈ d.zne.cache, c.nsid = x.nsid → slba.toNat ≤ c.lba → c.lba < slba.toNat + n → c.order = some s.dev.msq.nextId) ∧
         d = { s.dev with msq := d.msq, pools := d.pools, zne := { s.dev.zne with cache := d.zne.cache } })) ∧
      (∀ o : Option Tag,
        let k := match o with | some t => csqOf t.sq | none => (x.nsid - 1) % 4
        let j := 4 + 2 * k + x.reg.a
        let wants (i : Nat) : Prop := match o with
          | some t => ∃ r, s.dev.cmd? t = some r ∧ r.kind = .read ∧ secKey x.nsid (slba.toNat + i) ∈ r.need
          | none => s.dev.ringAwaits x.nsid (slba.toNat + i) = true
        let ready := n ≠ 0 ∧ (∀ i, i < n → wants i) ∧ s.dev.flag (fFENCED .seq j) = false ∧ 0 < (s.dev.pool .seq j).held
        (¬ready → Gives (.mediaOrder o q nsid slba n) s fun d => d = s.dev) ∧
        (ready → Gives (.mediaOrder o q nsid slba n) s fun d =>
          d.msq.orders = s.dev.msq.orders ++ [{ a := x.reg.a, cmd := o, nsid := x.nsid, slba := slba.toNat, n := n, csq := k, id := s.dev.msq.nextId }] ∧
          (d.pool .seq j).held + 1 = (s.dev.pool .seq j).held ∧ d = { s.dev with msq := d.msq, pools := d.pools })))) ∧
  (∀ (s : State) (ctx : BitVec 18) (tag : BitVec 16) (put stream : Bool) (sram tags : SramBits), s.dev.live 1 = true →
    let line := 32 * s.dev.fld F.ZNE_CTX_BASE_GRANULE + ctx.toNat / 4
    let k := 32 * (ctx.toNat % 4)
    let bytes := List.replicate k 0 ++ (s.dev.zctx ctx.toNat).bytes ++ List.replicate (96 - k) 0
    ((s.dev.live 4 = false ∨ s.dev.mcredit put = false) → Gives (.zoneContextRequest ctx tag put stream sram tags) s fun d => d = s.dev) ∧
    (s.dev.live 4 = true → s.dev.mcredit put = true → line < 2 ^ 27 → Gives (.zoneContextRequest ctx tag put stream sram tags) s fun d =>
      ∀ u, exec (if put then .mdcLineWrite tag stream (BitVec.ofNat 27 line) (BitVec.ofNat 128 ((2 ^ 32 - 1) * 2 ^ k)) bytes sram tags false
          else .mdcLineRead tag stream (BitVec.ofNat 27 line) sram tags false) { s with dev := s.dev.bump .zne 0 } = .next u → d = u.dev)) ∧
  (∀ s : State, s.dev.live 1 = true →
    (s.dev.zne.jword < jlimit → Gives .journalHalfSwitch s fun d => d = s.dev) ∧
    (jlimit ≤ s.dev.zne.jword → Gives .journalHalfSwitch s fun d => d.zne = { s.dev.zne with half := 1 - s.dev.zne.half, jword := s.dev.snapshots.length
                                                                                             jseq := s.dev.zne.jseq + s.dev.snapshots.length } ∧
      d.cmds = s.dev.cmds ∧ d.buf = s.dev.buf ∧ d.dma = s.dev.dma) ∧
    (∀ ends : List ScanEnd,
      let begins := s.dev.flag F.ZNE_STAT_READY = false ∧ s.dev.load.loaded = true ∧ s.dev.flag F.FLC_STAT_READY = true ∧ s.dev.live 4 = true ∧ s.dev.flag F.BUF_STAT_READY = true
      (¬begins → Gives (.zoneRecovery ends) s fun d => d = s.dev) ∧
      (begins → Gives (.zoneRecovery ends) s fun d => d.zne.nss = s.dev.zne.nss ∧
        (d.flag F.ZNE_STAT_READY = true ∨ (d.flag F.ZNE_STAT_RECOVERING = true ∧ d.zne = s.dev.zne)) ∧
        ((∀ n ∈ s.dev.zne.nss, ∀ z, z < n.zones → ∃ e ∈ ends, e.ctx = n.ctx + z) → d.flag F.ZNE_STAT_READY = true ∧ d.flag F.ZNE_STAT_RECOVERING = false) ∧
        (s.dev.zne.nss = [] → d.zne.ctx = [] ∧ d.zne.recov = []) ∧ d.cmds = s.dev.cmds ∧ d.buf = s.dev.buf ∧ d.flc = s.dev.flc)))

/-- R340 to R342: a zone action on one zone acts from the conditions it is allowed from and ends with Invalid Zone State Transition from any other; Close, Open, Finish and Reset leave the zone Closed, Explicitly Opened, Full at zs, and
Empty at 0 under a new generation with its cached data gone; Finish waits while the zone has cached sectors, and Reset while it has sectors without all their data; with Select All each acts on the zones of its conditions; Offline, Set
Zone Descriptor Extension and Extended Report are refused; a report lists the zones that its option selects. (Model choices in it: log entries 34, 38, 42, 43, 44, 70.) -/
def Obligations.ZoneActionsChangeConditions : Prop :=
  ∀ (s : State) (t : Tag) (nsid : Word) (slba : BitVec 64) (n : Ns), IoReady s.dev t nsid.toNat n →
    let z := slba.toNat / n.zs
    let i := n.ctx + z
    let c := s.dev.zctx i
    let fails (cmd : Instr) (st : Status) : Prop := Gives cmd s fun d => Ended s.dev d t st ∧ d = { s.dev with hst := d.hst, cmds := d.cmds, free := d.free, cnt := d.cnt }
    let others (d : Dev) : Prop := (∀ j, j ≠ i → d.zctx j = s.dev.zctx j) ∧ d.ch = s.dev.ch ∧ d.wrp = s.dev.wrp ∧ d.buf = s.dev.buf ∧ d.dma = s.dev.dma
    let each (d : Dev) (f : ZCond → ZCond) : Prop := ∀ z, z < n.zones → (d.zctx (n.ctx + z)).cond = f (s.dev.zctx (n.ctx + z)).cond
    let picked (f : ZCond → Bool) : List Nat := (List.range n.zones).filter fun z => f (s.dev.zctx (n.ctx + z)).cond
    let waits (cmd : Instr) (k : CmdKind) (need : List Nat) : Prop := Gives cmd s fun d => (∃ r, d.cmd? t = some r ∧ r.kind = k ∧ r.need = need) ∧ each d id ∧
      d = { s.dev with cmds := d.cmds, zne := { s.dev.zne with cache := d.zne.cache, ctx := d.zne.ctx }, regs := d.regs, mem := d.mem, log := d.log, lost := d.lost, hst := d.hst }
    (∀ cmd ∈ [Instr.zoneClose t nsid slba false, .zoneOpen t nsid slba false, .zoneFinish t nsid slba false, .zoneReset t nsid slba false],
      (n.cap ≤ slba.toNat → fails cmd (stOf 0 0x80)) ∧ (slba.toNat < n.cap → slba.toNat % n.zs ≠ 0 → fails cmd stInvalidField)) ∧
    (slba.toNat < n.cap → slba.toNat % n.zs = 0 →
      ((c.cond = .empty ∨ c.cond = .full) → fails (.zoneClose t nsid slba false) (stOf 1 0xBF)) ∧
      ((c.cond = .implicit ∨ c.cond = .explicit) → Gives (.zoneClose t nsid slba false) s fun d => Ended s.dev d t stOk ∧
        d.zctx i = { c with cond := .closed, stamp := s.dev.now } ∧ others d ∧ d.zne.cache = s.dev.zne.cache) ∧
      (c.cond = .closed → Gives (.zoneClose t nsid slba false) s fun d => Ended s.dev d t stOk ∧ d = { s.dev with hst := d.hst, cmds := d.cmds }) ∧
      (c.cond = .full → fails (.zoneOpen t nsid slba false) (stOf 1 0xBF)) ∧
      (c.cond = .empty → s.dev.fld F.ZNE_LIMIT_ACT_MAX ≤ s.dev.activeCount → fails (.zoneOpen t nsid slba false) (stOf 1 0xBD)) ∧
      (c.cond = .empty → s.dev.activeCount < s.dev.fld F.ZNE_LIMIT_ACT_MAX → 8192 ≤ s.dev.activeZones.length → Gives (.zoneOpen t nsid slba false) s fun d => d = s.dev) ∧
      (c.cond ≠ .full → (c.cond = .empty → s.dev.activeCount < s.dev.fld F.ZNE_LIMIT_ACT_MAX ∧ s.dev.activeZones.length < 8192) →
        Gives (.zoneOpen t nsid slba false) s fun d => Ended s.dev d t stOk ∧ (d.zctx i).cond = .explicit ∧ (d.zctx i).wp = c.wp ∧ (d.zctx i).gen = c.gen ∧
          others d ∧ d.zne.cache = s.dev.zne.cache) ∧
      (s.dev.zoneKeys n [z] (fun _ => true) = [] → Gives (.zoneFinish t nsid slba false) s fun d => Ended s.dev d t stOk ∧ (d.zctx i).cond = .full ∧ (d.zctx i).wp = n.zs ∧ others d) ∧
      (s.dev.zoneKeys n [z] (fun _ => true) ≠ [] → Gives (.zoneFinish t nsid slba false) s fun d => (d.zctx i).cond = c.cond ∧ others d ∧
        ∃ r, d.cmd? t = some r ∧ r.kind = .zoneFinish ∧ r.need = s.dev.zoneKeys n [z] fun _ => true) ∧
      (s.dev.zoneKeys n [z] (fun x => decide (x.lines < 32)) = [] →
        (c.cond = .empty → Gives (.zoneReset t nsid slba false) s fun d => Ended s.dev d t stOk ∧ d = { s.dev with hst := d.hst, cmds := d.cmds }) ∧
        (c.cond ≠ .empty → Gives (.zoneReset t nsid slba false) s fun d => Ended s.dev d t stOk ∧ d.zctx i = { nsx := n.nsid - 1, gen := d.fld F.ZNE_GEN_GEN, stamp := s.dev.now } ∧
          d.fld F.ZNE_GEN_GEN = (if s.dev.fld F.ZNE_GEN_GEN = 0x3FFFFFFF then 1 else s.dev.fld F.ZNE_GEN_GEN + 1) ∧ others d ∧ d.zoneKeys n [z] (fun _ => true) = [])) ∧
      (s.dev.zoneKeys n [z] (fun x => decide (x.lines < 32)) ≠ [] → Gives (.zoneReset t nsid slba false) s fun d => d = { s.dev with cmds := d.cmds } ∧
        ∃ r, d.cmd? t = some r ∧ r.kind = .zoneReset ∧ r.need = s.dev.zoneKeys n [z] fun x => decide (x.lines < 32))) ∧
    Gives (.zoneClose t nsid slba true) s (fun d => Ended s.dev d t stOk ∧ each d fun k => match k with | .implicit | .explicit => .closed | k => k) ∧
    Gives (.zoneOpen t nsid slba true) s (fun d => Ended s.dev d t stOk ∧ each d fun k => match k with | .closed => .explicit | k => k) ∧
    (let need := s.dev.zoneKeys n (picked fun k => k != .empty) fun x => decide (x.lines < 32)
     (need = [] → Gives (.zoneReset t nsid slba true) s fun d => Ended s.dev d t stOk ∧ each d fun _ => .empty) ∧ (need ≠ [] → waits (.zoneReset t nsid slba true) .zoneReset need)) ∧
    (let need := s.dev.zoneKeys n (picked fun k => k != .empty && k != .full) fun _ => true
     (need = [] → Gives (.zoneFinish t nsid slba true) s fun d => Ended s.dev d t stOk ∧ each d fun k => match k with | .empty => .empty | _ => .full) ∧
     (need ≠ [] → waits (.zoneFinish t nsid slba true) .zoneFinish need)) ∧
    fails (.zoneOffline t nsid) (stOf 1 0xBF) ∧ fails (.setZoneDescExt t) stInvalidField ∧ fails (.extendedReportZones t) stInvalidField ∧
    (∀ (opt : Byte) (part : Bool) (len : Word),
      (7 < opt.toNat → fails (.reportZones t nsid slba opt part len) stInvalidField) ∧
      (opt.toNat ≤ 7 → n.cap ≤ slba.toNat → fails (.reportZones t nsid slba opt part len) (stOf 0 0x80)) ∧
      (∀ sel, reportSel opt.toNat = some sel → slba.toNat < n.cap → Gives (.reportZones t nsid slba opt part len) s fun d =>
        let zs := (List.range n.zones).filter fun z => decide (slba.toNat / n.zs ≤ z) && sel (s.dev.zctx (n.ctx + z)).cond
        let fit := zs.take ((len.toNat - 64) / 64)
        d.hst.tx = s.dev.hst.tx ++ [.data t ((leBytes 8 (if part then fit.length else zs.length) ++ List.replicate 56 0 ++ fit.flatMap (s.dev.zoneDesc n)).take len.toNat)] ∧
        Ended s.dev d t stOk ∧ d = { s.dev with hst := d.hst, cmds := d.cmds, cnt := d.cnt }))

/-- R11 to R14, R350, R470: a control-space write acts on each bit by its access code, a misaligned or unlocated one and one to a block without power have no effect, RES bits keep what they are and are logged, WS bits are staged; the
Control Space commands read and write in the same way and end with Invalid Address where the access is refused. (Model choices in it: log entries 8, 16, 43.) -/
def Obligations.RegisterWritesFollowAccessCodes : Prop :=
  (∀ (s : State) (a v : Word) (who : Requester), s.dev.live 0 = true →
    ((a.toNat % 4 ≠ 0 ∨ locate a.toNat = none) → Gives (.registerWrite a v who) s fun d => d = s.dev) ∧
    (∀ b o, a.toNat % 4 = 0 → locate a.toNat = some (b, o) →
      (s.dev.live (blkDom b) = false → Gives (.registerWrite a v who) s fun d => d = s.dev) ∧
      (∀ e, s.dev.live (blkDom b) = true → s.dev.special b o v.toNat (reqCode who) = some e → Gives (.registerWrite a v who) s fun d => d = e) ∧
      (s.dev.live (blkDom b) = true → s.dev.special b o v.toNat (reqCode who) = none →
        let m := accOf s.dev.v a.toNat
        let acts (d : Dev) : Prop := ∀ i, i < 32 → (d.word a.toNat).toNat.testBit i = if m.rw.testBit i then v.toNat.testBit i else
          (s.dev.word a.toNat).toNat.testBit i && !(m.w1c.testBit i && v.toNat.testBit i)
        (v.toNat &&& m.res = 0 → m.ws = 0 → Gives (.registerWrite a v who) s fun d => acts d ∧
          (∀ y, y ≠ a.toNat → d.word y = s.dev.word y) ∧ d = { s.dev with regs := d.regs, mem := d.mem }) ∧
        (v.toNat &&& m.res ≠ 0 → a.toNat ≠ 0x0A000060 → m.ws = 0 → Gives (.registerWrite a v who) s fun d => acts d ∧
          (∀ y, y ≠ a.toNat → y ≠ 0x0A000060 → d.word y = s.dev.word y) ∧ d = { s.dev with regs := d.regs, mem := d.mem, log := d.log, lost := d.lost, hst := d.hst }) ∧
        (m.ws ≠ 0 → Gives (.registerWrite a v who) s fun d =>
          d.staged.get (fun _ => none) a.toNat = some (BitVec.ofNat 32 (v.toNat &&& m.ws)) ∧ (∀ y, y ≠ a.toNat → d.staged.get (fun _ => none) y = s.dev.staged.get (fun _ => none) y) ∧
          d.flag (fCSTAGED (if b = .ece then .rng else b)) = true ∧ d = { s.dev with regs := d.regs, mem := d.mem, staged := d.staged, log := d.log, lost := d.lost, hst := d.hst })))) ∧
  (∀ (s : State) (t : Tag) (a v : Word), s.dev.live 1 = true →
    let fails (i : Instr) (st : Status) : Prop := Gives i s fun d => Ended s.dev d t st ∧ d = { s.dev with hst := d.hst, cmds := d.cmds, free := d.free }
    (s.dev.load.minimal = true → fails (.controlSpaceReadCmd t a) stSequence ∧ fails (.controlSpaceWriteCmd t a v) stSequence) ∧
    (s.dev.load.minimal = false →
      (s.dev.readWord a.toNat = none → fails (.controlSpaceReadCmd t a) (stOf 7 0xC0)) ∧
      (∀ w, s.dev.readWord a.toNat = some w → Gives (.controlSpaceReadCmd t a) s fun d => Ended s.dev d t stOk ∧
        ((∀ c, s.dev.cmd? t = some c → c.silent = false) → ∃ c ∈ d.hst.post, c.tag = t ∧ c.dw0 = w.toNat) ∧ d = { s.dev with hst := d.hst, cmds := d.cmds, regs := d.regs }) ∧
      ((a.toNat % 4 ≠ 0 ∨ locate a.toNat = none) → fails (.controlSpaceWriteCmd t a v) (stOf 7 0xC0)) ∧
      ((s.dev.controlWrite a.toNat v.toNat (9 + t.ctrl.val)).2 = false → Gives (.controlSpaceWriteCmd t a v) s fun d =>
        let e := (s.dev.controlWrite a.toNat v.toNat (9 + t.ctrl.val)).1
        Ended e d t stOk ∧ d = { e with hst := d.hst, cmds := d.cmds })))

/-- R470, R472 to R477: a block commit whose rules hold clears the staged set and, of the blocks named, gives every staged word its proposed value; one that breaks a rule keeps the set and reports the first rule broken; a second GO while one
runs is refused with an event; a domain commit applies to every member or to none; the Commit command ends with Success, with Consistency Rule Failed, or refused while BUSY. (Model choices in it: log entries 4, 8, 43, 63.) -/
def Obligations.CommitsApplyAllOrNothing : Prop :=
  (∀ (s : State) (b : Blk) (who : Requester), s.dev.live (blkDom b) = true →
    ((blkAbsent s.dev.v b = true ∨ b = .ece) → Gives (.blockCommit b who) s fun d => d = s.dev) ∧
    (blkAbsent s.dev.v b = false → b ≠ .ece →
      (s.dev.flag (fCBUSY b) = true → Gives (.blockCommit b who) s fun d => d.staged = s.dev.staged ∧
        (∀ y, y ≠ 0x0A000060 → d.word y = s.dev.word y) ∧ d = { s.dev with regs := d.regs, log := d.log, lost := d.lost, hst := d.hst }) ∧
      (s.dev.flag (fCBUSY b) = false →
        (s.dev.failingRule b ≠ 0 → Gives (.blockCommit b who) s fun d => d.staged = s.dev.staged ∧ d.flag (fCFAILED b) = true ∧ d.fld (fCRULE b) = s.dev.failingRule b ∧
          (∀ y, y ≠ 0x0A000060 → y ≠ blkBase b + 0xF4 → d.word y = s.dev.word y) ∧ d = { s.dev with regs := d.regs, log := d.log, lost := d.lost, hst := d.hst }) ∧
        (s.dev.failingRule b = 0 → Gives (.blockCommit b who) s (fun d => d.flag (fCFAILED b) = false ∧ d.flag (fCSTAGED b) = false ∧ d.fld (fCRULE b) = 0 ∧
            (∀ a w, (a, w) ∈ s.dev.stagedOf b → d.staged.get (fun _ => none) a = none)) ∧
          (b ∉ [.srv, .spn, .mdc, .pwr, .knl, .rng, .log] → Gives (.blockCommit b who) s fun d =>
            (∀ a w, (a, w) ∈ s.dev.stagedOf b → a ≠ blkBase b + 0xF4 → d.word a = s.dev.proposed a) ∧
            (∀ y, y ≠ blkBase b + 0xF4 → (∀ w, (y, w) ∉ s.dev.stagedOf b) → d.word y = s.dev.word y) ∧ d = { s.dev with regs := d.regs, staged := d.staged, pools := d.pools }))))) ∧
  (∀ (s : State) (i : Fin 8) (who : Requester), s.dev.live 1 = true →
    (s.dev.flag F.FAB_CDSTAT_BUSY = true → Gives (.domainCommit i who) s fun d => d.staged = s.dev.staged ∧ (∀ y, y ≠ 0x0A000060 → d.word y = s.dev.word y) ∧
      d = { s.dev with regs := d.regs, log := d.log, lost := d.lost, hst := d.hst }) ∧
    (s.dev.flag F.FAB_CDSTAT_BUSY = false →
      ((∃ b ∈ s.dev.domainOf i.val, s.dev.failingRule b ≠ 0) → Gives (.domainCommit i who) s fun d => d.staged = s.dev.staged ∧ d.flag F.FAB_CDSTAT_FAILED = true ∧
        d.fld F.FAB_CDSTAT_DOMAIN = i.val ∧ (∀ b ∈ s.dev.domainOf i.val, b ≠ .fab → d.flag (fCFAILED b) = true ∧ d.fld (fCRULE b) = s.dev.failingRule b) ∧
        d = { s.dev with regs := d.regs, log := d.log, lost := d.lost, hst := d.hst }) ∧
      ((∀ b ∈ s.dev.domainOf i.val, s.dev.failingRule b = 0) → Gives (.domainCommit i who) s fun d => d.flag F.FAB_CDSTAT_FAILED = false ∧ d.fld F.FAB_CDSTAT_RULE = 0 ∧
        d.fld F.FAB_CDSTAT_DOMAIN = i.val ∧ ∀ b ∈ s.dev.domainOf i.val, ∀ a w, (a, w) ∈ s.dev.stagedOf b → d.staged.get (fun _ => none) a = none))) ∧
  (∀ (s : State) (t : Tag) (cdw10 : Word), s.dev.live 1 = true →
    let cls := bitsAt cdw10.toNat 0 8
    let dom := bitsAt cdw10.toNat 8 8
    let fails (st : Status) : Prop := Gives (.commitCmd t cdw10) s fun d => Ended s.dev d t st ∧ d = { s.dev with hst := d.hst, cmds := d.cmds, free := d.free }
    let refused (st : Status) : Prop := Gives (.commitCmd t cdw10) s fun d => Ended s.dev d t st ∧ d.staged = s.dev.staged ∧
      d = { s.dev with hst := d.hst, cmds := d.cmds, free := d.free, regs := d.regs, log := d.log, lost := d.lost }
    let applied (bs : List Blk) : Prop := Gives (.commitCmd t cdw10) s fun d => Ended s.dev d t stOk ∧ ∀ b ∈ bs, ∀ a w, (a, w) ∈ s.dev.stagedOf b → d.staged.get (fun _ => none) a = none
    let outcome (busy : Bool) (bs : List Blk) : Prop := (busy = true → refused ⟨7, 0xC7, false⟩) ∧
      (busy = false → ((∃ b ∈ bs, s.dev.failingRule b ≠ 0) → refused (stOf 7 0xC1)) ∧ ((∀ b ∈ bs, s.dev.failingRule b = 0) → applied bs))
    (s.dev.load.minimal = true → fails stSequence) ∧
    (s.dev.load.minimal = false →
      (cdw10.toNat.testBit 31 = true → (8 ≤ dom → fails stInvalidField) ∧ (dom < 8 → outcome (s.dev.flag F.FAB_CDSTAT_BUSY) (s.dev.domainOf dom))) ∧
      (cdw10.toNat.testBit 31 = false →
        (cls = 3 → cdw10.toNat.testBit 21 = true → outcome (s.dev.flag F.FAB_CDSTAT_BUSY) (s.dev.channels.map .ch)) ∧
        ((cls ≠ 3 ∨ cdw10.toNat.testBit 21 = false) →
          let b? := (s.dev.blksOf cls).find? fun b => decide (b ≠ .ece) && (decide (cls ≠ 3) || decide (chOf b = bitsAt cdw10.toNat 16 5))
          (b? = none → fails stInvalidField) ∧ ∀ b, b? = some b → outcome (s.dev.flag (fCBUSY b)) [b]))))

/-! ## The ring -/

/-- R364, R365, R370 to R374, R379, R384: control frames in a row train a port; one whose lanes lock starts its join, or is refused without a key; frames in error and owed acknowledgements are answered with ACK; an ACK frees what it covers and asks for frames again;
a frame left unacknowledged too long is sent again; a failed port stands FAILED and retrains after 1 ms; a lost link starts an enumeration; a join that takes too long is refused and tried again after its back-off. Said where RingIdle holds. (Model choices in it: log entries 7, 8, 9, 10, 58, 59, 70, 80.) -/
def Obligations.RingPortsTrainAndKeepFrames : Prop :=
  ∀ (s : State) (p : Fin 2), s.dev.live 1 = true → RingIdle s.dev →
    let x := s.dev.rport p
    let q := opp p
    let port := s.dev.live (6 + p.val) = true
    let up := port ∧ s.dev.linkUp p = true
    let ackUs := s.dev.fld F.RNG_LINK_ACK_US * 1000
    let same (c : Instr) : Prop := Gives c s fun d => d = s.dev
    let retries (c : Instr) : Prop := Gives c s fun d => d.rstate p = 0 ∧ (d.rport p).backoff = some (s.dev.now + s.dev.fld F.RNG_LINK_BACKOFF_MS * 1000000) ∧ (d.rport p).joinAt = none ∧
      (d.rport p).line = x.line ∧ d.rport q = s.dev.rport q ∧ RingOnly s.dev d
    let acks (c : Instr) (now : Bool) (n : Nat) : Prop := Gives c s fun d => RingSent s.dev d p (fun g => g.ftype = 2 ∧ g.flags = now.toNat ∧ g.body.take 2 = leBytes 2 x.expect) ∧
      (d.rport p).owe = false ∧ d.counter .rng (8 * p.val + 2) = s.dev.counter .rng (8 * p.val + 2) + BitVec.ofNat 64 n ∧ d.rport q = s.dev.rport q ∧ d = { s.dev with cnt := d.cnt, rng := d.rng }
    (s.dev.rstate p = 3 → Gives (.ringLinkDown p) s fun d => d.rstate p = 0 ∧ (d.rport p).retry = [] ∧ (d.rport p).keyTx = none ∧ (d.rport p).keyRx = none ∧
      d.epoch = (s.dev.rng.known + 1) % 65536 ∧ RingOnly s.dev d) ∧
    (s.dev.rstate p ≠ 3 → same (.ringLinkDown p)) ∧
    (∀ (skew : BitVec 8) (first : Fin 2),
      let locks := port ∧ s.dev.rstate p ≤ 1 ∧ s.dev.ringEnabled p = true ∧ x.backoff = none ∧ x.offAt = none ∧ 1024 ≤ x.good ∧ skew.toNat ≤ 20
      (¬locks → same (.ringLinkUp p skew first)) ∧
      (locks → s.dev.sec.ringKey = none → retries (.ringLinkUp p skew first)) ∧
      (locks → s.dev.sec.ringKey.isSome = true → Gives (.ringLinkUp p skew first) s fun d => d.rstate p = 2 ∧ (d.rport p).joinAt = some s.dev.now ∧ (d.rport p).swapped = (first == 1) ∧
        (d.rport p).nonce.length = 32 ∧
        RingSent s.dev d p (fun g => g.ftype = 0x80 ∧ g.body = padTo 256 (ownSerial ++ leBytes 4 s.dev.sec.ringKeyId ++ (d.rport p).nonce ++ leBytes 1 (s.dev.fld F.RNG_HCRED_CMD) ++
          leBytes 1 (s.dev.fld F.RNG_HCRED_DATA) ++ leBytes 1 (s.dev.fld F.RNG_HCRED_RSP) ++ leBytes 1 (s.dev.fld F.RNG_HCRED_MGT))) ∧ d.rport q = s.dev.rport q ∧ RingOnly s.dev d)) ∧
    (let trains := port ∧ s.dev.linkUp p = false ∧ s.dev.ringEnabled p = true ∧ x.backoff = none ∧ x.offAt = none ∧ s.dev.rstate p ≤ 1
     (up → Gives (.idleFrame p) s fun d => d.counter .rng (8 * p.val + 1) = s.dev.counter .rng (8 * p.val + 1) + 1 ∧ d = { s.dev with cnt := d.cnt }) ∧
     (trains → Gives (.idleFrame p) s fun d => d.rstate p = 1 ∧ d.rport p = { x with good := min 1024 (x.good + 1) } ∧ d.rport q = s.dev.rport q ∧ d = { s.dev with regs := d.regs, rng := d.rng }) ∧
     (¬up → ¬trains → same (.idleFrame p))) ∧
    (∀ a b : List Byte,
      let whole := frameGood (joinLanes (if x.swapped then 1 else 0) a b) = true
      ((whole ∨ ¬port) → same (.ringFrameCrcFail p a b)) ∧ (¬whole → up → acks (.ringFrameCrcFail p a b) true 1) ∧
      (¬whole → port → s.dev.linkUp p = false → Gives (.ringFrameCrcFail p a b) s fun d => d.rport p = { x with good := 0 } ∧ d.rport q = s.dev.rport q ∧ d = { s.dev with rng := d.rng })) ∧
    (up → x.owe = true → acks (.ackTimer p) false 0) ∧ ((¬up ∨ x.owe = false) → same (.ackTimer p)) ∧
    (∀ (a : BitVec 16) (held : Word) (cret : List Byte) (again : Bool),
      let after (n : Nat) : Nat := (n + 65536 - a.toNat - 1) % 65536
      let covered (n : Nat) : Bool := decide (1 ≤ (a.toNat + 65536 - n) % 65536 ∧ (a.toNat + 65536 - n) % 65536 ≤ 32768) || (decide (after n < 32) && held.toNat.testBit (after n))
      let left := x.retry.filter fun r => !covered r.f.seq
      let due (r : Retry) : Bool := again && (decide (r.f.seq = a.toNat) || decide (after r.f.seq < 32)) && !decide (0 < r.resends ∧ s.dev.now < r.sentAt + ackUs)
      (¬up → same (.ackFrame p a held cret again)) ∧
      (up → Gives (.ackFrame p a held cret again) s fun d => (d.rport p).retry = left.map (fun r => if due r then { r with sentAt := s.dev.now, resends := r.resends + 1 } else r) ∧
        (d.rport p).line = x.line ++ (left.filter due).map (fun r => r.f) ∧
        (∀ i, i < 4 → (d.rport p).peerCred.getD i 0 = x.peerCred.getD i 0 + (((cret.getD i 0).toNat + 256 - x.peerCret.getD i 0) % 256)) ∧
        d.rport q = s.dev.rport q ∧ d = { s.dev with cnt := d.cnt, rng := d.rng, regs := d.regs })) ∧
    (let due (r : Retry) : Bool := decide (r.sentAt + ackUs ≤ s.dev.now)
     (¬up → same (.frameResendTimeout p)) ∧
     (up → Gives (.frameResendTimeout p) s fun d => (d.rport p).line = x.line ++ (x.retry.filter due).map (fun r => r.f) ∧
       (d.rport p).retry = x.retry.map (fun r => if due r then { r with sentAt := s.dev.now, resends := r.resends + 1 } else r) ∧
       d.counter .rng (8 * p.val + 4) = s.dev.counter .rng (8 * p.val + 4) + BitVec.ofNat 64 (x.retry.filter due).length ∧ d.rport q = s.dev.rport q ∧
       d = { s.dev with cnt := d.cnt, rng := d.rng, regs := d.regs })) ∧
    (∀ why : Fin 4,
      let failed := up ∧ (why = 0 → ∃ r ∈ x.retry, s.dev.fld F.RNG_LINK_RETRY_LIM ≤ r.resends) ∧
        (why = 1 → x.retry ≠ [] ∧ ∃ t, x.unackedAt = some t ∧ t + 10 * ackUs ≤ s.dev.now) ∧ (why = 2 → 2 ≤ x.tagFails)
      (¬failed → same (.ringPortFailed p why)) ∧
      (failed → Gives (.ringPortFailed p why) s fun d => d.rstate p = 4 ∧ (d.rport p).offAt = some s.dev.now ∧ (d.rport p).retry = [] ∧ (d.rport p).keyTx = none ∧ (d.rport p).keyRx = none ∧
        d.epoch = (s.dev.rng.known + 1) % 65536 ∧ RingOnly s.dev d)) ∧
    (let due := port ∧ s.dev.rstate p = 4 ∧ ∃ t, x.offAt = some t ∧ t + 1000000 ≤ s.dev.now
     (¬due → same (.ringPortRetrain p)) ∧
     (due → Gives (.ringPortRetrain p) s fun d => d.rstate p = 1 ∧ d.rport p = { x with offAt := none } ∧ d.rport q = s.dev.rport q ∧ d = { s.dev with regs := d.regs, rng := d.rng })) ∧
    (let late := port ∧ s.dev.rstate p = 2 ∧ ∃ t, x.joinAt = some t ∧ t + 1000000 ≤ s.dev.now
     (¬late → same (.joinTimeout p)) ∧ (late → retries (.joinTimeout p))) ∧
    (let due := port ∧ ∃ t, x.backoff = some t ∧ t ≤ s.dev.now
     (¬due → same (.joinBackoffExpiry p)) ∧
     (due → Gives (.joinBackoffExpiry p) s fun d => d.rport p = { x with backoff := none } ∧ d.rstate p = (if s.dev.rstate p = 0 ∧ s.dev.ringEnabled p = true then 1 else s.dev.rstate p) ∧
       d.rport q = s.dev.rport q ∧ d = { s.dev with regs := d.regs, rng := d.rng }))

/-- R369, R375, R379 to R381, R384 to R386: a join checks the peer's key and SERIAL, answers with its MAC, derives the hop keys from the peer's MAC and stands JOINED with JOIN_CONF; a wrong tag is counted and asks for a re-send; a HELLO of a newer
epoch or of a new member extends the member set, the node's own closes the ring; after the quiet time the node takes its rank as ID; other frames pass on. Said where RingIdle holds and the frame is the next in order (RingNext). (Model choices in it: log entries 6, 8, 9, 10, 15, 58, 59, 66, 70.) -/
def Obligations.JoinsAuthenticateAndEnumerate : Prop :=
  (∀ (s : State) (p : Fin 2) (f : RFrame), RingIdle s.dev → RingNext s.dev p f →
    let x := s.dev.rport p
    let q := opp p
    let key := s.dev.sec.ringKey.getD []
    let took : RPort := { x with expect := (x.expect + 1) % 65536, owe := true, tagFails := if isSealed f.ftype = true then 0 else x.tagFails
                                 fcntRx := if isSealed f.ftype = true then f.fcnt else x.fcntRx }
    let only (d : Dev) : Prop := d.rport p = took ∧ d.rport q = s.dev.rport q ∧ d = { s.dev with cnt := d.cnt, rng := d.rng }
    let refused (d : Dev) : Prop := d.rstate p = 0 ∧ (d.rport p).backoff = some (s.dev.now + s.dev.fld F.RNG_LINK_BACKOFF_MS * 1000000) ∧ RingOnly s.dev d
    let sends := x.spare = 1 ∧ x.retry.length < 256
    let passes (g : RFrame) : Prop := g.ftype = f.ftype ∧ g.dst = f.dst ∧ g.src = f.src ∧ g.tgt = f.tgt ∧ g.job = f.job ∧ g.body = f.body
    (f.ftype = 0x80 →
      (s.dev.rstate p = 3 → Gives (.joinChalFrame p f) s fun d => d.rstate p ≠ 3 ∧ RingOnly s.dev d) ∧
      (s.dev.rstate p = 2 → (s.dev.sec.ringKeyId ≠ leAt f.body 20 4 ∨ slice f.body 0 20 = ownSerial) → Gives (.joinChalFrame p f) s refused) ∧
      (s.dev.rstate p = 2 → s.dev.sec.ringKeyId = leAt f.body 20 4 → slice f.body 0 20 ≠ ownSerial → Gives (.joinChalFrame p f) s fun d =>
        d.rstate p = 2 ∧ (d.rport p).peerSerial = slice f.body 0 20 ∧ (d.rport p).peerNonce = slice f.body 24 32 ∧ (d.rport p).peerCred = (slice f.body 56 4).map BitVec.toNat ∧
        (d.rport p).expect = (x.expect + 1) % 65536 ∧ (¬sends → (d.rport p).line = x.line) ∧
        (sends → RingSent s.dev d p fun g => g.ftype = 0x81 ∧
          g.body = padTo 256 ((if s.dev.ringArmed p 2 = true then flip0 else id) (hmac key (ascii "TRIRN-JOIN" ++ ownSerial ++ slice f.body 0 20 ++ slice f.body 24 32 ++ x.nonce)))) ∧
        RingOnly s.dev d)) ∧
    (f.ftype = 0x81 →
      let mac := hmac key (ascii "TRIRN-JOIN" ++ x.peerSerial ++ ownSerial ++ x.nonce ++ x.peerNonce)
      let awaited := s.dev.rstate p = 2 ∧ x.peerNonce ≠ [] ∧ x.macOk = false
      (¬awaited → Gives (.joinRespFrame p f) s only) ∧
      (awaited → slice f.body 0 32 ≠ mac → Gives (.joinRespFrame p f) s refused) ∧
      (awaited → slice f.body 0 32 = mac → Gives (.joinRespFrame p f) s fun d => d.rstate p = 2 ∧ (d.rport p).macOk = true ∧
        (d.rport p).keyTx = some (hopKey key ownSerial x.peerSerial x.nonce x.peerNonce) ∧ (d.rport p).keyRx = some (hopKey key x.peerSerial ownSerial x.peerNonce x.nonce) ∧
        (¬sends → (d.rport p).line = x.line) ∧ (sends → RingSent s.dev d p fun g => g.ftype = 0x82 ∧ g.fcnt = 0) ∧ RingOnly s.dev d)) ∧
    (f.ftype = 0x82 →
      ((s.dev.rstate p ≠ 2 ∨ x.macOk = false) → Gives (.joinConfFrame p f) s only) ∧
      (s.dev.rstate p = 2 → x.macOk = true → Gives (.joinConfFrame p f) s fun d => d.rstate p = 3 ∧ (d.rport p).joinAt = none ∧
        d.epoch = ((if newer (leAt f.body 0 2) s.dev.rng.known then leAt f.body 0 2 else s.dev.rng.known) + 1) % 65536 ∧ RingOnly s.dev d)) ∧
    (f.ftype = 0x10 → f.epoch < 65536 →
      let fresh := newer f.epoch s.dev.epoch = true
      let known := ∃ m ∈ s.dev.rng.members, m.serial = f.body
      let hello (P : Dev → Prop) : Prop := Gives (.helloFrame p f) s fun d => P d ∧ RingOnly s.dev d
      (fresh → hello fun d => d.epoch = f.epoch ∧ d.tstate = (if s.dev.joinedPorts = [] then 0 else 1) ∧ d.nodeId = 0 ∧ d.rng.closed = decide (f.body = ownSerial) ∧
        d.rng.members = ⟨ownSerial, 2, 0⟩ :: (if f.body = ownSerial then [] else [⟨f.body, p.val, f.hops⟩])) ∧
      (¬fresh → f.epoch ≠ s.dev.epoch → hello fun d => d.rng.members = s.dev.rng.members ∧ d.epoch = s.dev.epoch ∧ d.rng.closed = s.dev.rng.closed) ∧
      (f.epoch = s.dev.epoch → f.body = ownSerial → hello fun d => d.rng.closed = true ∧ d.rng.members = s.dev.rng.members ∧ d.epoch = s.dev.epoch) ∧
      (f.epoch = s.dev.epoch → f.body ≠ ownSerial → ¬known → 2 ≤ s.dev.tstate → hello fun d => d.epoch = (s.dev.rng.known + 1) % 65536 ∧ d.rng.members = [⟨ownSerial, 2, 0⟩]) ∧
      (f.epoch = s.dev.epoch → f.body ≠ ownSerial → (known ∨ s.dev.tstate < 2) → hello fun d =>
        (known → d.rng.members = s.dev.rng.members) ∧ (¬known → d.rng.members = s.dev.rng.members ++ [⟨f.body, p.val, f.hops⟩] ∧ d.rng.quietAt = s.dev.now) ∧
        (RingRoom s.dev q 3 → f.hops ≠ 255 → RingSent s.dev d q fun g => g.ftype = 0x10 ∧ g.hops = f.hops + 1 ∧ g.body = f.body) ∧
        ((f.hops = 255 ∨ s.dev.rstate q ≠ 3) → (d.rport q).line = (s.dev.rport q).line))) ∧
    ((3 ≤ frameClass f.ftype ∨ f.dst = 0xFF ∨ f.dst = s.dev.nodeId) → Gives (.ringFrameForward p f) s fun d => d = s.dev) ∧
    (f.ftype ∈ [0x20, 0x21, 0x22, 0x91, 0x92] → f.dst ≠ 0xFF → f.dst ≠ s.dev.nodeId →
      let drops (n : Nat) (d : Dev) : Prop := d.counter .rng n = s.dev.counter .rng n + 1 ∧ (d.rport q).line = (s.dev.rport q).line ∧ (d.rport q).txq = [] ∧ d = { s.dev with cnt := d.cnt, rng := d.rng }
      (f.epoch ≠ s.dev.epoch → Gives (.ringFrameForward p f) s (drops (8 * p.val + 7))) ∧
      (f.epoch = s.dev.epoch → s.dev.rstate q ≠ 3 → Gives (.ringFrameForward p f) s (drops (8 * q.val + 7))) ∧
      (f.epoch = s.dev.epoch → RingRoom s.dev q (frameClass f.ftype) → Gives (.ringFrameForward p f) s fun d =>
        RingSent s.dev d q (fun g => passes g ∧ g.epoch = f.epoch ∧ g.seq = (s.dev.rport q).seqNext) ∧ RingOnly s.dev d) ∧
      (f.epoch = s.dev.epoch → s.dev.rstate q = 3 → (256 ≤ (s.dev.rport q).retry.length ∨ (s.dev.rport q).peerCred.getD (frameClass f.ftype) 0 = 0) → Gives (.ringFrameForward p f) s fun d =>
        (d.rport q).line = (s.dev.rport q).line ∧ (∃ g, (d.rport q).txq = [(g, false)] ∧ passes g) ∧ RingOnly s.dev d))) ∧
  (∀ (s : State) (p : Fin 2) (f : RFrame), RingIdle s.dev → s.dev.live 1 = true → s.dev.live (6 + p.val) = true →
    let x := s.dev.rport p
    ((s.dev.linkUp p = false ∨ isSealed f.ftype = false) → Gives (.blockTagFail p f) s fun d => d = s.dev) ∧
    (s.dev.linkUp p = true → isSealed f.ftype = true → Gives (.blockTagFail p f) s fun d => (d.rport p).tagFails = x.tagFails + 1 ∧ (d.rport p).expect = x.expect ∧
      RingSent s.dev d p (fun g => g.ftype = 2 ∧ g.flags = 1 ∧ g.body.take 2 = leBytes 2 x.expect) ∧ d.counter .rng (8 * p.val + 3) = s.dev.counter .rng (8 * p.val + 3) + 1 ∧
      d.rport (opp p) = s.dev.rport (opp p) ∧ RingOnly s.dev d)) ∧
  (∀ s : State, RingIdle s.dev → s.dev.live 1 = true →
    let due := s.dev.tstate = 1 ∧ s.dev.rng.quietAt + s.dev.fld F.RNG_ENUM_QUIET_US * 1000 ≤ s.dev.now
    let id := s.dev.rankOf ownSerial
    (¬due → Gives .enumQuietExpiry s fun d => d = s.dev) ∧
    (due → Gives .enumQuietExpiry s fun d => d.tstate = (if 255 < id then 4 else if s.dev.rng.closed = true then 2 else 3) ∧ d.nodeId = (if 255 < id then s.dev.nodeId else id) ∧
      (∀ p : Fin 2, s.dev.rstate p = 3 → let r := s.dev.rankOf (s.dev.rport p).peerSerial; d.fld (F.RNG_PSTAT_PEER_ID p.val) = if r ≤ 255 then r else 0) ∧ d.rng = s.dev.rng ∧ RingOnly s.dev d))

/-- R390, R393 to R401, R403: a read of a namespace that is not exported, or outside the ring, is refused with JEND, else served; a listed node takes its place in a job or refuses it, keeps ACC blocks inside its window, takes credits, leaves at the
target's order, and folds its product into the accumulator; the target keeps and combines blocks; blocks are marked where the lanes disagree; a job without traffic ends in time with its status, once its transfers have ended. (Model choices in it: log entries 6, 7, 8, 9, 26, 66, 69, 70.) -/
def Obligations.PeersServeReadsAndJobs : Prop :=
  (∀ (s : State) (p : Fin 2) (f : RFrame), RingIdle s.dev → RingNext s.dev p f → f.dst = s.dev.nodeId → s.dev.nodeId ≠ 0 → s.dev.nodeId ≠ 0xFF → f.epoch = s.dev.epoch →
    let mine (j : PJob) : Prop := j.tgt = f.tgt ∧ j.job = f.job
    (f.ftype = 0x22 →
      let nsid := leAt f.body 0 4
      let slba := leAt f.body 4 8
      let nlb := leAt f.body 12 2
      let refused := s.dev.inRing = false ∨ s.dev.exported nsid = false ∨ (∃ n, s.dev.ns? nsid = some n ∧ n.cap < slba + nlb) ∨ nlb = 0 ∨ s.dev.noReads = true
      (refused → Gives (.rreqFrame p f) s fun d => d.rng.serves = s.dev.rng.serves ∧
        (RingRoom s.dev p 2 → RingSent s.dev d p fun g => g.ftype = 0x21 ∧ g.dst = f.src ∧ g.job = f.job ∧ g.body.head? = some 1) ∧ RingOnly s.dev d) ∧
      (∀ n, ¬refused → s.dev.ns? nsid = some n → s.dev.rng.serves = [] →
        let land := s.dev.landNow n slba nlb
        (land.get (fun _ => none) 0 = none → Gives (.rreqFrame p f) s fun d =>
          d.rng.serves = [{ node := f.src, job := f.job, port := p, nsid := nsid, slba := slba, nlb := nlb, land := land }] ∧ d.rport (opp p) = s.dev.rport (opp p) ∧
          d = { s.dev with rng := d.rng, cnt := d.cnt }) ∧
        (land.get (fun _ => none) 0 = some .zero → nlb = 1 → s.dev.rstate p = 3 → (s.dev.rport p).retry.length + 16 ≤ 256 → 17 ≤ (s.dev.rport p).peerCred.getD 2 0 →
          Gives (.rreqFrame p f) s fun d => d.rng.serves = [] ∧ (∃ fs : List RFrame, (d.rport p).line = (s.dev.rport p).line ++ fs ∧ fs.length = 16 ∧
            ∀ g ∈ fs, g.ftype = 0x92 ∧ g.dst = f.src ∧ g.job = f.job ∧ g.body = List.replicate 256 0) ∧ d.cmds = s.dev.cmds ∧ d.zne = s.dev.zne ∧ d.dma = s.dev.dma))) ∧
    (f.ftype = 0x90 → f.block = 0 → leAt f.body 2 1 = 1 →
      let e := partOf (slice f.body 32 16)
      let nlb := leAt f.body 0 2
      let ok := s.dev.exported e.nsid = true ∧ (∃ n, s.dev.ns? e.nsid = some n ∧ e.slba + nlb ≤ n.cap) ∧ s.dev.rng.pjobs.length < s.dev.fld F.RNG_JOB_JOBS_P ∧ s.dev.noReads = false
      ((e.node ≠ s.dev.nodeId ∨ s.dev.inRing = false ∨ ∃ j ∈ s.dev.rng.pjobs, mine j) → Gives (.jobStartFrame p f) s fun d => d.rng.pjobs = s.dev.rng.pjobs ∧ RingOnly s.dev d) ∧
      (e.node = s.dev.nodeId → s.dev.inRing = true → (∀ j ∈ s.dev.rng.pjobs, ¬mine j) →
        (¬ok → Gives (.jobStartFrame p f) s fun d => d.rng.pjobs = s.dev.rng.pjobs ∧
          (RingRoom s.dev p 2 → RingSent s.dev d p fun g => g.ftype = 0x21 ∧ g.dst = f.tgt ∧ g.job = f.job ∧ g.body.head? = some 1) ∧ RingOnly s.dev d) ∧
        (ok → Gives (.jobStartFrame p f) s fun d => (∃ j, d.rng.pjobs = s.dev.rng.pjobs ++ [j] ∧ mine j ∧ j.port = p ∧ j.part = e ∧ j.next = some f.tgt ∧ j.far = true ∧ j.nlb = nlb ∧
          j.jwin = leAt f.body 4 1 ∧ j.sent = [] ∧ j.traffic = s.dev.now) ∧ RingOnly s.dev d))) ∧
    (f.ftype = 0x91 → f.tgt ≠ s.dev.nodeId → Gives (.accFrame p f) s fun d => d.rng.pjobs = (s.dev.rng.pjobs.map fun j =>
      if j.tgt = f.tgt ∧ j.job = f.job ∧ f.block < j.freed + j.jwin ∧ f.block < 16 * j.nlb then
        { j with blocks := j.blocks.set (fun _ => none) f.block (some (f.flags.testBit 0 || !s.dev.flag F.BUF_STAT_READY, f.body)), traffic := s.dev.now } else j) ∧
      d = { s.dev with rng := d.rng, cnt := d.cnt, buf := d.buf }) ∧
    (f.ftype = 0x20 → Gives (.jcreditFrame p f) s fun d => d.rng.pjobs = (s.dev.rng.pjobs.map fun j =>
      if j.tgt = f.tgt ∧ j.job = f.job then { j with freedBy := max j.freedBy (leAt f.body 0 4), traffic := s.dev.now } else j) ∧ d = { s.dev with rng := d.rng, cnt := d.cnt }) ∧
    (f.ftype = 0x21 → Gives (.jendFrame p f) s fun d =>
      d.rng.pjobs = (if leAt f.body 0 1 = 3 then s.dev.rng.pjobs.filter fun j => decide (¬ (j.tgt = f.tgt ∧ j.job = f.job)) else s.dev.rng.pjobs) ∧ RingOnly s.dev d)) ∧
  (∀ (s : State) (p : Fin 2) (f : RFrame), RingQuiet s.dev → RingNext s.dev p f → f.dst = s.dev.nodeId → s.dev.nodeId ≠ 0 → s.dev.nodeId ≠ 0xFF → f.epoch = s.dev.epoch →
    (∀ (r : RRead) (c : CmdRec), s.dev.rng.tjobs = [] → s.dev.rng.reads = [r] → r.posted = [] → s.dev.cmd? r.tag = some c → c.failed = none →
      (f.ftype = 0x92 → r.job = f.job → r.node = f.src → r.got = [] → f.block < r.blocks → 16 ≤ r.blocks → Gives (.rdataFrame p f) s fun d =>
        d.rng.reads = [{ r with got := [f.block], errs := if (f.flags.testBit 0 = true ∨ s.dev.flag F.BUF_STAT_READY = false) ∧ f.block / 16 ∉ r.errs then f.block / 16 :: r.errs else r.errs }] ∧
        d.cmds = s.dev.cmds ∧ d.dma = s.dev.dma ∧ d.zne = s.dev.zne) ∧
      (f.ftype = 0x21 → f.tgt = 0 → r.job = f.job → leAt f.body 0 1 = 1 → Gives (.jendFrame p f) s fun d => d.rng.reads = [] ∧ Ended s.dev d r.tag (stOf 7 0xD2) ∧ d.dma = s.dev.dma)) ∧
    (∀ (j : TJob) (c : CmdRec), s.dev.rng.reads = [] → s.dev.rng.tjobs = [j] → j.job = f.job → f.tgt = s.dev.nodeId → s.dev.cmd? j.tag = some c → c.failed = none → j.done = [] →
      j.posted.length ≠ j.nlb →
      (f.ftype = 0x91 → Gives (.accFrame p f) s fun d => (∃ y, d.rng.tjobs = [y] ∧ y.done = [] ∧ y.errs = j.errs ∧
          y.blocks = if f.block < j.jwin ∧ f.block < 16 * j.nlb then j.blocks.set (fun _ => none) (2 * f.block + p.val) (some (f.flags.testBit 0 || !s.dev.flag F.BUF_STAT_READY, f.body)) else j.blocks) ∧
        d = { s.dev with rng := d.rng, cnt := d.cnt, buf := d.buf }) ∧
      (f.ftype = 0x21 → leAt f.body 0 1 = 0 → Gives (.jendFrame p f) s fun d => d.rng.tjobs = [{ j with ended := leAt f.body 1 1 :: j.ended }] ∧ d = { s.dev with rng := d.rng, cnt := d.cnt }) ∧
      (f.ftype = 0x21 → leAt f.body 0 1 = 1 → j.dest = 0 → NoBurst s.dev → c.desc = 0 → Gives (.jendFrame p f) s fun d => d.rng.tjobs = [] ∧ Ended s.dev d j.tag (stOf 7 0xD2)))) ∧
  (∀ (s : State) (own mism : Bool) (tgt : Byte) (job : BitVec 16) (b : Nat) (edc : List EdcFail), s.dev.live 1 = true → RingIdle s.dev →
    (own = true → Gives (.eceFold own tgt job b edc mism) s fun d => d = s.dev) ∧
    (own = false →
      let found := s.dev.rng.pjobs.find? fun y => decide (y.tgt = tgt.toNat ∧ y.job = job.toNat)
      ((found = none ∨ s.dev.eceTurn = false) → Gives (.eceFold own tgt job b edc mism) s fun d => d = s.dev) ∧
      (found = none → Gives (.participantTimeout tgt job) s fun d => d = s.dev) ∧
      (∀ j, found = some j →
        let gone := s.dev.rng.pjobs.filter fun y => decide (¬ (y.tgt = j.tgt ∧ y.job = j.job))
        (s.dev.now < j.traffic + s.dev.jobBound → Gives (.participantTimeout tgt job) s fun d => d = s.dev) ∧
        (j.traffic + s.dev.jobBound ≤ s.dev.now → Gives (.participantTimeout tgt job) s fun d => d.rng.pjobs = gone ∧
          (RingRoom s.dev j.port 2 → RingSent s.dev d j.port fun g => g.ftype = 0x21 ∧ g.dst = j.tgt ∧ g.job = j.job ∧ g.body.head? = some 2) ∧
          d.cmds = s.dev.cmds ∧ d.buf = s.dev.buf ∧ d.zne = s.dev.zne) ∧
        (s.dev.eceTurn = true →
          let acc : Option (Bool × Bytes) := if j.far then some (false, zeroBlock) else j.blocks.get (fun _ => none) b
          let open_ := b < 16 * j.nlb ∧ b ∉ j.sent ∧ b < j.freedBy + j.jwin
          ((acc = none ∨ j.land.get (fun _ => none) (b / 16) = none ∨ j.next = none ∨ ¬open_) → Gives (.eceFold own tgt job b edc mism) s fun d => d = s.dev) ∧
          (∀ e a l next, acc = some (e, a) → j.land.get (fun _ => none) (b / 16) = some l → j.next = some next → open_ →
            let x := (((s.dev.eceUnits (if j.far then 2 else 3)).ringUnits j.port.val 1).chunkBlock l (b % 16) edc).1
            let m := mism || s.dev.flag F.ECE_INJECT_ARM
            let err := e || x.isNone || m
            Gives (.eceFold own tgt job b edc mism) s fun d =>
              (j.sent.length + 1 ≠ 16 * j.nlb → (∃ y ∈ d.rng.pjobs, y.tgt = j.tgt ∧ y.job = j.job ∧ y.sent = b :: j.sent ∧ y.errs = if err then b :: j.errs else j.errs) ∧
                (RingRoom s.dev j.port 1 → RingSent s.dev d j.port fun g => g.ftype = 0x91 ∧ g.dst = next ∧ g.tgt = j.tgt ∧ g.job = j.job ∧ g.block = b ∧ g.flags.testBit 0 = err ∧
                  g.body = if err then zeroBlock else foldBytes j.part.coef a (x.getD zeroBlock))) ∧
              (j.sent.length + 1 = 16 * j.nlb → d.rng.pjobs = gone) ∧ d.counter .ece (if j.far then 1 else 0) = s.dev.counter .ece (if j.far then 1 else 0) + 1 ∧
              d.cmds = s.dev.cmds ∧ d.zne = s.dev.zne ∧ d.dma = s.dev.dma))))) ∧
  (∀ (s : State) (j : TJob) (c : CmdRec), s.dev.live 1 = true → RingQuiet s.dev → s.dev.rng.tjobs = [j] → s.dev.rng.reads = [] → j.job < 65536 → j.dest = 0 → s.dev.cmd? j.tag = some c →
    (∀ b : Nat, j.east ≠ [] → b < 16 * j.nlb → b ∉ j.done → j.blocks.get (fun _ => none) (2 * b) = none → j.lastE + s.dev.jobBound ≤ s.dev.now → NoBurst s.dev →
      Gives (.jobTimeout (BitVec.ofNat 16 j.job)) s fun d => d.rng.tjobs = [] ∧ (c.desc = 0 → Ended s.dev d j.tag (stOf 7 0xD4)) ∧
        (c.desc ≠ 0 → ∃ y, d.cmd? j.tag = some y ∧ y.quit = some (stOf 7 0xD4, 0))) ∧
    (c.failed = none → j.done = [] → j.posted = [] → 0 < j.nlb →
      (∀ k : BitVec 16, (k.toNat ≠ j.job ∨ (s.dev.now < j.lastE + s.dev.jobBound ∧ s.dev.now < j.lastW + s.dev.jobBound)) → Gives (.jobTimeout k) s fun d => d = s.dev) ∧
      (∀ (b : Nat) (tgt : Byte) (mism : Bool) (edc : List EdcFail) (x0 x1 : Bool × Bytes), b < 16 * j.nlb → (j.own.isSome = true → (j.land.get (fun _ => none) (b / 16)).isSome = true) →
        (if j.east = [] then some (false, zeroBlock) else j.blocks.get (fun _ => none) (2 * b)) = some x0 → (if j.west = [] then some (false, zeroBlock) else j.blocks.get (fun _ => none) (2 * b + 1)) = some x1 →
        let units := 1 + (j.east != []).toNat + (j.west != []).toNat + j.own.isSome.toNat
        let lost := match j.own, j.land.get (fun _ => none) (b / 16) with | some _, some l => ((s.dev.eceUnits units).chunkBlock l (b % 16) edc).1.isNone | _, _ => false
        let err := x0.1 || x1.1 || lost || mism || s.dev.flag F.ECE_INJECT_ARM
        ((s.dev.eceTurn = false ∨ j.delivered + j.window ≤ b / 16) → Gives (.eceFold true tgt (BitVec.ofNat 16 j.job) b edc mism) s fun d => d = s.dev) ∧
        (s.dev.eceTurn = true → b / 16 < j.delivered + j.window → Gives (.eceFold true tgt (BitVec.ofNat 16 j.job) b edc mism) s fun d => (∃ y, d.rng.tjobs = [y] ∧ y.done = [b] ∧ y.tag = j.tag ∧
          y.errs = if err = true ∧ b / 16 ∉ j.errs then b / 16 :: j.errs else j.errs) ∧ d.counter .ece 2 = s.dev.counter .ece 2 + 1 ∧ d.cmds = s.dev.cmds ∧ d.zne = s.dev.zne ∧ d.dma = s.dev.dma))))

/-- R378, R388 to R390, R392, R393, R404, R406, R407, Table 13.12: Ring Administration reports the segment, sets and removes the key, enables ports, exports namespaces, issues jobs and remote reads that pass their checks, whistles and refuses the rest;
a whistle is sent from a port that is DOWN or FAILED and ends in training. (Model choices in it: log entries 7, 8, 42, 43, 44, 59, 66, 69, 70.) -/
def Obligations.RingAdministrationActs : Prop :=
  (∀ (s : State) (t : Tag) (w len : Word) (data : Bytes) (on : Bool) (node : Byte) (nlb : BitVec 16) (x : BitVec 64) (segs : List (Nat × Nat)) (buf : Nat), s.dev.live 1 = true → s.dev.load.minimal = true →
    ∀ c ∈ [Instr.ringAdminStatus t len, .ringAdminSetKey t data, .ringAdminPorts t w, .ringAdminExport t w on, .ringAdminReconstruct t len x data buf, .ringAdminRemoteRead t node nlb w x segs,
      .ringAdminWhistle t w, .ringAdminInvalid t], Gives c s fun d => Ended s.dev d t stSequence ∧ d = { s.dev with hst := d.hst, cmds := d.cmds, free := d.free }) ∧
  (∀ (s : State) (t : Tag), s.dev.live 1 = true → s.dev.load.minimal = false →
    let fails (c : Instr) (st : Status) : Prop := Gives c s fun d => Ended s.dev d t st ∧ d = { s.dev with hst := d.hst, cmds := d.cmds, free := d.free }
    (∀ len : Word, Gives (.ringAdminStatus t len) s fun d => (∃ rows : Bytes, d.hst.tx = s.dev.hst.tx ++ [.data t ((padTo 32
        (leBytes 2 s.dev.epoch ++ leBytes 1 s.dev.tstate ++ leBytes 1 s.dev.nodeId ++ leBytes 2 (s.dev.rng.members.foldr insertMember []).length ++ leBytes 1 (s.dev.rstate 0) ++
          leBytes 1 (s.dev.rstate 1)) ++ rows).take len.toNat)]) ∧ Ended s.dev d t stOk ∧ d = { s.dev with hst := d.hst, cmds := d.cmds }) ∧
    (∀ data : Bytes, Gives (.ringAdminSetKey t data) s fun d => d.sec.ringKeyId = leAt data 32 4 ∧
      d.sec.ringKey = (if leAt data 32 4 = 0 then none else some (padTo 32 (slice data 0 32))) ∧ d.flag F.RNG_STAT_KEY_OK = decide (leAt data 32 4 ≠ 0) ∧
      d.sec.wrapped.get (fun _ => none) 64 = d.sec.ringKey.map Config.wrap ∧ d.sec.keys = s.dev.sec.keys ∧ Ended s.dev d t stOk ∧
      d = { s.dev with hst := d.hst, cmds := d.cmds, sec := d.sec, regs := d.regs }) ∧
    (∀ (nsid : Word) (on : Bool), (s.dev.ns? nsid.toNat = none → fails (.ringAdminExport t nsid on) stInvalidNs) ∧
      (1 ≤ nsid.toNat → nsid.toNat ≤ 64 → (s.dev.ns? nsid.toNat).isSome = true → Gives (.ringAdminExport t nsid on) s fun d => d.exported nsid.toNat = on ∧
        (∀ m, 1 ≤ m → m ≤ 64 → m ≠ nsid.toNat → d.exported m = s.dev.exported m) ∧ Ended s.dev d t stOk ∧ d = { s.dev with hst := d.hst, cmds := d.cmds, regs := d.regs })) ∧
    fails (.ringAdminInvalid t) stInvalidField ∧
    (RingIdle s.dev →
      let ends (c : Instr) (st : Status) : Prop := Gives c s fun d => Ended s.dev d t st ∧ d.rng = s.dev.rng ∧ d.regs = s.dev.regs ∧ d.zne = s.dev.zne
      (∀ cdw12 : Word, Gives (.ringAdminPorts t cdw12) s fun d => d.flag F.RNG_CTRL_EAST_EN = cdw12.toNat.testBit 0 ∧ d.flag F.RNG_CTRL_WEST_EN = cdw12.toNat.testBit 1 ∧
        (∀ p : Fin 2, d.rstate p = if s.dev.rstate p = 0 ∨ cdw12.toNat.testBit p.val = false then 0 else if cdw12.toNat.testBit 2 = true then 1 else s.dev.rstate p) ∧ Ended s.dev d t stOk ∧
        d = { s.dev with rng := d.rng, regs := d.regs, cnt := d.cnt, log := d.log, lost := d.lost, hst := d.hst, cmds := d.cmds }) ∧
      (∀ cdw12 : Word, Gives (.ringAdminWhistle t cdw12) s fun d => Ended s.dev d t stOk ∧
        (∀ p : Fin 2, cdw12.toNat.testBit p.val = true → (s.dev.rstate p = 0 ∨ s.dev.rstate p = 4) → d.rstate p = 5 ∧ (d.rport p).whistle = some s.dev.now) ∧
        (∀ p : Fin 2, (cdw12.toNat.testBit p.val = false ∨ (s.dev.rstate p ≠ 0 ∧ s.dev.rstate p ≠ 4)) → d.rstate p = s.dev.rstate p ∧ d.rport p = s.dev.rport p) ∧
        d = { s.dev with rng := d.rng, regs := d.regs, cnt := d.cnt, log := d.log, lost := d.lost, hst := d.hst, cmds := d.cmds }) ∧
      (∀ (node : Byte) (nlb : BitVec 16) (nsid : Word) (slba : BitVec 64) (segs : List (Nat × Nat)),
        let read := Instr.ringAdminRemoteRead t node nlb nsid slba segs
        let able := s.dev.inRing = true ∧ s.dev.sec.ringKey.isSome = true
        let ok := 1 ≤ nlb.toNat ∧ nlb.toNat ≤ 512 ∧ segLines segs = 32 * nlb.toNat
        (¬able → ends read (stOf 7 0xD3)) ∧ (able → ¬ok → ends read stInvalidField) ∧ (able → ok → s.dev.sideOf node.toNat = none → ends read (stOf 7 0xD2)) ∧
        (∀ q h, able → ok → s.dev.sideOf node.toNat = some (q, h) → Gives read s fun d =>
          d.rng.reads = [{ job := s.dev.rng.nextJob, tag := t, node := node.toNat, blocks := 16 * nlb.toNat, addr := 0 }] ∧ d.rng.nextJob = (s.dev.rng.nextJob + 1) % 65536 ∧
          (RingRoom s.dev q 0 → RingSent s.dev d q fun g => g.ftype = 0x22 ∧ g.dst = node.toNat ∧ g.job = s.dev.rng.nextJob ∧
            g.body = padTo 16 (leBytes 4 nsid.toNat ++ leBytes 8 slba.toNat ++ leBytes 2 nlb.toNat)) ∧
          (d.cmd? t).isSome = true ∧ d.hst.post = s.dev.hst.post ∧ d = { s.dev with rng := d.rng, cmds := d.cmds, cnt := d.cnt, regs := d.regs })) ∧
      (∀ (len : Word) (dptr : BitVec 64) (desc : Bytes) (buf : Nat),
        let job := Instr.ringAdminReconstruct t len dptr desc buf
        let able := s.dev.inRing = true ∧ s.dev.sec.ringKey.isSome = true
        let nlb := leAt desc 0 2
        let np := leAt desc 2 1
        let dest := leAt desc 3 1
        let es := (List.range np).map fun i => partOf (slice desc (64 + 16 * i) 16)
        let own := es.find? fun e => decide (e.node = s.dev.nodeId)
        let ok := 1 ≤ nlb ∧ nlb ≤ 512 ∧ 1 ≤ np ∧ np ≤ 28 ∧ dest ≤ 1 ∧ len.toNat = 128 + 16 * np ∧ (dest = 1 ∨ leAt desc 16 8 % 4096 = 0) ∧ (es.map JPart.node).Nodup ∧ (∀ e ∈ es, e.coef ≠ 0) ∧
          (∀ e, own = some e → s.dev.exported e.nsid = true ∧ ∃ n, s.dev.ns? e.nsid = some n ∧ e.slba + nlb ≤ n.cap)
        let there := ∀ e ∈ es, (s.dev.member? e.node).isSome = true
        let issues (P : TJob → Prop) (d : Dev) : Prop := d.rng.nextJob = (s.dev.rng.nextJob + 1) % 65536 ∧ (d.cmd? t).isSome = true ∧ ∃ j, d.rng.tjobs = [j] ∧ j.job = s.dev.rng.nextJob ∧ j.tag = t ∧
          j.nlb = nlb ∧ j.dest = dest ∧ j.own = own ∧ j.bitmapAt = dptr.toNat + 64 + 16 * np ∧ j.done = [] ∧ P j
        (¬able → ends job (stOf 7 0xD3)) ∧ (able → ¬ok → ends job stInvalidField) ∧ (able → ok → ¬there → ends job (stOf 7 0xD2)) ∧
        (able → ok → there → s.dev.fld F.RNG_JOB_JOBS_T = 0 → ends job (stOf 7 0xD5)) ∧
        (able → ok → there → 0 < s.dev.fld F.RNG_JOB_JOBS_T →
          (dest = 0 → Gives job s fun d => issues (fun j => j.addr = leAt desc 16 8) d ∧ d.zne = s.dev.zne ∧ d.hst.post = s.dev.hst.post) ∧
          (dest = 1 →
            let zslba := leAt desc 8 8
            (s.dev.ns? (leAt desc 4 4) = none → ends job stInvalidNs) ∧
            (∀ n, s.dev.ns? (leAt desc 4 4) = some n →
              (n.cap ≤ zslba → ends job stRange) ∧
              (zslba < n.cap → s.dev.granulesFree buf nlb = false → Gives job s fun d => d = s.dev) ∧
              (zslba < n.cap → s.dev.granulesFree buf nlb = true →
                (∀ st, s.dev.zoneCheck n zslba nlb true = some st → ends job st) ∧
                (s.dev.zoneCheck n zslba nlb true = none → Gives job s
                  (issues fun j => j.nsid = leAt desc 4 4 ∧ j.lba = zslba / n.zs * n.zs + (s.dev.zctx (n.ctx + zslba / n.zs)).wp))))))))) ∧
  (∀ (s : State) (p : Fin 2), s.dev.live 1 = true →
    (∀ (v : Word) (who : Requester), Gives (.whistleGoWrite v who) s fun d =>
      (v.toNat.testBit p.val = true → (s.dev.rstate p = 0 ∨ s.dev.rstate p = 4) → d.rstate p = 5 ∧ (d.rport p).whistle = some s.dev.now) ∧
      ((v.toNat.testBit p.val = false ∨ (s.dev.rstate p ≠ 0 ∧ s.dev.rstate p ≠ 4)) → d.rstate p = s.dev.rstate p ∧ d.rport p = s.dev.rport p) ∧
      d.cmds = s.dev.cmds ∧ d.buf = s.dev.buf ∧ d.srv = s.dev.srv) ∧
    (let due := s.dev.rstate p = 5 ∧ ∃ t, (s.dev.rport p).whistle = some t ∧ t + s.dev.fld F.RNG_WHISTLE_WHISTLE_MS * 1000000 ≤ s.dev.now
     (¬due → Gives (.whistleEnd p) s fun d => d = s.dev) ∧
     (due → Gives (.whistleEnd p) s fun d => d.rstate p = 1 ∧ d.rport p = { s.dev.rport p with whistle := none, relayed := false } ∧ d.rport (opp p) = s.dev.rport (opp p) ∧
       d = { s.dev with regs := d.regs, rng := d.rng })))

/-! ## Sequencers -/

/-- R246, R415, R417 to R422, R425 to R428, Tables 14.3 and 14.4: the thread whose turn it is acts on its word: an ALU word writes its result to DST, sets the flags its operation sets and goes on to the next word; LDC reads the context store, whose SRAM mends a single bad bit, and STC puts a write into
the outbox; a flow word jumps, calls with a stack of four or returns; a wait word waits until its condition has its value; a word with several parts does them in order. A full outbox, a stack that overflows or underflows, and a control-store error restart the routine. A word out of turn, or
that the command does not name, does nothing. (Model choices in it: log entries 8, 43, 60, 61, 62, 70.) -/
def Obligations.MicrowordsComputeAndFlow : Prop :=
  ∀ (s : State) (q : Fin 8) (t : Fin 32) (f : Fetch) (w : BitVec 128), s.dev.live 1 = true →
    let x := s.dev.thread q t
    let u := uword w
    let a := x.reg u.srcA
    let b := if u.imm then BitVec.ofNat 32 u.immed else x.reg u.srcB
    let next := (x.pc + 1) % 65536
    let e0 := (if x.waiting.isNone && (s.dev.patchIndex q x.pc).isSome then s.dev.bump .seq 34 else s.dev).setThread q t { x with waiting := none }
    let kinds : List ((Fin 8 → Fin 32 → Fetch → Instr) × (UWord → Bool)) := [(.uwordWaitUntil, fun u => u.wmode == 1), (.uwordWaitWhile, fun u => u.wmode == 2), (.uwordBranch, fun u => u.wmode == 3),
      (.uwordJump, fun u => u.flow == 1), (.uwordCall, fun u => u.flow == 2), (.uwordReturn, fun u => u.flow == 3), (.uwordMov, fun u => u.alu == 1), (.uwordAdd, fun u => u.alu == 2), (.uwordSub, fun u => u.alu == 3),
      (.uwordAnd, fun u => u.alu == 4), (.uwordOr, fun u => u.alu == 5), (.uwordXor, fun u => u.alu == 6), (.uwordShl, fun u => u.alu == 7), (.uwordShr, fun u => u.alu == 8), (.uwordCmp, fun u => u.alu == 9),
      (.uwordLdc, fun u => u.alu == 10), (.uwordStc, fun u => u.alu == 11), (.uwordMin, fun u => u.alu == 12), (.uwordMax, fun u => u.alu == 13), (.uwordSendq, fun u => u.io == 1), (.uwordSend, fun u => u.io == 2),
      (.uwordRecv, fun u => u.io == 3), (.uwordCsrRd, fun u => u.io == 4), (.uwordCsrWr, fun u => u.io == 5), (.uwordLock, fun u => u.io == 6), (.uwordCommit, fun u => u.mark == 1), (.uwordDrop, fun u => u.mark == 2)]
    let becomes (c : Instr) (y : ThreadS) : Prop := Gives c s fun d => d.thread q t = { y with waiting := none } ∧ Issued s.dev d q t ∧
      d = { s.dev with seq := { s.dev.seq with threads := d.seq.threads, turn := d.seq.turn }, cnt := d.cnt }
    let faults (c : Instr) : Prop := x.restarts < 2 → Gives c s fun d => FaultRestarted s.dev d q t
    (∀ p ∈ kinds, ((s.dev.seqRuns q = false ∨ s.dev.seqTurn q ≠ some t.val) → Gives (p.1 q t f) s fun d => d = s.dev) ∧
      (s.dev.seqRuns q = true → s.dev.seqTurn q = some t.val → x.waiting = none → s.dev.flag F.SEQ_INJECT_ARM = false →
        (0x8800 ≤ x.pc ∨ (s.dev.patchIndex q x.pc = none ∧ f.parityOk = false)) → x.restarts < 2 → Gives (p.1 q t f) s fun d =>
          FaultRestarted s.dev d q t ∧ d.fld (fFBIT .seq 3) = 1 ∧ d.counter .seq 33 = s.dev.counter .seq 33 + 1)) ∧
    (Fetches s.dev q t f w →
      (∀ p ∈ kinds, (p.2 u = false → Gives (p.1 q t f) s fun d => d = s.dev) ∧
        (∀ e1 e2, p.2 u = true → s.dev.mustWait q t u = false → s.dev.ioReady q u = true →
          e0.aluStep q t u f.ctx = (true, e1) → e1.ioStep q t u = (none, e2) →
          Gives (p.1 q t f) s fun d => d = (e2.markStep q t u (u.wmode != 3 || e2.condLevel q (e2.thread q t) u.cond) f.ctx).issued q t)) ∧
      (u.wmode = 0 → u.mark = 0 → u.io = 0 → u.flow = 0 →
        (∀ p ∈ ([(.uwordMov, 1, b), (.uwordAdd, 2, a + b), (.uwordSub, 3, a - b), (.uwordAnd, 4, a &&& b), (.uwordOr, 5, a ||| b), (.uwordXor, 6, a ^^^ b),
            (.uwordShl, 7, a <<< (b.toNat % 32)), (.uwordShr, 8, a >>> (b.toNat % 32)), (.uwordMin, 12, if b.toNat < a.toNat then b else a),
            (.uwordMax, 13, if a.toNat < b.toNat then b else a)] : List ((Fin 8 → Fin 32 → Fetch → Instr) × Nat × Word)),
          u.alu = p.2.1 → becomes (p.1 q t f) ({ x with
            z := if 2 ≤ p.2.1 ∧ p.2.1 ≤ 6 then p.2.2 == 0 else x.z, n := if 2 ≤ p.2.1 ∧ p.2.1 ≤ 6 then p.2.2.msb else x.n, pc := next
            c := if p.2.1 = 2 then decide (2 ^ 32 ≤ a.toNat + b.toNat) else if p.2.1 = 3 then (decide (a.toNat < b.toNat)).xor Config.subCarry else x.c }.setReg s.dev.now u.dst p.2.2)) ∧
        (∀ i, i ≠ u.dst → ∀ v, (x.setReg s.dev.now u.dst v).reg i = x.reg i ∧ (u.dst ≠ 0 → (x.setReg s.dev.now u.dst v).reg u.dst = v)) ∧
        (u.alu = 9 → becomes (.uwordCmp q t f) { x with z := a - b == 0, n := (a - b).msb, c := (decide (a.toNat < b.toNat)).xor Config.subCarry, pc := next }) ∧
        (u.alu = 10 →
          let loads (v : Word) (d : Dev) : Prop := d.thread q t = { { x with pc := next }.setReg s.dev.now u.dst v with waiting := none } ∧ Issued s.dev d q t
          (a.toNat < seqContexts q → sramRead f.ctx = .ok → becomes (.uwordLdc q t f) ({ x with pc := next }.setReg s.dev.now u.dst (s.dev.ctxWord q a.toNat (u.immed % 32)))) ∧
          (a.toNat < seqContexts q → Gives (.uwordLdc q t f) s fun d => ∃ v, loads v d ∧ ((∀ blk pat, sramRead f.ctx ≠ .uncorrectable blk pat) → v = s.dev.ctxWord q a.toNat (u.immed % 32)) ∧
            d = { s.dev with seq := { s.dev.seq with threads := d.seq.threads, turn := d.seq.turn }, cnt := d.cnt, free := d.free, mem := d.mem, regs := d.regs, log := d.log, lost := d.lost, hst := d.hst }) ∧
          (seqContexts q ≤ a.toNat → Gives (.uwordLdc q t f) s fun d => (∃ v, loads v d) ∧
            d = { s.dev with seq := { s.dev.seq with threads := d.seq.threads, turn := d.seq.turn }, cnt := d.cnt, free := d.free })) ∧
        (u.alu = 11 → x.writes.length < 16 → becomes (.uwordStc q t f) { x with writes := x.writes ++ [(a.toNat, u.immed % 32, x.reg u.srcB)], pc := next }) ∧
        (u.alu = 11 → 16 ≤ x.writes.length → faults (.uwordStc q t f))) ∧
      (u.wmode = 0 → u.mark = 0 → u.io = 0 → u.alu = 0 →
        (u.flow = 1 → becomes (.uwordJump q t f) { x with pc := u.next }) ∧
        (u.flow = 2 → x.stack.length < 4 → becomes (.uwordCall q t f) { x with pc := u.next, stack := next :: x.stack }) ∧
        (u.flow = 2 → 4 ≤ x.stack.length → faults (.uwordCall q t f)) ∧
        (∀ p r, u.flow = 3 → x.stack = p :: r → becomes (.uwordReturn q t f) { x with pc := p, stack := r }) ∧
        (u.flow = 3 → x.stack = [] → faults (.uwordReturn q t f))) ∧
      (u.mark = 0 → u.io = 0 → u.alu = 0 → u.flow = 1 →
        (u.wmode = 3 → becomes (.uwordBranch q t f) { x with pc := if s.dev.condLevel q x u.cond then u.next else next }) ∧
        (∀ p ∈ ([(.uwordWaitUntil, 1, false), (.uwordWaitWhile, 2, true)] : List ((Fin 8 → Fin 32 → Fetch → Instr) × Nat × Bool)), u.wmode = p.2.1 →
          (s.dev.condLevel q x u.cond = p.2.2 → Gives (p.1 q t f) s fun d => d.thread q t = { x with waiting := some (w, s.dev.now) } ∧ Issued s.dev d q t ∧
            d = { s.dev with seq := { s.dev.seq with threads := d.seq.threads, turn := d.seq.turn }, cnt := d.cnt }) ∧
          (s.dev.condLevel q x u.cond ≠ p.2.2 → becomes (p.1 q t f) { x with pc := u.next }))))

/-- R16, R417, R421, R422, R427, R428, R435, R551: SENDQ sends at once and CSR_RD reads control space, each with its credit, else they wait; SEND and CSR_WR put a token into the outbox; RECV takes a response and is a fault without one; LOCK takes a free mutex or waits in line, and is a fault where one
is held; COMMIT lets the outbox take effect, its tokens leave with their credits, and the routine ends; DROP ends it without; the third fault halts the sequencer. Said of words that do nothing beside. (Model choices in it: log entries 60, 61, 62, 70.) -/
def Obligations.MicrowordsSendReceiveAndCommit : Prop :=
  ∀ (s : State) (q : Fin 8) (t : Fin 32) (f : Fetch) (w : BitVec 128), Fetches s.dev q t f w →
    let x := s.dev.thread q t
    let u := uword w
    let next := (x.pc + 1) % 65536
    let e0 := (if x.waiting.isNone && (s.dev.patchIndex q x.pc).isSome then s.dev.bump .seq 34 else s.dev).setThread q t { x with waiting := none }
    let step (c : Instr) (P : Dev → Prop) : Prop := Gives c s fun d => P d ∧ Issued s.dev d q t
    let becomes (c : Instr) (y : ThreadS) : Prop := step c fun d => d.thread q t = { y with waiting := none } ∧
      d = { s.dev with seq := { s.dev.seq with threads := d.seq.threads, turn := d.seq.turn }, cnt := d.cnt }
    let faults (c : Instr) : Prop := x.restarts < 2 → Gives c s fun d => FaultRestarted s.dev d q t
    u.wmode = 0 → u.alu = 0 → u.flow = 0 →
    (u.mark = 0 →
      (u.io = 1 → let k := OutTok.send u.ioq (x.payload u.ioreg)
        (s.dev.tokGoes q k = false → Gives (.uwordSendq q t f) s fun d => d = s.dev) ∧
        (s.dev.tokGoes q k = true → step (.uwordSendq q t f) fun d => d.seq.sent = s.dev.seq.sent ++ [(q.val, k)] ∧ d.thread q t = { x with pc := next, waiting := none } ∧
          (d.pool (ioqOf q u.ioq).1 (ioqOf q u.ioq).2).held + 1 = (s.dev.pool (ioqOf q u.ioq).1 (ioqOf q u.ioq).2).held ∧ d = { s.dev with seq := d.seq, pools := d.pools, cnt := d.cnt })) ∧
      (u.io = 2 → x.toks.length < 8 → becomes (.uwordSend q t f) { x with toks := x.toks ++ [.send u.ioq (x.payload u.ioreg)], pc := next }) ∧
      (u.io = 2 → 8 ≤ x.toks.length → faults (.uwordSend q t f)) ∧
      (u.io = 5 → x.toks.length < 8 → becomes (.uwordCsrWr q t f) { x with toks := x.toks ++ [.csr (x.reg u.srcA).toNat (x.reg u.srcB).toNat], pc := next }) ∧
      (u.io = 5 → 8 ≤ x.toks.length → faults (.uwordCsrWr q t f)) ∧
      (∀ ws r, u.io = 3 → x.resp = ws :: r → step (.uwordRecv q t f) fun d => (d.thread q t).resp = r ∧ (d.thread q t).pc = next ∧ (d.thread q t).toks = x.toks ∧ (d.thread q t).writes = x.writes ∧
        (∀ i, i < 32 → (d.thread q t).reg i = if 1 ≤ i ∧ u.ioreg ≤ i ∧ i < u.ioreg + ws.length then ws.getD (i - u.ioreg) 0 else x.reg i) ∧
        d = { s.dev with seq := { s.dev.seq with threads := d.seq.threads, turn := d.seq.turn }, cnt := d.cnt }) ∧
      (u.io = 3 → x.resp = [] → faults (.uwordRecv q t f) ∧
        (2 ≤ x.restarts → Gives (.uwordRecv q t f) s fun d => d.fld (F.SEQ_SSTAT_HALTED q) = 1 ∧ (d.fld F.SEQ_STAT_HALTED).testBit q = true ∧ d.seqRuns q = false)) ∧
      (u.io = 4 →
        (s.dev.canSend .fab 0 = false → Gives (.uwordCsrRd q t f) s fun d => d = s.dev) ∧
        (s.dev.canSend .fab 0 = true → step (.uwordCsrRd q t f) fun d => d.thread q t = { { x with pc := next }.setReg s.dev.now u.ioreg ((e0.readWord (x.reg u.srcA).toNat).getD 0) with waiting := none } ∧
          d = { s.dev with seq := { s.dev.seq with threads := d.seq.threads, turn := d.seq.turn }, regs := d.regs, cnt := d.cnt })) ∧
      (u.io = 6 → x.locked = true → faults (.uwordLock q t f)) ∧
      (u.io = 6 → x.lock = none → x.locked = false → u.immed.testBit 31 = false →
        becomes (.uwordLock q t f) { x with lock := some (.ctx (x.reg u.srcA).toNat), locked := !s.dev.ctxHeld q (x.reg u.srcA).toNat, pc := next }) ∧
      (u.io = 6 → x.lock = none → x.locked = false → u.immed.testBit 31 = true →
        let m := u.immed % 8
        let k : Claim := { m := m, code := q.val, thread := some t.val }
        (s.dev.seq.holder.get (fun _ => none) m = none → (∀ k ∈ s.dev.seq.claims, k.m ≠ m) → step (.uwordLock q t f) fun d =>
          d.thread q t = { x with lock := some (.mutex m), locked := true, pc := next, waiting := none } ∧ d.seq.claims = s.dev.seq.claims ∧
          d.seq.holder.get (fun _ => none) m = some q.val ∧ d.fld (F.SEQ_MUTEX_OWNER m) = q.val ∧ d.flag (F.SEQ_MUTEX_HELD m) = true ∧ d = { s.dev with seq := d.seq, regs := d.regs, cnt := d.cnt }) ∧
        ((s.dev.seq.holder.get (fun _ => none) m).isSome = true → k ∉ s.dev.seq.claims → step (.uwordLock q t f) fun d =>
          d.thread q t = { x with lock := some (.mutex m), pc := next, waiting := none } ∧ d.seq.claims = s.dev.seq.claims ++ [k] ∧
          d.seq.holder = s.dev.seq.holder ∧ d = { s.dev with seq := d.seq, cnt := d.cnt }))) ∧
    (u.io = 0 → x.lock = none →
      (∀ (c i : Nat) (v : Word) (k : Nat) (ws : List Word), u.mark = 1 → s.dev.flag F.SEQ_INJECT_ARM = false → x.writes = [(c, i, v)] → c < seqContexts q → sramRead f.ctx = .ok → x.toks = [.send k ws] →
        (∀ j ∈ s.dev.seq.intrs, ¬(j.s = q.val ∧ j.ctx = x.ctx)) → step (.uwordCommit q t f) fun d => d.ctxWord q c i = v ∧
          (∀ n : Nat, n ≠ (4096 * q.val + c) * 32 + i → d.seq.ctx.get (fun _ => 0) n = s.dev.seq.ctx.get (fun _ => 0) n) ∧ d.counter .seq (4 * q.val + 1) = s.dev.counter .seq (4 * q.val + 1) + 1 ∧
          (s.dev.tokGoes q (.send k ws) = true → d.thread q t = { run := x.run + 1 } ∧ d.seq.sent = s.dev.seq.sent ++ [(q.val, .send k ws)]) ∧
          (s.dev.tokGoes q (.send k ws) = false → d.thread q t = { x with writes := [], draining := true, locked := false, waiting := none } ∧ d.seq.sent = s.dev.seq.sent) ∧
          d = { s.dev with seq := d.seq, cnt := d.cnt, pools := d.pools }) ∧
      (u.mark = 1 → x.writes = [] → x.toks = [] → (∀ j ∈ s.dev.seq.intrs, ¬(j.s = q.val ∧ j.ctx = x.ctx)) → step (.uwordCommit q t f) fun d =>
        d.thread q t = { run := x.run + 1 } ∧ d.seq.ctx = s.dev.seq.ctx ∧ d.seq.sent = s.dev.seq.sent ∧ d = { s.dev with seq := d.seq, cnt := d.cnt }) ∧
      (u.mark = 2 → step (.uwordDrop q t f) fun d => d.thread q t = { run := x.run + 1 } ∧ d.seq.ctx = s.dev.seq.ctx ∧ d.seq.sent = s.dev.seq.sent ∧
        d.counter .seq (4 * q.val + 2) = s.dev.counter .seq (4 * q.val + 2) + 1 ∧ d = { s.dev with seq := d.seq, cnt := d.cnt }))

/-- R414, R416, R422 to R424, R435, R437: a token starts a routine at its entry on the lowest free thread, one routine per context; a response reaches its run; an interrupt flags its context, restarts the routine there, or starts its own, or waits while the routine's tokens leave, and
aborts its victim; a timer expires; a mutex goes to its claimer, is freed only by its holder and passes to one that waits; flags are set and cleared. (Model choices in it: log entries 7, 8, 61, 62, 70.) -/
def Obligations.RoutinesInterruptsMutexesAndFlags : Prop :=
  (∀ (s : State) (q : Fin 8), s.dev.live 1 = true →
    let same (c : Instr) : Prop := Gives c s fun d => d = s.dev
    let freeThread := (List.range (seqThreads q)).find? fun t => !(s.dev.thread q t).active
    let others (d : Dev) (t : Nat) : Prop := ∀ t', t' < 32 → t' ≠ t → d.thread q t' = s.dev.thread q t'
    (s.dev.seqRuns q = false → (∀ a, same (.routineDispatch q a)) ∧ ∀ c e v, same (.contextInterrupt q c e v)) ∧
    (s.dev.seqRuns q = true →
      (∀ (e : BitVec 8) (c : BitVec 12),
        ((seqContexts q ≤ c.toNat ∨ s.dev.threadOf q c.toNat ≠ none ∨ freeThread = none) → same (.routineDispatch q (.start e c))) ∧
        (∀ t, c.toNat < seqContexts q → s.dev.threadOf q c.toNat = none → freeThread = some t → Gives (.routineDispatch q (.start e c)) s fun d =>
          d.thread q t = { active := true, entry := e.toNat, ctx := c.toNat, pc := e.toNat, run := (s.dev.thread q t).run } ∧ others d t ∧
          d.counter .seq (4 * q.val) = s.dev.counter .seq (4 * q.val) + 1 ∧ d = { s.dev with seq := { s.dev.seq with threads := d.seq.threads }, cnt := d.cnt }) ∧
        (∀ v, seqContexts q ≤ c.toNat → same (.contextInterrupt q c e v)) ∧
        (c.toNat < seqContexts q →
          let busy (t : Nat) : Prop := s.dev.threadOf q c.toNat = some t ∧ (s.dev.thread q t).draining = false
          let bit : Word := BitVec.ofNat 32 (1 <<< (Config.intrBit % 32))
          (∀ t v, s.dev.threadOf q c.toNat = some t → (s.dev.thread q t).draining = true → Gives (.contextInterrupt q c e v) s fun d =>
            d = { s.dev with seq := { s.dev.seq with intrs := s.dev.seq.intrs ++ [{ s := q.val, ctx := c.toNat, entry := e.toNat, victim := v }] } }) ∧
          (∀ t, busy t → Gives (.contextInterrupt q c e none) s fun d => d.ctxWord q c.toNat 0 = s.dev.ctxWord q c.toNat 0 ||| bit ∧
            (let x := s.dev.thread q t; d.thread q t = { active := true, entry := x.entry, ctx := x.ctx, pc := x.entry, run := x.run + 1, restarts := x.restarts }) ∧
            d = { s.dev with seq := d.seq, regs := d.regs, cnt := d.cnt }) ∧
          (s.dev.threadOf q c.toNat = none → Gives (.contextInterrupt q c e none) s fun d => d.ctxWord q c.toNat 0 = s.dev.ctxWord q c.toNat 0 ||| bit ∧
            (∀ t, freeThread = some t → d.thread q t = { active := true, entry := e.toNat, ctx := c.toNat, pc := e.toNat, run := (s.dev.thread q t).run } ∧ others d t) ∧
            (freeThread = none → d.seq.threads = s.dev.seq.threads) ∧ d = { s.dev with seq := d.seq, cnt := d.cnt }) ∧
          (∀ v x, (s.dev.threadOf q c.toNat = none ∨ ∃ t, busy t) → s.dev.cmd? v = some x →
            ((x.isCommitted = true ∨ 4 ≤ q.val) → Gives (.contextInterrupt q c e (some v)) s fun d => d.cmds = s.dev.cmds ∧ d.hst = s.dev.hst) ∧
            (x.isCommitted = false → q.val < 4 → x.silent = false → Gives (.contextInterrupt q c e (some v)) s fun d => (x.desc = 0 → d.cmd? v = none) ∧
              (d.cmd? v = none → ∃ p ∈ d.hst.post, p.tag = v ∧ p.st = stAborted) ∧ (∀ y, d.cmd? v = some y → y.quit = some (stAborted, 0)) ∧
              d.ch = s.dev.ch ∧ d.srv = s.dev.srv ∧ d.spn = s.dev.spn)))) ∧
      (∀ (t : Fin 32) (run : Nat) (ws : List Word),
        let x := s.dev.thread q t
        (x.active = true ∧ x.run = run → Gives (.routineDispatch q (.resp t run ws)) s fun d => d.thread q t = { x with resp := x.resp ++ [ws] } ∧ others d t ∧
          d = { s.dev with seq := { s.dev.seq with threads := d.seq.threads } }) ∧
        ((x.active = false ∨ x.run ≠ run) → same (.routineDispatch q (.resp t run ws))))) ∧
    (∀ t : Fin 32,
      let x := s.dev.thread q t
      let due := x.active = true ∧ ∃ e, x.timer = some e ∧ e ≤ s.dev.now
      (due → Gives (.threadTimerExpiry q t) s fun d => d.thread q t = { x with timer := none, expired := true } ∧ others d t ∧ d = { s.dev with seq := { s.dev.seq with threads := d.seq.threads } }) ∧
      (¬due → same (.threadTimerExpiry q t)))) ∧
  (∀ (s : State) (m : Fin 8) (who : Requester), s.dev.live 1 = true →
    let holder := s.dev.seq.holder.get (fun _ => none) m.val
    let k : Claim := { m := m, code := reqCode who }
    let rest (d : Dev) : Prop := d.cmds = s.dev.cmds ∧ d.buf = s.dev.buf ∧ d.dma = s.dev.dma ∧ d.rng = s.dev.rng ∧ d.seq.threads = s.dev.seq.threads ∧ d.seq.ctx = s.dev.seq.ctx ∧
      ∀ i : Nat, i ≠ m.val → d.seq.holder.get (fun _ => none) i = s.dev.seq.holder.get (fun _ => none) i
    let held (d : Dev) (c : Nat) : Prop := d.seq.holder.get (fun _ => none) m.val = some c ∧ d.flag (F.SEQ_MUTEX_HELD m) = true ∧ d.fld (F.SEQ_MUTEX_OWNER m) = c
    (holder = none → s.dev.seq.claims = [] → Gives (.mutexClaimWrite m who) s fun d => held d (reqCode who) ∧ d.seq.claims = [] ∧ rest d) ∧
    (holder.isSome = true → k ∉ s.dev.seq.claims → Gives (.mutexClaimWrite m who) s fun d => d.seq.holder = s.dev.seq.holder ∧ d.seq.claims = s.dev.seq.claims ++ [k] ∧ rest d) ∧
    (k ∈ s.dev.seq.claims → Gives (.mutexClaimWrite m who) s fun d => d.seq = s.dev.seq ∧ rest d) ∧
    (holder = some (reqCode who) → (∀ y ∈ s.dev.seq.claims, y.m ≠ m.val) → Gives (.mutexReleaseWrite m who) s fun d =>
      d.seq.holder.get (fun _ => none) m.val = none ∧ d.flag (F.SEQ_MUTEX_HELD m) = false ∧ d.seq.claims = s.dev.seq.claims ∧ rest d) ∧
    (∀ c, holder = some (reqCode who) → s.dev.seq.claims = [{ m := m, code := c }] → c < 16 → Gives (.mutexReleaseWrite m who) s fun d => held d c ∧ d.seq.claims = [] ∧ rest d) ∧
    (holder ≠ some (reqCode who) → Gives (.mutexReleaseWrite m who) s fun d => d.seq = s.dev.seq ∧ d.flag (F.SEQ_MUTEX_HELD m) = s.dev.flag (F.SEQ_MUTEX_HELD m) ∧ rest d)) ∧
  (∀ (s : State) (q : Fin 8) (v : BitVec 16) (who : Requester), s.dev.live 1 = true →
    let flags (c : Instr) (x : Nat) : Prop := Gives c s fun d => d.fld (F.SEQ_FLAGS_FLAGS q) = x ∧ (∀ i : Fin 8, i ≠ q → d.fld (F.SEQ_FLAGS_FLAGS i) = s.dev.fld (F.SEQ_FLAGS_FLAGS i)) ∧ d.seq = s.dev.seq ∧
      d.cmds = s.dev.cmds ∧ d.buf = s.dev.buf ∧ d.dma = s.dev.dma
    let old := s.dev.fld (F.SEQ_FLAGS_FLAGS q)
    (¬ (s.dev.v = true ∧ q = 5) → flags (.flagSetWrite q v who) (old ||| v.toNat) ∧ flags (.flagClearWrite q v who) (old &&& (65535 ^^^ v.toNat))) ∧
    (s.dev.v = true → q = 5 → flags (.flagSetWrite q v who) old ∧ flags (.flagClearWrite q v who) old))

/-! ## Flash -/

/-- R441, R443 to R448, R451, R453, R455, R456, R458, Table 15.2: a READ puts the word and its status into the slot, or waits behind its bank; a busy slot's GO has no effect but its event; a PROGRAM or ERASE that a check refuses ends with that check's status, else it starts in its bank or
waits for it; SUSPEND stops an erase that has run 1 ms, RESUME takes it up; a reserved OP ends with its status. (Model choices in it: log entries 8, 47, 70.) -/
def Obligations.FlashOperationsRunOrAreRefused : Prop :=
  ∀ (s : State) (i : Fin 9) (flips : List Nat) (op : Fin 3), s.dev.live 1 = true →
    let w := s.dev.opWord i
    let k := w / 2048 / 512
    let b := s.dev.bank k
    let other := s.dev.bank (1 - k)
    let st (d : Dev) : Nat := d.fld (F.FLC_OP_STAT_STATUS i)
    let ended (d : Dev) : Prop := d.flag (F.FLC_OP_STAT_BUSY i) = false ∧ d.flag (F.FLC_OP_STAT_DONE i) = true
    let ends (c : Instr) (x : Nat) : Prop := Gives c s fun d => ended d ∧ st d = x ∧ d = { s.dev with regs := d.regs, cnt := d.cnt, log := d.log, lost := d.lost, hst := d.hst }
    let cmds := [Instr.flashRead i flips, .flashProgram i, .flashErase i, .flashSuspend i, .flashResume i, .flashBadOp i op]
    (s.dev.flag (F.FLC_OP_STAT_BUSY i) = true → ∀ c ∈ cmds, Gives c s fun d => (∀ y, y ≠ 0x0A000060 → d.word y = s.dev.word y) ∧ d.counter .flc 9 = s.dev.counter .flc 9 + 1 ∧
      d = { s.dev with regs := d.regs, cnt := d.cnt, log := d.log, lost := d.lost, hst := d.hst }) ∧
    (s.dev.flag (F.FLC_OP_STAT_BUSY i) = false →
      (s.dev.flag F.FLC_STAT_READY = false → ∀ c ∈ cmds, ends c 0x1C) ∧
      (s.dev.flag F.FLC_STAT_READY = true →
        (let waits := b.run.isSome = true ∧ b.susp = .none
         let armed := s.dev.flag F.FLC_INJECT_ARM = true ∧ s.dev.fld F.FLC_INJECT_KIND ≤ 1
         let bit := s.dev.fld F.FLC_INJECT_BIT
         let r := fwordRead (s.dev.fword w) (if armed then (if s.dev.fld F.FLC_INJECT_KIND = 0 then bit :: flips else bit :: (bit + 1) :: flips) else flips)
         (waits → Gives (.flashRead i flips) s fun d => d.flag (F.FLC_OP_STAT_BUSY i) = true ∧ d.bank k = { b with reads := b.reads ++ [(i.val, w)] } ∧ d.bank (1 - k) = other ∧
           d.flc.words = s.dev.flc.words ∧ d = { s.dev with flc := d.flc, regs := d.regs }) ∧
         (¬waits → (s.dev.xoRegion (w / 2048)).isSome = true → Gives (.flashRead i flips) s fun d => ended d ∧ st d = 4 ∧ d.slotBytes i = List.replicate 32 0 ∧
           d.counter .flc 10 = s.dev.counter .flc 10 + 1 ∧ d = { s.dev with regs := d.regs, cnt := d.cnt, log := d.log, lost := d.lost, hst := d.hst }) ∧
         (¬waits → s.dev.xoRegion (w / 2048) = none → (∀ data, s.dev.fword w = .prog data → data.length = 32) → Gives (.flashRead i flips) s fun d => ended d ∧ st d = r.1 ∧ d.slotBytes i = r.2.1 ∧
           d.counter .flc 0 = s.dev.counter .flc 0 + 1 ∧ d = { s.dev with regs := d.regs, cnt := d.cnt, mem := d.mem, log := d.log, lost := d.lost, hst := d.hst })) ∧
        (∀ r, s.dev.writeRefusal i (w / 2048) false = some r → ends (.flashProgram i) r) ∧ (∀ r, s.dev.writeRefusal i (w / 2048) true = some r → ends (.flashErase i) r) ∧
        (i = 8 → ∀ c ∈ [Instr.flashProgram i, .flashErase i, .flashSuspend i, .flashResume i, .flashBadOp i op], ends c 0x14) ∧
        (s.dev.writeRefusal i (w / 2048) false = none →
          (b.run = none → s.dev.fword w = .erased → Gives (.flashProgram i) s fun d => d.flag (F.FLC_OP_STAT_BUSY i) = true ∧
            d.bank k = { b with run := some { slot := i, erase := false, at_ := w, data := s.dev.slotBytes i, since := s.dev.now } } ∧ d.bank (1 - k) = other ∧ d.flc.words = s.dev.flc.words ∧
            d.counter .flc 3 = s.dev.counter .flc 3 + 1 ∧ d = { s.dev with flc := d.flc, regs := d.regs, cnt := d.cnt }) ∧
          (b.run = none → s.dev.fword w ≠ .erased → ends (.flashProgram i) 0x10) ∧
          (b.run ≠ none → Gives (.flashProgram i) s fun d => d.flag (F.FLC_OP_STAT_BUSY i) = true ∧
            d.bank k = { b with wait := b.wait ++ [{ slot := i, erase := false, at_ := w, data := s.dev.slotBytes i }] } ∧ d.flc.words = s.dev.flc.words ∧ d = { s.dev with flc := d.flc, regs := d.regs })) ∧
        (s.dev.writeRefusal i (w / 2048) true = none →
          let may := b.run = none ∧ other.erasing = false ∧ s.dev.pwr.pf = none
          (may → Gives (.flashErase i) s fun d => d.flag (F.FLC_OP_STAT_BUSY i) = true ∧ (d.bank k).run = some { slot := i, erase := true, at_ := w / 2048, seq := s.dev.flc.intentSeq, since := s.dev.now } ∧
            (d.bank k).susp = .none ∧ d.bank (1 - k) = other ∧ (∀ y data, y / 2048 = w / 2048 → d.fword y ≠ .prog data) ∧ d.counter .flc 5 = s.dev.counter .flc 5 + 1 ∧
            d = { s.dev with flc := d.flc, regs := d.regs, cnt := d.cnt }) ∧
          (¬may → Gives (.flashErase i) s fun d => d.flag (F.FLC_OP_STAT_BUSY i) = true ∧ d.bank k = { b with wait := b.wait ++ [{ slot := i, erase := true, at_ := w / 2048 }] } ∧
            d.bank (1 - k) = other ∧ d.flc.words = s.dev.flc.words ∧ d = { s.dev with flc := d.flc, regs := d.regs })) ∧
        (i ≠ 8 →
          let held := s.dev.flag F.FLC_STAT_EXEC = true ∧ s.dev.fld F.FLC_STAT_EXEC_BANK = k
          ends (.flashBadOp i op) 0x19 ∧ (held → ends (.flashSuspend i) 0x12 ∧ ends (.flashResume i) 0x12) ∧
          (¬held →
            ((∀ o, b.run = some o → o.erase = false ∨ b.susp = .slot) → ends (.flashSuspend i) 0x17) ∧
            ((b.run = none ∨ b.susp ≠ .slot) → ends (.flashResume i) 0x17) ∧
            (∀ o, b.run = some o → o.erase = true → b.susp = .none → s.dev.now < o.since + 1000000 → ends (.flashSuspend i) 0x16) ∧
            (∀ o, b.run = some o → o.erase = true → b.susp ≠ .slot → (b.susp = .none → o.since + 1000000 ≤ s.dev.now) → Gives (.flashSuspend i) s fun d =>
              d.bank k = { b with susp := .slot, reads := [] } ∧ d.bank (1 - k) = other ∧ d.flc.words = s.dev.flc.words ∧ (b.reads = [] → ended d ∧ st d = 0) ∧
              d = { s.dev with flc := d.flc, regs := d.regs, cnt := d.cnt, mem := d.mem, log := d.log, lost := d.lost, hst := d.hst }) ∧
            (∀ o, b.run = some o → b.susp = .slot → Gives (.flashResume i) s fun d => ended d ∧ st d = 0 ∧ d.bank k = { b with run := some { o with since := s.dev.now }, susp := .none } ∧
              d.bank (1 - k) = other ∧ d.flc.words = s.dev.flc.words ∧ d = { s.dev with flc := d.flc, regs := d.regs })))))

/-- R446 to R450, R452, R454, R458, R462: a verify that passes ends a PROGRAM with the word written or an ERASE with the sector erased and its COMPLETE record, the last pulse that fails declares the die failed; a waiting read suspends an erase, which resumes; the scan of the INTENT records makes
FLC ready and redoes an interrupted erase; an execution opens on a region, fetches and is stopped. (Model choices in it: log entries 8, 10, 41, 47, 48, 60, 70.) -/
def Obligations.FlashVerifiesScansAndExecutes : Prop :=
  (∀ (s : State) (k : Fin 2) (ok : Bool), s.dev.live 1 = true →
    let b := s.dev.bank k
    let only (d : Dev) : Prop := d = { s.dev with flc := d.flc, regs := d.regs, cnt := d.cnt, mem := d.mem, log := d.log, lost := d.lost, hst := d.hst }
    let same (c : Instr) : Prop := Gives c s fun d => d = s.dev
    (b.run = none → same (.flashProgramVerify k ok) ∧ same (.flashEraseVerify k ok) ∧ same (.flashAutoSuspend k) ∧ same (.flashAutoResume k)) ∧
    (∀ o, b.run = some o →
      let ends (d : Dev) (st : Nat) : Prop := (d.bank k).run = none ∧ d.flag (F.FLC_OP_STAT_BUSY o.slot) = false ∧ d.flag (F.FLC_OP_STAT_DONE o.slot) = true ∧ d.fld (F.FLC_OP_STAT_STATUS o.slot) = st
      let next := { o with pulses := o.pulses + 1 }
      let idle := o.slot < 9 ∧ ∀ j, (s.dev.bank j).wait = [] ∧ (s.dev.bank j).reads = []
      (o.erase = true → same (.flashProgramVerify k ok)) ∧ ((o.erase = false ∨ b.susp ≠ .none) → same (.flashEraseVerify k ok)) ∧
      (o.erase = false →
        let inj := s.dev.flag F.FLC_INJECT_ARM = true ∧ s.dev.fld F.FLC_INJECT_KIND = 2
        let writes (v : FWord) (d : Dev) : Prop := d.fword o.at_ = v ∧ (∀ y, y ≠ o.at_ → d.fword y = s.dev.fword y) ∧ d.counter .flc 4 = s.dev.counter .flc 4 + 1 ∧ only d
        (idle → ok = true → ¬inj → Gives (.flashProgramVerify k ok) s fun d => writes (.prog o.data) d ∧ ends d 0) ∧
        ((ok = false ∨ inj) → o.pulses < 7 → Gives (.flashProgramVerify k ok) s fun d => writes .torn d ∧ d.bank k = { b with run := some next } ∧ d.regs = s.dev.regs) ∧
        (idle → (ok = false ∨ inj) → 7 ≤ o.pulses → Gives (.flashProgramVerify k ok) s fun d => writes .torn d ∧ ends d 0x11 ∧ d.flag F.FLC_STAT_FAILED = true)) ∧
      (o.erase = true → b.susp = .none →
        (idle → ok = true → o.at_ / 512 = k.val → s.dev.flc.isect0 < 2 → s.dev.flc.isect1 < 2 → s.dev.flc.iword0 < 2046 → s.dev.flc.iword1 < 2046 → Gives (.flashEraseVerify k ok) s fun d =>
          let at_ := (512 * (1 - k.val) + if k = 1 then s.dev.flc.isect0 else s.dev.flc.isect1) * 2048 + if k = 1 then s.dev.flc.iword0 else s.dev.flc.iword1
          (∀ y, y / 2048 = o.at_ → d.fword y = .erased) ∧ d.fword at_ = .prog (intentBytes 2 o.at_ o.seq s.dev.now) ∧ (∀ y, y / 2048 ≠ o.at_ → y ≠ at_ → d.fword y = s.dev.fword y) ∧
          ends d 0 ∧ d.counter .flc 6 = s.dev.counter .flc 6 + 1 ∧ only d) ∧
        (ok = false → o.pulses < 39 → Gives (.flashEraseVerify k ok) s fun d => d.flc.words = s.dev.flc.words ∧ d.bank k = { b with run := some next } ∧ d.regs = s.dev.regs ∧ only d) ∧
        (idle → ok = false → 39 ≤ o.pulses → Gives (.flashEraseVerify k ok) s fun d => d.flag F.FLC_STAT_FAILED = true ∧ ends d 0x11 ∧ d.flc.words = s.dev.flc.words ∧ only d)) ∧
      (let due := s.dev.flag F.FLC_CTRL_AUTO_SUSP = true ∧ o.erase = true ∧ b.susp = .none ∧ b.reads ≠ [] ∧ o.since + 1000000 ≤ s.dev.now
       (¬due → same (.flashAutoSuspend k)) ∧
       (due → Gives (.flashAutoSuspend k) s fun d => d.bank k = { b with susp := .auto s.dev.now, reads := [] } ∧ d.flc.words = s.dev.flc.words ∧ d.counter .flc 8 = s.dev.counter .flc 8 + 1 ∧
         (∀ (i : Fin 9) w, b.reads = [(i.val, w)] → d.flag (F.FLC_OP_STAT_BUSY i) = false ∧ d.flag (F.FLC_OP_STAT_DONE i) = true) ∧ only d)) ∧
      (let due := ∃ t, b.susp = .auto t ∧ (b.reads = [] ∨ t + 1000 * s.dev.fld F.FLC_CTRL_AUTO_MAX_US ≤ s.dev.now)
       (¬due → same (.flashAutoResume k)) ∧
       (due → Gives (.flashAutoResume k) s fun d => d.bank k = { b with run := some { o with since := s.dev.now }, susp := .none } ∧ d.bank (1 - k.val) = s.dev.bank (1 - k.val) ∧
         d.flc.words = s.dev.flc.words ∧ d = { s.dev with flc := d.flc })))) ∧
  (∀ s : State, s.dev.live 1 = true →
    (s.dev.flag F.FLC_STAT_READY = true → Gives .flashIntentScan s fun d => d = s.dev) ∧
    (s.dev.flag F.FLC_STAT_READY = false → Gives .flashIntentScan s (fun d => d.flag F.FLC_STAT_READY = true ∧
        d = { s.dev with flc := d.flc, regs := d.regs, cnt := d.cnt, log := d.log, lost := d.lost, hst := d.hst }) ∧
      (s.dev.interrupted = [] → Gives .flashIntentScan s fun d => d.flc.words = s.dev.flc.words ∧ (d.flc.isect0, d.flc.iword0) = s.dev.intentPoint 0 ∧
        (d.flc.isect1, d.flc.iword1) = s.dev.intentPoint 1 ∧ d = { s.dev with flc := d.flc, regs := d.regs }) ∧
      (∀ x n t, s.dev.interrupted = [(x, n, t)] → s.dev.flag F.FLC_STAT_FAILED = false → s.dev.flag F.FLC_STAT_EXEC = false → (∀ j, (s.dev.bank j).suspended = false) → x < 1024 → 2 ≤ x % 512 →
        (s.dev.intentPoint 0).2 < 2044 → (s.dev.intentPoint 1).2 < 2044 → Gives .flashIntentScan s fun d => (∀ y, y / 2048 = x → d.fword y = .erased) ∧ d.counter .flc 12 = s.dev.counter .flc 12 + 1)) ∧
    (∀ r : Fin 8,
      let k := s.dev.fld (F.FLC_XO_FIRST r) / 512
      let busy := s.dev.flag F.FLC_STAT_EXEC = true ∨ (s.dev.bank k).programming = true ∨ (s.dev.bank k).erasing = true
      (busy → Gives (.flashExecStart r) s fun d => d.counter .flc 9 = s.dev.counter .flc 9 + 1 ∧ d.flag F.FLC_STAT_EXEC = s.dev.flag F.FLC_STAT_EXEC ∧
        d = { s.dev with free := d.free, regs := d.regs, cnt := d.cnt, log := d.log, lost := d.lost, hst := d.hst }) ∧
      (¬busy → Gives (.flashExecStart r) s fun d => d.flag F.FLC_STAT_EXEC = true ∧ d.fld F.FLC_STAT_EXEC_BANK = k ∧ d.flc = { s.dev.flc with region := some r.val } ∧
        d = { s.dev with flc := d.flc, regs := d.regs })) ∧
    (s.dev.flag F.FLC_STAT_EXEC = true → Gives .flashExecStop s fun d => d.flag F.FLC_STAT_EXEC = false ∧ d.flc = { s.dev.flc with region := none } ∧ d = { s.dev with flc := d.flc, regs := d.regs }) ∧
    (s.dev.flag F.FLC_STAT_EXEC = false → Gives .flashExecStop s fun d => d = s.dev) ∧
    (∀ (w : Fin 2097152) (flips : List Nat),
      let in_ := s.dev.flag F.FLC_STAT_EXEC = true ∧ ∃ r, s.dev.flc.region = some r ∧ s.dev.xoRegion (w.val / 2048) = some r
      (¬in_ → Gives (.flashExecFetch w flips) s fun d => d = s.dev) ∧
      (in_ → Gives (.flashExecFetch w flips) s fun d => d.counter .flc 11 = s.dev.counter .flc 11 + 1 ∧ d.flc = s.dev.flc ∧
        (flips = [] → s.dev.flag F.FLC_INJECT_ARM = false → s.dev.fword w ≠ .torn → d = { s.dev with cnt := d.cnt }) ∧
        d = { s.dev with regs := d.regs, cnt := d.cnt, mem := d.mem, log := d.log, lost := d.lost, hst := d.hst })))

/-! ## Image, power, kennel, resets -/

/-- R465 to R470, R491: without READY of FLC, or with an image loaded, a load does nothing; a copy that is proved and applied is loaded, LOAD.COPY names it and LOADGEN holds its generation; a copy that is not gives its reason and the next
one is tried; with no copy left the device starts with no image and LOAD.COPY 0. The copies are those activated, the newer first, or, in a kennel restart whose state was kept, the one loaded before. (Model choices in it: log entries 4, 6, 8, 10, 14, 40, 49, 50.) -/
def Obligations.ImageLoadAppliesOrStartsWithout : Prop :=
  ∀ s : State, s.dev.live 1 = true →
    ((s.dev.load.loaded = true ∨ s.dev.load.minimal = true ∨ s.dev.flag F.FLC_STAT_READY = false) → Gives .imageLoad s fun d => d = s.dev) ∧
    (s.dev.load.loaded = false → s.dev.load.minimal = false → s.dev.flag F.FLC_STAT_READY = true →
      let again := s.dev.pwr.restart && s.dev.pwr.ret.isSome
      let cands := if again then s.dev.loadedCopy.toList else s.dev.candidates
      let rest (k : Nat) : Nat := if again = true ∨ (s.dev.candidate k).isSome then 0 else 1
      let reason (d : Dev) (k : Nat) : Nat := d.fld (if k = 0 then F.FAB_LOAD_REASON_A else F.FAB_LOAD_REASON_B)
      let without (d : Dev) : Prop := d.load.minimal = true ∧ d.fld F.FAB_LOAD_COPY = 0 ∧ d.pwr.restart = false ∧ d.pwr.ret = none ∧
        ∀ q, q < 4 → (d.fld F.SEQ_STAT_PRESENT).testBit q = true → d.flag (F.SEQ_SSTAT_RUN q) = true
      let loads (k : Nat) (h : ImgHeader) (d : Dev) : Prop := d.load.loaded = true ∧ d.fld F.FAB_LOAD_COPY = k + 1 ∧ d.fld F.FAB_LOADGEN_GEN = h.gen % 2 ^ 32 ∧ reason d k = 0 ∧
        d.pwr.restart = false ∧ d.pwr.ret = none
      (cands = [] → Gives .imageLoad s fun d => without d ∧ d.load.loaded = false ∧ reason d 0 = rest 0 ∧ reason d 1 = rest 1 ∧
        d = { s.dev with free := d.free, regs := d.regs, log := d.log, lost := d.lost, hst := d.hst, load := d.load, pwr := d.pwr }) ∧
      (∀ k, k < 2 → cands = [k] → s.dev.imgHeader k = none → Gives .imageLoad s fun d => without d ∧ reason d k = 1 ∧ reason d (1 - k) = rest (1 - k)) ∧
      (∀ (k : Nat) (h h' : ImgHeader) (ss : List Section), k < 2 → cands = [k] → s.dev.imgHeader k = some h → s.dev.proveCopy k h = .good h' ss →
        ((s.dev.applyImage ss).2 = 0 → Gives .imageLoad s fun d => loads k h' d ∧ reason d (1 - k) = rest (1 - k)) ∧
        (∀ r, (s.dev.applyImage ss).2 = r → r ≠ 0 → r < 16 → Gives .imageLoad s fun d => without d ∧ reason d k = r ∧ reason d (1 - k) = rest (1 - k))) ∧
      (∀ (k : Nat) (h : ImgHeader) (r : Nat), k < 2 → r < 16 → r ≠ 0 → cands = [k] → s.dev.imgHeader k = some h → s.dev.proveCopy k h = .bad r → Gives .imageLoad s fun d =>
        without d ∧ reason d k = r ∧ reason d (1 - k) = rest (1 - k)) ∧
      (∀ (j : Nat) (h : ImgHeader) (r : Nat) (h2 h2' : ImgHeader) (ss : List Section), j < 2 → r < 16 → r ≠ 0 → cands = [j, 1 - j] → s.dev.imgHeader j = some h → s.dev.proveCopy j h = .bad r →
        let next := s.dev.rejectCopy (.bad r)
        next.imgHeader (1 - j) = some h2 → next.proveCopy (1 - j) h2 = .good h2' ss → (next.applyImage ss).2 = 0 → Gives .imageLoad s fun d => loads (1 - j) h2' d ∧ reason d j = r))

/-- R485, R488, R490, R494 to R496, R507, R554: with the target reached nothing moves, from KENNEL a move never leads, and from state 0 to state 1 the caps fall and the device arrives; the spindle's bound lets the move go on; a head request is granted
while caps and budget hold and waits otherwise, behind one that waits, for a head already granted or where injection holds it; a release withdraws; the governor follows the core supply; released pads of domains that are on are
no longer held. (Model choices in it: log entries 7, 8, 10, 51, 52, 70.) -/
def Obligations.PowerMovesAndHeadGrants : Prop :=
  (∀ s : State, s.dev.live 0 = true →
    ((s.dev.pwr.pf.isSome = true ∨ s.dev.pwr.held = true ∨ s.dev.pwr.restart = true) → Gives .powerMoveStep s fun d => d = { s.dev with cnt := d.cnt, pwr := { s.dev.pwr with msAt := d.pwr.msAt } }) ∧
    (s.dev.pwr.pf = none → s.dev.pwr.held = false → s.dev.pwr.restart = false → s.dev.pwr.mv = none →
      ((s.dev.targetState = s.dev.pstate ∨ s.dev.pstate = 4) → Gives .powerMoveStep s fun d => d.pstate = s.dev.pstate ∧ d.pwr = { s.dev.pwr with msAt := d.pwr.msAt } ∧
        d.fld F.PWR_STAT_TARGET = s.dev.targetState % 8 ∧ d = { s.dev with regs := d.regs, cnt := d.cnt, pwr := d.pwr }) ∧
      (s.dev.pstate = 0 → s.dev.targetState = 1 → Gives .powerMoveStep s fun d => d.pstate = 1 ∧ d.pwr.mv = none ∧ d.pwr.caps = 1 ∧ d.flag F.PWR_STAT_MOVING = false))) ∧
  (∀ s : State, s.dev.live 0 = true →
    let due (m : MoveS) : Prop := s.dev.pwr.mv = some m ∧ m.step = 4 ∧ m.up = false ∧ m.begun = true ∧ m.ends ≤ s.dev.now ∧ s.dev.spinState ≠ 0
    ((∀ m, ¬due m) → Gives .spindleStopTimeout s fun d => d = s.dev) ∧
    (∀ m, due m → m.hi = 2 →
      (s.dev.targetState = 3 → Gives .spindleStopTimeout s fun d => d.pwr = { s.dev.pwr with mv := some { m with step := 5, begun := false } } ∧
        d = { s.dev with pwr := d.pwr, regs := d.regs, log := d.log, lost := d.lost, hst := d.hst }) ∧
      (s.dev.targetState = 4 → s.dev.heldRuns.1 = 0 → m.stay = false → s.dev.pstate = 2 → Gives .spindleStopTimeout s fun d => d.pstate = 3 ∧
        ∃ m', d.pwr.mv = some m' ∧ m'.hi = 3 ∧ m'.step = 1 ∧ m'.up = false ∧ m'.begun = false))) ∧
  (∀ (s : State) (n : Fin 20) (who : Requester), s.dev.live 0 = true →
    let requests := [Instr.headRequestRead n who, .headRequestWrite n who]
    let only (d : Dev) : Prop := d = { s.dev with regs := d.regs, cnt := d.cnt, pwr := { s.dev.pwr with grants := d.pwr.grants, waitq := d.pwr.waitq }, log := d.log, lost := d.lost, hst := d.hst }
    let waits (wr : Bool) (d : Dev) : Prop := d.pwr.grants = s.dev.pwr.grants ∧ d.pwr.waitq = s.dev.pwr.waitq ++ [(n.val, wr)] ∧ d.counter .pwr 8 = s.dev.counter .pwr 8 + 1 ∧ only d
    let none_ := s.dev.v = true ∧ 10 ≤ n.val
    let kept := s.dev.fits s.dev.grantsRd s.dev.grantsWr = true
    let inj := s.dev.flag F.PWR_INJECT_ARM = true ∧ s.dev.fld F.PWR_INJECT_KIND = 1
    (none_ → (∀ c ∈ .headRelease n who :: requests, Gives c s fun d => d.pwr = s.dev.pwr ∧ d.fld F.PWR_GRANTMAP_HEADS = s.dev.fld F.PWR_GRANTMAP_HEADS ∧
      d = { s.dev with regs := d.regs, log := d.log, lost := d.lost, hst := d.hst })) ∧
    (¬none_ →
      (inj → Gives (.headRequestRead n who) s (fun d => waits false d ∧ d.flag F.PWR_INJECT_ARM = false) ∧ Gives (.headRequestWrite n who) s (fun d => waits true d ∧ d.flag F.PWR_INJECT_ARM = false)) ∧
      (¬inj → kept →
        (s.dev.pwr.waitq = [] → (∀ wr, (n.val, wr) ∉ s.dev.pwr.grants) →
          (s.dev.fits (s.dev.grantsRd + 1) s.dev.grantsWr = true → Gives (.headRequestRead n who) s fun d => d.pwr.grants = s.dev.pwr.grants ++ [(n.val, false)] ∧ d.pwr.waitq = [] ∧
            d.counter .pwr 6 = s.dev.counter .pwr 6 + 1 ∧ only d) ∧
          (s.dev.fits (s.dev.grantsRd + 1) s.dev.grantsWr = false → Gives (.headRequestRead n who) s (waits false)) ∧
          (s.dev.fits s.dev.grantsRd (s.dev.grantsWr + 1) = true → Gives (.headRequestWrite n who) s fun d => d.pwr.grants = s.dev.pwr.grants ++ [(n.val, true)] ∧ d.pwr.waitq = [] ∧
            d.counter .pwr 7 = s.dev.counter .pwr 7 + 1 ∧ only d) ∧
          (s.dev.fits s.dev.grantsRd (s.dev.grantsWr + 1) = false → Gives (.headRequestWrite n who) s (waits true))) ∧
        (s.dev.pwr.waitq = [] → (∃ wr, (n.val, wr) ∈ s.dev.pwr.grants) → Gives (.headRequestRead n who) s (waits false) ∧ Gives (.headRequestWrite n who) s (waits true)) ∧
        (∀ m wr rest, s.dev.pwr.waitq = (m, wr) :: rest → s.dev.fits (s.dev.grantsRd + (!wr).toNat) (s.dev.grantsWr + wr.toNat) = false →
          Gives (.headRequestRead n who) s (waits false) ∧ Gives (.headRequestWrite n who) s (waits true))) ∧
      (s.dev.pwr.waitq = [] → Gives (.headRelease n who) s fun d => (∀ g ∈ d.pwr.grants, g.1 ≠ n.val ∧ g ∈ s.dev.pwr.grants) ∧ d.pwr.waitq = [] ∧ only d))) ∧
  (∀ s : State, s.dev.live 0 = true →
    let only (d : Dev) : Prop := d = { s.dev with regs := d.regs, cnt := d.cnt, pwr := { s.dev.pwr with grants := d.pwr.grants, waitq := d.pwr.waitq }, log := d.log, lost := d.lost, hst := d.hst }
    (∀ meas : BitVec 7, Gives (.vcoreThresholdCross meas) s fun d => d.fld F.KNL_VCORE_MEAS = meas.toNat ∧ only d ∧
      (s.dev.pwr.grants = [] → s.dev.pwr.waitq = [] → d = { s.dev with regs := d.regs })) ∧
    (∀ (v : Word) (who : Requester), Gives (.padReleaseWrite v who) s fun d =>
      (∀ k, k < 9 → (d.fld F.PWR_STAT_HOLD).testBit k = ((s.dev.fld F.PWR_STAT_HOLD).testBit k && !(v.toNat.testBit k && s.dev.on k))) ∧
      d = { s.dev with regs := d.regs, log := d.log, lost := d.lost, hst := d.hst }))

/-- R485, R491, R497 to R503, R538, R543 to R545, R547: kennel power starts TBASE and the core regulator; its loss leaves what is in flash; CORE_PG resets the device or ends its restart, late it is logged once, and its fall
holds the core; a wake source that is enabled wakes the device from KENNEL, or waits where the move to KENNEL runs; the composite temperature raises and ends its warning; the functions' power states vote; a power failure asks for the flush and, once the heads are parked,
ends in KENNEL. (Model choices in it: log entries 7, 8, 9, 10, 39, 52, 53, 54, 55, 56, 70.) -/
def Obligations.KennelWakesWarnsAndFails : Prop :=
  (∀ s : State,
    (s.dev.pwr.kennel = true → Gives .kennelPowerOn s fun d => d = s.dev) ∧
    (s.dev.pwr.kennel = false → Gives .kennelPowerOn s fun d => d.tbase = 0 ∧ d.pwr.kennel = true ∧ d.pwr.coreEn = true ∧ d.pwr.vid = s.dev.fld F.KNL_VCORE_VSET_HI ∧ d.pwr.pgAt = none ∧
      d.flag F.KNL_TBASE_STAT_RUNNING = true ∧ d.fld F.PWR_STAT_ON = 1 ∧ d = { s.dev with tbase := 0, regs := d.regs, pwr := d.pwr })) ∧
  (∀ s : State, s.dev.live 0 = true →
    let same (c : Instr) : Prop := Gives c s fun d => d = s.dev
    (∀ vaux : Bool, Gives (.kennelSupplySwitch vaux) s fun d => d = { s.dev with pwr := { s.dev.pwr with vaux := vaux } }) ∧
    Gives .kennelPowerLost s (fun d => d.pwr.kennel = false ∧ d.pwr.coreEn = false ∧ d.fld F.PWR_STAT_ON = 0 ∧ d.zne.cache = [] ∧ d.cmds = [] ∧ d.sec.keys = [] ∧ d.sec.wrapped = s.dev.sec.wrapped ∧
      d.log.recs = [] ∧ d.tbase = 0 ∧ d.v = s.dev.v ∧ ((s.dev.bank 0).run = none → (s.dev.bank 1).run = none → d.flc.words = s.dev.flc.words)) ∧
    ((s.dev.pwr.coreEn = false ∨ s.dev.pwr.pgAt.isSome = true) → same .corePgRise) ∧
    (s.dev.pwr.coreEn = true → s.dev.pwr.pgAt = none →
      (s.dev.pwr.restart = false → Gives .corePgRise s fun d => d.pwr.pgAt = some s.dev.now ∧ d.pwr.held = false ∧ d.cmds = [] ∧ d.zne.cache = [] ∧ d.load = {} ∧
        d.log.recs = s.dev.log.recs ∧ d.log.count = s.dev.log.count ∧ d.tbase = s.dev.tbase ∧ d.sec.keys = []) ∧
      (s.dev.pwr.restart = true → Gives .corePgRise s fun d => d.pwr.pgAt = some s.dev.now ∧ d.pwr.mv = none ∧ d.cmds = [] ∧ d.pstate = (if d.targetState ≤ 2 then 2 else 3) ∧
        d.tbase = s.dev.tbase)) ∧
    (let due := s.dev.pwr.coreEn = true ∧ s.dev.pwr.pgAt = none ∧ s.dev.pwr.late = false ∧ s.dev.pwr.enAt + 100000000 ≤ s.dev.now
     (due → Gives .corePgLate s fun d => d.pwr = { s.dev.pwr with late := true } ∧ d = { s.dev with pwr := d.pwr, log := d.log, lost := d.lost, regs := d.regs, hst := d.hst }) ∧ (¬due → same .corePgLate)) ∧
    (s.dev.pwr.coreEn = true → s.dev.pwr.pgAt.isSome = true → Gives .corePgFall s fun d => d.pwr.held = true ∧ d.pwr.pgAt = none ∧ d.pwr.pf = none ∧ d.pwr.mv = none ∧ d.pwr.restart = false ∧
      d.fld F.PWR_STAT_HOLD = 0x1FE ∧ d.flag F.BUF_STAT_READY = false ∧ d.zne.cache = [] ∧ d.live 1 = false ∧ d.flc = s.dev.flc ∧ d.sec = s.dev.sec ∧ d.tbase = s.dev.tbase) ∧
    ((s.dev.pwr.coreEn = false ∨ s.dev.pwr.pgAt = none) → same .corePgFall) ∧
    (∀ (tj : Byte) (sensor : Fin 8),
      let shows (d : Dev) : Prop := d.fld F.KNL_TEMP_TJ = tj.toNat ∧ d.fld F.KNL_TEMP_TJ_PEAK = max tj.toNat (s.dev.fld F.KNL_TEMP_TJ_PEAK)
      let logs (d : Dev) : Prop := shows d ∧ d = { s.dev with regs := d.regs, pwr := { s.dev.pwr with hotSince := d.pwr.hotSince }, log := d.log, lost := d.lost, hst := d.hst }
      let hot := s.dev.hotAt ≤ tj.toNat + 273
      (hot → s.dev.pwr.hotSince = none → Gives (.overTempRise tj sensor) s fun d => d.log.crit = s.dev.log.crit ||| 2 ∧ d.pwr.hotSince = some s.dev.now ∧ logs d) ∧
      ((¬hot ∨ s.dev.pwr.hotSince.isSome = true) → Gives (.overTempRise tj sensor) s fun d => shows d ∧ d = { s.dev with regs := d.regs }) ∧
      (¬hot → s.dev.pwr.hotSince.isSome = true → Gives (.overTempFall tj) s fun d => d.log.crit = s.dev.log.crit &&& 0xFD ∧ d.pwr.hotSince = none ∧ logs d) ∧
      ((hot ∨ s.dev.pwr.hotSince = none) → Gives (.overTempFall tj) s fun d => shows d ∧ d = { s.dev with regs := d.regs })) ∧
    (∀ p : Fin 2,
      ((s.dev.hasCtrl p = false ∨ s.dev.pstate = 4) → same (.perstRelease p)) ∧
      (s.dev.hasCtrl p = true → s.dev.pstate ≠ 4 → Gives (.perstRelease p) s fun d => (d.ctrl p).perst = false ∧ d.fld F.PWR_STAT_TARGET = d.targetState % 8 ∧
        d = { s.dev with hst := d.hst, pwr := d.pwr, regs := d.regs }) ∧
      (s.dev.live 1 = true → ∀ d3 pme, (s.dev.hasCtrl p = false → same (.pciPowerStateWrite p d3 pme)) ∧
        (s.dev.hasCtrl p = true → Gives (.pciPowerStateWrite p d3 pme) s fun d => (d.ctrl p).d3 = d3 ∧ (if p = 0 then d.pwr.pme0 else d.pwr.pme1) = pme ∧
          ((s.dev.ctrl p).trained = true → d3 = true → d.vote p = some 4) ∧ d = { s.dev with hst := d.hst, pwr := d.pwr, regs := d.regs }))) ∧
    (let wakes (c : Instr) (src : Nat) (P : Dev → Prop) : Prop := Gives c s fun d => d.pwr.coreEn = true ∧ d.pwr.restart = true ∧ d.pwr.enAt = s.dev.now ∧ d.pwr.pgAt = none ∧ d.pwr.pend = [] ∧
       d.pwr.vid = s.dev.fld F.KNL_VCORE_VSET_HI ∧ d.pwr.whistle = (src == 5 || src == 6) ∧ d.fld F.PWR_WAKE_LAST = src ∧ d.counter .pwr 10 = s.dev.counter .pwr 10 + 1 ∧ P d ∧
       d = { s.dev with hst := d.hst, pwr := d.pwr, regs := d.regs, cnt := d.cnt, log := d.log, lost := d.lost }
     let enabled (src : Nat) : Prop := (s.dev.fld F.PWR_WAKE_EN).testBit src = true
     let falling := ∃ m, s.dev.pwr.mv = some m ∧ m.hi = 3 ∧ m.up = false
     let asleep (c : Instr) (src : Nat) : Prop := (¬enabled src → same c) ∧
       (enabled src → s.dev.pstate = 4 → (s.dev.pwr.coreEn = true → same c) ∧ (s.dev.pwr.coreEn = false → wakes c src fun _ => True)) ∧
       (enabled src → s.dev.pstate ≠ 4 → (¬falling → same c) ∧
         (falling → Gives c s fun d => d = { s.dev with pwr := { s.dev.pwr with pend := if s.dev.pwr.pend.contains src then s.dev.pwr.pend else s.dev.pwr.pend ++ [src] } }))
     (∀ src : Fin 9,
       ((2 ≤ src.val ∨ s.dev.pstate ≠ 4) → asleep (.wakeSource src) src) ∧
       (src.val < 2 → s.dev.pstate = 4 →
         let high (d : Dev) : Prop := (if src = 0 then d.hst.c0 else d.hst.c1).perst = false
         ((¬enabled src ∨ s.dev.pwr.coreEn = true) → Gives (.wakeSource src) s fun d => high d ∧ d.pwr.coreEn = s.dev.pwr.coreEn ∧ d = { s.dev with hst := d.hst, pwr := d.pwr }) ∧
         (enabled src → s.dev.pwr.coreEn = false → wakes (.wakeSource src) src high))) ∧
     (∀ a : BitVec 7,
       let ours := a.toNat = s.dev.fld F.HST_MI_ADDR ∨ (s.dev.flag F.HST_MI_BMC_EN = true ∧ a.toNat = 0x35)
       ((¬ours ∨ s.dev.pstate ≠ 4) → same (.smbusAddressMatch a)) ∧ (ours → s.dev.pstate = 4 → asleep (.smbusAddressMatch a) 7)) ∧
     (∀ (p : Fin 2) (periods : List Nat),
       let heard := 16 ≤ periods.length ∧ ∀ x ∈ periods.drop (periods.length - 16), 3000 ≤ x ∧ x < 5000
       let c := Instr.whistleDetected p periods
       (¬heard → same c) ∧
       (heard → (s.dev.pstate = 4 ∨ falling) → asleep c (5 + p.val)) ∧
       (heard → s.dev.pstate ≠ 4 → ¬falling →
         (s.dev.on (6 + p.val) = true → same c) ∧
         (s.dev.on (6 + p.val) = false → Gives c s fun d => d.on (6 + p.val) = true ∧ (∀ k, k < 9 → k ≠ 6 + p.val → d.on k = s.dev.on k) ∧
           d = { s.dev with regs := d.regs, cnt := d.cnt, pwr := d.pwr, log := d.log, lost := d.lost, hst := d.hst })))) ∧
    (∀ vb : BitVec 16,
      (s.dev.pwr.pf = none →
        ((s.dev.flag F.SPN_STAT_PF = false ∨ s.dev.pstate = 4 ∨ s.dev.pwr.held = true) → same (.powerFailSequence vb)) ∧
        (s.dev.flag F.SPN_STAT_PF = true → s.dev.pstate ≠ 4 → s.dev.pwr.held = false → (∀ c, s.dev.log.flushReq = some c → c ≤ 2) → Gives (.powerFailSequence vb) s fun d =>
          d.pwr.pf.isSome = true ∧ d.flag F.PWR_STAT_PF = true ∧ d.pwr.mv = none ∧ d.log.flushReq = some 2 ∧ d.counter .pwr 11 = s.dev.counter .pwr 11 + 1)) ∧
      (∀ f, s.dev.pwr.pf = some f →
        (s.dev.pfRetracted f = false → same (.powerFailSequence vb)) ∧
        (s.dev.pfRetracted f = true → Gives (.powerFailSequence vb) s fun d => d.pstate = 4 ∧ d.pwr.pf = none ∧ d.pwr.coreEn = false ∧ d.pwr.vid = 0 ∧ d.pwr.pgAt = none ∧ d.pwr.asking = [] ∧
          d.flag F.PWR_STAT_PF = true))))

/-- R317: an NVM Subsystem Reset first destages the write cache, whose held runs get a fresh try; with an empty cache, with nothing left but runs held again, or 10 s after its begin, the device resets and both controllers show it. (Model choices in it: log entries 7, 8, 56, 57, 70.) -/
def Obligations.SubsystemResetDestagesFirst : Prop :=
  ∀ s : State, s.dev.live 1 = true →
    let gone : Dev → Prop := fun d => d.cmds = [] ∧ d.zne.cache = [] ∧ d.load = {} ∧ (d.ctrl 0).nssro = true ∧ (d.ctrl 1).nssro = true ∧ (d.ctrl 0).rdy = false ∧ (d.ctrl 0).sqs = [] ∧
      d.hst.nssr = none ∧ d.log.recs = s.dev.log.recs ∧ d.sec.wrapped = s.dev.sec.wrapped ∧ d.sec.keys = [] ∧ d.tbase = s.dev.tbase
    (s.dev.hst.nssr = none →
      (s.dev.zne.cache = [] → Gives .nvmSubsystemReset s gone) ∧
      (s.dev.zne.cache ≠ [] → Gives .nvmSubsystemReset s fun d => d.hst = { s.dev.hst with nssr := some s.dev.now } ∧ (∀ c ∈ d.zne.cache, c.held = false) ∧
        d.zne.cache.length = s.dev.zne.cache.length ∧ d = { s.dev with hst := d.hst, zne := d.zne }) ∧
      Gives .nssrDestageLimit s fun d => d = s.dev) ∧
    (∀ t, s.dev.hst.nssr = some t →
      ((∀ c ∈ s.dev.zne.cache, c.held = true) → Gives .nvmSubsystemReset s gone) ∧
      ((∃ c ∈ s.dev.zne.cache, c.held = false) → Gives .nvmSubsystemReset s fun d => d = s.dev) ∧
      (t + 10000000000 ≤ s.dev.now → Gives .nssrDestageLimit s gone) ∧
      (s.dev.now < t + 10000000000 → Gives .nssrDestageLimit s fun d => d = s.dev))

/-! ## The machine as a whole -/

/-- The block's step (log entries 5 and 7): with a command in front of the queue it is that command's effect on the state with the rest of the queue. -/
def Obligations.StepRunsTheCommandInFront : Prop :=
  ∀ (c : Instr) (s : State), step { s with pending := c :: s.pending } = exec c s

/-- No command stops the machine or touches the queue, so every run goes on; a queue that holds only commands a sender can send stays one. (That a detected fault does not stop the device: R54; that each command completes in one step: log entries 5 and 7.) -/
def Obligations.NoCommandStopsTheMachine : Prop :=
  (∀ (c : Instr) (s : State), ∃ t, exec c s = .next t ∧ t.pending = s.pending) ∧
  (∀ (k : Nat) (s : State), SafeRun k s) ∧
  ∀ s t : State, step s = .next t → t.pending = s.pending.tail ∧ (s.queueOk = true → t.queueOk = true)

/-- With no command waiting time goes on (the model's choice, log entry 5): without kennel power nothing happens; with it TBASE advances by 4 (R24), and where the core
is without power nothing else but the count of milliseconds (R507), the step of CORE_VID (R539) and RUNNING, which is 1 while TBASE counts from the crystal (R29). (The step on an empty queue is the model's choice: log entry 5.) -/
def Obligations.IdleStepLetsTimeGoOn : Prop :=
  ∀ s : State, s.pending = [] → ∃ t, step s = .next t ∧ t.pending = [] ∧
    (s.dev.pwr.kennel = false → t = s) ∧
    (s.dev.pwr.kennel = true → t.dev.tbase = s.dev.tbase + 4 ∧
      (s.dev.live 1 = false → t.dev = { s.dev with
        tbase := s.dev.tbase + 4, cnt := t.dev.cnt, pwr := { s.dev.pwr with msAt := t.dev.pwr.msAt, vid := t.dev.pwr.vid, vidAt := t.dev.pwr.vidAt },
        regs := if s.dev.pwr.xtal && !s.dev.flag F.KNL_TBASE_STAT_RUNNING then (s.dev.setFld F.KNL_TBASE_STAT_RUNNING 1).regs else s.dev.regs } ∧
        (s.dev.pwr.coreEn = false → t.dev.pwr.vid = 0)))

/-- After reset every control-space register reads its table's reset value (R13), the kennel and every domain have power and the device is in state 0 (Table 17.2), no engine is
ready before its start, nothing is loaded or waiting; the registers are in canonical form and TBASE is a multiple of 4. The variant, and every value the
spec does not print, are the model's choice (log entries 1 and 2). -/
def Obligations.ResetLeavesTheTableValues : Prop :=
  (∀ a, State.reset.dev.word a = resetWord State.reset.dev.v a) ∧ State.reset.dev.tbase = 0 ∧ State.reset.pending = [] ∧ State.reset.dev.cmds = [] ∧
    State.reset.dev.pstate = 0 ∧ State.reset.dev.fld F.PWR_STAT_ON = 0x1FF ∧ (∀ k, k < 9 → State.reset.dev.live k = true) ∧
    State.reset.dev.word 0x00100110 = 0xC8320501 ∧ State.reset.dev.fld F.KNL_VCORE_VSET_HI = 0x1E ∧
    (∀ f ∈ [F.BUF_STAT_READY, F.ZNE_STAT_READY, F.FLC_STAT_READY, F.LOG_STAT_READY], State.reset.dev.flag f = false) ∧
    State.reset.dev.load.loaded = false ∧ State.reset.dev.regsOk = true ∧ State.reset.dev.tbase.toNat % 4 = 0 ∧ State.reset.queueOk = true

/-- R482, R543, R545: a device without kennel power takes no command but the return of that power; while the core is held in reset the channels, the write path, the servo, the
buffer, the host links and the sequencers take none. (Model choices in it: log entries 4, 8, 9, 10, 14, 17, 18, 35, 40, 41, 50, 70, 72.) -/
def Obligations.BlocksWithoutPowerTakeNoCommand : Prop :=
  (∀ (c : Instr) (s : State), s.dev.pwr.kennel = false → c ≠ .kennelPowerOn → exec c s = .next s) ∧
  ∀ s : State, s.dev.pwr.held = true →
    (∀ n c v who q b, exec (.sectorStart n c) s = .next s ∧ exec (.spnDemandWrite v who) s = .next s ∧ exec (.bufInjectArm v who) s = .next s ∧
      exec (.seqInjectArm v who) s = .next s ∧ exec (.dmaInjectArm v who) s = .next s ∧ exec (.flashIntentScan) s = .next s ∧
      exec (.sqTailDoorbell b q q) s = .next s ∧ exec .imageLoad s = .next s)

/-- R24: TBASE is 0 when kennel power comes, advances by 4 at every step of time while there is kennel power, and is 0 once that power is lost; no other command, and so no reset and no device
state, touches it; its two low bits read 0 in every state that a step reaches from one where they do. -/
def Obligations.OnlyLossOfKennelPowerResetsTbase : Prop :=
  (∀ s t : State, s.dev.pwr.kennel = false → exec .kennelPowerOn s = .next t → t.dev.tbase = 0) ∧
  (∀ s t : State, s.dev.live 0 = true → exec .kennelPowerLost s = .next t → t.dev.tbase = 0) ∧
  (∀ s t : State, s.pending = [] → step s = .next t → t.dev.tbase = if s.dev.pwr.kennel then s.dev.tbase + 4 else s.dev.tbase) ∧
  (∀ (c : Instr) (s t : State), c ≠ .kennelPowerOn → c ≠ .kennelPowerLost → exec c s = .next t → t.dev.tbase = s.dev.tbase) ∧
  (∀ s t : State, s.dev.tbase.toNat % 4 = 0 → step s = .next t → t.dev.tbase.toNat % 4 = 0)

/-- Every step keeps the control-space registers in canonical form, so that equal register contents are equal data, and leaves the chip the variant it is. (The canonical form is the model's way to hold registers: log entry 2.) -/
def Obligations.StepKeepsRegistersCanonical : Prop :=
  ∀ s t : State, s.dev.regsOk = true → step s = .next t → t.dev.regsOk = true ∧ t.dev.v = s.dev.v
end

