-- ==== Sys2Proof/Laws/Code.lean ====
section
/-! SUPPORT. Laws/Code.lean: what the LDPC decoder makes of a block of erasures (R115): the all-zero codeword, in one iteration. -/
namespace Sys2Proof.Machine

/-- The least magnitude of a list is at most that of any member. -/
theorem foldl_min_le (l : List Int) (a : Nat) {y : Int} (h : y ∈ l) : l.foldl (fun m z => min m z.natAbs) a ≤ y.natAbs := by
  induction l generalizing a with
  | nil => cases h
  | cons x r ih =>
    rw [List.foldl_cons]
    rcases List.mem_cons.1 h with rfl | h
    · have : ∀ (r : List Int) (b : Nat), r.foldl (fun m z => min m z.natAbs) b ≤ b := by
        intro r
        induction r with
        | nil => exact fun b => Nat.le_refl b
        | cons z r ih => exact fun b => Nat.le_trans (ih _) (Nat.min_le_left _ _)
      exact Nat.le_trans (this _ _) (Nat.min_le_right _ _)
    · exact ih _ h

/-- A check that has received an erasure beside each message sends erasures. -/
theorem checkOut_erased {q : List Int} (h : ∀ i, (0 : Int) ∈ q.eraseIdx i) : checkOut q = List.replicate q.length 0 := by
  refine List.eq_replicate_iff.2 ⟨by simp [checkOut], fun b hb => ?_⟩
  obtain ⟨i, hi, rfl⟩ := List.mem_mapIdx.1 hb
  have hm : (q.eraseIdx i).foldl (fun m z => min m z.natAbs) 31 = 0 := Nat.le_zero.1 (foldl_min_le _ 31 (h i))
  simp only [hm]
  simp [norm75]

/-- The column blocks of an erased sector: 96 certain zeros and nothing recorded. -/
def erasedCols : List (List Int) := List.replicate 96 1000000 :: List.replicate 272 []

theorem getD_replicate {α : Type} (n i : Nat) (a d : α) : (List.replicate n a).getD i d = if i < n then a else d := by
  rw [List.getD_eq_getElem?_getD, List.getElem?_replicate]; split <;> rfl

theorem erasedCols_getD (c : Nat) : erasedCols.getD c [] = if c = 0 then List.replicate 96 1000000 else [] := by
  cases c with
  | zero => rfl
  | succ c =>
    simp only [erasedCols, List.getD_cons_succ, Nat.succ_ne_zero, if_false]
    rw [getD_replicate, ite_self]

theorem rotate_replicate (σ n : Nat) (a : Int) : rotate σ (List.replicate n a) = List.replicate n a := by
  refine List.eq_replicate_iff.2 ⟨?_, fun b hb => ?_⟩
  · simp only [rotate, List.length_append, List.length_drop, List.length_take, List.length_replicate]; omega
  · rcases List.mem_append.1 hb with hb | hb
    · exact List.eq_of_mem_replicate (List.mem_of_mem_drop hb)
    · exact List.eq_of_mem_replicate (List.mem_of_mem_take hb)

theorem erasedCols_rotate (σ c : Nat) : rotate σ (erasedCols.getD c []) = erasedCols.getD c [] := by
  rw [erasedCols_getD]; split
  · exact rotate_replicate _ _ _
  · exact rotate_replicate σ 0 0

/-- Adding or taking away erasures leaves a column block as it is. -/
theorem erasedCols_zip (f : Int → Int → Int) (h : ∀ x, f x 0 = x) (c : Nat) : List.zipWith f (erasedCols.getD c []) (List.replicate 128 0) = erasedCols.getD c [] := by
  rw [erasedCols_getD]; split
  · rw [List.zipWith_replicate, h, Nat.min_eq_left (by decide)]
  · rfl

/-- Messages that are all erasures. -/
def noMsg (msg : List (List Int)) : Prop := ∀ j, msg.getD j (List.replicate 128 0) = List.replicate 128 0

/-- A row of at least three columns other than the first keeps an erased sector and sends erasures. -/
theorem layer_erased {r : Nat} {msg : List (List Int)} (hm : noMsg msg) (hr : 3 ≤ ((rowCols r).filter fun p => decide (p.1 ≠ 0)).length) :
    (layer r erasedCols msg).1 = erasedCols ∧ noMsg (layer r erasedCols msg).2 := by
  have hq : ((rowCols r).mapIdx fun j p => List.zipWith (· - ·) (rotate p.2 (erasedCols.getD p.1 [])) (msg.getD j (List.replicate 128 0))) =
      (rowCols r).map fun p => erasedCols.getD p.1 [] := by
    rw [List.mapIdx_eq_iff]
    intro i
    rw [List.getElem?_map]
    cases (rowCols r)[i]? with
    | none => rfl
    | some p =>
      simp only [Option.map_some, hm i, erasedCols_rotate]
      rw [erasedCols_zip _ (fun x => by omega)]
  have hz : ∀ x i, (0 : Int) ∈ ((((rowCols r).map fun p => erasedCols.getD p.1 []).map fun c => clampAbs 31 (c.getD x 0)).eraseIdx i) := by
    intro x i
    have hc : ∀ l : List (Nat × Nat), (l.filter fun p => decide (p.1 ≠ 0)).length ≤
        (((l.map fun p => erasedCols.getD p.1 []).map fun c => clampAbs 31 (c.getD x 0)).filter fun y => decide (y = 0)).length := by
      intro l
      induction l with
      | nil => exact Nat.le_refl 0
      | cons p l ih =>
        rw [List.map_cons, List.map_cons, List.filter_cons, List.filter_cons]
        by_cases hp : p.1 = 0
        · rw [if_neg (by simp [hp])]
          refine Nat.le_trans ih ?_
          split
          · exact Nat.le_succ _
          · exact Nat.le_refl _
        · have h0 : clampAbs 31 ((erasedCols.getD p.1 []).getD x 0) = 0 := by rw [erasedCols_getD, if_neg hp]; rfl
          rw [if_pos (by simp [hp]), if_pos (by rw [h0]; rfl)]
          exact Nat.succ_le_succ ih
    have h3 := Nat.le_trans hr (hc (rowCols r))
    generalize (((rowCols r).map fun p => erasedCols.getD p.1 []).map fun c => clampAbs 31 (c.getD x 0)) = q at h3
    have he : (q.filter fun y => decide (y = 0)).length ≤ ((q.eraseIdx i).filter fun y => decide (y = 0)).length + 1 := by
      clear h3
      induction q generalizing i with
      | nil => exact Nat.zero_le _
      | cons y q ih =>
        cases i with
        | zero =>
          rw [List.eraseIdx_cons_zero, List.filter_cons]; split
          · exact Nat.le_refl _
          · exact Nat.le_succ _
        | succ i =>
          rw [List.eraseIdx_cons_succ, List.filter_cons, List.filter_cons]; split
          · simpa using ih i
          · exact ih i
    cases hl : (q.eraseIdx i).filter fun y => decide (y = 0) with
    | nil => rw [hl] at he; simp only [List.length_nil] at he; omega
    | cons y l =>
      have hy : y ∈ (q.eraseIdx i).filter fun y => decide (y = 0) := by rw [hl]; exact List.mem_cons_self
      have := (List.mem_filter.1 hy).2
      simp only [decide_eq_true_eq] at this
      rw [← this]; exact (List.mem_filter.1 hy).1
  have ho : ((List.range 128).map fun x => checkOut ((((rowCols r).map fun p => erasedCols.getD p.1 []).map fun c => clampAbs 31 (c.getD x 0)))) =
      List.replicate 128 (List.replicate (rowCols r).length 0) := by
    refine List.eq_replicate_iff.2 ⟨by simp, fun b hb => ?_⟩
    obtain ⟨x, -, rfl⟩ := List.mem_map.1 hb
    rw [checkOut_erased (hz x)]; simp
  have hn : ∀ j : Nat, ((List.replicate 128 (List.replicate (rowCols r).length (0 : Int))).map fun o => o.getD j 0) = List.replicate 128 0 := by
    intro j
    rw [List.map_replicate]
    congr 1
    rw [getD_replicate, ite_self]
  have hput : ∀ (xs : List ((Nat × Nat) × List Int × List Int)), (∀ x ∈ xs, x.2.1 = erasedCols.getD x.1.1 [] ∧ x.2.2 = List.replicate 128 0) →
      xs.foldl (fun l x => l.set x.1.1 (rotate (128 - x.1.2) (List.zipWith (· + ·) x.2.1 x.2.2))) erasedCols = erasedCols := by
    intro xs
    induction xs with
    | nil => intro _; rfl
    | cons x xs ih =>
      intro h
      obtain ⟨h1, h2⟩ := h x List.mem_cons_self
      rw [List.foldl_cons, h1, h2, erasedCols_zip _ (fun x => by omega), erasedCols_rotate]
      have : erasedCols.set x.1.1 (erasedCols.getD x.1.1 []) = erasedCols := by
        apply List.ext_getElem?
        intro k
        rw [List.getElem?_set]
        split
        · rename_i hk
          subst hk
          split
          · rename_i hk; rw [List.getD_eq_getElem?_getD, List.getElem?_eq_getElem hk]; rfl
          · rename_i hk; rw [List.getElem?_eq_none (by omega)]
        · rfl
      rw [this]
      exact ih fun y hy => h y (List.mem_cons_of_mem _ hy)
  unfold layer
  simp only [hq, ho]
  refine ⟨hput _ fun x hx => ?_, fun j => ?_⟩
  · obtain ⟨i, hi, rfl⟩ := List.getElem_of_mem hx
    simp only [List.getElem_zip, List.getElem_map, List.getElem_mapIdx]
    exact ⟨trivial, hn _⟩
  · rw [List.getD_eq_getElem?_getD, List.getElem?_mapIdx]
    cases (rowCols r)[j]? with
    | none => rfl
    | some p => simp only [Option.map_some, Option.getD_some]; exact hn j

/-- Every row of the code has at least three columns other than the first. -/
theorem rowCols_wide : ∀ r ∈ List.range 16, 3 ≤ ((rowCols r).filter fun p => decide (p.1 ≠ 0)).length := by decide +kernel

theorem minSumPass_erased : (minSumPass (erasedCols, List.replicate 16 [])).1 = erasedCols := by
  have key : ∀ (l : List Nat), (∀ r ∈ l, 3 ≤ ((rowCols r).filter fun p => decide (p.1 ≠ 0)).length) → ∀ s : List (List Int) × List (List (List Int)), s.1 = erasedCols → (∀ r, noMsg (s.2.getD r [])) →
      (l.foldl (fun s r => let (l, m) := layer r s.1 (s.2.getD r []); (l, s.2.set r m)) s).1 = erasedCols := by
    intro l
    induction l with
    | nil => intro _ s h _; exact h
    | cons r l ih =>
      intro hl s h1 h2
      rw [List.foldl_cons]
      have hy := layer_erased (h2 r) (hl r List.mem_cons_self)
      refine ih (fun x hx => hl x (List.mem_cons_of_mem _ hx)) _ (by rw [h1]; exact hy.1) fun k => ?_
      simp only [List.getD_eq_getElem?_getD, List.getElem?_set]
      split
      · split
        · simp only [Option.getD_some, h1]
          rw [← List.getD_eq_getElem?_getD]; exact hy.2
        · exact fun j => rfl
      · rw [← List.getD_eq_getElem?_getD]; exact h2 k
  refine key _ rowCols_wide _ rfl fun r j => ?_
  rw [getD_replicate, ite_self]; rfl

theorem syndromeZero_erased : syndromeZero erasedCols = true := by
  have hn : ∀ c x, ¬(erasedCols.getD c []).getD x 0 < 0 := by
    intro c x
    rw [erasedCols_getD]; split
    · rw [getD_replicate]; split <;> decide
    · exact (by decide : ¬(0 : Int) < 0)
  simp only [syndromeZero, List.all_eq_true]
  intro r _ x _
  have : ((rowCols r).filter fun p => decide ((erasedCols.getD p.1 []).getD ((x + p.2) % 128) 0 < 0)) = [] := by
    rw [List.filter_eq_nil_iff]
    intro p _
    simp only [decide_eq_true_eq]
    exact hn _ _
  rw [this]; rfl

/-- A sector of which nothing was recorded decodes to zeros in the first iteration. -/
theorem ldpcDecode_erased (n : Nat) : ldpcDecode (n + 1) [] = (1, some []) := by
  have h0 : softBlocks 273 (List.replicate 96 1000000 ++ []) = erasedCols := by decide +kernel
  have h1 : (erasedCols.flatten.drop 96).map (fun x => decide (x < 0)) = [] := by decide +kernel
  simp only [ldpcDecode, minSum, h0, minSumPass_erased, syndromeZero_erased, if_true, h1]

end Sys2Proof.Machine
end

