-- ==== Sys2Proof/Laws/Tab.lean ====
section
/-! SUPPORT. Laws/Tab.lean: reading after writing, and the canonical form, of keyed tables. -/
namespace Sys2Proof.Machine

variable {α : Type}

/-- The entries of a table have strictly rising keys and none holds its key's default. -/
def Tab.Canon (dflt : Nat → α) (t : Tab α) : Prop := t.Pairwise (fun p q => p.1 < q.1) ∧ ∀ p ∈ t, p.2 ≠ dflt p.1

theorem Tab.wf_iff_canon [DecidableEq α] (dflt : Nat → α) (t : Tab α) : Tab.wf dflt t = true ↔ Tab.Canon dflt t := by
  simp [Tab.wf, Tab.Canon, List.pairwise_map]

theorem Tab.get_erase_same (dflt : Nat → α) (t : Tab α) (k : Nat) : (Tab.erase t k).get dflt k = dflt k := by
  induction t with
  | nil => rfl
  | cons p r ih =>
    obtain ⟨k', v⟩ := p
    by_cases h : k' = k
    · simpa [Tab.erase, h] using ih
    · simpa [Tab.erase, h, Tab.get] using ih

theorem Tab.get_erase_ne (dflt : Nat → α) (t : Tab α) {k j : Nat} (hj : j ≠ k) : (Tab.erase t k).get dflt j = t.get dflt j := by
  induction t with
  | nil => rfl
  | cons p r ih =>
    obtain ⟨k', v⟩ := p
    by_cases h : k' = k
    · have : k' ≠ j := fun e => hj (e ▸ h)
      simp [Tab.erase, h, Tab.get, ih, h ▸ this]
    · simp [Tab.erase, h, Tab.get, ih]

theorem Tab.get_insert_same (dflt : Nat → α) (t : Tab α) (k : Nat) (v : α) (h : ∀ p ∈ t, p.1 ≠ k) : (Tab.insert t k v).get dflt k = v := by
  induction t with
  | nil => simp [Tab.insert, Tab.get]
  | cons p r ih =>
    obtain ⟨k', v'⟩ := p
    have hk : k' ≠ k := h (k', v') (by simp)
    by_cases c : k < k'
    · simp [Tab.insert, c, Tab.get]
    · simp [Tab.insert, c, Tab.get, hk, ih fun q hq => h q (by simp [hq])]

theorem Tab.get_insert_ne (dflt : Nat → α) (t : Tab α) {k j : Nat} (v : α) (hj : j ≠ k) : (Tab.insert t k v).get dflt j = t.get dflt j := by
  induction t with
  | nil => simp [Tab.insert, Tab.get, hj.symm]
  | cons p r ih =>
    obtain ⟨k', v'⟩ := p
    by_cases c : k < k'
    · simp [Tab.insert, c, Tab.get, hj.symm]
    · simp [Tab.insert, c, Tab.get, ih]

theorem Tab.key_of_mem_erase {t : Tab α} {k : Nat} {p : Nat × α} (h : p ∈ Tab.erase t k) : p ∈ t ∧ p.1 ≠ k := by
  induction t with
  | nil => simp [Tab.erase] at h
  | cons q r ih =>
    obtain ⟨k', v⟩ := q
    by_cases c : k' = k
    · simp only [Tab.erase, c, if_true] at h
      exact ⟨List.mem_cons_of_mem _ (ih h).1, (ih h).2⟩
    · simp only [Tab.erase, c, if_false, List.mem_cons] at h
      rcases h with rfl | h
      · exact ⟨by simp, c⟩
      · exact ⟨List.mem_cons_of_mem _ (ih h).1, (ih h).2⟩

theorem Tab.key_of_mem_insert {t : Tab α} {k : Nat} {v : α} {p : Nat × α} (h : p ∈ Tab.insert t k v) : p = (k, v) ∨ p ∈ t := by
  induction t with
  | nil => simpa [Tab.insert] using h
  | cons q r ih =>
    obtain ⟨k', v'⟩ := q
    by_cases c : k < k'
    · simpa [Tab.insert, c] using h
    · simp only [Tab.insert, c, if_false, List.mem_cons] at h
      rcases h with rfl | h
      · simp
      · rcases ih h with h | h <;> simp [h]

/-- What is written reads back. -/
theorem Tab.get_set_same [DecidableEq α] (dflt : Nat → α) (t : Tab α) (k : Nat) (v : α) : (t.set dflt k v).get dflt k = v := by
  unfold Tab.set
  split
  · next h => rw [Tab.get_erase_same, h]
  · exact Tab.get_insert_same dflt _ k v fun p hp => (Tab.key_of_mem_erase hp).2

/-- A write leaves every other key alone. -/
theorem Tab.get_set_ne [DecidableEq α] (dflt : Nat → α) (t : Tab α) {k j : Nat} (v : α) (h : j ≠ k) : (t.set dflt k v).get dflt j = t.get dflt j := by
  unfold Tab.set
  split
  · exact Tab.get_erase_ne dflt t h
  · rw [Tab.get_insert_ne dflt _ v h, Tab.get_erase_ne dflt t h]

theorem Tab.canon_erase {dflt : Nat → α} {t : Tab α} (h : Tab.Canon dflt t) (k : Nat) : Tab.Canon dflt (Tab.erase t k) := by
  refine ⟨?_, fun p hp => h.2 p (Tab.key_of_mem_erase hp).1⟩
  obtain ⟨h, -⟩ := h
  induction t with
  | nil => simp [Tab.erase]
  | cons q r ih =>
    obtain ⟨k', v⟩ := q
    rw [List.pairwise_cons] at h
    by_cases c : k' = k
    · simpa [Tab.erase, c] using ih h.2
    · simp only [Tab.erase, c, if_false, List.pairwise_cons]
      exact ⟨fun p hp => h.1 p (Tab.key_of_mem_erase hp).1, ih h.2⟩

theorem Tab.canon_insert {dflt : Nat → α} {t : Tab α} (h : Tab.Canon dflt t) {k : Nat} {v : α} (hv : v ≠ dflt k) (hk : ∀ p ∈ t, p.1 ≠ k) :
    Tab.Canon dflt (Tab.insert t k v) := by
  refine ⟨?_, fun p hp => ?_⟩
  · obtain ⟨h, -⟩ := h
    induction t with
    | nil => simp [Tab.insert]
    | cons q r ih =>
      obtain ⟨k', v'⟩ := q
      have hr := List.pairwise_cons.1 h
      by_cases c : k < k'
      · simp only [Tab.insert, c, if_true, List.pairwise_cons]
        refine ⟨fun p hp => ?_, hr⟩
        rcases List.mem_cons.1 hp with rfl | hp
        · exact c
        · exact lt_trans c (hr.1 p hp)
      · have hne : k' ≠ k := hk (k', v') (by simp)
        simp only [Tab.insert, c, if_false, List.pairwise_cons]
        refine ⟨fun p hp => ?_, ih (fun p hp => hk p (by simp [hp])) hr.2⟩
        rcases Tab.key_of_mem_insert hp with rfl | hp
        · simp only; omega
        · exact hr.1 p hp
  · rcases Tab.key_of_mem_insert hp with rfl | hp
    · exact hv
    · exact h.2 p hp

/-- A write keeps the canonical form. -/
theorem Tab.wf_set [DecidableEq α] {dflt : Nat → α} {t : Tab α} (h : Tab.wf dflt t = true) (k : Nat) (v : α) : Tab.wf dflt (t.set dflt k v) = true := by
  rw [Tab.wf_iff_canon] at h ⊢
  unfold Tab.set
  split
  · exact Tab.canon_erase h k
  · next hv => exact Tab.canon_insert (Tab.canon_erase h k) hv fun p hp => (Tab.key_of_mem_erase hp).2

/-- Changing one entry keeps the canonical form. -/
theorem Tab.wf_modify [DecidableEq α] {dflt : Nat → α} {t : Tab α} (h : Tab.wf dflt t = true) (k : Nat) (f : α → α) :
    Tab.wf dflt (t.modify dflt k f) = true := Tab.wf_set h k _

/-- Dropping entries keeps the canonical form. -/
theorem Tab.wf_filter [DecidableEq α] {dflt : Nat → α} {t : Tab α} (h : Tab.wf dflt t = true) (p : Nat × α → Bool) :
    Tab.wf dflt (t.filter p) = true := by
  rw [Tab.wf_iff_canon] at h ⊢
  exact ⟨h.1.filter p, fun q hq => h.2 q (List.mem_filter.1 hq).1⟩

/-- The empty table is canonical. -/
theorem Tab.wf_nil [DecidableEq α] (dflt : Nat → α) : Tab.wf dflt [] = true := rfl

end Sys2Proof.Machine
end

