-- ==== Sys2Proof/Laws/Field.lean ====
section
/-! SUPPORT. Laws/Field.lean: reading a register or field after writing one, and the canonical form of the register map. -/
namespace Sys2Proof.Machine

theorem getBits_putBits_same (w : Word) (lo n v : Nat) (h : lo + n ≤ 32) : getBits (putBits w lo n v) lo n = v % 2 ^ n := by
  apply Nat.eq_of_testBit_eq
  intro i
  simp only [getBits, bitsAt, putBits, onesAt, BitVec.toNat_ofNat, Nat.testBit_mod_two_pow, Nat.testBit_shiftRight, Nat.testBit_or, Nat.testBit_and,
    Nat.testBit_xor, Nat.testBit_shiftLeft, Nat.testBit_two_pow_sub_one]
  by_cases hi : i < n
  · have h1 : lo + i < 32 := by omega
    simp [hi, h1]
  · simp [hi]

theorem getBits_putBits_ne (w : Word) (lo n v lo' n' : Nat) (h : lo + n ≤ lo' ∨ lo' + n' ≤ lo) (h' : lo' + n' ≤ 32) :
    getBits (putBits w lo n v) lo' n' = getBits w lo' n' := by
  apply Nat.eq_of_testBit_eq
  intro i
  simp only [getBits, bitsAt, putBits, onesAt, BitVec.toNat_ofNat, Nat.testBit_mod_two_pow, Nat.testBit_shiftRight, Nat.testBit_or, Nat.testBit_and,
    Nat.testBit_xor, Nat.testBit_shiftLeft, Nat.testBit_two_pow_sub_one]
  by_cases hi : i < n'
  · have h1 : lo' + i < 32 := by omega
    have h2 : ¬(lo ≤ lo' + i ∧ lo' + i - lo < n) := by omega
    rcases Nat.lt_or_ge (lo' + i) lo with c | c
    · simp [hi, h1, Nat.not_le.2 c]
    · have h3 : ¬(lo' + i - lo < n) := by omega
      simp [hi, h1, c, h3]
  · simp [hi]

/-- A written register word reads back. -/
theorem Dev.word_setWord_same (d : Dev) (a : Nat) (w : Word) : (d.setWord a w).word a = w := Tab.get_set_same _ _ _ _

/-- Writing a register word leaves every other one alone. -/
theorem Dev.word_setWord_ne (d : Dev) {a b : Nat} (w : Word) (h : b ≠ a) : (d.setWord a w).word b = d.word b := Tab.get_set_ne _ _ _ h

/-- A written field reads back, cut to its width. -/
theorem Dev.fld_setFld_same (d : Dev) (f : RF) (v : Nat) (h : f.lo + f.n ≤ 32) : (d.setFld f v).fld f = v % 2 ^ f.n := by
  simp only [Dev.fld, Dev.setFld, Dev.word_setWord_same]
  exact getBits_putBits_same _ _ _ _ h

/-- Writing a field leaves a field of another word alone. -/
theorem Dev.fld_setFld_addr (d : Dev) (f g : RF) (v : Nat) (h : g.a ≠ f.a) : (d.setFld f v).fld g = d.fld g := by
  simp only [Dev.fld, Dev.setFld, Dev.word_setWord_ne _ _ h]

/-- Writing a field leaves a disjoint field of the same word alone. -/
theorem Dev.fld_setFld_disjoint (d : Dev) (f g : RF) (v : Nat) (ha : g.a = f.a) (h : f.lo + f.n ≤ g.lo ∨ g.lo + g.n ≤ f.lo) (hg : g.lo + g.n ≤ 32) :
    (d.setFld f v).fld g = d.fld g := by
  simp only [Dev.fld, Dev.setFld, ha, Dev.word_setWord_same]
  exact getBits_putBits_ne _ _ _ _ _ _ h hg

/-- Writing a field leaves every other register word alone. -/
theorem Dev.word_setFld_ne (d : Dev) (f : RF) (v : Nat) {b : Nat} (h : b ≠ f.a) : (d.setFld f v).word b = d.word b := Dev.word_setWord_ne d _ h

/-- A written flag reads back. -/
theorem Dev.flag_setFlag_same (d : Dev) (f : RF) (b : Bool) (h : f.lo + f.n ≤ 32) (hn : 0 < f.n) : (d.setFlag f b).flag f = b := by
  have h2 : 1 < 2 ^ f.n := Nat.one_lt_two_pow (by omega)
  simp only [Dev.flag, Dev.setFlag, Dev.fld_setFld_same d f _ h]
  cases b <;> simp [Nat.mod_eq_of_lt h2]

/-- Writing a register word keeps the canonical form of the register map. -/
theorem Dev.wf_setWord (d : Dev) (a : Nat) (w : Word) (h : Tab.wf (resetWord d.v) d.regs = true) :
    Tab.wf (resetWord (d.setWord a w).v) (d.setWord a w).regs = true := Tab.wf_set h a w

/-- Writing a field keeps the canonical form of the register map. -/
theorem Dev.wf_setFld (d : Dev) (f : RF) (v : Nat) (h : Tab.wf (resetWord d.v) d.regs = true) :
    Tab.wf (resetWord (d.setFld f v).v) (d.setFld f v).regs = true := Dev.wf_setWord d _ _ h

end Sys2Proof.Machine
end

