-- ==== Sys2Proof/Laws/State.lean ====
section
/-! SUPPORT. Laws/State.lean: what the named operations leave alone, field by field. -/
namespace Sys2Proof.Machine

/-- A command's effect leaves the queue of waiting commands alone. -/
@[simp] theorem State.doesIn_eq (s : State) (k : Nat) (f : Dev → Dev) :
    s.doesIn k f = .next { s with dev := if s.dev.live k then f s.dev else s.dev } := rfl
@[simp] theorem State.does_eq (s : State) (f : Dev → Dev) : s.does f = .next { s with dev := if s.dev.live 0 then f s.dev else s.dev } := rfl

@[simp] theorem Dev.setWord_v (d : Dev) (a : Nat) (w : Word) : (d.setWord a w).v = d.v := rfl
@[simp] theorem Dev.setWord_staged (d : Dev) (a : Nat) (w : Word) : (d.setWord a w).staged = d.staged := rfl
@[simp] theorem Dev.setWord_tbase (d : Dev) (a : Nat) (w : Word) : (d.setWord a w).tbase = d.tbase := rfl
@[simp] theorem Dev.setWord_pools (d : Dev) (a : Nat) (w : Word) : (d.setWord a w).pools = d.pools := rfl
@[simp] theorem Dev.setWord_lost (d : Dev) (a : Nat) (w : Word) : (d.setWord a w).lost = d.lost := rfl
@[simp] theorem Dev.setWord_bg (d : Dev) (a : Nat) (w : Word) : (d.setWord a w).bg = d.bg := rfl
@[simp] theorem Dev.setWord_cnt (d : Dev) (a : Nat) (w : Word) : (d.setWord a w).cnt = d.cnt := rfl
@[simp] theorem Dev.setWord_shadows (d : Dev) (a : Nat) (w : Word) : (d.setWord a w).shadows = d.shadows := rfl
@[simp] theorem Dev.setWord_roll (d : Dev) (a : Nat) (w : Word) : (d.setWord a w).roll = d.roll := rfl
@[simp] theorem Dev.setWord_mem (d : Dev) (a : Nat) (w : Word) : (d.setWord a w).mem = d.mem := rfl
@[simp] theorem Dev.setWord_log (d : Dev) (a : Nat) (w : Word) : (d.setWord a w).log = d.log := rfl
@[simp] theorem Dev.setWord_flc (d : Dev) (a : Nat) (w : Word) : (d.setWord a w).flc = d.flc := rfl
@[simp] theorem Dev.setWord_load (d : Dev) (a : Nat) (w : Word) : (d.setWord a w).load = d.load := rfl
@[simp] theorem Dev.setWord_dl (d : Dev) (a : Nat) (w : Word) : (d.setWord a w).dl = d.dl := rfl
@[simp] theorem Dev.setWord_hst (d : Dev) (a : Nat) (w : Word) : (d.setWord a w).hst = d.hst := rfl
@[simp] theorem Dev.setWord_cmds (d : Dev) (a : Nat) (w : Word) : (d.setWord a w).cmds = d.cmds := rfl
@[simp] theorem Dev.setWord_zne (d : Dev) (a : Nat) (w : Word) : (d.setWord a w).zne = d.zne := rfl
@[simp] theorem Dev.setWord_sec (d : Dev) (a : Nat) (w : Word) : (d.setWord a w).sec = d.sec := rfl
@[simp] theorem Dev.setWord_buf (d : Dev) (a : Nat) (w : Word) : (d.setWord a w).buf = d.buf := rfl
@[simp] theorem Dev.setWord_scb (d : Dev) (a : Nat) (w : Word) : (d.setWord a w).scb = d.scb := rfl
@[simp] theorem Dev.setWord_mdc (d : Dev) (a : Nat) (w : Word) : (d.setWord a w).mdc = d.mdc := rfl
@[simp] theorem Dev.setWord_dma (d : Dev) (a : Nat) (w : Word) : (d.setWord a w).dma = d.dma := rfl
@[simp] theorem Dev.setWord_ch (d : Dev) (a : Nat) (w : Word) : (d.setWord a w).ch = d.ch := rfl
@[simp] theorem Dev.setWord_dec (d : Dev) (a : Nat) (w : Word) : (d.setWord a w).dec = d.dec := rfl
@[simp] theorem Dev.setWord_wrp (d : Dev) (a : Nat) (w : Word) : (d.setWord a w).wrp = d.wrp := rfl
@[simp] theorem Dev.setWord_srv (d : Dev) (a : Nat) (w : Word) : (d.setWord a w).srv = d.srv := rfl
@[simp] theorem Dev.setWord_lanes (d : Dev) (a : Nat) (w : Word) : (d.setWord a w).lanes = d.lanes := rfl
@[simp] theorem Dev.setWord_spn (d : Dev) (a : Nat) (w : Word) : (d.setWord a w).spn = d.spn := rfl
@[simp] theorem Dev.setWord_msq (d : Dev) (a : Nat) (w : Word) : (d.setWord a w).msq = d.msq := rfl
@[simp] theorem Dev.setWord_pwr (d : Dev) (a : Nat) (w : Word) : (d.setWord a w).pwr = d.pwr := rfl
@[simp] theorem Dev.setWord_rng (d : Dev) (a : Nat) (w : Word) : (d.setWord a w).rng = d.rng := rfl
@[simp] theorem Dev.setWord_seq (d : Dev) (a : Nat) (w : Word) : (d.setWord a w).seq = d.seq := rfl
@[simp] theorem Dev.setWord_free (d : Dev) (a : Nat) (w : Word) : (d.setWord a w).free = d.free := rfl

@[simp] theorem Dev.setFld_v (d : Dev) (f : RF) (x : Nat) : (d.setFld f x).v = d.v := rfl
@[simp] theorem Dev.setFld_staged (d : Dev) (f : RF) (x : Nat) : (d.setFld f x).staged = d.staged := rfl
@[simp] theorem Dev.setFld_tbase (d : Dev) (f : RF) (x : Nat) : (d.setFld f x).tbase = d.tbase := rfl
@[simp] theorem Dev.setFld_pools (d : Dev) (f : RF) (x : Nat) : (d.setFld f x).pools = d.pools := rfl
@[simp] theorem Dev.setFld_lost (d : Dev) (f : RF) (x : Nat) : (d.setFld f x).lost = d.lost := rfl
@[simp] theorem Dev.setFld_bg (d : Dev) (f : RF) (x : Nat) : (d.setFld f x).bg = d.bg := rfl
@[simp] theorem Dev.setFld_cnt (d : Dev) (f : RF) (x : Nat) : (d.setFld f x).cnt = d.cnt := rfl
@[simp] theorem Dev.setFld_shadows (d : Dev) (f : RF) (x : Nat) : (d.setFld f x).shadows = d.shadows := rfl
@[simp] theorem Dev.setFld_roll (d : Dev) (f : RF) (x : Nat) : (d.setFld f x).roll = d.roll := rfl
@[simp] theorem Dev.setFld_mem (d : Dev) (f : RF) (x : Nat) : (d.setFld f x).mem = d.mem := rfl
@[simp] theorem Dev.setFld_log (d : Dev) (f : RF) (x : Nat) : (d.setFld f x).log = d.log := rfl
@[simp] theorem Dev.setFld_flc (d : Dev) (f : RF) (x : Nat) : (d.setFld f x).flc = d.flc := rfl
@[simp] theorem Dev.setFld_load (d : Dev) (f : RF) (x : Nat) : (d.setFld f x).load = d.load := rfl
@[simp] theorem Dev.setFld_dl (d : Dev) (f : RF) (x : Nat) : (d.setFld f x).dl = d.dl := rfl
@[simp] theorem Dev.setFld_hst (d : Dev) (f : RF) (x : Nat) : (d.setFld f x).hst = d.hst := rfl
@[simp] theorem Dev.setFld_cmds (d : Dev) (f : RF) (x : Nat) : (d.setFld f x).cmds = d.cmds := rfl
@[simp] theorem Dev.setFld_zne (d : Dev) (f : RF) (x : Nat) : (d.setFld f x).zne = d.zne := rfl
@[simp] theorem Dev.setFld_sec (d : Dev) (f : RF) (x : Nat) : (d.setFld f x).sec = d.sec := rfl
@[simp] theorem Dev.setFld_buf (d : Dev) (f : RF) (x : Nat) : (d.setFld f x).buf = d.buf := rfl
@[simp] theorem Dev.setFld_scb (d : Dev) (f : RF) (x : Nat) : (d.setFld f x).scb = d.scb := rfl
@[simp] theorem Dev.setFld_mdc (d : Dev) (f : RF) (x : Nat) : (d.setFld f x).mdc = d.mdc := rfl
@[simp] theorem Dev.setFld_dma (d : Dev) (f : RF) (x : Nat) : (d.setFld f x).dma = d.dma := rfl
@[simp] theorem Dev.setFld_ch (d : Dev) (f : RF) (x : Nat) : (d.setFld f x).ch = d.ch := rfl
@[simp] theorem Dev.setFld_dec (d : Dev) (f : RF) (x : Nat) : (d.setFld f x).dec = d.dec := rfl
@[simp] theorem Dev.setFld_wrp (d : Dev) (f : RF) (x : Nat) : (d.setFld f x).wrp = d.wrp := rfl
@[simp] theorem Dev.setFld_srv (d : Dev) (f : RF) (x : Nat) : (d.setFld f x).srv = d.srv := rfl
@[simp] theorem Dev.setFld_lanes (d : Dev) (f : RF) (x : Nat) : (d.setFld f x).lanes = d.lanes := rfl
@[simp] theorem Dev.setFld_spn (d : Dev) (f : RF) (x : Nat) : (d.setFld f x).spn = d.spn := rfl
@[simp] theorem Dev.setFld_msq (d : Dev) (f : RF) (x : Nat) : (d.setFld f x).msq = d.msq := rfl
@[simp] theorem Dev.setFld_pwr (d : Dev) (f : RF) (x : Nat) : (d.setFld f x).pwr = d.pwr := rfl
@[simp] theorem Dev.setFld_rng (d : Dev) (f : RF) (x : Nat) : (d.setFld f x).rng = d.rng := rfl
@[simp] theorem Dev.setFld_seq (d : Dev) (f : RF) (x : Nat) : (d.setFld f x).seq = d.seq := rfl
@[simp] theorem Dev.setFld_free (d : Dev) (f : RF) (x : Nat) : (d.setFld f x).free = d.free := rfl

@[simp] theorem Dev.setFlag_v (d : Dev) (f : RF) (x : Bool) : (d.setFlag f x).v = d.v := rfl
@[simp] theorem Dev.setFlag_staged (d : Dev) (f : RF) (x : Bool) : (d.setFlag f x).staged = d.staged := rfl
@[simp] theorem Dev.setFlag_tbase (d : Dev) (f : RF) (x : Bool) : (d.setFlag f x).tbase = d.tbase := rfl
@[simp] theorem Dev.setFlag_pools (d : Dev) (f : RF) (x : Bool) : (d.setFlag f x).pools = d.pools := rfl
@[simp] theorem Dev.setFlag_lost (d : Dev) (f : RF) (x : Bool) : (d.setFlag f x).lost = d.lost := rfl
@[simp] theorem Dev.setFlag_bg (d : Dev) (f : RF) (x : Bool) : (d.setFlag f x).bg = d.bg := rfl
@[simp] theorem Dev.setFlag_cnt (d : Dev) (f : RF) (x : Bool) : (d.setFlag f x).cnt = d.cnt := rfl
@[simp] theorem Dev.setFlag_shadows (d : Dev) (f : RF) (x : Bool) : (d.setFlag f x).shadows = d.shadows := rfl
@[simp] theorem Dev.setFlag_roll (d : Dev) (f : RF) (x : Bool) : (d.setFlag f x).roll = d.roll := rfl
@[simp] theorem Dev.setFlag_mem (d : Dev) (f : RF) (x : Bool) : (d.setFlag f x).mem = d.mem := rfl
@[simp] theorem Dev.setFlag_log (d : Dev) (f : RF) (x : Bool) : (d.setFlag f x).log = d.log := rfl
@[simp] theorem Dev.setFlag_flc (d : Dev) (f : RF) (x : Bool) : (d.setFlag f x).flc = d.flc := rfl
@[simp] theorem Dev.setFlag_load (d : Dev) (f : RF) (x : Bool) : (d.setFlag f x).load = d.load := rfl
@[simp] theorem Dev.setFlag_dl (d : Dev) (f : RF) (x : Bool) : (d.setFlag f x).dl = d.dl := rfl
@[simp] theorem Dev.setFlag_hst (d : Dev) (f : RF) (x : Bool) : (d.setFlag f x).hst = d.hst := rfl
@[simp] theorem Dev.setFlag_cmds (d : Dev) (f : RF) (x : Bool) : (d.setFlag f x).cmds = d.cmds := rfl
@[simp] theorem Dev.setFlag_zne (d : Dev) (f : RF) (x : Bool) : (d.setFlag f x).zne = d.zne := rfl
@[simp] theorem Dev.setFlag_sec (d : Dev) (f : RF) (x : Bool) : (d.setFlag f x).sec = d.sec := rfl
@[simp] theorem Dev.setFlag_buf (d : Dev) (f : RF) (x : Bool) : (d.setFlag f x).buf = d.buf := rfl
@[simp] theorem Dev.setFlag_scb (d : Dev) (f : RF) (x : Bool) : (d.setFlag f x).scb = d.scb := rfl
@[simp] theorem Dev.setFlag_mdc (d : Dev) (f : RF) (x : Bool) : (d.setFlag f x).mdc = d.mdc := rfl
@[simp] theorem Dev.setFlag_dma (d : Dev) (f : RF) (x : Bool) : (d.setFlag f x).dma = d.dma := rfl
@[simp] theorem Dev.setFlag_ch (d : Dev) (f : RF) (x : Bool) : (d.setFlag f x).ch = d.ch := rfl
@[simp] theorem Dev.setFlag_dec (d : Dev) (f : RF) (x : Bool) : (d.setFlag f x).dec = d.dec := rfl
@[simp] theorem Dev.setFlag_wrp (d : Dev) (f : RF) (x : Bool) : (d.setFlag f x).wrp = d.wrp := rfl
@[simp] theorem Dev.setFlag_srv (d : Dev) (f : RF) (x : Bool) : (d.setFlag f x).srv = d.srv := rfl
@[simp] theorem Dev.setFlag_lanes (d : Dev) (f : RF) (x : Bool) : (d.setFlag f x).lanes = d.lanes := rfl
@[simp] theorem Dev.setFlag_spn (d : Dev) (f : RF) (x : Bool) : (d.setFlag f x).spn = d.spn := rfl
@[simp] theorem Dev.setFlag_msq (d : Dev) (f : RF) (x : Bool) : (d.setFlag f x).msq = d.msq := rfl
@[simp] theorem Dev.setFlag_pwr (d : Dev) (f : RF) (x : Bool) : (d.setFlag f x).pwr = d.pwr := rfl
@[simp] theorem Dev.setFlag_rng (d : Dev) (f : RF) (x : Bool) : (d.setFlag f x).rng = d.rng := rfl
@[simp] theorem Dev.setFlag_seq (d : Dev) (f : RF) (x : Bool) : (d.setFlag f x).seq = d.seq := rfl
@[simp] theorem Dev.setFlag_free (d : Dev) (f : RF) (x : Bool) : (d.setFlag f x).free = d.free := rfl

@[simp] theorem Dev.incSat_v (d : Dev) (f : RF) (n : Nat) : (d.incSat f n).v = d.v := rfl
@[simp] theorem Dev.incSat_staged (d : Dev) (f : RF) (n : Nat) : (d.incSat f n).staged = d.staged := rfl
@[simp] theorem Dev.incSat_tbase (d : Dev) (f : RF) (n : Nat) : (d.incSat f n).tbase = d.tbase := rfl
@[simp] theorem Dev.incSat_pools (d : Dev) (f : RF) (n : Nat) : (d.incSat f n).pools = d.pools := rfl
@[simp] theorem Dev.incSat_lost (d : Dev) (f : RF) (n : Nat) : (d.incSat f n).lost = d.lost := rfl
@[simp] theorem Dev.incSat_bg (d : Dev) (f : RF) (n : Nat) : (d.incSat f n).bg = d.bg := rfl
@[simp] theorem Dev.incSat_cnt (d : Dev) (f : RF) (n : Nat) : (d.incSat f n).cnt = d.cnt := rfl
@[simp] theorem Dev.incSat_shadows (d : Dev) (f : RF) (n : Nat) : (d.incSat f n).shadows = d.shadows := rfl
@[simp] theorem Dev.incSat_roll (d : Dev) (f : RF) (n : Nat) : (d.incSat f n).roll = d.roll := rfl
@[simp] theorem Dev.incSat_mem (d : Dev) (f : RF) (n : Nat) : (d.incSat f n).mem = d.mem := rfl
@[simp] theorem Dev.incSat_log (d : Dev) (f : RF) (n : Nat) : (d.incSat f n).log = d.log := rfl
@[simp] theorem Dev.incSat_flc (d : Dev) (f : RF) (n : Nat) : (d.incSat f n).flc = d.flc := rfl
@[simp] theorem Dev.incSat_load (d : Dev) (f : RF) (n : Nat) : (d.incSat f n).load = d.load := rfl
@[simp] theorem Dev.incSat_dl (d : Dev) (f : RF) (n : Nat) : (d.incSat f n).dl = d.dl := rfl
@[simp] theorem Dev.incSat_hst (d : Dev) (f : RF) (n : Nat) : (d.incSat f n).hst = d.hst := rfl
@[simp] theorem Dev.incSat_cmds (d : Dev) (f : RF) (n : Nat) : (d.incSat f n).cmds = d.cmds := rfl
@[simp] theorem Dev.incSat_zne (d : Dev) (f : RF) (n : Nat) : (d.incSat f n).zne = d.zne := rfl
@[simp] theorem Dev.incSat_sec (d : Dev) (f : RF) (n : Nat) : (d.incSat f n).sec = d.sec := rfl
@[simp] theorem Dev.incSat_buf (d : Dev) (f : RF) (n : Nat) : (d.incSat f n).buf = d.buf := rfl
@[simp] theorem Dev.incSat_scb (d : Dev) (f : RF) (n : Nat) : (d.incSat f n).scb = d.scb := rfl
@[simp] theorem Dev.incSat_mdc (d : Dev) (f : RF) (n : Nat) : (d.incSat f n).mdc = d.mdc := rfl
@[simp] theorem Dev.incSat_dma (d : Dev) (f : RF) (n : Nat) : (d.incSat f n).dma = d.dma := rfl
@[simp] theorem Dev.incSat_ch (d : Dev) (f : RF) (n : Nat) : (d.incSat f n).ch = d.ch := rfl
@[simp] theorem Dev.incSat_dec (d : Dev) (f : RF) (n : Nat) : (d.incSat f n).dec = d.dec := rfl
@[simp] theorem Dev.incSat_wrp (d : Dev) (f : RF) (n : Nat) : (d.incSat f n).wrp = d.wrp := rfl
@[simp] theorem Dev.incSat_srv (d : Dev) (f : RF) (n : Nat) : (d.incSat f n).srv = d.srv := rfl
@[simp] theorem Dev.incSat_lanes (d : Dev) (f : RF) (n : Nat) : (d.incSat f n).lanes = d.lanes := rfl
@[simp] theorem Dev.incSat_spn (d : Dev) (f : RF) (n : Nat) : (d.incSat f n).spn = d.spn := rfl
@[simp] theorem Dev.incSat_msq (d : Dev) (f : RF) (n : Nat) : (d.incSat f n).msq = d.msq := rfl
@[simp] theorem Dev.incSat_pwr (d : Dev) (f : RF) (n : Nat) : (d.incSat f n).pwr = d.pwr := rfl
@[simp] theorem Dev.incSat_rng (d : Dev) (f : RF) (n : Nat) : (d.incSat f n).rng = d.rng := rfl
@[simp] theorem Dev.incSat_seq (d : Dev) (f : RF) (n : Nat) : (d.incSat f n).seq = d.seq := rfl
@[simp] theorem Dev.incSat_free (d : Dev) (f : RF) (n : Nat) : (d.incSat f n).free = d.free := rfl

@[simp] theorem Dev.bump_v (d : Dev) (b : Blk) (i n : Nat) : (d.bump b i n).v = d.v := rfl
@[simp] theorem Dev.bump_regs (d : Dev) (b : Blk) (i n : Nat) : (d.bump b i n).regs = d.regs := rfl
@[simp] theorem Dev.bump_staged (d : Dev) (b : Blk) (i n : Nat) : (d.bump b i n).staged = d.staged := rfl
@[simp] theorem Dev.bump_tbase (d : Dev) (b : Blk) (i n : Nat) : (d.bump b i n).tbase = d.tbase := rfl
@[simp] theorem Dev.bump_pools (d : Dev) (b : Blk) (i n : Nat) : (d.bump b i n).pools = d.pools := rfl
@[simp] theorem Dev.bump_lost (d : Dev) (b : Blk) (i n : Nat) : (d.bump b i n).lost = d.lost := rfl
@[simp] theorem Dev.bump_bg (d : Dev) (b : Blk) (i n : Nat) : (d.bump b i n).bg = d.bg := rfl
@[simp] theorem Dev.bump_shadows (d : Dev) (b : Blk) (i n : Nat) : (d.bump b i n).shadows = d.shadows := rfl
@[simp] theorem Dev.bump_roll (d : Dev) (b : Blk) (i n : Nat) : (d.bump b i n).roll = d.roll := rfl
@[simp] theorem Dev.bump_mem (d : Dev) (b : Blk) (i n : Nat) : (d.bump b i n).mem = d.mem := rfl
@[simp] theorem Dev.bump_log (d : Dev) (b : Blk) (i n : Nat) : (d.bump b i n).log = d.log := rfl
@[simp] theorem Dev.bump_flc (d : Dev) (b : Blk) (i n : Nat) : (d.bump b i n).flc = d.flc := rfl
@[simp] theorem Dev.bump_load (d : Dev) (b : Blk) (i n : Nat) : (d.bump b i n).load = d.load := rfl
@[simp] theorem Dev.bump_dl (d : Dev) (b : Blk) (i n : Nat) : (d.bump b i n).dl = d.dl := rfl
@[simp] theorem Dev.bump_hst (d : Dev) (b : Blk) (i n : Nat) : (d.bump b i n).hst = d.hst := rfl
@[simp] theorem Dev.bump_cmds (d : Dev) (b : Blk) (i n : Nat) : (d.bump b i n).cmds = d.cmds := rfl
@[simp] theorem Dev.bump_zne (d : Dev) (b : Blk) (i n : Nat) : (d.bump b i n).zne = d.zne := rfl
@[simp] theorem Dev.bump_sec (d : Dev) (b : Blk) (i n : Nat) : (d.bump b i n).sec = d.sec := rfl
@[simp] theorem Dev.bump_buf (d : Dev) (b : Blk) (i n : Nat) : (d.bump b i n).buf = d.buf := rfl
@[simp] theorem Dev.bump_scb (d : Dev) (b : Blk) (i n : Nat) : (d.bump b i n).scb = d.scb := rfl
@[simp] theorem Dev.bump_mdc (d : Dev) (b : Blk) (i n : Nat) : (d.bump b i n).mdc = d.mdc := rfl
@[simp] theorem Dev.bump_dma (d : Dev) (b : Blk) (i n : Nat) : (d.bump b i n).dma = d.dma := rfl
@[simp] theorem Dev.bump_ch (d : Dev) (b : Blk) (i n : Nat) : (d.bump b i n).ch = d.ch := rfl
@[simp] theorem Dev.bump_dec (d : Dev) (b : Blk) (i n : Nat) : (d.bump b i n).dec = d.dec := rfl
@[simp] theorem Dev.bump_wrp (d : Dev) (b : Blk) (i n : Nat) : (d.bump b i n).wrp = d.wrp := rfl
@[simp] theorem Dev.bump_srv (d : Dev) (b : Blk) (i n : Nat) : (d.bump b i n).srv = d.srv := rfl
@[simp] theorem Dev.bump_lanes (d : Dev) (b : Blk) (i n : Nat) : (d.bump b i n).lanes = d.lanes := rfl
@[simp] theorem Dev.bump_spn (d : Dev) (b : Blk) (i n : Nat) : (d.bump b i n).spn = d.spn := rfl
@[simp] theorem Dev.bump_msq (d : Dev) (b : Blk) (i n : Nat) : (d.bump b i n).msq = d.msq := rfl
@[simp] theorem Dev.bump_pwr (d : Dev) (b : Blk) (i n : Nat) : (d.bump b i n).pwr = d.pwr := rfl
@[simp] theorem Dev.bump_rng (d : Dev) (b : Blk) (i n : Nat) : (d.bump b i n).rng = d.rng := rfl
@[simp] theorem Dev.bump_seq (d : Dev) (b : Blk) (i n : Nat) : (d.bump b i n).seq = d.seq := rfl
@[simp] theorem Dev.bump_free (d : Dev) (b : Blk) (i n : Nat) : (d.bump b i n).free = d.free := rfl

@[simp] theorem Dev.drawNat_v (d : Dev) : (d.drawNat.2).v = d.v := rfl
@[simp] theorem Dev.drawNat_regs (d : Dev) : (d.drawNat.2).regs = d.regs := rfl
@[simp] theorem Dev.drawNat_staged (d : Dev) : (d.drawNat.2).staged = d.staged := rfl
@[simp] theorem Dev.drawNat_tbase (d : Dev) : (d.drawNat.2).tbase = d.tbase := rfl
@[simp] theorem Dev.drawNat_pools (d : Dev) : (d.drawNat.2).pools = d.pools := rfl
@[simp] theorem Dev.drawNat_lost (d : Dev) : (d.drawNat.2).lost = d.lost := rfl
@[simp] theorem Dev.drawNat_bg (d : Dev) : (d.drawNat.2).bg = d.bg := rfl
@[simp] theorem Dev.drawNat_cnt (d : Dev) : (d.drawNat.2).cnt = d.cnt := rfl
@[simp] theorem Dev.drawNat_shadows (d : Dev) : (d.drawNat.2).shadows = d.shadows := rfl
@[simp] theorem Dev.drawNat_roll (d : Dev) : (d.drawNat.2).roll = d.roll := rfl
@[simp] theorem Dev.drawNat_mem (d : Dev) : (d.drawNat.2).mem = d.mem := rfl
@[simp] theorem Dev.drawNat_log (d : Dev) : (d.drawNat.2).log = d.log := rfl
@[simp] theorem Dev.drawNat_flc (d : Dev) : (d.drawNat.2).flc = d.flc := rfl
@[simp] theorem Dev.drawNat_load (d : Dev) : (d.drawNat.2).load = d.load := rfl
@[simp] theorem Dev.drawNat_dl (d : Dev) : (d.drawNat.2).dl = d.dl := rfl
@[simp] theorem Dev.drawNat_hst (d : Dev) : (d.drawNat.2).hst = d.hst := rfl
@[simp] theorem Dev.drawNat_cmds (d : Dev) : (d.drawNat.2).cmds = d.cmds := rfl
@[simp] theorem Dev.drawNat_zne (d : Dev) : (d.drawNat.2).zne = d.zne := rfl
@[simp] theorem Dev.drawNat_sec (d : Dev) : (d.drawNat.2).sec = d.sec := rfl
@[simp] theorem Dev.drawNat_buf (d : Dev) : (d.drawNat.2).buf = d.buf := rfl
@[simp] theorem Dev.drawNat_scb (d : Dev) : (d.drawNat.2).scb = d.scb := rfl
@[simp] theorem Dev.drawNat_mdc (d : Dev) : (d.drawNat.2).mdc = d.mdc := rfl
@[simp] theorem Dev.drawNat_dma (d : Dev) : (d.drawNat.2).dma = d.dma := rfl
@[simp] theorem Dev.drawNat_ch (d : Dev) : (d.drawNat.2).ch = d.ch := rfl
@[simp] theorem Dev.drawNat_dec (d : Dev) : (d.drawNat.2).dec = d.dec := rfl
@[simp] theorem Dev.drawNat_wrp (d : Dev) : (d.drawNat.2).wrp = d.wrp := rfl
@[simp] theorem Dev.drawNat_srv (d : Dev) : (d.drawNat.2).srv = d.srv := rfl
@[simp] theorem Dev.drawNat_lanes (d : Dev) : (d.drawNat.2).lanes = d.lanes := rfl
@[simp] theorem Dev.drawNat_spn (d : Dev) : (d.drawNat.2).spn = d.spn := rfl
@[simp] theorem Dev.drawNat_msq (d : Dev) : (d.drawNat.2).msq = d.msq := rfl
@[simp] theorem Dev.drawNat_pwr (d : Dev) : (d.drawNat.2).pwr = d.pwr := rfl
@[simp] theorem Dev.drawNat_rng (d : Dev) : (d.drawNat.2).rng = d.rng := rfl
@[simp] theorem Dev.drawNat_seq (d : Dev) : (d.drawNat.2).seq = d.seq := rfl

@[simp] theorem Dev.drawBytes_v (d : Dev) (n : Nat) : ((d.drawBytes n).2).v = d.v := rfl
@[simp] theorem Dev.drawBytes_regs (d : Dev) (n : Nat) : ((d.drawBytes n).2).regs = d.regs := rfl
@[simp] theorem Dev.drawBytes_staged (d : Dev) (n : Nat) : ((d.drawBytes n).2).staged = d.staged := rfl
@[simp] theorem Dev.drawBytes_tbase (d : Dev) (n : Nat) : ((d.drawBytes n).2).tbase = d.tbase := rfl
@[simp] theorem Dev.drawBytes_pools (d : Dev) (n : Nat) : ((d.drawBytes n).2).pools = d.pools := rfl
@[simp] theorem Dev.drawBytes_lost (d : Dev) (n : Nat) : ((d.drawBytes n).2).lost = d.lost := rfl
@[simp] theorem Dev.drawBytes_bg (d : Dev) (n : Nat) : ((d.drawBytes n).2).bg = d.bg := rfl
@[simp] theorem Dev.drawBytes_cnt (d : Dev) (n : Nat) : ((d.drawBytes n).2).cnt = d.cnt := rfl
@[simp] theorem Dev.drawBytes_shadows (d : Dev) (n : Nat) : ((d.drawBytes n).2).shadows = d.shadows := rfl
@[simp] theorem Dev.drawBytes_roll (d : Dev) (n : Nat) : ((d.drawBytes n).2).roll = d.roll := rfl
@[simp] theorem Dev.drawBytes_mem (d : Dev) (n : Nat) : ((d.drawBytes n).2).mem = d.mem := rfl
@[simp] theorem Dev.drawBytes_log (d : Dev) (n : Nat) : ((d.drawBytes n).2).log = d.log := rfl
@[simp] theorem Dev.drawBytes_flc (d : Dev) (n : Nat) : ((d.drawBytes n).2).flc = d.flc := rfl
@[simp] theorem Dev.drawBytes_load (d : Dev) (n : Nat) : ((d.drawBytes n).2).load = d.load := rfl
@[simp] theorem Dev.drawBytes_dl (d : Dev) (n : Nat) : ((d.drawBytes n).2).dl = d.dl := rfl
@[simp] theorem Dev.drawBytes_hst (d : Dev) (n : Nat) : ((d.drawBytes n).2).hst = d.hst := rfl
@[simp] theorem Dev.drawBytes_cmds (d : Dev) (n : Nat) : ((d.drawBytes n).2).cmds = d.cmds := rfl
@[simp] theorem Dev.drawBytes_zne (d : Dev) (n : Nat) : ((d.drawBytes n).2).zne = d.zne := rfl
@[simp] theorem Dev.drawBytes_sec (d : Dev) (n : Nat) : ((d.drawBytes n).2).sec = d.sec := rfl
@[simp] theorem Dev.drawBytes_buf (d : Dev) (n : Nat) : ((d.drawBytes n).2).buf = d.buf := rfl
@[simp] theorem Dev.drawBytes_scb (d : Dev) (n : Nat) : ((d.drawBytes n).2).scb = d.scb := rfl
@[simp] theorem Dev.drawBytes_mdc (d : Dev) (n : Nat) : ((d.drawBytes n).2).mdc = d.mdc := rfl
@[simp] theorem Dev.drawBytes_dma (d : Dev) (n : Nat) : ((d.drawBytes n).2).dma = d.dma := rfl
@[simp] theorem Dev.drawBytes_ch (d : Dev) (n : Nat) : ((d.drawBytes n).2).ch = d.ch := rfl
@[simp] theorem Dev.drawBytes_dec (d : Dev) (n : Nat) : ((d.drawBytes n).2).dec = d.dec := rfl
@[simp] theorem Dev.drawBytes_wrp (d : Dev) (n : Nat) : ((d.drawBytes n).2).wrp = d.wrp := rfl
@[simp] theorem Dev.drawBytes_srv (d : Dev) (n : Nat) : ((d.drawBytes n).2).srv = d.srv := rfl
@[simp] theorem Dev.drawBytes_lanes (d : Dev) (n : Nat) : ((d.drawBytes n).2).lanes = d.lanes := rfl
@[simp] theorem Dev.drawBytes_spn (d : Dev) (n : Nat) : ((d.drawBytes n).2).spn = d.spn := rfl
@[simp] theorem Dev.drawBytes_msq (d : Dev) (n : Nat) : ((d.drawBytes n).2).msq = d.msq := rfl
@[simp] theorem Dev.drawBytes_pwr (d : Dev) (n : Nat) : ((d.drawBytes n).2).pwr = d.pwr := rfl
@[simp] theorem Dev.drawBytes_rng (d : Dev) (n : Nat) : ((d.drawBytes n).2).rng = d.rng := rfl
@[simp] theorem Dev.drawBytes_seq (d : Dev) (n : Nat) : ((d.drawBytes n).2).seq = d.seq := rfl

@[simp] theorem Dev.handOver_v (d : Dev) (c : Cpl) : (d.handOver c).v = d.v := rfl
@[simp] theorem Dev.handOver_regs (d : Dev) (c : Cpl) : (d.handOver c).regs = d.regs := rfl
@[simp] theorem Dev.handOver_staged (d : Dev) (c : Cpl) : (d.handOver c).staged = d.staged := rfl
@[simp] theorem Dev.handOver_tbase (d : Dev) (c : Cpl) : (d.handOver c).tbase = d.tbase := rfl
@[simp] theorem Dev.handOver_pools (d : Dev) (c : Cpl) : (d.handOver c).pools = d.pools := rfl
@[simp] theorem Dev.handOver_lost (d : Dev) (c : Cpl) : (d.handOver c).lost = d.lost := rfl
@[simp] theorem Dev.handOver_bg (d : Dev) (c : Cpl) : (d.handOver c).bg = d.bg := rfl
@[simp] theorem Dev.handOver_cnt (d : Dev) (c : Cpl) : (d.handOver c).cnt = d.cnt := rfl
@[simp] theorem Dev.handOver_shadows (d : Dev) (c : Cpl) : (d.handOver c).shadows = d.shadows := rfl
@[simp] theorem Dev.handOver_roll (d : Dev) (c : Cpl) : (d.handOver c).roll = d.roll := rfl
@[simp] theorem Dev.handOver_mem (d : Dev) (c : Cpl) : (d.handOver c).mem = d.mem := rfl
@[simp] theorem Dev.handOver_log (d : Dev) (c : Cpl) : (d.handOver c).log = d.log := rfl
@[simp] theorem Dev.handOver_flc (d : Dev) (c : Cpl) : (d.handOver c).flc = d.flc := rfl
@[simp] theorem Dev.handOver_load (d : Dev) (c : Cpl) : (d.handOver c).load = d.load := rfl
@[simp] theorem Dev.handOver_dl (d : Dev) (c : Cpl) : (d.handOver c).dl = d.dl := rfl
@[simp] theorem Dev.handOver_cmds (d : Dev) (c : Cpl) : (d.handOver c).cmds = d.cmds := rfl
@[simp] theorem Dev.handOver_zne (d : Dev) (c : Cpl) : (d.handOver c).zne = d.zne := rfl
@[simp] theorem Dev.handOver_sec (d : Dev) (c : Cpl) : (d.handOver c).sec = d.sec := rfl
@[simp] theorem Dev.handOver_buf (d : Dev) (c : Cpl) : (d.handOver c).buf = d.buf := rfl
@[simp] theorem Dev.handOver_scb (d : Dev) (c : Cpl) : (d.handOver c).scb = d.scb := rfl
@[simp] theorem Dev.handOver_mdc (d : Dev) (c : Cpl) : (d.handOver c).mdc = d.mdc := rfl
@[simp] theorem Dev.handOver_dma (d : Dev) (c : Cpl) : (d.handOver c).dma = d.dma := rfl
@[simp] theorem Dev.handOver_ch (d : Dev) (c : Cpl) : (d.handOver c).ch = d.ch := rfl
@[simp] theorem Dev.handOver_dec (d : Dev) (c : Cpl) : (d.handOver c).dec = d.dec := rfl
@[simp] theorem Dev.handOver_wrp (d : Dev) (c : Cpl) : (d.handOver c).wrp = d.wrp := rfl
@[simp] theorem Dev.handOver_srv (d : Dev) (c : Cpl) : (d.handOver c).srv = d.srv := rfl
@[simp] theorem Dev.handOver_lanes (d : Dev) (c : Cpl) : (d.handOver c).lanes = d.lanes := rfl
@[simp] theorem Dev.handOver_spn (d : Dev) (c : Cpl) : (d.handOver c).spn = d.spn := rfl
@[simp] theorem Dev.handOver_msq (d : Dev) (c : Cpl) : (d.handOver c).msq = d.msq := rfl
@[simp] theorem Dev.handOver_pwr (d : Dev) (c : Cpl) : (d.handOver c).pwr = d.pwr := rfl
@[simp] theorem Dev.handOver_rng (d : Dev) (c : Cpl) : (d.handOver c).rng = d.rng := rfl
@[simp] theorem Dev.handOver_seq (d : Dev) (c : Cpl) : (d.handOver c).seq = d.seq := rfl
@[simp] theorem Dev.handOver_free (d : Dev) (c : Cpl) : (d.handOver c).free = d.free := rfl

@[simp] theorem Dev.loseEvent_v (d : Dev) (b : Blk) (inj : Bool) : (d.loseEvent b inj).v = d.v := rfl
@[simp] theorem Dev.loseEvent_regs (d : Dev) (b : Blk) (inj : Bool) : (d.loseEvent b inj).regs = d.regs := rfl
@[simp] theorem Dev.loseEvent_staged (d : Dev) (b : Blk) (inj : Bool) : (d.loseEvent b inj).staged = d.staged := rfl
@[simp] theorem Dev.loseEvent_tbase (d : Dev) (b : Blk) (inj : Bool) : (d.loseEvent b inj).tbase = d.tbase := rfl
@[simp] theorem Dev.loseEvent_pools (d : Dev) (b : Blk) (inj : Bool) : (d.loseEvent b inj).pools = d.pools := rfl
@[simp] theorem Dev.loseEvent_bg (d : Dev) (b : Blk) (inj : Bool) : (d.loseEvent b inj).bg = d.bg := rfl
@[simp] theorem Dev.loseEvent_cnt (d : Dev) (b : Blk) (inj : Bool) : (d.loseEvent b inj).cnt = d.cnt := rfl
@[simp] theorem Dev.loseEvent_shadows (d : Dev) (b : Blk) (inj : Bool) : (d.loseEvent b inj).shadows = d.shadows := rfl
@[simp] theorem Dev.loseEvent_roll (d : Dev) (b : Blk) (inj : Bool) : (d.loseEvent b inj).roll = d.roll := rfl
@[simp] theorem Dev.loseEvent_mem (d : Dev) (b : Blk) (inj : Bool) : (d.loseEvent b inj).mem = d.mem := rfl
@[simp] theorem Dev.loseEvent_log (d : Dev) (b : Blk) (inj : Bool) : (d.loseEvent b inj).log = d.log := rfl
@[simp] theorem Dev.loseEvent_flc (d : Dev) (b : Blk) (inj : Bool) : (d.loseEvent b inj).flc = d.flc := rfl
@[simp] theorem Dev.loseEvent_load (d : Dev) (b : Blk) (inj : Bool) : (d.loseEvent b inj).load = d.load := rfl
@[simp] theorem Dev.loseEvent_dl (d : Dev) (b : Blk) (inj : Bool) : (d.loseEvent b inj).dl = d.dl := rfl
@[simp] theorem Dev.loseEvent_hst (d : Dev) (b : Blk) (inj : Bool) : (d.loseEvent b inj).hst = d.hst := rfl
@[simp] theorem Dev.loseEvent_cmds (d : Dev) (b : Blk) (inj : Bool) : (d.loseEvent b inj).cmds = d.cmds := rfl
@[simp] theorem Dev.loseEvent_zne (d : Dev) (b : Blk) (inj : Bool) : (d.loseEvent b inj).zne = d.zne := rfl
@[simp] theorem Dev.loseEvent_sec (d : Dev) (b : Blk) (inj : Bool) : (d.loseEvent b inj).sec = d.sec := rfl
@[simp] theorem Dev.loseEvent_buf (d : Dev) (b : Blk) (inj : Bool) : (d.loseEvent b inj).buf = d.buf := rfl
@[simp] theorem Dev.loseEvent_scb (d : Dev) (b : Blk) (inj : Bool) : (d.loseEvent b inj).scb = d.scb := rfl
@[simp] theorem Dev.loseEvent_mdc (d : Dev) (b : Blk) (inj : Bool) : (d.loseEvent b inj).mdc = d.mdc := rfl
@[simp] theorem Dev.loseEvent_dma (d : Dev) (b : Blk) (inj : Bool) : (d.loseEvent b inj).dma = d.dma := rfl
@[simp] theorem Dev.loseEvent_ch (d : Dev) (b : Blk) (inj : Bool) : (d.loseEvent b inj).ch = d.ch := rfl
@[simp] theorem Dev.loseEvent_dec (d : Dev) (b : Blk) (inj : Bool) : (d.loseEvent b inj).dec = d.dec := rfl
@[simp] theorem Dev.loseEvent_wrp (d : Dev) (b : Blk) (inj : Bool) : (d.loseEvent b inj).wrp = d.wrp := rfl
@[simp] theorem Dev.loseEvent_srv (d : Dev) (b : Blk) (inj : Bool) : (d.loseEvent b inj).srv = d.srv := rfl
@[simp] theorem Dev.loseEvent_lanes (d : Dev) (b : Blk) (inj : Bool) : (d.loseEvent b inj).lanes = d.lanes := rfl
@[simp] theorem Dev.loseEvent_spn (d : Dev) (b : Blk) (inj : Bool) : (d.loseEvent b inj).spn = d.spn := rfl
@[simp] theorem Dev.loseEvent_msq (d : Dev) (b : Blk) (inj : Bool) : (d.loseEvent b inj).msq = d.msq := rfl
@[simp] theorem Dev.loseEvent_pwr (d : Dev) (b : Blk) (inj : Bool) : (d.loseEvent b inj).pwr = d.pwr := rfl
@[simp] theorem Dev.loseEvent_rng (d : Dev) (b : Blk) (inj : Bool) : (d.loseEvent b inj).rng = d.rng := rfl
@[simp] theorem Dev.loseEvent_seq (d : Dev) (b : Blk) (inj : Bool) : (d.loseEvent b inj).seq = d.seq := rfl
@[simp] theorem Dev.loseEvent_free (d : Dev) (b : Blk) (inj : Bool) : (d.loseEvent b inj).free = d.free := rfl

@[simp] theorem Dev.pushEvent_v (d : Dev) (e : Event) : (d.pushEvent e).v = d.v := rfl
@[simp] theorem Dev.pushEvent_regs (d : Dev) (e : Event) : (d.pushEvent e).regs = d.regs := rfl
@[simp] theorem Dev.pushEvent_staged (d : Dev) (e : Event) : (d.pushEvent e).staged = d.staged := rfl
@[simp] theorem Dev.pushEvent_tbase (d : Dev) (e : Event) : (d.pushEvent e).tbase = d.tbase := rfl
@[simp] theorem Dev.pushEvent_pools (d : Dev) (e : Event) : (d.pushEvent e).pools = d.pools := rfl
@[simp] theorem Dev.pushEvent_lost (d : Dev) (e : Event) : (d.pushEvent e).lost = d.lost := rfl
@[simp] theorem Dev.pushEvent_bg (d : Dev) (e : Event) : (d.pushEvent e).bg = d.bg := rfl
@[simp] theorem Dev.pushEvent_cnt (d : Dev) (e : Event) : (d.pushEvent e).cnt = d.cnt := rfl
@[simp] theorem Dev.pushEvent_shadows (d : Dev) (e : Event) : (d.pushEvent e).shadows = d.shadows := rfl
@[simp] theorem Dev.pushEvent_roll (d : Dev) (e : Event) : (d.pushEvent e).roll = d.roll := rfl
@[simp] theorem Dev.pushEvent_mem (d : Dev) (e : Event) : (d.pushEvent e).mem = d.mem := rfl
@[simp] theorem Dev.pushEvent_flc (d : Dev) (e : Event) : (d.pushEvent e).flc = d.flc := rfl
@[simp] theorem Dev.pushEvent_load (d : Dev) (e : Event) : (d.pushEvent e).load = d.load := rfl
@[simp] theorem Dev.pushEvent_dl (d : Dev) (e : Event) : (d.pushEvent e).dl = d.dl := rfl
@[simp] theorem Dev.pushEvent_hst (d : Dev) (e : Event) : (d.pushEvent e).hst = d.hst := rfl
@[simp] theorem Dev.pushEvent_cmds (d : Dev) (e : Event) : (d.pushEvent e).cmds = d.cmds := rfl
@[simp] theorem Dev.pushEvent_zne (d : Dev) (e : Event) : (d.pushEvent e).zne = d.zne := rfl
@[simp] theorem Dev.pushEvent_sec (d : Dev) (e : Event) : (d.pushEvent e).sec = d.sec := rfl
@[simp] theorem Dev.pushEvent_buf (d : Dev) (e : Event) : (d.pushEvent e).buf = d.buf := rfl
@[simp] theorem Dev.pushEvent_scb (d : Dev) (e : Event) : (d.pushEvent e).scb = d.scb := rfl
@[simp] theorem Dev.pushEvent_mdc (d : Dev) (e : Event) : (d.pushEvent e).mdc = d.mdc := rfl
@[simp] theorem Dev.pushEvent_dma (d : Dev) (e : Event) : (d.pushEvent e).dma = d.dma := rfl
@[simp] theorem Dev.pushEvent_ch (d : Dev) (e : Event) : (d.pushEvent e).ch = d.ch := rfl
@[simp] theorem Dev.pushEvent_dec (d : Dev) (e : Event) : (d.pushEvent e).dec = d.dec := rfl
@[simp] theorem Dev.pushEvent_wrp (d : Dev) (e : Event) : (d.pushEvent e).wrp = d.wrp := rfl
@[simp] theorem Dev.pushEvent_srv (d : Dev) (e : Event) : (d.pushEvent e).srv = d.srv := rfl
@[simp] theorem Dev.pushEvent_lanes (d : Dev) (e : Event) : (d.pushEvent e).lanes = d.lanes := rfl
@[simp] theorem Dev.pushEvent_spn (d : Dev) (e : Event) : (d.pushEvent e).spn = d.spn := rfl
@[simp] theorem Dev.pushEvent_msq (d : Dev) (e : Event) : (d.pushEvent e).msq = d.msq := rfl
@[simp] theorem Dev.pushEvent_pwr (d : Dev) (e : Event) : (d.pushEvent e).pwr = d.pwr := rfl
@[simp] theorem Dev.pushEvent_rng (d : Dev) (e : Event) : (d.pushEvent e).rng = d.rng := rfl
@[simp] theorem Dev.pushEvent_seq (d : Dev) (e : Event) : (d.pushEvent e).seq = d.seq := rfl
@[simp] theorem Dev.pushEvent_free (d : Dev) (e : Event) : (d.pushEvent e).free = d.free := rfl

@[simp] theorem Dev.memError_v (d : Dev) (b : Blk) (m : Nat) (e : MemEntry) : (d.memError b m e).v = d.v := rfl
@[simp] theorem Dev.memError_regs (d : Dev) (b : Blk) (m : Nat) (e : MemEntry) : (d.memError b m e).regs = d.regs := rfl
@[simp] theorem Dev.memError_staged (d : Dev) (b : Blk) (m : Nat) (e : MemEntry) : (d.memError b m e).staged = d.staged := rfl
@[simp] theorem Dev.memError_tbase (d : Dev) (b : Blk) (m : Nat) (e : MemEntry) : (d.memError b m e).tbase = d.tbase := rfl
@[simp] theorem Dev.memError_pools (d : Dev) (b : Blk) (m : Nat) (e : MemEntry) : (d.memError b m e).pools = d.pools := rfl
@[simp] theorem Dev.memError_lost (d : Dev) (b : Blk) (m : Nat) (e : MemEntry) : (d.memError b m e).lost = d.lost := rfl
@[simp] theorem Dev.memError_bg (d : Dev) (b : Blk) (m : Nat) (e : MemEntry) : (d.memError b m e).bg = d.bg := rfl
@[simp] theorem Dev.memError_cnt (d : Dev) (b : Blk) (m : Nat) (e : MemEntry) : (d.memError b m e).cnt = d.cnt := rfl
@[simp] theorem Dev.memError_shadows (d : Dev) (b : Blk) (m : Nat) (e : MemEntry) : (d.memError b m e).shadows = d.shadows := rfl
@[simp] theorem Dev.memError_roll (d : Dev) (b : Blk) (m : Nat) (e : MemEntry) : (d.memError b m e).roll = d.roll := rfl
@[simp] theorem Dev.memError_log (d : Dev) (b : Blk) (m : Nat) (e : MemEntry) : (d.memError b m e).log = d.log := rfl
@[simp] theorem Dev.memError_flc (d : Dev) (b : Blk) (m : Nat) (e : MemEntry) : (d.memError b m e).flc = d.flc := rfl
@[simp] theorem Dev.memError_load (d : Dev) (b : Blk) (m : Nat) (e : MemEntry) : (d.memError b m e).load = d.load := rfl
@[simp] theorem Dev.memError_dl (d : Dev) (b : Blk) (m : Nat) (e : MemEntry) : (d.memError b m e).dl = d.dl := rfl
@[simp] theorem Dev.memError_hst (d : Dev) (b : Blk) (m : Nat) (e : MemEntry) : (d.memError b m e).hst = d.hst := rfl
@[simp] theorem Dev.memError_cmds (d : Dev) (b : Blk) (m : Nat) (e : MemEntry) : (d.memError b m e).cmds = d.cmds := rfl
@[simp] theorem Dev.memError_zne (d : Dev) (b : Blk) (m : Nat) (e : MemEntry) : (d.memError b m e).zne = d.zne := rfl
@[simp] theorem Dev.memError_sec (d : Dev) (b : Blk) (m : Nat) (e : MemEntry) : (d.memError b m e).sec = d.sec := rfl
@[simp] theorem Dev.memError_buf (d : Dev) (b : Blk) (m : Nat) (e : MemEntry) : (d.memError b m e).buf = d.buf := rfl
@[simp] theorem Dev.memError_scb (d : Dev) (b : Blk) (m : Nat) (e : MemEntry) : (d.memError b m e).scb = d.scb := rfl
@[simp] theorem Dev.memError_mdc (d : Dev) (b : Blk) (m : Nat) (e : MemEntry) : (d.memError b m e).mdc = d.mdc := rfl
@[simp] theorem Dev.memError_dma (d : Dev) (b : Blk) (m : Nat) (e : MemEntry) : (d.memError b m e).dma = d.dma := rfl
@[simp] theorem Dev.memError_ch (d : Dev) (b : Blk) (m : Nat) (e : MemEntry) : (d.memError b m e).ch = d.ch := rfl
@[simp] theorem Dev.memError_dec (d : Dev) (b : Blk) (m : Nat) (e : MemEntry) : (d.memError b m e).dec = d.dec := rfl
@[simp] theorem Dev.memError_wrp (d : Dev) (b : Blk) (m : Nat) (e : MemEntry) : (d.memError b m e).wrp = d.wrp := rfl
@[simp] theorem Dev.memError_srv (d : Dev) (b : Blk) (m : Nat) (e : MemEntry) : (d.memError b m e).srv = d.srv := rfl
@[simp] theorem Dev.memError_lanes (d : Dev) (b : Blk) (m : Nat) (e : MemEntry) : (d.memError b m e).lanes = d.lanes := rfl
@[simp] theorem Dev.memError_spn (d : Dev) (b : Blk) (m : Nat) (e : MemEntry) : (d.memError b m e).spn = d.spn := rfl
@[simp] theorem Dev.memError_msq (d : Dev) (b : Blk) (m : Nat) (e : MemEntry) : (d.memError b m e).msq = d.msq := rfl
@[simp] theorem Dev.memError_pwr (d : Dev) (b : Blk) (m : Nat) (e : MemEntry) : (d.memError b m e).pwr = d.pwr := rfl
@[simp] theorem Dev.memError_rng (d : Dev) (b : Blk) (m : Nat) (e : MemEntry) : (d.memError b m e).rng = d.rng := rfl
@[simp] theorem Dev.memError_seq (d : Dev) (b : Blk) (m : Nat) (e : MemEntry) : (d.memError b m e).seq = d.seq := rfl
@[simp] theorem Dev.memError_free (d : Dev) (b : Blk) (m : Nat) (e : MemEntry) : (d.memError b m e).free = d.free := rfl

@[simp] theorem Dev.setPool_v (d : Dev) (b : Blk) (j : Nat) (p : PoolS) : (d.setPool b j p).v = d.v := rfl
@[simp] theorem Dev.setPool_regs (d : Dev) (b : Blk) (j : Nat) (p : PoolS) : (d.setPool b j p).regs = d.regs := rfl
@[simp] theorem Dev.setPool_staged (d : Dev) (b : Blk) (j : Nat) (p : PoolS) : (d.setPool b j p).staged = d.staged := rfl
@[simp] theorem Dev.setPool_tbase (d : Dev) (b : Blk) (j : Nat) (p : PoolS) : (d.setPool b j p).tbase = d.tbase := rfl
@[simp] theorem Dev.setPool_lost (d : Dev) (b : Blk) (j : Nat) (p : PoolS) : (d.setPool b j p).lost = d.lost := rfl
@[simp] theorem Dev.setPool_bg (d : Dev) (b : Blk) (j : Nat) (p : PoolS) : (d.setPool b j p).bg = d.bg := rfl
@[simp] theorem Dev.setPool_cnt (d : Dev) (b : Blk) (j : Nat) (p : PoolS) : (d.setPool b j p).cnt = d.cnt := rfl
@[simp] theorem Dev.setPool_shadows (d : Dev) (b : Blk) (j : Nat) (p : PoolS) : (d.setPool b j p).shadows = d.shadows := rfl
@[simp] theorem Dev.setPool_roll (d : Dev) (b : Blk) (j : Nat) (p : PoolS) : (d.setPool b j p).roll = d.roll := rfl
@[simp] theorem Dev.setPool_mem (d : Dev) (b : Blk) (j : Nat) (p : PoolS) : (d.setPool b j p).mem = d.mem := rfl
@[simp] theorem Dev.setPool_log (d : Dev) (b : Blk) (j : Nat) (p : PoolS) : (d.setPool b j p).log = d.log := rfl
@[simp] theorem Dev.setPool_flc (d : Dev) (b : Blk) (j : Nat) (p : PoolS) : (d.setPool b j p).flc = d.flc := rfl
@[simp] theorem Dev.setPool_load (d : Dev) (b : Blk) (j : Nat) (p : PoolS) : (d.setPool b j p).load = d.load := rfl
@[simp] theorem Dev.setPool_dl (d : Dev) (b : Blk) (j : Nat) (p : PoolS) : (d.setPool b j p).dl = d.dl := rfl
@[simp] theorem Dev.setPool_hst (d : Dev) (b : Blk) (j : Nat) (p : PoolS) : (d.setPool b j p).hst = d.hst := rfl
@[simp] theorem Dev.setPool_cmds (d : Dev) (b : Blk) (j : Nat) (p : PoolS) : (d.setPool b j p).cmds = d.cmds := rfl
@[simp] theorem Dev.setPool_zne (d : Dev) (b : Blk) (j : Nat) (p : PoolS) : (d.setPool b j p).zne = d.zne := rfl
@[simp] theorem Dev.setPool_sec (d : Dev) (b : Blk) (j : Nat) (p : PoolS) : (d.setPool b j p).sec = d.sec := rfl
@[simp] theorem Dev.setPool_buf (d : Dev) (b : Blk) (j : Nat) (p : PoolS) : (d.setPool b j p).buf = d.buf := rfl
@[simp] theorem Dev.setPool_scb (d : Dev) (b : Blk) (j : Nat) (p : PoolS) : (d.setPool b j p).scb = d.scb := rfl
@[simp] theorem Dev.setPool_mdc (d : Dev) (b : Blk) (j : Nat) (p : PoolS) : (d.setPool b j p).mdc = d.mdc := rfl
@[simp] theorem Dev.setPool_dma (d : Dev) (b : Blk) (j : Nat) (p : PoolS) : (d.setPool b j p).dma = d.dma := rfl
@[simp] theorem Dev.setPool_ch (d : Dev) (b : Blk) (j : Nat) (p : PoolS) : (d.setPool b j p).ch = d.ch := rfl
@[simp] theorem Dev.setPool_dec (d : Dev) (b : Blk) (j : Nat) (p : PoolS) : (d.setPool b j p).dec = d.dec := rfl
@[simp] theorem Dev.setPool_wrp (d : Dev) (b : Blk) (j : Nat) (p : PoolS) : (d.setPool b j p).wrp = d.wrp := rfl
@[simp] theorem Dev.setPool_srv (d : Dev) (b : Blk) (j : Nat) (p : PoolS) : (d.setPool b j p).srv = d.srv := rfl
@[simp] theorem Dev.setPool_lanes (d : Dev) (b : Blk) (j : Nat) (p : PoolS) : (d.setPool b j p).lanes = d.lanes := rfl
@[simp] theorem Dev.setPool_spn (d : Dev) (b : Blk) (j : Nat) (p : PoolS) : (d.setPool b j p).spn = d.spn := rfl
@[simp] theorem Dev.setPool_msq (d : Dev) (b : Blk) (j : Nat) (p : PoolS) : (d.setPool b j p).msq = d.msq := rfl
@[simp] theorem Dev.setPool_pwr (d : Dev) (b : Blk) (j : Nat) (p : PoolS) : (d.setPool b j p).pwr = d.pwr := rfl
@[simp] theorem Dev.setPool_rng (d : Dev) (b : Blk) (j : Nat) (p : PoolS) : (d.setPool b j p).rng = d.rng := rfl
@[simp] theorem Dev.setPool_seq (d : Dev) (b : Blk) (j : Nat) (p : PoolS) : (d.setPool b j p).seq = d.seq := rfl
@[simp] theorem Dev.setPool_free (d : Dev) (b : Blk) (j : Nat) (p : PoolS) : (d.setPool b j p).free = d.free := rfl

@[simp] theorem Dev.raiseBg_v (d : Dev) (k : BgKind) : (d.raiseBg k).v = d.v := rfl
@[simp] theorem Dev.raiseBg_regs (d : Dev) (k : BgKind) : (d.raiseBg k).regs = d.regs := rfl
@[simp] theorem Dev.raiseBg_staged (d : Dev) (k : BgKind) : (d.raiseBg k).staged = d.staged := rfl
@[simp] theorem Dev.raiseBg_tbase (d : Dev) (k : BgKind) : (d.raiseBg k).tbase = d.tbase := rfl
@[simp] theorem Dev.raiseBg_pools (d : Dev) (k : BgKind) : (d.raiseBg k).pools = d.pools := rfl
@[simp] theorem Dev.raiseBg_lost (d : Dev) (k : BgKind) : (d.raiseBg k).lost = d.lost := rfl
@[simp] theorem Dev.raiseBg_cnt (d : Dev) (k : BgKind) : (d.raiseBg k).cnt = d.cnt := rfl
@[simp] theorem Dev.raiseBg_shadows (d : Dev) (k : BgKind) : (d.raiseBg k).shadows = d.shadows := rfl
@[simp] theorem Dev.raiseBg_roll (d : Dev) (k : BgKind) : (d.raiseBg k).roll = d.roll := rfl
@[simp] theorem Dev.raiseBg_mem (d : Dev) (k : BgKind) : (d.raiseBg k).mem = d.mem := rfl
@[simp] theorem Dev.raiseBg_log (d : Dev) (k : BgKind) : (d.raiseBg k).log = d.log := rfl
@[simp] theorem Dev.raiseBg_flc (d : Dev) (k : BgKind) : (d.raiseBg k).flc = d.flc := rfl
@[simp] theorem Dev.raiseBg_load (d : Dev) (k : BgKind) : (d.raiseBg k).load = d.load := rfl
@[simp] theorem Dev.raiseBg_dl (d : Dev) (k : BgKind) : (d.raiseBg k).dl = d.dl := rfl
@[simp] theorem Dev.raiseBg_hst (d : Dev) (k : BgKind) : (d.raiseBg k).hst = d.hst := rfl
@[simp] theorem Dev.raiseBg_cmds (d : Dev) (k : BgKind) : (d.raiseBg k).cmds = d.cmds := rfl
@[simp] theorem Dev.raiseBg_zne (d : Dev) (k : BgKind) : (d.raiseBg k).zne = d.zne := rfl
@[simp] theorem Dev.raiseBg_sec (d : Dev) (k : BgKind) : (d.raiseBg k).sec = d.sec := rfl
@[simp] theorem Dev.raiseBg_buf (d : Dev) (k : BgKind) : (d.raiseBg k).buf = d.buf := rfl
@[simp] theorem Dev.raiseBg_scb (d : Dev) (k : BgKind) : (d.raiseBg k).scb = d.scb := rfl
@[simp] theorem Dev.raiseBg_mdc (d : Dev) (k : BgKind) : (d.raiseBg k).mdc = d.mdc := rfl
@[simp] theorem Dev.raiseBg_dma (d : Dev) (k : BgKind) : (d.raiseBg k).dma = d.dma := rfl
@[simp] theorem Dev.raiseBg_ch (d : Dev) (k : BgKind) : (d.raiseBg k).ch = d.ch := rfl
@[simp] theorem Dev.raiseBg_dec (d : Dev) (k : BgKind) : (d.raiseBg k).dec = d.dec := rfl
@[simp] theorem Dev.raiseBg_wrp (d : Dev) (k : BgKind) : (d.raiseBg k).wrp = d.wrp := rfl
@[simp] theorem Dev.raiseBg_srv (d : Dev) (k : BgKind) : (d.raiseBg k).srv = d.srv := rfl
@[simp] theorem Dev.raiseBg_lanes (d : Dev) (k : BgKind) : (d.raiseBg k).lanes = d.lanes := rfl
@[simp] theorem Dev.raiseBg_spn (d : Dev) (k : BgKind) : (d.raiseBg k).spn = d.spn := rfl
@[simp] theorem Dev.raiseBg_msq (d : Dev) (k : BgKind) : (d.raiseBg k).msq = d.msq := rfl
@[simp] theorem Dev.raiseBg_pwr (d : Dev) (k : BgKind) : (d.raiseBg k).pwr = d.pwr := rfl
@[simp] theorem Dev.raiseBg_rng (d : Dev) (k : BgKind) : (d.raiseBg k).rng = d.rng := rfl
@[simp] theorem Dev.raiseBg_seq (d : Dev) (k : BgKind) : (d.raiseBg k).seq = d.seq := rfl
@[simp] theorem Dev.raiseBg_free (d : Dev) (k : BgKind) : (d.raiseBg k).free = d.free := rfl

@[simp] theorem Dev.grantBg_v (d : Dev) (k : BgKind) : (d.grantBg k).v = d.v := rfl
@[simp] theorem Dev.grantBg_regs (d : Dev) (k : BgKind) : (d.grantBg k).regs = d.regs := rfl
@[simp] theorem Dev.grantBg_staged (d : Dev) (k : BgKind) : (d.grantBg k).staged = d.staged := rfl
@[simp] theorem Dev.grantBg_tbase (d : Dev) (k : BgKind) : (d.grantBg k).tbase = d.tbase := rfl
@[simp] theorem Dev.grantBg_pools (d : Dev) (k : BgKind) : (d.grantBg k).pools = d.pools := rfl
@[simp] theorem Dev.grantBg_lost (d : Dev) (k : BgKind) : (d.grantBg k).lost = d.lost := rfl
@[simp] theorem Dev.grantBg_cnt (d : Dev) (k : BgKind) : (d.grantBg k).cnt = d.cnt := rfl
@[simp] theorem Dev.grantBg_shadows (d : Dev) (k : BgKind) : (d.grantBg k).shadows = d.shadows := rfl
@[simp] theorem Dev.grantBg_roll (d : Dev) (k : BgKind) : (d.grantBg k).roll = d.roll := rfl
@[simp] theorem Dev.grantBg_mem (d : Dev) (k : BgKind) : (d.grantBg k).mem = d.mem := rfl
@[simp] theorem Dev.grantBg_log (d : Dev) (k : BgKind) : (d.grantBg k).log = d.log := rfl
@[simp] theorem Dev.grantBg_flc (d : Dev) (k : BgKind) : (d.grantBg k).flc = d.flc := rfl
@[simp] theorem Dev.grantBg_load (d : Dev) (k : BgKind) : (d.grantBg k).load = d.load := rfl
@[simp] theorem Dev.grantBg_dl (d : Dev) (k : BgKind) : (d.grantBg k).dl = d.dl := rfl
@[simp] theorem Dev.grantBg_hst (d : Dev) (k : BgKind) : (d.grantBg k).hst = d.hst := rfl
@[simp] theorem Dev.grantBg_cmds (d : Dev) (k : BgKind) : (d.grantBg k).cmds = d.cmds := rfl
@[simp] theorem Dev.grantBg_zne (d : Dev) (k : BgKind) : (d.grantBg k).zne = d.zne := rfl
@[simp] theorem Dev.grantBg_sec (d : Dev) (k : BgKind) : (d.grantBg k).sec = d.sec := rfl
@[simp] theorem Dev.grantBg_buf (d : Dev) (k : BgKind) : (d.grantBg k).buf = d.buf := rfl
@[simp] theorem Dev.grantBg_scb (d : Dev) (k : BgKind) : (d.grantBg k).scb = d.scb := rfl
@[simp] theorem Dev.grantBg_mdc (d : Dev) (k : BgKind) : (d.grantBg k).mdc = d.mdc := rfl
@[simp] theorem Dev.grantBg_dma (d : Dev) (k : BgKind) : (d.grantBg k).dma = d.dma := rfl
@[simp] theorem Dev.grantBg_ch (d : Dev) (k : BgKind) : (d.grantBg k).ch = d.ch := rfl
@[simp] theorem Dev.grantBg_dec (d : Dev) (k : BgKind) : (d.grantBg k).dec = d.dec := rfl
@[simp] theorem Dev.grantBg_wrp (d : Dev) (k : BgKind) : (d.grantBg k).wrp = d.wrp := rfl
@[simp] theorem Dev.grantBg_srv (d : Dev) (k : BgKind) : (d.grantBg k).srv = d.srv := rfl
@[simp] theorem Dev.grantBg_lanes (d : Dev) (k : BgKind) : (d.grantBg k).lanes = d.lanes := rfl
@[simp] theorem Dev.grantBg_spn (d : Dev) (k : BgKind) : (d.grantBg k).spn = d.spn := rfl
@[simp] theorem Dev.grantBg_msq (d : Dev) (k : BgKind) : (d.grantBg k).msq = d.msq := rfl
@[simp] theorem Dev.grantBg_pwr (d : Dev) (k : BgKind) : (d.grantBg k).pwr = d.pwr := rfl
@[simp] theorem Dev.grantBg_rng (d : Dev) (k : BgKind) : (d.grantBg k).rng = d.rng := rfl
@[simp] theorem Dev.grantBg_seq (d : Dev) (k : BgKind) : (d.grantBg k).seq = d.seq := rfl
@[simp] theorem Dev.grantBg_free (d : Dev) (k : BgKind) : (d.grantBg k).free = d.free := rfl

@[simp] theorem Dev.freeSlot_v (d : Dev) (b : Blk) (j : Nat) : (d.freeSlot b j).v = d.v := by unfold Dev.freeSlot; split <;> rfl
@[simp] theorem Dev.freeSlot_regs (d : Dev) (b : Blk) (j : Nat) : (d.freeSlot b j).regs = d.regs := by unfold Dev.freeSlot; split <;> rfl
@[simp] theorem Dev.freeSlot_staged (d : Dev) (b : Blk) (j : Nat) : (d.freeSlot b j).staged = d.staged := by unfold Dev.freeSlot; split <;> rfl
@[simp] theorem Dev.freeSlot_tbase (d : Dev) (b : Blk) (j : Nat) : (d.freeSlot b j).tbase = d.tbase := by unfold Dev.freeSlot; split <;> rfl
@[simp] theorem Dev.freeSlot_lost (d : Dev) (b : Blk) (j : Nat) : (d.freeSlot b j).lost = d.lost := by unfold Dev.freeSlot; split <;> rfl
@[simp] theorem Dev.freeSlot_bg (d : Dev) (b : Blk) (j : Nat) : (d.freeSlot b j).bg = d.bg := by unfold Dev.freeSlot; split <;> rfl
@[simp] theorem Dev.freeSlot_cnt (d : Dev) (b : Blk) (j : Nat) : (d.freeSlot b j).cnt = d.cnt := by unfold Dev.freeSlot; split <;> rfl
@[simp] theorem Dev.freeSlot_shadows (d : Dev) (b : Blk) (j : Nat) : (d.freeSlot b j).shadows = d.shadows := by unfold Dev.freeSlot; split <;> rfl
@[simp] theorem Dev.freeSlot_roll (d : Dev) (b : Blk) (j : Nat) : (d.freeSlot b j).roll = d.roll := by unfold Dev.freeSlot; split <;> rfl
@[simp] theorem Dev.freeSlot_mem (d : Dev) (b : Blk) (j : Nat) : (d.freeSlot b j).mem = d.mem := by unfold Dev.freeSlot; split <;> rfl
@[simp] theorem Dev.freeSlot_log (d : Dev) (b : Blk) (j : Nat) : (d.freeSlot b j).log = d.log := by unfold Dev.freeSlot; split <;> rfl
@[simp] theorem Dev.freeSlot_flc (d : Dev) (b : Blk) (j : Nat) : (d.freeSlot b j).flc = d.flc := by unfold Dev.freeSlot; split <;> rfl
@[simp] theorem Dev.freeSlot_load (d : Dev) (b : Blk) (j : Nat) : (d.freeSlot b j).load = d.load := by unfold Dev.freeSlot; split <;> rfl
@[simp] theorem Dev.freeSlot_dl (d : Dev) (b : Blk) (j : Nat) : (d.freeSlot b j).dl = d.dl := by unfold Dev.freeSlot; split <;> rfl
@[simp] theorem Dev.freeSlot_hst (d : Dev) (b : Blk) (j : Nat) : (d.freeSlot b j).hst = d.hst := by unfold Dev.freeSlot; split <;> rfl
@[simp] theorem Dev.freeSlot_cmds (d : Dev) (b : Blk) (j : Nat) : (d.freeSlot b j).cmds = d.cmds := by unfold Dev.freeSlot; split <;> rfl
@[simp] theorem Dev.freeSlot_zne (d : Dev) (b : Blk) (j : Nat) : (d.freeSlot b j).zne = d.zne := by unfold Dev.freeSlot; split <;> rfl
@[simp] theorem Dev.freeSlot_sec (d : Dev) (b : Blk) (j : Nat) : (d.freeSlot b j).sec = d.sec := by unfold Dev.freeSlot; split <;> rfl
@[simp] theorem Dev.freeSlot_buf (d : Dev) (b : Blk) (j : Nat) : (d.freeSlot b j).buf = d.buf := by unfold Dev.freeSlot; split <;> rfl
@[simp] theorem Dev.freeSlot_scb (d : Dev) (b : Blk) (j : Nat) : (d.freeSlot b j).scb = d.scb := by unfold Dev.freeSlot; split <;> rfl
@[simp] theorem Dev.freeSlot_mdc (d : Dev) (b : Blk) (j : Nat) : (d.freeSlot b j).mdc = d.mdc := by unfold Dev.freeSlot; split <;> rfl
@[simp] theorem Dev.freeSlot_dma (d : Dev) (b : Blk) (j : Nat) : (d.freeSlot b j).dma = d.dma := by unfold Dev.freeSlot; split <;> rfl
@[simp] theorem Dev.freeSlot_ch (d : Dev) (b : Blk) (j : Nat) : (d.freeSlot b j).ch = d.ch := by unfold Dev.freeSlot; split <;> rfl
@[simp] theorem Dev.freeSlot_dec (d : Dev) (b : Blk) (j : Nat) : (d.freeSlot b j).dec = d.dec := by unfold Dev.freeSlot; split <;> rfl
@[simp] theorem Dev.freeSlot_wrp (d : Dev) (b : Blk) (j : Nat) : (d.freeSlot b j).wrp = d.wrp := by unfold Dev.freeSlot; split <;> rfl
@[simp] theorem Dev.freeSlot_srv (d : Dev) (b : Blk) (j : Nat) : (d.freeSlot b j).srv = d.srv := by unfold Dev.freeSlot; split <;> rfl
@[simp] theorem Dev.freeSlot_lanes (d : Dev) (b : Blk) (j : Nat) : (d.freeSlot b j).lanes = d.lanes := by unfold Dev.freeSlot; split <;> rfl
@[simp] theorem Dev.freeSlot_spn (d : Dev) (b : Blk) (j : Nat) : (d.freeSlot b j).spn = d.spn := by unfold Dev.freeSlot; split <;> rfl
@[simp] theorem Dev.freeSlot_msq (d : Dev) (b : Blk) (j : Nat) : (d.freeSlot b j).msq = d.msq := by unfold Dev.freeSlot; split <;> rfl
@[simp] theorem Dev.freeSlot_pwr (d : Dev) (b : Blk) (j : Nat) : (d.freeSlot b j).pwr = d.pwr := by unfold Dev.freeSlot; split <;> rfl
@[simp] theorem Dev.freeSlot_rng (d : Dev) (b : Blk) (j : Nat) : (d.freeSlot b j).rng = d.rng := by unfold Dev.freeSlot; split <;> rfl
@[simp] theorem Dev.freeSlot_seq (d : Dev) (b : Blk) (j : Nat) : (d.freeSlot b j).seq = d.seq := by unfold Dev.freeSlot; split <;> rfl
@[simp] theorem Dev.freeSlot_free (d : Dev) (b : Blk) (j : Nat) : (d.freeSlot b j).free = d.free := by unfold Dev.freeSlot; split <;> rfl

@[simp] theorem Dev.setCtrl_v (d : Dev) (c : Fin 2) (x : CtrlS) : (d.setCtrl c x).v = d.v := by unfold Dev.setCtrl; split <;> rfl
@[simp] theorem Dev.setCtrl_regs (d : Dev) (c : Fin 2) (x : CtrlS) : (d.setCtrl c x).regs = d.regs := by unfold Dev.setCtrl; split <;> rfl
@[simp] theorem Dev.setCtrl_staged (d : Dev) (c : Fin 2) (x : CtrlS) : (d.setCtrl c x).staged = d.staged := by unfold Dev.setCtrl; split <;> rfl
@[simp] theorem Dev.setCtrl_tbase (d : Dev) (c : Fin 2) (x : CtrlS) : (d.setCtrl c x).tbase = d.tbase := by unfold Dev.setCtrl; split <;> rfl
@[simp] theorem Dev.setCtrl_pools (d : Dev) (c : Fin 2) (x : CtrlS) : (d.setCtrl c x).pools = d.pools := by unfold Dev.setCtrl; split <;> rfl
@[simp] theorem Dev.setCtrl_lost (d : Dev) (c : Fin 2) (x : CtrlS) : (d.setCtrl c x).lost = d.lost := by unfold Dev.setCtrl; split <;> rfl
@[simp] theorem Dev.setCtrl_bg (d : Dev) (c : Fin 2) (x : CtrlS) : (d.setCtrl c x).bg = d.bg := by unfold Dev.setCtrl; split <;> rfl
@[simp] theorem Dev.setCtrl_cnt (d : Dev) (c : Fin 2) (x : CtrlS) : (d.setCtrl c x).cnt = d.cnt := by unfold Dev.setCtrl; split <;> rfl
@[simp] theorem Dev.setCtrl_shadows (d : Dev) (c : Fin 2) (x : CtrlS) : (d.setCtrl c x).shadows = d.shadows := by unfold Dev.setCtrl; split <;> rfl
@[simp] theorem Dev.setCtrl_roll (d : Dev) (c : Fin 2) (x : CtrlS) : (d.setCtrl c x).roll = d.roll := by unfold Dev.setCtrl; split <;> rfl
@[simp] theorem Dev.setCtrl_mem (d : Dev) (c : Fin 2) (x : CtrlS) : (d.setCtrl c x).mem = d.mem := by unfold Dev.setCtrl; split <;> rfl
@[simp] theorem Dev.setCtrl_log (d : Dev) (c : Fin 2) (x : CtrlS) : (d.setCtrl c x).log = d.log := by unfold Dev.setCtrl; split <;> rfl
@[simp] theorem Dev.setCtrl_flc (d : Dev) (c : Fin 2) (x : CtrlS) : (d.setCtrl c x).flc = d.flc := by unfold Dev.setCtrl; split <;> rfl
@[simp] theorem Dev.setCtrl_load (d : Dev) (c : Fin 2) (x : CtrlS) : (d.setCtrl c x).load = d.load := by unfold Dev.setCtrl; split <;> rfl
@[simp] theorem Dev.setCtrl_dl (d : Dev) (c : Fin 2) (x : CtrlS) : (d.setCtrl c x).dl = d.dl := by unfold Dev.setCtrl; split <;> rfl
@[simp] theorem Dev.setCtrl_cmds (d : Dev) (c : Fin 2) (x : CtrlS) : (d.setCtrl c x).cmds = d.cmds := by unfold Dev.setCtrl; split <;> rfl
@[simp] theorem Dev.setCtrl_zne (d : Dev) (c : Fin 2) (x : CtrlS) : (d.setCtrl c x).zne = d.zne := by unfold Dev.setCtrl; split <;> rfl
@[simp] theorem Dev.setCtrl_sec (d : Dev) (c : Fin 2) (x : CtrlS) : (d.setCtrl c x).sec = d.sec := by unfold Dev.setCtrl; split <;> rfl
@[simp] theorem Dev.setCtrl_buf (d : Dev) (c : Fin 2) (x : CtrlS) : (d.setCtrl c x).buf = d.buf := by unfold Dev.setCtrl; split <;> rfl
@[simp] theorem Dev.setCtrl_scb (d : Dev) (c : Fin 2) (x : CtrlS) : (d.setCtrl c x).scb = d.scb := by unfold Dev.setCtrl; split <;> rfl
@[simp] theorem Dev.setCtrl_mdc (d : Dev) (c : Fin 2) (x : CtrlS) : (d.setCtrl c x).mdc = d.mdc := by unfold Dev.setCtrl; split <;> rfl
@[simp] theorem Dev.setCtrl_dma (d : Dev) (c : Fin 2) (x : CtrlS) : (d.setCtrl c x).dma = d.dma := by unfold Dev.setCtrl; split <;> rfl
@[simp] theorem Dev.setCtrl_ch (d : Dev) (c : Fin 2) (x : CtrlS) : (d.setCtrl c x).ch = d.ch := by unfold Dev.setCtrl; split <;> rfl
@[simp] theorem Dev.setCtrl_dec (d : Dev) (c : Fin 2) (x : CtrlS) : (d.setCtrl c x).dec = d.dec := by unfold Dev.setCtrl; split <;> rfl
@[simp] theorem Dev.setCtrl_wrp (d : Dev) (c : Fin 2) (x : CtrlS) : (d.setCtrl c x).wrp = d.wrp := by unfold Dev.setCtrl; split <;> rfl
@[simp] theorem Dev.setCtrl_srv (d : Dev) (c : Fin 2) (x : CtrlS) : (d.setCtrl c x).srv = d.srv := by unfold Dev.setCtrl; split <;> rfl
@[simp] theorem Dev.setCtrl_lanes (d : Dev) (c : Fin 2) (x : CtrlS) : (d.setCtrl c x).lanes = d.lanes := by unfold Dev.setCtrl; split <;> rfl
@[simp] theorem Dev.setCtrl_spn (d : Dev) (c : Fin 2) (x : CtrlS) : (d.setCtrl c x).spn = d.spn := by unfold Dev.setCtrl; split <;> rfl
@[simp] theorem Dev.setCtrl_msq (d : Dev) (c : Fin 2) (x : CtrlS) : (d.setCtrl c x).msq = d.msq := by unfold Dev.setCtrl; split <;> rfl
@[simp] theorem Dev.setCtrl_pwr (d : Dev) (c : Fin 2) (x : CtrlS) : (d.setCtrl c x).pwr = d.pwr := by unfold Dev.setCtrl; split <;> rfl
@[simp] theorem Dev.setCtrl_rng (d : Dev) (c : Fin 2) (x : CtrlS) : (d.setCtrl c x).rng = d.rng := by unfold Dev.setCtrl; split <;> rfl
@[simp] theorem Dev.setCtrl_seq (d : Dev) (c : Fin 2) (x : CtrlS) : (d.setCtrl c x).seq = d.seq := by unfold Dev.setCtrl; split <;> rfl
@[simp] theorem Dev.setCtrl_free (d : Dev) (c : Fin 2) (x : CtrlS) : (d.setCtrl c x).free = d.free := by unfold Dev.setCtrl; split <;> rfl

@[simp] theorem Dev.raiseAen_v (d : Dev) (c : Fin 2) (e : Aen) : (d.raiseAen c e).v = d.v := by
  simp only [Dev.raiseAen]
  split
  · rfl
  · split <;> simp
@[simp] theorem Dev.raiseAen_regs (d : Dev) (c : Fin 2) (e : Aen) : (d.raiseAen c e).regs = d.regs := by
  simp only [Dev.raiseAen]
  split
  · rfl
  · split <;> simp
@[simp] theorem Dev.raiseAen_staged (d : Dev) (c : Fin 2) (e : Aen) : (d.raiseAen c e).staged = d.staged := by
  simp only [Dev.raiseAen]
  split
  · rfl
  · split <;> simp
@[simp] theorem Dev.raiseAen_tbase (d : Dev) (c : Fin 2) (e : Aen) : (d.raiseAen c e).tbase = d.tbase := by
  simp only [Dev.raiseAen]
  split
  · rfl
  · split <;> simp
@[simp] theorem Dev.raiseAen_pools (d : Dev) (c : Fin 2) (e : Aen) : (d.raiseAen c e).pools = d.pools := by
  simp only [Dev.raiseAen]
  split
  · rfl
  · split <;> simp
@[simp] theorem Dev.raiseAen_lost (d : Dev) (c : Fin 2) (e : Aen) : (d.raiseAen c e).lost = d.lost := by
  simp only [Dev.raiseAen]
  split
  · rfl
  · split <;> simp
@[simp] theorem Dev.raiseAen_bg (d : Dev) (c : Fin 2) (e : Aen) : (d.raiseAen c e).bg = d.bg := by
  simp only [Dev.raiseAen]
  split
  · rfl
  · split <;> simp
@[simp] theorem Dev.raiseAen_cnt (d : Dev) (c : Fin 2) (e : Aen) : (d.raiseAen c e).cnt = d.cnt := by
  simp only [Dev.raiseAen]
  split
  · rfl
  · split <;> simp
@[simp] theorem Dev.raiseAen_shadows (d : Dev) (c : Fin 2) (e : Aen) : (d.raiseAen c e).shadows = d.shadows := by
  simp only [Dev.raiseAen]
  split
  · rfl
  · split <;> simp
@[simp] theorem Dev.raiseAen_roll (d : Dev) (c : Fin 2) (e : Aen) : (d.raiseAen c e).roll = d.roll := by
  simp only [Dev.raiseAen]
  split
  · rfl
  · split <;> simp
@[simp] theorem Dev.raiseAen_mem (d : Dev) (c : Fin 2) (e : Aen) : (d.raiseAen c e).mem = d.mem := by
  simp only [Dev.raiseAen]
  split
  · rfl
  · split <;> simp
@[simp] theorem Dev.raiseAen_log (d : Dev) (c : Fin 2) (e : Aen) : (d.raiseAen c e).log = d.log := by
  simp only [Dev.raiseAen]
  split
  · rfl
  · split <;> simp
@[simp] theorem Dev.raiseAen_flc (d : Dev) (c : Fin 2) (e : Aen) : (d.raiseAen c e).flc = d.flc := by
  simp only [Dev.raiseAen]
  split
  · rfl
  · split <;> simp
@[simp] theorem Dev.raiseAen_load (d : Dev) (c : Fin 2) (e : Aen) : (d.raiseAen c e).load = d.load := by
  simp only [Dev.raiseAen]
  split
  · rfl
  · split <;> simp
@[simp] theorem Dev.raiseAen_dl (d : Dev) (c : Fin 2) (e : Aen) : (d.raiseAen c e).dl = d.dl := by
  simp only [Dev.raiseAen]
  split
  · rfl
  · split <;> simp
@[simp] theorem Dev.raiseAen_cmds (d : Dev) (c : Fin 2) (e : Aen) : (d.raiseAen c e).cmds = d.cmds := by
  simp only [Dev.raiseAen]
  split
  · rfl
  · split <;> simp
@[simp] theorem Dev.raiseAen_zne (d : Dev) (c : Fin 2) (e : Aen) : (d.raiseAen c e).zne = d.zne := by
  simp only [Dev.raiseAen]
  split
  · rfl
  · split <;> simp
@[simp] theorem Dev.raiseAen_sec (d : Dev) (c : Fin 2) (e : Aen) : (d.raiseAen c e).sec = d.sec := by
  simp only [Dev.raiseAen]
  split
  · rfl
  · split <;> simp
@[simp] theorem Dev.raiseAen_buf (d : Dev) (c : Fin 2) (e : Aen) : (d.raiseAen c e).buf = d.buf := by
  simp only [Dev.raiseAen]
  split
  · rfl
  · split <;> simp
@[simp] theorem Dev.raiseAen_scb (d : Dev) (c : Fin 2) (e : Aen) : (d.raiseAen c e).scb = d.scb := by
  simp only [Dev.raiseAen]
  split
  · rfl
  · split <;> simp
@[simp] theorem Dev.raiseAen_mdc (d : Dev) (c : Fin 2) (e : Aen) : (d.raiseAen c e).mdc = d.mdc := by
  simp only [Dev.raiseAen]
  split
  · rfl
  · split <;> simp
@[simp] theorem Dev.raiseAen_dma (d : Dev) (c : Fin 2) (e : Aen) : (d.raiseAen c e).dma = d.dma := by
  simp only [Dev.raiseAen]
  split
  · rfl
  · split <;> simp
@[simp] theorem Dev.raiseAen_ch (d : Dev) (c : Fin 2) (e : Aen) : (d.raiseAen c e).ch = d.ch := by
  simp only [Dev.raiseAen]
  split
  · rfl
  · split <;> simp
@[simp] theorem Dev.raiseAen_dec (d : Dev) (c : Fin 2) (e : Aen) : (d.raiseAen c e).dec = d.dec := by
  simp only [Dev.raiseAen]
  split
  · rfl
  · split <;> simp
@[simp] theorem Dev.raiseAen_wrp (d : Dev) (c : Fin 2) (e : Aen) : (d.raiseAen c e).wrp = d.wrp := by
  simp only [Dev.raiseAen]
  split
  · rfl
  · split <;> simp
@[simp] theorem Dev.raiseAen_srv (d : Dev) (c : Fin 2) (e : Aen) : (d.raiseAen c e).srv = d.srv := by
  simp only [Dev.raiseAen]
  split
  · rfl
  · split <;> simp
@[simp] theorem Dev.raiseAen_lanes (d : Dev) (c : Fin 2) (e : Aen) : (d.raiseAen c e).lanes = d.lanes := by
  simp only [Dev.raiseAen]
  split
  · rfl
  · split <;> simp
@[simp] theorem Dev.raiseAen_spn (d : Dev) (c : Fin 2) (e : Aen) : (d.raiseAen c e).spn = d.spn := by
  simp only [Dev.raiseAen]
  split
  · rfl
  · split <;> simp
@[simp] theorem Dev.raiseAen_msq (d : Dev) (c : Fin 2) (e : Aen) : (d.raiseAen c e).msq = d.msq := by
  simp only [Dev.raiseAen]
  split
  · rfl
  · split <;> simp
@[simp] theorem Dev.raiseAen_pwr (d : Dev) (c : Fin 2) (e : Aen) : (d.raiseAen c e).pwr = d.pwr := by
  simp only [Dev.raiseAen]
  split
  · rfl
  · split <;> simp
@[simp] theorem Dev.raiseAen_rng (d : Dev) (c : Fin 2) (e : Aen) : (d.raiseAen c e).rng = d.rng := by
  simp only [Dev.raiseAen]
  split
  · rfl
  · split <;> simp
@[simp] theorem Dev.raiseAen_seq (d : Dev) (c : Fin 2) (e : Aen) : (d.raiseAen c e).seq = d.seq := by
  simp only [Dev.raiseAen]
  split
  · rfl
  · split <;> simp
@[simp] theorem Dev.raiseAen_free (d : Dev) (c : Fin 2) (e : Aen) : (d.raiseAen c e).free = d.free := by
  simp only [Dev.raiseAen]
  split
  · rfl
  · split <;> simp

/-- What raising an event on one controller keeps, raising it on every controller keeps. -/
theorem Dev.raiseAenAll_keeps {β : Type} (g : Dev → β) (h : ∀ d c e, g (Dev.raiseAen d c e) = g d) (d : Dev) (e : Aen) : g (d.raiseAenAll e) = g d := by
  unfold Dev.raiseAenAll
  induction d.ctrls generalizing d with
  | nil => rfl
  | cons c r ih =>
    rw [List.foldl_cons, ih]
    split
    · exact h d c e
    · rfl

@[simp] theorem Dev.raiseAenAll_v (d : Dev) (e : Aen) : (d.raiseAenAll e).v = d.v := Dev.raiseAenAll_keeps (fun x => x.v) (fun x c e => Dev.raiseAen_v x c e) d e
@[simp] theorem Dev.raiseAenAll_regs (d : Dev) (e : Aen) : (d.raiseAenAll e).regs = d.regs := Dev.raiseAenAll_keeps (fun x => x.regs) (fun x c e => Dev.raiseAen_regs x c e) d e
@[simp] theorem Dev.raiseAenAll_staged (d : Dev) (e : Aen) : (d.raiseAenAll e).staged = d.staged := Dev.raiseAenAll_keeps (fun x => x.staged) (fun x c e => Dev.raiseAen_staged x c e) d e
@[simp] theorem Dev.raiseAenAll_tbase (d : Dev) (e : Aen) : (d.raiseAenAll e).tbase = d.tbase := Dev.raiseAenAll_keeps (fun x => x.tbase) (fun x c e => Dev.raiseAen_tbase x c e) d e
@[simp] theorem Dev.raiseAenAll_pools (d : Dev) (e : Aen) : (d.raiseAenAll e).pools = d.pools := Dev.raiseAenAll_keeps (fun x => x.pools) (fun x c e => Dev.raiseAen_pools x c e) d e
@[simp] theorem Dev.raiseAenAll_lost (d : Dev) (e : Aen) : (d.raiseAenAll e).lost = d.lost := Dev.raiseAenAll_keeps (fun x => x.lost) (fun x c e => Dev.raiseAen_lost x c e) d e
@[simp] theorem Dev.raiseAenAll_bg (d : Dev) (e : Aen) : (d.raiseAenAll e).bg = d.bg := Dev.raiseAenAll_keeps (fun x => x.bg) (fun x c e => Dev.raiseAen_bg x c e) d e
@[simp] theorem Dev.raiseAenAll_cnt (d : Dev) (e : Aen) : (d.raiseAenAll e).cnt = d.cnt := Dev.raiseAenAll_keeps (fun x => x.cnt) (fun x c e => Dev.raiseAen_cnt x c e) d e
@[simp] theorem Dev.raiseAenAll_shadows (d : Dev) (e : Aen) : (d.raiseAenAll e).shadows = d.shadows := Dev.raiseAenAll_keeps (fun x => x.shadows) (fun x c e => Dev.raiseAen_shadows x c e) d e
@[simp] theorem Dev.raiseAenAll_roll (d : Dev) (e : Aen) : (d.raiseAenAll e).roll = d.roll := Dev.raiseAenAll_keeps (fun x => x.roll) (fun x c e => Dev.raiseAen_roll x c e) d e
@[simp] theorem Dev.raiseAenAll_mem (d : Dev) (e : Aen) : (d.raiseAenAll e).mem = d.mem := Dev.raiseAenAll_keeps (fun x => x.mem) (fun x c e => Dev.raiseAen_mem x c e) d e
@[simp] theorem Dev.raiseAenAll_log (d : Dev) (e : Aen) : (d.raiseAenAll e).log = d.log := Dev.raiseAenAll_keeps (fun x => x.log) (fun x c e => Dev.raiseAen_log x c e) d e
@[simp] theorem Dev.raiseAenAll_flc (d : Dev) (e : Aen) : (d.raiseAenAll e).flc = d.flc := Dev.raiseAenAll_keeps (fun x => x.flc) (fun x c e => Dev.raiseAen_flc x c e) d e
@[simp] theorem Dev.raiseAenAll_load (d : Dev) (e : Aen) : (d.raiseAenAll e).load = d.load := Dev.raiseAenAll_keeps (fun x => x.load) (fun x c e => Dev.raiseAen_load x c e) d e
@[simp] theorem Dev.raiseAenAll_dl (d : Dev) (e : Aen) : (d.raiseAenAll e).dl = d.dl := Dev.raiseAenAll_keeps (fun x => x.dl) (fun x c e => Dev.raiseAen_dl x c e) d e
@[simp] theorem Dev.raiseAenAll_cmds (d : Dev) (e : Aen) : (d.raiseAenAll e).cmds = d.cmds := Dev.raiseAenAll_keeps (fun x => x.cmds) (fun x c e => Dev.raiseAen_cmds x c e) d e
@[simp] theorem Dev.raiseAenAll_zne (d : Dev) (e : Aen) : (d.raiseAenAll e).zne = d.zne := Dev.raiseAenAll_keeps (fun x => x.zne) (fun x c e => Dev.raiseAen_zne x c e) d e
@[simp] theorem Dev.raiseAenAll_sec (d : Dev) (e : Aen) : (d.raiseAenAll e).sec = d.sec := Dev.raiseAenAll_keeps (fun x => x.sec) (fun x c e => Dev.raiseAen_sec x c e) d e
@[simp] theorem Dev.raiseAenAll_buf (d : Dev) (e : Aen) : (d.raiseAenAll e).buf = d.buf := Dev.raiseAenAll_keeps (fun x => x.buf) (fun x c e => Dev.raiseAen_buf x c e) d e
@[simp] theorem Dev.raiseAenAll_scb (d : Dev) (e : Aen) : (d.raiseAenAll e).scb = d.scb := Dev.raiseAenAll_keeps (fun x => x.scb) (fun x c e => Dev.raiseAen_scb x c e) d e
@[simp] theorem Dev.raiseAenAll_mdc (d : Dev) (e : Aen) : (d.raiseAenAll e).mdc = d.mdc := Dev.raiseAenAll_keeps (fun x => x.mdc) (fun x c e => Dev.raiseAen_mdc x c e) d e
@[simp] theorem Dev.raiseAenAll_dma (d : Dev) (e : Aen) : (d.raiseAenAll e).dma = d.dma := Dev.raiseAenAll_keeps (fun x => x.dma) (fun x c e => Dev.raiseAen_dma x c e) d e
@[simp] theorem Dev.raiseAenAll_ch (d : Dev) (e : Aen) : (d.raiseAenAll e).ch = d.ch := Dev.raiseAenAll_keeps (fun x => x.ch) (fun x c e => Dev.raiseAen_ch x c e) d e
@[simp] theorem Dev.raiseAenAll_dec (d : Dev) (e : Aen) : (d.raiseAenAll e).dec = d.dec := Dev.raiseAenAll_keeps (fun x => x.dec) (fun x c e => Dev.raiseAen_dec x c e) d e
@[simp] theorem Dev.raiseAenAll_wrp (d : Dev) (e : Aen) : (d.raiseAenAll e).wrp = d.wrp := Dev.raiseAenAll_keeps (fun x => x.wrp) (fun x c e => Dev.raiseAen_wrp x c e) d e
@[simp] theorem Dev.raiseAenAll_srv (d : Dev) (e : Aen) : (d.raiseAenAll e).srv = d.srv := Dev.raiseAenAll_keeps (fun x => x.srv) (fun x c e => Dev.raiseAen_srv x c e) d e
@[simp] theorem Dev.raiseAenAll_lanes (d : Dev) (e : Aen) : (d.raiseAenAll e).lanes = d.lanes := Dev.raiseAenAll_keeps (fun x => x.lanes) (fun x c e => Dev.raiseAen_lanes x c e) d e
@[simp] theorem Dev.raiseAenAll_spn (d : Dev) (e : Aen) : (d.raiseAenAll e).spn = d.spn := Dev.raiseAenAll_keeps (fun x => x.spn) (fun x c e => Dev.raiseAen_spn x c e) d e
@[simp] theorem Dev.raiseAenAll_msq (d : Dev) (e : Aen) : (d.raiseAenAll e).msq = d.msq := Dev.raiseAenAll_keeps (fun x => x.msq) (fun x c e => Dev.raiseAen_msq x c e) d e
@[simp] theorem Dev.raiseAenAll_pwr (d : Dev) (e : Aen) : (d.raiseAenAll e).pwr = d.pwr := Dev.raiseAenAll_keeps (fun x => x.pwr) (fun x c e => Dev.raiseAen_pwr x c e) d e
@[simp] theorem Dev.raiseAenAll_rng (d : Dev) (e : Aen) : (d.raiseAenAll e).rng = d.rng := Dev.raiseAenAll_keeps (fun x => x.rng) (fun x c e => Dev.raiseAen_rng x c e) d e
@[simp] theorem Dev.raiseAenAll_seq (d : Dev) (e : Aen) : (d.raiseAenAll e).seq = d.seq := Dev.raiseAenAll_keeps (fun x => x.seq) (fun x c e => Dev.raiseAen_seq x c e) d e
@[simp] theorem Dev.raiseAenAll_free (d : Dev) (e : Aen) : (d.raiseAenAll e).free = d.free := Dev.raiseAenAll_keeps (fun x => x.free) (fun x c e => Dev.raiseAen_free x c e) d e

@[simp] theorem Dev.critWarn_v (d : Dev) (b i : Nat) : (d.critWarn b i).v = d.v := by simp [Dev.critWarn]
@[simp] theorem Dev.critWarn_regs (d : Dev) (b i : Nat) : (d.critWarn b i).regs = d.regs := by simp [Dev.critWarn]
@[simp] theorem Dev.critWarn_staged (d : Dev) (b i : Nat) : (d.critWarn b i).staged = d.staged := by simp [Dev.critWarn]
@[simp] theorem Dev.critWarn_tbase (d : Dev) (b i : Nat) : (d.critWarn b i).tbase = d.tbase := by simp [Dev.critWarn]
@[simp] theorem Dev.critWarn_pools (d : Dev) (b i : Nat) : (d.critWarn b i).pools = d.pools := by simp [Dev.critWarn]
@[simp] theorem Dev.critWarn_lost (d : Dev) (b i : Nat) : (d.critWarn b i).lost = d.lost := by simp [Dev.critWarn]
@[simp] theorem Dev.critWarn_bg (d : Dev) (b i : Nat) : (d.critWarn b i).bg = d.bg := by simp [Dev.critWarn]
@[simp] theorem Dev.critWarn_cnt (d : Dev) (b i : Nat) : (d.critWarn b i).cnt = d.cnt := by simp [Dev.critWarn]
@[simp] theorem Dev.critWarn_shadows (d : Dev) (b i : Nat) : (d.critWarn b i).shadows = d.shadows := by simp [Dev.critWarn]
@[simp] theorem Dev.critWarn_roll (d : Dev) (b i : Nat) : (d.critWarn b i).roll = d.roll := by simp [Dev.critWarn]
@[simp] theorem Dev.critWarn_mem (d : Dev) (b i : Nat) : (d.critWarn b i).mem = d.mem := by simp [Dev.critWarn]
@[simp] theorem Dev.critWarn_flc (d : Dev) (b i : Nat) : (d.critWarn b i).flc = d.flc := by simp [Dev.critWarn]
@[simp] theorem Dev.critWarn_load (d : Dev) (b i : Nat) : (d.critWarn b i).load = d.load := by simp [Dev.critWarn]
@[simp] theorem Dev.critWarn_dl (d : Dev) (b i : Nat) : (d.critWarn b i).dl = d.dl := by simp [Dev.critWarn]
@[simp] theorem Dev.critWarn_cmds (d : Dev) (b i : Nat) : (d.critWarn b i).cmds = d.cmds := by simp [Dev.critWarn]
@[simp] theorem Dev.critWarn_zne (d : Dev) (b i : Nat) : (d.critWarn b i).zne = d.zne := by simp [Dev.critWarn]
@[simp] theorem Dev.critWarn_sec (d : Dev) (b i : Nat) : (d.critWarn b i).sec = d.sec := by simp [Dev.critWarn]
@[simp] theorem Dev.critWarn_buf (d : Dev) (b i : Nat) : (d.critWarn b i).buf = d.buf := by simp [Dev.critWarn]
@[simp] theorem Dev.critWarn_scb (d : Dev) (b i : Nat) : (d.critWarn b i).scb = d.scb := by simp [Dev.critWarn]
@[simp] theorem Dev.critWarn_mdc (d : Dev) (b i : Nat) : (d.critWarn b i).mdc = d.mdc := by simp [Dev.critWarn]
@[simp] theorem Dev.critWarn_dma (d : Dev) (b i : Nat) : (d.critWarn b i).dma = d.dma := by simp [Dev.critWarn]
@[simp] theorem Dev.critWarn_ch (d : Dev) (b i : Nat) : (d.critWarn b i).ch = d.ch := by simp [Dev.critWarn]
@[simp] theorem Dev.critWarn_dec (d : Dev) (b i : Nat) : (d.critWarn b i).dec = d.dec := by simp [Dev.critWarn]
@[simp] theorem Dev.critWarn_wrp (d : Dev) (b i : Nat) : (d.critWarn b i).wrp = d.wrp := by simp [Dev.critWarn]
@[simp] theorem Dev.critWarn_srv (d : Dev) (b i : Nat) : (d.critWarn b i).srv = d.srv := by simp [Dev.critWarn]
@[simp] theorem Dev.critWarn_lanes (d : Dev) (b i : Nat) : (d.critWarn b i).lanes = d.lanes := by simp [Dev.critWarn]
@[simp] theorem Dev.critWarn_spn (d : Dev) (b i : Nat) : (d.critWarn b i).spn = d.spn := by simp [Dev.critWarn]
@[simp] theorem Dev.critWarn_msq (d : Dev) (b i : Nat) : (d.critWarn b i).msq = d.msq := by simp [Dev.critWarn]
@[simp] theorem Dev.critWarn_pwr (d : Dev) (b i : Nat) : (d.critWarn b i).pwr = d.pwr := by simp [Dev.critWarn]
@[simp] theorem Dev.critWarn_rng (d : Dev) (b i : Nat) : (d.critWarn b i).rng = d.rng := by simp [Dev.critWarn]
@[simp] theorem Dev.critWarn_seq (d : Dev) (b i : Nat) : (d.critWarn b i).seq = d.seq := by simp [Dev.critWarn]
@[simp] theorem Dev.critWarn_free (d : Dev) (b i : Nat) : (d.critWarn b i).free = d.free := by simp [Dev.critWarn]

@[simp] theorem Dev.reportLost_v (d : Dev) (b : Blk) : (d.reportLost b).v = d.v := by unfold Dev.reportLost; dsimp only; split <;> rfl
@[simp] theorem Dev.reportLost_regs (d : Dev) (b : Blk) : (d.reportLost b).regs = d.regs := by unfold Dev.reportLost; dsimp only; split <;> rfl
@[simp] theorem Dev.reportLost_staged (d : Dev) (b : Blk) : (d.reportLost b).staged = d.staged := by unfold Dev.reportLost; dsimp only; split <;> rfl
@[simp] theorem Dev.reportLost_tbase (d : Dev) (b : Blk) : (d.reportLost b).tbase = d.tbase := by unfold Dev.reportLost; dsimp only; split <;> rfl
@[simp] theorem Dev.reportLost_pools (d : Dev) (b : Blk) : (d.reportLost b).pools = d.pools := by unfold Dev.reportLost; dsimp only; split <;> rfl
@[simp] theorem Dev.reportLost_bg (d : Dev) (b : Blk) : (d.reportLost b).bg = d.bg := by unfold Dev.reportLost; dsimp only; split <;> rfl
@[simp] theorem Dev.reportLost_cnt (d : Dev) (b : Blk) : (d.reportLost b).cnt = d.cnt := by unfold Dev.reportLost; dsimp only; split <;> rfl
@[simp] theorem Dev.reportLost_shadows (d : Dev) (b : Blk) : (d.reportLost b).shadows = d.shadows := by unfold Dev.reportLost; dsimp only; split <;> rfl
@[simp] theorem Dev.reportLost_roll (d : Dev) (b : Blk) : (d.reportLost b).roll = d.roll := by unfold Dev.reportLost; dsimp only; split <;> rfl
@[simp] theorem Dev.reportLost_mem (d : Dev) (b : Blk) : (d.reportLost b).mem = d.mem := by unfold Dev.reportLost; dsimp only; split <;> rfl
@[simp] theorem Dev.reportLost_flc (d : Dev) (b : Blk) : (d.reportLost b).flc = d.flc := by unfold Dev.reportLost; dsimp only; split <;> rfl
@[simp] theorem Dev.reportLost_load (d : Dev) (b : Blk) : (d.reportLost b).load = d.load := by unfold Dev.reportLost; dsimp only; split <;> rfl
@[simp] theorem Dev.reportLost_dl (d : Dev) (b : Blk) : (d.reportLost b).dl = d.dl := by unfold Dev.reportLost; dsimp only; split <;> rfl
@[simp] theorem Dev.reportLost_hst (d : Dev) (b : Blk) : (d.reportLost b).hst = d.hst := by unfold Dev.reportLost; dsimp only; split <;> rfl
@[simp] theorem Dev.reportLost_cmds (d : Dev) (b : Blk) : (d.reportLost b).cmds = d.cmds := by unfold Dev.reportLost; dsimp only; split <;> rfl
@[simp] theorem Dev.reportLost_zne (d : Dev) (b : Blk) : (d.reportLost b).zne = d.zne := by unfold Dev.reportLost; dsimp only; split <;> rfl
@[simp] theorem Dev.reportLost_sec (d : Dev) (b : Blk) : (d.reportLost b).sec = d.sec := by unfold Dev.reportLost; dsimp only; split <;> rfl
@[simp] theorem Dev.reportLost_buf (d : Dev) (b : Blk) : (d.reportLost b).buf = d.buf := by unfold Dev.reportLost; dsimp only; split <;> rfl
@[simp] theorem Dev.reportLost_scb (d : Dev) (b : Blk) : (d.reportLost b).scb = d.scb := by unfold Dev.reportLost; dsimp only; split <;> rfl
@[simp] theorem Dev.reportLost_mdc (d : Dev) (b : Blk) : (d.reportLost b).mdc = d.mdc := by unfold Dev.reportLost; dsimp only; split <;> rfl
@[simp] theorem Dev.reportLost_dma (d : Dev) (b : Blk) : (d.reportLost b).dma = d.dma := by unfold Dev.reportLost; dsimp only; split <;> rfl
@[simp] theorem Dev.reportLost_ch (d : Dev) (b : Blk) : (d.reportLost b).ch = d.ch := by unfold Dev.reportLost; dsimp only; split <;> rfl
@[simp] theorem Dev.reportLost_dec (d : Dev) (b : Blk) : (d.reportLost b).dec = d.dec := by unfold Dev.reportLost; dsimp only; split <;> rfl
@[simp] theorem Dev.reportLost_wrp (d : Dev) (b : Blk) : (d.reportLost b).wrp = d.wrp := by unfold Dev.reportLost; dsimp only; split <;> rfl
@[simp] theorem Dev.reportLost_srv (d : Dev) (b : Blk) : (d.reportLost b).srv = d.srv := by unfold Dev.reportLost; dsimp only; split <;> rfl
@[simp] theorem Dev.reportLost_lanes (d : Dev) (b : Blk) : (d.reportLost b).lanes = d.lanes := by unfold Dev.reportLost; dsimp only; split <;> rfl
@[simp] theorem Dev.reportLost_spn (d : Dev) (b : Blk) : (d.reportLost b).spn = d.spn := by unfold Dev.reportLost; dsimp only; split <;> rfl
@[simp] theorem Dev.reportLost_msq (d : Dev) (b : Blk) : (d.reportLost b).msq = d.msq := by unfold Dev.reportLost; dsimp only; split <;> rfl
@[simp] theorem Dev.reportLost_pwr (d : Dev) (b : Blk) : (d.reportLost b).pwr = d.pwr := by unfold Dev.reportLost; dsimp only; split <;> rfl
@[simp] theorem Dev.reportLost_rng (d : Dev) (b : Blk) : (d.reportLost b).rng = d.rng := by unfold Dev.reportLost; dsimp only; split <;> rfl
@[simp] theorem Dev.reportLost_seq (d : Dev) (b : Blk) : (d.reportLost b).seq = d.seq := by unfold Dev.reportLost; dsimp only; split <;> rfl
@[simp] theorem Dev.reportLost_free (d : Dev) (b : Blk) : (d.reportLost b).free = d.free := by unfold Dev.reportLost; dsimp only; split <;> rfl

/-- What the parts of raising an event keep, raising one keeps. -/
theorem Dev.event_keeps {β : Type} (g : Dev → β) (h1 : ∀ d b i, g (Dev.critWarn d b i) = g d)
    (h2 : ∀ d f x, g (Dev.setFlag d f x) = g d) (h3 : ∀ d b, g (Dev.reportLost d b) = g d) (h4 : ∀ d b i, g (Dev.loseEvent d b i) = g d)
    (h5 : ∀ d e, g (Dev.pushEvent d e) = g d) (d : Dev) (b : Blk) (n p1 p2 p3 src : Nat) : g (d.event b n p1 p2 p3 src) = g d := by
  have h0 : g (if critOf (blkCls b * 256 + n) = 0 then d else d.critWarn (critOf (blkCls b * 256 + n)) 0) = g d := by
    split
    · rfl
    · exact h1 _ _ _
  simp only [Dev.event]
  generalize (if critOf (blkCls b * 256 + n) = 0 then d else d.critWarn (critOf (blkCls b * 256 + n)) 0) = e at h0 ⊢
  split
  · rw [h4, h2, h0]
  · split
    · rw [h5, h3, h0]
    · rw [h4, h3, h0]

@[simp] theorem Dev.event_v (d : Dev) (b : Blk) (n p1 p2 p3 src : Nat) : (d.event b n p1 p2 p3 src).v = d.v := Dev.event_keeps (fun x => x.v) (fun x b i => Dev.critWarn_v x b i) (fun _ _ _ => rfl) (fun x b => Dev.reportLost_v x b) (fun _ _ _ => rfl) (fun _ _ => rfl) d b n p1 p2 p3 src
@[simp] theorem Dev.event_staged (d : Dev) (b : Blk) (n p1 p2 p3 src : Nat) : (d.event b n p1 p2 p3 src).staged = d.staged := Dev.event_keeps (fun x => x.staged) (fun x b i => Dev.critWarn_staged x b i) (fun _ _ _ => rfl) (fun x b => Dev.reportLost_staged x b) (fun _ _ _ => rfl) (fun _ _ => rfl) d b n p1 p2 p3 src
@[simp] theorem Dev.event_tbase (d : Dev) (b : Blk) (n p1 p2 p3 src : Nat) : (d.event b n p1 p2 p3 src).tbase = d.tbase := Dev.event_keeps (fun x => x.tbase) (fun x b i => Dev.critWarn_tbase x b i) (fun _ _ _ => rfl) (fun x b => Dev.reportLost_tbase x b) (fun _ _ _ => rfl) (fun _ _ => rfl) d b n p1 p2 p3 src
@[simp] theorem Dev.event_pools (d : Dev) (b : Blk) (n p1 p2 p3 src : Nat) : (d.event b n p1 p2 p3 src).pools = d.pools := Dev.event_keeps (fun x => x.pools) (fun x b i => Dev.critWarn_pools x b i) (fun _ _ _ => rfl) (fun x b => Dev.reportLost_pools x b) (fun _ _ _ => rfl) (fun _ _ => rfl) d b n p1 p2 p3 src
@[simp] theorem Dev.event_bg (d : Dev) (b : Blk) (n p1 p2 p3 src : Nat) : (d.event b n p1 p2 p3 src).bg = d.bg := Dev.event_keeps (fun x => x.bg) (fun x b i => Dev.critWarn_bg x b i) (fun _ _ _ => rfl) (fun x b => Dev.reportLost_bg x b) (fun _ _ _ => rfl) (fun _ _ => rfl) d b n p1 p2 p3 src
@[simp] theorem Dev.event_cnt (d : Dev) (b : Blk) (n p1 p2 p3 src : Nat) : (d.event b n p1 p2 p3 src).cnt = d.cnt := Dev.event_keeps (fun x => x.cnt) (fun x b i => Dev.critWarn_cnt x b i) (fun _ _ _ => rfl) (fun x b => Dev.reportLost_cnt x b) (fun _ _ _ => rfl) (fun _ _ => rfl) d b n p1 p2 p3 src
@[simp] theorem Dev.event_shadows (d : Dev) (b : Blk) (n p1 p2 p3 src : Nat) : (d.event b n p1 p2 p3 src).shadows = d.shadows := Dev.event_keeps (fun x => x.shadows) (fun x b i => Dev.critWarn_shadows x b i) (fun _ _ _ => rfl) (fun x b => Dev.reportLost_shadows x b) (fun _ _ _ => rfl) (fun _ _ => rfl) d b n p1 p2 p3 src
@[simp] theorem Dev.event_roll (d : Dev) (b : Blk) (n p1 p2 p3 src : Nat) : (d.event b n p1 p2 p3 src).roll = d.roll := Dev.event_keeps (fun x => x.roll) (fun x b i => Dev.critWarn_roll x b i) (fun _ _ _ => rfl) (fun x b => Dev.reportLost_roll x b) (fun _ _ _ => rfl) (fun _ _ => rfl) d b n p1 p2 p3 src
@[simp] theorem Dev.event_mem (d : Dev) (b : Blk) (n p1 p2 p3 src : Nat) : (d.event b n p1 p2 p3 src).mem = d.mem := Dev.event_keeps (fun x => x.mem) (fun x b i => Dev.critWarn_mem x b i) (fun _ _ _ => rfl) (fun x b => Dev.reportLost_mem x b) (fun _ _ _ => rfl) (fun _ _ => rfl) d b n p1 p2 p3 src
@[simp] theorem Dev.event_flc (d : Dev) (b : Blk) (n p1 p2 p3 src : Nat) : (d.event b n p1 p2 p3 src).flc = d.flc := Dev.event_keeps (fun x => x.flc) (fun x b i => Dev.critWarn_flc x b i) (fun _ _ _ => rfl) (fun x b => Dev.reportLost_flc x b) (fun _ _ _ => rfl) (fun _ _ => rfl) d b n p1 p2 p3 src
@[simp] theorem Dev.event_load (d : Dev) (b : Blk) (n p1 p2 p3 src : Nat) : (d.event b n p1 p2 p3 src).load = d.load := Dev.event_keeps (fun x => x.load) (fun x b i => Dev.critWarn_load x b i) (fun _ _ _ => rfl) (fun x b => Dev.reportLost_load x b) (fun _ _ _ => rfl) (fun _ _ => rfl) d b n p1 p2 p3 src
@[simp] theorem Dev.event_dl (d : Dev) (b : Blk) (n p1 p2 p3 src : Nat) : (d.event b n p1 p2 p3 src).dl = d.dl := Dev.event_keeps (fun x => x.dl) (fun x b i => Dev.critWarn_dl x b i) (fun _ _ _ => rfl) (fun x b => Dev.reportLost_dl x b) (fun _ _ _ => rfl) (fun _ _ => rfl) d b n p1 p2 p3 src
@[simp] theorem Dev.event_cmds (d : Dev) (b : Blk) (n p1 p2 p3 src : Nat) : (d.event b n p1 p2 p3 src).cmds = d.cmds := Dev.event_keeps (fun x => x.cmds) (fun x b i => Dev.critWarn_cmds x b i) (fun _ _ _ => rfl) (fun x b => Dev.reportLost_cmds x b) (fun _ _ _ => rfl) (fun _ _ => rfl) d b n p1 p2 p3 src
@[simp] theorem Dev.event_zne (d : Dev) (b : Blk) (n p1 p2 p3 src : Nat) : (d.event b n p1 p2 p3 src).zne = d.zne := Dev.event_keeps (fun x => x.zne) (fun x b i => Dev.critWarn_zne x b i) (fun _ _ _ => rfl) (fun x b => Dev.reportLost_zne x b) (fun _ _ _ => rfl) (fun _ _ => rfl) d b n p1 p2 p3 src
@[simp] theorem Dev.event_sec (d : Dev) (b : Blk) (n p1 p2 p3 src : Nat) : (d.event b n p1 p2 p3 src).sec = d.sec := Dev.event_keeps (fun x => x.sec) (fun x b i => Dev.critWarn_sec x b i) (fun _ _ _ => rfl) (fun x b => Dev.reportLost_sec x b) (fun _ _ _ => rfl) (fun _ _ => rfl) d b n p1 p2 p3 src
@[simp] theorem Dev.event_buf (d : Dev) (b : Blk) (n p1 p2 p3 src : Nat) : (d.event b n p1 p2 p3 src).buf = d.buf := Dev.event_keeps (fun x => x.buf) (fun x b i => Dev.critWarn_buf x b i) (fun _ _ _ => rfl) (fun x b => Dev.reportLost_buf x b) (fun _ _ _ => rfl) (fun _ _ => rfl) d b n p1 p2 p3 src
@[simp] theorem Dev.event_scb (d : Dev) (b : Blk) (n p1 p2 p3 src : Nat) : (d.event b n p1 p2 p3 src).scb = d.scb := Dev.event_keeps (fun x => x.scb) (fun x b i => Dev.critWarn_scb x b i) (fun _ _ _ => rfl) (fun x b => Dev.reportLost_scb x b) (fun _ _ _ => rfl) (fun _ _ => rfl) d b n p1 p2 p3 src
@[simp] theorem Dev.event_mdc (d : Dev) (b : Blk) (n p1 p2 p3 src : Nat) : (d.event b n p1 p2 p3 src).mdc = d.mdc := Dev.event_keeps (fun x => x.mdc) (fun x b i => Dev.critWarn_mdc x b i) (fun _ _ _ => rfl) (fun x b => Dev.reportLost_mdc x b) (fun _ _ _ => rfl) (fun _ _ => rfl) d b n p1 p2 p3 src
@[simp] theorem Dev.event_dma (d : Dev) (b : Blk) (n p1 p2 p3 src : Nat) : (d.event b n p1 p2 p3 src).dma = d.dma := Dev.event_keeps (fun x => x.dma) (fun x b i => Dev.critWarn_dma x b i) (fun _ _ _ => rfl) (fun x b => Dev.reportLost_dma x b) (fun _ _ _ => rfl) (fun _ _ => rfl) d b n p1 p2 p3 src
@[simp] theorem Dev.event_ch (d : Dev) (b : Blk) (n p1 p2 p3 src : Nat) : (d.event b n p1 p2 p3 src).ch = d.ch := Dev.event_keeps (fun x => x.ch) (fun x b i => Dev.critWarn_ch x b i) (fun _ _ _ => rfl) (fun x b => Dev.reportLost_ch x b) (fun _ _ _ => rfl) (fun _ _ => rfl) d b n p1 p2 p3 src
@[simp] theorem Dev.event_dec (d : Dev) (b : Blk) (n p1 p2 p3 src : Nat) : (d.event b n p1 p2 p3 src).dec = d.dec := Dev.event_keeps (fun x => x.dec) (fun x b i => Dev.critWarn_dec x b i) (fun _ _ _ => rfl) (fun x b => Dev.reportLost_dec x b) (fun _ _ _ => rfl) (fun _ _ => rfl) d b n p1 p2 p3 src
@[simp] theorem Dev.event_wrp (d : Dev) (b : Blk) (n p1 p2 p3 src : Nat) : (d.event b n p1 p2 p3 src).wrp = d.wrp := Dev.event_keeps (fun x => x.wrp) (fun x b i => Dev.critWarn_wrp x b i) (fun _ _ _ => rfl) (fun x b => Dev.reportLost_wrp x b) (fun _ _ _ => rfl) (fun _ _ => rfl) d b n p1 p2 p3 src
@[simp] theorem Dev.event_srv (d : Dev) (b : Blk) (n p1 p2 p3 src : Nat) : (d.event b n p1 p2 p3 src).srv = d.srv := Dev.event_keeps (fun x => x.srv) (fun x b i => Dev.critWarn_srv x b i) (fun _ _ _ => rfl) (fun x b => Dev.reportLost_srv x b) (fun _ _ _ => rfl) (fun _ _ => rfl) d b n p1 p2 p3 src
@[simp] theorem Dev.event_lanes (d : Dev) (b : Blk) (n p1 p2 p3 src : Nat) : (d.event b n p1 p2 p3 src).lanes = d.lanes := Dev.event_keeps (fun x => x.lanes) (fun x b i => Dev.critWarn_lanes x b i) (fun _ _ _ => rfl) (fun x b => Dev.reportLost_lanes x b) (fun _ _ _ => rfl) (fun _ _ => rfl) d b n p1 p2 p3 src
@[simp] theorem Dev.event_spn (d : Dev) (b : Blk) (n p1 p2 p3 src : Nat) : (d.event b n p1 p2 p3 src).spn = d.spn := Dev.event_keeps (fun x => x.spn) (fun x b i => Dev.critWarn_spn x b i) (fun _ _ _ => rfl) (fun x b => Dev.reportLost_spn x b) (fun _ _ _ => rfl) (fun _ _ => rfl) d b n p1 p2 p3 src
@[simp] theorem Dev.event_msq (d : Dev) (b : Blk) (n p1 p2 p3 src : Nat) : (d.event b n p1 p2 p3 src).msq = d.msq := Dev.event_keeps (fun x => x.msq) (fun x b i => Dev.critWarn_msq x b i) (fun _ _ _ => rfl) (fun x b => Dev.reportLost_msq x b) (fun _ _ _ => rfl) (fun _ _ => rfl) d b n p1 p2 p3 src
@[simp] theorem Dev.event_pwr (d : Dev) (b : Blk) (n p1 p2 p3 src : Nat) : (d.event b n p1 p2 p3 src).pwr = d.pwr := Dev.event_keeps (fun x => x.pwr) (fun x b i => Dev.critWarn_pwr x b i) (fun _ _ _ => rfl) (fun x b => Dev.reportLost_pwr x b) (fun _ _ _ => rfl) (fun _ _ => rfl) d b n p1 p2 p3 src
@[simp] theorem Dev.event_rng (d : Dev) (b : Blk) (n p1 p2 p3 src : Nat) : (d.event b n p1 p2 p3 src).rng = d.rng := Dev.event_keeps (fun x => x.rng) (fun x b i => Dev.critWarn_rng x b i) (fun _ _ _ => rfl) (fun x b => Dev.reportLost_rng x b) (fun _ _ _ => rfl) (fun _ _ => rfl) d b n p1 p2 p3 src
@[simp] theorem Dev.event_seq (d : Dev) (b : Blk) (n p1 p2 p3 src : Nat) : (d.event b n p1 p2 p3 src).seq = d.seq := Dev.event_keeps (fun x => x.seq) (fun x b i => Dev.critWarn_seq x b i) (fun _ _ _ => rfl) (fun x b => Dev.reportLost_seq x b) (fun _ _ _ => rfl) (fun _ _ => rfl) d b n p1 p2 p3 src
@[simp] theorem Dev.event_free (d : Dev) (b : Blk) (n p1 p2 p3 src : Nat) : (d.event b n p1 p2 p3 src).free = d.free := Dev.event_keeps (fun x => x.free) (fun x b i => Dev.critWarn_free x b i) (fun _ _ _ => rfl) (fun x b => Dev.reportLost_free x b) (fun _ _ _ => rfl) (fun _ _ => rfl) d b n p1 p2 p3 src

@[simp] theorem Dev.flagFault_v (d : Dev) (b : Blk) (c i : Nat) : (d.flagFault b c i).v = d.v := by unfold Dev.flagFault; dsimp only; split <;> rfl
@[simp] theorem Dev.flagFault_staged (d : Dev) (b : Blk) (c i : Nat) : (d.flagFault b c i).staged = d.staged := by unfold Dev.flagFault; dsimp only; split <;> rfl
@[simp] theorem Dev.flagFault_tbase (d : Dev) (b : Blk) (c i : Nat) : (d.flagFault b c i).tbase = d.tbase := by unfold Dev.flagFault; dsimp only; split <;> rfl
@[simp] theorem Dev.flagFault_pools (d : Dev) (b : Blk) (c i : Nat) : (d.flagFault b c i).pools = d.pools := by unfold Dev.flagFault; dsimp only; split <;> rfl
@[simp] theorem Dev.flagFault_lost (d : Dev) (b : Blk) (c i : Nat) : (d.flagFault b c i).lost = d.lost := by unfold Dev.flagFault; dsimp only; split <;> rfl
@[simp] theorem Dev.flagFault_bg (d : Dev) (b : Blk) (c i : Nat) : (d.flagFault b c i).bg = d.bg := by unfold Dev.flagFault; dsimp only; split <;> rfl
@[simp] theorem Dev.flagFault_cnt (d : Dev) (b : Blk) (c i : Nat) : (d.flagFault b c i).cnt = d.cnt := by unfold Dev.flagFault; dsimp only; split <;> rfl
@[simp] theorem Dev.flagFault_shadows (d : Dev) (b : Blk) (c i : Nat) : (d.flagFault b c i).shadows = d.shadows := by unfold Dev.flagFault; dsimp only; split <;> rfl
@[simp] theorem Dev.flagFault_roll (d : Dev) (b : Blk) (c i : Nat) : (d.flagFault b c i).roll = d.roll := by unfold Dev.flagFault; dsimp only; split <;> rfl
@[simp] theorem Dev.flagFault_mem (d : Dev) (b : Blk) (c i : Nat) : (d.flagFault b c i).mem = d.mem := by unfold Dev.flagFault; dsimp only; split <;> rfl
@[simp] theorem Dev.flagFault_log (d : Dev) (b : Blk) (c i : Nat) : (d.flagFault b c i).log = d.log := by unfold Dev.flagFault; dsimp only; split <;> rfl
@[simp] theorem Dev.flagFault_flc (d : Dev) (b : Blk) (c i : Nat) : (d.flagFault b c i).flc = d.flc := by unfold Dev.flagFault; dsimp only; split <;> rfl
@[simp] theorem Dev.flagFault_load (d : Dev) (b : Blk) (c i : Nat) : (d.flagFault b c i).load = d.load := by unfold Dev.flagFault; dsimp only; split <;> rfl
@[simp] theorem Dev.flagFault_dl (d : Dev) (b : Blk) (c i : Nat) : (d.flagFault b c i).dl = d.dl := by unfold Dev.flagFault; dsimp only; split <;> rfl
@[simp] theorem Dev.flagFault_hst (d : Dev) (b : Blk) (c i : Nat) : (d.flagFault b c i).hst = d.hst := by unfold Dev.flagFault; dsimp only; split <;> rfl
@[simp] theorem Dev.flagFault_cmds (d : Dev) (b : Blk) (c i : Nat) : (d.flagFault b c i).cmds = d.cmds := by unfold Dev.flagFault; dsimp only; split <;> rfl
@[simp] theorem Dev.flagFault_zne (d : Dev) (b : Blk) (c i : Nat) : (d.flagFault b c i).zne = d.zne := by unfold Dev.flagFault; dsimp only; split <;> rfl
@[simp] theorem Dev.flagFault_sec (d : Dev) (b : Blk) (c i : Nat) : (d.flagFault b c i).sec = d.sec := by unfold Dev.flagFault; dsimp only; split <;> rfl
@[simp] theorem Dev.flagFault_buf (d : Dev) (b : Blk) (c i : Nat) : (d.flagFault b c i).buf = d.buf := by unfold Dev.flagFault; dsimp only; split <;> rfl
@[simp] theorem Dev.flagFault_scb (d : Dev) (b : Blk) (c i : Nat) : (d.flagFault b c i).scb = d.scb := by unfold Dev.flagFault; dsimp only; split <;> rfl
@[simp] theorem Dev.flagFault_mdc (d : Dev) (b : Blk) (c i : Nat) : (d.flagFault b c i).mdc = d.mdc := by unfold Dev.flagFault; dsimp only; split <;> rfl
@[simp] theorem Dev.flagFault_dma (d : Dev) (b : Blk) (c i : Nat) : (d.flagFault b c i).dma = d.dma := by unfold Dev.flagFault; dsimp only; split <;> rfl
@[simp] theorem Dev.flagFault_ch (d : Dev) (b : Blk) (c i : Nat) : (d.flagFault b c i).ch = d.ch := by unfold Dev.flagFault; dsimp only; split <;> rfl
@[simp] theorem Dev.flagFault_dec (d : Dev) (b : Blk) (c i : Nat) : (d.flagFault b c i).dec = d.dec := by unfold Dev.flagFault; dsimp only; split <;> rfl
@[simp] theorem Dev.flagFault_wrp (d : Dev) (b : Blk) (c i : Nat) : (d.flagFault b c i).wrp = d.wrp := by unfold Dev.flagFault; dsimp only; split <;> rfl
@[simp] theorem Dev.flagFault_srv (d : Dev) (b : Blk) (c i : Nat) : (d.flagFault b c i).srv = d.srv := by unfold Dev.flagFault; dsimp only; split <;> rfl
@[simp] theorem Dev.flagFault_lanes (d : Dev) (b : Blk) (c i : Nat) : (d.flagFault b c i).lanes = d.lanes := by unfold Dev.flagFault; dsimp only; split <;> rfl
@[simp] theorem Dev.flagFault_spn (d : Dev) (b : Blk) (c i : Nat) : (d.flagFault b c i).spn = d.spn := by unfold Dev.flagFault; dsimp only; split <;> rfl
@[simp] theorem Dev.flagFault_msq (d : Dev) (b : Blk) (c i : Nat) : (d.flagFault b c i).msq = d.msq := by unfold Dev.flagFault; dsimp only; split <;> rfl
@[simp] theorem Dev.flagFault_pwr (d : Dev) (b : Blk) (c i : Nat) : (d.flagFault b c i).pwr = d.pwr := by unfold Dev.flagFault; dsimp only; split <;> rfl
@[simp] theorem Dev.flagFault_rng (d : Dev) (b : Blk) (c i : Nat) : (d.flagFault b c i).rng = d.rng := by unfold Dev.flagFault; dsimp only; split <;> rfl
@[simp] theorem Dev.flagFault_seq (d : Dev) (b : Blk) (c i : Nat) : (d.flagFault b c i).seq = d.seq := by unfold Dev.flagFault; dsimp only; split <;> rfl
@[simp] theorem Dev.flagFault_free (d : Dev) (b : Blk) (c i : Nat) : (d.flagFault b c i).free = d.free := by unfold Dev.flagFault; dsimp only; split <;> rfl

@[simp] theorem Dev.fault_v (d : Dev) (b : Blk) (c i p : Nat) (inj : Bool) (src : Nat) : (d.fault b c i p inj src).v = d.v := by simp [Dev.fault]
@[simp] theorem Dev.fault_staged (d : Dev) (b : Blk) (c i p : Nat) (inj : Bool) (src : Nat) : (d.fault b c i p inj src).staged = d.staged := by simp [Dev.fault]
@[simp] theorem Dev.fault_tbase (d : Dev) (b : Blk) (c i p : Nat) (inj : Bool) (src : Nat) : (d.fault b c i p inj src).tbase = d.tbase := by simp [Dev.fault]
@[simp] theorem Dev.fault_pools (d : Dev) (b : Blk) (c i p : Nat) (inj : Bool) (src : Nat) : (d.fault b c i p inj src).pools = d.pools := by simp [Dev.fault]
@[simp] theorem Dev.fault_bg (d : Dev) (b : Blk) (c i p : Nat) (inj : Bool) (src : Nat) : (d.fault b c i p inj src).bg = d.bg := by simp [Dev.fault]
@[simp] theorem Dev.fault_cnt (d : Dev) (b : Blk) (c i p : Nat) (inj : Bool) (src : Nat) : (d.fault b c i p inj src).cnt = d.cnt := by simp [Dev.fault]
@[simp] theorem Dev.fault_shadows (d : Dev) (b : Blk) (c i p : Nat) (inj : Bool) (src : Nat) : (d.fault b c i p inj src).shadows = d.shadows := by simp [Dev.fault]
@[simp] theorem Dev.fault_roll (d : Dev) (b : Blk) (c i p : Nat) (inj : Bool) (src : Nat) : (d.fault b c i p inj src).roll = d.roll := by simp [Dev.fault]
@[simp] theorem Dev.fault_mem (d : Dev) (b : Blk) (c i p : Nat) (inj : Bool) (src : Nat) : (d.fault b c i p inj src).mem = d.mem := by simp [Dev.fault]
@[simp] theorem Dev.fault_flc (d : Dev) (b : Blk) (c i p : Nat) (inj : Bool) (src : Nat) : (d.fault b c i p inj src).flc = d.flc := by simp [Dev.fault]
@[simp] theorem Dev.fault_load (d : Dev) (b : Blk) (c i p : Nat) (inj : Bool) (src : Nat) : (d.fault b c i p inj src).load = d.load := by simp [Dev.fault]
@[simp] theorem Dev.fault_dl (d : Dev) (b : Blk) (c i p : Nat) (inj : Bool) (src : Nat) : (d.fault b c i p inj src).dl = d.dl := by simp [Dev.fault]
@[simp] theorem Dev.fault_cmds (d : Dev) (b : Blk) (c i p : Nat) (inj : Bool) (src : Nat) : (d.fault b c i p inj src).cmds = d.cmds := by simp [Dev.fault]
@[simp] theorem Dev.fault_zne (d : Dev) (b : Blk) (c i p : Nat) (inj : Bool) (src : Nat) : (d.fault b c i p inj src).zne = d.zne := by simp [Dev.fault]
@[simp] theorem Dev.fault_sec (d : Dev) (b : Blk) (c i p : Nat) (inj : Bool) (src : Nat) : (d.fault b c i p inj src).sec = d.sec := by simp [Dev.fault]
@[simp] theorem Dev.fault_buf (d : Dev) (b : Blk) (c i p : Nat) (inj : Bool) (src : Nat) : (d.fault b c i p inj src).buf = d.buf := by simp [Dev.fault]
@[simp] theorem Dev.fault_scb (d : Dev) (b : Blk) (c i p : Nat) (inj : Bool) (src : Nat) : (d.fault b c i p inj src).scb = d.scb := by simp [Dev.fault]
@[simp] theorem Dev.fault_mdc (d : Dev) (b : Blk) (c i p : Nat) (inj : Bool) (src : Nat) : (d.fault b c i p inj src).mdc = d.mdc := by simp [Dev.fault]
@[simp] theorem Dev.fault_dma (d : Dev) (b : Blk) (c i p : Nat) (inj : Bool) (src : Nat) : (d.fault b c i p inj src).dma = d.dma := by simp [Dev.fault]
@[simp] theorem Dev.fault_ch (d : Dev) (b : Blk) (c i p : Nat) (inj : Bool) (src : Nat) : (d.fault b c i p inj src).ch = d.ch := by simp [Dev.fault]
@[simp] theorem Dev.fault_dec (d : Dev) (b : Blk) (c i p : Nat) (inj : Bool) (src : Nat) : (d.fault b c i p inj src).dec = d.dec := by simp [Dev.fault]
@[simp] theorem Dev.fault_wrp (d : Dev) (b : Blk) (c i p : Nat) (inj : Bool) (src : Nat) : (d.fault b c i p inj src).wrp = d.wrp := by simp [Dev.fault]
@[simp] theorem Dev.fault_srv (d : Dev) (b : Blk) (c i p : Nat) (inj : Bool) (src : Nat) : (d.fault b c i p inj src).srv = d.srv := by simp [Dev.fault]
@[simp] theorem Dev.fault_lanes (d : Dev) (b : Blk) (c i p : Nat) (inj : Bool) (src : Nat) : (d.fault b c i p inj src).lanes = d.lanes := by simp [Dev.fault]
@[simp] theorem Dev.fault_spn (d : Dev) (b : Blk) (c i p : Nat) (inj : Bool) (src : Nat) : (d.fault b c i p inj src).spn = d.spn := by simp [Dev.fault]
@[simp] theorem Dev.fault_msq (d : Dev) (b : Blk) (c i p : Nat) (inj : Bool) (src : Nat) : (d.fault b c i p inj src).msq = d.msq := by simp [Dev.fault]
@[simp] theorem Dev.fault_pwr (d : Dev) (b : Blk) (c i p : Nat) (inj : Bool) (src : Nat) : (d.fault b c i p inj src).pwr = d.pwr := by simp [Dev.fault]
@[simp] theorem Dev.fault_rng (d : Dev) (b : Blk) (c i p : Nat) (inj : Bool) (src : Nat) : (d.fault b c i p inj src).rng = d.rng := by simp [Dev.fault]
@[simp] theorem Dev.fault_seq (d : Dev) (b : Blk) (c i p : Nat) (inj : Bool) (src : Nat) : (d.fault b c i p inj src).seq = d.seq := by simp [Dev.fault]
@[simp] theorem Dev.fault_free (d : Dev) (b : Blk) (c i p : Nat) (inj : Bool) (src : Nat) : (d.fault b c i p inj src).free = d.free := by simp [Dev.fault]

@[simp] theorem Dev.sram_v (d : Dev) (b : Blk) (m : Nat) (r : SramRead) (inj : Bool) : (d.sram b m r inj).v = d.v := by unfold Dev.sram; split <;> simp <;> (split <;> simp)
@[simp] theorem Dev.sram_staged (d : Dev) (b : Blk) (m : Nat) (r : SramRead) (inj : Bool) : (d.sram b m r inj).staged = d.staged := by unfold Dev.sram; split <;> simp <;> (split <;> simp)
@[simp] theorem Dev.sram_tbase (d : Dev) (b : Blk) (m : Nat) (r : SramRead) (inj : Bool) : (d.sram b m r inj).tbase = d.tbase := by unfold Dev.sram; split <;> simp <;> (split <;> simp)
@[simp] theorem Dev.sram_pools (d : Dev) (b : Blk) (m : Nat) (r : SramRead) (inj : Bool) : (d.sram b m r inj).pools = d.pools := by unfold Dev.sram; split <;> simp <;> (split <;> simp)
@[simp] theorem Dev.sram_bg (d : Dev) (b : Blk) (m : Nat) (r : SramRead) (inj : Bool) : (d.sram b m r inj).bg = d.bg := by unfold Dev.sram; split <;> simp <;> (split <;> simp)
@[simp] theorem Dev.sram_shadows (d : Dev) (b : Blk) (m : Nat) (r : SramRead) (inj : Bool) : (d.sram b m r inj).shadows = d.shadows := by unfold Dev.sram; split <;> simp <;> (split <;> simp)
@[simp] theorem Dev.sram_roll (d : Dev) (b : Blk) (m : Nat) (r : SramRead) (inj : Bool) : (d.sram b m r inj).roll = d.roll := by unfold Dev.sram; split <;> simp <;> (split <;> simp)
@[simp] theorem Dev.sram_flc (d : Dev) (b : Blk) (m : Nat) (r : SramRead) (inj : Bool) : (d.sram b m r inj).flc = d.flc := by unfold Dev.sram; split <;> simp <;> (split <;> simp)
@[simp] theorem Dev.sram_load (d : Dev) (b : Blk) (m : Nat) (r : SramRead) (inj : Bool) : (d.sram b m r inj).load = d.load := by unfold Dev.sram; split <;> simp <;> (split <;> simp)
@[simp] theorem Dev.sram_dl (d : Dev) (b : Blk) (m : Nat) (r : SramRead) (inj : Bool) : (d.sram b m r inj).dl = d.dl := by unfold Dev.sram; split <;> simp <;> (split <;> simp)
@[simp] theorem Dev.sram_cmds (d : Dev) (b : Blk) (m : Nat) (r : SramRead) (inj : Bool) : (d.sram b m r inj).cmds = d.cmds := by unfold Dev.sram; split <;> simp <;> (split <;> simp)
@[simp] theorem Dev.sram_zne (d : Dev) (b : Blk) (m : Nat) (r : SramRead) (inj : Bool) : (d.sram b m r inj).zne = d.zne := by unfold Dev.sram; split <;> simp <;> (split <;> simp)
@[simp] theorem Dev.sram_sec (d : Dev) (b : Blk) (m : Nat) (r : SramRead) (inj : Bool) : (d.sram b m r inj).sec = d.sec := by unfold Dev.sram; split <;> simp <;> (split <;> simp)
@[simp] theorem Dev.sram_buf (d : Dev) (b : Blk) (m : Nat) (r : SramRead) (inj : Bool) : (d.sram b m r inj).buf = d.buf := by unfold Dev.sram; split <;> simp <;> (split <;> simp)
@[simp] theorem Dev.sram_scb (d : Dev) (b : Blk) (m : Nat) (r : SramRead) (inj : Bool) : (d.sram b m r inj).scb = d.scb := by unfold Dev.sram; split <;> simp <;> (split <;> simp)
@[simp] theorem Dev.sram_mdc (d : Dev) (b : Blk) (m : Nat) (r : SramRead) (inj : Bool) : (d.sram b m r inj).mdc = d.mdc := by unfold Dev.sram; split <;> simp <;> (split <;> simp)
@[simp] theorem Dev.sram_dma (d : Dev) (b : Blk) (m : Nat) (r : SramRead) (inj : Bool) : (d.sram b m r inj).dma = d.dma := by unfold Dev.sram; split <;> simp <;> (split <;> simp)
@[simp] theorem Dev.sram_ch (d : Dev) (b : Blk) (m : Nat) (r : SramRead) (inj : Bool) : (d.sram b m r inj).ch = d.ch := by unfold Dev.sram; split <;> simp <;> (split <;> simp)
@[simp] theorem Dev.sram_dec (d : Dev) (b : Blk) (m : Nat) (r : SramRead) (inj : Bool) : (d.sram b m r inj).dec = d.dec := by unfold Dev.sram; split <;> simp <;> (split <;> simp)
@[simp] theorem Dev.sram_wrp (d : Dev) (b : Blk) (m : Nat) (r : SramRead) (inj : Bool) : (d.sram b m r inj).wrp = d.wrp := by unfold Dev.sram; split <;> simp <;> (split <;> simp)
@[simp] theorem Dev.sram_srv (d : Dev) (b : Blk) (m : Nat) (r : SramRead) (inj : Bool) : (d.sram b m r inj).srv = d.srv := by unfold Dev.sram; split <;> simp <;> (split <;> simp)
@[simp] theorem Dev.sram_lanes (d : Dev) (b : Blk) (m : Nat) (r : SramRead) (inj : Bool) : (d.sram b m r inj).lanes = d.lanes := by unfold Dev.sram; split <;> simp <;> (split <;> simp)
@[simp] theorem Dev.sram_spn (d : Dev) (b : Blk) (m : Nat) (r : SramRead) (inj : Bool) : (d.sram b m r inj).spn = d.spn := by unfold Dev.sram; split <;> simp <;> (split <;> simp)
@[simp] theorem Dev.sram_msq (d : Dev) (b : Blk) (m : Nat) (r : SramRead) (inj : Bool) : (d.sram b m r inj).msq = d.msq := by unfold Dev.sram; split <;> simp <;> (split <;> simp)
@[simp] theorem Dev.sram_pwr (d : Dev) (b : Blk) (m : Nat) (r : SramRead) (inj : Bool) : (d.sram b m r inj).pwr = d.pwr := by unfold Dev.sram; split <;> simp <;> (split <;> simp)
@[simp] theorem Dev.sram_rng (d : Dev) (b : Blk) (m : Nat) (r : SramRead) (inj : Bool) : (d.sram b m r inj).rng = d.rng := by unfold Dev.sram; split <;> simp <;> (split <;> simp)
@[simp] theorem Dev.sram_seq (d : Dev) (b : Blk) (m : Nat) (r : SramRead) (inj : Bool) : (d.sram b m r inj).seq = d.seq := by unfold Dev.sram; split <;> simp <;> (split <;> simp)
@[simp] theorem Dev.sram_free (d : Dev) (b : Blk) (m : Nat) (r : SramRead) (inj : Bool) : (d.sram b m r inj).free = d.free := by unfold Dev.sram; split <;> simp <;> (split <;> simp)

end Sys2Proof.Machine
end

