-- ==== Sys2Proof/Laws/Ops.lean ====
section
/-! SUPPORT. Laws/Ops.lean: what the shared operations do, said once: a command of a live block, raising an event, ending a host command. -/
namespace Sys2Proof.Machine

/-- A command whose meaning acts on a block of a live domain completes, and its device is the meaning's. -/
theorem State.doesIn_gives {c : Instr} {s : State} {k : Nat} {f : Dev → Dev} {P : Dev → Prop} (he : exec c s = s.doesIn k f) (hk : s.dev.live k = true) (hP : P (f s.dev)) :
    Gives c s P := ⟨{ s with dev := f s.dev }, by rw [he, State.doesIn_eq, hk]; rfl, rfl, hP⟩

/-- A command whose block has no power completes and leaves the device as it was. -/
theorem State.doesIn_off {c : Instr} {s : State} {k : Nat} {f : Dev → Dev} (he : exec c s = s.doesIn k f) (hk : s.dev.live k = false) : exec c s = .next s := by
  rw [he, State.doesIn_eq, hk]; rfl

/-- Two frames of the four parts that raising an event may touch, one after the other. -/
theorem Dev.eventParts_trans {d e f : Dev} (h1 : e = { d with regs := e.regs, log := e.log, lost := e.lost, hst := e.hst })
    (h2 : f = { e with regs := f.regs, log := f.log, lost := f.lost, hst := f.hst }) : f = { d with regs := f.regs, log := f.log, lost := f.lost, hst := f.hst } := by
  rw [h1] at h2; exact h2

/-- Raising an asynchronous event touches HST alone. -/
theorem Dev.raiseAen_frame (d : Dev) (c : Fin 2) (e : Aen) : d.raiseAen c e = { d with hst := (d.raiseAen c e).hst } := by
  unfold Dev.raiseAen
  dsimp only
  split
  · rfl
  · split <;> (simp only [Dev.handOver, Dev.setCtrl]; split <;> rfl)

theorem Dev.raiseAenAll_frame (d : Dev) (e : Aen) : d.raiseAenAll e = { d with hst := (d.raiseAenAll e).hst } := by
  have h : ∀ (l : List (Fin 2)) (x : Dev), x = { d with hst := x.hst } →
      (l.foldl (fun d c => if (d.ctrl c).rdy then d.raiseAen c e else d) x) = { d with hst := (l.foldl (fun d c => if (d.ctrl c).rdy then d.raiseAen c e else d) x).hst } := by
    intro l
    induction l with
    | nil => exact fun x hx => hx
    | cons c l ih =>
      intro x hx
      refine ih _ ?_
      show (if (x.ctrl c).rdy then x.raiseAen c e else x) = { d with hst := (if (x.ctrl c).rdy then x.raiseAen c e else x).hst }
      split
      · rw [Dev.raiseAen_frame x c e]; rw [hx]
      · exact hx
  exact h _ d rfl

theorem Dev.reportLost_frame (d : Dev) (b : Blk) : d.reportLost b = { d with log := (d.reportLost b).log, lost := (d.reportLost b).lost } := by
  unfold Dev.reportLost; dsimp only; split <;> rfl

/-- Raising an event (R42, R510) touches the logbook's queue, the counts of lost events, an armed injection and, for a critical one, HST. -/
theorem Dev.event_frame (d : Dev) (b : Blk) (n p1 p2 p3 src : Nat) :
    d.event b n p1 p2 p3 src =
      { d with regs := (d.event b n p1 p2 p3 src).regs, log := (d.event b n p1 p2 p3 src).log, lost := (d.event b n p1 p2 p3 src).lost, hst := (d.event b n p1 p2 p3 src).hst } := by
  have hc : ∀ (bits info : Nat), d.critWarn bits info = { d with log := (d.critWarn bits info).log, hst := (d.critWarn bits info).hst } := by
    intro bits info
    unfold Dev.critWarn
    rw [Dev.raiseAenAll_frame]
  have hl : ∀ x : Dev, x = { d with regs := x.regs, log := x.log, lost := x.lost, hst := x.hst } → ∀ e : Event,
      (x.reportLost b).pushEvent e = { d with regs := ((x.reportLost b).pushEvent e).regs, log := ((x.reportLost b).pushEvent e).log,
                                              lost := ((x.reportLost b).pushEvent e).lost, hst := ((x.reportLost b).pushEvent e).hst } ∧
      (x.reportLost b).loseEvent b = { d with regs := ((x.reportLost b).loseEvent b).regs, log := ((x.reportLost b).loseEvent b).log,
                                              lost := ((x.reportLost b).loseEvent b).lost, hst := ((x.reportLost b).loseEvent b).hst } := by
    intro x hx e
    constructor
    · refine Dev.eventParts_trans hx ?_
      rw [Dev.reportLost_frame]; rfl
    · refine Dev.eventParts_trans hx ?_
      rw [Dev.reportLost_frame]; rfl
  have key : ∀ (x : Dev) (e : Event), x = { d with regs := x.regs, log := x.log, lost := x.lost, hst := x.hst } → ∀ y : Dev,
      y = (if x.flag F.LOG_INJECT_ARM && x.fld F.LOG_INJECT_KIND = 2 then (x.setFlag F.LOG_INJECT_ARM false).loseEvent b true
        else if (x.reportLost b).logCredit then (x.reportLost b).pushEvent e else (x.reportLost b).loseEvent b) →
      y = { d with regs := y.regs, log := y.log, lost := y.lost, hst := y.hst } := by
    intro x e hx y hy
    rw [hy]
    split
    · exact Dev.eventParts_trans hx rfl
    · split
      · exact (hl x hx e).1
      · exact (hl x hx e).2
  exact key (if critOf (blkCls b * 256 + n) = 0 then d else d.critWarn (critOf (blkCls b * 256 + n)) 0)
    { code := blkCls b * 256 + n, src := src % 65536, p1 := p1 % 2 ^ 32, p2 := p2 % 2 ^ 32, p3 := p3 % 2 ^ 32
      stamp := (Dev.reportLost (if critOf (blkCls b * 256 + n) = 0 then d else d.critWarn (critOf (blkCls b * 256 + n)) 0) b).now }
    (by split; · rfl
        · rw [hc]) _ rfl

/-- Raising an event leaves every control-space word alone but LOG.INJECT. -/
theorem Dev.event_word (d : Dev) (b : Blk) (n p1 p2 p3 src : Nat) {y : Nat} (hy : y ≠ 0x0A000060) : (d.event b n p1 p2 p3 src).word y = d.word y := by
  have hr : ∀ x : Dev, x.regs = d.regs → x.v = d.v → x.word y = d.word y := by
    intro x h1 h2; simp only [Dev.word, h1, h2]
  have key : ∀ (x : Dev) (e : Event), x.regs = d.regs → x.v = d.v →
      (if x.flag F.LOG_INJECT_ARM && x.fld F.LOG_INJECT_KIND = 2 then (x.setFlag F.LOG_INJECT_ARM false).loseEvent b true
        else if (x.reportLost b).logCredit then (x.reportLost b).pushEvent e else (x.reportLost b).loseEvent b).word y = d.word y := by
    intro x e h1 h2
    split
    · exact (Dev.word_setFld_ne x F.LOG_INJECT_ARM 0 hy).trans (hr x h1 h2)
    · have h3 : (x.reportLost b).regs = d.regs := by rw [Dev.reportLost_frame]; exact h1
      have h4 : (x.reportLost b).v = d.v := by rw [Dev.reportLost_frame]; exact h2
      split <;> exact hr _ h3 h4
  have hc : ∀ bits info : Nat, (d.critWarn bits info).regs = d.regs ∧ (d.critWarn bits info).v = d.v := by
    intro bits info; unfold Dev.critWarn; rw [Dev.raiseAenAll_frame]; exact ⟨rfl, rfl⟩
  refine key (if critOf (blkCls b * 256 + n) = 0 then d else d.critWarn (critOf (blkCls b * 256 + n)) 0) _ ?_ ?_ <;> split <;> first | rfl | exact (hc _ _).1 | exact (hc _ _).2

/-- A plain write of a control-space word (R13) touches the registers, the staged values and the memory-error tables, and the event of a reserved write. -/
theorem Dev.regWrite_frame (d : Dev) (a v who : Nat) :
    (d.regWrite a v who).1 = { d with regs := (d.regWrite a v who).1.regs, staged := (d.regWrite a v who).1.staged, mem := (d.regWrite a v who).1.mem
                                      log := (d.regWrite a v who).1.log, lost := (d.regWrite a v who).1.lost, hst := (d.regWrite a v who).1.hst } := by
  have key : ∀ (x : Dev) (b : Blk) (m : Acc) (o : Nat), x = { d with regs := x.regs, log := x.log, lost := x.lost, hst := x.hst } → ∀ y z w : Dev,
      y = (if m.rw ||| m.w1c = 0 then x else x.setWord a (BitVec.ofNat 32 (((x.word a).toNat &&& (0xFFFFFFFF ^^^ (m.rw ||| (m.w1c &&& v)))) ||| (v &&& m.rw)))) →
      z = (if blkAbsent y.v b then y else y.memPageClear b o v) → w = (if m.ws = 0 then z else z.stage b a m.ws v) →
      w = { d with regs := w.regs, staged := w.staged, mem := w.mem, log := w.log, lost := w.lost, hst := w.hst } := by
    intro x b m o hx y z w hy hz hw
    have h1 : y = { d with regs := y.regs, log := y.log, lost := y.lost, hst := y.hst } := by
      rw [hy]; split
      · exact hx
      · exact Dev.eventParts_trans hx rfl
    have h2 : z = { d with regs := z.regs, mem := z.mem, log := z.log, lost := z.lost, hst := z.hst } := by
      rw [hz]; split
      · rw [h1]
      · unfold Dev.memPageClear; dsimp only
        split
        · rw [h1]
        · split
          · rw [h1]
          · split <;> rw [h1]
    rw [hw]; split
    · rw [h2]
    · unfold Dev.stage; rw [h2]; rfl
  unfold Dev.regWrite
  split
  · rfl
  · split
    · rfl
    · rename_i b o h
      refine key (if v &&& (accOf d.v a).res ≠ 0 then d.resWrite b a v who else d) b (accOf d.v a) o ?_ _ _ _ rfl rfl rfl
      split
      · exact Dev.event_frame d _ _ _ _ _ _
      · rfl

/-- Ending a host command touches its record and HST, and draws the sequence number of an error entry. -/
theorem Dev.finish_frame (d : Dev) (t : Tag) (st : Status) (a b : Nat) :
    d.finish t st a b = { d with hst := (d.finish t st a b).hst, cmds := (d.finish t st a b).cmds, free := (d.finish t st a b).free } := by
  have key : ∀ (e : Dev) (p : Prop) [Decidable p] (x y : Nat), e = { d with cmds := e.cmds } → ∀ f : Dev,
      f = (if p then e else (if stQuiet st then e else e.addError t st x y).handOver { tag := t, st := st, dw0 := a, dw1 := b }) →
      f = { d with hst := f.hst, cmds := f.cmds, free := f.free } := by
    intro e p _ x y he f hf
    rw [hf, he]
    split
    · rfl
    · split
      · rfl
      · simp only [Dev.handOver, Dev.addError, Dev.drawNat, Dev.setCtrl]
        split <;> rfl
  exact key _ _ _ _ rfl _ rfl

/-- A host command that is ended has Ended. -/
theorem Dev.finish_ended (d : Dev) (t : Tag) (st : Status) (a b : Nat) : Ended d (d.finish t st a b) t st := by
  have hn : ∀ l : List CmdRec, (l.filter fun x => decide (x.tag ≠ t)).find? (fun c => decide (c.tag = t)) = none := by
    intro l
    rw [List.find?_eq_none]
    intro x hx
    have := (List.mem_filter.1 hx).2
    simpa using this
  have hp : ∀ (e : Dev), e.hst.post = d.hst.post → ∃ l c, (e.handOver { tag := t, st := st, dw0 := a, dw1 := b }).hst.post = d.hst.post ++ l ++ [c] ∧ c.tag = t ∧ c.st = st := by
    intro e he
    exact ⟨[], { tag := t, st := st, dw0 := a, dw1 := b }, by simp only [Dev.handOver, he, List.append_nil], rfl, rfl⟩
  have ha : ∀ (e : Dev) (st : Status) (x y : Nat), (e.addError t st x y).hst.post = e.hst.post ∧ (e.addError t st x y).cmds = e.cmds := by
    intro e st x y
    simp only [Dev.addError, Dev.drawNat, Dev.setCtrl]
    split <;> exact ⟨rfl, rfl⟩
  have key : ∀ (e : Dev) (p : Prop) [Decidable p] (x y : Nat), e = { d with cmds := d.cmds.filter fun c => decide (c.tag ≠ t) } → ∀ f : Dev,
      f = (if p then e else (if stQuiet st then e else e.addError t st x y).handOver { tag := t, st := st, dw0 := a, dw1 := b }) →
      f.cmd? t = none ∧ (¬p → ∃ l c, f.hst.post = d.hst.post ++ l ++ [c] ∧ c.tag = t ∧ c.st = st) := by
    intro e p _ x y he f hf
    rw [hf, he]
    refine ⟨?_, fun h => ?_⟩
    · split
      · exact hn _
      · split
        · exact hn _
        · simp only [Dev.cmd?, Dev.handOver, (ha _ _ _ _).2]
          exact hn _
    · rw [if_neg h]
      split
      · exact hp _ rfl
      · exact hp _ (ha _ _ _ _).1
  have h := key _ ((match d.cmd? t with | some c => c.silent | none => false) = true) _ _ rfl (d.finish t st a b) rfl
  refine ⟨h.1, fun hs => h.2 ?_⟩
  cases hc : d.cmd? t with
  | none => simp
  | some c => simp [hs c hc]

end Sys2Proof.Machine
end

