-- ==== Sys2Proof/Machine/Balls.lean ====
section
/-! DEFINITION. Machine/Balls.lean: the ball map, the domain and direction of each signal ball, and the state in which a ball is held (R2, R496, R529 to R535). A row is its index 1 to 34. -/
namespace Sys2Proof.Machine

/-- A signal of Tables 19.2 to 19.4. Of a pair, `neg` names the ball _N. -/
inductive Signal where
  | bufDq (x i : Nat) | bufEdc (x i : Nat) | bufCa (x i : Nat) | bufCk (x : Nat) (neg : Bool) | bufWck (x : Nat) (neg : Bool) | gddrReset | bufZq
  | alTxd (a : Nat) | alTxs (a : Nat) | alRxd (a : Nat) | alRxs (a : Nat) | alFlt (a : Nat) | alWd (a l : Nat) (neg : Bool) | alRd (a l : Nat) (readerB neg : Bool)
  | hstTx (i : Nat) (neg : Bool) | hstRx (i : Nat) (neg : Bool) | refclk (p : Nat) (neg : Bool) | perst (p : Nat) | clkreq (p : Nat) | wake (p : Nat) | smbScl | smbSda | kwake | vsns12
  | coreEn | corePg | coreVid (i : Nat) | xtalIn | xtalOut | thermD (neg : Bool) | testmode | jtagTck | jtagTms | jtagTdi | jtagTdo | jtagTrst
  | ringTx (p i : Nat) (neg : Bool) | ringRx (p i : Nat) (neg : Bool) | actTx (a : Nat) (neg : Bool) | actRx (a : Nat) (neg : Bool) | actFlt | accSck | accCs | accMosi | accMiso | shk (a : Nat)
  | spnGate (phase : Nat) (low : Bool) | brake | spnIs (phase : Nat) (neg : Bool) | spnVbus | rsvExc (neg : Bool) | rsvSin (neg : Bool) | rsvCos (neg : Bool)
deriving DecidableEq, Repr

/-- What a ball is connected to (Table 19.5). -/
inductive Ball where
  | sig (s : Signal)
  | dnc | vcore | vana18 | vddqB | vio18 | vaux33 | vknl33 | vss
deriving DecidableEq, Repr

/-- Table 19.2: GDDR7 device x, rows A to H by five columns. -/
def gddrBlock (x : Nat) : List (List Ball) :=
  let dq (i : Nat) : Ball := .sig (.bufDq x i)
  let edc (i : Nat) : Ball := .sig (.bufEdc x i)
  let ca (i : Nat) : Ball := .sig (.bufCa x i)
  [[dq 0, dq 1, .vss, dq 2, dq 3], [dq 4, dq 5, edc 0, dq 6, dq 7], [.vddqB, .vddqB, .sig (.bufWck x false), .vddqB, .vddqB], [.vss, .vddqB, .sig (.bufWck x true), .vddqB, .vss],
   [dq 8, dq 9, edc 1, dq 10, dq 11], [dq 12, dq 13, .vss, dq 14, dq 15], [ca 0, ca 1, .sig (.bufCk x false), ca 2, ca 3], [.vddqB, .vss, .sig (.bufCk x true), .vddqB, ca 4]]

/-- Top band (R530): row index 1 to 8. -/
def topBall (i j : Nat) : Ball :=
  if 3 ≤ j ∧ j ≤ 32 then ((gddrBlock ((j - 3) / 5)).getD (i - 1) []).getD ((j - 3) % 5) .vss
  else if i = 3 ∧ j = 1 then .sig .gddrReset
  else if i = 3 ∧ j = 34 then .sig .bufZq
  else if 4 ≤ i ∧ i ≤ 6 then .vddqB else .vss

/-- Bottom band (R531): r = 0 to 6 for the rows AJ to AT. -/
def bottomBall (r j : Nat) : Ball :=
  let a := (j - 1) / 17
  let c := (j - 1) % 17 + 1
  let l := c - 3
  if 3 ≤ c ∧ c ≤ 12 then
    [Ball.sig (.alWd a l false), .sig (.alWd a l true), .vss, .sig (.alRd a l false false), .sig (.alRd a l false true), .sig (.alRd a l true false), .sig (.alRd a l true true)].getD r .vss
  else if c = 14 then [Ball.sig (.alTxd a), .sig (.alTxs a), .vss, .sig (.alRxd a), .sig (.alRxs a), .sig (.alFlt a), .vss].getD r .vss
  else if c = 2 ∨ c = 13 then .vana18 else .vss

/-- Two balls of a pair. -/
def ballPair (s : Bool → Signal) : List Ball := [.sig (s false), .sig (s true)]
/-- A row of supply and ground between lanes. -/
def ballShield : List Ball := [.vss, .vss, .vana18, .vss, .vss]
/-- Signals as balls. -/
def ballSigs (l : List Signal) : List Ball := l.map .sig

/-- Left side band of Table 19.4, rows J to AH, columns 1 to 5. -/
def leftBand : List (List Ball) :=
  let lane (i : Nat) : List Ball := ballPair (.hstTx i) ++ [.vss] ++ ballPair (.hstRx i)
  [lane 0, ballShield, lane 1, ballShield, lane 2, ballShield, lane 3, ballShield, ballPair (.refclk 0) ++ [.vss] ++ ballPair (.refclk 1), ballSigs [.perst 0, .perst 1, .clkreq 0, .clkreq 1] ++ [.vaux33],
   ballSigs [.wake 0, .wake 1, .smbScl, .smbSda] ++ [.vaux33], ballSigs [.kwake, .vsns12, .coreEn, .corePg] ++ [.vaux33], ballSigs ((List.range 5).map .coreVid),
   ballSigs [.coreVid 5, .coreVid 6] ++ [.vknl33, .vknl33, .vaux33], [.sig .xtalIn, .vss, .sig .xtalOut, .vknl33, .vknl33], ballPair .thermD ++ [.vss, .sig .testmode, .vio18],
   ballSigs [.jtagTck, .jtagTms, .jtagTdi, .jtagTdo, .jtagTrst], [.vio18, .vss, .dnc, .dnc, .vss], List.replicate 5 .vss]

/-- Right side band of Table 19.4, rows J to AH, columns 30 to 34. -/
def rightBand : List (List Ball) :=
  let lane (p i : Nat) : List Ball := ballPair (.ringTx p i) ++ [.vss] ++ ballPair (.ringRx p i)
  let act (a : Nat) : List Ball := ballPair (.actTx a) ++ [.vss] ++ ballPair (.actRx a)
  let gates (a b : Nat) : List Ball := ballSigs [.spnGate a false, .spnGate a true, .spnGate b false, .spnGate b true]
  [lane 0 0, ballShield, lane 0 1, ballShield, lane 1 0, ballShield, lane 1 1, ballShield, act 0, act 1, ballSigs [.actFlt, .shk 0, .shk 1] ++ [.vana18, .vss], ballSigs [.accSck, .accCs, .accMosi, .accMiso] ++ [.vio18],
   gates 0 1 ++ [.vio18], ballSigs [.spnGate 2 false, .spnGate 2 true, .brake] ++ [.vss, .vio18], ballPair (.spnIs 0) ++ [.vss] ++ ballPair (.spnIs 1), ballPair (.spnIs 2) ++ [.vss, .sig .spnVbus, .vana18],
   ballPair .rsvSin ++ [.vss] ++ ballPair .rsvCos, ballPair .rsvExc ++ [.vss, .vana18, .vio18], [.vss, .dnc, .dnc, .dnc, .vss]]

/-- The ball at row index i and column j; none outside the array (R529 to R533). -/
def ballAt (i j : Nat) : Option Ball :=
  if i = 0 ∨ 34 < i ∨ j = 0 ∨ 34 < j then none
  else if i ≤ 8 then some (topBall i j)
  else if 28 ≤ i then some (bottomBall (i - 28) j)
  else if j ≤ 5 then (leftBand.getD (i - 9) [])[j - 1]?
  else if 30 ≤ j then (rightBand.getD (i - 9) [])[j - 30]?
  else some (if (i + j) % 2 = 0 then .vss else .vcore)

/-- Direction of a signal ball (Table 19.6); `passive` where the table gives none. -/
inductive Dir where
  | input | output | both | passive
deriving DecidableEq, Repr

/-- Power domain and direction of a signal (Table 19.6); the substrate diode is in no domain. -/
def Signal.group : Signal → Option Nat × Dir
  | .hstTx _ _ => (some 5, .output)
  | .hstRx _ _ | .refclk _ _ => (some 5, .input)
  | .perst _ | .kwake | .vsns12 | .corePg | .xtalIn | .testmode => (some 0, .input)
  | .clkreq _ | .smbScl | .smbSda => (some 0, .both)
  | .wake _ | .coreEn | .coreVid _ | .xtalOut => (some 0, .output)
  | .thermD _ => (none, .passive)
  | .jtagTck | .jtagTms | .jtagTdi | .jtagTrst => (some 1, .input)
  | .jtagTdo => (some 1, .output)
  | .ringTx p _ _ => (some (6 + p), .output)
  | .ringRx p _ _ => (some (6 + p), .input)
  | .bufDq _ _ => (some 4, .both)
  | .bufEdc _ _ => (some 4, .input)
  | .bufCa _ _ | .bufCk _ _ | .bufWck _ _ | .gddrReset => (some 4, .output)
  | .bufZq => (some 4, .passive)
  | .alTxd _ | .alTxs _ | .alWd _ _ _ => (some 3, .output)
  | .alRxd _ | .alRxs _ | .alFlt _ => (some 3, .input)
  | .alRd _ _ _ _ => (some 2, .input)
  | .actTx _ _ | .accSck | .accCs | .accMosi | .spnGate _ _ | .brake | .rsvExc _ => (some 3, .output)
  | .actRx _ _ | .actFlt | .accMiso | .shk _ | .spnIs _ _ | .spnVbus | .rsvSin _ | .rsvCos _ => (some 3, .input)

/-- A ball that serves actuator 1 alone, reserved on the EO7230 (R2, R536). -/
def Signal.ofActuator1 : Signal → Bool
  | .alTxd a | .alTxs a | .alRxd a | .alRxs a | .alFlt a | .alWd a _ _ | .alRd a _ _ _ | .actTx a _ | .actRx a _ | .shk a => a == 1
  | _ => false

/-- The state in which a ball stands while it is not driven by its block. -/
inductive Pad where
  | highZ | low | selfRefresh | idle
deriving DecidableEq, Repr

/-- Table 17.4: the state of a ball of a domain that is off; none where the table gives none. -/
def Signal.offState (s : Signal) (standby : Bool) : Option Pad :=
  match s with
  | .alRd _ _ _ _ => some .highZ
  | .spnGate _ _ | .brake | .rsvExc _ | .actTx _ _ | .alTxd _ | .alTxs _ | .alWd _ _ _ | .gddrReset => some .low
  | .bufDq _ _ | .bufEdc _ _ | .bufCa _ _ | .bufCk _ _ | .bufWck _ _ | .bufZq => some (if standby then .selfRefresh else .highZ)
  | .hstTx _ _ | .ringTx _ _ _ => some .idle
  | _ => none

/-- The state in which a ball is held (R2, R496, R535): a ball of actuator 1 on the EO7230 is high-impedance, JTAG_TDO always is (R536), and a ball of a domain that is off, or whose pads are
still held, has the state of Table 17.4; none where its block drives or reads it. -/
def Dev.pad (d : Dev) (s : Signal) : Option Pad :=
  if (d.v && s.ofActuator1) || s == .jtagTdo then some .highZ
  else match s.group.1 with
    | some k => if k ≠ 0 ∧ (!d.on k || (d.fld F.PWR_STAT_HOLD).testBit k) then s.offState (d.fld F.PWR_STAT_STATE == 3) else none
    | none => none

end Sys2Proof.Machine
end

