-- ==== Sys2Proof/Tests/Slice0.lean ====
section
/-! SUPPORT. Tests/Slice0.lean: ill-formed commands that the check refuses, small tests of single commands against the spec's own figures, and for every statement
with premises a state and operands that meet them, clause by clause. -/
namespace Sys2Proof.Machine

/-! ## States with one block changed -/

def Dev.inBuf (d : Dev) (f : BufS → BufS) : Dev := { d with buf := f d.buf }
def Dev.inMdc (d : Dev) (f : MdcS → MdcS) : Dev := { d with mdc := f d.mdc }
def Dev.inDma (d : Dev) (f : DmaS → DmaS) : Dev := { d with dma := f d.dma }
def Dev.inHst (d : Dev) (f : HstS → HstS) : Dev := { d with hst := f d.hst }
def Dev.inC0 (d : Dev) (f : CtrlS → CtrlS) : Dev := d.setCtrl 0 (f (d.ctrl 0))
def Dev.inZne (d : Dev) (f : ZneS → ZneS) : Dev := { d with zne := f d.zne }
def Dev.inPwr (d : Dev) (f : PwrS → PwrS) : Dev := { d with pwr := f d.pwr }
def Dev.inRng (d : Dev) (f : RngS → RngS) : Dev := { d with rng := f d.rng }
def Dev.inSeq (d : Dev) (f : SeqS → SeqS) : Dev := { d with seq := f d.seq }
def Dev.putLoad (d : Dev) (f : LoadS → LoadS) : Dev := { d with load := f d.load }
def Dev.inMsq (d : Dev) (f : MsqS → MsqS) : Dev := { d with msq := f d.msq }
def Dev.inChan0 (d : Dev) (f : ChS → ChS) : Dev := d.setChan 0 (f (d.chan 0))
def Dev.inFlc (d : Dev) (f : FlcS → FlcS) : Dev := { d with flc := f d.flc }
def Dev.atTime (d : Dev) (t : Nat) : Dev := { d with tbase := BitVec.ofNat 64 t }

end Sys2Proof.Machine

namespace Sys2Proof.Tests
set_option Elab.async false
open Sys2Proof Sys2Proof.Machine

/-! ## Helpers -/

/-- The device after reset with some fields set. -/
def dv (l : List (RF × Nat)) : Dev := l.foldl (fun d p => d.setFld p.1 p.2) {}

/-- A state around a device. -/
def st (d : Dev) : State := { dev := d, pending := [] }

/-- The device after a command. -/
def after (c : Instr) (d : Dev) : Dev := match exec c (st d) with | .next t => t.dev | _ => d

/-- A host command of controller 0, queue 1. -/
def tg : Tag := ⟨0, 1, 5⟩
def ro : RunOrder := { tag := 7 }
def sb : SoftBlock := { ord := ro, index := 0, head := 0, frame := {}, lba := 9, erased := 0, mse := 0, tbuf := 0, vals := [] }
def rep : SecReport := { tag := 7, index := 0, head := 0, status := 1, iter := 0, step := 0, corr := 0, frame := {}, reframe := 0, erased := 0, slot := 0, injected := false
                         ord := { ro with nsid := 1 }, lba := 9, tbuf := 0 }
def sd : Seeds := { loops := [], taps := [] }

/-! ## Commands that no sender can send, refused by the check -/

theorem test_frames_out_of_range : ([{ ftype := 0x10, flags := 256 }, { ftype := 0x10, seq := 65536 }, { ftype := 0x10, epoch := 65536 }, { ftype := 0x10, src := 256 }, { ftype := 0x10, dst := 256 },
    { ftype := 0x10, tgt := 256 }, { ftype := 0x10, job := 65536 }, { ftype := 0x10, hops := 256 }, { ftype := 0x11 }].map fun f : RFrame => (Instr.helloFrame 0 f).wellFormed) =
      List.replicate 9 false ∧ (Instr.helloFrame 0 { ftype := 0x10 }).wellFormed = true := by decide +kernel

theorem test_frames_of_another_type : ([Instr.joinChalFrame 0, .joinRespFrame 0, .joinConfFrame 0, .helloFrame 0, .rreqFrame 0, .rdataFrame 0, .jobStartFrame 0, .accFrame 0, .jcreditFrame 0,
    .jendFrame 0].map fun c => (c { ftype := 1 }).wellFormed) = List.replicate 10 false := by decide +kernel

theorem test_lengths_out_of_range : ([.accelSample [], .trainingDone [], .actReplyReceive 0 [], .mdcLineWrite 0 false 0 0 [] {} {} false, .dmaPost 0 [], .dmaHostDescriptorFetched 0 [], .bar2Access 0 0 0 none,
    .diagUnlock tg [], .ackFrame 0 0 0 [] false, .ringAdminSetKey tg [], .whistleDetected 0 []].map Instr.wellFormed) = List.replicate 11 false := by decide +kernel

theorem test_samples_out_of_range : ([(List.replicate 96 0, List.replicate 97 0), (List.replicate 97 0, List.replicate 98 0), (List.replicate 97 64, List.replicate 97 0),
    (List.replicate 97 0, List.replicate 97 (-65)), (List.replicate 97 63, List.replicate 97 (-64))].map fun x => (Instr.loopUpdateBlock 0 x.1 x.2 false).wellFormed) =
      [false, false, false, false, true] := by decide +kernel

/-- A flipped bit beyond the 64 data bytes and the column byte, or beyond a byte's parity bit. -/
def offBlock : SramBits := { flips := [(65, 0)] }
def offByte : SramBits := { flips := [(0, 9)] }

theorem test_flips_out_of_range : ([.tokenAccept .dec 0 false none offBlock, .tokenAccept .dec 0 false none offByte, .mdcLineRead 0 false 0 offBlock {} false, .mdcLineRead 0 false 0 {} offByte false,
    .mdcLineWrite 0 false 0 0 (List.replicate 128 0) offBlock {} false, .mdcLineWrite 0 false 0 0 (List.replicate 128 0) {} offBlock false, .dmaReadData offBlock, .zoneContextRequest 0 0 false false offBlock {},
    .zoneContextRequest 0 0 false false {} offByte, .logEventAccept false offByte].map Instr.wellFormed) = List.replicate 10 false ∧
    (Instr.tokenAccept .dec 0 false none { flips := [(64, 8)] }).wellFormed = true := by decide +kernel

/-! ## The queue -/

/-- No row of the table gives bits. -/
theorem test_no_word_spells_a_command (n w : Nat) : decodeTableWord n w = none ∧ (State.reset).withFetchWord n w = State.reset := ⟨rfl, rfl⟩

theorem test_step_takes_the_first : (match step { State.reset with pending := [.tbaseLoRead, .xtalLost] } with | .next t => t.pending | _ => []) = [.xtalLost] := by decide +kernel

/-- R24: TBASE advances by 4. -/
theorem test_idle_step : (match step State.reset with | .next t => (t.dev.tbase, t.pending) | _ => (0, [.xtalLost])) = (4, []) := by decide +kernel

/-! ## The spec's worked examples -/

/-- Worked example under R83. -/
def fmtEx : Format := { hdr := ⟨480, 1, 240000, 1, 0, []⟩, bands := [⟨180000, 1344, 48, 0, 0, 0, 117⟩], skip := [200037], stag := List.replicate 5 ⟨0, 0, 0, 0, 0⟩ ++ [⟨412, -640, 23, 310, -5⟩] }
def regEx : Region := ⟨1, 5, 1, 200000, 39000, 65536, false⟩

theorem test_lba_to_sector : mediaPos fmtEx regEx 1234567 = some ⟨15, 200184, 200596, 967⟩ ∧ readOffset fmtEx 200184 5 = -175768 ∧ writeOffset fmtEx 200184 5 = 209080 ∧
    startWedge fmtEx 200184 = 309 := by decide +kernel

/-- Worked example under R225. -/
theorem test_beat_code : rsEncode 0 1 0 0 = [0, 1, 0, 0, 0xAA05, 0xAA04] ∧ rsDecode [0, 1, 0x0100, 0, 0xAA05, 0xAA04] = .corrected [0, 1, 0, 0, 0xAA05, 0xAA04] 2 0x0100 ∧
    rsErase 4 [0, 1, 0, 0, 0x1234, 0xAA04] = .clean [0, 1, 0, 0, 0xAA05, 0xAA04] := by decide +kernel

/-- Worked example under R254. -/
theorem test_set_and_tag : mset 38177487 = 0xACF ∧ mtag 38177487 = 0x91A := by decide

/-- Worked example under R264: ways 2 to 11 age once, way 4 is filled at age 1; a streamed line enters at age 3 in way 7. -/
def mdcEx : Dev := (dv [(F.MDC_STAT_READY, 1), (F.MDC_CTRL_EN, 1), (F.MDC_WAYS_ALLOC, 0xFFF), (F.MDC_WAYS_LOCK, 3), (F.MDC_REPL_INS_AGE, 1)]).inMdc fun m =>
  { m with lines := (List.range 12).map fun w => (12 * 2767 + w, some { tag := w, age := [0, 0, 0, 1, 2, 1, 0, 2, 1, 0, 2, 1].getD w 0, data := [] }) }

theorem test_victim : ((after (.mdcLineRead 1 false 38177487 {} {} false) mdcEx).mdc.fills.map fun f => (f.way, f.age)) = [(4, 1)] ∧
    ((List.range 12).map fun w => (((after (.mdcLineRead 1 false 38177487 {} {} false) mdcEx).mline 2767 w).map MLine.age)) =
      [some 0, some 0, some 1, some 2, none, some 2, some 1, some 3, some 2, some 1, some 3, some 2] := by decide +kernel
theorem test_streamed_victim :
    ((after (.mdcLineRead 2 true (2767 + 16384 * 40) {} {} false) (after (.mdcLineRead 1 false 38177487 {} {} false) mdcEx)).mdc.fills.map fun f => (f.way, f.age)) = [(4, 1), (7, 3)] := by decide +kernel

/-- Worked example under R284: the read engine's bursts stop at the end of the window. -/
theorem test_window_end : burstLines 0x403E8000 22 760 776 8 = 8 ∧ burstLines 0x403E8000 22 0 1536 8 = 16 := by decide

/-- Worked example under R431. -/
theorem test_microword : (let u := uword 0x00000000000021A00000000000000000; (u.io, u.ioq, u.ioreg, u.flow)) = (2, 3, 8, 0) ∧
    (let u := uword 0x004A9040000021A00000000000000000; (u.io, u.ioq, u.ioreg, u.flow, u.next)) = (2, 3, 8, 1, 0x2A41) ∧
    (let u := uword 0x49000000000000000000000000000000; (u.cond, u.wmode, u.flow)) = (18, 1, 0) := by decide +kernel

/-- Table 13.10, byte 0. -/
theorem test_fold : foldBytes 0x8E [0] [0x22] = [0x11] ∧ foldBytes 0x47 [0x11] [0x11] = [0x52] ∧ foldBytes 2 [0] [0x44] = [0x88] ∧ foldBytes 0x47 [0x88] [0x83] = [0x61] := by decide +kernel

/-- Worked example under R195: curve, hysteresis and advance. -/
def spnEx : Dev := dv ([(F.SPN_CTRL_EN, 1), (F.SPN_ONOFF_ON_THR, 16), (F.SPN_ONOFF_OFF_THR, 8), (F.SPN_SPC_DMD 0, 32), (F.SPN_SPC_RPM 0, 3600), (F.SPN_SPC_DMD 1, 64), (F.SPN_SPC_RPM 1, 5400),
    (F.SPN_SPC_DMD 2, 128), (F.SPN_SPC_RPM 2, 7200)] ++ (List.range 13).flatMap fun i => [(F.SPN_SPC_DMD (3 + i), 136 + 8 * i), (F.SPN_SPC_RPM (3 + i), 7200)])
def spnOn : Dev := after (.spnDemandWrite 20 .loader) spnEx

theorem test_demand_on : (after (.spnDemandWrite 12 .loader) spnEx).spn.on = false ∧ spnOn.spn.on = true ∧ spnOn.spinTarget = 3600 := by decide +kernel
theorem test_demand_moves : (after (.spnDemandWrite 10 .loader) spnOn).spinTarget = 3600 ∧ (after (.spnDemandWrite 100 .loader) spnOn).spinTarget = 6413 ∧
    (after (.spnDemandWrite 8 .loader) spnOn).spn.on = false := by decide +kernel
theorem test_advance : (dv ([(F.SPN_ADV_RPM 0, 4000), (F.SPN_ADV_ADV 0, 0x400)] ++ (List.range 15).flatMap fun i => [(F.SPN_ADV_RPM (1 + i), 8000 + i), (F.SPN_ADV_ADV (1 + i), 0xC00)])).advance 6413 =
    2259 := by decide +kernel

/-- Worked example under R475: ITER_PRESS above ITER_MAX fails rule 3, with both staged the commit applies. -/
def decStage (v : Nat) : Dev := after (.registerWrite (BitVec.ofNat 32 F.DEC_CTRL_ITER_PRESS.a) (BitVec.ofNat 32 v) (.ctrl 0)) {}
def decCtrl (mx pr : Nat) : Nat := putBits (putBits (({} : Dev).word F.DEC_CTRL_ITER_MAX.a) F.DEC_CTRL_ITER_MAX.lo F.DEC_CTRL_ITER_MAX.n mx) F.DEC_CTRL_ITER_PRESS.lo F.DEC_CTRL_ITER_PRESS.n pr |>.toNat

theorem test_commit_refused : (let d := after (.commitCmd tg 4) (decStage (decCtrl 20 30)); (d.fld (fCRULE .dec), d.flag (fCFAILED .dec), d.hst.post.map fun c => (c.st.sc, c.dw0))) = (3, true, [(0xC1, 3)]) := by
  decide +kernel
theorem test_commit_applied : (let d := after (.commitCmd tg 4) (decStage (decCtrl 32 30)); (d.fld F.DEC_CTRL_ITER_MAX, d.fld F.DEC_CTRL_ITER_PRESS, d.flag (fCFAILED .dec))) = (32, 30, false) := by
  decide +kernel

/-- Worked example under R495: 14,000 mW before any head, and room for eight. -/
def pwrEx : Dev := dv [(F.PWR_STAT_ON, 0x1FF), (F.PWR_LIMIT_LIMIT_MW, 16000), (F.KNL_VCORE_MEAS, 0x1E)]
theorem test_power_estimate : pwrEx.estimate 0 0 = 14000 ∧ pwrEx.estimate 5 0 = 15250 ∧ pwrEx.estimate 8 0 = 16000 ∧ pwrEx.budget = 16000 := by decide +kernel

/-- Worked example under R516: the first event takes SEQ 0x…1F00 and a token, one without a token is suppressed. -/
def logEx (tok : Nat) : Dev :=
  { dv [(F.LOG_STAT_READY, 1), (F.LOG_BUCKET_DEPTH 644, 16), (F.LOG_BUCKET_REFILL_MS 644, 100), (F.LOG_BSTAT_TOKENS 644, tok)] with log := { inq := [{ code := 0x0504, src := 5 }], kepoch := 3, count := 0x1F00 } }
theorem test_event_admitted : (let d := after (.logEventAccept false {}) (logEx 16); (d.fld (F.LOG_BSTAT_TOKENS 644), ((d.log.recs.get (fun _ => none) 7936).map Rec.seq))) = (15, some 0x30000001F00) := by decide +kernel
theorem test_event_suppressed : (let d := after (.logEventAccept false {}) (logEx 0); (d.fld (F.LOG_BSTAT_SUPPRESSED 644), d.log.count)) = (1, 0x1F00) := by decide +kernel

/-- Table 15.5, step 1: INTENT, SEQ 4,117, in word index 2,165. -/
def flcEx : Dev := (dv [(F.FLC_STAT_READY, 1), (F.FLC_OP_ADDR_WORD 0, 692 * 2048)]).inFlc fun f => { f with isect0 := 1, iword0 := 117, intentSeq := 4117 }
theorem test_erase_intent : (match (after (.flashErase 0) flcEx).fword 2165 with | .prog b => leAt b 4 4 | _ => 0) = 4117 := by decide +kernel

/-! ## The ball map -/

/-- How many balls satisfy a test. -/
def balls (p : Ball → Bool) : Nat := ((List.range 1156).filter fun n => (ballAt (n / 34 + 1) (n % 34 + 1)).any p).length

/-- Table 19.5. -/
theorem test_balls_by_net : (balls fun b => match b with | .sig _ => true | _ => false) = 394 ∧ [Ball.dnc, .vcore, .vana18, .vddqB, .vio18, .vaux33, .vknl33, .vss].map (fun x => balls (· == x)) =
    [5, 228, 39, 60, 6, 4, 4, 416] := by decide +kernel

/-- Example under R531: reader A of H14 at AM24 and AN24; and a domain that is off holds its gates low. -/
theorem test_ball_examples : ballAt 31 24 = some (.sig (.alRd 1 4 false false)) ∧ ballAt 32 24 = some (.sig (.alRd 1 4 false true)) ∧ ({} : Dev).pad (.spnGate 0 false) = none ∧
    (({} : Dev).setFld F.PWR_STAT_ON 0x1F7).pad (.spnGate 0 false) = some .low ∧ ({ ({} : Dev) with v := true } : Dev).pad (.shk 1) = some .highZ := by decide +kernel

/-! ## Premises: fabric, channels, decoder -/

def aFill : Dev := (({} : Dev).setPool .dec 0 { held := 2, queue := [mkToken .data [1]], busy := 1 })
def aBack : Dev := ({} : Dev).setPool .srv 0 { held := 2, reserved := 1, back := [mkToken .rsp [1]] }
def aDup : Dev := dv [(F.KNL_TBASE_STAT_DUP_MISMATCH, 1)]
def aCred : Dev := dv [(F.LOG_STAT_READY, 1)]
def aLost : Dev := { aCred with lost := aCred.lost.set (fun _ => {}) (blkKey .dec) { count := 2, first := 5 } }
def aBusy : Dev := dv [(F.FAB_RC_STAT_BUSY, 1)]
def aDone : Dev := { aBusy with roll := { aBusy.roll with visited := (banksOf false).map blkKey } }
def aPer : Dev := { dv [(F.FAB_RC_PERIOD_PERIOD_MS, 1)] with tbase := 2000000 }
def aRoll : Dev := { ({} : Dev) with bg := [⟨.scrub, 0, false⟩, ⟨.roll, 0, false⟩], tbase := 1000000000 }

theorem wit_creditsCarryTokens :
    ((poolAt false .srv 0).isSome = true ∧ ({} : Dev).live 0 = true ∧ ({} : Dev).forwardOk .srv 0 (some (2, [])) true = true ∧ ({} : Dev).backPool .srv 0 = (.srv, 0) ∧ (poolAt false .srv 2).isSome = true ∧
      (({} : Dev).setPool .srv 0 { held := 0 }).forwardOk .srv 0 none false = false ∧ (aBack.pool .srv 0).reserved = 1 ∧ ¬(aBack.pool .srv 0).back.length < (aBack.pool .srv 0).reserved ∧
      (aFill.pool .dec 0).back.length < ((({} : Dev).setPool .srv 0 { held := 2, reserved := 1 }).pool .srv 0).reserved) ∧
    (aFill.live 0 = true ∧ (aFill.pool .dec 0).queue = [mkToken .data [1]] ∧ aFill.flag (fFENCED .dec 0) = false ∧ ((mkToken .data [1]).seen none).good = true ∧
      ((mkToken .data [1]).seen (some 0)).good = false ∧ sramRead {} = .ok ∧ aFill.fld (fFIRST .dec) = 0 ∧ (({} : Dev).pool .dec 0).queue = [] ∧
      (aFill.setFld (fFENCED .dec 0) 1).flag (fFENCED .dec 0) = true ∧ (aBack.pool .srv 0).back = [mkToken .rsp [1]]) ∧
    (0 < (aFill.pool .dec 0).busy ∧ (aFill.pool .dec 0).out ≤ aFill.fld (fCREDITS .dec 0) ∧
      (aFill.setFld (fCREDITS .dec 0) 1).fld (fCREDITS .dec 0) < ((aFill.setFld (fCREDITS .dec 0) 1).pool .dec 0).out) := by and_intros <;> decide +kernel

theorem wit_eventsAreOfferedOrCountedLost :
    ({} : Dev).live 0 = true ∧ ({} : Dev).flag F.LOG_INJECT_ARM = false ∧ (dv [(F.LOG_INJECT_ARM, 1), (F.LOG_INJECT_KIND, 2)]).flag F.LOG_INJECT_ARM = true ∧
      (dv [(F.LOG_INJECT_ARM, 1), (F.LOG_INJECT_KIND, 2)]).fld F.LOG_INJECT_KIND = 2 ∧ ({} : Dev).logCredit = false ∧ aCred.logCredit = true ∧ critOf 0x0201 = 0 ∧
      (aCred.lost.get (fun _ => {}) (blkKey .dec)).count = 0 ∧ aLost.logCredit = true ∧ 0 < (aLost.lost.get (fun _ => {}) (blkKey .dec)).count := by and_intros <;> decide +kernel

theorem wit_promotionsStallsAndSweeps :
    (aRoll.live 0 = true ∧ ((aRoll.bg[0]?.map fun r => decide (r.kind = .scrub ∧ r.raised + aRoll.promoteNs .scrub ≤ aRoll.now)) = some true) ∧
      ((aRoll.bg[1]?.map fun r => decide (r.kind = .roll ∧ r.raised + aRoll.promoteNs .roll ≤ aRoll.now)) = some true)) ∧
    ((poolAt false .dec 0).isSome = true ∧ aRoll.flag (fFENCED .dec 0) = false ∧ (0 : BitVec 64).toNat + aRoll.stallBound .dec 0 false ≤ aRoll.now ∧
      ({} : Dev).now < (0 : BitVec 64).toNat + ({} : Dev).stallBound .dec 0 true ∧ (aRoll.setFld (fFENCED .dec 0) 1).flag (fFENCED .dec 0) = true ∧ aRoll.fld (fFIRST .dec) = 0) ∧
    ((locate (0x02000020 : Word).toNat).map Prod.fst = some .dec ∧ (BitVec.ofNat 32 (accOf false (0x02000020 : Word).toNat).res).getLsbD 31 = false ∧
      (0x02000020 : Word).toNat ≠ (fFBIT .dec 5).a ∧ (0x02000020 : Word).toNat ≠ F.LOG_INJECT_ARM.a) := by and_intros <;> decide +kernel

theorem wit_counterMismatchIsCountedOnce :
    aDup.live 0 = true ∧ aDup.flag F.KNL_TBASE_STAT_DUP_MISMATCH = true ∧ aCred.live 0 = true ∧ aCred.flag F.KNL_TBASE_STAT_DUP_MISMATCH = false ∧ aCred.logCredit = true ∧
      aCred.flag F.LOG_INJECT_ARM = false ∧ (aCred.lost.get (fun _ => {}) (blkKey .knl)).count = 0 := by and_intros <;> decide +kernel

theorem wit_timeAndRollCalls :
    (({} : Dev).live 0 = true ∧ ({} : Dev).flag F.KNL_TBASE_STAT_XTAL_LOST = false ∧ (dv [(F.KNL_TBASE_STAT_XTAL_LOST, 1)]).flag F.KNL_TBASE_STAT_XTAL_LOST = true) ∧
    (({} : Dev).live 1 = true ∧ ({} : Dev).flag F.FAB_RC_STAT_BUSY = false ∧ aBusy.flag F.FAB_RC_STAT_BUSY = true ∧ ({} : Dev).load.minimal = false) ∧
    (aBusy.live 1 = true ∧ ((banksOf false).find? fun x => !aBusy.roll.visited.contains (blkKey x)) = some (.ch 0) ∧ aBusy.rollSlot.roll.slot = true ∧ aBusy.canSend (.ch 0) (mgtPool (.ch 0)) = true) ∧
    (aDone.live 1 = true ∧ aDone.roll.epoch < 2 ^ 32 ∧ aDone.flag F.FAB_RC_STAT_PENDING = false ∧ aDone.flag F.FAB_RC_STAT_BUSY = true ∧ ((banksOf false).all fun b => aDone.roll.visited.contains (blkKey b)) = true ∧
      (aDone.setFld F.FAB_RC_STAT_PENDING 1).flag F.FAB_RC_STAT_PENDING = true ∧ ((banksOf false).all fun b => aBusy.roll.visited.contains (blkKey b)) = false) ∧
    (aPer.live 1 = true ∧ aPer.fld F.FAB_RC_PERIOD_PERIOD_MS ≠ 0 ∧ aPer.roll.due + aPer.fld F.FAB_RC_PERIOD_PERIOD_MS * 1000000 ≤ aPer.now ∧ (aPer.pool .fab 0).queue = [] ∧ (aPer.pool .fab 1).queue = []) := by
  and_intros <;> decide +kernel

def bWin : Dev := ({ ({} : Dev) with tbase := 2000 }).setChan 0 { sam := { window := true, next := 1000, period := 100, misses := 4 } }
def bOrd : RunOrder := { ro with count := 2 }
def bFmt : Dev := ({} : Dev).putLoad fun l => { l with fmt0 := some { fmtEx with bands := [⟨0, 4, 0, 60000, 50000, 38000, 0⟩], skip := [] } }
def bRun : Dev := (bFmt.setRun 0 { ord := bOrd, accepted := 0, img := sd, live := sd }).inChan0 fun c => { c with sam := { wedge := ((bFmt.sectorPos 0 bOrd 0).getD (0, 0)).1 } }
def bMay : Dev := { bRun.setFld (F.BUF_TBUF_SIZE_LOG2 0) 4 with tbase := 3000, pwr := { ({} : PwrS) with grants := [(0, false)] } }
def bEnd : Dev := ({} : Dev).setRun 0 { ord := { ro with count := 1 }, accepted := 0, next := 1, img := sd, live := sd }
def bEnd2 : Dev := bEnd.inChan0 fun c => { c with orders := [(ro, 5)] }
def bSec : Dev := ({} : Dev).setRun 0 { ord := bOrd, accepted := 0, cur := some { index := 0, tbuf := 0, frame := {} }, img := sd, live := sd }
def bAns : RunReport := { tag := 7, head := 0, sent := 0, slipped := 0, firstSlip := 0, flags := 0, notice := true, ord := bOrd }
def bOrder : Dev := { ({} : Dev) with msq := { runs := [bAns] } }

theorem wit_samTrackingFollowsTheWedges :
    (({} : Dev).live 2 = true ∧ ({} : Dev).hasCh 0 = true ∧ ({} : Dev).inLoad 0 = false ∧ (({} : Dev).chan 0).sam.window = false ∧ samFound samPattern = true ∧
      ({} : Dev).canSend .srv 2 = true ∧ ((({} : Dev).setPool .srv 2 { held := 0 }).canSend .srv 2) = false ∧ (dv [(F.SRV_LSTAT_MODE 0, 1)]).inLoad 0 = true ∧
      ({ ({} : Dev) with v := true }).hasCh 10 = false) ∧
    (({ bWin with tbase := 1000 } : Dev).chan 0).sam.inWindow 1000 = true ∧ ((bWin.chan 0).sam.window = true ∧ (bWin.chan 0).sam.inWindow bWin.now = false) ∧
    (bWin.live 2 = true ∧ bWin.hasCh 0 = true ∧ bWin.inLoad 0 = false ∧ (bWin.chan 0).sam.misses = 4 ∧ 50 * (bWin.chan 0).sam.next + (bWin.chan 0).sam.period ≤ 50 * bWin.now ∧
      bWin.canSend .srv 2 = true) ∧ ((({} : Dev).chan 0).sam.misses ≠ 4) := by
  refine ⟨⟨by decide +kernel, by decide +kernel, by decide +kernel, by decide +kernel, by simp [samFound, popcount], ?_, ?_, ?_, ?_⟩, ?_, ?_, ?_, ?_⟩ <;> decide +kernel

theorem wit_sectorRunsReadOrSlip :
    (bOrder.live 2 = true ∧ (bOrder.msq.runs.find? fun r => r.notice && r.head == (0 : Fin 20).val) = some bAns ∧ bOrder.hasCh 0 = true ∧
      (bOrder.chan 0).orders.length < bOrder.fld (fCREDITS (chBlk 0) 0) ∧ (bOrder.fld F.WRP_STAT_AL_FAIL).testBit (actOf 0) = false ∧
      ((bOrder.readers 0 { bOrd with tbufFirst := 3 % max bOrd.tbufSize 1 }).1 || (bOrder.readers 0 { bOrd with tbufFirst := 3 % max bOrd.tbufSize 1 }).2) = true ∧
      (bOrder.chan 0).run = none ∧ (bRun.chan 0).run ≠ none ∧ (bOrder.setFld (fCREDITS (chBlk 0) 0) 0).fld (fCREDITS (chBlk 0) 0) ≤ (bOrder.chan 0).orders.length) ∧
    (bRun.live 2 = true ∧ ((bRun.chan 0).run.any fun r => decide (r.cur = none ∧ r.next < r.ord.count ∧ ¬r.accepted + 2000 ≤ bRun.now ∧ bRun.atSector 0 r.ord r.next 0 = true ∧
      ((bRun.readers 0 r.ord).1 || (bRun.readers 0 r.ord).2) = true)) = true) ∧
    (bMay.live 2 = true ∧ ((bMay.chan 0).run.any fun r => decide (r.accepted + 2000 ≤ bMay.now ∧ bMay.canSend .dec 0 = true ∧ bMay.tbufSize (actOf 0) ≠ 0 ∧
      bMay.slotBusy (actOf 0) (runSlot r.ord r.next) = false ∧ bMay.granted 0 false = true ∧ bMay.atSector 0 r.ord r.next 0 = true)) = true) ∧
    (bEnd.live 2 = true ∧ ((bEnd.chan 0).run.any fun r => decide (r.cur = none ∧ r.ord.count ≤ r.next)) = true ∧ (bEnd.chan 0).orders = [] ∧
      (bEnd2.chan 0).orders = [(ro, 5)] ∧ ((bEnd2.readers 0 ro).1 || (bEnd2.readers 0 ro).2) = true ∧ ((bRun.chan 0).run.any fun r => decide (r.next < r.ord.count)) = true) := by
  refine ⟨?_, ?_, ?_, ?_⟩ <;> decide +kernel

theorem wit_channelErasesUpdatesAndSends :
    (bSec.live 2 = true ∧ ((bSec.chan 0).run.any fun r => r.cur.any fun c => decide (c.soft = [[]])) = true ∧ bSec.canSend .dec 0 = true ∧ (bSec.setPool .dec 0 { held := 0 }).canSend .dec 0 = false ∧
      (bSec.sectorSplits 0 bOrd 0).length < 1 ∧ ((bSec.chan 0).run.any fun r => !r.lost) = true ∧ (bFmt.sectorSplits 0 { bOrd with first := 1 } 0).length = 1 ∧ (bSec.sectorSplits 0 bOrd 0).length < 2) ∧
    ((bSec.setFld (F.CH_CTRL_TA_EN 0) 1).flag (F.CH_CTRL_TA_EN 0) = true ∧ bSec.fld (F.CH_TA_TA_MIN 0) ≤ 255 ∧ bSec.fld (F.CH_TA_TA_THR 0) < 1000 ∧ (257 : Int).natAbs > 256 ∧ (256 : Int).natAbs ≤ 256) ∧
    (bSec.setFld (F.CH_LCTL_FREEZE 0 1) 1).flag (F.CH_LCTL_FREEZE 0 1) = true ∧ 1 ∈ valueLoops ∧ ({ ro with freezeImg := true } : RunOrder).freezeImg = true := by and_intros <;> decide +kernel

def sbOf (step lba : Nat) : SoftBlock := { sb with ord := { ro with step := step }, lba := lba }
def bFly : Dev := { ({} : Dev) with dec := { flight := [sb] } }
def bRedo : Dev := { ({} : Dev) with dec := { redo := [sb] } }
def bStore : Dev := { ({} : Dev) with dec := { store := [sb] } }
def bPark : Dev := { ({} : Dev) with dec := { park := [.parked sb] } }
def bSlotX (cap step lba : Nat) (press : Bool) : SlotS := { blk := sbOf step lba, cap := cap, press := press }
def bSlot (x : SlotS) : Dev := ({} : Dev).setSlot 0 (some x)
def bResp : Dev := { ({} : Dev) with dec := { writes := [(3, rep)] }, buf := { resps := [{ client := 0, id := 3, err := true, data := [] }] } }

/-- A CRC over bytes one after the other. -/
theorem crcRun_append (c : Nat) (a b : Bytes) : crcRun c (a ++ b) = crcRun (crcRun c a) b := by
  induction a generalizing c with
  | nil => rfl
  | cons x a ih => exact ih _

/-- The CRC register after each 64 of the 4,096 zero bytes of a sector, from the seed of LBA 332,823,818. -/
def crcMarks : List Nat := [
  3962143477, 1848336273, 375848222, 3453161932, 1796459649, 1985795794, 4157555509, 2571122270, 2968841601, 241784505, 617896382, 78240730, 1487447917, 552213935, 2220537822, 1240204532,
  1401169813, 170313963, 3896714488, 1263625594, 1004126533, 3975878292, 926526516, 1186058045, 2550915022, 1353105010, 1550470519, 607273696, 2429833124, 565307244, 3892078967, 454749543,
  1893683042, 3348474962, 3201864286, 3197490317, 604368778, 510198143, 2094072889, 3476138319, 3798699819, 1616091491, 3290555461, 1090417377, 3642452683, 293819263, 144096691, 1703097973,
  3090811570, 3988770443, 2529555470, 1918949434, 1116076052, 2305873515, 1586721356, 56447915, 3506862878, 1628343985, 1229146208, 140520223, 935379597, 3107749965, 2573718981, 1796300454,
  4294967295]

theorem crc_marks : ((List.range 64).all fun i => crcRun (crcMarks.getD i 0) (List.replicate 64 0) == crcMarks.getD (i + 1) 0) = true := by decide +kernel

theorem crc_zeros : crcRun 0xEC2982F5 (List.replicate 4096 0) = 0xFFFFFFFF := by
  have h : ∀ n, n ≤ 64 → crcRun 0xEC2982F5 (List.replicate (64 * n) 0) = crcMarks.getD n 0 := by
    intro n
    induction n with
    | zero => intro _; rfl
    | succ n ih =>
      intro hn
      have := List.all_eq_true.1 crc_marks n (List.mem_range.2 (by omega))
      rw [Nat.mul_succ, ← List.replicate_append_replicate, crcRun_append, ih (by omega)]
      exact eq_of_beq this
  exact h 64 (by decide)

theorem crcRun_zero (n : Nat) : crcRun 0 (List.replicate n 0) = 0 := by
  induction n with
  | zero => rfl
  | succ n ih => exact ih

theorem bytesOfBits_nil (n : Nat) : bytesOfBits n [] = List.replicate n 0 := by
  induction n with
  | zero => rfl
  | succ n ih => rw [List.replicate_succ, ← ih]; rfl

/-- A sector of zeros has a good CRC at one LBA and a bad one at another. -/
theorem crcGood_zeros : crcGood 332823818 0 (bytesOfBits 4100 []) = true := by
  rw [bytesOfBits_nil, crcGood, List.take_replicate, show min 4096 4100 = 4096 from rfl, crc32c, show crcSeed 332823818 0 = 0xEC2982F5 from rfl, crc_zeros]
  decide +kernel

theorem crcGood_zeros_not : crcGood 0xFFFFFFFF 0 (bytesOfBits 4100 []) = false := by
  rw [bytesOfBits_nil, crcGood, List.take_replicate, crc32c, show crcSeed 0xFFFFFFFF 0 = 0 from rfl, crcRun_zero]
  decide +kernel

theorem wit_decoderPoolDecodesAndReports :
    (bFly.live 2 = true ∧ (bFly.dec.flight.find? fun x => decide (x.head = (0 : Fin 20).val)) = some sb ∧ bFly.dec.store.length < 96 ∧ bFly.flag (fFENCED .dec 0) = false ∧ bFly.flag F.DEC_INJECT_ARM = false ∧
      sb.ord.step ≠ 7 ∧ (bFly.setFld (fFENCED .dec 0) 1).flag (fFENCED .dec 0) = true ∧ (sbOf 7 9).ord.step = 7 ∧ bFly.retained? (sbOf 7 9) = none ∧ bFly.dec.park.length < 16 ∧
      (((bFly.pool .dec 0).queue.headD (mkToken .data (blockBytes sb))).seen none).good = true ∧ (((bFly.pool .dec 0).queue.headD (mkToken .data (blockBytes sb))).seen (some 0)).good = false) ∧
    (bRedo.slot? 0 = none ∧ bRedo.dec.redo = [sb] ∧ bStore.slot? 0 = none ∧ bStore.dec.redo = [] ∧ bStore.parkedDue = false ∧ bStore.dec.store = [sb] ∧ bPark.slot? 0 = none ∧
      bPark.parkedDue = true ∧ bPark.parkedHead = some sb ∧ (bSlot (bSlotX 0 5 9 false)).slot? 0 ≠ none) ∧
    ((bSlot (bSlotX 0 5 9 false)).live 2 = true ∧ (bSlot (bSlotX 0 5 9 false)).slot? 0 = some (bSlotX 0 5 9 false) ∧ ldpcDecode 0 (slotVals (bSlotX 0 5 9 false)) = (0, none) ∧ (bSlotX 0 5 9 false).shift < 5 ∧
      ldpcDecode 0 (slotVals (bSlotX 0 0 9 true)) = (0, none) ∧ (bSlot (bSlotX 0 0 9 true)).dec.park.length < 16) ∧
    (ldpcDecode 1 (slotVals (bSlotX 1 0 332823818 false)) = (1, some []) ∧ (bSlotX 1 0 332823818 false).blk.inject ≠ some 1 ∧ crcGood 332823818 0 (bytesOfBits 4100 []) = true ∧
      ldpcDecode 1 (slotVals (bSlotX 1 0 0xFFFFFFFF false)) = (1, some []) ∧ crcGood 0xFFFFFFFF 0 (bytesOfBits 4100 []) = false) ∧
    ((bResp.dec.writes.find? fun w => bResp.buf.resps.any fun q => decide (q.client = 0 ∧ q.id = w.1)) = some (3, rep) ∧
      (bResp.buf.resps.find? fun q => decide (q.client = 0 ∧ q.id = 3)).isSome = true) := by
  refine ⟨by decide +kernel, by decide +kernel, by decide +kernel, ⟨?_, by decide +kernel, crcGood_zeros, ?_, crcGood_zeros_not⟩, by decide +kernel⟩ <;> exact ldpcDecode_erased 0

def bRep : Dev := { ({} : Dev) with msq := { reports := [rep] }, cmds := [{ tag := tg, kind := .read, nsid := 1, slba := 9, nlb := 1, need := [secKey 1 9] }] }
def bFull : SecReport := { rep with status := rsParkFull }
def bRd : RunReport := { tag := 7, head := 0, sent := 1, slipped := 0, firstSlip := 0, flags := 0 }
def bL : Ladder := { nsid := 1, lba := 9, head := 0, ord := { ro with nsid := 1 } }
def bLad : Dev := { bRep with msq := { ladders := [bL] } }
def bLadWaits : Dev := { bRep with msq := { ladders := [{ bL with waiting := true }] } }

theorem wit_retryLadderGoesStepByStep :
    (bRep.live 1 = true ∧ (bRep.msq.reports.find? fun x => decide (actOf x.head = (0 : Fin 2).val)) = some rep ∧ rep.status = rsNoConverge ∧ bRep.ladder? 1 9 = none ∧ bRep.wanted 1 9 = true ∧
      bFull.status = rsParkFull ∧ (({} : Dev).msq.reports.find? fun x => decide (actOf x.head = (0 : Fin 2).val)) = none ∧ ({} : Dev).readRun 0 = none ∧
      ({ ({} : Dev) with msq := { runs := [bRd] } } : Dev).readRun 0 = some bRd) ∧
    (bLad.live 2 = true ∧ bLad.ladder? 1 9 = some bL ∧ ({ bLad with cmds := [] } : Dev).wanted 1 9 = false ∧ bLad.wanted 1 9 = true ∧ bLadWaits.ladder? 1 9 = some { bL with waiting := true } ∧
      bLadWaits.ladderSlipped { bL with waiting := true } = none) ∧
    ((bLad.whead 0).orders.length + (bLad.whead 0).notices.length < bLad.fld (fCREDITS .wrp 0) ∧ bLad.charged bL < bLad.fld F.DEC_RETRY_BUDGET ∧ bL.step = 0 ∧ bLad.nextStep bL = some 2 ∧
      (bLad.setFld F.WRP_STAT_AL_FAIL 1).linkFailed (actOf 0) = true ∧ (bLad.setFld F.WRP_STAT_AL_FAIL 1).nextStep bL = some 2) := by and_intros <;> decide +kernel

theorem wit_injectRegistersArmAtOnce : ({} : Dev).live 0 = true ∧ ({} : Dev).live 1 = true ∧ ({} : Dev).live 2 = true ∧ ({} : Dev).live 3 = true ∧ ({} : Dev).live 4 = true ∧
    (0x80000000 : Nat) &&& (accOf false 0x02000020).res = 0 ∧ ((0x80000000 : Nat) &&& (accOf false 0x03000030).res = 0) ∧ (0x80000000 : Nat) &&& (accOf false 0x03100030).res = 0 := by
  and_intros <;> decide +kernel

/-! ## Premises: write path -/

/-- A small format, a namespace of two zones of 65,536 sectors and a cached sector held whole by a destage order. -/
def cFmt : Format := { fmtEx with bands := [⟨0, 4, 0, 60000, 50000, 38000, 0⟩], skip := [] }
def cReg : Region := ⟨0, 5, 0, 0, 39000, 65536, false⟩
def cSec : CacheSec := { nsid := 1, lba := 0, rlba := 0, addr := 0, lines := 32, order := some 3 }
def cDev : Dev := { ({} : Dev).putLoad fun l => { l with fmt0 := some cFmt } with
  zne := { nss := [{ nsid := 1, reg := cReg, ctx := 0, zones := 2 }], cache := [cSec] }
  msq := { orders := [{ a := 0, cmd := none, nsid := 1, slba := 0, n := 1, write := true, id := 3 }] } }
def cOrd : RunOrder := { tag := 0, track := 0, w := 5, nsid := 1, tbufSize := 0 }

/-- The levels of a 7-byte reply, bits of 20 ns. -/
def wave (b : List Nat) : List (Nat × Bool × Bool) :=
  let body := b.flatMap fun x => leBytes 1 x
  (dsEncode (false, false) (bitsOfBytes (leBytes 1 0xD3 ++ body ++ leBytes 1 (crc8 body)))).map fun l => (20, l)

def cQ : Dev := ({} : Dev).setAlink 0 { queue := [{ op := 1, seq := 0, head := 0 }] }
def cOut (f : AFrame) (b : Option BringS) : Dev := { ({} : Dev).setAlink 0 { out := some f, bring := b } with tbase := 4000 }
def cMode : AFrame := { op := 4, seq := 3, head := 0, reg := 2, data := 5 }
def cEnum : AFrame := { op := 5, seq := 0, head := 0xF }
def cHeatF : AFrame := { op := 3, seq := 9, head := 9, data := 0x21 }
def cPre : Dev := (cOut cEnum (some { began := 0 })).putLoad fun l => { l with preamps := [{ id := 77, iwReg := 1, osaReg := 2, osdReg := 3, fltReg := 4, init := [] }] }
def cGate : Dev := ({} : Dev).setWhead 0 { run := some { ord := { ro with count := 2, nsid := 1 }, retry := false, accepted := 0, gate := some 0, up := true } }
def cTrip : Dev := { ({} : Dev) with srv := { ({} : Dev).srv with above := ({} : Dev).srv.above.set (fun _ => false) 0 true } }

theorem wit_armLinkAndWriteInhibits :
    (cQ.live 3 = true ∧ (cQ.alink 0).out = none ∧ (cQ.alink 0).queue = [{ op := 1, seq := 0, head := 0 }] ∧ cQ.linkFailed 0 = false ∧ cQ.hasLink 0 = true ∧ (0 : Nat) ≤ cQ.now) ∧
    ((cOut cMode none).live 3 = true ∧ ((cOut cMode none).alink 0).out = some cMode ∧ ((cOut cMode none).alink 0).resends < (cOut cMode none).fld F.WRP_ALINK_RESENDS ∧
      (cOut cMode none).replyWhole 0 (wave [0x42, 0, 2, 0, 5]) ∧ ¬(cOut cMode none).replyEchoes (wave [0x42, 0, 2, 0, 5]) cMode ∧ ¬(cOut cMode none).replyWhole 0 []) ∧
    ((cOut cMode none).replyWhole 0 (wave [0x43, 0, 2, 0, 5]) ∧ (cOut cMode none).replyEchoes (wave [0x43, 0, 2, 0, 5]) cMode ∧ (cOut cMode none).replyByte (wave [0x43, 0, 2, 0, 5]) 2 % 16 = 0 ∧
      (cOut cMode none).replyEchoes (wave [0x43, 1, 2, 0, 5]) cMode ∧ (cOut cMode none).replyWhole 0 (wave [0x43, 1, 2, 0, 5]) ∧ (cOut cMode none).replyByte (wave [0x43, 1, 2, 0, 5]) 2 % 16 = 1 ∧
      (cOut cMode none).replyWhole 0 (wave [0x43, 2, 2, 0, 5]) ∧ (cOut cMode none).replyEchoes (wave [0x43, 2, 2, 0, 5]) cMode ∧ 2 ≤ (cOut cMode none).replyByte (wave [0x43, 2, 2, 0, 5]) 2 % 16 ∧
      ((cOut cMode none).alink 0).bring = none ∧ ((cOut cMode (some { began := 0 })).alink 0).bring ≠ none) ∧
    (cPre.replyWhole 0 (wave [0x50, 0, 10, 0, 77]) ∧ cPre.replyEchoes (wave [0x50, 0, 10, 0, 77]) cEnum ∧ cPre.replyByte (wave [0x50, 0, 10, 0, 77]) 2 % 16 = 0 ∧ (cPre.alink 0).bring = some { began := 0 } ∧
      cPre.now ≤ 0 + 200000 ∧ (cPre.load.preamps.find? fun p => decide (p.id = cPre.replyData (wave [0x50, 0, 10, 0, 77]))).isSome = true ∧ cPre.linkFailed 0 = false ∧
      cPre.replyByte (wave [0x50, 0, 10, 0, 77]) 3 = 10) ∧
    ((cOut cHeatF (some { began := 0, step := 4, left := 1 })).replyWhole 0 (wave [0x39, 0, 0, 0, 0x21]) ∧ (cOut cHeatF (some { began := 0, step := 4, left := 1 })).replyEchoes (wave [0x39, 0, 0, 0, 0x21]) cHeatF ∧
      (cOut cHeatF (some { began := 0, step := 4, left := 1 })).replyData (wave [0x39, 0, 0, 0, 0x21]) = cHeatF.data) ∧
    ((cOut cMode none).now < ((cOut cMode none).alink 0).sentAt + 1000 * (cOut cMode none).fld F.WRP_ALINK_ACK_US ∧
      ((cOut cMode none).alink 0).sentAt + 1000 * (cOut cMode none).fld F.WRP_ALINK_ACK_US ≤ ({ cOut cMode none with tbase := 1000000 } : Dev).now ∧ (({} : Dev).alink 0).bring = none ∧
      (({} : Dev).fld F.WRP_STAT_AL_UP).testBit 0 = false) ∧
    (cGate.hasLink 0 = true ∧ (cGate.alink 0).fltLow = false ∧ (cGate.whead 0).run.isSome = true ∧ (((cPre.setFld (F.WRP_PREID_FOUND 0) 1).setFld (F.WRP_PREID_ID 0) 77).preamp 0).isSome = true) ∧
    (({} : Dev).srv.above.get (fun _ => false) 0 = false ∧ ({} : Dev).shockMv 0 < 2000 ∧ (({} : Dev).setFld F.WRP_SHOCK_CMP_EN 1).flag F.WRP_SHOCK_CMP_EN = true ∧
      cTrip.srv.above.get (fun _ => false) 0 = true ∧ 0 + 20 ≤ cTrip.shockMv 0 ∧ cTrip.shockMv 0 < 2000 + 20) ∧
    (({ ({} : Dev) with wrp := { shock0 := some 0 } } : Dev).wrp.shock0 = some 0 ∧ ({} : Dev).now ≤ 0 + 10000 * (({} : Dev).setFld F.WRP_SHOCK_HOLD 1).fld F.WRP_SHOCK_HOLD ∧
      0 + 10000 * (({} : Dev).setFld F.WRP_SHOCK_HOLD 0).fld F.WRP_SHOCK_HOLD < (({} : Dev).atTime 4).now) := by
  simp only [Dev.replyWhole, Dev.replyEchoes]
  and_intros <;> decide +kernel

def cRunS : WRunS := { ord := { cOrd with tag := 7, count := 2 }, retry := false, accepted := 0 }
def cIdle : Dev := { cDev with tbase := 1000000000, pwr := { ({} : PwrS) with grants := [(0, true)] } }.setFld F.SPN_STAT_LOCKED 1 |>.setFld F.WRP_CTRL_WR_EN 1 |>.setFld (F.SRV_LSTAT_MODE 0) 4
  |>.setFld (F.SRV_LSTAT_MODE 2) 4 |>.setFld F.WRP_STAT_INH 0
def cReady : Dev := { cIdle.setAlink 0 { modes := 1 } with srv := { cIdle.srv with loops := cIdle.srv.loops.set (fun _ => {}) 2 { wr := true } } }
def cStart (r : WRunS) : Dev := (cReady.setWhead 0 { run := some r }).inChan0 fun c => { c with sam := { wedge := ((cDev.sectorPos 0 cOrd 0).getD (0, 0)).1 } }
def cHeld : WRunS := { cRunS with held := [(0, [])] }
def cCut : WRunS := { cRunS with gate := some 1, ends := 20000, parts := [[]] }
def cEnded : WRunS := { cRunS with gate := some 0, up := true, ends := 5000 }
def cRaised : WRunS := { cEnded with ends := 2000000000 }
def cPart : Dev := (cReady.setWhead 0 { run := some cCut }).inChan0 fun c => { c with sam := { wedge := ((cDev.sectorPos 0 cOrd 1).getD (0, 0)).1 + 1 } }
def cResp (id : Nat) : Dev := { cDev.setWhead 0 { run := some { cRunS with reqId := some 32 } } with buf := { resps := [{ client := 1, id := id, err := false, data := [] }] } }
def cEnd : Dev := ({} : Dev).setWhead 0 { run := some { cRunS with next := 2 } }
def cNote : Dev := { cDev with msq := { orders := [{ a := 0, cmd := some tg, nsid := 1, slba := 0, n := 1 }] }, cmds := [{ tag := tg, kind := .read, nsid := 1, slba := 0, nlb := 1, need := [secKey 1 0] }] }
def cHeat : Dev := { ({} : Dev).setWhead 0 { notices := [⟨ro, 0⟩] } with tbase := 400000000 }
def cRpt : RunReport := { tag := 7, head := 0, sent := 0, slipped := 0, firstSlip := 0, flags := 1, write := true, notWritten := 1, ord := { cOrd with count := 2 }, landed := [1], rev := 4 }
def cRetry : Dev := { cDev with msq := { cDev.msq with runs := [cRpt] } }

theorem wit_writeRunsGateAndRetry :
    (((cDev.runFor 1 0 1).any fun o => decide (o.1 = 0 ∧ ((runLbas o.2).all fun l => cDev.writeDue 0 o.2.nsid l) = true ∧ cDev.combFree 0 o.2.stripe = true)) = true ∧ cDev.hasCh 0 = true ∧
      (cDev.whead 0).orders.length < cDev.fld (fCREDITS .wrp 0) ∧ cDev.linkFailed 0 = false ∧ (cDev.setFld F.WRP_STAT_AL_FAIL 1).linkFailed 0 = true ∧ (cDev.whead 0).run = none ∧
      ((cDev.setFld (fCREDITS .wrp 0) 0).fld (fCREDITS .wrp 0) ≤ (cDev.whead 0).orders.length) ∧ ({} : Dev).runFor 1 0 1 = none) ∧
    (((cResp 32).buf.resps.find? fun x => decide (x.client = 1 ∧ x.id % 32 = (0 : Fin 20).val)).map (fun q => (q.id, q.err)) = some (32, false) ∧
      (((cResp 32).whead 0).run.map WRunS.reqId) = some (some 32) ∧ ((cResp 32).cacheFor cRunS.ord 0).isSome = true ∧ cRunS.asked = 0 ∧ (some 32 : Option Nat) ≠ some 64) ∧
    (((cStart cHeld).gateNow 0) = cStart cHeld ∧ ((cStart cHeld).whead 0).run = some cHeld ∧ cHeld.gate = none ∧ cHeld.next < cHeld.ord.count ∧ (cStart cHeld).atSector 0 cHeld.ord cHeld.next 0 = true ∧
      ((cStart cHeld).gateFails 0 cHeld.next cHeld).1 = 0 ∧ ((cStart cRunS).gateFails 0 0 cRunS).1 ≠ 0 ∧ (cStart cRunS).gateNow 0 = cStart cRunS) ∧
    (cPart.gateNow 0 = cPart ∧ (cPart.whead 0).run = some cCut ∧ cPart.atSector 0 cCut.ord 1 1 = true ∧ cPart.cutCause 0 = (0, false) ∧ (cPart.setFld F.WRP_STAT_INH 1).cutCause 0 ≠ (0, false) ∧
      (cPart.fmtOf 0).any (fun f => decide ((sectorParts (bandAt f 0).dataIv 64 (((cPart.sectorPos 0 cCut.ord 1).map Prod.snd).getD 0) (List.replicate 35056 false)).length = 2)) = true) ∧
    (((cStart cRaised).whead 0).run = some cRaised ∧ (cStart cRaised).now < cRaised.ends ∧ (cStart cRaised).cutCause 0 = (0, false) ∧ cEnded.ends ≤ (cStart cEnded).now ∧ cEnded.parts = []) ∧
    (cEnd.gateNow 0 = cEnd ∧ ((cEnd.whead 0).run.any fun r => decide (r.gate = none ∧ r.ord.count ≤ r.next ∧ r.landed = [])) = true ∧ cEnd.msq.orders = [] ∧ (cEnd.whead 0).orders = []) ∧
    (((cNote.runFor 1 0 1).any fun o => decide (o.1 = 0 ∧ ((runLbas o.2).all fun l => cNote.readDue 0 o.2.nsid l) = true ∧ cNote.combFree 0 o.2.stripe = true)) = true ∧
      (cNote.whead 0).orders.length + (cNote.whead 0).notices.length < cNote.fld (fCREDITS .wrp 0) ∧ (cNote.setFld F.WRP_CTRL_HEAT_EN 0).flag F.WRP_CTRL_HEAT_EN = false ∧
      (cNote.setFld F.WRP_CTRL_HEAT_EN 1).flag F.WRP_CTRL_HEAT_EN = true ∧ cNote.heatStands 0 = false) ∧
    ((cHeat.whead 0).notices = [⟨ro, 0⟩] ∧ (cHeat.whead 0).run = none ∧ (cHeat.whead 0).heat = 0 ∧ cHeat.heatStands 0 = true ∧ ({ cHeat with tbase := 0 } : Dev).heatStands 0 = false) ∧
    ((cRetry.msq.runs.find? fun r => r.write && !r.notice && actOf r.head == (0 : Fin 2).val) = some cRpt ∧
      stretches ((missing cRpt).filter fun i => match cRetry.cacheFor cRpt.ord i with | some c => !c.held && c.order.isSome | none => false) = [(0, 1)] ∧
      ((cRetry.msq.orders.filter fun o => (cRetry.destageOf cRpt).contains o.id && !o.failed).map fun o => (o.lastRev, o.charges)) = [(none, 0)] ∧ cRpt.flags.testBit 3 = false ∧ bitsAt cRpt.flags 0 3 ≠ 0 ∧
      0 < cRetry.fld F.WRP_RETRY_BUDGET ∧ (cRetry.setFld F.WRP_RETRY_BUDGET 0).fld F.WRP_RETRY_BUDGET ≤ 0 ∧ (cRetry.whead 0).orders.length + 1 ≤ cRetry.fld (fCREDITS .wrp 0) ∧ cRetry.linkFailed 0 = false) := by
  and_intros <;> decide +kernel

/-! ## Premises: servo -/

def okLoop : LoopS := { okHeel := true, okFetch := true, okRamp := true }
def dLoad : Dev := ((((({} : Dev).setFld F.SPN_STAT_LOCKED 1).setFld F.ACT_STAT_UP 3).setLp 0 okLoop).setLp 2 okLoop)
/-- Loop k in mode m. -/
def dMode (k m : Nat) : Dev := dLoad.setFld (F.SRV_LSTAT_MODE k) m
def dHeel : Dev := ((dMode 0 4).setFld (F.SRV_LSTAT_MODE 2) 4)
def dLate (a m : Nat) (x : LoopS) : Dev := { (dMode a m).setLp a x with tbase := 100000000000 }

/-- A CMD token waits for SRV: TAG 7, a loop, an order and an offset (Table 6.8). -/
def dCmd (d : Dev) (loop code ofs : Nat) : Dev := d.setPool .srv 0 { held := 1, queue := [mkToken .cmd (leBytes 2 7 ++ leBytes 1 loop ++ leBytes 1 code ++ leBytes 8 0 ++ leBytes 2 ofs)] }

/-- SRV takes the token at the head of order queue 0, and what it says holds of the device that has taken it. -/
def taken (d : Dev) (q : Dev → ModeOrder → Bool) : Bool := match d.acceptFrom .srv 0 none with
  | some (b, d0) => q d0 (modeOrder b)
  | none => false

theorem wit_servoOrdersAndLoopFaults :
    (dLoad.live 3 = true ∧ dLoad.acceptFrom .srv 0 none = none ∧ taken (dCmd dLoad 0 1 0) (fun d o => d.isOrder 1 o && d.mayLoad 0 && o.loop == 0 && o.tag == 7) = true ∧
      taken (dCmd {} 0 1 0) (fun d o => d.isOrder 1 o && !d.mayLoad 0) = true ∧ taken (dCmd {} 2 1 0) (fun d o => d.isOrder 1 o && o.loop == 2) = true ∧
      taken (dCmd dLoad 0 2 0) (fun d o => !d.isOrder 1 o) = true) ∧
    (taken (dCmd dHeel 0 2 5) (fun d o => d.isOrder 2 o && (let d := d.takeDue 0; decide (2 ≤ d.mode 0 ∧ d.mode 0 ≤ 5 ∧ (d.lp 0).holding = false ∧ d.setsOk 0 = true ∧ o.ofs.natAbs ≤ 1024))) = true ∧
      taken (dCmd dHeel 2 2 5) (fun d o => d.isOrder 2 o && (let d := d.takeDue 2; decide (3 ≤ d.mode 2 ∧ d.mode 2 ≤ 5 ∧ d.setsOk 2 = true ∧ o.ofs.natAbs ≤ 1024 ∧ 2 ≤ d.mode (loopAct 2) ∧ d.mode (loopAct 2) ≤ 5 ∧
        (d.lp (loopAct 2)).holding = false ∧ (d.lp (loopAct 2)).tgt = o.stripe))) = true ∧
      taken (dCmd dHeel 0 2 2000) (fun d o => d.isOrder 2 o && decide (1024 < o.ofs.natAbs)) = true) ∧
    (taken (dCmd dHeel 0 5 0) (fun d o => d.isOrder 5 o && (d.takeDue 0).mode 0 == 4 && (d.takeDue 0).setsOk 0) = true ∧ taken (dCmd {} 0 5 0) (fun d o => d.isOrder 5 o && (d.takeDue 0).mode 0 == 0) = true ∧
      taken (dCmd dHeel 2 6 0) (fun d o => d.isOrder 6 o && o.loop == 2) = true ∧ taken (dCmd dHeel 0 6 0) (fun d o => d.isOrder 6 o && (d.takeDue 0).mode 0 == 4) = true ∧
      taken (dCmd dHeel 2 7 5) (fun d o => d.isOrder 7 o && (d.takeDue 2).mode 2 == 4 && (d.takeDue 2).setsOk 2 && decide (o.ofs.natAbs ≤ 1024)) = true ∧
      taken (dCmd dHeel 0 7 5) (fun d o => d.isOrder 7 o && o.loop == 0) = true) ∧
    (taken (dCmd dHeel 0 3 0) (fun _ o => !([1, 2, 5, 6, 7] : List Nat).contains o.order) = true ∧ taken (dCmd dHeel 22 1 0) (fun d o => !d.hasLoop o.loop) = true ∧ dHeel.hasLoop 0 = true ∧
      ({ ({} : Dev) with v := true } : Dev).hasLoop 1 = false ∧ dHeel.mode 0 ≠ 0 ∧ ({} : Dev).mode 0 = 0) ∧
    (((dMode 0 4).setLp 0 { okLoop with due := [1] }).dueFault 0 = some 1 ∧ ((dMode 0 4).setLp 0 { okLoop with due := [2] }).dueFault 0 = some 2 ∧
      (((dMode 0 4).setFld (F.SRV_LRAMP_SAT_N 0) 2).setLp 0 { okLoop with satC := 2 }).dueFault 0 = some 5 ∧ ((dMode 2 3).setLp 2 { okLoop with sitW := 65535 }).dueFault 2 = some 4 ∧
      dLoad.dueFault 0 = none ∧ ((dMode 0 2).setLp 0 { okLoop with ended := true, extra := 65535 }).dueFault 0 = some 3 ∧
      (((dMode 0 4).setLp 0 { okLoop with due := [1], order := some { tag := 3, code := 2 } }).lp 0).order = some { tag := 3, code := 2 }) ∧
    ((dLate 0 1 okLoop).mode 0 = 1 ∧ ((dLate 0 1 okLoop).lp 0).since + 1000000 * (dLate 0 1 okLoop).fld (F.SRV_LPARK_LOAD_TMO 0) ≤ (dLate 0 1 okLoop).now) ∧
    ((dLate 0 5 { okLoop with holding := true }).mode 0 = 5 ∧ ((dLate 0 5 { okLoop with holding := true }).lp 0).holding = true ∧
      ((dLate 0 5 { okLoop with holding := true }).lp 0).since + 1000000 * (dLate 0 5 okLoop).fld (F.SRV_LPARK_REACQ_MS 0) ≤ (dLate 0 5 okLoop).now) ∧
    ((dLate 0 6 okLoop).mode 0 = 6 ∧ ((dLate 0 6 okLoop).lp 0).since + 1000000 * (dLate 0 6 okLoop).fld (F.SRV_LPARK_UNLOAD_TMO 0) ≤ (dLate 0 6 okLoop).now) ∧
    ((dMode 0 4).mode 0 = 4 ∧ (((dMode 0 4).setLp 0 { okLoop with iclC := 65535 }).lp 0).iclLog = false ∧ (dMode 0 4).fld (F.SRV_LRAMP_ICL_N 0) ≤ 65535) := by and_intros <;> decide +kernel

def dTok : Dev := ((({} : Dev).setPool .srv 2 { held := 1, queue := [mkToken .data (missToken 0 5)] }).setFld (F.SRV_LSTAT_MODE 2) 4).setWhead 0 { run := some { ord := ro, retry := false, accepted := 0 } }
def dGat (g : GatherS) : Dev := { (dMode 0 4) with srv := { (dMode 0 4).srv with gathers := (dMode 0 4).srv.gathers.set (fun _ => []) 0 [g] } }

theorem wit_servoTakesWedgesTicksAndSamples :
    ((dTok.pool .srv 2).queue = [mkToken .data (missToken 0 5)] ∧ dTok.flag (fFENCED .srv 2) = false ∧ (dTok.setFld (fFENCED .srv 2) 1).flag (fFENCED .srv 2) = true ∧ (({} : Dev).pool .srv 2).queue = [] ∧
      (wtok ((mkToken .data (missToken 0 5)).seen none).payload).flags = true ∧ (dTok.whead 0).run ≠ none ∧ Computes dTok 2 0 false ∧ poolKey .srv 3 ≠ poolKey .srv 2) ∧
    ((dGat { wedge := 4, near := 0 }).gathers 0 = [{ wedge := 4, near := 0 }] ∧ (dGat { wedge := 4, near := 0 }).hasLoop 0 = true ∧ Computes (dGat { wedge := 4, near := 0 }) 0 0 false ∧
      2 ≤ (dGat { wedge := 4, near := 0 }).mode 0 ∧ ((dGat { wedge := 4, near := 0 }).lp 0).holding = false ∧ ((dGat { wedge := 4, near := 0 }).gathers 0).all (fun g => g.parts.isEmpty) = true ∧
      (dGat { wedge := 4, near := 0, first := some 0 }).gatherFull 0 { wedge := 4, near := 0, first := some 0 } = false ∧
      (dGat { wedge := 4, near := 0, first := some 0 }).gatherOver { wedge := 4, near := 0, first := some 0 } = false ∧ (dLate 0 4 okLoop).gatherOver { wedge := 4, near := 0, first := some 0 } = true) ∧
    ((dLate 0 1 okLoop).hasLoop 0 = true ∧ (dLate 0 1 okLoop).mode 0 = 1 ∧ ((dLate 0 1 okLoop).lp 0).tick ≤ (dLate 0 1 okLoop).now ∧ Computes (dLate 0 1 okLoop) 0 0 false ∧
      (dLate 0 1 okLoop).now < ((dLate 0 1 { okLoop with tick := 200000000000 }).lp 0).tick) ∧
    ((0x03000000 : Nat) < 0x03010000 ∧ ({} : Dev).hasLoop 0 = true ∧ (0x03010400 : Nat) = 0x03010000 + 0x2000 * 0 + 0x800 * 0 + 0x400 * 1 + 0 ∧ ({} : Dev).activeBank 0 0 = 0 ∧
      (0x03011000 : Nat) = 0x03010000 + 0x2000 * 0 + 0x1000 + 0 ∧ ({} : Dev).mode 0 = 0 ∧ (dMode 0 4).mode 0 ≠ 0) ∧
    ((({} : Dev).atTime 1000000000).srv.accAt + 1000 * ({} : Dev).fld F.SRV_ACCEL_PERIOD_US ≤ (({} : Dev).atTime 1000000000).now ∧ ({} : Dev).now < ({} : Dev).srv.accAt + 1000 * ({} : Dev).fld F.SRV_ACCEL_PERIOD_US ∧
      sampleMissing [0, 0, 0, 0, 0, 0] = true ∧ sampleMissing [0, 127, 0, 0, 0, 0] = false ∧ ((({} : Dev).setFld F.WRP_SHOCK_ACC_EN 1).flag F.WRP_SHOCK_ACC_EN) = true ∧
      ((({} : Dev).setFld F.WRP_SHOCK_ACC_EN 0).flag F.WRP_SHOCK_ACC_EN) = false ∧ (({} : Dev).setFld F.WRP_SHOCK_ACC_THR 1).fld F.WRP_SHOCK_ACC_THR < sampleMag [0, 127, 0, 0, 0, 0] ∧
      sampleMag [0, 0, 0, 0, 0, 0] ≤ ({} : Dev).fld F.WRP_SHOCK_ACC_THR) := by
  simp only [Computes]
  and_intros <;> decide +kernel

/-! ## Premises: actuator link and spindle -/

def eFr (ty ch : Nat) : LFrame := { ty := ty, ch := ch, seq := 4, value := 0, sentAt := 0 }
/-- A lane with a frame out, and a discovery under way. -/
def eLane (f : LFrame) (x : Option Discovery) : Dev := ({} : Dev).setLane 0 { out := some f, disc := x }
def eMail : Dev := ({} : Dev).setLane 0 { mail := Tab.set (fun _ => none) [] 0 (some 5) }
def eStage : Dev := ({} : Dev).putLoad fun l =>
  { l with pstages := [{ id := 9, vcmIfsMa := 0, vcmBemfMv := 0, maVfsDv := 0, bridgeMa := 0, isnsMa := 0, vbusMv := 20000, funcs := 31, retractMv := 0, phaseMohm := 0 }] }
def eFunc : Dev := (eStage.setFld (F.ACT_PSID_FOUND 0) 1).setFld (F.ACT_PSID_ID 0) 9

theorem wit_actuatorLinkCarriesCommandsAndReplies :
    (eMail.live 3 = true ∧ eMail.laneOk 0 = true ∧ (eMail.lane 0).out = none ∧ (eMail.lane 0).disc = none ∧ (eMail.lane 0).mail.get (fun _ => none) 0 = some 5) ∧
    ((eLane (eFr 0 1) none).live 3 = true ∧ ((eLane (eFr 0 1) none).lane 0).out = some (eFr 0 1) ∧ (eLane (eFr 0 1) none).now ≤ (eFr 0 1).sentAt + 10 * (eLane (eFr 0 1) none).fld F.ACT_CTRL_ACK_NS ∧
      (eFr 0 1).sentAt + 10 * (eLane (eFr 0 1) none).fld F.ACT_CTRL_ACK_NS < ((eLane (eFr 0 1) none).atTime 1000000000).now ∧ ¬(eLane (eFr 0 1) none).actFrame (eFr 0 1) [] ∧
      (eLane (eFr 0 1) none).actFrame (eFr 0 1) (frameBody 5 1 4 0 false) ∧ (eLane (eFr 0 1) none).actFrame (eFr 0 1) (frameBody 6 1 4 0 false) ∧ leAt (frameBody 6 1 4 0 false) 0 1 / 32 = 6 ∧
      leAt (frameBody 5 1 4 0 false) 0 1 / 32 = 5 ∧ leAt (frameBody 4 1 3 0 false) 1 1 ≠ (eFr 0 1).seq) ∧
    ((eLane (eFr 0 1) none).actGood (eFr 0 1) (frameBody 4 1 4 0x8001 false) ∧ ((eLane (eFr 0 1) none).lane 0).disc = none ∧
      (eLane (eFr 1 31) (some { since := 0 })).actGood (eFr 1 31) (frameBody 6 31 4 9 false) ∧ (eStage.pstage (leAt (frameBody 6 31 4 9 false) 2 2)).isSome = true ∧
      ((eLane (eFr 1 31) (some { since := 0 })).lane 0).disc = some { since := 0 } ∧ (eLane (eFr 1 31) (some { since := 0 })).now ≤ 0 + 100000 ∧ (({} : Dev).pstage 9).isSome = false ∧
      (eLane (eFr 0 0) (some { since := 0, step := 3, left := [1] })).actGood (eFr 0 0) (frameBody 4 0 4 0 false)) ∧
    (eStage.laneOk 0 = true ∧ (eStage.lane 0).disc = none ∧ (eStage.lane 0).out = none ∧ 0 + 200000 < (eStage.atTime 200001).now) ∧
    (eFunc.laneOk 0 = true ∧ eFunc.funcOk 11 = true ∧ (eFunc.lane 0).out = none ∧ (eFunc.lane 0).disc = none ∧ ({} : Dev).funcOk 11 = false) := by
  simp only [Dev.actFrame, Dev.actGood]
  and_intros <;> decide +kernel

/-- The spindle in a state. -/
def eSpin (s : Nat) (x : SpnS) : Dev := { ({} : Dev).setFld F.SPN_STAT_STATE s with spn := x, tbase := 1000000000000 }
/-- A spindle in RUN at its target, the last revolution begun t ns ago. -/
def eLock (t : Nat) : Dev := let d := (eSpin 2 { on := true, turned := 2 ^ 40, turnAt := 1000000000000 - t }).setFld F.SPN_DEMAND_DEMAND 255
  { d with spn := { d.spn with tgtN := (d.spinTarget : Int) * 1000000000 } }
def eBus (d : Dev) : Dev := { d.setFld (F.ACT_PSID_FOUND 0) 1 |>.setFld (F.ACT_PSID_ID 0) 9 with load := eStage.load }
def eEn (d : Dev) : Dev := d.setFld F.SPN_CTRL_EN 1

theorem wit_spindleRunsAndGuardsItsBus :
    (({} : Dev).live 3 = true ∧ ({} : Dev).excPhase < 32768 ∧ ({} : Dev).flag F.SPN_INJECT_ARM = false ∧ ({} : Dev).resolverCheck 0 0 ≠ none ∧ ({} : Dev).resolverCheck (29491 * 29491) 0 = none ∧
      ({} : Dev).flag F.SPN_STAT_RSV_FAIL = false ∧ 2 ≤ (eSpin 2 { fails := 2 }).spn.fails) ∧
    ((eLock 8333333).revolved = true ∧ ({} : Dev).revolved = false ∧ (eLock 8333333).flag F.SPN_STAT_LOCKED = false ∧ (eLock 8333333).spinState = 2 ∧
      (eLock 8333333).spn.tgtN = ((eLock 8333333).spinTarget : Int) * 1000000000 ∧
      ((((eLock 8333333).now - (eLock 8333333).spn.turnAt) * (eLock 8333333).rpmTgt.natAbs : Nat) - (60000000000 : Nat) : Int).natAbs * 10000 ≤ (eLock 8333333).fld F.SPN_LOCK_LOCK_TOL * 60000000000 ∧
      (eLock 0).fld F.SPN_LOCK_LOCK_TOL * 60000000000 < ((((eLock 0).now - (eLock 0).spn.turnAt) * (eLock 0).rpmTgt.natAbs : Nat) - (60000000000 : Nat) : Int).natAbs * 10000 ∧
      ((eLock 0).setFld F.SPN_STAT_LOCKED 1).flag F.SPN_STAT_LOCKED = true) ∧
    ((eSpin 2 {}).spinState = 2 ∧ (eSpin 2 {}).spn.lockRose = false ∧ (eSpin 2 {}).spn.lockTmo = false ∧ (eSpin 2 {}).spn.runAt + (eSpin 2 {}).fld F.SPN_LOCK_LOCK_TMO * 1000000000 ≤ (eSpin 2 {}).now) ∧
    (({} : Dev).flag F.SPN_CTRL_EN = false ∧ (eEn {}).flag F.SPN_CTRL_EN = true ∧ ({} : Dev).spn.on = false ∧ (eSpin 0 { on := true, measure := some 0 }).spn.on = true ∧ ({} : Dev).fld F.SPN_ONOFF_ON_THR ≤ 255 ∧
      ({} : Dev).fld F.SPN_ONOFF_OFF_THR < 255 ∧ ({} : Dev).spinState = 0 ∧ (eEn {}).spinBarred = false) ∧
    ((eEn (eSpin 0 { measure := some 0 })).spinBarred = false ∧ (eEn (eSpin 0 { measure := some 0 })).spn.measure = some 0 ∧ 0 + 2000000 ≤ (eEn (eSpin 0 {})).now ∧ (60 : Int) < 61 ∧ (-30 : Int) ≤ -30 ∧
      (-31 : Int) < -30) ∧
    ((eSpin 1 {}).spinState = 1 ∧ (eSpin 1 {}).spn.alignAt + 1000000 * (eSpin 1 {}).fld F.SPN_ALIGN_ALIGN_MS ≤ (eSpin 1 {}).now ∧
      min (eSpin 1 {}).thetaE (65536 - (eSpin 1 {}).thetaE) ≤ 256 * (eSpin 1 {}).fld F.SPN_ALIGN_ALIGN_TOL ∧
      256 * ((eSpin 1 {}).setFld F.SPN_MOTOR_ANG_OFS 0x8000).fld F.SPN_ALIGN_ALIGN_TOL <
        min ((eSpin 1 {}).setFld F.SPN_MOTOR_ANG_OFS 0x8000).thetaE (65536 - ((eSpin 1 {}).setFld F.SPN_MOTOR_ANG_OFS 0x8000).thetaE)) ∧
    ((eSpin 2 {}).slowSpin = true ∧ (eSpin 2 {}).flag F.SPN_STAT_OV = false ∧ (eSpin 2 {}).spinTarget = 0 ∧ (eSpin 3 {}).spinState = 3 ∧ (eSpin 3 {}).spn.pulse = false ∧ (eSpin 3 {}).spn.braking = false) ∧
    ((eSpin 5 {}).spinState = 5 ∧ ((eSpin 2 {}).setFld F.SPN_CTRL_CHOP_EN 1).chopperUsable = true ∧ ((eSpin 2 {}).setFld F.SPN_CTRL_CHOP_EN 0).chopperUsable = false ∧ (eSpin 4 {}).spinState = 4 ∧
      (eSpin 3 { pulse := true }).spn.pulse = true) ∧
    ((eBus {}).vbusUnits 0x8000 = some 500 ∧ ({} : Dev).vbusUnits 0x8000 = none ∧ (eBus {}).vbusUnits 0xFFFF = some 999 ∧ (eBus {}).fld F.SPN_VTHR2_OV_THR < 999 ∧ (eBus {}).fld F.SPN_VTHR2_OV_CLR ≤ 999 ∧
      (eBus {}).fld F.SPN_VTHR1_CHOP_ON ≤ 999 ∧ 500 ≤ (eBus {}).fld F.SPN_VTHR1_CHOP_OFF ∧ 500 < (eBus {}).fld F.SPN_VTHR3_PF_THR ∧ (eBus {}).fld F.SPN_VTHR3_PF_THR ≤ 999 ∧
      500 < (eBus {}).fld F.SPN_VTHR2_OV_CLR ∧ ((eBus {}).setFld F.SPN_STAT_OV 1).flag F.SPN_STAT_OV = true ∧ (eSpin 2 { brake := true }).spn.brake = true) ∧
    ((eSpin 2 { win := some (0, 700) }).spn.win = some (0, 700) ∧ 0 + 8000 ≤ (eSpin 2 {}).now ∧ ((eSpin 2 { win := some (0, 700) }).atTime 4).now < 0 + 8000 ∧ (eSpin 2 { injChop := true }).spn.injChop = true ∧
      (eSpin 2 {}).spn.lowWin < 2 ∧ 2 ≤ (eSpin 2 { lowWin := 2 }).spn.lowWin) ∧
    (((eSpin 4 { ovClear := some 0 }).setFld F.SPN_STAT_OV 1).flag F.SPN_STAT_OV = true ∧ (eSpin 4 { ovClear := some 0 }).spn.ovClear = some 0 ∧ (eSpin 4 {}).spn.regen = false ∧
      (eSpin 4 {}).flag F.SPN_STAT_PF = false ∧ 0 + 1000000 * (eSpin 4 {}).fld F.SPN_HOLD_SB_HOLD_MS ≤ (eSpin 4 {}).now) ∧
    ((eSpin 5 {}).spn.rpm.natAbs < (eSpin 5 {}).fld F.SPN_HOLD_REGEN_MIN) := by and_intros <;> decide +kernel

/-! ## Premises: buffer memory and scrubber -/

/-- A trained and ready buffer with a written granule 3. -/
def fOn : Dev := (dv [(F.BUF_STAT_READY, 1), (F.BUF_STAT_TRAINED, 1)]).inBuf fun b => { b with valid := Tab.set (fun _ => false) [] 3 true }
def fReq (n : Nat) (op : BufOp) : BufReq := { client := 7, id := 4, line := 320, n := n, op := op }
def fAsk (n : Nat) (op : BufOp) : Dev := fOn.inBuf fun b => { b with reqs := [fReq n op] }
def fShare : Dev := (fAsk 32 .read).inBuf fun b => { b with shares := [5, 5, 5, 5, 5, 5, 5, 5, 5] }
def fFill : Dev := fOn.inBuf fun b => { b with fills := [⟨8, 1, 0⟩] }
def fRes (x : ResilverS) : Dev := fOn.inBuf fun b => { b with resilver := some x }
/-- A scrub pass at a granule. -/
def fPass (g : Nat) : Dev := { (fOn.setFld F.SCB_POS_GRANULE g) with scb := { running := true }, tbase := 90000000000000 }

theorem wit_bufferTrainsClearsAndRebuilds :
    (({} : Dev).live 4 = true ∧ ({} : Dev).buf.training = none ∧ ({} : Dev).flag F.BUF_STAT_TRAINED = false ∧ (({} : Dev).inBuf fun b => { b with training := some 0 }).buf.training = some 0 ∧
      ({} : Dev).flag F.BUF_STAT_READY = false ∧ (({} : Dev).inBuf fun b => { b with training := some 1 }).buf.training = some 1 ∧ fOn.flag F.BUF_STAT_TRAINED = true) ∧
    (fOn.live 4 = true ∧ fOn.buf.retrainAt + 1000000 * fOn.fld F.BUF_PHY_RETRAIN_MS ≤ (fOn.atTime 100000000000).now ∧
      rrFirst (fun x => (fOn.setFld F.BUF_DEVSTATE_ST 0).devState x != 1 && (fOn.setFld F.BUF_DEVSTATE_ST 0).devState x != 2) 6 6 0 = some 0) ∧
    (fOn.flag F.BUF_STAT_VCLR_BUSY = false ∧ (fOn.setFld F.BUF_STAT_VCLR_BUSY 1).flag F.BUF_STAT_VCLR_BUSY = true ∧
      fOn.fld F.BUF_VCLR_FIRST_FIRST ≤ 3 ∧ 3 < fOn.fld F.BUF_VCLR_FIRST_FIRST + (4 : Word).toNat % 2 ^ 22 ∧ fOn.valid 3 = true) ∧
    ((fOn.setFld (F.BUF_TBUF_SIZE_LOG2 0) 4).tbufSize 0 ≠ 0 ∧ fOn.tbufSize 0 = 0) ∧
    (fOn.live 1 = true ∧ fOn.load.minimal = false ∧ (2 : Fin 8).val < 6 ∧ (fOn.setFld F.BUF_DEVSTATE_ST 0).devState 2 ≠ 2 ∧ (fOn.setFld F.BUF_DEVSTATE_ST 0).otherNotLive 2 = false ∧
      (fOn.setFld F.BUF_DEVSTATE_ST 1).devState 0 ≠ 0 ∧ (fOn.setFld F.BUF_DEVSTATE_ST 1).devState 0 ≠ 3 ∧ (fOn.setFld F.BUF_DEVSTATE_ST 1).otherNotLive 0 = false ∧
      (fOn.setFld F.BUF_DEVSTATE_ST 2).devState 0 = 2 ∧ (fOn.setFld F.BUF_DEVSTATE_ST 3).devState 0 = 3 ∧ (fOn.setFld F.BUF_DEVSTATE_ST 1).otherNotLive 2 = true ∧ 6 ≤ (6 : Fin 8).val) ∧
    ((fRes { dev := 2, start := 0 }).buf.resilver = some { dev := 2, start := 0 } ∧ (fRes { dev := 2, start := 0 }).flag F.BUF_STAT_READY = true ∧ (fRes { dev := 2, start := 0 }).bufTurn = some (8, 1) ∧
      min (min (32 - 0) ((fRes { dev := 2, start := 0 }).bufIdle.share 8 / 2)) ((fRes { dev := 2, start := 0 }).bufIdle.bufRoom / 2) = 8 ∧ 24 + 8 = 32 ∧ 0 + 8 < 32 ∧
      (fRes { dev := 2, start := 0, line := 24 }).bufIdle.bufTurn = some (8, 1) ∧ (fOn.buf.valid.find? fun p => decide (fOn.fld F.BUF_RSLV_PTR ≤ p.1 ∧ p.1 < fOn.granules)) = some (3, true) ∧ 3 + 1 < fOn.granules ∧
      ((fOn.setFld F.BUF_RSLV_PTR 4).buf.valid.find? fun p => decide ((fOn.setFld F.BUF_RSLV_PTR 4).fld F.BUF_RSLV_PTR ≤ p.1 ∧ p.1 < fOn.granules)) = none) ∧
    ((fPass 3).live 4 = true ∧ (fPass 3).scb.running = true ∧ (fPass 3).flag F.SCB_CTRL_EN = true ∧ (fPass 3).flag F.BUF_STAT_READY = true ∧ (fPass 3).buf.resilver = none ∧
      (fPass 3).scb.began + (fPass 3).fld F.SCB_POS_GRANULE * ((fPass 3).scb.passH * 3600000000000) / (fPass 3).granules ≤ (fPass 3).now ∧
      (fPass 3).fld F.SCB_POS_GRANULE + 1 < (fPass 3).granules ∧ (fPass 3).valid ((fPass 3).fld F.SCB_POS_GRANULE) = true ∧ (fPass 3).scrubGrantable = true ∧
      ((fPass 3).inBuf fun b => { b with reqs := [fReq 1 .read] }).scrubGrantable = false ∧ (fPass 2).valid ((fPass 2).fld F.SCB_POS_GRANULE) = false ∧ (fPass 2).scb.overrun = false ∧
      (fPass 2).scb.began + (fPass 2).scb.passH * 3600000000000 ≤ (fPass 2).now ∧ ({} : Dev).scb.running = false) := by and_intros <;> decide +kernel

theorem wit_bufferServesRequests :
    ((fAsk 1 .read).live 4 = true ∧ (fAsk 1 .read).bufIdle = fAsk 1 .read ∧ (fAsk 1 .read).bufPick = some (fReq 1 .read, 1, 1) ∧ 1 ≤ (fAsk 1 .read).bufRoom ∧ (fReq 1 .read).op = .read ∧ (fReq 1 .read).got = [] ∧
      (fReq 1 .read).err = false ∧ (fAsk 1 .read).readsZero 320 = true ∧ (fAsk 1 (.write (List.replicate 128 7))).bufIdle.bufPick = some (fReq 1 (.write (List.replicate 128 7)), 1, 1) ∧
      ((fAsk 1 .read).setFld F.BUF_STAT_READY 0).flag F.BUF_STAT_READY = false ∧ fOn.bufIdle.bufPick = none) ∧
    (fShare.bufIdle.bufPick = some (fReq 32 .read, 1, 5) ∧ 5 < (fReq 32 .read).n ∧ 5 ≤ fShare.bufIdle.bufRoom) ∧
    (fFill.live 4 = true ∧ fFill.buf.fills = [⟨8, 1, 0⟩] ∧ fFill.now < 0 + 10 * fFill.fld F.BUF_FILL_FILL_NS ∧
      0 + 10 * fFill.fld F.BUF_FILL_FILL_NS ≤ (fFill.atTime 1000000000).now) := by and_intros <;> decide +kernel

/-! ## Premises: metadata cache and DMA -/

/-- A cache that is ready and enabled, with ways that may be allocated. -/
def gOn : Dev := dv [(F.MDC_STAT_READY, 1), (F.MDC_CTRL_EN, 1), (F.MDC_WAYS_ALLOC, 0xFFF), (F.MDC_WAYS_LOCK, 0)]
def gLine : MLine := { tag := 0, data := List.replicate 128 3 }
def gHit : Dev := gOn.inMdc fun m => { m with lines := Tab.set (fun _ => none) [] (12 * 9 + 2) (some gLine) }
def gFill : MFill := { id := 4, line := 9, way := 1, age := 2, reqs := [⟨5, false, 9, none⟩] }
def gLand : Dev := (gOn.inMdc fun m => { m with fills := [gFill] }).inBuf fun b => { b with resps := [⟨7, 4, false, List.replicate 128 3, none⟩] }

/-- Two flipped bits of one byte cannot be mended. -/
def gUncor : SramRead := sramRead { flips := [(0, 1), (0, 2)] }

theorem wit_metadataCacheServesLines :
    (gOn.live 4 = true ∧ ({} : Dev).flag F.MDC_STAT_READY = false ∧ gOn.flag F.MDC_STAT_READY = true ∧ gOn.mcap ≤ (BitVec.ofNat 27 100663296).toNat ∧ (9 : BitVec 27).toNat < gOn.mcap ∧ gOn.mcredit false = true ∧ gOn.mcredit true = true ∧
      ((gOn.setFld (fCREDITS .mdc 0) 0).mcredit false = false)) ∧
    (gOn.flag F.MDC_CTRL_EN = true ∧ gOn.flag F.MDC_INJECT_ARM = false ∧ gOn.mdc.failed.contains (mset 9) = false ∧ gOn.mdc.flips = [] ∧ gOn.mblocked 9 = false ∧ gOn.mfillOf 9 = none ∧
      gUncor = .uncorrectable 0 0 ∧ sramRead {} = .ok ∧ (gOn.inMdc fun m => { m with failed := [mset 9] }).mdc.failed.contains (mset 9) = true ∧
      (gOn.inMdc fun m => { m with waiting := [⟨1, false, 9, none⟩] }).mblocked 9 = true ∧ (gOn.setFld F.MDC_CTRL_EN 0).flag F.MDC_CTRL_EN = false ∧
      (gOn.inMdc fun m => { m with fills := [gFill] }).mfillOf 9 = some gFill) ∧
    (gHit.live 4 = true ∧ gHit.flag F.MDC_STAT_READY = true ∧ gHit.mblocked 9 = false ∧ gHit.mfillOf 9 = none ∧ gHit.mway 9 = some 2 ∧ gHit.mline (mset 9) 2 = some gLine ∧
      gLine.poison = false ∧ { gLine with poison := true }.poison = true ∧ (1 : BitVec 128) ≠ 0 ∧ (List.replicate 128 (7 : BitVec 8)).length = 128) ∧
    (gOn.mway 9 = none ∧ sramRead {} = .ok ∧ gOn.mdc.fills.length < 64 ∧ 64 ≤ (gOn.inMdc fun m => { m with fills := (List.range 64).map fun i => { gFill with id := i, line := 100 + i } }).mdc.fills.length ∧
      (gOn.mclaim (mset 9) 13).1 = .way 0 ∧ ((gOn.setFld F.MDC_WAYS_ALLOC 0).mclaim (mset 9) 13).1 = .none ∧
      ((List.range 12).filter fun w => gOn.meligible (mset 9) w).find? (fun w => (gOn.mline (mset 9) w).isNone) = some 0) ∧
    (gLand.live 4 = true ∧ (gLand.buf.resps.find? fun x => decide (x.client = 7)) = some ⟨7, 4, false, List.replicate 128 3, none⟩ ∧
      (gLand.mdc.fills.find? fun x => decide (x.id = 4)) = some gFill ∧ gLand.mdc.failed.contains (mset gFill.line) = false ∧ gLand.flag F.MDC_INJECT_ARM = false ∧
      gLand.mdc.flips = [] ∧ gLand.mdc.mop = none ∧ gLand.mdc.waiting = [] ∧ gFill.reqs = [⟨5, false, 9, none⟩] ∧ (({} : Dev).buf.resps.find? fun x => decide (x.client = 7)) = none ∧ (9 : Nat) = gFill.line) := by and_intros <;> decide +kernel

def gMop (n : Nat) : Dev := gOn.setFld F.MDC_MOP_CNT_CNT n
def gEnd : Dev := gOn.inMdc fun m => { m with mop := some ⟨2, 0, 4, 4, []⟩ }

theorem wit_maintenanceOperationsRunAndEnd :
    ((gOn.setFld F.MDC_MOP_STAT_BUSY 1).live 4 = true ∧ (gOn.setFld F.MDC_MOP_STAT_BUSY 1).flag F.MDC_MOP_STAT_BUSY = true) ∧
    ((gMop 0).flag F.MDC_MOP_STAT_BUSY = false ∧ (gMop 0).fld F.MDC_MOP_CNT_CNT = 0) ∧
    ((gMop 4).flag F.MDC_MOP_STAT_BUSY = false ∧ (gMop 4).fld F.MDC_MOP_CNT_CNT ≠ 0 ∧ (gMop 4).fld F.MDC_MOP_ADDR_LINE + (gMop 4).fld F.MDC_MOP_CNT_CNT ≤ (gMop 4).mcap ∧
      (gMop 4).flag F.MDC_CTRL_EN = true ∧ (5 : Nat) ≤ 5 ∧ (0 : Nat) < 5) ∧
    (gEnd.live 4 = true ∧ gEnd.mdc.mop = some ⟨2, 0, 4, 4, []⟩ ∧ 0 + 4 ≤ 4 ∧ (2 : Nat) ≠ 0 ∧ gOn.mdc.mop = none ∧ (gOn.setFld F.MDC_CTRL_EN 0).flag F.MDC_CTRL_EN = false) := by and_intros <;> decide +kernel

/-- A post of 4 lines on channel 3. -/
def gPost : Bytes := List.replicate 16 0 ++ [4, 0, 0, 0] ++ List.replicate 12 0 ++ [3] ++ List.replicate 7 0
def gCh (e : Nat) : Dev := dv [(F.DMA_C_CFG_OWNER 3, 2), (F.DMA_C_CFG_EN 3, 1), (F.DMA_C_CFG_ENGINE 3, e), (F.DMA_C_CFG_BURST 3, 4), (F.DMA_STAGE_RD_FLITS, 16), (F.DMA_C_STAT_HALTED 3, 0)]
def gRun : DRun := { idx := 0, desc := { lines := 4 } }
def gIssue : Dev := (gCh 0).inDma fun x => { x with chans := Tab.set (fun _ => {}) [] 3 { runs := [gRun] } }
def gBurst (sent : Bool) : Burst := { id := 0, ch := 3, idx := 0, first := 0, n := 1, flits := 1, sent := sent }
def gData (e : Nat) (sent : Bool) (client : Nat) : Dev :=
  ((gCh e).inDma fun x => { x with chans := Tab.set (fun _ => {}) [] 3 { runs := [gRun] }, bursts := [gBurst sent] }).inBuf fun b =>
    { b with resps := [⟨client, 0, false, List.replicate 128 3, none⟩] }
def gBell : Dev := dv [(F.DMA_C_CFG_EN 60, 1), (F.DMA_DIAG_UNLOCKED, 1), (F.DMA_C_STAT_HALTED 60, 0)]
def gFetch : Dev := gBell.inDma fun x => { x with chans := Tab.set (fun _ => {}) [] 60 { fetching := true } }

def gQuit : Dev := (gCh 0).inDma fun x => { x with chans := Tab.set (fun _ => {}) [] 3 { runs := [{ gRun with desc := { lines := 4, quit := true } }] } }

theorem wit_dmaPostsIssuesAndDelivers :
    ((gCh 0).live 1 = true ∧ 3 = leAt gPost 32 1 % 64 ∧ (gCh 0).canSend .dma 2 = true ∧ ((gCh 0).setPool .dma 2 { held := 0 }).canSend .dma 2 = false ∧ (gCh 0).fld (F.DMA_C_CFG_OWNER 3) = (2 : Fin 8).val ∧
      (gCh 0).flag (F.DMA_C_CFG_EN 3) = true ∧ ((gCh 0).slotDesc 3 ((gCh 0).fld (F.DMA_C_TAIL_TAIL 3))).own = false ∧ (gCh 0).fld (F.DMA_C_CFG_OWNER 3) ≠ (4 : Fin 8).val ∧
      ((gCh 0).setFld (F.DMA_C_CFG_EN 3) 0).flag (F.DMA_C_CFG_EN 3) = false) ∧
    (gIssue.live 1 = true ∧ gIssue.rng.tjobs = [] ∧ gIssue.rng.reads = [] ∧ rrFirst (fun x => gIssue.dmaMay 0 x) 64 64 gIssue.dma.rr0 = some 3 ∧
      gIssue.dmaNext 3 = some (gRun, false) ∧ gIssue.dmaEnds 0 3 gRun = none ∧ rrFirst (fun x => gQuit.dmaMay 0 x) 64 64 gQuit.dma.rr0 = some 3 ∧ (gQuit.dmaEnds 0 3 { gRun with desc := { lines := 4, quit := true } }).isSome = true ∧
      rrFirst (fun x => (gIssue.setFld F.DMA_STAGE_RD_FLITS 0).dmaMay 0 x) 64 64 0 = none ∧ (gIssue.setFld F.DMA_STAGE_RD_FLITS 0).stageWaits 0 = true ∧ ({} : Dev).stageWaits 0 = false) ∧
    ((gData 0 false 2).live 1 = true ∧ (gData 0 false 2).flag F.DMA_INJECT_ARM = false ∧ sramRead {} = .ok ∧
      (gData 0 false 2).buf.resps.find? (fun x => decide (x.client = 2)) = some ⟨2, 0, false, List.replicate 128 3, none⟩ ∧
      ((gData 0 false 2).dma.bursts.find? fun b => decide (b.id = 0)) = some (gBurst false) ∧ (gBurst false).dead = false ∧
      ((gData 0 false 2).dma.bursts.find? fun y => y.ch == 3 && !y.sent && !y.dead) = some (gBurst false) ∧ (gBurst false).parts = [] ∧
      (List.replicate 128 (3 : BitVec 8)).length = 128 * (gBurst false).n ∧ (gData 0 false 2).fld (F.DMA_C_CFG_ENGINE 3) = 0 ∧
      (((gData 0 false 2).dch 3).runs.find? fun r => decide (r.idx = 0)) = some gRun ∧ (gData 0 false 2).burstGoes (gBurst false) = true ∧
      ((gData 0 false 2).setFld (fCREDITS .hst 4) 0).burstGoes (gBurst false) = false) ∧
    (((gData 0 true 3).dma.bursts.find? fun b => b.sent && decide ((gData 0 true 3).fld (F.DMA_C_CFG_ENGINE b.ch) = 0)) = some (gBurst true) ∧
      (gData 1 true 3).buf.resps.find? (fun x => decide (x.client = 3)) = some ⟨3, 0, false, List.replicate 128 3, none⟩ ∧
      ((gData 1 true 3).dma.bursts.find? fun b => decide (b.id = 0)) = some (gBurst true) ∧ (gData 1 true 3).fld (F.DMA_C_CFG_ENGINE 3) = 1) ∧
    (gBell.live 1 = true ∧ (gBell.dch 60).runs = [] ∧ (gIssue.dch 3).runs = [gRun] ∧ ((gData 0 true 3).dma.bursts.any fun b => b.ch == 3 && b.idx == gRun.idx && !b.dead) = true ∧ (3 : Fin 64).val < 56 ∧
      56 ≤ (60 : Fin 64).val ∧ gBell.flag (F.DMA_C_CFG_EN 60) = true ∧ gBell.flag F.DMA_DIAG_UNLOCKED = true ∧ gBell.flag (F.DMA_C_STAT_HALTED 60) = false ∧ (gBell.dch 60).fetching = false) ∧
    (gFetch.live 1 = true ∧ (gFetch.dch 60).fetching = true ∧ (descOf (List.replicate 31 0 ++ [0x80])).own = true ∧ (gFetch.dch 60).stopping = false ∧ gFetch.flag (F.DMA_C_STAT_HALTED 60) = false ∧
      gFetch.flag F.DMA_DIAG_UNLOCKED = true ∧ (descOf (List.replicate 32 0)).own = false) := by and_intros <;> decide +kernel

/-! ## Premises: host transport -/

def hSq : SqS := { base := 0, size := 8, head := 0, tail := 2, cqid := 1 }
def hCq : CqS := { base := 0, size := 8, head := 0, tail := 2 }
/-- A ready controller with queue pair 1, and a credit of its CSQ. -/
def hOn : Dev := (({} : Dev).inC0 fun c => { c with rdy := true, sqs := Tab.set (fun _ => none) [] 1 (some hSq), cqs := Tab.set (fun _ => none) [] 1 (some hCq) }).setPool .seq (csqOf 1) { held := 3 }
def hCpl : Cpl := { tag := tg, st := stOk }
def hPost : Dev := hOn.inHst fun h => { h with post := [hCpl] }
def hFull : Dev := hPost.inC0 fun c => { c with cqs := Tab.set (fun _ => none) [] 1 (some { hCq with head := 3 }) }
def hMi (m : Bytes) : Dev := ((dv [(F.HST_MI_BMC_EN, 1)]).setPool .seq 0 { held := 1 }).inHst fun h => { h with mi := [m] }
def hCoal : Dev := hOn.inC0 fun c => { c with msixOn := true, coalTime := 5, coal := Tab.set (fun _ => {}) [] 0 { held := 1, opened := 0 } }

theorem wit_queuesTakeDoorbellsAndEntries :
    (hOn.live 1 = true ∧ hOn.hasCtrl 0 = true ∧ (hOn.ctrl 0).rdy = true ∧ (hOn.ctrl 0).sq 7 = none ∧ (hOn.ctrl 0).sq 1 = some hSq ∧ (3 : BitVec 16).toNat < hSq.size ∧
      hSq.size ≤ (8 : BitVec 16).toNat ∧ (hOn.ctrl 0).cq 7 = none ∧ (hOn.ctrl 0).cq 1 = some hCq ∧ (1 : BitVec 16).toNat < hCq.size ∧
      (1 + hCq.size - hCq.head) % hCq.size ≤ (hCq.tail + hCq.size - hCq.head) % hCq.size ∧
      (hCq.tail + hCq.size - hCq.head) % hCq.size < (5 + hCq.size - hCq.head) % hCq.size) ∧
    (rrFirst (hOn.sqReady 0) 130 130 (hOn.ctrl 0).rrSq = some 1 ∧ hSq.waiting = 2 ∧ 0 < (hOn.pool .seq (csqOf 1)).held ∧ hOn.fld (F.SEQ_SSTAT_HALTED (csqOf 1)) = 0 ∧
      (hOn.setFld (F.SEQ_SSTAT_HALTED (csqOf 1)) 1).fld (F.SEQ_SSTAT_HALTED (csqOf 1)) ≠ 0 ∧ rrFirst (({} : Dev).sqReady 0) 130 130 (({} : Dev).ctrl 0).rrSq = none) ∧
    (rrFirst ((hMi [1]).sqReady 0) 130 130 ((hMi [1]).ctrl 0).rrSq = some 129 ∧ (hMi [1]).hst.mi = [[1]] ∧ (hMi [1]).hasCtrl 0 = true ∧ (hMi [1]).fld (F.SEQ_SSTAT_HALTED 0) = 0 ∧ miOp [1] = .refused) ∧
    (hPost.live 1 = true ∧ (hPost.ctrl 0).cq 1 = some hCq ∧
      (hPost.postSent.find? fun p => decide (p.tag.ctrl = 0) && (match (hPost.ctrl 0).sq p.tag.sq with | some y => decide (y.cqid = 1) | none => false)) = some hCpl ∧
      hCpl.after = none ∧ (hCq.tail + 1) % hCq.size ≠ hCq.head ∧ (hFull.ctrl 0).cq 1 = some { hCq with head := 3 } ∧ (hCq.tail + 1) % hCq.size = 3) ∧
    (hCoal.live 1 = true ∧ ((hCoal.ctrl 0).coal.get (fun _ => {}) 0).held ≠ 0 ∧ hCoal.now < 0 + 100000 * (hCoal.ctrl 0).coalTime ∧
      0 + 100000 * (hCoal.ctrl 0).coalTime ≤ (hCoal.atTime 500000).now ∧ (hCoal.ctrl 0).msixOn = true) := by and_intros <;> decide +kernel

def hRead : HRead := { id := 2, burst := none, ch := 60, port := 0, addr := 0, len := 32, since := 0 }
def hReads : Dev := ({} : Dev).inHst fun h => { h with reads := [hRead] }
def hBurst : Dev := (({} : Dev).inHst fun h => { h with reads := [{ hRead with burst := some 0, ch := 3, len := 128 }] }).inDma fun x => { x with bursts := [gBurst false] }
def hUp : Dev := dv [(F.HST_PSTAT_DL_UP 0, 1)]
def hOpen : Dev := dv [(F.DMA_DIAG_UNLOCKED, 1)]

theorem wit_hostReadsLinksAndSideBand :
    (hReads.live 1 = true ∧ (hReads.hst.reads.find? fun r => decide (r.id = 2)) = some hRead ∧ hReads.flag F.DMA_INJECT_ARM = false ∧
      hRead.len ≤ (List.replicate 32 (0 : BitVec 8)).length ∧ hRead.burst = none ∧
      (hBurst.dma.bursts.find? fun x => decide (x.id = 0)) = some (gBurst false) ∧ (gBurst false).dead = false ∧ { gBurst false with dead := true }.dead = true) ∧
    (({} : Dev).live 1 = true ∧ ({} : Dev).hasCtrl 0 = true) ∧
    (({} : Dev).live 5 = true ∧ (({} : Dev).ctrl 0).perst = false ∧ hUp.flag (F.HST_PSTAT_DL_UP 0) = true ∧ hUp.flag (F.HST_PSTAT_FAILED 0) = false ∧
      (5 : BitVec 32).toNat < 1000 * hUp.fld F.HST_LINK_RECOV_MS) ∧
    ((hMi []).live 1 = true ∧ 4224 < (List.replicate 4225 (0 : BitVec 8)).length ∧ ([1] : Bytes).length ≤ 4224 ∧ (hMi []).flag F.HST_MI_BMC_EN = true ∧ (({} : Dev).setFld F.HST_MI_BMC_EN 0).flag F.HST_MI_BMC_EN = false) ∧
    (hOpen.live 5 = true ∧ ({} : Dev).flag F.DMA_DIAG_UNLOCKED = false ∧ hOpen.flag F.DMA_DIAG_UNLOCKED = true ∧ hOpen.canSend .fab 1 = true ∧ (hOpen.setPool .fab 1 { held := 0 }).canSend .fab 1 = false ∧
      locate 1 = none ∧ locate (BitVec.ofNat 28 0x0B000000).toNat ≠ none ∧ (3 : Nat) ≠ 4 ∧
      (hOpen.readWord (BitVec.ofNat 28 0x0B000000).toNat).isSome = true) := by and_intros <;> decide +kernel

def hCC : Word := BitVec.ofNat 32 0x460061
def hKey : Dev := ((dv [(F.HST_CTRL_DIAG_ALLOW, 1)]).inHst fun h => { h with challenge := some ⟨[], 0⟩ }).putLoad fun l => { l with diagKey := some [1] }

theorem wit_controllersEnableResetAndUnlock :
    ((({} : Dev).live 1 = true ∧ ({} : Dev).hasCtrl 0 = true ∧ (({} : Dev).ctrl 0).rdy = false ∧ hCC.toNat.testBit 0 = true ∧ getBits hCC 4 3 = 6 ∧ getBits hCC 16 4 = 6 ∧ getBits hCC 20 4 = 4 ∧
      (1 : Word).toNat.testBit 0 = true ∧ getBits 1 4 3 ≠ 6 ∧ (hOn.ctrl 0).rdy = true ∧ ({ ({} : Dev) with v := true } : Dev).hasCtrl 1 = false) ∧
    ((({} : Dev).ctrl 0).shst = 0 ∧ ({} : Dev).zne.cache = [] ∧ (({} : Dev).inZne fun z => { z with cache := [⟨1, 0, 0, 0, 0, false, true, 0, false, none⟩] }).zne.cache ≠ []) ∧
    (hKey.live 1 = true ∧ hKey.load.minimal = false ∧ hKey.hst.challenge = some ⟨[], 0⟩ ∧ hKey.load.diagKey = some [1] ∧ hKey.flag F.HST_CTRL_DIAG_ALLOW = true ∧
      hKey.now < 0 + 10000000000 ∧ hKey.hst.diagFails < 4 ∧ ({} : Dev).hst.challenge = none)) ∧ (hmac [1] []).take 32 = hmac [1] [] :=
  ⟨by and_intros <;> decide +kernel, by simp [hmac, leBytes]⟩

/-! ## Premises: admin commands -/

theorem wit_queuesAreCreatedAndDeleted :
    (hOn.live 1 = true ∧ (129 : BitVec 16).toNat > 128 ∧ ((hOn.ctrl 0).sq 1).isSome = true ∧ (hOn.ctrl 0).sq 2 = none ∧ (1 : BitVec 16).toNat ≠ 0 ∧ ((hOn.ctrl 0).cq 1).isSome = true ∧
      (4095 : BitVec 16).toNat ≤ 4095 ∧ 4095 < (4096 : BitVec 16).toNat ∧ (hOn.ctrl 0).cq 2 = none ∧ 128 < (129 : BitVec 16).toNat ∧ (128 : BitVec 16).toNat ≤ 128) ∧
    ((∃ y, (hOn.ctrl 0).sq 1 = some y ∧ y.cqid = 1)) ∧
    ((hOn.inC0 fun c => { c with sqs := [] }).ctrl 0).sqs = [] ∧ (((hOn.inC0 fun c => { c with sqs := [] }).ctrl 0).cq 1).isSome = true ∧ hOn.load.minimal = false := by
  refine ⟨?_, ⟨hSq, ?_⟩, ?_⟩ <;> and_intros <;> decide +kernel

theorem wit_identifyAndLogPagesAreReturned :
    ({} : Dev).live 1 = true ∧ (0 : BitVec 64).toNat ≤ (errPage (({} : Dev).ctrl 0)).length ∧ (errPage (({} : Dev).ctrl 0)).length < (BitVec.ofNat 64 (2 ^ 40)).toNat ∧
      (0 : BitVec 64).toNat ≤ (nsList (({} : Dev).ctrl 0).changed 0).length ∧ (0 : BitVec 64).toNat ≤ ((({} : Dev).zne.recov.take 8192).flatMap wpBytes).length ∧
      (0xFFFFFFFF : Word).toNat = 0xFFFFFFFF ∧ 3 ≤ (512 : Word).toNat ∧ (1 : Word).toNat ≠ 0 ∧ (1 : Word).toNat ≠ 0xFFFFFFFF ∧ 1 < (2 : Byte).toNat ∧
      (({} : Dev).identify 0 0x02 0 0 0).1.1 = stOk ∧ (({} : Dev).identify 0 0x55 0 0 0).1.1 ≠ stOk ∧ (0x55 : Byte).toNat ∉ [0x00, 0x01, 0x02, 0x03, 0x05, 0x06, 0x07, 0x08, 0x10, 0x11, 0x12, 0x13, 0x1C] ∧ ({} : Dev).v = false := by
  and_intros <;> decide +kernel

def iCmd : CmdRec := { tag := tg, kind := .admin }

theorem wit_featuresAreSetAndRead :
    (hOn.live 1 = true ∧ ((hOn.ctrl 0).sqs.any (fun p => p.1 != 0) || (hOn.ctrl 0).cqs.any (fun p => p.1 != 0)) = true ∧
      ((({} : Dev).ctrl 0).sqs.any (fun p => p.1 != 0) || (({} : Dev).ctrl 0).cqs.any (fun p => p.1 != 0)) = false) ∧
    (getBits 0 16 4 = 0 ∧ getBits 0 20 2 = 0 ∧ getBits 0x100000 20 2 = 1 ∧ 1 < getBits 0x200000 20 2 ∧ getBits 0x100000 16 4 = 0 ∧ getBits 0x200000 16 4 = 0) ∧
    (getBits 0xFFFEFFFE 0 16 ≠ 65535 ∧ getBits 0xFFFEFFFE 16 16 ≠ 65535 ∧ getBits 0x10080 0 16 ≤ 128 ∧ getBits 0x200 0 9 = 0 ∧ getBits 1 0 9 ≠ 0) ∧
    (getBits 0x80000001 0 16 ≠ 0 ∧ (hOn.ctrl 0).sq (getBits 0x80000001 0 16) = some hSq ∧ 4 < getBits 5 0 5 ∧ getBits 4 0 5 ≤ 4) ∧
    (hOn.feature 0 1 0 = some 3 ∧ hOn.feature 0 0x55 0 = none ∧ (1 : Fin 8) ≠ 0 ∧ ∀ c, hOn.cmd? tg = some c → c.silent = false) := by
  and_intros <;> decide +kernel

def iTg : Tag := ⟨0, 1, 9⟩
def iAb (k : CmdKind) (com : Bool) : Dev := { ({} : Dev) with cmds := [{ tag := iTg, kind := k, committed := com }, { iCmd with started := 1 }] }
def iFour : Dev := ({} : Dev).inHst fun h => { h with post := List.replicate 4 { tag := tg, st := stOk, after := some iTg } }

theorem wit_eventRequestsAndAborts :
    (8 ≤ ((({} : Dev).inC0 fun c => { c with aers := List.replicate 8 tg }).ctrl 0).aers.length ∧ (({} : Dev).ctrl 0).aers.length < 8 ∧ (({} : Dev).ctrl 0).aens = [] ∧
      ((({} : Dev).inC0 fun c => { c with aens := [⟨0, 0, 1⟩] }).ctrl 0).aens = [⟨0, 0, 1⟩]) ∧
    ((iAb .flush true).live 1 = true ∧ (iAb .flush true).load.minimal = false ∧ ((iAb .flush true).hst.post.filter fun p => decide (p.tag.ctrl = 0) && p.after.isSome).length < 4 ∧
      4 ≤ (iFour.hst.post.filter fun p => decide (p.tag.ctrl = 0) && p.after.isSome).length ∧ iTg ≠ tg ∧
      ((iAb (.write false) true).cmd? iTg).any (fun c => c.isCommitted && !c.silent) = true ∧
      ((iAb .fetched false).cmd? iTg).any (fun c => !c.isCommitted && !c.silent) = true ∧ ({} : Dev).cmd? iTg = none ∧
      iFour.cmd? tg = none ∧ (iFour.hst.post.any fun p => decide (p.tag = tg)) = true ∧ (∀ p ∈ ({} : Dev).hst.post, p.tag ≠ iTg) ∧ ((iAb .fetched false).cmd? iTg).any (fun c => decide (c.desc = 0)) = true) := by and_intros <;> decide +kernel

/-! ## Premises: namespaces, keys, firmware, logbook -/

def jFmt : Format := { hdr := ⟨100, 1, 1000, 0, 0, [1000, 1000, 1000, 1000, 1000, 1000, 1000, 1000, 1000, 1000]⟩, bands := [⟨0, 70000, 0, 0, 0, 0, 0⟩], stag := [], skip := [] }
def jReg : Region := ⟨0, 1, 1, 10, 2, 65536, true⟩
def jNs : Ns := { nsid := 1, reg := jReg, ctx := 0, zones := 2, key := .ready }
/-- An actuator that is up with a format, and one encrypted namespace. -/
def jOn : Dev := ((dv [(F.WRP_STAT_AL_UP, 1), (F.ACT_STAT_UP, 1)]).putLoad fun l => { l with fmt0 := some jFmt }).inZne fun z => { z with nss := [jNs] }
def jReady : Dev := jOn.inC0 fun c => { c with layout := some { jReg with g := 0 } }
def jBusy : Dev := { jOn with cmds := [{ tag := ⟨0, 1, 9⟩, kind := .read, nsid := 1 }] }

theorem wit_layoutOnAnAbsentActuatorFails :
    ({ ({} : Dev) with v := true } : Dev).live 1 = true ∧ ({ ({} : Dev) with v := true } : Dev).load.minimal = false ∧ (1 : Word).toNat.testBit 0 = true := by and_intros <;> decide +kernel

theorem wit_namespacesAreMadeAttachedAndDeleted :
    (jOn.live 1 = true ∧ jOn.load.minimal = false ∧ jOn.layoutCheck 0 (regionOf 0 0 2) = none ∧ (jOn.layoutCheck 1 (regionOf 1 0 2)).isSome = true ∧
      ({ jOn with v := true } : Dev).v = true ∧ (regionOf 1 0 2).a = 1) ∧
    ((jOn.ctrl 0).layout = none ∧ (jReady.ctrl 0).layout = some { jReg with g := 0 } ∧ ((List.range 65).find? fun i => decide (1 ≤ i) && (jReady.ns? i).isNone) = some 2 ∧
      (jReady.freeContexts (jReady.zonesIn { jReg with g := 0 })).isSome = true ∧ jReady.zne.nss.all (fun n => !regionsMeet { jReg with g := 0 } n.reg) = true) ∧
    (jOn.ns? 1 = some jNs ∧ jOn.ctrlIds [1] = some [0] ∧ jNs.leaving = none ∧ jNs.attached 0 = false ∧ ({ jNs with att0 := true } : Ns).attached 0 = true ∧
      (jOn.zne.nss.all fun m => m.leaving.isNone) = true ∧ jBusy.nsBusy 1 tg = true ∧ jOn.nsBusy 1 tg = false ∧ jOn.ns? 2 = none) := by and_intros <;> decide +kernel

theorem wit_keysAreErasedAndReported :
    jOn.live 1 = true ∧ jOn.load.minimal = false ∧ jOn.ns? 1 = some jNs ∧ ({ jNs with leaving := some tg } : Ns).leaving ≠ none ∧ jNs.key ≠ .unencrypted ∧
      (jOn.zne.nss.all fun m => m.leaving.isNone) = true ∧ jOn.nsBusy 1 tg = false ∧ jOn.ns? 2 = none := by and_intros <;> decide +kernel

/-- The header and directory of a small image (an empty mode table and a settings section's minimum); KEYHASH is 48 bytes of 7. -/
def jImg : Bytes := [0x4F, 0x58, 0x56, 0x52, 1, 0, 2, 0, 5, 0, 0, 0, 0, 2, 0, 0, 0, 0, 0, 0] ++ List.replicate 8 0x41 ++ List.replicate 48 7 ++ [4] ++ List.replicate 96 9 ++ List.replicate 83 0 ++
  [8, 0, 0, 0, 0x20, 1, 0, 0, 84, 0, 0, 0, 0, 0, 0, 0] ++ [11, 0, 0, 0, 0x80, 1, 0, 0, 4, 0, 0, 0, 0, 0, 0, 0] ++ List.replicate 224 0
/-- The flash with that image in copy 1 and nothing else. -/
def jFlash : Dev := (dv [(F.FLC_STAT_READY, 1)]).inFlc fun f =>
  { f with words := (List.range 16).map fun i => (imgBase 1 + i, FWord.prog (slice jImg (32 * i) 32)) }
def jDl : Dev := { dv [(F.FLC_STAT_READY, 1)] with dl := some { ctrl := 0, pieces := [(0, 4096)] } }

theorem wit_firmwareIsDownloadedAndCommitted :
    (({} : Dev).live 1 = true ∧ (1 : BitVec 34).toNat % 4096 ≠ 0 ∧ (0 : BitVec 34).toNat % 4096 = 0 ∧ (List.replicate 32 (1 : BitVec 8)).length % 32 = 0 ∧
      (List.replicate 32 (1 : BitVec 8)).length ≠ 0 ∧ (4096 : BitVec 34).toNat + 32 ≤ 10485728 ∧ (jDl.dl.any fun x => x.ctrl != 1) = true ∧ ({} : Dev).dl = none ∧
      ({} : Dev).flag F.FLC_STAT_EXEC = false ∧ (({} : Dev).setFld F.FLC_STAT_EXEC 1).flag F.FLC_STAT_EXEC = true) ∧
    ((4096 : BitVec 34) ≠ 0 ∧ (jDl.dl.any fun x => x.pieces.all fun p => decide (p.1 + p.2 ≤ (4096 : BitVec 34).toNat)) = true ∧ jDl.flag F.FLC_STAT_READY = true ∧
      jDl.flag F.FLC_STAT_FAILED = false ∧ jDl.flag F.FLC_STAT_EXEC = false ∧ (jDl.bank 0).suspended = false ∧ (jDl.bank 1).suspended = false ∧ jDl.flc.words = []) ∧
    (({} : Dev).commitCopy 7 = none ∧ (({} : Dev).setFld F.FAB_LOAD_COPY 1).loadedCopy = some 0 ∧ jFlash.commitCopy 2 = some 1 ∧ ({} : Dev).commitCopy 1 = some 0 ∧ ({} : Dev).commitGen 0 = none ∧
      jFlash.fword (imgAct 1) = .erased ∧ 2 < (3 : Fin 8).val) := by and_intros <;> decide +kernel

/-- No sector of an empty protection table is execute-only. -/
theorem wit_noExecuteOnlyRegion : ∀ y, jDl.xoRegion y = none := by
  intro y
  have h : ∀ i ∈ List.range 8, jDl.flag (F.FLC_XO_EN i) = false := by decide +kernel
  simp only [Dev.xoRegion, List.find?_eq_none]
  intro i hi
  simp [h i hi]

def jHdr : ImgHeader := { nsect := 2, gen := 5, length := 512, part := 0, rev := List.replicate 8 0x41, keyHash := List.replicate 48 7, pubkey := [4] ++ List.replicate 96 9 }

/-- The image above is proved on a device whose fuses hold its key hash and which accepts its signature (log entry 6: the three functions are open). -/
theorem wit_commitGen (hf : Config.fuseHash = List.replicate 48 7) (hs : ∀ b, Config.sha384 b = List.replicate 48 7) (he : ∀ k h s, Config.ecdsa k h s = true) :
    jFlash.commitGen 1 = some 5 := by
  have hh : jFlash.imgHeader 1 = some jHdr := by decide +kernel
  have hb : jFlash.imgBytes 1 0 512 = some jImg := by decide +kernel
  have hd : directoryFault jHdr (sectionsOf jImg 2) = 0 := by decide +kernel
  have hf' : formatFault false (sectionsOf jImg 2) = 0 := by decide +kernel
  have hp : jFlash.patchFault (sectionsOf jImg 2) = none := by decide +kernel
  have hx : findSec (sectionsOf jImg 2) 9 = none := by decide +kernel
  have hv : jFlash.v = false := rfl
  have hg : jFlash.fld F.FAB_LOADGEN_GEN < 5 := by decide +kernel
  have h1 : jHdr.keyHash = List.replicate 48 7 := rfl
  have h2 : jHdr.length = 512 := rfl
  have h3 : jHdr.nsect = 2 := rfl
  have h4 : jHdr.gen = 5 := rfl
  simp only [Dev.commitGen, hh, Dev.proveCopy, hf, hs, he, h1, h2, h3, h4, hb, hd, hv, hf', hp, hx, hg]
  simp

def jEv (code : Nat) : Event := { code := code, src := 0 }
def jLog (code dep tok : Nat) : Dev :=
  { dv [(F.LOG_STAT_READY, 1), (F.LOG_BUCKET_DEPTH (bucketOf code), dep), (F.LOG_BSTAT_TOKENS (bucketOf code), tok)] with log := { inq := [jEv code] } }
def jDue (sup : Nat) : Dev := (dv [(F.LOG_BUCKET_DEPTH 5, 8), (F.LOG_BSTAT_TOKENS 5, 2), (F.LOG_BUCKET_REFILL_MS 5, 1), (F.LOG_BSTAT_SUPPRESSED 5, sup)]).atTime 1000000
def jFl (l : List (RF × Nat)) : Dev := { dv l with log := { flushReq := some 1 } }

theorem wit_logbookAdmitsFlushesAndReads :
    ((jLog 0x0201 8 1).live 0 = true ∧ (jLog 0x0201 8 1).log.inq = [jEv 0x0201] ∧ (jLog 0x0201 8 1).flag F.LOG_INJECT_ARM = false ∧ (jLog 0x0201 8 1).flag F.LOG_STAT_READY = true ∧
      ({} : Dev).flag F.LOG_STAT_READY = false ∧ (jLog 0x0201 0 0).fld (F.LOG_BUCKET_DEPTH (bucketOf 0x0201)) = 0 ∧ freeCode 0x1301 = true ∧ freeCode 0x0201 = false ∧
      (jLog 0x0201 8 1).fld (F.LOG_BUCKET_DEPTH (bucketOf 0x0201)) ≠ 0 ∧ 1 ≤ (jLog 0x0201 8 1).fld (F.LOG_BSTAT_TOKENS (bucketOf 0x0201)) ∧
      (jLog 0x0201 8 0).fld (F.LOG_BSTAT_TOKENS (bucketOf 0x0201)) = 0 ∧ (jLog 0x0201 8 1).poolOpen .log 0 = true ∧
      ((jLog 0x0201 8 1).setFld (fFENCED .log 0) 1).poolOpen .log 0 = false ∧ sramRead {} = .ok ∧ (jLog 0x0201 8 1).log.opened = none) ∧
    ((jDue 0).live 0 = true ∧ (jDue 0).fld (F.LOG_BSTAT_TOKENS 5) < (jDue 0).fld (F.LOG_BUCKET_DEPTH 5) ∧
      ((jDue 0).bucket 5).clock + (jDue 0).fld (F.LOG_BUCKET_REFILL_MS 5) * 1000000 ≤ (jDue 0).now ∧ (jDue 0).fld (F.LOG_BSTAT_SUPPRESSED 5) = 0 ∧ (jDue 3).fld (F.LOG_BSTAT_SUPPRESSED 5) ≠ 0 ∧
      ((jDue 0).atTime 9).now < ((jDue 0).bucket 5).clock + (jDue 0).fld (F.LOG_BUCKET_REFILL_MS 5) * 1000000) ∧
    (({} : Dev).log.flushReq = none ∧ (jFl [(F.LOG_STAT_FLASH_OFF, 1)]).log.flushReq = some 1 ∧ (jFl [(F.LOG_STAT_FLASH_OFF, 1)]).flag F.LOG_STAT_FLASH_OFF = true ∧ (jFl []).flushGrantable 1 = true ∧ (jFl []).log.opened = none ∧
      (jFl []).flag F.LOG_STAT_FLASH_OFF = false ∧ (jFl [(F.FLC_STAT_READY, 1), (F.FLC_STAT_FAILED, 1)]).flag F.FLC_STAT_FAILED = true ∧
      (jFl [(F.LOG_INJECT_ARM, 1), (F.LOG_INJECT_KIND, 1)]).flag F.LOG_INJECT_ARM = true ∧ (jFl [(F.LOG_INJECT_ARM, 1), (F.LOG_INJECT_KIND, 1)]).fld F.LOG_INJECT_KIND = 1 ∧
      (jFl [(F.FLC_STAT_READY, 1)]).flag F.FLC_STAT_READY = true ∧ (jFl [(F.FLC_STAT_READY, 1)]).flag F.FLC_STAT_FAILED = false ∧ (jFl [(F.FLC_STAT_READY, 1)]).flag F.FLC_STAT_EXEC = false ∧
      (jFl [(F.FLC_STAT_READY, 1)]).flc.words = [] ∧ (jFl [(F.FLC_STAT_READY, 1)]).log.count ≤ (jFl [(F.FLC_STAT_READY, 1)]).log.flushed + 32766 ∧
      (jFl [(F.FLC_STAT_READY, 1)]).flag F.LOG_STAT_READY = false) ∧
    (({} : Dev).load.minimal = false ∧ (4 : Word).toNat / 4 ≠ 0 ∧ (1 : Word).toNat ≠ 0 ∧ (1 : Word).toNat ≤ 32768 ∧ 32 * (1 : Word).toNat ≤ 32) := by and_intros <;> decide +kernel

/-! ## Premises: I/O, zones, control space, commits -/

def kBase : Dev := ((dv [(F.BUF_STAT_READY, 1), (F.ZNE_STAT_READY, 1)]).inZne fun z => { z with nss := [{ jNs with att0 := true }] })
def kNs : Ns := { jNs with att0 := true }
def kZone (c : ZCtx) : Dev := kBase.inZne fun z => { z with ctx := Tab.set (fun _ => {}) [] 0 c }
/-- What I/O commands ask of the device (IoReady), as a test. -/
def kReady (d : Dev) : Bool :=
  d.live 1 && !d.load.minimal && decide (d.pstate < 2) && decide (d.ns? 1 = some kNs) && kNs.attached 0 && decide (kNs.key ≠ .unusable) && d.flag F.BUF_STAT_READY && d.flag F.ZNE_STAT_READY

theorem wit_ioReady (d : Dev) (h : kReady d = true) : IoReady d tg 1 kNs := by
  simp only [kReady, Bool.and_eq_true, decide_eq_true_eq, Bool.not_eq_true'] at h
  obtain ⟨⟨⟨⟨⟨⟨⟨h1, h2⟩, h3⟩, h4⟩, h5⟩, h6⟩, h7⟩, h8⟩ := h
  exact ⟨h1, h2, h3, h4, h5, h6, h7, h8⟩

def kHit : Dev := ((((kZone { cond := .implicit, wp := 5 }).inZne fun z => { z with cache := [{ nsid := 1, lba := 0, rlba := 0, addr := 0, lines := 32 }] }).setFld (F.DMA_C_CFG_OWNER 8) 1).setFld (F.DMA_C_CFG_EN 8) 1)

theorem wit_readsComeFromZerosOrMedia :
    (kReady kHit = true ∧ kHit.sourceOf kNs 0 = .cache { nsid := 1, lba := 0, rlba := 0, addr := 0, lines := 32 } ∧ 8 = kHit.freeChan (csqOf tg.sq) (8 * csqOf tg.sq) 2 4 ∧
      kHit.fld (F.DMA_C_CFG_OWNER 8) = csqOf tg.sq ∧ kHit.flag (F.DMA_C_CFG_EN 8) = true ∧ (kHit.slotDesc 8 (kHit.fld (F.DMA_C_TAIL_TAIL 8))).own = false ∧ kHit.poolOpen .dma (csqOf tg.sq) = true) ∧
    (kReady kBase = true ∧ kNs.cap < (131072 : BitVec 64).toNat + 1 ∧ (0 : BitVec 64).toNat + 1 ≤ kNs.cap ∧ segLines [(0, 31)] ≠ 32 * 1 ∧ segLines [(0, 32)] = 32 * 1) ∧
    (kBase.cached 1 0 = none ∧ (kBase.zctx 0).wp ≤ 0 % kNs.zs) ∧
    (kReady (kZone { cond := .implicit, wp := 5 }) = true ∧ (kZone { cond := .implicit, wp := 5 }).cached 1 0 = none ∧ 0 % kNs.zs < ((kZone { cond := .implicit, wp := 5 }).zctx 0).wp ∧
      ((kZone { cond := .implicit, wp := 5 }).zctx 0).finAt = none ∧ (kZone { cond := .implicit, wp := 5 }).actuatorFailed 0 = false ∧
      ((kZone { cond := .implicit, wp := 5 }).setFld F.WRP_STAT_AL_FAIL 1).actuatorFailed 0 = true) ∧
    ((kBase.setFld F.PWR_STAT_STATE 2).live 1 = true ∧ 2 ≤ (kBase.setFld F.PWR_STAT_STATE 2).pstate) := by and_intros <;> decide +kernel

def kDma (c : ZCtx) : Dev := (((kZone c).setFld (F.DMA_C_CFG_OWNER 9) 1).setFld (F.DMA_C_CFG_EN 9) 1).inC0 fun x => { x with wce := true }

theorem wit_zoneWritesCheckAndReserve :
    (kReady (kDma {}) = true ∧ (kDma {}).actuatorFailed 0 = false ∧ (kDma {}).orderedWait tg = false ∧ 0 + 1 ≤ kNs.cap ∧ (kDma {}).activeZones.length < 8192 ∧
      segLines [(0, 32)] = 32 * 1 ∧ (kDma {}).granulesFree 0 1 = true ∧ (kDma {}).granulesFree 16777216 1 = false ∧ (kDma {}).poolOpen .dma (csqOf tg.sq) = true ∧ (kDma {}).zne.cache = []) ∧
    (kNs.zs < 65535 % kNs.zs + 2 ∧ 0 % kNs.zs + 1 ≤ kNs.zs ∧ ((kDma { cond := .full, wp := 65536 }).zctx 0).cond = .full ∧ ((kDma {}).zctx 0).cond ≠ .full ∧
      8 % kNs.zs ≠ ((kDma {}).zctx 0).wp ∧ ((kDma {}).zctx 0).cond = .empty ∧ 0 % kNs.zs = ((kDma {}).zctx 0).wp ∧
      ((kDma {}).setFld F.ZNE_LIMIT_ACT_MAX 0).fld F.ZNE_LIMIT_ACT_MAX ≤ (kDma {}).activeCount ∧ (kDma {}).activeCount < (kDma {}).fld F.ZNE_LIMIT_ACT_MAX ∧ (kDma {}).cmds = []) ∧
    (((kDma {}).ctrl 0).wce = true ∧ 9 = (kDma {}).freeChan (csqOf tg.sq) (8 * csqOf tg.sq + 1) 2 4 ∧ (kDma {}).fld (F.DMA_C_CFG_OWNER 9) = csqOf tg.sq ∧
      (kDma {}).flag (F.DMA_C_CFG_EN 9) = true ∧ ((kDma {}).slotDesc 9 ((kDma {}).fld (F.DMA_C_TAIL_TAIL 9))).own = false) ∧
    (((kDma { wp := 65536, cond := .implicit }).zctx 0).wp + 1 > kNs.zs ∧ ((kDma {}).zctx 0).wp + 1 ≤ kNs.zs) := by and_intros <;> decide +kernel

def kSec : CacheSec := { nsid := 1, lba := 0, rlba := 0, addr := 0, lines := 32 }
def kCache (c : CacheSec) : Dev := (kZone { cond := .implicit, wp := 5 }).inZne fun z => { z with cache := [c] }
def kOrd : Dev := (kCache kSec).setPool .seq 6 { held := 1 }
def kRd : Dev := { (kBase.setPool .seq 6 { held := 1 }) with cmds := [{ tag := tg, kind := .read, nsid := 1, need := [secKey 1 0] }] }
def kWr : Dev := { kCache kSec with cmds := [{ tag := tg, kind := .write false, nsid := 1, nlb := 1, reserved := true }] }
def kRec : Dev := ((dv [(F.FLC_STAT_READY, 1), (F.BUF_STAT_READY, 1), (F.ZNE_STAT_READY, 0)]).putLoad fun l => { l with loaded := true })

theorem wit_flushesOrdersAndRecovery :
    (kReady kWr = true ∧ (kWr.zne.cache.all fun c => kWr.inWrite c) = true ∧ kReady (kCache kSec) = true ∧ (kCache kSec).inWrite kSec = false) ∧
    (kOrd.live 1 = true ∧ kOrd.ns? 1 = some kNs ∧ kOrd.flag (fFENCED .seq (4 + 2 * (1 : Fin 4).val + 0)) = false ∧ 0 < (kOrd.pool .seq (4 + 2 * (1 : Fin 4).val + 0)).held ∧
      kOrd.cached 1 0 = some kSec ∧ kSec.order = none ∧ kSec.held = false ∧ kOrd.cached 1 1 = none) ∧
    (kRd.live 1 = true ∧ kRd.ns? 1 = some kNs ∧ kRd.flag (fFENCED .seq 6) = false ∧ 0 < (kRd.pool .seq 6).held ∧ csqOf tg.sq = (1 : Fin 4).val ∧
      kRd.cmd? tg = some { tag := tg, kind := .read, nsid := 1, need := [secKey 1 0] } ∧ secKey 1 1 ∉ [secKey 1 0] ∧ kRd.ringAwaits 1 0 = false) ∧
    (kBase.live 4 = true ∧ kBase.mcredit true = true ∧ kBase.mcredit false = true ∧ (kBase.setFld (fCREDITS .mdc 0) 0).mcredit false = false ∧ sramRead {} = .ok ∧ 32 * kBase.fld F.ZNE_CTX_BASE_GRANULE + (0 : BitVec 18).toNat / 4 < 2 ^ 27) ∧
    (kBase.zne.jword < jlimit ∧ jlimit ≤ (kBase.inZne fun z => { z with jword := 524288 }).zne.jword ∧ kBase.flag F.ZNE_STAT_READY = true ∧ kRec.live 1 = true ∧ kRec.flag F.ZNE_STAT_READY = false ∧
      kRec.load.loaded = true ∧ kRec.flag F.FLC_STAT_READY = true ∧ kRec.live 4 = true ∧ kRec.flag F.BUF_STAT_READY = true ∧ kRec.zne.nss = []) := by and_intros <;> decide +kernel

theorem wit_zoneActionsChangeConditions :
    (kReady (kZone {}) = true ∧ kNs.cap ≤ (131072 : BitVec 64).toNat ∧ (8 : BitVec 64).toNat < kNs.cap ∧ (8 : BitVec 64).toNat % kNs.zs ≠ 0 ∧ (0 : BitVec 64).toNat % kNs.zs = 0) ∧
    (kReady (kZone { cond := .full }) = true ∧ ((kZone { cond := .full }).zctx 0).cond = .full ∧ ((kZone { cond := .implicit }).zctx 0).cond = .implicit ∧
      ((kZone { cond := .closed }).zctx 0).cond = .closed ∧ ((kZone {}).zctx 0).cond = .empty ∧
      ((kZone {}).setFld F.ZNE_LIMIT_ACT_MAX 0).fld F.ZNE_LIMIT_ACT_MAX ≤ ((kZone {}).setFld F.ZNE_LIMIT_ACT_MAX 0).activeCount ∧ (kZone {}).activeCount < (kZone {}).fld F.ZNE_LIMIT_ACT_MAX ∧
      (kZone {}).activeZones.length < 8192) ∧
    ((kZone {}).zoneKeys kNs [0] (fun _ => true) = [] ∧ (kCache kSec).zoneKeys kNs [0] (fun _ => true) ≠ [] ∧ (kCache kSec).zoneKeys kNs [0] (fun x => decide (x.lines < 32)) = [] ∧
      (kCache { kSec with lines := 3 }).zoneKeys kNs [0] (fun x => decide (x.lines < 32)) ≠ [] ∧ kReady (kCache { kSec with lines := 3 }) = true) ∧
    (7 < (8 : Byte).toNat ∧ (reportSel (1 : Byte).toNat).isSome = true) := by and_intros <;> decide +kernel

theorem wit_registerWritesFollowAccessCodes :
    (({} : Dev).live 0 = true ∧ (1 : Word).toNat % 4 ≠ 0 ∧ locate (0xFFFFFFFC : Word).toNat = none ∧ locate (0x0A000000 : Word).toNat = some (.log, 0) ∧
      (({} : Dev).inPwr fun p => { p with kennel := false }).live (blkDom .log) = false ∧ ({} : Dev).live (blkDom .log) = true) ∧
    (F.BUF_VCLR_FIRST_FIRST.a % 4 = 0 ∧ ((locate F.BUF_VCLR_FIRST_FIRST.a).any fun p => ({} : Dev).live (blkDom p.1) && (({} : Dev).special p.1 p.2 4 0).isNone) = true ∧
      4 &&& (accOf false F.BUF_VCLR_FIRST_FIRST.a).res = 0 ∧ (accOf false F.BUF_VCLR_FIRST_FIRST.a).ws = 0) ∧
    (F.ZNE_LIMIT_ACT_MAX.a % 4 = 0 ∧ ((locate F.ZNE_LIMIT_ACT_MAX.a).any fun p => ({} : Dev).live (blkDom p.1) && (({} : Dev).special p.1 p.2 4 0).isNone) = true ∧
      4 &&& (accOf false F.ZNE_LIMIT_ACT_MAX.a).res = 0 ∧ (accOf false F.ZNE_LIMIT_ACT_MAX.a).ws ≠ 0) ∧
    (({} : Dev).load.minimal = false ∧ ({} : Dev).readWord 0xFFFFFFFC = none ∧ (({} : Dev).readWord 0x0B000000).isSome = true ∧
      (({} : Dev).controlWrite F.BUF_VCLR_FIRST_FIRST.a 4 9).2 = false) := by and_intros <;> decide +kernel

def kDom (c : Nat) : Dev := dv [(F.FAB_CDOM_CLASSES 0, 1 <<< (c - 1))]

theorem wit_commitsApplyAllOrNothing :
    (blkAbsent true (.ch 15) = true ∧ ({ ({} : Dev) with v := true } : Dev).live (blkDom (.ch 15)) = true ∧ blkAbsent false .hst = false ∧ (Blk.hst) ≠ .ece ∧ ({} : Dev).live (blkDom .hst) = true ∧
      (({} : Dev).setFld (fCBUSY .hst) 1).flag (fCBUSY .hst) = true ∧ ({} : Dev).flag (fCBUSY .hst) = false ∧ ({} : Dev).failingRule .hst = 0 ∧ ({} : Dev).failingRule .srv ≠ 0 ∧
      ({} : Dev).live (blkDom .srv) = true ∧ ({} : Dev).flag (fCBUSY .srv) = false ∧ blkAbsent false .srv = false ∧ Blk.hst ∉ [Blk.srv, .spn, .mdc, .pwr, .knl, .rng, .log]) ∧
    (({} : Dev).live 1 = true ∧ (({} : Dev).setFld F.FAB_CDSTAT_BUSY 1).flag F.FAB_CDSTAT_BUSY = true ∧ (kDom (blkCls .srv)).flag F.FAB_CDSTAT_BUSY = false ∧
      ((kDom (blkCls .srv)).domainOf 0).any (fun b => (kDom (blkCls .srv)).failingRule b != 0) = true ∧
      ((kDom (blkCls .hst)).domainOf 0).all (fun b => (kDom (blkCls .hst)).failingRule b == 0) = true) ∧
    ((0x80000800 : Word).toNat.testBit 31 = true ∧ 8 ≤ bitsAt (0x80000800 : Word).toNat 8 8 ∧ bitsAt (0x80000000 : Word).toNat 8 8 < 8 ∧
      (BitVec.ofNat 32 (blkCls .hst)).toNat % 256 = blkCls .hst ∧ (BitVec.ofNat 32 (blkCls .hst)).toNat.testBit 31 = false) := by and_intros <;> decide +kernel

/-! ## Premises: the ring -/

/-- A device with its ring ports' supply on, in a state of its east port, with some fields set. -/
def lDev (e : Nat) (l : List (RF × Nat)) (x : RPort) : Dev :=
  (dv ([(F.PWR_STAT_ON, 0x1FF), (F.RNG_PSTAT_PSTATE 0, e), (F.RNG_CTRL_EAST_EN, 1)] ++ l)).inRng fun r => { r with p0 := x }
def lRetry : Retry := { f := { ftype := 0x10, seq := 4 }, sentAt := 0 }

theorem wit_ringIdle (e : Nat) (l : List (RF × Nat)) (x : RPort) (h : x.txq = [] ∧ x.fcntTx < 2 ^ 47 ∧ x.fcntRx < 2 ^ 47)
    (hr : (dv ([(F.PWR_STAT_ON, 0x1FF), (F.RNG_PSTAT_PSTATE 0, e), (F.RNG_CTRL_EAST_EN, 1)] ++ l)).rng = {}) : RingIdle (lDev e l x) := by
  have h2 : (lDev e l x).rng = { p0 := x } := by simp only [lDev, Dev.inRng, hr]
  refine ⟨by rw [h2], by rw [h2], fun p => ?_⟩
  simp only [Dev.rport, h2]
  split
  · exact h
  · exact ⟨rfl, by decide, by decide⟩

/-- An idle frame as its lanes carry it. -/
def lBody : Bytes := leBytes 1 1 ++ List.replicate 27 0
def lWhole : Bytes := lBody ++ leBytes 4 (crc32 lBody)
def lLane (k : Nat) : Bytes := (List.range 16).map fun i => lWhole.getD (2 * i + k) 0

theorem wit_ringPortsTrainAndKeepFrames :
    ((lDev 3 [] {}).live 1 = true ∧ RingIdle (lDev 3 [] {}) ∧ (lDev 3 [] {}).rstate 0 = 3 ∧ (lDev 0 [] {}).rstate 0 ≠ 3) ∧
    ((lDev 1 [] { good := 1024 }).live 6 = true ∧ (lDev 1 [] { good := 1024 }).rstate 0 ≤ 1 ∧ (lDev 1 [] { good := 1024 }).ringEnabled 0 = true ∧ ((lDev 1 [] { good := 1024 }).rport 0).backoff = none ∧
      ((lDev 1 [] { good := 1024 }).rport 0).offAt = none ∧ 1024 ≤ ((lDev 1 [] { good := 1024 }).rport 0).good ∧ (20 : BitVec 8).toNat ≤ 20 ∧
      ({ (lDev 1 [] {}) with sec := { ringKey := some [1] } } : Dev).sec.ringKey.isSome = true ∧ (lDev 1 [] {}).sec.ringKey = none ∧ (lDev 1 [(F.RNG_CTRL_EAST_EN, 0)] {}).ringEnabled 0 = false) ∧
    ((lDev 1 [] {}).linkUp 0 = false ∧ (lDev 3 [] {}).linkUp 0 = true ∧ ((lDev 3 [] { owe := true }).rport 0).owe = true ∧ ((lDev 3 [] {}).rport 0).owe = false ∧
      frameGood (joinLanes 0 (lLane 0) (lLane 1)) = true ∧ frameGood (joinLanes 1 (lLane 0) (lLane 1)) = false) ∧
    ((((lDev 3 [(F.RNG_LINK_RETRY_LIM, 0)] { retry := [lRetry] }).rport 0).retry.any fun r => decide ((lDev 3 [(F.RNG_LINK_RETRY_LIM, 0)] {}).fld F.RNG_LINK_RETRY_LIM ≤ r.resends)) = true ∧
      (((lDev 3 [] { retry := [lRetry] }).rport 0).retry.any fun r => decide ((lDev 3 [] {}).fld F.RNG_LINK_RETRY_LIM ≤ r.resends)) = false ∧
      ((lDev 3 [] { retry := [lRetry], unackedAt := some 0 }).rport 0).unackedAt = some 0 ∧ 0 + 10 * ((lDev 3 [] {}).fld F.RNG_LINK_ACK_US * 1000) ≤ ((lDev 3 [] {}).atTime 1000000000).now ∧
      2 ≤ ((lDev 3 [] { tagFails := 2 }).rport 0).tagFails) ∧
    (((lDev 4 [] { offAt := some 0 }).rport 0).offAt = some 0 ∧ (lDev 4 [] { offAt := some 0 }).rstate 0 = 4 ∧ 0 + 1000000 ≤ ((lDev 4 [] { offAt := some 0 }).atTime 1000000).now ∧
      (lDev 4 [] { offAt := some 0 }).now < 0 + 1000000) ∧
    (((lDev 2 [] { joinAt := some 0 }).rport 0).joinAt = some 0 ∧ (lDev 2 [] { joinAt := some 0 }).rstate 0 = 2 ∧ ((lDev 0 [] { backoff := some 5 }).rport 0).backoff = some 5 ∧
      (lDev 0 [] { backoff := some 5 }).now < 5 ∧ 5 ≤ ((lDev 0 [] { backoff := some 5 }).atTime 5).now) := by
  refine ⟨⟨by decide +kernel, wit_ringIdle _ _ _ (by decide) (by decide +kernel), by decide +kernel, by decide +kernel⟩, ?_⟩
  and_intros <;> decide +kernel

theorem wit_serialLength : ownSerial.length = 20 := by simp [ownSerial]

/-- A serial number that is not this drive's. -/
def lOther : Bytes := if ownSerial = List.replicate 20 0 then List.replicate 20 1 else List.replicate 20 0

theorem wit_otherSerial : lOther ≠ ownSerial ∧ slice (lOther ++ leBytes 4 0) 0 20 = lOther ∧ leAt (lOther ++ leBytes 4 0) 20 4 = 0 := by
  unfold lOther
  split
  · rename_i h; rw [h]; and_intros <;> decide
  · rename_i h; exact ⟨fun e => h e.symm, by decide, by decide⟩

/-- A sealed frame under the port's key. -/
def lSeal (g : RFrame) : RFrame := { g with tag := frameSeal g ([], []) }
def lJoin (x : RPort) : Dev := lDev 2 [(F.RNG_STAT_NODE_ID, 3)] x
def lUp (x : RPort) : Dev := lDev 3 [(F.RNG_STAT_NODE_ID, 3), (F.RNG_STAT_TSTATE, 1)] x

theorem wit_ringNext (d : Dev) (f : RFrame) (h : d.live 1 = true ∧ d.live 6 = true ∧ d.linkUp 0 = true ∧ f.badCrc = false ∧ f.seq = (d.rport 0).expect ∧ (d.rport 0).held = [] ∧ f.fcnt < 2 ^ 47)
    (hs : isSealed f.ftype = false) : RingNext d 0 f :=
  ⟨h.1, h.2.1, h.2.2.1, h.2.2.2.1, h.2.2.2.2.1, h.2.2.2.2.2.1, h.2.2.2.2.2.2, fun e => by rw [hs] at e; cases e⟩

theorem wit_ringNextSealed (d : Dev) (g : RFrame) (h : d.live 1 = true ∧ d.live 6 = true ∧ d.linkUp 0 = true ∧ g.badCrc = false ∧ g.seq = (d.rport 0).expect ∧ (d.rport 0).held = [] ∧ g.fcnt < 2 ^ 47)
    (hk : (d.rport 0).keyRx = some ([], [])) : RingNext d 0 (lSeal g) :=
  ⟨h.1, h.2.1, h.2.2.1, h.2.2.2.1, h.2.2.2.2.1, h.2.2.2.2.2.1, h.2.2.2.2.2.2, fun _ => ⟨([], []), hk, rfl⟩⟩

theorem wit_joinsAuthenticateAndEnumerate :
    (RingIdle (lJoin {}) ∧ (lJoin {}).flag F.RNG_INJECT_ARM = false ∧ RingNext (lJoin {}) 0 { ftype := 0x80, body := lOther ++ leBytes 4 0 } ∧ (lJoin {}).rstate 0 = 2 ∧
      (lJoin {}).sec.ringKeyId = leAt (lOther ++ leBytes 4 0) 20 4 ∧ slice (lOther ++ leBytes 4 0) 0 20 ≠ ownSerial ∧ ((lJoin {}).rport 0).spare = 1 ∧ ((lJoin {}).rport 0).retry.length < 256 ∧
      ({ (lJoin {}) with sec := { ringKeyId := 3 } } : Dev).sec.ringKeyId ≠ leAt [] 20 4) ∧
    (∀ mac : Bytes, mac.length = 32 → RingNext (lJoin { peerNonce := [1] }) 0 { ftype := 0x81, body := mac } ∧ slice mac 0 32 = mac ∧ slice [] 0 32 ≠ mac ∧
      ((lJoin { peerNonce := [1] }).rport 0).peerNonce ≠ [] ∧ ((lJoin { peerNonce := [1] }).rport 0).macOk = false) ∧
    (RingNext (lJoin { macOk := true, keyRx := some ([], []) }) 0 (lSeal { ftype := 0x82 }) ∧ ((lJoin { macOk := true, keyRx := some ([], []) }).rport 0).macOk = true ∧ isSealed 0x91 = true) ∧
    (RingNext (lUp {}) 0 { ftype := 0x10, epoch := 9 } ∧ (lUp {}).rstate 0 = 3 ∧ newer 9 (lUp {}).epoch = true ∧ ([] : Bytes) ≠ ownSerial ∧
      RingNext (lUp {}) 0 { ftype := 0x10, body := ownSerial } ∧ 0 = (lUp {}).epoch ∧ (lUp {}).tstate = 1 ∧ (lUp {}).rng.members = []) ∧
    (RingNext (lUp {}) 0 { ftype := 0x22, dst := 5 } ∧ 5 ≠ (lUp {}).nodeId ∧ (lUp {}).rstate (opp 0) ≠ 3 ∧
      RingRoom ((lUp {}).setFld (F.RNG_PSTAT_PSTATE 1) 3 |>.inRng fun r => { r with p1 := { peerCred := [2, 2, 2, 2] } }) (opp 0) (frameClass 0x22)) ∧
    ((lUp {}).live 1 = true ∧ (lUp {}).now < (lUp {}).rng.quietAt + (lUp {}).fld F.RNG_ENUM_QUIET_US * 1000 ∧
      (lUp {}).rng.quietAt + (lUp {}).fld F.RNG_ENUM_QUIET_US * 1000 ≤ ((lUp {}).atTime 1000000000).now) := by
  refine ⟨⟨wit_ringIdle _ _ _ (by decide) (by decide +kernel), by decide +kernel, wit_ringNext _ _ (by and_intros <;> decide +kernel) rfl, by decide +kernel, ?_, ?_, by decide +kernel,
    by decide +kernel, by decide +kernel⟩, ?_, ⟨wit_ringNextSealed _ _ (by and_intros <;> decide +kernel) (by decide +kernel), by decide +kernel, by decide⟩,
    ⟨wit_ringNext _ _ (by and_intros <;> decide +kernel) rfl, by decide +kernel, by decide +kernel, ?_, wit_ringNext _ _ (by and_intros <;> decide +kernel) rfl, by decide +kernel,
      by decide +kernel, by decide +kernel⟩,
    ⟨wit_ringNext _ _ (by and_intros <;> decide +kernel) rfl, by decide +kernel, by decide +kernel, ⟨by decide +kernel, by decide +kernel, by decide +kernel⟩⟩, by and_intros <;> decide +kernel⟩
  · rw [wit_otherSerial.2.2]; decide +kernel
  · rw [wit_otherSerial.2.1]; exact wit_otherSerial.1
  · intro mac hm
    refine ⟨wit_ringNext _ _ ⟨by decide +kernel, by decide +kernel, by decide +kernel, rfl, (show (0 : Nat) = _ by decide +kernel), by decide +kernel, (show (0 : Nat) < 2 ^ 47 by decide)⟩ rfl,
      by simp [slice, ← hm], ?_, by decide +kernel, by decide +kernel⟩
    intro e; rw [← e] at hm; simp [slice] at hm
  · intro e; have := wit_serialLength; rw [← e] at this; cases this

/-- Both outcomes of the rank (R386): alone the node is first, behind 256 smaller serial numbers it finds no ID. -/
theorem wit_ranks : (lUp {}).rankOf ownSerial ≤ 255 ∧ 255 < ((lUp {}).inRng fun r => { r with members := List.replicate 256 ⟨[], 0, 0⟩ }).rankOf ownSerial := by
  have h : serialLt [] ownSerial = true := by
    have := wit_serialLength
    cases h : ownSerial with
    | nil => rw [h] at this; cases this
    | cons a x => rfl
  have h0 : (lUp {}).rng.members = [] := by decide +kernel
  refine ⟨by simp [Dev.rankOf, h0], ?_⟩
  show 255 < 1 + ((List.replicate 256 (⟨[], 0, 0⟩ : Member)).filter fun m => serialLt m.serial ownSerial).length
  rw [List.filter_replicate, if_pos (by simpa using h), List.length_replicate]
  decide

theorem wit_hmacLength (k m : Bytes) : (hmac k m).length = 32 := by simp [hmac, leBytes]

/-- A node of a closed ring with an exported namespace. -/
def lRing (x : RPort) : Dev := ((lDev 3 [(F.RNG_STAT_NODE_ID, 3), (F.RNG_STAT_TSTATE, 2), (F.RNG_NSEXP_LO_EXP, 1)] { x with keyRx := some ([], []), peerCred := [4, 4, 4, 4] }).inZne fun z =>
  { z with nss := [kNs], ctx := Tab.set (fun _ => {}) [] 0 { cond := .implicit, wp := 5 } })
def lReq : RFrame := { ftype := 0x22, dst := 3, src := 5, body := leBytes 4 1 ++ leBytes 8 0 ++ leBytes 2 1 }
def lStart : RFrame := { ftype := 0x90, dst := 3, src := 5, tgt := 5, body := leBytes 2 1 ++ [1, 0, 64] ++ List.replicate 27 0 ++ [3, 1, 0, 0] ++ leBytes 4 1 ++ leBytes 8 0 }
def lRead : RRead := { job := 0, tag := tg, node := 5, blocks := 16, addr := 0 }
def lPart : PJob := { tgt := 5, job := 7, port := 0, part := ⟨3, 1, 1, 0⟩, next := some 5, far := true, nlb := 1, jwin := 64, land := [(0, some .zero)], freedBy := 0 }
def lJob : TJob := { job := 7, tag := tg, nlb := 1, dest := 0, own := some ⟨3, 1, 1, 0⟩, land := [(0, some .zero)] }
def lCmd (d : Dev) : Dev := { d with cmds := [{ tag := tg, kind := .ring }] }

theorem wit_peersServeReadsAndJobs :
    (RingNext (lRing {}) 0 lReq ∧ RingRoom (lRing {}) 0 2 ∧ 3 = (lRing {}).nodeId ∧ (lRing {}).nodeId ≠ 0 ∧ 0 = (lRing {}).epoch ∧ (lRing {}).flag F.RNG_INJECT_ARM = false ∧
      ((lRing {}).setFld F.RNG_STAT_TSTATE 0).inRing = false ∧ (lRing {}).inRing = true ∧ (lRing {}).ns? (leAt lReq.body 0 4) = some kNs ∧ (lRing {}).exported (leAt lReq.body 0 4) = true ∧
      leAt lReq.body 12 2 ≠ 0 ∧ leAt lReq.body 4 8 + leAt lReq.body 12 2 ≤ kNs.cap ∧ (lRing {}).noReads = false ∧ (lRing {}).rng.serves = [] ∧
      ((lRing {}).landNow kNs (leAt lReq.body 4 8) (leAt lReq.body 12 2)).get (fun _ => none) 0 = none) ∧
    (RingNext (lRing {}) 0 (lSeal lStart) ∧ leAt lStart.body 2 1 = 1 ∧ partOf (slice lStart.body 32 16) = ⟨3, 1, 1, 0⟩ ∧ (lRing {}).ns? 1 = some kNs ∧ 0 + leAt lStart.body 0 2 ≤ kNs.cap ∧
      (lRing {}).rng.pjobs.length < (lRing {}).fld F.RNG_JOB_JOBS_P ∧ (lRing {}).rng.pjobs = []) ∧
    (RingNext (lRing {}) 0 (lSeal { ftype := 0x91, dst := 3, tgt := 5 }) ∧ 5 ≠ (lRing {}).nodeId ∧ RingNext (lRing {}) 0 { ftype := 0x20, dst := 3 } ∧
      RingNext (lRing {}) 0 { ftype := 0x21, dst := 3, body := [3] } ∧ leAt [3] 0 1 = 3) ∧
    (RingNext (lCmd ((lRing {}).inRng fun r => { r with reads := [lRead] })) 0 (lSeal { ftype := 0x92, dst := 3, src := 5 }) ∧
      (lCmd ((lRing {}).inRng fun r => { r with reads := [lRead] })).rng.reads = [lRead] ∧ lRead.got = [] ∧ lRead.posted = [] ∧
      (lCmd (lRing {})).cmd? tg = some { tag := tg, kind := .ring } ∧ 0 < lRead.blocks ∧ 16 ≤ lRead.blocks) := by
  refine ⟨⟨wit_ringNext _ _ (by and_intros <;> decide +kernel) rfl, ⟨by decide +kernel, by decide +kernel, by decide +kernel⟩, by and_intros <;> decide +kernel⟩,
    ⟨wit_ringNextSealed _ _ (by and_intros <;> decide +kernel) (by decide +kernel), by and_intros <;> decide +kernel⟩,
    ⟨wit_ringNextSealed _ _ (by and_intros <;> decide +kernel) (by decide +kernel), by decide +kernel, wit_ringNext _ _ (by and_intros <;> decide +kernel) rfl,
      wit_ringNext _ _ (by and_intros <;> decide +kernel) rfl, by decide⟩,
    wit_ringNextSealed _ _ (by and_intros <;> decide +kernel) (by decide +kernel), by and_intros <;> decide +kernel⟩

def lFold (l : List PJob) (t : List TJob) : Dev := ((lRing {}).setFld F.BUF_STAT_READY 1).inRng fun r => { r with pjobs := l, tjobs := t }

theorem wit_peersFoldAndTimeOut :
    ((lFold [lPart] []).live 1 = true ∧ (lFold [lPart] []).flag F.ECE_INJECT_ARM = false ∧ (lFold [lPart] []).eceTurn = true ∧ (lFold [lPart] [lJob]).eceTurn = true ∧
      ((lFold [lPart] []).rng.pjobs.find? fun y => decide (y.tgt = 5 ∧ y.job = 7)) = some lPart ∧ lPart.land.get (fun _ => none) 0 = some .zero ∧ lPart.next = some 5 ∧ lPart.far = true ∧
      0 < 16 * lPart.nlb ∧ 0 ∉ lPart.sent ∧ 0 < lPart.freedBy + lPart.jwin ∧ lPart.sent.length + 1 ≠ 16 * lPart.nlb ∧ { lPart with sent := List.range 15 }.sent.length + 1 = 16 * lPart.nlb ∧
      RingRoom (lFold [lPart] []) 0 1) ∧
    (((lRing {}).rport 0).txq = [] ∧ ((lRing {}).rport 1).txq = [] ∧ (lRing {}).now < lPart.traffic + (lRing {}).jobBound ∧ lPart.traffic + (lRing {}).jobBound ≤ ((lRing {}).atTime 1000000000000).now) ∧
    ((lCmd (lFold [] [lJob])).rng.tjobs = [lJob] ∧ (lCmd (lFold [] [lJob])).cmd? lJob.tag = some { tag := tg, kind := .ring } ∧ lJob.job < 65536 ∧ lJob.dest = 0 ∧
      ({ lJob with east := [⟨4, 1, 1, 0⟩] } : TJob).east ≠ [] ∧ 0 ∉ lJob.done ∧ lJob.blocks.get (fun _ => none) 0 = none ∧ lJob.lastE + (lRing {}).jobBound ≤ ((lRing {}).atTime 1000000000000).now ∧
      lJob.land.get (fun _ => none) 0 = some .zero ∧ 0 / 16 < lJob.delivered + lJob.window ∧ lJob.east = [] ∧ lJob.west = [] ∧ lJob.posted = [] ∧ lJob.own.isSome = true ∧ lJob.posted.length ≠ lJob.nlb) ∧
    ((lCmd (lRing {})).dma.chans = [] ∧ ({ lRing {} with zne := (kZone {}).zne } : Dev).landNow kNs 0 1 = [(0, some .zero)] ∧ 17 ≤ ((lRing {}).inRng fun r => { r with p0 := { peerCred := [4, 4, 17, 4] } }).rng.p0.peerCred.getD 2 0) := by
  refine ⟨⟨by decide +kernel, by decide +kernel, by decide +kernel, by decide +kernel, by decide +kernel, by decide +kernel, by decide +kernel, by decide +kernel, by decide +kernel, by decide +kernel,
    by decide +kernel, by decide +kernel, by decide +kernel, ⟨by decide +kernel, by decide +kernel, by decide +kernel⟩⟩, ?_⟩
  and_intros <;> decide +kernel

/-- Frames that reach a target whose job waits for them. -/
theorem wit_jobFramesReachTheTarget : RingNext (lCmd (lFold [] [lJob])) 0 (lSeal { ftype := 0x91, dst := 3, tgt := 3, job := 7 }) ∧
    RingNext (lCmd (lFold [] [lJob])) 0 { ftype := 0x21, dst := 3, tgt := 3, job := 7, body := [0, 1] } ∧ RingNext (lCmd (lFold [] [lJob])) 0 { ftype := 0x21, dst := 3, tgt := 3, job := 7, body := [1, 0] } ∧
    3 = (lFold [] [lJob]).nodeId ∧ (lFold [] [lJob]).nodeId ≠ 0 ∧ (lFold [] [lJob]).nodeId ≠ 0xFF ∧ 0 = (lFold [] [lJob]).epoch ∧ leAt [0, 1] 0 1 = 0 ∧ leAt [1, 0] 0 1 = 1 ∧ NoBurst (lFold [] [lJob]) :=
  ⟨wit_ringNextSealed _ _ (by and_intros <;> decide +kernel) (by decide +kernel), wit_ringNext _ _ (by and_intros <;> decide +kernel) rfl, wit_ringNext _ _ (by and_intros <;> decide +kernel) rfl,
    by decide +kernel, by decide +kernel, by decide +kernel, by decide +kernel, by decide, by decide, fun _ => rfl⟩

/-- A node of a ring of two with a ring key. -/
def lTwo : Dev := { ((lDev 3 [(F.RNG_STAT_NODE_ID, 1), (F.RNG_STAT_TSTATE, 2)] {}).inRng fun r => { r with members := [⟨[1], 2, 0⟩, ⟨[2], 0, 1⟩] }) with sec := { ringKey := some [9] } }
/-- A job descriptor: one sector, one participant, to a host address. -/
def lDesc : Bytes := leBytes 2 1 ++ [1, 0] ++ List.replicate 12 0 ++ leBytes 8 4096 ++ List.replicate 40 0 ++ [2, 1, 0, 0] ++ leBytes 4 1 ++ leBytes 8 0

theorem wit_ringAdministrationActs :
    (lTwo.live 1 = true ∧ lTwo.load.minimal = false ∧ lTwo.ns? 1 = none ∧ (jOn.ns? 1).isSome = true ∧ (0 : Word).toNat.testBit 2 = false ∧ (1 : Word).toNat.testBit 0 = true ∧
      lTwo.rng.tjobs = [] ∧ lTwo.rng.reads = [] ∧ (lDev 0 [] {}).rstate 0 = 0 ∧ lTwo.rstate 0 ≠ 0 ∧ lTwo.rstate 0 ≠ 4) ∧
    (({} : Dev).load.minimal = false ∧ (({} : Dev).putLoad fun l => { l with minimal := true }).load.minimal = true ∧ ({} : Dev).inRing = false ∧ lTwo.inRing = true ∧ lTwo.sec.ringKey.isSome = true ∧ 1 ≤ (1 : BitVec 16).toNat ∧ segLines [(0, 32)] = 32 * (1 : BitVec 16).toNat ∧ lTwo.sideOf (9 : Byte).toNat = none ∧
      (lTwo.sideOf (2 : Byte).toNat).isSome = true) ∧
    (leAt lDesc 2 1 = 1 ∧ (0 : Word).toNat ≠ 128 + 16 * leAt lDesc 2 1 ∧ leAt lDesc 0 2 = 1 ∧ leAt lDesc 3 1 = 0 ∧ (144 : Word).toNat = 128 + 16 * leAt lDesc 2 1 ∧ leAt lDesc 16 8 % 4096 = 0 ∧
      (((List.range 1).map fun i => partOf (slice lDesc (64 + 16 * i) 16)).map JPart.node).Nodup ∧
      (((List.range 1).map fun i => partOf (slice lDesc (64 + 16 * i) 16)).all fun e => decide (e.coef ≠ 0 ∧ e.node ≠ lTwo.nodeId) && (lTwo.member? e.node).isSome) = true ∧
      (lTwo.setFld F.RNG_JOB_JOBS_T 0).fld F.RNG_JOB_JOBS_T = 0 ∧ 0 < lTwo.fld F.RNG_JOB_JOBS_T ∧
      kNs.cap ≤ 131072 ∧ (kZone {}).granulesFree 0 1 = true ∧ (kZone {}).granulesFree 16777216 1 = false ∧ (kZone {}).zoneCheck kNs 0 1 true = none ∧ ((kZone { cond := .full }).zoneCheck kNs 0 1 true).isSome = true) ∧
    (((lDev 5 [] { whistle := some 0 }).rport 0).whistle = some 0 ∧ (lDev 5 [] {}).rstate 0 = 5 ∧ 0 + (lDev 5 [] {}).fld F.RNG_WHISTLE_WHISTLE_MS * 1000000 ≤ ((lDev 5 [] {}).atTime 1000000000000).now ∧
      (lDev 5 [] {}).now < 0 + (lDev 5 [] {}).fld F.RNG_WHISTLE_WHISTLE_MS * 1000000) ∧
    ((lDev 0 [] {}).live 0 = true ∧ (List.replicate 16 4000).length ≥ 16 ∧ (∀ x ∈ List.replicate 16 4000, 3000 ≤ x ∧ x < 5000) ∧ (lDev 0 [] {}).pstate ≠ 4 ∧ (lDev 0 [] {}).pwr.mv = none ∧
      (lDev 0 [] {}).on 6 = true ∧ (lDev 0 [(F.PWR_STAT_ON, 0x3F)] {}).on 6 = false) := by and_intros <;> decide +kernel

/-! ## Premises: sequencers and flash -/

/-- A microword of given ALU, flow, wait mode, mark and I/O fields, with r1 to r3 as DST, SRC_A and SRC_B. -/
def mRom (alu flow wmode mark io : Nat) : BitVec 128 :=
  BitVec.ofNat 128 (wmode <<< 120 ||| flow <<< 118 ||| 9 <<< 102 ||| mark <<< 99 ||| alu <<< 95 ||| 1 <<< 90 ||| 2 <<< 85 ||| 3 <<< 80 ||| io <<< 76 ||| 4 <<< 66)
/-- Sequencer 1 started, with a thread 0. -/
def mDev (x : ThreadS) : Dev := (dv [(F.SEQ_SSTAT_RUN 1, 1), (F.SEQ_SSTAT_HALTED 1, 0)]).inSeq fun q => { q with threads := Tab.set (fun _ => {}) [] 32 { x with active := true } }
/-- The word a routine fetches, without parity error. -/
def mF (w : BitVec 128) : Fetch := { rom := w }
/-- What a fetch asks of the device (Fetches), as a test. -/
def mOk (x : ThreadS) : Bool :=
  let d := mDev x
  d.live 1 && d.seqRuns 1 && decide (d.seqTurn 1 = some 0) && decide ((d.thread 1 0).waiting = none) && decide (d.patchIndex 1 (d.thread 1 0).pc = none) && !d.flag F.SEQ_INJECT_ARM &&
    decide ((d.thread 1 0).pc < 0x8800)

theorem wit_fetches (x : ThreadS) (w : BitVec 128) (h : mOk x = true) : Fetches (mDev x) 1 0 (mF w) w := by
  simp only [mOk, Bool.and_eq_true, decide_eq_true_eq, Bool.not_eq_true'] at h
  obtain ⟨⟨⟨⟨⟨⟨h1, h2⟩, h3⟩, h4⟩, h5⟩, h6⟩, h7⟩ := h
  exact ⟨h1, h2, h3, .inr ⟨h4, h6, h7, fun _ => by simp [mF, Fetch.parityOk], rfl, rfl, by rw [h5]; rfl⟩⟩

/-- The same with a word that waits. -/
def mWait : ThreadS := { waiting := some (mRom 1 0 0 0 0, 5) }
theorem wit_fetchesWaiting : Fetches (mDev mWait) 1 0 (mF 0) (mRom 1 0 0 0 0) :=
  ⟨by decide +kernel, by decide +kernel, by decide +kernel, .inl ⟨5, by decide +kernel⟩⟩

/-- Word out of turn, on a stopped sequencer, or with wrong parity. -/
def mStop : Dev := (mDev {}).setFld (F.SEQ_SSTAT_HALTED 1) 1
def mBad : Fetch := { rom := 1, parity := 0 }

theorem wit_wordsOutOfTurn : mStop.seqRuns 1 = false ∧ (mDev {}).seqTurn 1 ≠ some (3 : Fin 32).val ∧ mBad.parityOk = false ∧ mOk {} = true ∧ mOk { pc := 0x8800 } = false ∧
    ((mDev { pc := 0x8800 }).seqTurn 1, 0x8800 ≤ ((mDev { pc := 0x8800 }).thread 1 0).pc, ((mDev { pc := 0x8800 }).thread 1 0).restarts) = (some 0, True, 0) := by
  refine ⟨?_, ?_, ?_, ?_, ?_, Prod.ext ?_ (Prod.ext (eq_true ?_) ?_)⟩ <;> decide +kernel

/-- A word with three parts, in the order the rule gives: the addition, the token into the outbox, the COMMIT. -/
def mParts : UWord := uword (mRom 2 0 0 1 2)
theorem wit_wordsInParts : mParts.alu = 2 ∧ mParts.io = 2 ∧ mParts.mark = 1 ∧ mParts.wmode = 0 ∧ (mDev {}).mustWait 1 0 mParts = false ∧ (mDev {}).ioReady 1 mParts = true ∧
    ((mDev {}).aluStep 1 0 mParts {}).1 = true ∧ (((mDev {}).aluStep 1 0 mParts {}).2.ioStep 1 0 mParts).1 = none := by and_intros <;> decide +kernel

theorem wit_microwordsComputeAndFlow :
    (mOk {} = true ∧ (∀ k ∈ [1, 2, 3, 4, 5, 6, 7, 8, 9, 10, 11, 12, 13], (uword (mRom k 0 0 0 0)).alu = k ∧ (uword (mRom k 0 0 0 0)).wmode = 0 ∧ (uword (mRom k 0 0 0 0)).mark = 0 ∧
      (uword (mRom k 0 0 0 0)).io = 0 ∧ (uword (mRom k 0 0 0 0)).flow = 0 ∧ (uword (mRom k 0 0 0 0)).dst ≠ 0)) ∧
    (((mDev {}).thread 1 0).reg 2 = 0 ∧ (0 : Word).toNat < seqContexts 1 ∧ sramRead (mF 0).ctx = .ok ∧ ((mDev {}).thread 1 0).writes.length < 16 ∧ mOk { writes := List.replicate 16 (0, 0, 0) } = true ∧
      mOk { regs := Tab.set (fun _ => 0) [] 2 5000 } = true ∧ seqContexts 1 ≤ (((mDev { regs := Tab.set (fun _ => 0) [] 2 5000 }).thread 1 0).reg 2).toNat ∧
      16 ≤ ((mDev { writes := List.replicate 16 (0, 0, 0) }).thread 1 0).writes.length ∧ ((mDev {}).thread 1 0).restarts = 0 ∧ ((mDev {}).thread 1 0).lock = none) ∧
    ((uword (mRom 0 1 0 0 0)).flow = 1 ∧ (uword (mRom 0 2 0 0 0)).flow = 2 ∧ (uword (mRom 0 3 0 0 0)).flow = 3 ∧ (uword (mRom 0 1 0 0 0)).alu = 0 ∧ ((mDev {}).thread 1 0).stack.length < 4 ∧
      mOk { stack := [1, 2, 3, 4] } = true ∧ 4 ≤ ((mDev { stack := [1, 2, 3, 4] }).thread 1 0).stack.length ∧ ((mDev { stack := [1, 2, 3, 4] }).thread 1 0).stack = 1 :: [2, 3, 4]) ∧
    ((uword (mRom 0 1 3 0 0)).wmode = 3 ∧ (uword (mRom 0 1 1 0 0)).wmode = 1 ∧ (uword (mRom 0 1 2 0 0)).wmode = 2 ∧ (mDev {}).condLevel 1 ((mDev {}).thread 1 0) 0 = true ∧
      (mDev {}).condLevel 1 ((mDev {}).thread 1 0) 2 = false) := by and_intros <;> decide +kernel

/-- Where the pool behind an I/O queue stands and is not fenced, a credit lets SENDQ go, and none makes it wait. -/
theorem wit_sendqCredits (d : Dev) (q k : Nat) (ws : List Word) :
    (d.setPool (ioqOf q k).1 (ioqOf q k).2 { held := 0 }).tokGoes q (.send k ws) = false ∧
      (d.poolOpen (ioqOf q k).1 (ioqOf q k).2 = true → (d.setPool (ioqOf q k).1 (ioqOf q k).2 { held := 1 }).tokGoes q (.send k ws) = true) := by
  have h (p : PoolS) : (d.setPool (ioqOf q k).1 (ioqOf q k).2 p).pool (ioqOf q k).1 (ioqOf q k).2 = p := Tab.get_set_same _ _ _ _
  refine ⟨?_, fun o => ?_⟩
  · simp only [Dev.tokGoes, Dev.canSend, h]; simp
  · simp only [Dev.tokGoes, Dev.canSend, h]
    exact (Bool.and_true _).trans o

def mHold (m : Nat) : Dev := (mDev {}).inSeq fun q => { q with holder := Tab.set (fun _ => none) [] m (some 9) }
/-- A thread whose outbox holds one write and one token. -/
def mBox : ThreadS := { writes := [(0, 3, 7)], toks := [.send 2 [1]] }

theorem wit_microwordsSendReceiveAndCommit :
    (mOk {} = true ∧ (∀ k ∈ [1, 2, 3, 4, 5, 6], (uword (mRom 0 0 0 0 k)).io = k ∧ (uword (mRom 0 0 0 0 k)).mark = 0 ∧ (uword (mRom 0 0 0 0 k)).wmode = 0 ∧ (uword (mRom 0 0 0 0 k)).alu = 0 ∧
      (uword (mRom 0 0 0 0 k)).flow = 0 ∧ (uword (mRom 0 0 0 0 k)).ioreg ≠ 0)) ∧
    (((mDev {}).thread 1 0).toks.length < 8 ∧ mOk { resp := [[5]] } = true ∧ ((mDev { resp := [[5]] }).thread 1 0).resp = [5] :: [] ∧ ((mDev {}).thread 1 0).resp = [] ∧
      mOk { toks := List.replicate 8 (.csr 0 0) } = true ∧ 8 ≤ ((mDev { toks := List.replicate 8 (.csr 0 0) }).thread 1 0).toks.length ∧
      ((mDev {}).thread 1 0).lock = none ∧ ((mDev {}).thread 1 0).restarts < 2 ∧ mOk { restarts := 2 } = true ∧ 2 ≤ ((mDev { restarts := 2 }).thread 1 0).restarts) ∧
    (mOk { regs := Tab.set (fun _ => 0) [] 2 0x0B000000 } = true ∧ (mDev {}).canSend .fab 0 = true ∧ ((mDev {}).setPool .fab 0 { held := 0 }).canSend .fab 0 = false) ∧
    (mOk { locked := true } = true ∧ ((mDev { locked := true }).thread 1 0).locked = true ∧ (uword (mRom 0 0 0 0 6)).immed.testBit 31 = false ∧ (mDev {}).ctxHeld 1 0 = false ∧
      (uword (mRom 0 0 0 0 6 ||| 0x80000000)).immed.testBit 31 = true ∧ (uword (mRom 0 0 0 0 6 ||| 0x80000000)).io = 6 ∧
      (mDev {}).seq.holder.get (fun _ => none) ((uword (mRom 0 0 0 0 6 ||| 0x80000000)).immed % 8) = none ∧ (mDev {}).seq.claims = [] ∧
      ((mHold 0).seq.holder.get (fun _ => none) ((uword (mRom 0 0 0 0 6 ||| 0x80000000)).immed % 8)).isSome = true) ∧
    ((uword (mRom 0 0 0 1 0)).mark = 1 ∧ (uword (mRom 0 0 0 2 0)).mark = 2 ∧ (uword (mRom 0 0 0 1 0)).io = 0 ∧ mOk mBox = true ∧ ((mDev mBox).thread 1 0).writes = [(0, 3, 7)] ∧ 3 < 32 ∧
      0 < seqContexts 1 ∧ ((mDev mBox).thread 1 0).toks = [.send 2 [1]] ∧ (mDev mBox).flag F.SEQ_INJECT_ARM = false ∧ (mDev mBox).seq.intrs = []) := by and_intros <;> decide +kernel

theorem wit_routinesInterruptsMutexesAndFlags :
    ((mDev {}).live 1 = true ∧ (mDev {}).seqRuns 1 = true ∧ mStop.seqRuns 1 = false ∧ (5 : BitVec 12).toNat < seqContexts 1 ∧ (mDev { ctx := 5 }).threadOf 1 5 = some 0 ∧
      ((mDev { ctx := 5 }).thread 1 0).draining = false ∧ (mDev { ctx := 5, draining := true }).threadOf 1 5 = some 0 ∧ ((mDev { ctx := 5, draining := true }).thread 1 0).draining = true ∧
      (mDev { ctx := 9 }).threadOf 1 5 = none ∧ (List.range (seqThreads 1)).find? (fun t => !((mDev { ctx := 9 }).thread 1 t).active) = some 1) ∧
    ((1 : Fin 8).val < 4 ∧ (((iAb .fetched false).cmd? iTg).any fun c => !c.isCommitted && !c.silent) = true ∧ (((iAb .flush true).cmd? iTg).any fun c => c.isCommitted) = true ∧
      ((mDev { run := 4 }).thread 1 0).run = 4 ∧ ((mDev { run := 4 }).thread 1 0).active = true ∧ ((mDev {}).thread 1 0).run ≠ 4 ∧
      ((mDev { timer := some 7 }).thread 1 0).timer = some 7 ∧ (mDev { timer := some 7 }).now < 7 ∧ 7 ≤ ((mDev { timer := some 7 }).atTime 7).now) ∧
    (({} : Dev).live 1 = true ∧ ({} : Dev).seq.holder.get (fun _ => none) 2 = none ∧ ({} : Dev).seq.claims = [] ∧ (mHold 2).seq.holder.get (fun _ => none) 2 = some 9 ∧ (mHold 2).seq.claims = [] ∧
      reqCode (.ctrl 0) = 9 ∧ 9 ≠ reqCode (.ctrl 1) ∧ reqCode (.ctrl 1) < 16) ∧
    (¬(({} : Dev).v = true ∧ (3 : Fin 8) = 5) ∧ ({ ({} : Dev) with v := true } : Dev).v = true) := by and_intros <;> decide +kernel

/-- A ready array with slot 2 at a word, the operation of its bank, and what else stands in the array. -/
def nDev (w : Nat) (l : List (RF × Nat)) (b : FBank) (x : FWord) : Dev := (dv ([(F.FLC_STAT_READY, 1), (F.FLC_OP_ADDR_WORD 2, w)] ++ l)).inFlc fun f =>
  { f with bank0 := b, words := if x = .erased then [] else [(w, x)] }
def nErase : FOp := { slot := 2, erase := true, at_ := 40 }
def nData : Bytes := List.replicate 32 6

theorem wit_flashOperationsRunOrAreRefused :
    ((nDev 81920 [] {} .erased).live 1 = true ∧ (nDev 81920 [] {} .erased).opWord 2 = 81920 ∧ 81920 < 2097152 ∧ 81920 / 2048 / 512 = 0 ∧
      (nDev 81920 [(F.FLC_OP_STAT_BUSY 2, 1)] {} .erased).flag (F.FLC_OP_STAT_BUSY 2) = true ∧ (nDev 81920 [] {} .erased).flag (F.FLC_OP_STAT_BUSY 2) = false ∧
      (nDev 81920 [(F.FLC_STAT_READY, 0)] {} .erased).flag F.FLC_STAT_READY = false ∧ (nDev 81920 [] {} .erased).flag F.FLC_STAT_READY = true) ∧
    (((nDev 81920 [] { run := some nErase } .erased).bank 0).run.isSome = true ∧ ((nDev 81920 [] { run := some nErase } .erased).bank 0).susp = .none ∧
      ((nDev 81920 [] {} .erased).bank 0).run = none ∧ (nDev 81920 [] {} .erased).flag F.FLC_INJECT_ARM = false ∧
      (nDev 81920 [(F.FLC_XO_EN 3, 1), (F.FLC_XO_FIRST 3, 40), (F.FLC_XO_COUNT 3, 1)] {} .erased).xoRegion 40 = some 3 ∧ (nDev 81920 [] {} .erased).xoRegion 40 = none ∧
      nData.length = 32 ∧ (nDev 81920 [] {} (.prog nData)).fword 81920 = .prog nData ∧ (nDev 81920 [] {} .erased).fword 81920 = .erased ∧ (nDev 81920 [] {} .torn).fword 81920 = .torn) ∧
    ((nDev 0 [] {} .erased).writeRefusal 2 0 false = some 0x14 ∧ (nDev 0 [] {} .erased).writeRefusal 2 0 true = some 0x14 ∧ (nDev 81920 [] {} .erased).writeRefusal 2 40 false = none ∧
      (nDev 81920 [] {} .erased).writeRefusal 2 40 true = none ∧ (nDev 81920 [] {} .erased).pwr.pf = none ∧ (nDev 81920 [] { run := some nErase } .erased).writeRefusal 2 40 true = none ∧
      (nDev 81920 [] { run := some nErase } .erased).writeRefusal 2 40 false = none ∧ ((nDev 81920 [] {} .erased).bank 1).erasing = false ∧ (nDev 81920 [] {} (.prog nData)).fword 81920 ≠ .erased) ∧
    ((2 : Fin 9) ≠ 8 ∧ (nDev 81920 [] {} .erased).flag F.FLC_STAT_EXEC = false ∧ nErase.erase = true ∧ ((nDev 81920 [] { run := some nErase } .erased).bank 0).reads = [] ∧
      nErase.since + 1000000 ≤ ((nDev 81920 [] { run := some nErase } .erased).atTime 1000000).now ∧ (nDev 81920 [] { run := some nErase } .erased).now < nErase.since + 1000000 ∧
      ((nDev 81920 [] { run := some nErase, susp := .slot } .erased).bank 0).susp = .slot) := by and_intros <;> decide +kernel

def nProg (p : Nat) : FOp := { slot := 2, erase := false, at_ := 81920, data := nData, pulses := p }
def nExec : Dev := nDev 81920 [(F.FLC_STAT_EXEC, 1), (F.FLC_XO_EN 3, 1), (F.FLC_XO_FIRST 3, 40), (F.FLC_XO_COUNT 3, 1)] {} (.prog nData) |>.inFlc fun f => { f with region := some 3 }

theorem wit_flashVerifiesScansAndExecutes :
    (((nDev 81920 [] { run := some (nProg 0) } .erased).bank 0).run = some (nProg 0) ∧ (nProg 0).slot < 9 ∧ (nDev 81920 [] { run := some (nProg 0) } .erased).live 1 = true ∧
      (nProg 0).erase = false ∧ (nProg 0).pulses < 7 ∧ 7 ≤ (nProg 7).pulses ∧ (nDev 81920 [] {} .erased).flag F.FLC_INJECT_ARM = false) ∧
    (nErase.erase = true ∧ nErase.at_ / 512 = (0 : Fin 2).val ∧ (nDev 81920 [] { run := some nErase } .erased).flc.isect0 < 2 ∧ (nDev 81920 [] { run := some nErase } .erased).flc.isect1 < 2 ∧
      (nDev 81920 [] { run := some nErase } .erased).flc.iword0 < 2046 ∧ (nDev 81920 [] { run := some nErase } .erased).flc.iword1 < 2046 ∧ nErase.pulses < 39 ∧
      39 ≤ ({ nErase with pulses := 39 } : FOp).pulses) ∧
    ((nDev 81920 [(F.FLC_CTRL_AUTO_SUSP, 1)] { run := some nErase, reads := [(4, 9)] } .erased).flag F.FLC_CTRL_AUTO_SUSP = true ∧
      ((nDev 81920 [(F.FLC_CTRL_AUTO_SUSP, 1)] { run := some nErase, reads := [(4, 9)] } .erased).bank 0).reads ≠ [] ∧
      ((nDev 81920 [] { run := some nErase, susp := .auto 0 } .erased).bank 0).susp = .auto 0 ∧ ((nDev 81920 [] { run := some nErase, susp := .auto 0 } .erased).bank 0).reads = [] ∧
      (nDev 81920 [(F.FLC_CTRL_AUTO_MAX_US, 5)] { run := some nErase, susp := .auto 0, reads := [(4, 9)] } .erased).now <
        0 + 1000 * (nDev 81920 [(F.FLC_CTRL_AUTO_MAX_US, 5)] { run := some nErase, susp := .auto 0, reads := [(4, 9)] } .erased).fld F.FLC_CTRL_AUTO_MAX_US) ∧
    (({} : Dev).flag F.FLC_STAT_READY = false ∧ ({} : Dev).interrupted = [] ∧ nExec.fld (F.FLC_XO_FIRST 3) < 1024 ∧ (nExec.bank (nExec.fld (F.FLC_XO_FIRST 3) / 512)).run = none ∧
      nExec.flag F.FLC_STAT_EXEC = true ∧ (nDev 81920 [] {} .erased).flag F.FLC_STAT_EXEC = false ∧ ((nDev 81920 [] {} .erased).bank 0).programming = false ∧
      ((nDev 81920 [] {} .erased).bank 0).erasing = false ∧ nExec.flc.region = some 3 ∧ nExec.xoRegion (81920 / 2048) = some 3 ∧ nExec.xoRegion 0 ≠ some 3 ∧ nExec.fword 81920 = .prog nData) := by
  and_intros <;> decide +kernel

/-- In that array nothing else waits at any bank. -/
theorem wit_noFlashWaiters : ∀ j, ((nDev 81920 [] { run := some nErase } .erased).bank j).wait = [] ∧ ((nDev 81920 [] { run := some nErase } .erased).bank j).reads = [] := by
  intro j
  have h1 : (nDev 81920 [] { run := some nErase } .erased).flc.bank0 = { run := some nErase } := by decide +kernel
  have h2 : (nDev 81920 [] { run := some nErase } .erased).flc.bank1 = {} := by decide +kernel
  simp only [Dev.bank, h1, h2]
  split <;> exact ⟨rfl, rfl⟩

/-! ## Premises: image, power, the machine -/

/-- The image above with a key hash of 48 equal bytes, the generation g and the mode table's bytes all b, as words of copy k, activated. -/
def oWords (k g : Nat) (h b : Byte) : List (Nat × FWord) :=
  ((List.range 16).map fun i => (imgBase k + i, FWord.prog (slice (jImg.take 8 ++ [BitVec.ofNat 8 g] ++ (jImg.drop 9).take 19 ++ List.replicate 48 h ++ (jImg.drop 76).take 212 ++
    List.replicate 84 b ++ jImg.drop 372) (32 * i) 32))) ++ [(imgAct k, FWord.prog (actWord g))]
def oFlash (h b : Byte) : Dev := (dv [(F.FLC_STAT_READY, 1)]).inFlc fun f => { f with words := oWords 1 5 h b }
/-- Two copies, copy 0 the newer one. -/
def oTwo (h : Byte) : Dev := (dv [(F.FLC_STAT_READY, 1)]).inFlc fun f => { f with words := oWords 0 6 h 0 ++ oWords 1 5 7 0 }
/-- A restart of the core, its state kept, copy 1 loaded before. -/
def oAgain : Dev := ((oFlash 7 0).setFld F.FAB_LOAD_COPY 2).inPwr fun p => { p with restart := true, ret := some { words := [], c0 := {}, c1 := {} } }
/-- The sections of that image. -/
def oSecs (b : Byte) : List Section := match (oFlash 7 b).imgBytes 1 0 512 with | some x => sectionsOf x 2 | none => []

theorem wit_imageLoadAppliesOrStartsWithout :
    (({} : Dev).live 1 = true ∧ ({} : Dev).flag F.FLC_STAT_READY = false ∧ jDl.load.loaded = false ∧ jDl.load.minimal = false ∧ jDl.flag F.FLC_STAT_READY = true ∧ jDl.pwr.restart = false ∧
      jDl.candidates = [] ∧ (jDl.putLoad fun l => { l with loaded := true }).load.loaded = true ∧ (jDl.putLoad fun l => { l with minimal := true }).load.minimal = true) ∧
    ((oFlash 7 0).live 1 = true ∧ (oFlash 7 0).load.loaded = false ∧ (oFlash 7 0).load.minimal = false ∧ (oFlash 7 0).flag F.FLC_STAT_READY = true ∧ (oFlash 7 0).pwr.restart = false ∧
      (oFlash 7 0).candidates = [1] ∧ (oFlash 7 0).imgHeader 1 = some jHdr) ∧
    (((oFlash 7 0).applyImage (oSecs 0)).2 = 0 ∧ ((oFlash 7 255).applyImage (oSecs 255)).2 = 12) ∧
    ((oAgain.pwr.restart && oAgain.pwr.ret.isSome) = true ∧ oAgain.loadedCopy.toList = [1] ∧ oAgain.imgHeader 1 = some jHdr ∧ (oAgain.setFld F.FAB_LOAD_COPY 0).loadedCopy.toList = [] ∧
      (oAgain.setFld F.FAB_LOAD_COPY 1).imgHeader 0 = none ∧ (oAgain.setFld F.FAB_LOAD_COPY 1).loadedCopy.toList = [0]) ∧
    ((oTwo 8).candidates = [0, 1 - 0] ∧ (oTwo 8).imgHeader 0 = some { jHdr with gen := 6, keyHash := List.replicate 48 8 } ∧ ((oTwo 8).rejectCopy (.bad 3)).imgHeader (1 - 0) = some jHdr ∧
      (((oTwo 8).rejectCopy (.bad 3)).applyImage (oSecs 0)).2 = 0) := by and_intros <;> decide +kernel

/-- A copy whose bytes are those above is good under the suppositions of wit_commitGen. -/
theorem wit_proveGood (d : Dev) (b : Byte) (hf : Config.fuseHash = List.replicate 48 7) (hs : ∀ b, Config.sha384 b = List.replicate 48 7) (he : ∀ k h s, Config.ecdsa k h s = true) (img : Bytes)
    (hb : d.imgBytes 1 0 512 = some img) (hi : sectionsOf img 2 = oSecs b) (hd : directoryFault jHdr (oSecs b) = 0) (hf' : formatFault d.v (oSecs b) = 0) (hp : d.patchFault (oSecs b) = none)
    (hx : findSec (oSecs b) 9 = none) : d.proveCopy 1 jHdr = .good jHdr (oSecs b) := by
  have h1 : jHdr.keyHash = List.replicate 48 7 := rfl
  have h2 : jHdr.length = 512 := rfl
  have h3 : jHdr.nsect = 2 := rfl
  simp only [Dev.proveCopy, hf, hs, he, h1, h2, h3, hb, hi, hd, hf', hp, hx]
  simp

theorem wit_proveCopyGood (hf : Config.fuseHash = List.replicate 48 7) (hs : ∀ b, Config.sha384 b = List.replicate 48 7) (he : ∀ k h s, Config.ecdsa k h s = true) :
    (oFlash 7 0).proveCopy 1 jHdr = .good jHdr (oSecs 0) ∧ (oFlash 7 255).proveCopy 1 jHdr = .good jHdr (oSecs 255) ∧ oAgain.proveCopy 1 jHdr = .good jHdr (oSecs 0) ∧
      ((oTwo 8).rejectCopy (.bad 3)).proveCopy 1 jHdr = .good jHdr (oSecs 0) := by
  refine ⟨?_, ?_, ?_, ?_⟩
  · exact wit_proveGood _ 0 hf hs he _ (Option.eq_some_of_isSome (by decide +kernel)) (by decide +kernel) (by decide +kernel) (by decide +kernel) (by decide +kernel) (by decide +kernel)
  · exact wit_proveGood _ 255 hf hs he _ (Option.eq_some_of_isSome (by decide +kernel)) (by decide +kernel) (by decide +kernel) (by decide +kernel) (by decide +kernel) (by decide +kernel)
  · exact wit_proveGood _ 0 hf hs he _ (Option.eq_some_of_isSome (by decide +kernel)) (by decide +kernel) (by decide +kernel) (by decide +kernel) (by decide +kernel) (by decide +kernel)
  · exact wit_proveGood _ 0 hf hs he _ (Option.eq_some_of_isSome (by decide +kernel)) (by decide +kernel) (by decide +kernel) (by decide +kernel) (by decide +kernel) (by decide +kernel)

/-- Whatever the key fuses hold, there is a copy that they reject. -/
theorem wit_proveCopyBad : ∃ k : Byte, ∃ h, (oFlash k 0).candidates = [1] ∧ (oFlash k 0).imgHeader 1 = some h ∧ (oFlash k 0).proveCopy 1 h = .bad 3 := by
  by_cases hf : Config.fuseHash = List.replicate 48 7
  · refine ⟨8, { jHdr with keyHash := List.replicate 48 8 }, by decide +kernel, by decide +kernel, ?_⟩
    rw [Dev.proveCopy, if_pos (by rw [hf]; decide)]
  · refine ⟨7, jHdr, by decide +kernel, by decide +kernel, ?_⟩
    rw [Dev.proveCopy, if_pos (fun e => hf e.symm)]

def oMv : MoveS := { hi := 2, up := false, step := 4, begun := true, ends := 9 }
/-- A device of a target, in the step that stops its spindle. -/
def oStop (target : Nat) : Dev := ((((eSpin 2 {}).setFld F.PWR_STAT_STATE 2).inC0 fun c => { c with psVote := target, trained := true }).inPwr fun p => { p with mv := some oMv }).atTime 9
def oVote (v : Nat) : Dev := ({} : Dev).inC0 fun c => { c with psVote := v, trained := true }
/-- Caps and a budget for one reading head. -/
def oCap (rd : Nat) : Dev := dv [(F.PWR_SCAP_RD_MAX 0, rd), (F.PWR_SCAP_WR_MAX 0, rd), (F.PWR_SMP_MP_MW 0, 0xFFFF)]
def oPwr (f : PwrS → PwrS) (l : List (RF × Nat)) : Dev := (dv l).inPwr f

theorem wit_powerMovesAndHeadGrants :
    ((oVote 0).live 0 = true ∧ (oVote 0).pwr.pf = none ∧ (oVote 0).pwr.held = false ∧ (oVote 0).pwr.restart = false ∧ (oVote 0).pwr.mv = none ∧ (oVote 0).targetState = (oVote 0).pstate ∧
      (oVote 1).pstate = 0 ∧ (oVote 1).targetState = 1 ∧ (oPwr (fun p => { p with restart := true }) []).pwr.restart = true ∧ (oPwr (fun p => { p with held := true }) []).live 0 = true) ∧
    ((oStop 3).live 0 = true ∧ (oStop 3).pwr.mv = some oMv ∧ (oStop 3).targetState = 3 ∧ (oStop 3).spinState ≠ 0 ∧ oMv.ends ≤ (oStop 3).now ∧ ((oStop 3).atTime 8).now < oMv.ends ∧
      (oStop 4).targetState = 4 ∧ (oStop 4).heldRuns.1 = 0 ∧ oMv.stay = false ∧ (oStop 4).pstate = 2) ∧
    ((oCap 9).live 0 = true ∧ (oCap 9).pwr.waitq = [] ∧ (oCap 9).flag F.PWR_INJECT_ARM = false ∧ (oCap 9).pwr.grants = [] ∧ (oCap 9).fits (oCap 9).grantsRd (oCap 9).grantsWr = true ∧
      (oCap 9).fits ((oCap 9).grantsRd + 1) (oCap 9).grantsWr = true ∧ (oCap 9).fits (oCap 9).grantsRd ((oCap 9).grantsWr + 1) = true ∧
      (oCap 0).fits (oCap 0).grantsRd (oCap 0).grantsWr = true ∧ (oCap 0).fits ((oCap 0).grantsRd + 1) (oCap 0).grantsWr = false ∧
      (oCap 0).fits (oCap 0).grantsRd ((oCap 0).grantsWr + 1) = false) ∧
    (((oCap 9).inPwr fun p => { p with grants := [(3, true)] }).pwr.waitq = [] ∧ (3, true) ∈ ((oCap 9).inPwr fun p => { p with grants := [(3, true)] }).pwr.grants ∧
      (let d := (oCap 9).inPwr fun p => { p with grants := [(3, true)] }; d.fits d.grantsRd d.grantsWr) = true ∧
      ((oCap 0).inPwr fun p => { p with waitq := [(3, true)] }).pwr.waitq = (3, true) :: [] ∧
      (let d := (oCap 0).inPwr fun p => { p with waitq := [(3, true)] }; d.fits (d.grantsRd + (!true).toNat) (d.grantsWr + (true).toNat)) = false ∧
      (dv [(F.PWR_INJECT_ARM, 1), (F.PWR_INJECT_KIND, 1)]).flag F.PWR_INJECT_ARM = true ∧ (dv [(F.PWR_INJECT_ARM, 1), (F.PWR_INJECT_KIND, 1)]).fld F.PWR_INJECT_KIND = 1 ∧
      ({ (oCap 9) with v := true } : Dev).v = true ∧ 10 ≤ (12 : Fin 20).val) := by and_intros <;> decide +kernel

/-- In KENNEL with its wake sources enabled; and on its way there. -/
def oAsleep : Dev := oPwr (fun p => { p with coreEn := false, pgAt := none }) [(F.PWR_STAT_STATE, 4), (F.PWR_WAKE_EN, 0x1FF)]
def oFalling : Dev := oPwr (fun p => { p with mv := some { oMv with hi := 3 } }) [(F.PWR_STAT_STATE, 3), (F.PWR_WAKE_EN, 0x1FF)]
/-- A power failure with the heads parked, and with a loop that holds its heads out. -/
def oPf : Dev := oPwr (fun p => { p with pf := some { began := 0 } }) []
def oPfOut : Dev := oPwr (fun p => { p with pf := some { began := 0 } }) [(F.SRV_LSTAT_MODE 0, 5), (F.SRV_LPARK_UNLOAD_TMO 0, 9)]

theorem wit_kennelWakesWarnsAndFails :
    (({} : Dev).pwr.kennel = true ∧ (oPwr (fun p => { p with kennel := false }) []).pwr.kennel = false ∧ ({} : Dev).live 0 = true) ∧
    (({} : Dev).pwr.coreEn = true ∧ ({} : Dev).pwr.pgAt.isSome = true ∧ (oPwr (fun p => { p with pgAt := none }) []).live 0 = true ∧ (oPwr (fun p => { p with pgAt := none }) []).pwr.pgAt = none ∧
      (oPwr (fun p => { p with pgAt := none }) []).pwr.restart = false ∧ (oPwr (fun p => { p with pgAt := none, restart := true }) []).pwr.restart = true ∧
      (oPwr (fun p => { p with pgAt := none }) []).pwr.late = false ∧ 0 + 100000000 ≤ (({} : Dev).atTime 100000000).now ∧ ({} : Dev).now < 0 + 100000000) ∧
    (({} : Dev).hotAt ≤ (255 : Byte).toNat + 273 ∧ ({} : Dev).pwr.hotSince = none ∧ (0 : Byte).toNat + 273 < ({} : Dev).hotAt ∧
      (oPwr (fun p => { p with hotSince := some 0 }) []).pwr.hotSince = some 0) ∧
    (({} : Dev).hasCtrl 0 = true ∧ (dv [(F.PWR_STAT_STATE, 4)]).pstate = 4 ∧ ({} : Dev).pstate ≠ 4 ∧ ((({} : Dev).inC0 fun c => { c with trained := true }).ctrl 0).trained = true ∧ 2 ≤ (7 : Fin 9).val) ∧
    ((dv [(F.PWR_STAT_STATE, 4), (F.PWR_WAKE_EN, 0)]).live 0 = true ∧ ((dv [(F.PWR_STAT_STATE, 4), (F.PWR_WAKE_EN, 0)]).fld F.PWR_WAKE_EN).testBit 7 = false ∧
      ((dv [(F.PWR_STAT_STATE, 4), (F.PWR_WAKE_EN, 0x80)]).fld F.PWR_WAKE_EN).testBit 7 = true ∧ oAsleep.pwr.coreEn = false ∧ oAsleep.pstate = 4 ∧ (oAsleep.fld F.PWR_WAKE_EN).testBit 7 = true ∧
      (oAsleep.fld F.PWR_WAKE_EN).testBit 0 = true ∧ (0 : Fin 9).val < 2 ∧ oFalling.live 0 = true ∧ oFalling.pstate ≠ 4 ∧ (oFalling.fld F.PWR_WAKE_EN).testBit 5 = true ∧
      oFalling.pwr.mv = some { oMv with hi := 3 } ∧ ({ oMv with hi := 3 } : MoveS).hi = 3 ∧ oMv.up = false ∧ ({} : Dev).pwr.mv = none ∧
      (BitVec.ofNat 7 (({} : Dev).fld F.HST_MI_ADDR)).toNat = ({} : Dev).fld F.HST_MI_ADDR ∧ (0x7F : BitVec 7).toNat ≠ ({} : Dev).fld F.HST_MI_ADDR ∧
      (dv [(F.HST_MI_BMC_EN, 0)]).flag F.HST_MI_BMC_EN = false) ∧
    (16 ≤ (List.replicate 16 4000).length ∧ (∀ x ∈ (List.replicate 16 4000).drop ((List.replicate 16 4000).length - 16), 3000 ≤ x ∧ x < 5000) ∧ ({} : Dev).on (6 + (0 : Fin 2).val) = true ∧
      (({} : Dev).setFld F.PWR_STAT_ON 0x3F).on (6 + (0 : Fin 2).val) = false ∧ ¬16 ≤ ([] : List Nat).length) ∧
    (({} : Dev).pwr.pf = none ∧ ({} : Dev).flag F.SPN_STAT_PF = false ∧ (dv [(F.SPN_STAT_PF, 1)]).flag F.SPN_STAT_PF = true ∧ (dv [(F.SPN_STAT_PF, 1)]).pstate ≠ 4 ∧ (dv [(F.SPN_STAT_PF, 1)]).pwr.held = false ∧
      (dv [(F.SPN_STAT_PF, 1)]).log.flushReq = none ∧ oPf.pwr.pf = some { began := 0 } ∧ oPf.pfRetracted { began := 0 } = true ∧ oPfOut.pfRetracted { began := 0 } = false) := by
  and_intros <;> decide +kernel

theorem wit_subsystemResetDestagesFirst :
    (({} : Dev).live 1 = true ∧ ({} : Dev).zne.cache = [] ∧ (kCache kSec).live 1 = true ∧ (kCache kSec).zne.cache ≠ [] ∧ (kCache kSec).hst.nssr = none) ∧
    ((({} : Dev).inHst fun h => { h with nssr := some 0 }).hst.nssr = some 0 ∧ (∃ c ∈ (kCache kSec).zne.cache, c.held = false) ∧ (∀ c ∈ (kCache { kSec with held := true }).zne.cache, c.held = true) ∧
      0 + 10000000000 ≤ (({} : Dev).atTime 10000000000).now ∧ ({} : Dev).now < 0 + 10000000000) := by
  and_intros <;> decide +kernel

theorem wit_theMachine :
    (({} : Dev).live 0 = true ∧ State.reset.pending = [] ∧ State.reset.dev.regsOk = true ∧ State.reset.queueOk = true ∧ State.reset.dev.tbase.toNat % 4 = 0 ∧
      (oPwr (fun p => { p with kennel := false }) []).pwr.kennel = false ∧ (oPwr (fun p => { p with held := true }) []).pwr.held = true ∧
      (oPwr (fun p => { p with held := true }) []).live 1 = false) ∧
    (∃ t, step State.reset = .next t) ∧ (∃ t, exec .kennelPowerLost State.reset = .next t) ∧ (∃ t, exec .kennelPowerOn (st (oPwr (fun p => { p with kennel := false }) [])) = .next t) ∧
      ∃ t, exec .kennelPowerLost (st (oPwr (fun p => { p with held := true }) [])) = .next t := by
  exact ⟨by and_intros <;> decide +kernel, ⟨_, rfl⟩, ⟨_, rfl⟩, ⟨_, rfl⟩, ⟨_, rfl⟩⟩
end Sys2Proof.Tests
end

section
/-! SUPPORT. What every operation keeps: the variant, TBASE and the canonical form of the register map, by one lemma for each operation of the device. -/
namespace Sys2Proof.Machine

/-- From `d0` to `d` the variant and TBASE stay as they are, and a register map in canonical form stays in it. -/
structure Kept (d0 d : Dev) : Prop where
  v : d.v = d0.v
  tbase : d.tbase = d0.tbase
  regsOk : d0.regsOk = true → d.regsOk = true

section
variable {d0 d : Dev}

theorem Kept.refl (d : Dev) : Kept d d := ⟨rfl, rfl, id⟩

/-- An update of the other parts of the device. -/
theorem Kept.rest {st po lo bg cn sh ro me lg fl ld dl hs cm zn se bu sc md dm ch de wr sr la sp ms pw rn sq fr} (h : Kept d0 d) :
    Kept d0 ⟨d.v, d.regs, st, d.tbase, po, lo, bg, cn, sh, ro, me, lg, fl, ld, dl, hs, cm, zn, se, bu, sc, md, dm, ch, de, wr, sr, la, sp, ms, pw, rn, sq, fr⟩ :=
  ⟨h.v, h.tbase, h.regsOk⟩

/-! ### The control flow of a definition -/

theorem Kept.ite {c : Prop} [Decidable c] {a b : Dev} (ha : Kept d0 a) (hb : Kept d0 b) : Kept d0 (if c then a else b) := by
  split
  · exact ha
  · exact hb
theorem Kept.iteS {α : Type} {c : Prop} [Decidable c] {a b : α × Dev} (ha : Kept d0 a.2) (hb : Kept d0 b.2) : Kept d0 (if c then a else b).2 := by
  split
  · exact ha
  · exact hb
theorem Kept.iteF {α : Type} {c : Prop} [Decidable c] {a b : Dev × α} (ha : Kept d0 a.1) (hb : Kept d0 b.1) : Kept d0 (if c then a else b).1 := by
  split
  · exact ha
  · exact hb
theorem Kept.ofS {α : Type} {p : α × Dev} {a : α} (he : p = (a, d)) (h : Kept d0 p.2) : Kept d0 d := by subst he; exact h
theorem Kept.ofSS {α β : Type} {p : α × β × Dev} {a : α} {b : β} (he : p = (a, b, d)) (h : Kept d0 p.2.2) : Kept d0 d := by subst he; exact h
theorem Kept.ofF {α : Type} {p : Dev × α} {a : α} (he : p = (d, a)) (h : Kept d0 p.1) : Kept d0 d := by subst he; exact h
theorem Kept.foldl {α : Type} {f : Dev → α → Dev} {l : List α} (hf : ∀ d x, Kept d0 d → Kept d0 (f d x)) (h : Kept d0 d) : Kept d0 (l.foldl f d) := by
  induction l generalizing d with
  | nil => exact h
  | cons x l ih => exact ih (hf d x h)
theorem Kept.foldlF {α β : Type} {f : Dev × β → α → Dev × β} {l : List α} {p : Dev × β} (hf : ∀ p x, Kept d0 p.1 → Kept d0 (f p x).1) (h : Kept d0 p.1) : Kept d0
  (l.foldl f p).1 := by
  induction l generalizing p with
  | nil => exact h
  | cons x l ih => exact ih (hf p x h)


/-! ### The operations of Machine/Ops.lean -/

theorem Kept.setWord {a w} (h : Kept d0 d) : Kept d0 (d.setWord a w) := ⟨h.v, h.tbase, fun h0 => Dev.wf_setWord d a w (h.regsOk h0)⟩
theorem Kept.setFld {f v} (h : Kept d0 d) : Kept d0 (d.setFld f v) := .setWord h
theorem Kept.setFlag {f b} (h : Kept d0 d) : Kept d0 (d.setFlag f b) := .setFld h
theorem Kept.incSat {f n} (h : Kept d0 d) : Kept d0 (d.incSat f n) := .setFld h
theorem Kept.drawNat (h : Kept d0 d) : Kept d0 (d.drawNat).2 := h.rest
theorem Kept.drawBytes {n} (h : Kept d0 d) : Kept d0 (d.drawBytes n).2 := h.rest
theorem Kept.bump {b i n} (h : Kept d0 d) : Kept d0 (d.bump b i n) := h.rest
theorem Kept.setCtrl {c x} (h : Kept d0 d) : Kept d0 (d.setCtrl c x) := .ite (.rest h) (.rest h)
theorem Kept.handOver {c} (h : Kept d0 d) : Kept d0 (d.handOver c) := h.rest
theorem Kept.raiseAen {c e} (h : Kept d0 d) : Kept d0 (d.raiseAen c e) := by
  unfold Dev.raiseAen
  extract_lets +onlyGivenNames _
  refine .ite h ?_
  split
  · exact .handOver (.setCtrl h)
  · exact .setCtrl h
theorem Kept.raiseAenAll {e} (h : Kept d0 d) : Kept d0 (d.raiseAenAll e) := .foldl (fun _ _ h1 => .ite (.raiseAen h1) h1) h
theorem Kept.unmaskPage {c p} (h : Kept d0 d) : Kept d0 (d.unmaskPage c p) := .setCtrl h
theorem Kept.critWarn {bits info} (h : Kept d0 d) : Kept d0 (d.critWarn bits info) := .raiseAenAll (.rest h)
theorem Kept.loseEvent {b inj} (h : Kept d0 d) : Kept d0 (d.loseEvent b inj) := h.rest
theorem Kept.pushEvent {e} (h : Kept d0 d) : Kept d0 (d.pushEvent e) := h.rest
theorem Kept.reportLost {b} (h : Kept d0 d) : Kept d0 (d.reportLost b) := .ite (.pushEvent (.rest h)) h
theorem Kept.event {b n p1 p2 p3 src} (h : Kept d0 d) : Kept d0 (d.event b n p1 p2 p3 src) :=
  .ite (.loseEvent (.setFlag (.ite h (.critWarn h)))) (.ite (.pushEvent (.reportLost (.ite h (.critWarn h)))) (.loseEvent (.reportLost (.ite h (.critWarn h)))))
theorem Kept.flagFault {b cls bit} (h : Kept d0 d) : Kept d0 (d.flagFault b cls bit) := .incSat (.ite (.setFld (.setFld h)) (.setFld h))
theorem Kept.fault {b cls bit p2 inj src} (h : Kept d0 d) : Kept d0 (d.fault b cls bit p2 inj src) := .event (.flagFault h)
theorem Kept.memError {b m e} (h : Kept d0 d) : Kept d0 (d.memError b m e) := h.rest
theorem Kept.sram {b m r inj} (h : Kept d0 d) : Kept d0 (d.sram b m r inj) := by
  unfold Dev.sram
  split
  · exact h
  · exact .event (.memError (.ite (.bump h) h))
  · exact .event (.flagFault (.memError (.ite (.bump h) h)))
theorem Kept.setPool {b j p} (h : Kept d0 d) : Kept d0 (d.setPool b j p) := h.rest
theorem Kept.freeSlot {b j} (h : Kept d0 d) : Kept d0 (d.freeSlot b j) := .ite h (.setPool h)
theorem Kept.sendTo {b j payload} (h : Kept d0 d) : Kept d0 (d.sendTo b j payload) := by
  unfold Dev.sendTo
  split
  · exact .setPool h
  · exact h
theorem Kept.raiseBg {k} (h : Kept d0 d) : Kept d0 (d.raiseBg k) := h.rest
theorem Kept.grantBg {k} (h : Kept d0 d) : Kept d0 (d.grantBg k) := h.rest
theorem Kept.resWrite {b a v who} (h : Kept d0 d) : Kept d0 (d.resWrite b a v who) := .event h

/-! ### The operations of Machine/Access.lean -/

theorem Kept.readEffect {a} (h : Kept d0 d) : Kept d0 (d.readEffect a) := .ite (.setFld h) (.ite (.setFld h) (.ite (.setFld h) h))
theorem Kept.access {a} (h : Kept d0 d) : Kept d0 (d.access a).2.2 := by
  unfold Dev.access
  split
  · exact .readEffect h
  · exact h
theorem Kept.memPageClear {b o v} (h : Kept d0 d) : Kept d0 (d.memPageClear b o v) := .ite h (.ite (.rest h) (.ite (.rest h) h))
theorem Kept.stage {b a ws v} (h : Kept d0 d) : Kept d0 (d.stage b a ws v) := .setFld (.rest h)
theorem Kept.regWrite {a v who} (h : Kept d0 d) : Kept d0 (d.regWrite a v who).1 := by
  unfold Dev.regWrite
  refine .iteF h ?_
  split
  · exact h
  · extract_lets +onlyGivenNames _ d1 _ _ d2
    have h1 : Kept d0 d1 := .ite (.resWrite h) h
    have h2 : Kept d0 d2 := .ite h1 (.setWord h1)
    exact .ite (.ite h2 (.memPageClear h2)) (.stage (.ite h2 (.memPageClear h2)))
theorem Kept.commitEffect {a old} (h : Kept d0 d) : Kept d0 (d.commitEffect a old) := by
  unfold Dev.commitEffect
  split
  · exact .ite (.ite (.setPool h) h) (.ite (.ite (.setFld h) (.ite (.rest h) h)) h)
  · exact h
theorem Kept.applyStaged {b} (h : Kept d0 d) : Kept d0 (d.applyStaged b) := .setFld (.foldl (fun _ _ h1 => .rest (.commitEffect (.setWord h1))) h)

/-! ### The operations of Machine/CmdOps.lean -/

theorem Kept.putCmd {c} (h : Kept d0 d) : Kept d0 (d.putCmd c) := h.rest
theorem Kept.addError {t st nsid lba} (h : Kept d0 d) : Kept d0 (d.addError t st nsid lba) := .setCtrl (.drawNat h)
theorem Kept.finish {t st dw0 dw1} (h : Kept d0 d) : Kept d0 (d.finish t st dw0 dw1) := .ite (.rest h) (.handOver (.ite (.rest h) (.addError (.rest h))))
theorem Kept.modCmd {t f} (h : Kept d0 d) : Kept d0 (d.modCmd t f) := h.rest
theorem Kept.failFenced {t} (h : Kept d0 d) : Kept d0 (d.failFenced t) := .ite (.finish h) h
theorem Kept.host {t minimalOk f} (hf : ∀ e, Kept d0 e → Kept d0 (f e)) (h : Kept d0 d) : Kept d0 (d.host t minimalOk f) := .ite (.finish h) (hf _ h)
theorem Kept.sendData {t b} (h : Kept d0 d) : Kept d0 (d.sendData t b) := h.rest
theorem Kept.reply {t b} (h : Kept d0 d) : Kept d0 (d.reply t b) := .finish (.sendData h)

/-! ### The operations of Machine/PowerOps.lean -/

theorem Kept.modPwr {f} (h : Kept d0 d) : Kept d0 (d.modPwr f) := h.rest
theorem Kept.showGrants (h : Kept d0 d) : Kept d0 d.showGrants := .setFld (.setFld (.setFld (.setFld (.setFld (.setFld (.setFld h))))))
theorem Kept.withdraw {x1} (h : Kept d0 d) : Kept d0 (d.withdraw x1) := by
  induction x1 generalizing d with
  | zero => exact h
  | succ x1 ih =>
    unfold Dev.withdraw
    split
    · exact h
    · exact .ite h (ih (.event (.bump (.modPwr h))))
theorem Kept.grantNext {x1} (h : Kept d0 d) : Kept d0 (d.grantNext x1) := by
  induction x1 generalizing d with
  | zero => exact h
  | succ x1 ih =>
    unfold Dev.grantNext
    split
    · exact h
    · exact .ite (ih (.bump (.modPwr h))) h
theorem Kept.govern (h : Kept d0 d) : Kept d0 d.govern := .showGrants (.grantNext (.withdraw h))
theorem Kept.headRequest {n wr} (h : Kept d0 d) : Kept d0 (d.headRequest n wr) := by
  unfold Dev.headRequest
  extract_lets +onlyGivenNames _ d1 d2
  have h1 : Kept d0 d1 := .modPwr h
  have h2 : Kept d0 d2 := .ite (.setFlag h1) (.govern h1)
  exact .ite (.bump h2) h2
theorem Kept.headRelease {n} (h : Kept d0 d) : Kept d0 (d.headRelease n) := .govern (.modPwr h)
theorem Kept.headreqWrite {v who} (h : Kept d0 d) : Kept d0 (d.headreqWrite v who) := by
  unfold Dev.headreqWrite
  extract_lets +onlyGivenNames _
  refine .ite (.resWrite h) ?_
  extract_lets +onlyGivenNames d1
  have h1 : Kept d0 d1 := .regWrite h
  split
  · exact .headRequest h1
  · exact .headRequest h1
  · exact .headRelease h1
  · exact h1
theorem Kept.setDomains {on} (h : Kept d0 d) : Kept d0 (d.setDomains on) := .setFld (.setFld h)
theorem Kept.showVotes (h : Kept d0 d) : Kept d0 d.showVotes := .setFld (.setFld (.setFld h))
theorem Kept.voted {old} (h : Kept d0 d) : Kept d0 (d.voted old) := .showVotes (.ite h (.modPwr h))

/-! ### The operations of Machine/BufOps.lean -/

theorem Kept.setDevState {x st} (h : Kept d0 d) : Kept d0 (d.setDevState x st) := .setFld h
theorem Kept.setValid {g b} (h : Kept d0 d) : Kept d0 (d.setValid g b) := h.rest
theorem Kept.setSlotMap {a m} (h : Kept d0 d) : Kept d0 (d.setSlotMap a m) := .setFld (.ite (.rest h) (.rest h))
theorem Kept.setSlotBusy {a k b} (h : Kept d0 d) : Kept d0 (d.setSlotBusy a k b) := .setSlotMap h
theorem Kept.slotRead {a line} (h : Kept d0 d) : Kept d0 (d.slotRead a line) := by
  unfold Dev.slotRead
  extract_lets +onlyGivenNames _ _
  refine .ite h ?_
  split
  · exact h
  · exact .setSlotMap h
theorem Kept.bufDisarm (h : Kept d0 d) : Kept d0 d.bufDisarm := .setFlag h
theorem Kept.setSym {line beat dev v} (h : Kept d0 d) : Kept d0 (d.setSym line beat dev v) := h.rest
theorem Kept.storeLine {line data devs} (h : Kept d0 d) : Kept d0 (d.storeLine line data devs) := .foldl (fun _ _ h1 => .foldl (fun _ _ h2 => .setSym h2) h1) h
theorem Kept.validStruck {g} (h : Kept d0 d) : Kept d0 (d.validStruck g) := .ite (.sram (.bufDisarm h)) h
theorem Kept.closeFill {e} (h : Kept d0 d) : Kept d0 (d.closeFill e) := .setFld (.rest (.bump (.validStruck (.setValid (.foldl (fun _ _ h1 => .storeLine h1) h)))))
theorem Kept.trackFill {line} (h : Kept d0 d) : Kept d0 (d.trackFill line) := by
  unfold Dev.trackFill
  extract_lets +onlyGivenNames _
  refine .ite h ?_
  split
  · exact .ite (.closeFill (.rest h)) (.rest h)
  · extract_lets +onlyGivenNames d1
    have h1 : Kept d0 d1 := by
      refine .ite ?_ h
      split
      · exact .closeFill h
      · exact h
    exact .setFld (.rest h1)
theorem Kept.countCorr {x} (h : Kept d0 d) : Kept d0 (d.countCorr x) := .ite (.event (.rest (.bump h))) (.rest (.bump h))
theorem Kept.countEdc {x inj} (h : Kept d0 d) : Kept d0 (d.countEdc x inj) := .ite (.event (.setFld (.rest (.bump h)))) (.rest (.bump h))
theorem Kept.edcRun {edc line devs} (h : Kept d0 d) : Kept d0 (d.edcRun edc line devs).1 :=
  .foldlF (fun _ _ h1 => .iteF (.countEdc (.bump (.ite (.bufDisarm h1) h1))) (.bump (.ite (.bufDisarm h1) h1))) h
theorem Kept.lineRead {line edc src} (h : Kept d0 d) : Kept d0 (d.lineRead line edc src).1 := by
  unfold Dev.lineRead
  extract_lets +onlyGivenNames d1 d2
  have h1 : Kept d0 d1 := .ite (.slotRead (.slotRead h)) h
  have h2 : Kept d0 d2 := .bump h1
  refine .iteF (.bump h2) ?_
  split
  rename_i d3 bad he
  have h3 : Kept d0 d3 := .ofF he (.edcRun h2)
  extract_lets +onlyGivenNames _
  split
  extract_lets +onlyGivenNames d4 d5
  have h4 : Kept d0 d4 := .ite (.bufDisarm h3) h3
  have h5 : Kept d0 d5 := .foldl (fun _ _ h5 => .memError (.countCorr h5)) h4
  split
  · exact h5
  · exact .event (.flagFault (.bump (.memError h5)))
theorem Kept.mixLine {line data x} (h : Kept d0 d) : Kept d0 (d.mixLine line data x) := .foldl (fun _ _ h1 => .ite (.setSym (.rest h1)) (.rest h1)) h
theorem Kept.lineWrite {line data edc} (h : Kept d0 d) : Kept d0 (d.lineWrite line data edc) := by
  unfold Dev.lineWrite
  extract_lets +onlyGivenNames d1
  have h1 : Kept d0 d1 := .trackFill (.bump h)
  split
  rename_i d2 bad he
  have h2 : Kept d0 d2 := .ofF he (.edcRun h1)
  extract_lets +onlyGivenNames d3 d4
  have h3 : Kept d0 d3 := .storeLine h2
  have h4 : Kept d0 d4 := .foldl (fun _ _ h4 => .mixLine h4) h3
  exact .ite (.rest (.bufDisarm (.foldl (fun _ _ h6 => .setSym h6) (.rest h4)))) (.rest h4)
theorem Kept.bufAsk {r} (h : Kept d0 d) : Kept d0 (d.bufAsk r) := .ite (.rest h) (.rest h)
theorem Kept.bufTake {c id r e} (h : Kept d0 d) (he : d.bufTake c id = some (r, e)) : Kept d0 e := by
  unfold Dev.bufTake at he
  split at he
  · cases he; exact h.rest
  · cases he
theorem Kept.newRound (h : Kept d0 d) : Kept d0 d.newRound := h.rest
theorem Kept.bufIdle (h : Kept d0 d) : Kept d0 d.bufIdle := by
  unfold Dev.bufIdle
  split
  · exact .ite (.newRound h) h
  · exact .ite (.newRound h) h
  · exact h
theorem Kept.bufCharge {c group units} (h : Kept d0 d) : Kept d0 (d.bufCharge c group units) := .ite (.newRound (.bump (.rest h))) (.bump (.rest h))
theorem Kept.ringUnits {p k} (h : Kept d0 d) : Kept d0 (d.ringUnits p k) := .foldl (fun _ _ h1 => .bufCharge h1) h
theorem Kept.bufServe {r edc x3} (h : Kept d0 d) : Kept d0 (d.bufServe r edc x3).1 := by
  induction x3 generalizing d r edc with
  | zero => exact h
  | succ x3 ih =>
    unfold Dev.bufServe
    split
    · exact ih (.lineRead h)
    · exact ih (.lineWrite h)
theorem Kept.upset {us} (h : Kept d0 d) : Kept d0 (d.upset us) := .foldl (fun _ _ h1 => .setSym h1) h

/-! ### The operations of Machine/FlashOps.lean -/

theorem Kept.setFword {word w} (h : Kept d0 d) : Kept d0 (d.setFword word w) := h.rest
theorem Kept.eraseWords {x} (h : Kept d0 d) : Kept d0 (d.eraseWords x) := h.rest
theorem Kept.tearWords {x} (h : Kept d0 d) : Kept d0 (d.tearWords x) := h.rest
theorem Kept.setBank {k b} (h : Kept d0 d) : Kept d0 (d.setBank k b) := .ite (.rest h) (.rest h)
theorem Kept.flcStat (h : Kept d0 d) : Kept d0 d.flcStat := .setFld (.setFld h)
theorem Kept.slotEnd {slot st pulses} (h : Kept d0 d) : Kept d0 (d.slotEnd slot st pulses) := .ite h (.setFld (.setFld (.setFld (.setFld h))))
theorem Kept.flashRefuse {slot st word op} (h : Kept d0 d) : Kept d0 (d.flashRefuse slot st word op) := .bump (.event (.slotEnd h))
theorem Kept.flashBusy {slot word op} (h : Kept d0 d) : Kept d0 (d.flashBusy slot word op) := .bump (.event h)
theorem Kept.slotData {slot b} (h : Kept d0 d) : Kept d0 (d.slotData slot b) := .foldl (fun _ _ h1 => .setFld h1) h
theorem Kept.readFword {src word flips} (h : Kept d0 d) : Kept d0 (d.readFword src word flips).2 :=
  .ite (.bump (.memError (.event (.ite (.setFlag h) h)))) (.ite (.bump (.memError (.event (.ite (.setFlag h) h)))) (.ite (.setFlag h) h))
theorem Kept.serveRead {slot word flips} (h : Kept d0 d) : Kept d0 (d.serveRead slot word flips) := by
  unfold Dev.serveRead
  split
  · exact .bump (.event (.slotEnd (.slotData h)))
  · exact .bump (.slotEnd (.slotData (.readFword h)))
theorem Kept.serveWaiting {k} (h : Kept d0 d) : Kept d0 (d.serveWaiting k) := .foldl (fun _ _ h1 => .serveRead h1) (.setBank h)
theorem Kept.intentWrite {b ty sector seq} (h : Kept d0 d) : Kept d0 (d.intentWrite b ty sector seq) := .ite (.rest (.setFword h)) (.rest (.setFword h))
theorem Kept.startOp {o} (h : Kept d0 d) : Kept d0 (d.startOp o) :=
  .ite (.flashRefuse h) (.ite (.flashRefuse h) (.ite (.flcStat (.bump (.setBank (.tearWords (.intentWrite (.rest h)))))) (.ite (.bump (.setBank h)) (.event
    (.slotEnd h)))))
theorem Kept.queueOp {o} (h : Kept d0 d) : Kept d0 (d.queueOp o) := .ite (.startOp h) (.setBank h)
theorem Kept.nextOps {k} (h : Kept d0 d) : Kept d0 (d.nextOps k) := by
  unfold Dev.nextOps
  extract_lets d1 go
  have hgo {e k} (h : Kept d0 e) : Kept d0 (go e k) := by
    unfold go
    dsimp only
    split
    · split
      · exact .startOp (.setBank h)
      · exact h
    · exact h
  exact .flcStat (hgo (hgo (.serveWaiting h)))
theorem Kept.intentRollover {b} (h : Kept d0 d) : Kept d0 (d.intentRollover b) := .ite h (.queueOp (.ite (.rest h) (.rest h)))
theorem Kept.endOp {k o st} (h : Kept d0 d) : Kept d0 (d.endOp k o st) := .nextOps (.slotEnd (.setBank h))
theorem Kept.programWord {word data slot} (h : Kept d0 d) : Kept d0 (d.programWord word data slot).1 :=
  .iteF (.bump (.bump (.setFword h))) (.iteF (.event h) (.bump (.event h)))
theorem Kept.eraseSector {x} (h : Kept d0 d) : Kept d0 (d.eraseSector x) :=
  .ite (.bump (.event h)) (.ite (.bump (.event h)) (.ite (.bump (.event h)) (.intentRollover (.bump (.bump (.intentWrite (.eraseWords (.intentWrite (.rest h)))))))))
theorem Kept.execEnd (h : Kept d0 d) : Kept d0 d.execEnd := .rest (.setFld h)
theorem Kept.flashPowerFail (h : Kept d0 d) : Kept d0 d.flashPowerFail := by
  unfold Dev.flashPowerFail
  extract_lets abort d1
  have ha {e k} (h : Kept d0 e) : Kept d0 (abort e k) := by
    unfold abort
    split
    · exact .ite (.endOp (.event h)) h
    · exact h
  exact ha (ha (.ite (.execEnd h) h))

/-! ### The operations of Machine/ZoneOps.lean -/

theorem Kept.modZne {f} (h : Kept d0 d) : Kept d0 (d.modZne f) := h.rest
theorem Kept.setNs {n} (h : Kept d0 d) : Kept d0 (d.setNs n) := .modZne h
theorem Kept.setZctx {i c} (h : Kept d0 d) : Kept d0 (d.setZctx i c) := .ite (.sram (.setFlag (.setFld (.modZne h)))) (.setFld (.modZne h))
theorem Kept.setCond {i c k} (h : Kept d0 d) : Kept d0 (d.setCond i c k) := .setZctx h
theorem Kept.jput {r} (h : Kept d0 d) : Kept d0 (d.jput r) := .bump (.modZne (.programWord h))
theorem Kept.jswitch (h : Kept d0 d) : Kept d0 d.jswitch := .foldl (fun _ _ h3 => .eraseSector h3) (.foldl (fun _ _ h2 => .jput h2) (.modZne h))
theorem Kept.jwrite {r} (h : Kept d0 d) : Kept d0 (d.jwrite r) := .jput (.ite (.jswitch h) h)
theorem Kept.jclean (h : Kept d0 d) : Kept d0 d.jclean := .jwrite (.foldl (fun _ _ h1 => .jwrite h1) h)
theorem Kept.newGen (h : Kept d0 d) : Kept d0 (d.newGen).2 := .iteS (.event (.setFld h)) (.setFld h)
theorem Kept.mapCache {p f} (h : Kept d0 d) : Kept d0 (d.mapCache p f) := .modZne h
theorem Kept.syncZone {n z} (h : Kept d0 d) : Kept d0 (d.syncZone n z) := .setZctx h
theorem Kept.advanceMedia {n z} (h : Kept d0 d) : Kept d0 (d.advanceMedia n z) := by
  unfold Dev.advanceMedia
  extract_lets +onlyGivenNames _ _ _
  refine .ite h ?_
  extract_lets +onlyGivenNames _ d1
  have h1 : Kept d0 d1 := .setZctx h
  exact .ite (.jwrite (.ite (.jwrite h1) h1)) (.ite (.jwrite h1) h1)
theorem Kept.endShutdown (h : Kept d0 d) : Kept d0 d.endShutdown := .ite h (.jclean (.foldl (fun _ _ h1 => .ite (.setCtrl h1) (.event (.setCtrl h1))) h))
theorem Kept.dropCache {p} (h : Kept d0 d) : Kept d0 (d.dropCache p).2.2 := by
  dsimp only [Dev.dropCache]
  exact .modZne h
theorem Kept.releaseHeld {p} (h : Kept d0 d) : Kept d0 (d.releaseHeld p) := .mapCache h
theorem Kept.resetZone {n z} (h : Kept d0 d) : Kept d0 (d.resetZone n z) := by
  unfold Dev.resetZone
  extract_lets +onlyGivenNames _ _
  refine .ite h ?_
  split
  rename_i secs runs d1 he
  have h1 : Kept d0 d1 := .ofSS he (.dropCache h)
  exact .ite (.bump (.jwrite (.setZctx (.newGen h1)))) (.event (.bump (.jwrite (.setZctx (.newGen h1)))))
theorem Kept.finishZone {n z} (h : Kept d0 d) : Kept d0 (d.finishZone n z) := .ite h (.setZctx (.bump (.jwrite (.ite (.jwrite h) h))))
theorem Kept.zoneAct {c n zs p f} (hf : ∀ e y1, Kept d0 e → Kept d0 (f e y1)) (h : Kept d0 d) : Kept d0 (d.zoneAct c n zs p f) := by
  unfold Dev.zoneAct
  exact .ite (.finish (.foldl hf h)) (.modCmd h)
theorem Kept.needMet {c} (h : Kept d0 d) : Kept d0 (d.needMet c) := by
  unfold Dev.needMet
  split
  · split
    · exact .zoneAct (fun _ _ h1 => .resetZone h1) h
    · exact .finish h
  · split
    · exact .ite (.finish h) (.zoneAct (fun _ _ h1 => .finishZone h1) h)
    · exact .finish h
  · exact .finish h
theorem Kept.noteSector {key arrived} (h : Kept d0 d) : Kept d0 (d.noteSector key arrived) := by
  unfold Dev.noteSector
  extract_lets +onlyGivenNames _ _
  refine .foldl (fun _ _ h1 => ?_) h
  split
  · exact .ite (.needMet (.putCmd h1)) (.putCmd h1)
  · exact h1
theorem Kept.failSector1 {key} (h : Kept d0 d) : Kept d0 (d.failSector1 key) := .foldl (fun _ _ h1 => .finish h1) h
theorem Kept.secWritten {c} (h : Kept d0 d) : Kept d0 (d.secWritten c) := by
  unfold Dev.secWritten
  extract_lets +onlyGivenNames d1 d2
  have h1 : Kept d0 d1 := .modZne h
  have h2 : Kept d0 d2 := by
    unfold d2
    split
    · exact .syncZone (.advanceMedia h1)
    · exact h1
  exact .endShutdown (.noteSector h2)
theorem Kept.holdSectors {p} (h : Kept d0 d) : Kept d0 (d.holdSectors p) := by
  unfold Dev.holdSectors
  extract_lets +onlyGivenNames _
  refine .ite h ?_
  extract_lets +onlyGivenNames d1 d2
  have h1 : Kept d0 d1 := .mapCache h
  have h2 : Kept d0 d2 := by
    refine .foldl (fun _ _ h3 => ?_) h1
    split
    · exact .syncZone h3
    · exact h3
  exact .endShutdown (.raiseAenAll (.foldl (fun _ _ h3 => .failSector1 h3) h2))
theorem Kept.linesArrived {c first n} (h : Kept d0 d) : Kept d0 (d.linesArrived c first n) := by
  unfold Dev.linesArrived
  extract_lets +onlyGivenNames _ _ d1 d2
  have h1 : Kept d0 d1 := .foldl (fun _ _ h1 => .mapCache h1) h
  have h2 : Kept d0 d2 := by
    unfold d2
    split
    · exact .syncZone h1
    · exact h1
  refine .foldl (fun _ _ h3 => ?_) h2
  split
  · exact .ite (.noteSector h3) h3
  · exact h3
theorem Kept.zeroRest {c} (h : Kept d0 d) : Kept d0 (d.zeroRest c).2 := by
  unfold Dev.zeroRest
  extract_lets +onlyGivenNames _ _ d1 d2
  have h1 : Kept d0 d1 := .mapCache h
  have h2 : Kept d0 d2 := by
    unfold d2
    split
    · exact .syncZone h1
    · exact h1
  exact .foldl (fun _ _ h3 => .noteSector h3) h2
theorem Kept.cmdCheck {t} (h : Kept d0 d) : Kept d0 (d.cmdCheck t) := by
  unfold Dev.cmdCheck
  split
  · exact h
  · refine .ite h ?_
    split
    · exact .finish h
    · split
      · exact .ite (.finish h) h
      · split
        · exact .finish (.zeroRest h)
        · exact .ite (.finish (.putCmd h)) (.ite (.modCmd (.putCmd h)) (.finish (.putCmd h)))
      · split
        · exact .finish (.zeroRest h)
        · exact .ite (.finish (.putCmd h)) (.ite (.modCmd (.putCmd h)) (.finish (.putCmd h)))
      · split
        · exact .finish (.zeroRest h)
        · exact .ite (.finish (.putCmd h)) (.ite (.modCmd (.putCmd h)) (.finish (.putCmd h)))
      · exact h
theorem Kept.cmdReport {t first st done} (h : Kept d0 d) : Kept d0 (d.cmdReport t first st done) := by
  unfold Dev.cmdReport
  split
  · exact h
  · extract_lets +onlyGivenNames _ _ d1
    have h1 : Kept d0 d1 := by
      unfold d1
      split
      · exact .linesArrived h
      · exact .linesArrived h
      · exact .rest h
      · exact h
    exact .cmdCheck (.modCmd h1)

/-! ### The operations of Machine/DmaOps.lean -/

theorem Kept.modDma {f} (h : Kept d0 d) : Kept d0 (d.modDma f) := h.rest
theorem Kept.setDch {x c} (h : Kept d0 d) : Kept d0 (d.setDch x c) := .setFlag (.modDma h)
theorem Kept.setSlotDesc {x i c} (h : Kept d0 d) : Kept d0 (d.setSlotDesc x i c) := .modDma h
theorem Kept.setHalted {x b} (h : Kept d0 d) : Kept d0 (d.setHalted x b) := .setFld (.setFlag h)
theorem Kept.dmaReport {seq x c status done idx} (h : Kept d0 d) : Kept d0 (d.dmaReport seq x c status done idx) := by
  unfold Dev.dmaReport
  extract_lets +onlyGivenNames d1
  have h1 : Kept d0 d1 := .modDma h
  split
  · exact .cmdReport h1
  · exact h1
theorem Kept.sendTx {t} (h : Kept d0 d) : Kept d0 (d.sendTx t) := h.rest
theorem Kept.hostWrite {ch addr b} (h : Kept d0 d) : Kept d0 (d.hostWrite ch addr b) := .bump (.bump (.sendTx h))
theorem Kept.hostRead {burst ofs ch port addr len} (h : Kept d0 d) : Kept d0 (d.hostRead burst ofs ch port addr len) := .bump (.bump (.sendTx (.rest h)))
theorem Kept.fetchDesc {x} (h : Kept d0 d) : Kept d0 (d.fetchDesc x) := .ite (.setDch h) (.ite h (.hostRead (.setDch h)))
theorem Kept.endDesc {x c idx status done inj} (h : Kept d0 d) : Kept d0 (d.endDesc x c idx status done inj) := by
  unfold Dev.endDesc
  extract_lets +onlyGivenNames _ d1 d2 _ d3
  have h1 : Kept d0 d1 := .setFld (.setFld h)
  have h2 : Kept d0 d2 := .bump h1
  have h3 : Kept d0 d3 := .ite (.event (.setHalted h2)) h2
  exact .ite (.dmaReport (.setSlotDesc h3)) (.ite (.sendTx (.hostWrite h3)) (.hostWrite h3))
theorem Kept.abandonRing {x x2} (h : Kept d0 d) : Kept d0 (d.abandonRing x x2) := by
  induction x2 generalizing d x with
  | zero => exact h
  | succ x2 ih =>
    unfold Dev.abandonRing
    exact .ite (ih (.endDesc h)) h
theorem Kept.settleDma {x x2} (h : Kept d0 d) : Kept d0 (d.settleDma x x2) := by
  induction x2 generalizing d x with
  | zero => exact h
  | succ x2 ih =>
    unfold Dev.settleDma
    extract_lets +onlyGivenNames _
    split
    · exact .ite (.setDch (.setHalted (.abandonRing h))) (.ite (.fetchDesc h) h)
    · exact .ite (ih (.endDesc (.setDch h))) h
theorem Kept.settleCh {x} (h : Kept d0 d) : Kept d0 (d.settleCh x) := .settleDma h
theorem Kept.dmaPost {seq x c} (h : Kept d0 d) : Kept d0 (d.dmaPost seq x c) :=
  .ite (.dmaReport (.event (.bump h))) (.ite (.dmaReport (.event (.bump h))) (.ite (.dmaReport (.event (.bump h))) (.bump (.setFld (.setSlotDesc h)))))
theorem Kept.postFor {seq x t first src dst lines swin} (h : Kept d0 d) : Kept d0 (d.postFor seq x t first src dst lines swin) :=
  .ite (.failFenced h) (.dmaPost (.modCmd (.modDma h)))
theorem Kept.freeStage {b} (h : Kept d0 d) : Kept d0 (d.freeStage b) := by
  unfold Dev.freeStage
  exact .modDma (.setFld h)
theorem Kept.modRunD {x idx f} (h : Kept d0 d) : Kept d0 (d.modRunD x idx f) := .setDch h
theorem Kept.descError {x idx status k inj} (h : Kept d0 d) : Kept d0 (d.descError x idx status k inj) := .settleCh (.modDma (.modRunD h))
theorem Kept.issueBurst {e x r} (h : Kept d0 d) : Kept d0 (d.issueBurst e x r) :=
  .ite h (.ite (.bufAsk (.modRunD (.modDma (.setFld h)))) (.foldl (fun _ _ h3 => .hostRead h3) (.modRunD (.modDma (.setFld h)))))
theorem Kept.dmaGrant {e} (h : Kept d0 d) : Kept d0 (d.dmaGrant e) := by
  unfold Dev.dmaGrant
  split
  · exact .ite (.bump h) h
  · extract_lets +onlyGivenNames d1
    have h1 : Kept d0 d1 := .modDma h
    split
    · exact h1
    · extract_lets +onlyGivenNames _ d2
      have h2 : Kept d0 d2 := .ite (.setDch h1) h1
      split
      · exact .descError h2
      · exact .issueBurst h2
theorem Kept.sendBurst {r b data} (h : Kept d0 d) : Kept d0 (d.sendBurst r b data) :=
  .ite (.foldl (fun _ _ h4 => .hostWrite h4) (.bump (.modRunD (.modDma h)))) (.bufAsk (.bump (.modRunD (.modDma h))))
theorem Kept.deliver {x x2} (h : Kept d0 d) : Kept d0 (d.deliver x x2) := by
  induction x2 generalizing d x with
  | zero => exact h
  | succ x2 ih =>
    unfold Dev.deliver
    split
    · exact h
    · split
      · exact .ite (ih (.sendBurst h)) h
      · exact h
theorem Kept.stageData {id ofs data bad inj} (h : Kept d0 d) : Kept d0 (d.stageData id ofs data bad inj) := by
  unfold Dev.stageData
  split
  · exact h
  · refine .ite (.freeStage h) ?_
    split
    · exact .deliver (.modDma h)
    · exact .ite (.descError (.freeStage h)) (.deliver (.descError (.modDma h)))
theorem Kept.burstAcked {b} (h : Kept d0 d) : Kept d0 (d.burstAcked b) := .foldl (fun _ _ h3 => .deliver h3) (.settleCh (.modRunD (.freeStage h)))
theorem Kept.dmaStop {x} (h : Kept d0 d) : Kept d0 (d.dmaStop x) := .settleCh (.setDch h)
theorem Kept.abandonDescs {t} (h : Kept d0 d) : Kept d0 (d.abandonDescs t) := .foldl (fun _ _ h2 => .ite (.settleCh (.setDch h2)) h2) (.modDma h)
theorem Kept.quit {t st dw0 f} (hf : ∀ e, Kept d0 e → Kept d0 (f e)) (h : Kept d0 d) : Kept d0 (d.quit t st dw0 f) :=
  .ite (.cmdCheck (hf _ (.modCmd h))) (.finish (hf _ h))
theorem Kept.dmaResume {x} (h : Kept d0 d) : Kept d0 (d.dmaResume x) := .ite (.fetchDesc (.setHalted h)) (.setHalted h)
theorem Kept.closeDiag (h : Kept d0 d) : Kept d0 d.closeDiag := .ite h (.event (.foldl (fun _ _ h2 => .ite (.dmaStop h2) h2) (.setFld (.rest h))))
theorem Kept.dmaCtrlWrite {x v who} (h : Kept d0 d) : Kept d0 (d.dmaCtrlWrite x v who) := by
  unfold Dev.dmaCtrlWrite
  extract_lets +onlyGivenNames d1 d2
  have h1 : Kept d0 d1 := .regWrite h
  have h2 : Kept d0 d2 := .ite (.dmaStop h1) h1
  exact .ite (.fetchDesc (.ite (.dmaResume h2) h2)) (.ite (.dmaResume h2) h2)
theorem Kept.postOut {seq lo step n c lba line} (h : Kept d0 d) : Kept d0 (d.postOut seq lo step n c lba line) := .foldl (fun _ _ h1 => .postFor h1) h

/-! ### The operations of Machine/RingOps.lean -/

theorem Kept.modRng {f} (h : Kept d0 d) : Kept d0 (d.modRng f) := h.rest
theorem Kept.setRport {p x} (h : Kept d0 d) : Kept d0 (d.setRport p x) := .modRng h
theorem Kept.modRport {p f} (h : Kept d0 d) : Kept d0 (d.modRport p f) := .setRport h
theorem Kept.setRstate {p v} (h : Kept d0 d) : Kept d0 (d.setRstate p v) := .setFld h
theorem Kept.bumpPort {p i} (h : Kept d0 d) : Kept d0 (d.bumpPort p i) := .bump h
theorem Kept.sendAck {p now} (h : Kept d0 d) : Kept d0 (d.sendAck p now) := .setRport h
theorem Kept.transmit {p f orig} (h : Kept d0 d) : Kept d0 (d.transmit p f orig) :=
  .ite (.bumpPort (.setRport (.ite (.setFlag h) h))) (.bumpPort (.modRport (.bumpPort (.setRport (.ite (.setFlag h) h)))))
theorem Kept.pumpN {p x2} (h : Kept d0 d) : Kept d0 (d.pumpN p x2) := by
  induction x2 generalizing d p with
  | zero => exact h
  | succ x2 ih =>
    unfold Dev.pumpN
    extract_lets +onlyGivenNames _
    split
    · exact h
    · exact ih (.transmit (.setRport h))
theorem Kept.pump {p} (h : Kept d0 d) : Kept d0 (d.pump p) := .pumpN h
theorem Kept.originate {p f} (h : Kept d0 d) : Kept d0 (d.originate p f) := .ite (.pump (.modRport h)) h
theorem Kept.forward {p f} (h : Kept d0 d) : Kept d0 (d.forward p f) := .ite (.pump (.modRport h)) (.modRport (.bumpPort h))
theorem Kept.showJobs (h : Kept d0 d) : Kept d0 d.showJobs := .setFld h
theorem Kept.zeroJob {j} (h : Kept d0 d) : Kept d0 (d.zeroJob j) := by
  unfold Dev.zeroJob
  refine .ite h ?_
  split
  · exact .ite (.zeroRest h) (.event (.bump (.zeroRest h)))
  · exact h
theorem Kept.sendJend {p dst tgt job status node first failed} (h : Kept d0 d) : Kept d0 (d.sendJend p dst tgt job status node first failed) := .originate h
theorem Kept.failJob {j st node} (h : Kept d0 d) : Kept d0 (d.failJob j st node) :=
  .showJobs (.quit (fun _ h5 => .abandonDescs h5) (.zeroJob (.event (.bump (.foldl (fun _ _ h3 => .sendJend h3) (.foldl (fun _ _ h2 => .sendJend h2) (.modRng h)))))))
theorem Kept.endEpoch (h : Kept d0 d) : Kept d0 d.endEpoch :=
  .showJobs (.modRng (.foldl (fun _ _ h2 => .quit (fun _ h3 => .abandonDescs h3) h2) (.foldl (fun _ _ h1 => .failJob h1) h)))
theorem Kept.learnEpoch {e} (h : Kept d0 d) : Kept d0 (d.learnEpoch e) := .ite (.modRng h) h
theorem Kept.enterEnum {e} (h : Kept d0 d) : Kept d0 (d.enterEnum e) :=
  .foldl (fun _ _ h5 => .originate h5) (.bump (.setFld (.setFld (.setFld (.setFld (.setFld (.modRng (.endEpoch (.learnEpoch (.setFld h))))))))))
theorem Kept.startEnum (h : Kept d0 d) : Kept d0 d.startEnum := .enterEnum h
theorem Kept.clearPort {p} (h : Kept d0 d) : Kept d0 (d.clearPort p) := by
  unfold Dev.clearPort
  exact .modRport (.foldl (fun _ _ h1 => .modRport (.bumpPort h1)) h)
theorem Kept.dropLink {p st} (h : Kept d0 d) : Kept d0 (d.dropLink p st) := .ite (.startEnum (.setRstate (.clearPort h))) (.setRstate (.clearPort h))
theorem Kept.refuseJoin {p why} (h : Kept d0 d) : Kept d0 (d.refuseJoin p why) := by
  unfold Dev.refuseJoin
  exact .modRport (.dropLink (.bump (.event h)))
theorem Kept.startJoin {p} (h : Kept d0 d) : Kept d0 (d.startJoin p) := .ite (.refuseJoin (.modRport h)) (.originate (.setRstate (.modRport (.drawBytes (n := 32) h))))
theorem Kept.failRing {p why} (h : Kept d0 d) : Kept d0 (d.failRing p why) := .startEnum (.event (.modRport (.setRstate (.clearPort h))))
theorem Kept.ringPorts {restart} (h : Kept d0 d) : Kept d0 (d.ringPorts restart) := .foldl (fun _ _ h1 => .ite (.dropLink h1) h1) h
theorem Kept.sendWhistle {p relay} (h : Kept d0 d) : Kept d0 (d.sendWhistle p relay) := .ite (.event (.bump (.modRport (.setRstate h)))) h
theorem Kept.chunkBlock {l b edc} (h : Kept d0 d) : Kept d0 (d.chunkBlock l b edc).2 := by
  unfold Dev.chunkBlock
  split
  · exact h
  · exact h
  · exact .iteS h (.lineRead (.lineRead h))
theorem Kept.serveSector {s i l} (h : Kept d0 d) : Kept d0 (d.serveSector s i l) := by
  refine .foldl (fun _ _ h1 => ?_) h
  split
  rename_i x d1 he
  exact .originate (.ofS he (.chunkBlock (.ringUnits h1)))
theorem Kept.serveN {s x2} (h : Kept d0 d) : Kept d0 (d.serveN s x2) := by
  induction x2 generalizing d s with
  | zero => exact h
  | succ x2 ih =>
    unfold Dev.serveN
    split
    · exact h
    · exact ih (.modRng (.serveSector h))
theorem Kept.serveReads (h : Kept d0 d) : Kept d0 d.serveReads := .foldl (fun _ _ h1 => .serveN h1) h
theorem Kept.ringLand {nsid lba l} (h : Kept d0 d) : Kept d0 (d.ringLand nsid lba l) := .serveReads (.modRng h)
theorem Kept.postResult {job i} (h : Kept d0 d) : Kept d0 (d.postResult job i) := by
  unfold Dev.postResult
  split
  · exact .postFor (.modRng h)
  · exact h
theorem Kept.postRead {job k} (h : Kept d0 d) : Kept d0 (d.postRead job k) := by
  unfold Dev.postRead
  split
  · split
    · exact h
    · split
      · exact h
      · exact .postFor (.modRng h)
  · exact h
theorem Kept.completeJob {j c} (h : Kept d0 d) : Kept d0 (d.completeJob j c) := by
  unfold Dev.completeJob
  extract_lets +onlyGivenNames d1 _ d2 d3
  have h1 : Kept d0 d1 := .showJobs (.modRng h)
  have h2 : Kept d0 d2 := .hostWrite h1
  have h3 : Kept d0 d3 := by
    refine .ite ?_ h2
    split
    · exact .event h2
    · exact h2
  exact .ite (.finish h3) (.modCmd h3)
theorem Kept.settleJob {job} (h : Kept d0 d) : Kept d0 (d.settleJob job) := by
  unfold Dev.settleJob
  split
  · exact h
  · extract_lets +onlyGivenNames d1
    have h1 : Kept d0 d1 := .ite (.foldl (fun _ _ h1 => .postResult h1) h) h
    split
    · refine .ite h1 ?_
      split
      · exact .failJob h1
      · exact .ite (.completeJob h1) h1
    · exact .failJob h1
    · exact h1
theorem Kept.settleRead {job} (h : Kept d0 d) : Kept d0 (d.settleRead job) := by
  unfold Dev.settleRead
  split
  · exact h
  · split
    · exact .modRng h
    · extract_lets +onlyGivenNames _ _ _ d1
      have h1 : Kept d0 d1 := .foldl (fun _ _ h1 => .postRead h1) h
      split
      · extract_lets +onlyGivenNames _
        refine .ite h1 ?_
        split
        · exact .finish (.modRng h1)
        · exact .ite (.finish (.modRng h1)) h1
      · exact h1
theorem Kept.ringSettle (h : Kept d0 d) : Kept d0 d.ringSettle := .foldl (fun _ _ h2 => .settleRead h2) (.foldl (fun _ _ h1 => .settleJob h1) h)

/-! ### The operations of Machine/MediaOps.lean -/

theorem Kept.runReport {r} (h : Kept d0 d) : Kept d0 (d.runReport r) := h.rest
theorem Kept.pruneOrders (h : Kept d0 d) : Kept d0 d.pruneOrders := .foldl (fun _ _ h2 => .freeSlot h2) (.rest h)
theorem Kept.readFails {nsid lba st} (h : Kept d0 d) : Kept d0 (d.readFails nsid lba st) := .pruneOrders (.ringLand (.foldl (fun _ _ h1 => .cmdCheck (.modCmd h1)) h))
theorem Kept.readsLost {_n o from_} (h : Kept d0 d) : Kept d0 (d.readsLost _n o from_) := .foldl (fun _ _ h1 => .readFails h1) h
theorem Kept.msqPost {a c lba line} (h : Kept d0 d) : Kept d0 (d.msqPost a c lba line) := .postOut h
theorem Kept.csqPost {n c lba line} (h : Kept d0 d) : Kept d0 (d.csqPost n c lba line) := .postOut h

/-! ### The operations of Machine/ChannelOps.lean -/

theorem Kept.setChan {n c} (h : Kept d0 d) : Kept d0 (d.setChan n c) := h.rest
theorem Kept.setRun {n r} (h : Kept d0 d) : Kept d0 (d.setRun n r) := .setChan h
theorem Kept.setLiveHalf {n b h' v} (h : Kept d0 d) : Kept d0 (d.setLiveHalf n b h' v) := .setFld h
theorem Kept.setLive {n b s} (h : Kept d0 d) : Kept d0 (d.setLive n b s) := .foldl (fun _ _ h3 => .setLiveHalf h3) (.setWord (.foldl (fun _ _ h1 => .setLiveHalf h1) h))
theorem Kept.setLoopVal {n k v} (h : Kept d0 d) : Kept d0 (d.setLoopVal n k v) := .setFld h
theorem Kept.setTap {n t v} (h : Kept d0 d) : Kept d0 (d.setTap n t v) := .setWord h
theorem Kept.putLoops {n s useA useB} (h : Kept d0 d) : Kept d0 (d.putLoops n s useA useB) := .foldl (fun _ _ h2 => .setTap h2) (.foldl (fun _ _ h1 => .setLoopVal h1) h)
theorem Kept.loopUpdate {n r k g den pre} (h : Kept d0 d) : Kept d0 (d.loopUpdate n r k g den pre) := .ite h (.setLoopVal (.ite (.bump (.rest h)) (.rest h)))
theorem Kept.tapUpdate {n r t g pre} (h : Kept d0 d) : Kept d0 (d.tapUpdate n r t g pre) := .setTap (.ite (.bump (.rest h)) (.rest h))
theorem Kept.tapsUpdate {n r gs useA useB pre} (h : Kept d0 d) : Kept d0 (d.tapsUpdate n r gs useA useB pre) := by
  unfold Dev.tapsUpdate
  refine .ite h ?_
  extract_lets +onlyGivenNames _ d1
  have h1 : Kept d0 d1 := .foldl (fun _ _ h1 => .ite h1 (.tapUpdate h1)) h
  exact .ite (.setTap (.setTap h1)) h1
theorem Kept.laneFault {n o} (h : Kept d0 d) : Kept d0 (d.laneFault n o) := .event (.readsLost (.runReport h))
theorem Kept.dropFaulty {n x2} (h : Kept d0 d) : Kept d0 (d.dropFaulty n x2) := by
  induction x2 generalizing d n with
  | nil => exact h
  | cons x r ih =>
    unfold Dev.dropFaulty
    exact .ite h (ih (.laneFault (.setChan h)))
theorem Kept.startRun {n} (h : Kept d0 d) : Kept d0 (d.startRun n) := by
  unfold Dev.startRun
  extract_lets +onlyGivenNames d1 _
  have h1 : Kept d0 d1 := .ite (.dropFaulty h) h
  split
  · exact .setFld (.setFld (.setFld (.setFld (.putLoops (.setChan h1)))))
  · exact h1
theorem Kept.endRun {n r extra} (h : Kept d0 d) : Kept d0 (d.endRun n r extra) := .startRun (.setFld (.runReport (.setChan (.ite (.setLive h) h))))
theorem Kept.noteReport {n tag ok} (h : Kept d0 d) : Kept d0 (d.noteReport n tag ok) := by
  unfold Dev.noteReport
  extract_lets +onlyGivenNames _ _
  split
  · exact .setChan h
  · exact .ite (.setChan h) (.ite (.setLive (.setChan h)) (.setChan h))

/-! ### The operations of Machine/ServoOps.lean -/

theorem Kept.countSat {raw} (h : Kept d0 d) : Kept d0 (d.countSat raw) := .ite h (.bump h)
theorem Kept.setLp {k l} (h : Kept d0 d) : Kept d0 (d.setLp k l) := h.rest
theorem Kept.setLane {a l} (h : Kept d0 d) : Kept d0 (d.setLane a l) := h.rest
theorem Kept.sendFrame {a ty ch value bad} (h : Kept d0 d) : Kept d0 (d.sendFrame a ty ch value bad) := .bump (.setLane h)
theorem Kept.sendSet {a ch value} (h : Kept d0 d) : Kept d0 (d.sendSet a ch value) := .sendFrame (.ite (.setFlag h) h)
theorem Kept.setFunc {c v} (h : Kept d0 d) : Kept d0 (d.setFunc c v) := .ite (.setLane h) (.sendSet (.setLane h))
theorem Kept.sendU {k u} (h : Kept d0 d) : Kept d0 (d.sendU k u) := .setLane (.setFld h)
theorem Kept.setWhead {n h'} (h : Kept d0 d) : Kept d0 (d.setWhead n h') := h.rest
theorem Kept.raiseInh {n} (h : Kept d0 d) : Kept d0 (d.raiseInh n) := .ite (.setWhead h) (.setWhead (.setFld h))
theorem Kept.leaveHeel {k} (h : Kept d0 d) : Kept d0 (d.leaveHeel k) := .ite (.foldl (fun _ _ h1 => .raiseInh h1) h) (.raiseInh h)
theorem Kept.loseSams {a} (h : Kept d0 d) : Kept d0 (d.loseSams a) := .foldl (fun _ _ h1 => .setChan h1) h
theorem Kept.modeReport {k tag status fault wedges} (h : Kept d0 d) : Kept d0 (d.modeReport k tag status fault wedges) := h.rest
theorem Kept.orderDone {k codes} (h : Kept d0 d) : Kept d0 (d.orderDone k codes) := by
  unfold Dev.orderDone
  split
  · exact .ite (.modeReport (.setLp h)) h
  · exact h
theorem Kept.loopEvent {k code p1 p2 p3} (h : Kept d0 d) : Kept d0 (d.loopEvent k code p1 p2 p3) := .event h
theorem Kept.flagLoop {k code mode} (h : Kept d0 d) : Kept d0 (d.flagLoop k code mode) := by
  unfold Dev.flagLoop
  extract_lets +onlyGivenNames d1
  have h1 : Kept d0 d1 := .bump (.setFld h)
  split
  · exact .modeReport (.setLp h1)
  · exact .loopEvent (.setFld h1)
theorem Kept.fetchSwap {k} (h : Kept d0 d) : Kept d0 (d.fetchSwap k) := .ite (.setFld (.setFld h)) h
theorem Kept.heelSwap {k} (h : Kept d0 d) : Kept d0 (d.heelSwap k) := .ite (.setFld (.setFld h)) h
theorem Kept.bumpless {k kind old aref} (h : Kept d0 d) : Kept d0 (d.bumpless k kind old aref) := by
  unfold Dev.bumpless
  extract_lets +onlyGivenNames _ _ _ _ _ _ _ _ d1 d2 d3
  have h1 : Kept d0 d1 := .setLp h
  have h2 : Kept d0 d2 := .countSat h1
  have h3 : Kept d0 d3 := .foldl (fun _ _ h3 => .setFld h3) h2
  exact .ite (.setFld h3) (.loopEvent (.setFld h3))
theorem Kept.endCounts {k} (h : Kept d0 d) : Kept d0 (d.endCounts k) := .setLp (.setFld (.setFld h))
theorem Kept.enter {k m swap} (h : Kept d0 d) : Kept d0 (d.enter k m swap) := by
  unfold Dev.enter
  extract_lets m0 old d1 d2 d3 d4 d5 d6 l d7 d8 d9 d10
  have h1 : Kept d0 d1 := .ite (.leaveHeel h) h
  have h2 : Kept d0 d2 := .ite (.raiseInh h1) h1
  have h3 : Kept d0 d3 := .ite (.loseSams h2) h2
  have h4 : Kept d0 d4 := .ite (.fetchSwap (.bump h3)) h3
  have h5 : Kept d0 d5 := .ite (.heelSwap h4) h4
  have h7 : Kept d0 d7 := .setLp (.setFld h5)
  have h8 : Kept d0 d8 := .ite (.setFld h7) h7
  have h9 : Kept d0 d9 := .ite (.endCounts h8) h8
  have h10 : Kept d0 d10 := .ite (.foldl (fun _ _ h => .setLp h) h9) h9
  split
  · exact .ite h10 (.bumpless h10)
  · exact h10
theorem Kept.down {k} (h : Kept d0 d) : Kept d0 (d.down k) := .ite h (.setLp (.sendU (.enter h)))
theorem Kept.microsDown {a} (h : Kept d0 d) : Kept d0 (d.microsDown a) := .foldl (fun _ _ h1 => .down h1) h
theorem Kept.rampFrom {k target} (h : Kept d0 d) : Kept d0 (d.rampFrom k target) := .setLp h
theorem Kept.loopFault {k code} (h : Kept d0 d) : Kept d0 (d.loopFault k code) := by
  unfold Dev.loopFault
  extract_lets +onlyGivenNames _ _ _ d1
  have h1 : Kept d0 d1 := .setLp h
  exact .flagLoop (.setLp (.ite (.down h1) (.ite (.bump (.setLp (.endCounts (.microsDown (.enter h1))))) (.ite (.microsDown (.rampFrom (.enter h1))) (.ite (.rampFrom
      (.enter h1)) (.ite (.setLp (.enter (.microsDown h1))) (.microsDown (.down h1))))))))
theorem Kept.downFault {k code} (h : Kept d0 d) : Kept d0 (d.downFault k code) := .ite (.flagLoop (.sendU h)) (.loopFault h)
theorem Kept.takeFault {k code} (h : Kept d0 d) : Kept d0 (d.takeFault k code) := .ite (.loopFault h) h
theorem Kept.takeDue {k} (h : Kept d0 d) : Kept d0 (d.takeDue k) := by
  unfold Dev.takeDue
  extract_lets one
  have ho {e} (h : Kept d0 e) : Kept d0 (one e) := by
    unfold one
    split
    · exact .loopFault h
    · exact h
  exact ho (ho h)
theorem Kept.coast {k} (h : Kept d0 d) : Kept d0 (d.coast k) := .ite (.setLp (.bump (.setFld h))) (.bump (.setFld h))
theorem Kept.implausible {k} (h : Kept d0 d) : Kept d0 (d.implausible k) := .ite (.setLp (.bump (.setFld h))) (.bump (.setFld h))
theorem Kept.noteWedge {k usable bad injected} (h : Kept d0 d) : Kept d0 (d.noteWedge k usable bad injected) :=
  .ite (.bump (.setFld (.setFld (.setLp h)))) (.ite (.implausible (.coast (.setLp h))) (.coast (.setLp h)))
theorem Kept.compute {k inp} (h : Kept d0 d) : Kept d0 (d.compute k inp).1 := by
  unfold Dev.compute
  split
  · exact h
  · exact .sendU (.noteWedge (.countSat (.setFlag (.setFlag (.setFld (.foldl (fun _ _ h2 => .setFld h2) (.setLp h)))))))
theorem Kept.noteZ {k z1 z2 x} (h : Kept d0 d) : Kept d0 (d.noteZ k z1 z2 x) := .ite (.setFld (.setFld (.setFld (.setFld h)))) (.setFld (.setFld (.setFld h)))
theorem Kept.shiftXp {k dr dv} (h : Kept d0 d) : Kept d0 (d.shiftXp k dr dv) := by
  unfold Dev.shiftXp
  split
  · exact h
  · exact .countSat (.setLp h)
theorem Kept.rampStep {k} (h : Kept d0 d) : Kept d0 (d.rampStep k) := .ite h (.shiftXp (.setLp h))
theorem Kept.stepProfile {k} (h : Kept d0 d) : Kept d0 (d.stepProfile k) := .ite (.setLp h) (.shiftXp (.setLp h))
theorem Kept.pairBad {k p wedge inj} (h : Kept d0 d) : Kept d0 (d.pairBad k p wedge inj) := by
  unfold Dev.pairBad
  extract_lets +onlyGivenNames d1 d2
  have h1 : Kept d0 d1 := .bump (.setFld h)
  have h2 : Kept d0 d2 := .coast (.event (.flagFault h1))
  exact .ite (.foldl (fun _ _ h3 => .ite (.downFault h3) h3) h2) h2
theorem Kept.countWedge {k} (h : Kept d0 d) : Kept d0 (d.countWedge k) := .setLp h
theorem Kept.settle {k used missing num den} (h : Kept d0 d) : Kept d0 (d.settle k used missing num den) := .ite h (.ite (.orderDone (.enter (.setLp h))) (.setLp h))
theorem Kept.latencyEnd {k} (h : Kept d0 d) : Kept d0 (d.latencyEnd k) := by
  unfold Dev.latencyEnd
  split
  · exact .ite (.event (.rest h)) h
  · exact h
theorem Kept.latency {k ns} (h : Kept d0 d) : Kept d0 (d.latency k ns) := by
  unfold Dev.latency
  extract_lets +onlyGivenNames d1
  have h1 : Kept d0 d1 := .latencyEnd h
  exact .ite (.ite (.setFld h1) h1) (.rest (.bump (.ite (.setFld h1) h1)))

/-! ### The operations of Machine/Actuator.lean -/

theorem Kept.laneFail {a ch why} (h : Kept d0 d) : Kept d0 (d.laneFail a ch why) :=
  .ite h (.foldl (fun _ _ h3 => .ite (.downFault h3) h3) (.setLane (.event (.setFld h))))
theorem Kept.discFail {a step id ch} (h : Kept d0 d) : Kept d0 (d.discFail a step id ch) := .laneFail (.event h)
theorem Kept.discNext {a x} (h : Kept d0 d) : Kept d0 (d.discNext a x) := by
  unfold Dev.discNext
  split
  · exact .sendSet (.setLane h)
  · exact .ite (.discFail h) (.setFld (.setLane h))
theorem Kept.discReply {a id x} (h : Kept d0 d) : Kept d0 (d.discReply a id x) :=
  .ite (.discFail h) (.ite (.discFail (.event (.setFld (.setFld h)))) (.discNext (.event (.setFld (.setFld h)))))
theorem Kept.frameMiss {a f why} (h : Kept d0 d) : Kept d0 (d.frameMiss a f why) := by
  unfold Dev.frameMiss
  extract_lets +onlyGivenNames d1 d2 d3 _ _ _ _ d4
  have h1 : Kept d0 d1 := .bump h
  have h2 : Kept d0 d2 := .ite (.bump h1) (.ite (.bump h1) h1)
  have h3 : Kept d0 d3 := .event h2
  have h4 : Kept d0 d4 := .setLane h3
  refine .ite (.bump h4) ?_
  split
  · exact .discFail h4
  · exact .ite (.laneFail h4) h4
theorem Kept.takeValue {a ch value} (h : Kept d0 d) : Kept d0 (d.takeValue a ch value) := .ite (.setLp h) (.ite (.setLp h) (.ite (.ite (.event (.rest h)) (.rest h)) h))
theorem Kept.takeReply {a f value} (h : Kept d0 d) : Kept d0 (d.takeReply a f value) := by
  unfold Dev.takeReply
  extract_lets +onlyGivenNames _ d1
  have h1 : Kept d0 d1 := .bump (.setLane h)
  split
  · exact .ite (.discReply h1) (.discNext (.takeValue h1))
  · exact .ite (.takeValue h1) h1

/-! ### The operations of Machine/SeqLock.lean -/

theorem Kept.modSeq {f} (h : Kept d0 d) : Kept d0 (d.modSeq f) := h.rest
theorem Kept.setThread {s t x} (h : Kept d0 d) : Kept d0 (d.setThread s t x) := .modSeq h
theorem Kept.showMutex {m code} (h : Kept d0 d) : Kept d0 (d.showMutex m code) := .setFld (.setFlag h)
theorem Kept.giveMutex {k} (h : Kept d0 d) : Kept d0 (d.giveMutex k) := by
  unfold Dev.giveMutex
  extract_lets +onlyGivenNames d1
  have h1 : Kept d0 d1 := .showMutex (.modSeq h)
  split
  · exact .setThread h1
  · exact h1
theorem Kept.grantMutex {m from_} (h : Kept d0 d) : Kept d0 (d.grantMutex m from_) := by
  unfold Dev.grantMutex
  refine .ite h ?_
  split
  · split
    · exact .giveMutex h
    · exact h
  · exact h
theorem Kept.claimMutex {k} (h : Kept d0 d) : Kept d0 (d.claimMutex k) := .ite h (.grantMutex (.modSeq h))
theorem Kept.releaseMutex {m code} (h : Kept d0 d) : Kept d0 (d.releaseMutex m code) := .ite (.grantMutex (.showMutex (.modSeq h))) h
theorem Kept.grantCtx {s c from_} (h : Kept d0 d) : Kept d0 (d.grantCtx s c from_) := by
  unfold Dev.grantCtx
  refine .ite h ?_
  split
  · exact .setThread h
  · exact h
theorem Kept.releaseLock {s t} (h : Kept d0 d) : Kept d0 (d.releaseLock s t) := by
  unfold Dev.releaseLock
  extract_lets +onlyGivenNames _ d1
  have h1 : Kept d0 d1 := .setThread h
  split
  · exact h1
  · exact .ite (.grantCtx h1) h1
  · exact .ite (.releaseMutex (.modSeq h1)) (.modSeq h1)
theorem Kept.askLock {s t l} (h : Kept d0 d) : Kept d0 (d.askLock s t l) := by
  unfold Dev.askLock
  extract_lets +onlyGivenNames _ d1
  have h1 : Kept d0 d1 := .setThread (.releaseLock h)
  split
  · exact .grantCtx h1
  · exact .claimMutex h1
theorem Kept.mutexWrite {m v who} (h : Kept d0 d) : Kept d0 (d.mutexWrite m v who) := by
  unfold Dev.mutexWrite
  extract_lets +onlyGivenNames d1
  have h1 : Kept d0 d1 := .regWrite h
  exact .ite (.claimMutex (.ite (.releaseMutex h1) h1)) (.ite (.releaseMutex h1) h1)
theorem Kept.dropMutexes {c} (h : Kept d0 d) : Kept d0 (d.dropMutexes c) := .foldl (fun _ _ h2 => .releaseMutex h2) (.modSeq h)

/-! ### The operations of Machine/HostOps.lean -/

theorem Kept.modHst {f} (h : Kept d0 d) : Kept d0 (d.modHst f) := h.rest
theorem Kept.modCtrl {c f} (h : Kept d0 d) : Kept d0 (d.modCtrl c f) := .setCtrl h
theorem Kept.setSq {c q s} (h : Kept d0 d) : Kept d0 (d.setSq c q s) := .modCtrl h
theorem Kept.setCq {c q s} (h : Kept d0 d) : Kept d0 (d.setCq c q s) := .modCtrl h
theorem Kept.bindCtx {n} (h : Kept d0 d) : Kept d0 (d.bindCtx n) := .foldl (fun _ _ h1 => .freeSlot h1) h
theorem Kept.bindAll (h : Kept d0 d) : Kept d0 d.bindAll := .foldl (fun _ _ h1 => .bindCtx h1) h
theorem Kept.interrupt {c v} (h : Kept d0 d) : Kept d0 (d.interrupt c v) := .ite (.bump (.sendTx h)) (.ite h (.sendTx h))
theorem Kept.announce {c q cq} (h : Kept d0 d) : Kept d0 (d.announce c q cq) :=
  .ite h (.ite (.interrupt h) (.ite (.interrupt (.modCtrl (.ite (.interrupt h) h))) (.modCtrl (.ite (.interrupt h) h))))
theorem Kept.abandon {c} (h : Kept d0 d) : Kept d0 (d.abandon c) := by
  unfold Dev.abandon
  extract_lets +onlyGivenNames d1
  have h1 : Kept d0 d1 := .abandonDescs h
  split
  · refine .ite h1 ?_
    split
    rename_i n d2 he
    have h2 : Kept d0 d2 := .ofS he (.zeroRest h1)
    split
    · exact .event (.bump h2)
    · exact h2
  · refine .ite h1 ?_
    split
    rename_i n d2 he
    have h2 : Kept d0 d2 := .ofS he (.zeroRest h1)
    split
    · exact .event (.bump h2)
    · exact h2
  · refine .ite h1 ?_
    split
    rename_i n d2 he
    have h2 : Kept d0 d2 := .ofS he (.zeroRest h1)
    split
    · exact .event (.bump h2)
    · exact h2
  · exact h1
theorem Kept.dropWork {t} (h : Kept d0 d) : Kept d0 (d.dropWork t) := h.rest
theorem Kept.forget {t} (h : Kept d0 d) : Kept d0 (d.forget t) := .rest (.dropWork h)
theorem Kept.resetCtrl {c cause} (h : Kept d0 d) : Kept d0 (d.resetCtrl c cause) := by
  unfold Dev.resetCtrl
  extract_lets +onlyGivenNames d1 _ _ _ d2
  have h1 : Kept d0 d1 := h
  have h2 : Kept d0 d2 := .foldl (fun _ _ h2 => .forget (.abandon h2)) h
  exact .event (.bump (.voted (.rest (.dropMutexes (.ite (.closeDiag (.modCtrl (.modHst (.rest h2)))) (.modCtrl (.modHst (.rest h2))))))))
theorem Kept.failPort {p why} (h : Kept d0 d) : Kept d0 (d.failPort p why) := by
  unfold Dev.failPort
  refine .ite h ?_
  extract_lets n d1 d2 d3 idle d4
  have h3 : Kept d0 d3 := .foldl (fun _ _ h => .foldl (fun _ _ h => .ite (.descError h) h) h) (.modHst (.bump (.setFld (.setFld h))))
  have h4 : Kept d0 d4 := .foldl (fun _ _ h => .freeStage h) h3
  exact .resetCtrl (.event h4)
theorem Kept.linkDefaults {p} (h : Kept d0 d) : Kept d0 (d.linkDefaults p) := .setWord h
theorem Kept.cfgDefaults {p} (h : Kept d0 d) : Kept d0 (d.cfgDefaults p) := .voted (.modCtrl h)

/-! ### The operations of Machine/AdminOps.lean -/

theorem Kept.logReply {t pg rae page lpo len} (h : Kept d0 d) : Kept d0 (d.logReply t pg rae page lpo len) := .ite (.finish h) (.reply (.ite h (.unmaskPage h)))
theorem Kept.identify {c cns nsid csi cntid} (h : Kept d0 d) : Kept d0 (d.identify c cns nsid csi cntid).2 := by
  unfold Dev.identify
  split
  next free d1 he =>
  have h1 : Kept d0 d1 := .ofS he (.drawBytes h)
  extract_lets ok bad active all forNs
  have hf {n f} : Kept d0 (forNs n f).2 := by
    refine .iteS h ?_
    split
    · exact .iteS h1 h1
    · exact h1
  split
  case h_5 => exact .iteS hf (.iteS hf h)
  case h_6 | h_7 => exact .iteS h1 (.iteS h1 h)
  case h_11 =>
    split
    · exact h1
    · exact h
  case h_1 | h_4 | h_8 | h_10 => exact hf
  case h_14 => exact h
  all_goals exact h1

/-! ### The operations of Machine/Admin.lean -/

theorem Kept.setFeature {t save f} (hf : ∀ e, Kept d0 e → Kept d0 (f e)) (h : Kept d0 d) : Kept d0 (d.setFeature t save f) :=
  .host (fun _ h1 => .ite (.finish h1) (hf _ h1)) h
theorem Kept.endAbort {t dw0 target} (h : Kept d0 d) : Kept d0 (d.endAbort t dw0 target) := .handOver (.rest h)

/-! ### The operations of Machine/Buffer.lean -/

theorem Kept.trainOne {occasion x fail} (h : Kept d0 d) : Kept d0 (d.trainOne occasion x fail) := by
  unfold Dev.trainOne
  extract_lets +onlyGivenNames _
  refine .ite h ?_
  split
  · exact .event (.ite (.rest (.setFld (.setDevState h))) (.setDevState h))
  · exact .event (.ite h (.setDevState h))
theorem Kept.clearStores (h : Kept d0 d) : Kept d0 d.clearStores := .setFld (.setFld (.setSlotMap (.setSlotMap (.setFld (.setFld (.setFld (.rest h)))))))
theorem Kept.bufGrant {r edc k} (h : Kept d0 d) : Kept d0 (d.bufGrant r edc k) := .ite (.rest (.bufServe h)) (.rest (.bufServe h))
theorem Kept.vclrWrite {v who} (h : Kept d0 d) : Kept d0 (d.vclrWrite v who) :=
  .ite (.event (.regWrite h)) (.setFld (.setFld (.ite (.rest (.regWrite h)) (.validStruck (.rest (.regWrite h))))))
theorem Kept.tbufWrite {a v who} (h : Kept d0 d) : Kept d0 (d.tbufWrite a v who) := .setSlotMap (.regWrite h)
theorem Kept.tbclrWrite {a v who} (h : Kept d0 d) : Kept d0 (d.tbclrWrite a v who) := .ite (.regWrite h) (.setSlotMap (.regWrite h))
theorem Kept.stopResilver (h : Kept d0 d) : Kept d0 d.stopResilver := .rest (.setFld h)
theorem Kept.endDevState {t} (h : Kept d0 d) : Kept d0 (d.endDevState t) := .finish h
theorem Kept.resilverLine {line edc} (h : Kept d0 d) : Kept d0 (d.resilverLine line edc) := by
  unfold Dev.resilverLine
  split
  rename_i d1 o he
  have h1 : Kept d0 d1 := .ofF he (.lineRead h)
  split
  · exact .lineWrite h1
  · exact .bump h1
theorem Kept.endResilver {r} (h : Kept d0 d) : Kept d0 (d.endResilver r) := .event (.stopResilver (.setDevState (.setFld h)))
theorem Kept.markSticky {x line} (h : Kept d0 d) : Kept d0 (d.markSticky x line) := h.rest
theorem Kept.scrubLine {line edc} (h : Kept d0 d) : Kept d0 (d.scrubLine line edc) := by
  unfold Dev.scrubLine
  split
  rename_i d1 o he
  have h1 : Kept d0 d1 := .ofF he (.lineRead h)
  split
  · exact .rest (.bump h1)
  · refine .ite h1 ?_
    extract_lets +onlyGivenNames _ _ d2 d3
    have h2 : Kept d0 d2 := .rest (.bump h1)
    have h3 : Kept d0 d3 := .bump (.lineWrite h2)
    split
    rename_i d4 o2 he
    have h4 : Kept d0 d4 := .ofF he (.lineRead h3)
    split
    · exact .event (.bump (.markSticky h4))
    · exact h4
theorem Kept.passStart (h : Kept d0 d) : Kept d0 d.passStart := .rest (.setFld h)
theorem Kept.passEnd (h : Kept d0 d) : Kept d0 d.passEnd := .ite (.passStart (.bump (.setFld (.event h)))) (.rest (.setFld (.bump (.setFld (.event h)))))
theorem Kept.passNext {g} (h : Kept d0 d) : Kept d0 (d.passNext g) := .ite (.passEnd h) (.setFld h)

/-! ### The operations of Machine/Fabric.lean -/

theorem Kept.backTake {b j} (h : Kept d0 d) : Kept d0 (d.backTake b j) := .setPool h
theorem Kept.backDrop {b j} (h : Kept d0 d) : Kept d0 (d.backDrop b j) := .setPool h
theorem Kept.acceptFrom {b j flip x e} (h : Kept d0 d) (he : d.acceptFrom b j flip = some (x, e)) : Kept d0 e := by
  unfold Dev.acceptFrom at he
  split at he
  · cases he
  · split at he
    · cases he
    · cases he
      exact .ite (.freeSlot (.setPool h)) (.fault (.freeSlot (.setPool h)))
theorem Kept.startRoll {serving} (h : Kept d0 d) : Kept d0 (d.startRoll serving) := .rest (.setFld (.setFld h))
theorem Kept.requestRoll {tags} (h : Kept d0 d) : Kept d0 (d.requestRoll tags) := .ite (.rest (.setFld h)) (.startRoll h)
theorem Kept.rollGrant (h : Kept d0 d) : Kept d0 d.rollGrant := .ite (.requestRoll (.grantBg h)) h
theorem Kept.rollSlot (h : Kept d0 d) : Kept d0 d.rollSlot := .ite h (.ite (.rest (.setPool h)) h)
theorem Kept.rollBack (h : Kept d0 d) : Kept d0 d.rollBack := .ite (.rest (.setPool h)) h

/-! ### The operations of Machine/Channel.lean -/

theorem Kept.readOrder {n o} (h : Kept d0 d) : Kept d0 (d.readOrder n o) := .ite h (.ite (.readsLost (.runReport h)) (.ite (.laneFault h) (.startRun (.setChan h))))
theorem Kept.slip {n r} (h : Kept d0 d) : Kept d0 (d.slip n r) := .bump (.setRun h)
theorem Kept.countFrame {n f} (h : Kept d0 d) : Kept d0 (d.countFrame n f) := by
  unfold Dev.countFrame
  extract_lets +onlyGivenNames _ d1 d2 d3
  have h1 : Kept d0 d1 := .ite (.bump h) h
  have h2 : Kept d0 d2 := .ite (.bump h1) h1
  have h3 : Kept d0 d3 := .ite (.bump h2) h2
  exact .ite (.ite (.bump h3) h3) (.bump (.ite (.bump h3) h3))
theorem Kept.lockFalls {n r c pos} (h : Kept d0 d) : Kept d0 (d.lockFalls n r c pos) := .event (.setFld (.setRun h))
theorem Kept.zeroUnused {n useA useB} (h : Kept d0 d) : Kept d0 (d.zeroUnused n useA useB) := .foldl (fun _ _ h1 => .ite h1 (.setTap h1)) h
theorem Kept.loopsUpdate {n r o a b useA useB pre} (h : Kept d0 d) : Kept d0 (d.loopsUpdate n r o a b useA useB pre) :=
  .tapsUpdate (.foldl (fun _ _ h1 => .loopUpdate h1) h)
theorem Kept.guardLoops {n r mse clamps} (h : Kept d0 d) : Kept d0 (d.guardLoops n r mse clamps) :=
  .ite (.setRun h) (.ite (.setRun h) (.ite (.setRun h) (.ite (.event (.setRun (.bump (.incSat (.putLoops h))))) (.event (.setRun (.setFld (.putLoops (.event (.setRun
    (.bump (.incSat (.putLoops h))))))))))))

/-! ### The operations of Machine/Flash.lean -/

theorem Kept.flashRead {s flips} (h : Kept d0 d) : Kept d0 (d.flashRead s flips) :=
  .ite (.flashBusy h) (.ite (.flashRefuse h) (.ite (.setFld (.setBank h)) (.serveRead h)))
theorem Kept.flashProgram {s} (h : Kept d0 d) : Kept d0 (d.flashProgram s) := by
  unfold Dev.flashProgram
  extract_lets +onlyGivenNames _
  refine .ite (.flashBusy h) ?_
  split
  · exact .flashRefuse h
  · exact .queueOp (.setFld h)
theorem Kept.flashErase {s} (h : Kept d0 d) : Kept d0 (d.flashErase s) := by
  unfold Dev.flashErase
  extract_lets +onlyGivenNames _
  refine .ite (.flashBusy h) ?_
  split
  · exact .flashRefuse h
  · exact .queueOp (.setFld h)
theorem Kept.flashSuspend {s} (h : Kept d0 d) : Kept d0 (d.flashSuspend s) := by
  unfold Dev.flashSuspend
  extract_lets +onlyGivenNames _ _ _
  refine .ite (.flashBusy h) ?_
  refine .ite (.flashRefuse h) ?_
  refine .ite (.flashRefuse h) ?_
  refine .ite (.flashRefuse h) ?_
  split
  · exact .ite (.flashRefuse h) (.ite (.flashRefuse h) (.flcStat (.serveWaiting (.bump (.slotEnd (.setBank h))))))
  · exact .flashRefuse h
theorem Kept.flashResume {s} (h : Kept d0 d) : Kept d0 (d.flashResume s) := by
  unfold Dev.flashResume
  extract_lets +onlyGivenNames _ _ _
  refine .ite (.flashBusy h) ?_
  refine .ite (.flashRefuse h) ?_
  refine .ite (.flashRefuse h) ?_
  refine .ite (.flashRefuse h) ?_
  split
  · exact .ite (.flcStat (.slotEnd (.setBank h))) (.flashRefuse h)
  · exact .flashRefuse h
theorem Kept.flashBadOp {s op} (h : Kept d0 d) : Kept d0 (d.flashBadOp s op) := .ite (.flashBusy h) (.ite (.flashRefuse h) (.ite (.flashRefuse h) (.flashRefuse h)))
theorem Kept.pulseLimit {k o inj} (h : Kept d0 d) : Kept d0 (d.pulseLimit k o inj) := .endOp (.event (.setFld h))
theorem Kept.flashExecStart {region} (h : Kept d0 d) : Kept d0 (d.flashExecStart region) := .ite (.bump (.event (.drawNat h))) (.rest (.setFld (.setFld h)))

/-! ### The operations of Machine/NsOps.lean -/

theorem Kept.emptyZones {n g ty} (h : Kept d0 d) : Kept d0 (d.emptyZones n g ty) := .jwrite (.foldl (fun _ _ h1 => .setZctx h1) h)
theorem Kept.drawKey {x} (h : Kept d0 d) : Kept d0 (d.drawKey x) := .rest (.drawBytes (n := 64) h)
theorem Kept.dropKey {x} (h : Kept d0 d) : Kept d0 (d.dropKey x) := h.rest
theorem Kept.nsChanged {c nsid} (h : Kept d0 d) : Kept d0 (d.nsChanged c nsid) := .ite (.raiseAen (.modCtrl h)) (.modCtrl h)
theorem Kept.clearGranules {gs} (h : Kept d0 d) : Kept d0 (d.clearGranules gs) := h.rest
theorem Kept.dropNsCache {nsid} (h : Kept d0 d) : Kept d0 (d.dropNsCache nsid).2.2 := .clearGranules (.dropCache h)
theorem Kept.endDelete {n t} (h : Kept d0 d) : Kept d0 (d.endDelete n t) :=
  .pruneOrders (.finish (.event (.jwrite (.setFld (.setFld (.dropKey (.modZne (.dropNsCache h))))))))
theorem Kept.endErase {n t} (h : Kept d0 d) : Kept d0 (d.endErase n t) :=
  .pruneOrders (.finish (.event (.setNs (.emptyZones (.newGen (.dropNsCache (.drawKey (.dropKey h))))))))
theorem Kept.drainNs (h : Kept d0 d) : Kept d0 d.drainNs := by
  unfold Dev.drainNs
  refine .foldl (fun _ _ h1 => ?_) h
  split
  · refine .ite h1 ?_
    split
    · exact .ite (.endErase h1) (.endDelete h1)
    · exact h1
  · exact h1

/-! ### The operations of Machine/Io.lean -/

theorem Kept.io {t f} (hf : ∀ e, Kept d0 e → Kept d0 (f e)) (h : Kept d0 d) : Kept d0 (d.io t f) := .host (fun _ h1 => .ite (.voted (.modCtrl h1)) (hf _ h1)) h
theorem Kept.ioNs {t nsid f} (hf : ∀ y0, Kept d0 (f y0)) (h : Kept d0 d) : Kept d0 (d.ioNs t nsid f) := by
  unfold Dev.ioNs
  split
  · exact .finish h
  · exact .ite (.finish h) (.ite (.finish h) (.ite (.finish h) (hf _)))
theorem Kept.ioRange {t nsid slba nlb f} (hf : ∀ y0, Kept d0 (f y0)) (h : Kept d0 d) : Kept d0 (d.ioRange t nsid slba nlb f) := .ioNs (fun _ => .ite (.finish h) (hf _)) h
theorem Kept.reserve {n z nlb} (h : Kept d0 d) : Kept d0 (d.reserve n z nlb) := .setZctx (.bump (.ite (.bump (.ite (.jwrite h) h)) (.ite (.jwrite h) h)))
theorem Kept.zoneWrite {t nsid slba nlb append zeroes fua segs buf} (h : Kept d0 d) : Kept d0 (d.zoneWrite t nsid slba nlb append zeroes fua segs buf) := by
  unfold Dev.zoneWrite
  refine .ioRange (fun _ => ?_) h
  extract_lets +onlyGivenNames _ _ _
  refine .ite (.finish h) ?_
  refine .ite (.finish h) ?_
  refine .ite h ?_
  refine .ite h ?_
  refine .ite h ?_
  extract_lets +onlyGivenNames d2
  have h2 : Kept d0 d2 := .bump h
  split
  · exact .finish (.ite (.bump h2) (.ite (.bump h2) h2))
  · extract_lets +onlyGivenNames _ d3 _ _ _ d4
    have h3 : Kept d0 d3 := .reserve (.ite (.bump h2) h2)
    have h4 : Kept d0 d4 := .putCmd (.ite h3 (.clearGranules h3))
    exact .ite (.cmdCheck (.syncZone (.modZne h4))) (.cmdCheck (.foldl (fun _ _ h6 => .postFor h6) (.syncZone (.modZne h4))))
theorem Kept.placeOrder {o} (h : Kept d0 d) : Kept d0 (d.placeOrder o) := .ite h (.rest (.setPool h))
theorem Kept.zoneSend {t nsid slba all ok forAll f} (hf : ∀ e y1 y2, Kept d0 e → Kept d0 (f e y1 y2)) (h : Kept d0 d) : Kept d0
  (d.zoneSend t nsid slba all ok forAll f) :=
  .ioNs (fun _ => .ite (hf _ _ _ h) (.ite (.finish h) (.ite (.finish h) (.ite (.finish h) (hf _ _ _ h))))) h

/-! ### The operations of Machine/Decoder.lean -/

theorem Kept.setDec {x} (h : Kept d0 d) : Kept d0 (d.setDec x) := .setFld (.setFld (.setFld (.rest h)))
theorem Kept.setSlot {k x} (h : Kept d0 d) : Kept d0 (d.setSlot k x) := .setDec h
theorem Kept.dropRetained {b} (h : Kept d0 d) : Kept d0 (d.dropRetained b) := .setDec h
theorem Kept.putRetained {b added} (h : Kept d0 d) : Kept d0 (d.putRetained b added) := .setDec h
theorem Kept.clearBit {b} (h : Kept d0 d) : Kept d0 (d.clearBit b) := .setSlotBusy h
theorem Kept.releaseRetained {b} (h : Kept d0 d) : Kept d0 (d.releaseRetained b) := by
  unfold Dev.releaseRetained
  split
  · exact .clearBit (.dropRetained h)
  · exact h
theorem Kept.report {r} (h : Kept d0 d) : Kept d0 (d.report r) := .ite (.rest h) (.noteReport (.rest h))
theorem Kept.injectBlock {b} (h : Kept d0 d) : Kept d0 (d.injectBlock b).2 := by
  refine .iteS ?_ h
  dsimp only
  split <;> exact .setFlag h
theorem Kept.combine {b e} (h : Kept d0 d) (he : d.combine b = some e) : Kept d0 e := by
  unfold Dev.combine at he
  dsimp only at he
  split at he
  · cases he
    exact .ite (.setDec (.report (.clearBit (.putRetained h)))) (.report (.clearBit (.putRetained h)))
  · split at he
    · cases he
      exact .ite (.setDec (.report (.setDec h))) (.report (.setDec h))
    · cases he
theorem Kept.takeParked {k} (h : Kept d0 d) : Kept d0 (d.takeParked k) := by
  unfold Dev.takeParked
  split
  · exact h
  · exact .setSlot (.setDec h)
theorem Kept.landSector {k x info iter corr} (h : Kept d0 d) : Kept d0 (d.landSector k x info iter corr) := by
  unfold Dev.landSector
  extract_lets +onlyGivenNames _ d1 d2 d3
  have h1 : Kept d0 d1 := .bump h
  have h2 : Kept d0 d2 := .ite (.bump h1) h1
  have h3 : Kept d0 d3 := .ite (.dropRetained h2) (.releaseRetained h2)
  exact .ite (.event (.bufAsk (.rest h3))) (.bufAsk (.rest h3))
theorem Kept.failSector {k x status iter corr} (h : Kept d0 d) : Kept d0 (d.failSector k x status iter corr) := by
  unfold Dev.failSector
  extract_lets +onlyGivenNames _ d1 _ d2
  have h1 : Kept d0 d1 := .bump h
  have h2 : Kept d0 d2 := by
    refine .ite h1 ?_
    refine .ite (.clearBit h1) ?_
    split
    · exact .clearBit (.putRetained h1)
    · exact .ite (.setDec h1) (.clearBit h1)
  exact .report h2
theorem Kept.parkSector {k x iter} (h : Kept d0 d) : Kept d0 (d.parkSector k x iter) := .ite (.report (.bump (.setDec h))) (.report (.event (.bump (.clearBit h))))
theorem Kept.slotFails {k x status iter corr} (h : Kept d0 d) : Kept d0 (d.slotFails k x status iter corr) :=
  .ite (.setSlot h) (.ite (.parkSector (.setSlot h)) (.failSector (.setSlot h)))

/-! ### The operations of Machine/Servo.lean -/

theorem Kept.inhibitEval {n t} (h : Kept d0 d) : Kept d0 (d.inhibitEval n t) := .ite h (.ite (.setWhead (.raiseInh h)) (.ite (.setFld (.setWhead h)) (.setWhead h)))
theorem Kept.injMissing {k} (h : Kept d0 d) : Kept d0 (d.injMissing k).2 := .iteS (.iteS (.ite (.rest (.setFlag (.rest h))) (.rest h)) (.setFlag h)) h
theorem Kept.injZ {k} (h : Kept d0 d) : Kept d0 (d.injZ k).2 := .iteS (.setFlag h) h
theorem Kept.onPair {k pair wedge mismatch f} (hf : ∀ e, Kept d0 e → Kept d0 (f e)) (h : Kept d0 d) : Kept d0 (d.onPair k pair wedge mismatch f) := by
  unfold Dev.onPair
  split
  · exact h
  · exact .ite (.pairBad (.setFlag h)) (.ite (.pairBad h) (hf _ h))
theorem Kept.drift {k} (h : Kept d0 d) : Kept d0 (d.drift k) := .ite (.loopEvent (.setLp h)) h
theorem Kept.microSit {k} (h : Kept d0 d) : Kept d0 (d.microSit k) := .ite (.rampFrom (.enter h)) h
theorem Kept.microWedge {k t hidden implausible} (h : Kept d0 d) : Kept d0 (d.microWedge k t hidden implausible) := by
  unfold Dev.microWedge
  extract_lets +onlyGivenNames _ _ d1
  have h1 : Kept d0 d1 := .ite h (.rampStep h)
  exact .microSit (.drift (.settle (.ite (.compute (.iteS h1 (.injZ h1))) (.setLp (.noteZ (.compute (.iteS h1 (.injZ h1))))))))
theorem Kept.setGathers {a g} (h : Kept d0 d) : Kept d0 (d.setGathers a g) := h.rest
theorem Kept.contribute {a l t implausible} (h : Kept d0 d) : Kept d0 (d.contribute a l t implausible) := .ite h (.setGathers h)
theorem Kept.reacquire {a l t} (h : Kept d0 d) : Kept d0 (d.reacquire a l t) :=
  .ite (.setLp h) (.ite (.loopEvent (.rampFrom (.setLp (.enter (.setLp h))))) (.orderDone (.rampFrom (.setLp (.enter (.setLp h))))))
theorem Kept.combWedge {a g} (h : Kept d0 d) : Kept d0 (d.combWedge a g) := by
  unfold Dev.combWedge
  extract_lets +onlyGivenNames _ _ _ d1
  have h1 : Kept d0 d1 := .ite (.stepProfile h) (.rampStep h)
  split
  rename_i hidden d2 he
  have h2 : Kept d0 d2 := .ofS he (.injMissing h1)
  extract_lets +onlyGivenNames _ _ _
  split
  rename_i add d3 he
  have h3 : Kept d0 d3 := .ofS he (.iteS h2 (.injZ h2))
  extract_lets +onlyGivenNames _ _ _ _ _
  split
  rename_i d4 used he
  have h4 : Kept d0 d4 := .ofF he (.compute h3)
  exact .ite (.foldl (fun _ _ h7 => .microSit h7) (.rampFrom (.enter (.settle (.ite h4 (.setLp (.noteZ h4))))))) (.settle (.ite h4 (.setLp (.noteZ h4))))
theorem Kept.tickLoop {a vref held} (h : Kept d0 d) : Kept d0 (d.tickLoop a vref held) := by
  unfold Dev.tickLoop
  exact .noteZ (.compute (.injZ h))
theorem Kept.acceptOrder {j flip mine act} (hact : ∀ o e, Kept d0 e → Kept d0 (act o e)) (h : Kept d0 d) : Kept d0 (d.acceptOrder j flip mine act) := by
  unfold Dev.acceptOrder
  split
  · exact h
  · next he => exact .ite (hact _ _ (h.acceptFrom he)) h
theorem Kept.supersede {k} (h : Kept d0 d) : Kept d0 (d.supersede k) := by
  unfold Dev.supersede
  split
  · exact .modeReport (.setLp h)
  · exact h
theorem Kept.refuseOrder {k tag} (h : Kept d0 d) : Kept d0 (d.refuseOrder k tag) := .modeReport h
theorem Kept.takeOrder {k tag code accept act} (hact : ∀ e, Kept d0 e → Kept d0 (act e)) (h : Kept d0 d) : Kept d0 (d.takeOrder k tag code accept act) :=
  .ite (.refuseOrder h) (.ite (hact _ (.setLp (.setFld (.supersede h)))) (.refuseOrder (.supersede h)))
theorem Kept.loadVcm {k} (h : Kept d0 d) : Kept d0 (d.loadVcm k) := .setLp (.enter (.microsDown h))
theorem Kept.startSeek {k st} (h : Kept d0 d) : Kept d0 (d.startSeek k st) := by
  unfold Dev.startSeek
  extract_lets +onlyGivenNames _ _ _ _ _ _ d1 _ d2 d3
  have h1 : Kept d0 d1 := .foldl (fun _ _ h1 => .ite (.down h1) h1) h
  have h2 : Kept d0 d2 := .setLp h1
  have h3 : Kept d0 d3 := .ite h2 (.enter (.fetchSwap h2))
  exact .bump (.setLp (.ite (.shiftXp h3) h3))
theorem Kept.startMicro {k st wr ofs} (h : Kept d0 d) : Kept d0 (d.startMicro k st wr ofs) := .bump (.enter (.fetchSwap (.setLp (.setLp h))))
theorem Kept.fetchOrder {o} (h : Kept d0 d) : Kept d0 (d.fetchOrder o) := .ite (.takeOrder (fun _ h1 => .startSeek h1) h) (.takeOrder (fun _ h1 => .startMicro h1) h)
theorem Kept.stayOrder {k tag} (h : Kept d0 d) : Kept d0 (d.stayOrder k tag) := .takeOrder (fun _ h1 => .orderDone (.ite (.enter h1) h1)) h
theorem Kept.unloadVcm {k} (h : Kept d0 d) : Kept d0 (d.unloadVcm k) := .ite h (.setLp (.enter (.microsDown h)))
theorem Kept.unloadOrder {k tag} (h : Kept d0 d) : Kept d0 (d.unloadOrder k tag) :=
  .takeOrder (fun _ h1 => .ite (.ite (.orderDone h1) (.unloadVcm h1)) (.orderDone (.down h1))) h
theorem Kept.offsetOrder {k tag wr ofs} (h : Kept d0 d) : Kept d0 (d.offsetOrder k tag wr ofs) := .takeOrder (fun _ h1 => .setLp (.enter (.setLp (.setLp h1)))) h
theorem Kept.coefWrite {a v who} (h : Kept d0 d) : Kept d0 (d.coefWrite a v who) :=
  .ite (.regWrite h) (.ite (.ite (.regWrite h) (.event h)) (.ite (.event h) (.regWrite (.ite (.event (.setFld h)) h))))
theorem Kept.shockTrip {a} (h : Kept d0 d) : Kept d0 (d.shockTrip a) := .ite (.rest h) (.rest h)

/-! ### The operations of Machine/Write.lean -/

theorem Kept.setAlink {a l} (h : Kept d0 d) : Kept d0 (d.setAlink a l) := h.rest
theorem Kept.linkAsk {a f} (h : Kept d0 d) : Kept d0 (d.linkAsk a f) := .ite h (.setAlink h)
theorem Kept.heatTo {n code} (h : Kept d0 d) : Kept d0 (d.heatTo n code) := .ite h (.linkAsk (.setWhead h))
theorem Kept.modeTo {a} (h : Kept d0 d) : Kept d0 (d.modeTo a) := .ite (.ite h (.linkAsk h)) (.ite h (.linkAsk h))
theorem Kept.modRun {n f} (h : Kept d0 d) : Kept d0 (d.modRun n f) := .setWhead h
theorem Kept.askSector {n} (h : Kept d0 d) : Kept d0 (d.askSector n) := by
  unfold Dev.askSector
  split
  · exact h
  · refine .ite h ?_
    split
    · exact .modRun h
    · exact .ite (.modRun h) (.bufAsk (.modRun (.rest h)))
theorem Kept.askAll {a} (h : Kept d0 d) : Kept d0 (d.askAll a) := .foldl (fun _ _ h1 => .askSector h1) h
theorem Kept.sendRecord {n b} (h : Kept d0 d) : Kept d0 (d.sendRecord n b) := by
  unfold Dev.sendRecord
  extract_lets +onlyGivenNames _
  refine .ite h ?_
  extract_lets +onlyGivenNames d1
  have h1 : Kept d0 d1 := .setWhead h
  split
  · exact h1
  · exact .linkAsk (.linkAsk (.linkAsk h1))
theorem Kept.startWrite {n} (h : Kept d0 d) : Kept d0 (d.startWrite n) := by
  unfold Dev.startWrite
  extract_lets +onlyGivenNames _
  split
  · exact .askAll (.modeTo (.sendRecord (.heatTo (.setWhead h))))
  · exact h
theorem Kept.wroteReport {r} (h : Kept d0 d) : Kept d0 (d.wroteReport r) := by
  unfold Dev.wroteReport
  extract_lets +onlyGivenNames d1 d2
  have h1 : Kept d0 d1 := .runReport h
  have h2 : Kept d0 d2 := by
    refine .foldl (fun _ _ h3 => ?_) h1
    split
    · exact .secWritten h3
    · exact h3
  exact .pruneOrders h2
theorem Kept.endWrite {n r extra} (h : Kept d0 d) : Kept d0 (d.endWrite n r extra) := by
  unfold Dev.endWrite
  extract_lets x d1 d2 d3
  have h1 : Kept d0 d1 := .wroteReport (.setWhead h)
  refine .askAll (.ite (.startWrite h1) ?_)
  split
  · exact .heatTo (.modeTo h1)
  · exact .modeTo h1
theorem Kept.sectorWritten {n} (h : Kept d0 d) : Kept d0 (d.sectorWritten n) := by
  unfold Dev.sectorWritten
  split
  · split
    · exact .bump (.modRun h)
    · exact h
  · exact h
theorem Kept.gateNow {n} (h : Kept d0 d) : Kept d0 (d.gateNow n) := by
  unfold Dev.gateNow
  split
  · exact .ite (.ite (.sectorWritten h) (.modRun h)) h
  · exact h
theorem Kept.notWritten {n i flags} (h : Kept d0 d) : Kept d0 (d.notWritten n i flags) := .modRun h
theorem Kept.injStart {_n} (h : Kept d0 d) : Kept d0 (d.injStart _n) := .ite (.setFlag (.setFld h)) (.setFld h)
theorem Kept.inhEvent {n i inj} (h : Kept d0 d) : Kept d0 (d.inhEvent n i inj) := by
  unfold Dev.inhEvent
  extract_lets +onlyGivenNames _
  split
  · exact h
  · exact .ite h (.event (.setWhead h))
theorem Kept.drivePart {n pos p rest} (h : Kept d0 d) : Kept d0 (d.drivePart n pos p rest) := by
  unfold Dev.drivePart
  extract_lets +onlyGivenNames _
  split
  · exact h
  · exact .setWhead (.rest h)
theorem Kept.raiseGate {n i r} (h : Kept d0 d) : Kept d0 (d.raiseGate n i r) := by
  unfold Dev.raiseGate
  extract_lets +onlyGivenNames _ _ _
  split
  · exact .drivePart (.modRun h)
  · exact h
theorem Kept.cutGate {n flags} (h : Kept d0 d) : Kept d0 (d.cutGate n flags) := by
  unfold Dev.cutGate
  split
  · split
    · exact .bump (.notWritten h)
    · exact h
  · exact h
theorem Kept.loseWrites {n} (h : Kept d0 d) : Kept d0 (d.loseWrites n) := by
  unfold Dev.loseWrites
  extract_lets +onlyGivenNames d1 _ d2
  have h1 : Kept d0 d1 := .cutGate (.gateNow h)
  have h2 : Kept d0 d2 := by
    unfold d2
    split
    · exact .wroteReport h1
    · exact h1
  exact .setWhead (.foldl (fun _ _ h4 => .runReport h4) (.foldl (fun _ _ h3 => .runReport h3) h2))
theorem Kept.loseReads {n} (h : Kept d0 d) : Kept d0 (d.loseReads n) := by
  unfold Dev.loseReads
  extract_lets +onlyGivenNames _ d1 _ d2
  have h1 : Kept d0 d1 := .foldl (fun _ _ h1 => .readsLost (.runReport h1)) h
  have h2 : Kept d0 d2 := .setChan h1
  split
  · exact .ite (.setChan (.readsLost h2)) (.endRun (.readsLost h2))
  · exact h2
theorem Kept.failLink {a op seq} (h : Kept d0 d) : Kept d0 (d.failLink a op seq) := .event (.foldl (fun _ _ h2 => .loseReads (.loseWrites h2)) (.setAlink (.setFld h)))
theorem Kept.bringupFail {a id step op seq} (h : Kept d0 d) : Kept d0 (d.bringupFail a id step op seq) := .failLink (.event h)
theorem Kept.driveFrame {a f} (h : Kept d0 d) : Kept d0 (d.driveFrame a f) := .setAlink h
theorem Kept.resendFrame {a f} (h : Kept d0 d) : Kept d0 (d.resendFrame a f) := by
  unfold Dev.resendFrame
  extract_lets +onlyGivenNames _
  refine .ite ?_ (.event (.bump (.driveFrame (.setAlink h))))
  split
  · exact .bringupFail h
  · exact .failLink h
theorem Kept.bringStep {a b f reg data} (h : Kept d0 d) : Kept d0 (d.bringStep a b f reg data) := by
  unfold Dev.bringStep
  extract_lets put d1 d2
  have h2 : Kept d0 d2 := .event (.setFld (.setFld (.setFld h)))
  refine .ite (.ite (.bringupFail h2) ?_) (.ite (.bringupFail h) (.ite (.setAlink h) (.ite (.setAlink h) (.ite (.ite (.bringupFail h) (.setAlink (.setFld h)))
      (.setAlink h)))))
  split
  · exact .bringupFail h2
  · exact .ite (.bringupFail h2) (.setAlink (.foldl (fun _ _ h => .linkAsk (.setWhead h)) (.linkAsk (.foldl (fun _ _ h => .linkAsk h) h2))))
theorem Kept.goodReply {a f reg data} (h : Kept d0 d) : Kept d0 (d.goodReply a f reg data) := by
  unfold Dev.goodReply
  extract_lets l d1 n w d2
  have h1 : Kept d0 d1 := .setAlink h
  have h2 : Kept d0 d2 := .ite (.setWhead h1) (.ite (.setWhead h1) (.ite (.event h1) h1))
  split
  · exact .bringStep h2
  · exact h2
theorem Kept.badReply {a f data} (h : Kept d0 d) : Kept d0 (d.badReply a f data) := by
  unfold Dev.badReply
  extract_lets +onlyGivenNames _ d1 d2
  have h1 : Kept d0 d1 := .setAlink h
  have h2 : Kept d0 d2 := .ite (.event h1) h1
  split
  · exact .bringupFail h2
  · exact h2
theorem Kept.writeOrder {n o retry} (h : Kept d0 d) : Kept d0 (d.writeOrder n o retry) := .ite h (.ite (.runReport h) (.startWrite (.setWhead h)))
theorem Kept.newTag (h : Kept d0 d) : Kept d0 (d.newTag).2 := h.rest
theorem Kept.heaterNotice {n o} (h : Kept d0 d) : Kept d0 (d.heaterNotice n o) := .ite (.runReport h) (.ite (.runReport h) (.ite (.heatTo (.setWhead h)) (.setWhead h)))
theorem Kept.wrecWrite {a v who} (h : Kept d0 d) : Kept d0 (d.wrecWrite a v who) := .setWhead (.regWrite h)

/-! ### The operations of Machine/Media.lean -/

theorem Kept.setLadder {l} (h : Kept d0 d) : Kept d0 (d.setLadder l) := h.rest
theorem Kept.dropLadder {l} (h : Kept d0 d) : Kept d0 (d.dropLadder l) := h.rest
theorem Kept.endLadder {l} (h : Kept d0 d) : Kept d0 (d.endLadder l) := .releaseRetained (.dropLadder h)
theorem Kept.ladderFail {l budget} (h : Kept d0 d) : Kept d0 (d.ladderFail l budget) := .readFails (.bump (.event (.endLadder h)))
theorem Kept.charge {l k} (h : Kept d0 d) : Kept d0 (d.charge l k) := by
  unfold Dev.charge
  split
  · exact .modCmd h
  · exact .setLadder h
theorem Kept.ladderRead {l k made} (h : Kept d0 d) : Kept d0 (d.ladderRead l k made) := .heaterNotice (.setLadder (.ite (.newTag h) (.charge (.newTag h))))
theorem Kept.ladderTry {l k made} (h : Kept d0 d) : Kept d0 (d.ladderTry l k made) := by
  unfold Dev.ladderTry
  refine .ite (.ladderFail h) ?_
  refine .ite (.ladderRead h) ?_
  split
  · exact .ite (.ladderRead h) (.ite (.setLadder h) h)
  · exact .ite h (.offsetOrder (.setLadder (.newTag h)))
theorem Kept.ladderGo {l} (h : Kept d0 d) : Kept d0 (d.ladderGo l) := by
  unfold Dev.ladderGo
  refine .ite (.ladderFail h) ?_
  refine .ite (.ladderTry h) ?_
  split
  · exact .ladderFail h
  · refine .ite ?_ (.ladderTry h)
    split
    · exact .setLadder (.setDec h)
    · exact h
theorem Kept.sectorLanded {a nsid lba slot} (h : Kept d0 d) : Kept d0 (d.sectorLanded a nsid lba slot) := by
  unfold Dev.sectorLanded
  extract_lets +onlyGivenNames _ _ _
  refine .ite (.setSlotBusy h) ?_
  extract_lets +onlyGivenNames d1
  have h1 : Kept d0 d1 := by
    refine .foldl (fun _ _ h2 => ?_) h
    extract_lets +onlyGivenNames d3
    have h3 : Kept d0 d3 := .modCmd h2
    split
    · exact .ite (.cmdCheck h3) (.msqPost h3)
    · exact h3
  exact .pruneOrders (.ringLand h1)
theorem Kept.sectorNotOk {r nsid lba} (h : Kept d0 d) : Kept d0 (d.sectorNotOk r nsid lba) := by
  unfold Dev.sectorNotOk
  split
  · exact .setLadder h
  · exact .ite (.setLadder h) (.releaseRetained h)
theorem Kept.takeReport {a r} (h : Kept d0 d) : Kept d0 (d.takeReport a r) := by
  unfold Dev.takeReport
  extract_lets +onlyGivenNames _ _
  refine .ite ?_ ?_
  · extract_lets +onlyGivenNames d1
    have h1 : Kept d0 d1 := by
      unfold d1
      split
      · exact .dropLadder h
      · exact h
    exact .sectorLanded h1
  · refine .ite ?_ ?_
    · split
      · exact .ite (.setLadder h) h
      · exact h
    · refine .ite (.bump h) ?_
      refine .ite ?_ (.sectorNotOk h)
      extract_lets +onlyGivenNames d1
      have h1 : Kept d0 d1 := by
        unfold d1
        split
        · exact .endLadder h
        · exact h
      exact .readFails h1
theorem Kept.holdLost {r ids} (h : Kept d0 d) : Kept d0 (d.holdLost r ids) := .pruneOrders (.holdSectors h)
theorem Kept.destageFails {r ids charged} (h : Kept d0 d) : Kept d0 (d.destageFails r ids charged) := .holdLost (.rest (.bump (.event h)))

/-! ### The operations of Machine/Ring.lean -/

theorem Kept.freeHop {p f} (h : Kept d0 d) : Kept d0 (d.freeHop p f) := .ite h (.modRport h)
theorem Kept.fcntCheck {p} (h : Kept d0 d) : Kept d0 (d.fcntCheck p) := .ite (.startJoin h) h
theorem Kept.ringDo {f} (hf : ∀ e, Kept d0 e → Kept d0 (f e)) (h : Kept d0 d) : Kept d0 (d.ringDo f) := .ringSettle (.pump (.pump (.fcntCheck (.fcntCheck (hf _ h)))))
theorem Kept.joinChal {p f} (h : Kept d0 d) : Kept d0 (d.joinChal p f) := by
  unfold Dev.joinChal
  extract_lets +onlyGivenNames d1
  have h1 : Kept d0 d1 := .ite (.startJoin h) h
  refine .ite h1 ?_
  extract_lets +onlyGivenNames d2
  have h2 : Kept d0 d2 := .modRport h1
  exact .ite (.refuseJoin h2) (.ite (.refuseJoin h2) (.originate (.ite (.modRport (.setFlag h2)) h2)))
theorem Kept.joinResp {p f} (h : Kept d0 d) : Kept d0 (d.joinResp p f) := .ite h (.ite (.refuseJoin h) (.originate (.setRport h)))
theorem Kept.joinConf {p f} (h : Kept d0 d) : Kept d0 (d.joinConf p f) := .ite h (.startEnum (.bump (.event (.modRport (.setRstate (.learnEpoch h))))))
theorem Kept.helloIn {p f} (h : Kept d0 d) : Kept d0 (d.helloIn p f) := by
  unfold Dev.helloIn
  extract_lets +onlyGivenNames d1
  have h1 : Kept d0 d1 := .ite (.enterEnum h) h
  exact .ite (.freeHop h1) (.ite (.freeHop (.modRng h1)) (.ite (.startEnum (.freeHop h1)) (.ite (.freeHop (.ite h1 (.setFld (.modRng h1)))) (.forward (.ite h1 (.setFld
      (.modRng h1)))))))
theorem Kept.rreqIn {p f} (h : Kept d0 d) : Kept d0 (d.rreqIn p f) := by
  unfold Dev.rreqIn
  extract_lets +onlyGivenNames _ _ _ _
  refine .ite (.sendJend (.event h)) ?_
  split
  · exact .sendJend (.event h)
  · exact .ite (.sendJend (.event h)) (.ite (.sendJend (.event h)) (.ite (.sendJend (.event h)) (.serveReads (.modRng h))))
theorem Kept.jobStartIn {p f} (h : Kept d0 d) : Kept d0 (d.jobStartIn p f) := by
  unfold Dev.jobStartIn
  extract_lets +onlyGivenNames _ _ _ _ d1 _ d2
  have h1 : Kept d0 d1 := .ite (.modRng h) h
  have h2 : Kept d0 d2 := .ite (.modRng h1) h1
  split
  · exact h2
  · extract_lets +onlyGivenNames _ _ _ _
    refine .ite h2 ?_
    split
    · exact .sendJend h2
    · exact .ite (.sendJend h2) (.ite (.sendJend (.event h2)) (.showJobs (.bump (.modRng h2))))
theorem Kept.accIn {p f} (h : Kept d0 d) : Kept d0 (d.accIn p f) := .ite (.modRng (.ringUnits h)) (.modRng (.ringUnits h))
theorem Kept.jcreditIn {f} (h : Kept d0 d) : Kept d0 (d.jcreditIn f) := by
  unfold Dev.jcreditIn
  exact .modRng h
theorem Kept.jendIn {f} (h : Kept d0 d) : Kept d0 (d.jendIn f) := by
  unfold Dev.jendIn
  extract_lets +onlyGivenNames _ _
  refine .ite (.showJobs (.modRng h)) ?_
  split
  · exact .ite (.failJob h) (.ite (.modRng h) h)
  · split
    · exact .ite (.finish (.modRng h)) h
    · exact h
theorem Kept.rdataIn {p f} (h : Kept d0 d) : Kept d0 (d.rdataIn p f) := by
  unfold Dev.rdataIn
  split
  · exact h
  · exact .ite h (.ite (.foldl (fun _ _ h4 => .lineWrite h4) (.lineWrite (.lineWrite (.modRng (.ringUnits h))))) (.lineWrite (.lineWrite (.modRng (.ringUnits h)))))
theorem Kept.deliverFrame {p f} (h : Kept d0 d) : Kept d0 (d.deliverFrame p f) := by
  unfold Dev.deliverFrame
  refine .ite (.helloIn h) ?_
  refine .ite (.joinChal h) ?_
  refine .ite (.joinResp h) ?_
  refine .ite (.joinConf h) ?_
  refine .ite (.freeHop (.bumpPort h)) ?_
  extract_lets +onlyGivenNames _ d1
  have h1 : Kept d0 d1 := .ite (.jobStartIn h) (.ite h (.ite (.jcreditIn h) (.ite (.jendIn h) (.ite (.rreqIn h) (.ite (.accIn h) (.ite (.rdataIn h) h))))))
  exact .ite (.freeHop h1) (.forward h1)
theorem Kept.deliverHeld {p x2} (h : Kept d0 d) : Kept d0 (d.deliverHeld p x2) := by
  induction x2 generalizing d p with
  | zero => exact h
  | succ x2 ih =>
    unfold Dev.deliverHeld
    extract_lets +onlyGivenNames _
    split
    · exact h
    · exact ih (.deliverFrame (.setRport h))
theorem Kept.tagFail {p f} (h : Kept d0 d) : Kept d0 (d.tagFail p f) := .sendAck (.event (.bumpPort (.modRport h)))
theorem Kept.ringReceive {p f} (h : Kept d0 d) : Kept d0 (d.ringReceive p f) := by
  unfold Dev.ringReceive
  extract_lets +onlyGivenNames _
  refine .ite h ?_
  refine .ite (.sendAck (.bumpPort h)) ?_
  extract_lets +onlyGivenNames _ d1
  have h1 : Kept d0 d1 := .bumpPort h
  exact .ite (.tagFail h1) (.ite (.sendAck (.ite (.modRport h1) h1)) (.ite (.deliverHeld (.deliverFrame (.modRport (.ite (.modRport h1) h1)))) (.sendAck (.bumpPort
      (.modRport (.ite (.modRport h1) h1))))))
theorem Kept.resend {p q} (h : Kept d0 d) : Kept d0 (d.resend p q) := .incSat (.bump (.setRport h))
theorem Kept.laneCheck {mism job b tgt} (h : Kept d0 d) : Kept d0 (d.laneCheck mism job b tgt).1 := .iteF (.event (.bump (.ite (.setFlag h) h))) (.ite (.setFlag h) h)
theorem Kept.chunkBad {l old job i tgt} (h : Kept d0 d) : Kept d0 (d.chunkBad l old job i tgt) := .ite (.event h) h
theorem Kept.eceUnits {k} (h : Kept d0 d) : Kept d0 (d.eceUnits k) := .bufCharge h
theorem Kept.foldPart {j b edc mism} (h : Kept d0 d) : Kept d0 (d.foldPart j b edc mism) := by
  unfold Dev.foldPart
  extract_lets +onlyGivenNames _
  split
  · refine .ite h ?_
    extract_lets +onlyGivenNames d1
    have h1 : Kept d0 d1 := .chunkBad (.ringUnits (.eceUnits h))
    split
    rename_i x d2 he
    have h2 : Kept d0 d2 := .ofS he (.chunkBlock h1)
    split
    rename_i d3 m he
    have h3 : Kept d0 d3 := .ofF he (.laneCheck h2)
    extract_lets +onlyGivenNames _ d4 d5 _ _ _ _ _ d6 d7
    have h4 : Kept d0 d4 := .bump h3
    have h5 : Kept d0 d5 := .ite (.bump h4) h4
    have h6 : Kept d0 d6 := .modRng h5
    have h7 : Kept d0 d7 := .originate h6
    exact .ite (.showJobs (.sendJend (.ite h7 (.originate h7)))) (.ite h7 (.originate h7))
  · exact h
theorem Kept.sectorDone {j i} (h : Kept d0 d) : Kept d0 (d.sectorDone j i) := by
  unfold Dev.sectorDone
  extract_lets +onlyGivenNames _ d1
  have h1 : Kept d0 d1 := .ite (.foldl (fun _ _ h1 => .lineWrite h1) h) h
  refine .ite h1 ?_
  extract_lets +onlyGivenNames d2 d3
  have h2 : Kept d0 d2 := .mapCache h1
  have h3 : Kept d0 d3 := by
    unfold d3
    split
    · exact .syncZone h2
    · exact h2
  exact .noteSector (.modRng h3)
theorem Kept.combineBlock {j b edc mism} (h : Kept d0 d) : Kept d0 (d.combineBlock j b edc mism) := by
  unfold Dev.combineBlock
  extract_lets +onlyGivenNames side own
  clear_value side own
  split
  · refine .ite h ?_
    extract_lets +onlyGivenNames d1 acc
    have h1 : Kept d0 d1 := .eceUnits h
    split
    next r d2 he =>
    have h2 : Kept d0 d2 := by
      refine .ofS he ?_
      split
      · exact h1
      · exact .chunkBlock (.chunkBad h1)
    split
    next d3 m he =>
    have h3 : Kept d0 d3 := .ofF he (.laneCheck h2)
    extract_lets err d4 d5 out j' d6 line d7 credit d8
    have h5 : Kept d0 d5 := .ite (.bump (.bump h3)) (.bump h3)
    have hc {e es p} (h : Kept d0 e) : Kept d0 (credit e es p) := by
      unfold credit
      split
      · exact .originate h
      · exact h
    have h8 : Kept d0 d8 := hc (hc (.lineWrite (.lineWrite (.modRng h5))))
    exact .ite (.sectorDone h8) h8
  · exact h
theorem Kept.sendStarts {p j es} (h : Kept d0 d) : Kept d0 (d.sendStarts p j es) := by
  unfold Dev.sendStarts
  split
  · exact h
  · exact .ite (.originate h) (.originate (.originate h))
theorem Kept.issueJob {j} (h : Kept d0 d) : Kept d0 (d.issueJob j) := .sendStarts (.sendStarts (.showJobs (.bump (.modRng h))))
theorem Kept.whistleWrite {v who} (h : Kept d0 d) : Kept d0 (d.whistleWrite v who) := by
  unfold Dev.whistleWrite
  extract_lets +onlyGivenNames d1
  have h1 : Kept d0 d1 := .regWrite h
  exact .ite (.sendWhistle (.ite (.sendWhistle h1) h1)) (.ite (.sendWhistle h1) h1)

/-! ### The operations of Machine/SeqOps.lean -/

theorem Kept.setCtxWord {s c i w} (h : Kept d0 d) : Kept d0 (d.setCtxWord s c i w) := .ite h (.ite (.sram (.setFlag (.modSeq h))) (.modSeq h))
theorem Kept.flagSet {s v who} (h : Kept d0 d) : Kept d0 (d.flagSet s v who) := .setFld (.regWrite h)
theorem Kept.flagClear {s v who} (h : Kept d0 d) : Kept d0 (d.flagClear s v who) := .setFld (.regWrite h)
theorem Kept.restart {s t} (h : Kept d0 d) : Kept d0 (d.restart s t) := .bump (.setThread (.releaseLock h))
theorem Kept.endThread {s t} (h : Kept d0 d) : Kept d0 (d.endThread s t) := .setThread (.releaseLock h)
theorem Kept.haltSeq {s pc inj} (h : Kept d0 d) : Kept d0 (d.haltSeq s pc inj) :=
  .foldl (fun _ _ h4 => .quit (fun _ h5 => .abandon h5) h4) (.event (.foldl (fun _ _ h2 => .endThread h2) (.setFld (.setFld h))))
theorem Kept.faultRestart {s t inj} (h : Kept d0 d) : Kept d0 (d.faultRestart s t inj) :=
  .ite (.haltSeq (.restart (.setThread (.bump (.incSat h))))) (.restart (.setThread (.bump (.incSat h))))
theorem Kept.cstoreError {s t kind inj} (h : Kept d0 d) : Kept d0 (d.cstoreError s t kind inj) := .faultRestart (.event (.bump (.flagFault h)))
theorem Kept.regFileError {s t} (h : Kept d0 d) : Kept d0 (d.regFileError s t) := .faultRestart (.event (.drawNat h))
theorem Kept.microFault {s t kind} (h : Kept d0 d) : Kept d0 (d.microFault s t kind) := .faultRestart (.event h)

/-! ### The operations of Machine/Spindle.lean -/

theorem Kept.setSpn {x} (h : Kept d0 d) : Kept d0 (d.setSpn x) := h.rest
theorem Kept.modSpn {f} (h : Kept d0 d) : Kept d0 (d.modSpn f) := h.rest
theorem Kept.showSpeed (h : Kept d0 d) : Kept d0 d.showSpeed := .setFlag (.setFld (.setFld h))
theorem Kept.lockLost (h : Kept d0 d) : Kept d0 d.lockLost := .ite (.event (.bump (.setSpn (.setFld h)))) (.setSpn h)
theorem Kept.setGates {g} (h : Kept d0 d) : Kept d0 (d.setGates g) := .ite h (.setSpn h)
theorem Kept.spin {st g} (h : Kept d0 d) : Kept d0 (d.spin st g) := .setGates (.setSpn (.setFld (.ite (.lockLost h) h)))
theorem Kept.gatesOff (h : Kept d0 d) : Kept d0 d.gatesOff := .spin h
theorem Kept.enterRun (h : Kept d0 d) : Kept d0 d.enterRun := .showSpeed (.setSpn (.spin h))
theorem Kept.shortBrake (h : Kept d0 d) : Kept d0 d.shortBrake := .spin h
theorem Kept.startMeasure (h : Kept d0 d) : Kept d0 d.startMeasure := .ite h (.setSpn h)
theorem Kept.spinRanked (h : Kept d0 d) : Kept d0 d.spinRanked := .ite (.gatesOff h) (.ite (.shortBrake h) (.ite (.spin h) (.gatesOff h)))
theorem Kept.spinDemand {old} (h : Kept d0 d) : Kept d0 (d.spinDemand old) := by
  unfold Dev.spinDemand
  refine .ite (.ite (.setSpn h) (.gatesOff (.setSpn h))) ?_
  extract_lets +onlyGivenNames _ _ _ _ _ d1 d2 _
  have h1 : Kept d0 d1 := .setSpn h
  have h2 : Kept d0 d2 := .ite (.lockLost h1) h1
  refine .ite (.startMeasure h2) ?_
  refine .ite ?_ h2
  extract_lets +onlyGivenNames _ d3
  have h3 : Kept d0 d3 := .setSpn h2
  exact .ite h3 (.ite (.gatesOff h3) (.ite (.shortBrake h3) h3))
theorem Kept.demandWrite {v who} (h : Kept d0 d) : Kept d0 (d.demandWrite v who) := .spinDemand (.regWrite h)
theorem Kept.resolverFail {why m inj} (h : Kept d0 d) : Kept d0 (d.resolverFail why m inj) := .ite h (.event (.bump (.setSpn (.gatesOff (.setFld h)))))
theorem Kept.observe {angle} (h : Kept d0 d) : Kept d0 (d.observe angle) := .showSpeed (.setSpn h)
theorem Kept.resolverTake {why m inj} (h : Kept d0 d) : Kept d0 (d.resolverTake why m inj) := by
  unfold Dev.resolverTake
  split
  · exact .modSpn h
  · exact .ite (.resolverFail (.modSpn h)) (.modSpn h)
theorem Kept.resolverInj (h : Kept d0 d) : Kept d0 d.resolverInj := .ite (.setFlag (.modSpn h)) (.modSpn h)
theorem Kept.followSpeed (h : Kept d0 d) : Kept d0 d.followSpeed := .ite (.setFld h) (.ite (.modSpn (.spin h)) (.ite (.enterRun h) h))
theorem Kept.currents {iu iv iw idr iqr t} (h : Kept d0 d) : Kept d0 (d.currents iu iv iw idr iqr t) := .setGates (.setSpn h)
theorem Kept.moveTarget (h : Kept d0 d) : Kept d0 d.moveTarget := .showSpeed (.setSpn h)
theorem Kept.foc {iu iv iw istar} (h : Kept d0 d) : Kept d0 (d.foc iu iv iw istar) := .currents (.setSpn h)
theorem Kept.overVoltage {vb inj} (h : Kept d0 d) : Kept d0 (d.overVoltage vb inj) := .ite h (.event (.bump (.spinRanked (.setSpn (.setFld h)))))
theorem Kept.powerFail {vb} (h : Kept d0 d) : Kept d0 (d.powerFail vb) :=
  .ite h (.event (.ite (.bump (.spinRanked (.setSpn (.setFld (.setFunc h))))) (.spinRanked (.setSpn (.setFld (.setFunc h))))))
theorem Kept.chop {vb} (h : Kept d0 d) : Kept d0 (d.chop vb) := by
  unfold Dev.chop
  refine .ite (.setSpn h) ?_
  refine .ite (.bump (.setSpn h)) ?_
  refine .ite (.setSpn (.ite (.setFlag h) h)) ?_
  split
  · exact .ite (.setSpn h) h
  · exact h

/-! ### The operations of Machine/Mdc.lean -/

theorem Kept.modMdc {f} (h : Kept d0 d) : Kept d0 (d.modMdc f) := h.rest
theorem Kept.mdcShow (h : Kept d0 d) : Kept d0 d.mdcShow := .setFld (.setFld h)
theorem Kept.minject {tagStore set way low} (h : Kept d0 d) : Kept d0 (d.minject tagStore set way low) := .ite h (.modMdc (.setFlag h))
theorem Kept.setMline {set way l} (h : Kept d0 d) : Kept d0 (d.setMline set way l) := .minject (.mdcShow (.modMdc h))
theorem Kept.mresp {r status hit data} (h : Kept d0 d) : Kept d0 (d.mresp r status hit data) := .modMdc h
theorem Kept.mclear {set way} (h : Kept d0 d) : Kept d0 (d.mclear set way) := .modMdc h
theorem Kept.mpoison {line w l inj} (h : Kept d0 d) : Kept d0 (d.mpoison line w l inj) := .event (.bump (.setMline (.mclear h)))
theorem Kept.mfailSet {set inj} (h : Kept d0 d) : Kept d0 (d.mfailSet set inj) := .event (.flagFault (.mdcShow (.modMdc h)))
theorem Kept.mtagRead {set sram} (h : Kept d0 d) : Kept d0 (d.mtagRead set sram) := by
  unfold Dev.mtagRead
  split
  · exact .ite (.mfailSet (.modMdc h)) (.sram (.modMdc h))
  · split
    · exact .mfailSet (.memError h)
    · exact .sram h
theorem Kept.mdataRead {line w l sram} (h : Kept d0 d) : Kept d0 (d.mdataRead line w l sram) := by
  unfold Dev.mdataRead
  split
  · exact .ite (.mpoison (.flagFault h)) (.sram (.modMdc h))
  · split
    · exact .mpoison (.flagFault (.memError h))
    · exact .sram h
theorem Kept.mserve {r w l hit sram} (h : Kept d0 d) : Kept d0 (d.mserve r w l hit sram) := by
  unfold Dev.mserve
  extract_lets +onlyGivenNames _ _
  split
  · extract_lets +onlyGivenNames d1
    have h1 : Kept d0 d1 := .ite h (.mdataRead h)
    split
    · exact .ite (.mresp h1) (.mresp (.setMline h1))
    · exact .mresp h1
  · refine .ite (.mresp (.bump (.minject (.setMline (.mclear h))))) ?_
    extract_lets +onlyGivenNames d1
    have h1 : Kept d0 d1 := .ite h (.mdataRead h)
    split
    · exact .ite (.mresp h1) (.mresp (.bump (.minject (.setMline h1))))
    · exact .mresp h1
theorem Kept.mnext (h : Kept d0 d) : Kept d0 (d.mnext).2 := by
  dsimp only [Dev.mnext]
  exact .modMdc h
theorem Kept.mwriteBack {line data} (h : Kept d0 d) : Kept d0 (d.mwriteBack line data).2 := .bufAsk (.bump (.modMdc (.mnext h)))
theorem Kept.mvictim {set} (h : Kept d0 d) : Kept d0 (d.mvictim set).2 := by
  unfold Dev.mvictim
  dsimp only
  split
  · exact h
  · split
    · exact h
    · have hf {l : List Nat} {n : Nat} : Kept d0 (l.foldl (fun (d : Dev) w => match d.mline set w with
          | some l => d.setMline set w (some { l with age := min (l.age + (3 - n)) 3 })
          | none => d) d) := by
        refine .foldl (fun _ _ h2 => ?_) h
        split
        · exact .setMline h2
        · exact h2
      split <;> exact hf
theorem Kept.mevict {set w} (h : Kept d0 d) : Kept d0 (d.mevict set w).2 := by
  unfold Dev.mevict
  split
  · exact h
  · exact .iteS (.ite (.mdataRead h) h) (.setMline (.mclear (.ite (.mwriteBack (.ite (.mdataRead h) h)) (.ite (.mdataRead h) h))))
theorem Kept.mclaim {set n} (h : Kept d0 d) : Kept d0 (d.mclaim set n).2 := by
  induction n generalizing d with
  | zero => exact h
  | succ n ih =>
    have hv := h.mvictim (set := set)
    unfold Dev.mclaim
    split
    · next w e he =>
      have hm := (Kept.ofS he hv).mevict (set := set) (w := w)
      split
      · next he' => exact .ofS he' hm
      · next he' => exact ih (.ofS he' hm)
    · exact hv
theorem Kept.mfill {line w age stream reqs} (h : Kept d0 d) : Kept d0 (d.mfill line w age stream reqs) :=
  .bufAsk (.ite (.bump (.bump (.modMdc (.mnext h)))) (.bump (.modMdc (.mnext h))))
theorem Kept.mnoWay {line} (h : Kept d0 d) : Kept d0 (d.mnoWay line) := .event (.bump h)
theorem Kept.mmiss {r} (h : Kept d0 d) : Kept d0 (d.mmiss r) := by
  unfold Dev.mmiss
  dsimp only
  refine .ite (.modMdc h) ?_
  split
  · next he => exact .modMdc (.ofS he h.mclaim)
  · next he => exact .mresp (.mnoWay (.ofS he h.mclaim))
  · next he =>
    have h1 := Kept.ofS he h.mclaim
    exact .ite (.mresp (.bump (.minject (.setMline (.bump h1))))) (.mfill (.bump h1))
theorem Kept.mpass {r} (h : Kept d0 d) : Kept d0 (d.mpass r) := .bufAsk (.modMdc (.mnext (.bump (.ite (.setFld h) h))))
theorem Kept.mtake {r sram} (h : Kept d0 d) : Kept d0 (d.mtake r sram) := by
  unfold Dev.mtake
  refine .ite (.mresp h) ?_
  refine .ite (.modMdc h) ?_
  refine .ite (.mpass h) ?_
  split
  · exact .bump (.modMdc h)
  · split
    · split
      · exact .mserve (.bump h)
      · exact h
    · exact .mmiss h
theorem Kept.mrequest {r sram tags} (h : Kept d0 d) : Kept d0 (d.mrequest r sram tags) :=
  .ite (.mresp h) (.ite (.mresp h) (.ite (.mresp h) (.mtake (.ite h (.mtagRead h)))))
theorem Kept.mretry (h : Kept d0 d) : Kept d0 d.mretry := .foldl (fun _ _ h1 => .mtake h1) (.modMdc h)
theorem Kept.mcount {f n} (h : Kept d0 d) : Kept d0 (d.mcount f n) := .setFld h
theorem Kept.mdrop {set w l} (h : Kept d0 d) : Kept d0 (d.mdrop set w l) := .ite (.bump (.mcount (.setMline (.mclear h)))) (.setMline (.mclear h))
theorem Kept.mclean {line w l} (h : Kept d0 d) : Kept d0 (d.mclean line w l) := .ite h (.modMdc (.mcount (.setMline (.mwriteBack h))))
theorem Kept.mactPresent {op line w l} (h : Kept d0 d) : Kept d0 (d.mactPresent op line w l) := by
  unfold Dev.mactPresent
  extract_lets +onlyGivenNames _ _ _ d1 _
  have h1 : Kept d0 d1 := .ite (.mdataRead h) h
  split
  · exact .ite (.mcount h1) (.setMline h1)
  · exact .minject (.setMline (.mclear h1))
  · exact .ite (.mcount h1) (.mclean h1)
  · exact .ite (.bump (.mcount h1)) (.mdrop h1)
  · refine .ite ?_ (.ite (.bump (.mcount (.mclean h1))) (.setMline (.mclear (.mclean h1))))
    refine .ite (.bump (.mcount h1)) ?_
    extract_lets +onlyGivenNames d2
    have h2 : Kept d0 d2 := .mcount (.setMline (.mclear h1))
    exact .ite (.bump h2) h2
theorem Kept.mact {op line} (h : Kept d0 d) : Kept d0 (d.mact op line).2 := by
  unfold Dev.mact
  extract_lets set d1
  have h1 : Kept d0 d1 := .ite h (.mtagRead h)
  refine .iteS (.mcount h1) (.iteS h1 ?_)
  split
  · split
    · exact .bump (.mactPresent h1)
    · exact h1
  · refine .iteS h1 (.iteS h1 ?_)
    split
    · next he => exact .ofS he h1.mclaim
    · next he => exact .mcount (.mnoWay (.ofS he h1.mclaim))
    · next he =>
      have h2 := Kept.ofS he h1.mclaim
      exact .iteS (.mfill (.bump h2)) (.minject (.setMline (.bump h2)))
theorem Kept.mrun {n} (h : Kept d0 d) : Kept d0 (d.mrun n) := by
  induction n generalizing d with
  | zero => exact h
  | succ n ih =>
    unfold Dev.mrun
    split
    · exact h
    · extract_lets x at_ d1
      refine .ite (.modMdc h) ?_
      split
      · next he => exact ih (.modMdc (.ofS he (.mact (.modMdc h))))
      · next he => exact .ofS he (.mact (.modMdc h))
theorem Kept.mrefuse {op err} (h : Kept d0 d) : Kept d0 (d.mrefuse op err) := .event (.setFld (.setFld h))
theorem Kept.mopGo {op} (h : Kept d0 d) : Kept d0 (d.mopGo op) := by
  unfold Dev.mopGo
  extract_lets +onlyGivenNames _ _
  refine .ite (.event h) ?_
  extract_lets +onlyGivenNames d1
  have h1 : Kept d0 d1 := .setFld (.setFld h)
  exact .ite (.mrefuse h1) (.ite (.mrefuse h1) (.ite (.mrefuse h1) (.mrun (.modMdc (.setFld (.setFld (.setFld (.setFld (.setFld h1)))))))))
theorem Kept.mopCtrlWrite {v who} (h : Kept d0 d) : Kept d0 (d.mopCtrlWrite v who) := .ite (.mopGo (.regWrite h)) (.regWrite h)
theorem Kept.mdcEnabled {was} (h : Kept d0 d) : Kept d0 (d.mdcEnabled was) := .ite (.event h) h
theorem Kept.mserveAll {w rs} (h : Kept d0 d) : Kept d0 (d.mserveAll w rs) := by
  unfold Dev.mserveAll
  refine .foldl (fun _ _ h1 => ?_) h
  split
  · exact .ite (.mserve h1) (.mtake h1)
  · exact .mtake h1
theorem Kept.mfillError {f} (h : Kept d0 d) : Kept d0 (d.mfillError f) := by
  unfold Dev.mfillError
  dsimp only
  split
  · exact .foldl (fun _ _ h1 => .mresp h1) h
  · exact .mserveAll (.mresp (.bump (.minject (.setMline (.mclear (.foldl (fun _ _ h1 => .mresp h1) h))))))
theorem Kept.mland {f resp} (h : Kept d0 d) : Kept d0 (d.mland f resp) :=
  .ite (.foldl (fun _ _ h2 => .mresp h2) (.modMdc h)) (.ite (.mfillError (.modMdc h)) (.mserveAll (.minject (.setMline (.mclear (.modMdc h))))))
theorem Kept.mpassed {p resp} (h : Kept d0 d) : Kept d0 (d.mpassed p resp) := by
  unfold Dev.mpassed
  extract_lets +onlyGivenNames d1
  have h1 : Kept d0 d1 := .modMdc h
  refine .ite (.mresp h1) ?_
  split
  · exact .mresp h1
  · exact .ite (.bufAsk (.modMdc h)) (.mresp h1)
theorem Kept.mwbBack {id} (h : Kept d0 d) : Kept d0 (d.mwbBack id) := .modMdc h
theorem Kept.mbuf {r e} (h : Kept d0 d) (he : d.mbuf = some (r, e)) : Kept d0 e := by
  unfold Dev.mbuf at he
  split at he
  · exact h.bufTake he
  · cases he
theorem Kept.mask {r sram tags bad} (h : Kept d0 d) : Kept d0 (d.mask r sram tags bad) := .ite h (.mrequest (.ite (.fault h) h))
theorem Kept.mopCmd {op who} (h : Kept d0 d) : Kept d0 (d.mopCmd op who) := .mopCtrlWrite h

/-! ### The operations of Machine/Rules.lean -/

theorem Kept.withStaged {b} (h : Kept d0 d) : Kept d0 (d.withStaged b) := .foldl (fun _ _ h1 => .setWord h1) h

/-! ### The operations of Machine/Commit.lean -/

theorem Kept.driveVid (h : Kept d0 d) : Kept d0 d.driveVid := .ite (.modPwr h) (.ite h (.modPwr h))
theorem Kept.srvCommitted (h : Kept d0 d) : Kept d0 d.srvCommitted :=
  .foldl (fun _ _ h2 => .ite (.setFlag (.setFlag h2)) (.fetchSwap (.setFlag (.setFlag h2)))) (.foldl (fun _ _ h1 => .setLp (.setWord h1)) h)
theorem Kept.committed {old x2} (h : Kept d0 d) : Kept d0 (d.committed old x2) := by
  unfold Dev.committed
  split
  · exact .srvCommitted h
  · exact .spinDemand h
  · exact .mdcEnabled h
  · exact .govern (.showVotes h)
  · exact .driveVid h
  · exact .ringPorts h
  · exact h
theorem Kept.applyBlock {b} (h : Kept d0 d) : Kept d0 (d.applyBlock b) := .committed (.ite (.setFld (.applyStaged h)) (.applyStaged h))
theorem Kept.showCommit {b failed dom rule} (h : Kept d0 d) : Kept d0 (d.showCommit b failed dom rule) := .setFld (.setFld (.setFlag h))
theorem Kept.refuseGo {b who} (h : Kept d0 d) : Kept d0 (d.refuseGo b who) := .event h
theorem Kept.commitBlock {b who} (h : Kept d0 d) : Kept d0 (d.commitBlock b who) :=
  .ite h (.ite (.refuseGo h) (.ite (.showCommit (.applyBlock h)) (.event (.showCommit h))))
theorem Kept.commitMembers {dom mem who} (h : Kept d0 d) : Kept d0 (d.commitMembers dom mem who) := by
  refine .setFld ?_
  split
  · exact .setFld (.setFld (.setFld (.setFld (.foldl (fun _ _ h2 => .showCommit (.applyBlock h2)) h))))
  · exact .event (.setFld (.setFld (.setFld (.setFld (.foldl (fun _ _ h2 => .ite (.showCommit h2) (.event (.showCommit h2))) h)))))
theorem Kept.commitDomain {i who} (h : Kept d0 d) : Kept d0 (d.commitDomain i who) := .ite (.event h) (.commitMembers h)
theorem Kept.endCommit {t rule} (h : Kept d0 d) : Kept d0 (d.endCommit t rule) := .ite (.finish h) (.finish h)

/-! ### The operations of Machine/Control.lean -/

theorem Kept.padrelWrite {v who} (h : Kept d0 d) : Kept d0 (d.padrelWrite v who) := .foldl (fun _ _ h2 => .ite (.setFld h2) (.event h2)) (.regWrite h)
theorem Kept.flashGo {s v who} (h : Kept d0 d) : Kept d0 (d.flashGo s v who) := by
  unfold Dev.flashGo
  extract_lets +onlyGivenNames d1
  have h1 : Kept d0 d1 := .regWrite h
  refine .ite h1 ?_
  split
  · exact .flashRead h1
  · exact .flashProgram h1
  · exact .flashErase h1
  · exact .flashSuspend h1
  · exact .flashResume h1
  · exact .flashBadOp h1
  · exact .flashBadOp h1
  · exact .flashBadOp h1
theorem Kept.flashExecWrite {v who} (h : Kept d0 d) : Kept d0 (d.flashExecWrite v who) := by
  unfold Dev.flashExecWrite
  extract_lets +onlyGivenNames d1
  have h1 : Kept d0 d1 := .regWrite h
  exact .ite (.flashExecStart (.ite (.execEnd h1) h1)) (.ite (.execEnd h1) h1)
/-- The device that an action answers, where it answers one, comes from `d0` as `Kept` says. -/
def KeptIf (d0 : Dev) (o : Option Dev) : Prop := ∀ e, o = some e → Kept d0 e
theorem KeptIf.some (h : Kept d0 d) : KeptIf d0 (some d) := fun _ he => Option.some.inj he ▸ h
theorem KeptIf.none : KeptIf d0 none := fun _ he => nomatch he
theorem KeptIf.ite {c : Prop} [Decidable c] {a b : Option Dev} (ha : KeptIf d0 a) (hb : KeptIf d0 b) : KeptIf d0 (if c then a else b) := by
  split
  · exact ha
  · exact hb
theorem KeptIf.special {b o v who} (h : Kept d0 d) : KeptIf d0 (d.special b o v who) := by
  refine .ite (.some (.ite (.commitBlock (.regWrite h)) (.regWrite h))) ?_
  cases b with
  | fab => exact .ite (.some (.ite (.requestRoll (.regWrite h)) (.regWrite h))) (.ite (.some (.ite (.commitDomain (.regWrite h)) (.regWrite h))) .none)
  | wrp => exact .ite (.some (.wrecWrite h)) .none
  | srv => exact .ite (.some (.coefWrite h)) (.ite (.some (.rest (.regWrite h))) .none)
  | spn => exact .ite (.some (.demandWrite h)) (.ite (.some (.modSpn (.regWrite h))) .none)
  | buf =>
    exact .ite (.some (.vclrWrite h)) (.ite (.some (.tbufWrite h)) (.ite (.some (.ite (.regWrite h) (.tbufWrite h)))
      (.ite (.some (.tbclrWrite h)) (.ite (.some (.ite (.regWrite h) (.tbclrWrite h))) .none))))
  | mdc => exact .ite (.some (.mopCtrlWrite h)) .none
  | dma => exact .ite (.some (.dmaCtrlWrite h)) .none
  | rng => exact .ite (.some (.whistleWrite h)) .none
  | seq => exact .ite (.some (.mutexWrite h)) (.ite (.some (.flagSet h)) (.ite (.some (.flagClear h)) .none))
  | flc =>
    refine .ite (.some (.flashExecWrite h)) ?_
    split
    · exact .some (.flashGo h)
    · exact .none
  | pwr => exact .ite (.some (.headreqWrite h)) (.ite (.some (.padrelWrite h)) .none)
  | knl | ch | dec | act | scb | hst | zne | ece | log | sec => exact .none
theorem Kept.controlWrite {a v who} (h : Kept d0 d) : Kept d0 (d.controlWrite a v who).1 := by
  unfold Dev.controlWrite
  refine .iteF h ?_
  split
  · exact h
  · refine .iteF h ?_
    split
    · next he => exact KeptIf.special h _ he
    · exact .regWrite h

/-! ### The operations of Machine/Dma.lean -/

theorem Kept.stageRead {sram} (h : Kept d0 d) : Kept d0 (d.stageRead sram).1 := .iteF (.sram (.setFlag h)) (.sram h)

/-! ### The operations of Machine/Firmware.lean -/

theorem Kept.programPiece {k ofs slot b} (h : Kept d0 d) : Kept d0 (d.programPiece k ofs slot b).1 := .foldlF (fun _ _ h1 => .iteF h1 (.programWord h1)) h
theorem Kept.fwCommit {t fs activate} (h : Kept d0 d) : Kept d0 (d.fwCommit t fs activate) := by
  unfold Dev.fwCommit
  split
  · exact .finish h
  · split
    · exact .finish h
    · exact .ite (.finish h) (.ite (.finish h) (.finish (.programWord h)))

/-! ### The operations of Machine/Host.lean -/

theorem Kept.badDoorbell {c info} (h : Kept d0 d) : Kept d0 (d.badDoorbell c info) := .raiseAen h
theorem Kept.miAnswer {msg} (h : Kept d0 d) : Kept d0 (d.miAnswer msg) := by
  unfold Dev.miAnswer
  refine .ite (.sendTx h) ?_
  split
  · exact .sendTx h
  · exact .sendTx (.ite h (.releaseHeld (.modHst h)))
  · exact .sendTx (.foldl (fun _ _ h1 => .setWord h1) (.rest h))
theorem Kept.miTurn (h : Kept d0 d) : Kept d0 d.miTurn := by
  unfold Dev.miTurn
  split
  · exact h
  · exact .miAnswer (.modHst h)
theorem Kept.hostReadFails {r status why inj} (h : Kept d0 d) : Kept d0 (d.hostReadFails r status why inj) := by
  unfold Dev.hostReadFails
  extract_lets +onlyGivenNames d1
  have h1 : Kept d0 d1 := .sendTx (.event h)
  split
  · exact .stageData h1
  · exact .setDch h1

/-! ### The operations of Machine/ResetOps.lean -/

theorem Kept.wipe {keep staged} (h : Kept d0 d) : Kept d0 (d.wipe keep staged) := ⟨h.v, h.tbase, fun h0 => Tab.wf_filter (h.regsOk h0) _⟩
theorem Kept.afterReset {nssr} (h : Kept d0 d) : Kept d0 (d.afterReset nssr) := .rest (.setPool (.setFlag (.setFlag (.setFld (.setFld (.wipe h))))))
theorem Kept.afterRestart (h : Kept d0 d) : Kept d0 d.afterRestart := by
  unfold Dev.afterRestart
  extract_lets +onlyGivenNames d1
  have h1 : Kept d0 d1 := .wipe h
  split
  · exact h1
  · exact .rest (.foldl (fun _ _ h2 => .setWord h2) h1)

/-! ### The operations of Machine/Image.lean -/

theorem Kept.fillWords {a b} (h : Kept d0 d) : Kept d0 (d.fillWords a b) := .foldl (fun _ _ h1 => .setWord h1) h
theorem Kept.skipTable {b a t} (h : Kept d0 d) : Kept d0 (d.skipTable b a t) := .ite h (.resWrite h)
theorem Kept.writePairs {l} (h : Kept d0 d) : Kept d0 (d.writePairs l).1 := by
  induction l generalizing d with
  | nil => exact h
  | cons p r ih =>
    unfold Dev.writePairs
    split
    next he =>
    have h1 := Kept.ofF he h.controlWrite
    exact .iteF h1 (ih h1)
theorem Kept.commitGroup {g} (h : Kept d0 d) : Kept d0 (d.commitGroup g).1 := by
  unfold Dev.commitGroup
  refine .iteF ?_ (.iteF (.commitDomain h) h)
  split
  · exact .iteF h (.commitBlock h)
  · exact h
theorem Kept.runGroups {l} (h : Kept d0 d) : Kept d0 (d.runGroups l).1 := by
  induction l generalizing d with
  | nil => exact h
  | cons g r ih =>
    unfold Dev.runGroups
    split
    next he =>
    have h1 := Kept.ofF he h.writePairs
    refine .iteF h1 ?_
    split
    next he =>
    have h2 := Kept.ofF he h1.commitGroup
    exact .iteF h2 (ih h2)
theorem Kept.handTables {ss} (h : Kept d0 d) : Kept d0 (d.handTables ss) := .rest (.ite (.event (.drawNat (.drawNat h))) h)
theorem Kept.loadTables {ss} (h : Kept d0 d) : Kept d0 (d.loadTables ss).1 := by
  unfold Dev.loadTables
  extract_lets seeds wrec d1 d2 ofs power d3 l d4
  have h2 : Kept d0 d2 := .foldl (fun _ _ h => .ite (.skipTable h) (.fillWords h)) (.foldl (fun _ _ h => .ite (.skipTable h) (.fillWords (.fillWords h))) h)
  have h3 : Kept d0 d3 := by
    unfold d3
    split
    · exact .commitBlock (.foldl (fun _ _ h => .regWrite h) h2)
    · exact h2
  show Kept d0 d4
  unfold d4
  split
  · exact .rest h3
  · exact h3
theorem Kept.loadXo {ss} (h : Kept d0 d) : Kept d0 (d.loadXo ss) := by
  unfold Dev.loadXo
  extract_lets +onlyGivenNames d1
  have h1 : Kept d0 d1 := by
    unfold d1
    split
    · exact .foldl (fun _ _ h2 => .setFld (.setFld (.setFld h2))) h
    · exact h
  exact .setFld h1
theorem Kept.loadPatch {s} (h : Kept d0 d) : Kept d0 (d.loadPatch s) :=
  .event (.setFld (.setFld (.setFld (.foldl (fun _ _ h2 => .setFld (.setFld (.setFld h2))) (.foldl (fun _ _ h1 => .modSeq h1) h)))))
theorem Kept.startSeqs {ss} (h : Kept d0 d) : Kept d0 (d.startSeqs ss) := .foldl (fun _ _ h2 => .setFld h2) (.setFld (.setFld h))
theorem Kept.applyImage {ss} (h : Kept d0 d) : Kept d0 (d.applyImage ss).1 :=
  .iteF (.runGroups (.handTables h)) (.iteF (.loadTables (.runGroups (.handTables h))) (.startSeqs (.foldl (fun _ _ h1 => .loadPatch h1) (.loadXo (.loadTables
    (.runGroups (.handTables h)))))))
theorem Kept.proofReason {x1} (h : Kept d0 d) : Kept d0 (d.proofReason x1).1 := by
  unfold Dev.proofReason
  split
  · exact h
  · exact h
  · exact h
  · exact .event h
  · exact .event h
theorem Kept.rejectCopy {p} (h : Kept d0 d) : Kept d0 (d.rejectCopy p) := by
  unfold Dev.rejectCopy
  exact .event (.drawNat (.drawNat (.drawNat h)))
theorem Kept.tryCopy {k} (h : Kept d0 d) : Kept d0 (d.tryCopy k).1 := by
  unfold Dev.tryCopy
  split
  · exact h
  · extract_lets p
    split
    next d1 why he =>
    have h1 : Kept d0 d1 := .ofF he (.proofReason h)
    clear_value p
    split
    · split
      next e bad he =>
      have h2 : Kept d0 e := .ofF he (.applyImage h1)
      split
      · exact .rest (.setFld (.setFld h2))
      · dsimp only
        exact .rejectCopy (.wipe h2)
    · exact .rejectCopy h1
theorem Kept.tryCopies {l} (h : Kept d0 d) : Kept d0 (d.tryCopies l).1 := by
  induction l generalizing d with
  | nil => exact h
  | cons k r ih =>
    unfold Dev.tryCopies
    split
    next he =>
    have h1 := Kept.ofF he h.tryCopy
    exact .iteF h1 (ih h1)
theorem Kept.minimalStart (h : Kept d0 d) : Kept d0 d.minimalStart := .rest (.startSeqs (.event (.setFld (.drawNat (.drawNat (.drawNat h))))))
theorem Kept.loadRingKey (h : Kept d0 d) : Kept d0 d.loadRingKey := .setFlag (.rest h)
theorem Kept.loadKeys (h : Kept d0 d) : Kept d0 d.loadKeys := .foldl (fun _ _ h1 => .ite (.rest h1) (.event (.rest h1))) h
theorem Kept.relayWhistle {woken} (h : Kept d0 d) : Kept d0 (d.relayWhistle woken) := .ite h (.ite (.ite (.sendWhistle h) h) (.ite (.ite (.sendWhistle h) h) h))

/-! ### The operations of Machine/LogOps.lean -/

theorem Kept.setBucket {b x} (h : Kept d0 d) : Kept d0 (d.setBucket b x) := h.rest
theorem Kept.requestFlush {cause} (h : Kept d0 d) : Kept d0 (d.requestFlush cause) := by
  unfold Dev.requestFlush
  split
  · exact .rest h
  · exact .rest h
theorem Kept.storeRecord {e} (h : Kept d0 d) : Kept d0 (d.storeRecord e) := h.rest
theorem Kept.flushOn {code} (h : Kept d0 d) : Kept d0 (d.flushOn code) := .ite (.requestFlush h) (.ite (.requestFlush h) h)
theorem Kept.aenOn {code} (h : Kept d0 d) : Kept d0 (d.aenOn code) := .ite (.raiseAenAll h) h
theorem Kept.setFlushWp {slot w} (h : Kept d0 d) : Kept d0 (d.setFlushWp slot w) := .ite (.rest h) (.rest h)
theorem Kept.flushWords {slot x2} (h : Kept d0 d) : Kept d0 (d.flushWords slot x2).1 := by
  induction x2 generalizing d slot with
  | nil => exact h
  | cons x r ih =>
    unfold Dev.flushWords
    exact .iteF (ih (.setFlushWp (.programWord h))) (.setFlushWp (.programWord h))
theorem Kept.keepEpoch {slot x} (h : Kept d0 d) : Kept d0 (d.keepEpoch slot x).1 := by
  unfold Dev.keepEpoch
  dsimp only
  split
  · exact .iteF (.flushWords h) h
  · exact h
theorem Kept.keepAhead {slot} (h : Kept d0 d) : Kept d0 (d.keepAhead slot) :=
  .foldl (fun _ _ h1 => .ite (.ite (.bump (.eraseSector (.keepEpoch h1))) (.keepEpoch h1)) h1) h
theorem Kept.batchOver {slot st} (h : Kept d0 d) : Kept d0 (d.batchOver slot st) := .ite (.event (.setFld (.setFld (.setFld (.rest h))))) (.setFld (.setFld (.rest h)))
theorem Kept.closeBatch (h : Kept d0 d) : Kept d0 d.closeBatch := by
  unfold Dev.closeBatch
  split
  · exact h
  · extract_lets +onlyGivenNames _
    split
    rename_i d1 st he
    have h1 : Kept d0 d1 := .ofF he (.iteF h (.flushWords h))
    extract_lets +onlyGivenNames d2 d3
    have h2 : Kept d0 d2 := .batchOver h1
    have h3 : Kept d0 d3 := .ite h2 (.keepAhead (.keepAhead h2))
    exact .ite h3 (.ite (.bump (.bump (.rest h3))) (.ite (.event (.bump (.bump (.bump (.bump (.rest h3)))))) (.bump (.bump (.bump (.bump (.rest h3)))))))
theorem Kept.appendBatch {rs} (h : Kept d0 d) : Kept d0 (d.appendBatch rs) := by
  unfold Dev.appendBatch
  split
  · exact h
  · exact .ite (.batchOver (.flushWords h)) (.ite (.closeBatch (.rest (.flushWords h))) (.rest (.flushWords h)))
theorem Kept.openBatch {cause} (h : Kept d0 d) : Kept d0 (d.openBatch cause) := by
  unfold Dev.openBatch
  extract_lets pf slot hi old lo torn d1 x l d2 d3
  have h1 : Kept d0 d1 := .ite (.setFlag h) h
  have h3 : Kept d0 d3 := .setFlag (.setFld (.rest h1))
  split
  next d4 st he =>
  have h4 : Kept d0 d4 := .ofF he (.flushWords h3)
  exact .ite (.batchOver h4) (.appendBatch h4)
theorem Kept.flushBatch {cause} (h : Kept d0 d) : Kept d0 (d.flushBatch cause) := .ite (.openBatch h) (.closeBatch (.openBatch h))
theorem Kept.strikeRecord {slot} (h : Kept d0 d) : Kept d0 (d.strikeRecord slot) := .ite (.sram (.setFlag h)) h
theorem Kept.writeRecord {e r} (h : Kept d0 d) : Kept d0 (d.writeRecord e r) := by
  unfold Dev.writeRecord
  extract_lets +onlyGivenNames _ d1
  have h1 : Kept d0 d1 := by
    unfold d1
    split
    · exact .sram h
    · exact .sram (.strikeRecord (.appendBatch (.bump (.storeRecord h))))
  exact .aenOn (.flushOn h1)
theorem Kept.takeToken {b} (h : Kept d0 d) : Kept d0 (d.takeToken b) := .setFld (.ite (.setBucket h) h)
theorem Kept.suppress {b e} (h : Kept d0 d) : Kept d0 (d.suppress b e) := .bump (.setBucket (.incSat h))
theorem Kept.poolEvent {e r} (h : Kept d0 d) : Kept d0 (d.poolEvent e r) :=
  .ite (.writeRecord (.ite (.bump h) h)) (.ite (.writeRecord (.takeToken (.ite (.bump h) h))) (.suppress (.ite (.bump h) h)))

/-! ### The operations of Machine/Namespace.lean -/

theorem Kept.nsAttach {t nsid ids on} (h : Kept d0 d) : Kept d0 (d.nsAttach t nsid ids on) := by
  unfold Dev.nsAttach
  split
  · exact .finish h
  · exact .finish h
  · exact .ite (.finish h) (.ite (.finish h) (.ite (.finish h) (.finish (.foldl (fun _ _ h2 => .nsChanged h2) (.setNs h)))))

/-! ### The operations of Machine/PowerMove.lean -/

theorem Kept.countMs (h : Kept d0 d) : Kept d0 d.countMs := .ite h (.modPwr (.bump h))
theorem Kept.domainOff {k retain} (h : Kept d0 d) : Kept d0 (d.domainOff k retain) := by
  unfold Dev.domainOff
  split
  · exact .rest h
  · exact .ite h (.rest (.setFld (.setFld (.setFld (.dropCache (.setFld (.setFld (.setFld h))))))))
  · exact .setFld (.setFld h)
  · exact .ite h (.dropLink h)
  · exact .ite h (.dropLink h)
  · exact h
theorem Kept.switchTo {on retain} (h : Kept d0 d) : Kept d0 (d.switchTo on retain) := .foldl (fun _ _ h1 => .domainOff h1) (.setDomains h)
theorem Kept.demandOf {s} (h : Kept d0 d) : Kept d0 (d.demandOf s) := .ite (.demandWrite h) h
theorem Kept.endAsking (h : Kept d0 d) : Kept d0 d.endAsking := .foldl (fun _ _ h1 => .finish h1) (.modPwr h)
theorem Kept.arrive {n} (h : Kept d0 d) : Kept d0 (d.arrive n) :=
  .ite (.govern (.switchTo (.modPwr h))) (.govern (.driveVid (.ite (.switchTo (.demandOf (.event (.bump (.setFld (.modPwr (.countMs (.modPwr h)))))))) (.demandOf
    (.switchTo (.demandOf (.event (.bump (.setFld (.modPwr (.countMs (.modPwr h))))))))))))
theorem Kept.heldCheck {m} (h : Kept d0 d) : Kept d0 (d.heldCheck m).1 :=
  .iteF h (.iteF (.event h) (.showVotes (.foldl (fun _ _ h1 => .finish (.event (.modPwr (.modCtrl h1)))) h)))
theorem Kept.saveRet (h : Kept d0 d) : Kept d0 d.saveRet := by
  unfold Dev.saveRet
  exact .modPwr h
theorem Kept.beginDown {m} (h : Kept d0 d) : Kept d0 (d.beginDown m).1 := by
  unfold Dev.beginDown
  extract_lets m1
  split
  · exact .govern (.modPwr h)
  · exact .releaseHeld h
  · exact .foldl (fun _ _ h1 => .unloadVcm h1) h
  · exact .demandOf h
  · exact .setDomains (.modPwr (.foldl (fun _ _ h1 => .closeFill h1) h))
  · exact .saveRet (.jclean h)
  · dsimp only
    exact .modPwr (.switchTo h)
  · dsimp only
    exact .modPwr h
theorem Kept.beginUp {m} (h : Kept d0 d) : Kept d0 (d.beginUp m).1 := by
  unfold Dev.beginUp
  extract_lets +onlyGivenNames _
  split
  · exact .foldl (fun _ _ h2 => .ite (.loadVcm (.setFld h2)) h2) (.setDomains h)
  · exact .demandOf h
  · exact .rest (.setFld (.setDomains (.modPwr h)))
  · exact h
theorem Kept.pmeWake (h : Kept d0 d) : Kept d0 d.pmeWake := .modPwr h
theorem Kept.wake {src inj} (h : Kept d0 d) : Kept d0 (d.wake src inj) := by
  unfold Dev.wake
  exact .modPwr (.ite (.pmeWake (.event (.bump (.setFld h)))) (.event (.bump (.setFld h))))
theorem Kept.perstHigh {p} (h : Kept d0 d) : Kept d0 (d.perstHigh p) := .ite (.modCtrl (.modPwr h)) (.modCtrl (.modPwr h))
theorem Kept.wakeSource {src inj} (h : Kept d0 d) : Kept d0 (d.wakeSource src inj) := by
  unfold Dev.wakeSource
  extract_lets +onlyGivenNames d1
  have h1 : Kept d0 d1 := .ite (.perstHigh h) h
  refine .ite h1 ?_
  refine .ite (.ite h1 (.wake h1)) ?_
  split
  · exact .ite (.modPwr h1) h1
  · exact h1
theorem Kept.handover (h : Kept d0 d) : Kept d0 d.handover := by
  unfold Dev.handover
  extract_lets +onlyGivenNames d1
  have h1 : Kept d0 d1 := .ite (.setFlag h) h
  split
  · exact .wake h1
  · exact h1
theorem Kept.endMove (h : Kept d0 d) : Kept d0 d.endMove := .ite (.endAsking (.setFld (.modPwr h))) (.setFld (.modPwr h))
theorem Kept.afterDown {m} (h : Kept d0 d) : Kept d0 (d.afterDown m) := by
  unfold Dev.afterDown
  extract_lets was last check
  split
  next d1 m1 he =>
  have h1 : Kept d0 d1 := .ofF he (.iteF (.heldCheck h) h)
  extract_lets t m2 put
  refine .ite (.modPwr h1) ?_
  split
  · exact .ite (.modPwr h1) (.modPwr h1)
  · exact .ite (.handover (.endMove (.arrive h1))) (.ite (.endMove (.arrive h1)) (.modPwr (.arrive h1)))
theorem Kept.afterUp {m} (h : Kept d0 d) : Kept d0 (d.afterUp m) := by
  unfold Dev.afterUp
  refine .ite (.modPwr h) ?_
  dsimp only
  split
  · exact .modPwr h
  · exact .ite (.endMove (.arrive h)) (.modPwr (.arrive h))
theorem Kept.startMove (h : Kept d0 d) : Kept d0 d.startMove := .ite (.iteF (.heldCheck h) h) (.setFld (.modPwr (.iteF (.heldCheck h) h)))
theorem Kept.moveStep (h : Kept d0 d) : Kept d0 d.moveStep := by
  unfold Dev.moveStep
  split
  · exact h
  · split
    rename_i d1 m he
    have h1 : Kept d0 d1 := .ofF he (.iteF h (.iteF (.beginUp h) (.beginDown h)))
    extract_lets +onlyGivenNames d2
    have h2 : Kept d0 d2 := .modPwr h1
    exact .ite (.ite (.afterUp h2) h2) (.ite (.afterDown h2) h2)
theorem Kept.pfJournal (h : Kept d0 d) : Kept d0 (d.pfJournal).2 := .jput (.foldl (fun _ _ h2 => .jput h2) (.ite (.setFlag h) h))
theorem Kept.pfBegin {vb} (h : Kept d0 d) : Kept d0 (d.pfBegin vb) := by
  unfold Dev.pfBegin
  extract_lets +onlyGivenNames _ d1 d2
  have h1 : Kept d0 d1 := .modPwr (.setFld (.setFld h))
  have h2 : Kept d0 d2 := .flashPowerFail (.event (.bump h1))
  exact .requestFlush (.modPwr (.pfJournal (.modPwr (.switchTo (.ite (.foldl (fun _ _ h3 => .ite h3 (.setFunc (.unloadVcm h3))) h2) h2)))))
theorem Kept.pfEnd {f} (h : Kept d0 d) : Kept d0 (d.pfEnd f) := .setFld (.modPwr (.arrive (.event (.closeBatch (.ite h (.flushBatch (.grantBg h)))))))

/-! ### The operations of Machine/Power.lean -/

theorem Kept.endRestart (h : Kept d0 d) : Kept d0 d.endRestart := .arrive (.modPwr (.setFld (.showVotes (.rest (.afterRestart (.countMs h))))))
theorem Kept.setTj {tj} (h : Kept d0 d) : Kept d0 (d.setTj tj) := .setFld (.setFld h)
theorem Kept.nssrEnd (h : Kept d0 d) : Kept d0 d.nssrEnd := .afterReset (.ite h (.event h))

/-! ### The operations of Machine/Seq.lean -/

theorem Kept.fetchWord {s t f} (h : Kept d0 d) : Kept d0 (d.fetchWord s t f).2 := by
  unfold Dev.fetchWord
  extract_lets +onlyGivenNames _ _ _ _ _
  split
  · exact h
  · refine .iteS (.cstoreError h) ?_
    refine .iteS (.cstoreError (.ite (.setFlag h) h)) ?_
    extract_lets +onlyGivenNames d1 _
    have h1 : Kept d0 d1 := .ite (.sram (.bump h)) h
    refine .iteS (.cstoreError h1) ?_
    refine .iteS (.cstoreError h1) ?_
    extract_lets +onlyGivenNames d2
    have h2 : Kept d0 d2 := .sram h1
    split
    · exact .regFileError h2
    · exact h2
theorem Kept.aluStep {s t u ctx} (h : Kept d0 d) : Kept d0 (d.aluStep s t u ctx).2 := by
  unfold Dev.aluStep
  extract_lets +onlyGivenNames _ _ _
  refine .iteS h ?_
  refine .iteS ?_ (.iteS (.iteS h (.setThread h)) (.setThread h))
  refine .iteS (.setThread (.drawNat h)) ?_
  extract_lets +onlyGivenNames d1
  have h1 : Kept d0 d1 := .sram h
  split
  · exact .setThread (.drawNat h1)
  · exact .setThread h1
theorem Kept.leave {s k} (h : Kept d0 d) : Kept d0 (d.leave s k) := by
  unfold Dev.leave
  split
  · exact .controlWrite h
  · exact .modSeq (.sendTo h)
theorem Kept.leaveAll {s x2} (h : Kept d0 d) : Kept d0 (d.leaveAll s x2).2 := by
  induction x2 generalizing d s with
  | nil => exact h
  | cons x r ih =>
    unfold Dev.leaveAll
    exact .iteS (ih (.leave h)) h
theorem Kept.ioStep {s t u} (h : Kept d0 d) : Kept d0 (d.ioStep s t u).2 := by
  unfold Dev.ioStep
  extract_lets x add
  split
  · dsimp only
    exact .leave h
  · exact .iteS h (.setThread h)
  · split
    · exact h
    · exact .setThread h
  · exact .setThread (.access h)
  · exact .iteS h (.setThread h)
  · exact .iteS h (.askLock h)
  · exact h
theorem Kept.dispatch {s entry c} (h : Kept d0 d) : Kept d0 (d.dispatch s entry c) := by
  unfold Dev.dispatch
  refine .ite h ?_
  split
  · exact h
  · exact .bump (.setThread h)
theorem Kept.ctxInterrupt {i} (h : Kept d0 d) : Kept d0 (d.ctxInterrupt i) := by
  unfold Dev.ctxInterrupt
  extract_lets +onlyGivenNames d1 d2
  have h1 : Kept d0 d1 := .modSeq h
  have h2 : Kept d0 d2 := by
    unfold d2
    split
    · exact .restart h1
    · exact .dispatch h1
  split
  · exact .ite h2 (.quit (fun _ h3 => .dropWork (.abandon h3)) h2)
  · exact h2
theorem Kept.drainThread {s t} (h : Kept d0 d) : Kept d0 (d.drainThread s t) := by
  unfold Dev.drainThread
  split
  next left d1 he =>
  have h1 : Kept d0 d1 := .ofS he (.leaveAll h)
  exact .ite (.setThread h1) (.foldl (fun _ _ h => .ctxInterrupt h) (.modSeq (.endThread h1)))
theorem Kept.drainAll (h : Kept d0 d) : Kept d0 d.drainAll := .foldl (fun _ _ h1 => .ite (.drainThread h1) h1) h
theorem Kept.commitRoutine {s t ctx} (h : Kept d0 d) : Kept d0 (d.commitRoutine s t ctx) := by
  refine .drainThread (.setThread (.bump (.releaseLock ?_)))
  split
  · exact h
  · exact .foldl (fun _ _ h2 => .setCtxWord h2) (.sram h)
theorem Kept.dropRoutine {s t} (h : Kept d0 d) : Kept d0 (d.dropRoutine s t) := .bump (.endThread h)
theorem Kept.markStep {s t u taken ctx} (h : Kept d0 d) : Kept d0 (d.markStep s t u taken ctx) := by
  unfold Dev.markStep
  extract_lets +onlyGivenNames _ _
  refine .ite (.commitRoutine h) ?_
  refine .ite (.dropRoutine h) ?_
  refine .ite (.setThread h) ?_
  refine .ite (.setThread h) ?_
  refine .ite (.ite (.microFault h) (.setThread h)) ?_
  split
  · exact .microFault h
  · exact .setThread h
theorem Kept.runWord {s t w ctx} (h : Kept d0 d) : Kept d0 (d.runWord s t w ctx) := by
  unfold Dev.runWord
  extract_lets u x d1
  have h1 : Kept d0 d1 := .setThread h
  refine .ite (.setThread h) ?_
  split
  next ok e he =>
  have h2 : Kept d0 e := .ofS he (.aluStep h1)
  refine .ite (.microFault h1) ?_
  split
  · exact .microFault h1
  · next he => exact .markStep (.ofS he (.ioStep h2))
theorem Kept.issued {s t} (h : Kept d0 d) : Kept d0 (d.issued s t) := .modSeq h

/-! ### The operations of Machine/Operands.lean -/

theorem Kept.uword {s t f kind} (h : Kept d0 d) : Kept d0 (d.uword s t f kind) := by
  unfold Dev.uword
  refine .ite h ?_
  split
  · next he => exact .issued (.ofS he (.fetchWord h))
  · next he => exact .ite (.issued (.runWord (.ofS he (.fetchWord h)))) h

/-! ### The operations of Machine/ZoneRec.lean -/

theorem Kept.recoverAt {n z gen wp} (h : Kept d0 d) : Kept d0 (d.recoverAt n z gen wp) := .setZctx h
theorem Kept.movedBack {n z wp prev reason stamp} (h : Kept d0 d) : Kept d0 (d.movedBack n z wp prev reason stamp) := .event (.bump (.modZne h))
theorem Kept.recoverZone {n z j clean pfEnd ends} (h : Kept d0 d) : Kept d0 (d.recoverZone n z j clean pfEnd ends) := by
  unfold Dev.recoverZone
  extract_lets +onlyGivenNames _ _ _ _ _ d1
  have h1 : Kept d0 d1 := .ite (.movedBack (.recoverAt (.bump h))) (.recoverAt (.bump h))
  split
  · exact .recoverAt h
  · exact .recoverAt h
  · split
    · exact .ite (.recoverAt h) (.movedBack (.recoverAt h))
    · exact h1
end

end Sys2Proof.Machine
end

section
/-! SUPPORT. What every command keeps: each is an effect on the device that keeps the variant, TBASE and the canonical form, but for the two that switch the kennel's power. -/
namespace Sys2Proof.Machine

/-- The meaning of a command is an effect on the device, while one power domain acts, that keeps what `Kept` names. -/
def Acts (m : State → Out) : Prop := ∃ k f, (∀ s, m s = s.doesIn k f) ∧ ∀ d0 d, Kept d0 d → Kept d0 (f d)

theorem Acts.doesIn {k : Nat} {f : Dev → Dev} (hf : ∀ d0 d, Kept d0 d → Kept d0 (f d)) : Acts fun s => s.doesIn k f :=
  ⟨k, f, fun _ => rfl, hf⟩
theorem Acts.does {f : Dev → Dev} (hf : ∀ d0 d, Kept d0 d → Kept d0 (f d)) : Acts fun s => s.does f :=
  .doesIn hf
theorem Acts.doesPort {p : Fin 2} {f : Dev → Dev} (hf : ∀ d0 d, Kept d0 d → Kept d0 (f d)) : Acts fun s => s.doesPort p f :=
  .doesIn fun _ _ h => .ite (.ringDo (fun _ h => hf _ _ h) h) h


/-! ### The commands of Machine/Actuator.lean -/

theorem execActSetFrame_acts {a ch} : Acts (execActSetFrame a ch) := by
  refine .doesIn fun d0 _ h => ?_
  extract_lets +onlyGivenNames _
  split
  · exact h
  · exact .ite h (.sendSet (.setLane h))
theorem execActReplyReceive_acts {a chars} : Acts (execActReplyReceive a chars) := by
  refine .doesIn fun d0 _ h => ?_
  split
  · exact h
  · exact .ite (.frameMiss h) (.ite (.frameMiss h) (.ite (.frameMiss h) (.ite (.frameMiss h) (.ite (.takeReply h) h))))
theorem execActReplyTimeout_acts {a} : Acts (execActReplyTimeout a) := by
  refine .doesIn fun d0 _ h => ?_
  split
  · exact h
  · exact .ite (.frameMiss h) h
theorem execActFaultInput_acts {low} : Acts (execActFaultInput low) := .doesIn fun _ _ h => .ite (.laneFail (.laneFail (.setFlag h))) (.setFlag h)
theorem execPowerStageDiscovery_acts {a} : Acts (execPowerStageDiscovery a) := by
  refine .doesIn fun d0 _ h => ?_
  split
  · exact .ite (.discFail h) (.ite (.discFail h) h)
  · exact .ite h (.sendFrame (.setLane h))
theorem execFunctionChannelRefresh_acts {c} : Acts (execFunctionChannelRefresh c) := .doesIn fun _ _ h => .ite h (.ite h (.sendSet (.setLane h)))
theorem execActInjectArm_acts {v who} : Acts (execActInjectArm v who) := .doesIn fun _ _ h => .regWrite h

/-! ### The commands of Machine/Admin.lean -/

theorem execCreateIoSq_acts {t qid size cqid base pc} : Acts (execCreateIoSq t qid size cqid base pc) :=
  .doesIn fun _ _ h => .host (fun _ h1 => .ite (.finish h1) (.ite (.finish h1) (.ite (.finish h1) (.ite (.finish h1) (.finish (.setSq h1)))))) h
theorem execCreateIoCq_acts {t qid size iv base ien pc} : Acts (execCreateIoCq t qid size iv base ien pc) :=
  .doesIn fun _ _ h => .host (fun _ h1 => .ite (.finish h1) (.ite (.finish h1) (.ite (.finish h1) (.ite (.finish h1) (.finish (.setCq h1)))))) h
theorem execDeleteIoSq_acts {t qid} : Acts (execDeleteIoSq t qid) :=
  .doesIn fun _ _ h => .host (fun _ h1 => .ite (.finish h1) (.finish (.setSq (.modHst (.rest (.foldl (fun _ _ h2 => .forget (.abandon h2)) h1)))))) h
theorem execDeleteIoCq_acts {t qid} : Acts (execDeleteIoCq t qid) :=
  .doesIn fun _ _ h => .host (fun _ h1 => .ite (.finish h1) (.ite (.finish h1) (.finish (.setCq h1)))) h
theorem execInvalidOpcode_acts {t} : Acts (execInvalidOpcode t) := .doesIn fun _ _ h => .host (fun _ h1 => .finish h1) h
theorem execIdentify_acts {t cns csi nsid cntid} : Acts (execIdentify t cns csi nsid cntid) :=
  .doesIn fun _ _ h => .host (fun _ h1 => .ite (.reply (.identify h1)) (.finish (.identify h1))) h
theorem execGetLogErrorInfo_acts {t rae lpo len} : Acts (execGetLogErrorInfo t rae lpo len) := .doesIn fun _ _ h => .host (fun _ h1 => .logReply h1) h
theorem execGetLogSmartHealth_acts {t rae nsid lpo len} : Acts (execGetLogSmartHealth t rae nsid lpo len) :=
  .doesIn fun _ _ h => .host (fun _ h1 => .ite (.finish h1) (.logReply (.drawBytes (n := 512) h1))) h
theorem execGetLogFirmwareSlot_acts {t rae lpo len} : Acts (execGetLogFirmwareSlot t rae lpo len) := .doesIn fun _ _ h => .host (fun _ h1 => .logReply h1) h
theorem execGetLogChangedNs_acts {t rae lpo len} : Acts (execGetLogChangedNs t rae lpo len) :=
  .doesIn fun _ _ h => .host (fun _ h1 => .ite (.logReply h1) (.modCtrl (.logReply h1))) h
theorem execGetLogCmdEffects_acts {t rae lpo len} : Acts (execGetLogCmdEffects t rae lpo len) := .doesIn fun _ _ h => .host (fun _ h1 => .logReply h1) h
theorem execGetLogWpRecovery_acts {t rae lpo len} : Acts (execGetLogWpRecovery t rae lpo len) :=
  .doesIn fun _ _ h => .host (fun _ h1 => .ite (.logReply h1) (.modZne (.logReply h1))) h
theorem execGetLogFormatTables_acts {t rae lsp lpo len} : Acts (execGetLogFormatTables t rae lsp lpo len) :=
  .doesIn fun _ _ h => .host (fun _ h1 => .ite (.finish h1) (.logReply h1)) h
theorem execGetLogBufferHealth_acts {t rae lpo len} : Acts (execGetLogBufferHealth t rae lpo len) := .doesIn fun _ _ h => .host (fun _ h1 => .logReply h1) h
theorem execGetLogHeldRuns_acts {t rae lpo len} : Acts (execGetLogHeldRuns t rae lpo len) := .doesIn fun _ _ h => .host (fun _ h1 => .logReply h1) h
theorem execGetLogInvalid_acts {t} : Acts (execGetLogInvalid t) := .doesIn fun _ _ h => .host (fun _ h1 => .finish h1) h
theorem execGetFeatures_acts {t fid sel arg} : Acts (execGetFeatures t fid sel arg) := by
  refine .doesIn fun d0 _ h => ?_
  refine .host (fun _ h1 => ?_) h
  refine .ite (.finish h1) ?_
  split
  · exact .finish h1
  · exact .finish h1
theorem execSetFeatureArbitration_acts {t save w} : Acts (execSetFeatureArbitration t save w) := .doesIn fun _ _ h => .setFeature (fun _ h1 => .finish (.modCtrl h1)) h
theorem execSetFeaturePowerMgmt_acts {t save w} : Acts (execSetFeaturePowerMgmt t save w) :=
  .doesIn fun _ _ h => .setFeature (fun _ h1 => .ite (.finish h1) (.ite (.finish (.voted (.modCtrl h1))) (.modPwr (.putCmd (.voted (.modCtrl h1)))))) h
theorem execSetFeatureTempThreshold_acts {t save w} : Acts (execSetFeatureTempThreshold t save w) :=
  .doesIn fun _ _ h => .setFeature (fun _ h1 => .ite (.finish h1) (.finish (.modCtrl h1))) h
theorem execSetFeatureWriteCache_acts {t save w} : Acts (execSetFeatureWriteCache t save w) := .doesIn fun _ _ h => .setFeature (fun _ h1 => .finish (.modCtrl h1)) h
theorem execSetFeatureNumQueues_acts {t save w} : Acts (execSetFeatureNumQueues t save w) :=
  .doesIn fun _ _ h => .setFeature (fun _ h1 => .ite (.finish h1) (.ite (.finish h1) (.finish h1))) h
theorem execSetFeatureIntCoalescing_acts {t save w} : Acts (execSetFeatureIntCoalescing t save w) :=
  .doesIn fun _ _ h => .setFeature (fun _ h1 => .finish (.modCtrl h1)) h
theorem execSetFeatureIntVectorCfg_acts {t save w} : Acts (execSetFeatureIntVectorCfg t save w) :=
  .doesIn fun _ _ h => .setFeature (fun _ h1 => .ite (.finish h1) (.finish (.modCtrl h1))) h
theorem execSetFeatureAsyncEventCfg_acts {t save w} : Acts (execSetFeatureAsyncEventCfg t save w) :=
  .doesIn fun _ _ h => .setFeature (fun _ h1 => .finish (.modCtrl h1)) h
theorem execSetFeatureHostBehavior_acts {t save w} : Acts (execSetFeatureHostBehavior t save w) :=
  .doesIn fun _ _ h => .setFeature (fun _ h1 => .ite (.finish h1) (.finish h1)) h
theorem execSetFeatureOrderedQueue_acts {t save w} : Acts (execSetFeatureOrderedQueue t save w) := by
  refine .doesIn fun d0 _ h => ?_
  refine .setFeature (fun _ h1 => ?_) h
  extract_lets +onlyGivenNames _
  split
  · exact .ite (.finish h1) (.finish (.setSq h1))
  · exact .finish h1
theorem execAsyncEventRequest_acts {t} : Acts (execAsyncEventRequest t) := by
  refine .doesIn fun d0 _ h => ?_
  refine .host (fun _ h1 => ?_) h
  extract_lets +onlyGivenNames _
  refine .ite (.finish h1) ?_
  extract_lets +onlyGivenNames d2
  have h2 : Kept d0 d2 := .rest h1
  split
  · exact .handOver (.setCtrl h2)
  · exact .setCtrl h2
theorem execAbort_acts {t sqid cid} : Acts (execAbort t sqid cid) := by
  refine .doesIn fun d0 _ h => ?_
  refine .host (fun _ h1 => ?_) h
  extract_lets +onlyGivenNames _ _
  refine .ite (.finish h1) ?_
  split
  · exact .ite (.finish h1) (.ite (.endAbort h1) (.endAbort (.quit (fun _ h2 => .dropWork (.abandon h2)) h1)))
  · exact .ite (.endAbort h1) (.finish h1)

/-! ### The commands of Machine/Buffer.lean -/

theorem execBufferBringup_acts {selfRefresh} : Acts (execBufferBringup selfRefresh) := .doesIn fun _ _ h => .ite h (.rest (.setFld (.ite h (.setFld h))))
theorem execTrainingDone_acts {fails} : Acts (execTrainingDone fails) := by
  refine .doesIn fun d0 _ h => ?_
  split
  · exact h
  · extract_lets +onlyGivenNames _ d1 d2
    have h1 : Kept d0 d1 := .rest h
    have h2 : Kept d0 d2 := .foldl (fun _ _ h2 => .trainOne h2) h1
    exact .ite (.setFld (.ite (.clearStores h2) h2)) (.ite (.clearStores h2) h2)
theorem execBufRequestGrant_acts {edc upsets bad} : Acts (execBufRequestGrant edc upsets bad) := by
  refine .doesIn fun d0 _ h => ?_
  extract_lets +onlyGivenNames d1
  have h1 : Kept d0 d1 := .bufIdle (.upset h)
  split
  · exact h1
  · exact .ite (.rest (.ite (.fault h1) h1)) (.ite (.ite (.fault h1) h1) (.bufCharge (.bufGrant (.ite (.fault h1) h1))))
theorem execFillTrackerTimeout_acts : Acts execFillTrackerTimeout := by
  refine .doesIn fun d0 _ h => ?_
  split
  · exact .ite (.closeFill h) h
  · exact h
theorem execBufPeriodicRetrain_acts : Acts execBufPeriodicRetrain := by
  refine .doesIn fun d0 _ h => ?_
  refine .ite h ?_
  split
  · exact .rest h
  · exact .rest h
theorem execVclrCntWrite_acts {v who} : Acts (execVclrCntWrite v who) := .doesIn fun _ _ h => .vclrWrite h
theorem execVclrDone_acts : Acts execVclrDone := .doesIn fun _ _ h => .setFld h
theorem execTbufConfigWrite_acts {a v who} : Acts (execTbufConfigWrite a v who) := .doesIn fun _ _ h => .tbufWrite h
theorem execTbclrWrite_acts {a v who} : Acts (execTbclrWrite a v who) := .doesIn fun _ _ h => .tbclrWrite h
theorem execMarkDeviceDead_acts {t x} : Acts (execMarkDeviceDead t x) :=
  .doesIn fun _ _ h => .host (fun _ h1 => .ite (.finish h1) (.ite (.endDevState h1) (.ite (.finish h1) (.endDevState (.event (.setDevState (.ite
    (.stopResilver h1) h1))))))) h
theorem execMarkDeviceAlive_acts {t x fail} : Acts (execMarkDeviceAlive t x fail) := by
  refine .doesIn fun d0 _ h => ?_
  refine .host (fun _ h1 => ?_) h
  refine .ite (.finish h1) ?_
  refine .ite (.endDevState h1) ?_
  refine .ite (.finish h1) ?_
  split
  · exact .finish (.event h1)
  · exact .endDevState (.event (.rest (.setFld (.setFld (.setDevState h1)))))
theorem execBufferDeviceStateCmd_acts {t x alive} : Acts (execBufferDeviceStateCmd t x alive) :=
  .doesIn fun _ _ h => .host (fun _ h1 => .ite (.finish h1) (.ite (.finish h1) h1)) h
theorem execResilverGranule_acts {edc} : Acts (execResilverGranule edc) := by
  refine .doesIn fun d0 _ h => ?_
  extract_lets +onlyGivenNames d1
  have h1 : Kept d0 d1 := .bufIdle h
  split
  · exact h1
  · refine .ite h1 ?_
    split
    · exact .endResilver h1
    · extract_lets +onlyGivenNames _
      refine .ite h1 ?_
      extract_lets +onlyGivenNames d2
      have h2 : Kept d0 d2 := .foldl (fun _ _ h2 => .resilverLine h2) h1
      exact .ite (.rest (.bufCharge h2)) (.ite (.endResilver (.bump (.setFld (.rest (.bufCharge h2))))) (.bump (.setFld (.rest (.bufCharge h2)))))
    · exact h1
theorem execScrubSlot_acts {edc upsets} : Acts (execScrubSlot edc upsets) := by
  refine .doesIn fun d0 _ h => ?_
  extract_lets +onlyGivenNames d1 d2
  have h1 : Kept d0 d1 := .upset h
  have h2 : Kept d0 d2 := .ite (.passStart h1) h1
  exact .ite h2 (.ite (.passNext h2) (.ite (.ite h2 (.raiseBg h2)) (.passNext (.bufCharge (.foldl (fun _ _ h5 => .scrubLine h5) (.bump (.grantBg (.ite h2
      (.raiseBg h2)))))))))
theorem execScrubPassOverrun_acts : Acts execScrubPassOverrun := .doesIn fun _ _ h => .ite (.event (.bump (.rest h))) h
theorem execBufInjectArm_acts {v who} : Acts (execBufInjectArm v who) := .doesIn fun _ _ h => .regWrite h

/-! ### The commands of Machine/Fabric.lean -/

theorem execTokenSend_acts {b j payload data rsp back} : Acts (execTokenSend b j payload data rsp back) := by
  refine .does fun d0 _ h => ?_
  refine .ite (.ite (.setPool h) h) ?_
  refine .ite ?_ h
  extract_lets +onlyGivenNames d1 d2
  have h1 : Kept d0 d1 := .sendTo h
  have h2 : Kept d0 d2 := by
    unfold d2
    split
    · exact .sendTo h1
    · exact h1
  exact .ite (.backTake h2) h2
theorem execTokenAccept_acts {b j back flip sram} : Acts (execTokenAccept b j back flip sram) := by
  refine .does fun d0 _ h => ?_
  refine .ite ?_ ?_
  · split
    · exact h
    · exact .sram (.ite (.backDrop (.setPool h)) (.fault (.backDrop (.setPool h))))
  · split
    · exact h
    · exact .ite h (.sram (.ite (.setPool h) (.fault (.setPool h))))
theorem execCreditReturn_acts {b j} : Acts (execCreditReturn b j) := .does fun _ _ h => .freeSlot h
theorem execEventOffer_acts {b n p1 p2 p3} : Acts (execEventOffer b n p1 p2 p3) := .does fun _ _ h => .event h
theorem execEventCreditRegained_acts {b} : Acts (execEventCreditRegained b) := .does fun _ _ h => .reportLost h
theorem execStallDetected_acts {b j lane since cmds} : Acts (execStallDetected b j lane since cmds) := by
  refine .does fun d0 _ h => ?_
  split
  · exact h
  · exact .ite h (.foldl (fun _ _ h5 => .failFenced h5) (.rest (.event (.flagFault (.setFld h)))))
theorem execRegisterParitySweep_acts {b bad} : Acts (execRegisterParitySweep b bad) := by
  refine .does fun d0 _ h => ?_
  split
  · exact h
  · exact .ite (.fault (.setWord h)) h
theorem execTbaseDupMismatch_acts : Acts execTbaseDupMismatch := .does fun _ _ h => .ite h (.fault (.setFld h))
theorem execTbaseLoRead_acts : Acts execTbaseLoRead := .does fun _ _ h => .readEffect h
theorem execBackgroundPromotion_acts {k} : Acts (execBackgroundPromotion k) := .does fun _ _ h => .ite (.rollGrant (.rest h)) (.rest h)
theorem execRollCallRequest_acts : Acts execRollCallRequest := .doesIn fun _ _ h => .requestRoll h
theorem execRollTokenAtBank_acts {b} : Acts (execRollTokenAtBank b) := .doesIn fun _ _ h => .ite (.ite (.rollSlot h) (.rest (.rollSlot h))) h
theorem execRollCallComplete_acts : Acts execRollCallComplete := by
  refine .doesIn fun d0 _ h => ?_
  refine .ite ?_ h
  extract_lets +onlyGivenNames _ _ d1 d2
  have h1 : Kept d0 d1 := .setFld (.setFld (.setFld (.rollBack h)))
  have h2 : Kept d0 d2 := .foldl (fun _ _ h2 => .finish h2) h1
  exact .ite (.startRoll h2) (.rest h2)
theorem execRollPeriodDue_acts : Acts execRollPeriodDue := .doesIn fun _ _ h => .ite (.rollGrant (.raiseBg (.rest h))) h
theorem execRollCallCmd_acts {t} : Acts (execRollCallCmd t) := .doesIn fun _ _ h => .host (fun _ h1 => .requestRoll (.putCmd h1)) h

/-! ### The commands of Machine/Channel.lean -/

theorem execWedgeDemodulated_acts {n w} : Acts (execWedgeDemodulated n w) := .doesIn fun _ _ h => .ite h (.ite (.sendTo (.bump (.setChan h))) (.bump (.setChan h)))
theorem execSamWindowMiss_acts {n} : Acts (execSamWindowMiss n) := .doesIn fun _ _ h => .ite h (.ite (.sendTo (.bump (.setChan h))) (.bump (.setChan h)))
theorem execSectorRunOrder_acts {n tbuf} : Acts (execSectorRunOrder n tbuf) := by
  refine .doesIn fun d0 _ h => ?_
  split
  · exact h
  · exact .ite h (.readOrder (.rest h))
theorem execSectorStart_acts {n v} : Acts (execSectorStart n v) := by
  refine .doesIn fun d0 _ h => ?_
  split
  · exact h
  · exact .ite h (.ite (.endRun (.event (.readsLost h))) (.ite (.slip h) (.setRun (.setFld (.setSlotBusy h)))))
theorem execThermalAsperity_acts {n first len depart} : Acts (execThermalAsperity n first len depart) := by
  refine .doesIn fun d0 _ h => ?_
  split
  · exact h
  · split
    · exact h
    · exact .ite (.bump (.setRun h)) h
theorem execPllLockLost_acts {n pos phase} : Acts (execPllLockLost n pos phase) := by
  refine .doesIn fun d0 _ h => ?_
  split
  · exact h
  · split
    · exact h
    · exact .ite (.lockFalls h) h
theorem execXtalLost_acts : Acts execXtalLost := by
  refine .does fun d0 _ h => .ite h (.foldl (fun d n h1 => ?_) (.rest (.event (.setFld (.setFld h)))))
  refine .ite h1 ?_
  cases (d.chan n).run with
  | none => exact .setFld h1
  | some r => cases hc : r.cur with
    | none => simp only [hc]; exact .setFld h1
    | some c => simp only [hc]; exact .lockFalls h1
theorem execLoopUpdateBlock_acts {n a b resync} : Acts (execLoopUpdateBlock n a b resync) := by
  refine .doesIn fun d0 _ h => ?_
  split
  · exact h
  · split
    · exact h
    · refine .ite h ?_
      extract_lets +onlyGivenNames _ _ _ _
      split
      extract_lets +onlyGivenNames d1
      have h1 : Kept d0 d1 := .zeroUnused (.ite (.setFld h) h)
      exact .ite (.setRun h1) (.loopsUpdate (.setRun h1))
theorem execSoftBlockSend_acts {n} : Acts (execSoftBlockSend n) := by
  refine .doesIn fun d0 _ h => ?_
  split
  · exact h
  · split
    · exact h
    · refine .ite h ?_
      extract_lets +onlyGivenNames _ d1 _ d2 d3
      have h1 : Kept d0 d1 := .countFrame (.bump (.sendTo h))
      have h2 : Kept d0 d2 := .rest h1
      have h3 : Kept d0 d3 := .guardLoops h2
      split
      · exact .ite (.endRun h3) h3
      · exact h3
theorem execChRunEnd_acts {n} : Acts (execChRunEnd n) := by
  refine .doesIn fun d0 _ h => ?_
  split
  · exact h
  · exact .ite (.endRun h) h

/-! ### The commands of Machine/Flash.lean -/

theorem execFlashRead_acts {s flips} : Acts (execFlashRead s flips) := .doesIn fun _ _ h => .flashRead h
theorem execFlashProgram_acts {s} : Acts (execFlashProgram s) := .doesIn fun _ _ h => .flashProgram h
theorem execFlashErase_acts {s} : Acts (execFlashErase s) := .doesIn fun _ _ h => .flashErase h
theorem execFlashSuspend_acts {s} : Acts (execFlashSuspend s) := .doesIn fun _ _ h => .flashSuspend h
theorem execFlashResume_acts {s} : Acts (execFlashResume s) := .doesIn fun _ _ h => .flashResume h
theorem execFlashBadOp_acts {s op} : Acts (execFlashBadOp s op) := .doesIn fun _ _ h => .flashBadOp h
theorem execFlashProgramVerify_acts {k same} : Acts (execFlashProgramVerify k same) := by
  refine .doesIn fun d0 _ h => ?_
  split
  · exact h
  · refine .ite h ?_
    extract_lets +onlyGivenNames _ _ d1
    have h1 : Kept d0 d1 := .bump h
    exact .ite (.endOp (.setFword h1)) (.ite (.pulseLimit (.ite (.setFlag (.setFword h1)) (.setFword h1))) (.setBank (.setFword h1)))
theorem execFlashEraseVerify_acts {k blank} : Acts (execFlashEraseVerify k blank) := by
  refine .doesIn fun d0 _ h => ?_
  split
  · exact h
  · exact .ite h (.ite (.intentRollover (.endOp (.intentWrite (.eraseWords (.bump h))))) (.ite (.pulseLimit (.bump h)) (.setBank (.bump h))))
theorem execFlashAutoSuspend_acts {k} : Acts (execFlashAutoSuspend k) := by
  refine .doesIn fun d0 _ h => ?_
  extract_lets +onlyGivenNames _
  split
  · exact .ite (.bump (.serveWaiting (.setBank h))) h
  · exact h
theorem execFlashAutoResume_acts {k} : Acts (execFlashAutoResume k) := by
  refine .doesIn fun d0 _ h => ?_
  extract_lets +onlyGivenNames _
  split
  · exact .ite (.setBank h) h
  · exact h
theorem execFlashIntentScan_acts : Acts execFlashIntentScan := .doesIn fun _ _ h => .ite h (.setFld (.foldl (fun _ _ h2 => .bump (.event (.eraseSector h2))) (.rest h)))
theorem execFlashExecStart_acts {region} : Acts (execFlashExecStart region) := .doesIn fun _ _ h => .flashExecStart h
theorem execFlashExecStop_acts : Acts execFlashExecStop := .doesIn fun _ _ h => .ite (.execEnd h) h
theorem execFlashExecFetch_acts {word flips} : Acts (execFlashExecFetch word flips) := .doesIn fun _ _ h => .ite (.readFword (.bump h)) h
theorem execFlcInjectArm_acts {v who} : Acts (execFlcInjectArm v who) := .doesIn fun _ _ h => .regWrite h

/-! ### The commands of Machine/Io.lean -/

theorem execNvmRead_acts {t nsid slba nlb0 segs} : Acts (execNvmRead t nsid slba nlb0 segs) := by
  refine .doesIn fun d0 _ h => ?_
  refine .io (fun _ h1 => ?_) h
  extract_lets +onlyGivenNames _ _
  refine .ioRange (fun _ => ?_) h1
  extract_lets +onlyGivenNames _ _ _
  refine .ite (.finish h1) ?_
  refine .ite (.finish h1) ?_
  extract_lets +onlyGivenNames _ d3 d4
  have h3 : Kept d0 d3 := .putCmd h1
  have h4 : Kept d0 d4 := by
    refine .foldl (fun _ _ h5 => ?_) h3
    split
    · exact .sendData h5
    · exact .csqPost h5
    · exact h5
  exact .cmdCheck h4
theorem execNvmWrite_acts {t nsid slba nlb0 fua segs buf} : Acts (execNvmWrite t nsid slba nlb0 fua segs buf) := .doesIn fun _ _ h => .io (fun _ h1 => .zoneWrite h1) h
theorem execWriteZeroes_acts {t nsid slba nlb0 fua} : Acts (execWriteZeroes t nsid slba nlb0 fua) := .doesIn fun _ _ h => .io (fun _ h1 => .zoneWrite h1) h
theorem execZoneAppend_acts {t nsid zslba nlb0 fua segs buf} : Acts (execZoneAppend t nsid zslba nlb0 fua segs buf) :=
  .doesIn fun _ _ h => .io (fun _ h1 => .zoneWrite h1) h
theorem execNvmFlush_acts {t nsid} : Acts (execNvmFlush t nsid) := by
  refine .doesIn fun d0 _ h => .io (fun e h1 => ?_) h
  extract_lets go
  have hgo {p} : Kept d0 (go e p) := by
    have h2 {q} : Kept d0 (e.releaseHeld q) := .releaseHeld h1
    have h3 {q} {l : List Ns} : Kept d0 (l.foldl (fun (d : Dev) n => (List.range n.zones).foldl (fun (d : Dev) z =>
        if (d.zctx (n.ctx + z)).held then d.syncZone n z else d) d) (e.releaseHeld q)) :=
      .foldl (fun _ _ h => .foldl (fun _ _ h => .ite (.syncZone h) h) h) h2
    exact .ite (.finish h3) (.putCmd h3)
  exact .ite (.ite hgo (.finish h1)) (.ioNs (fun _ => hgo) h1)
theorem execDestageOrder_acts {q nsid slba n} : Acts (execDestageOrder q nsid slba n) := by
  refine .doesIn fun d0 _ h => ?_
  split
  · exact h
  · exact .ite h (.ite (.placeOrder h) (.mapCache (.placeOrder h)))
theorem execMediaOrder_acts {t _q nsid slba n} : Acts (execMediaOrder t _q nsid slba n) := by
  refine .doesIn fun d0 _ h => ?_
  split
  · exact h
  · exact .ite h (.placeOrder h)
theorem execZoneClose_acts {t nsid slba all} : Acts (execZoneClose t nsid slba all) :=
  .doesIn fun _ _ h => .io (fun _ h1 => .zoneSend (fun _ _ _ h2 => .finish (.foldl (fun _ _ h3 => .ite (.bump (.setCond h3)) h3) h2)) h1) h
theorem execZoneOpen_acts {t nsid slba all} : Acts (execZoneOpen t nsid slba all) :=
  .doesIn fun _ _ h => .io (fun _ h1 => .zoneSend (fun _ _ _ h2 => .ite (.finish (.bump h2)) (.ite h2 (.finish (.foldl (fun _ _ h3 => .ite (.ite (.jwrite h3) h3) (.bump
    (.setCond (.ite (.jwrite h3) h3)))) h2)))) h1) h
theorem execZoneReset_acts {t nsid slba all} : Acts (execZoneReset t nsid slba all) :=
  .doesIn fun _ _ h => .io (fun _ h1 => .zoneSend (fun _ _ _ h2 => .ite (.needMet (.putCmd h2)) (.putCmd h2)) h1) h
theorem execZoneFinish_acts {t nsid slba all} : Acts (execZoneFinish t nsid slba all) := by
  refine .doesIn fun d0 _ h => ?_
  refine .io (fun _ h1 => ?_) h
  extract_lets +onlyGivenNames _
  refine .zoneSend (fun _ _ _ h2 => ?_) h1
  extract_lets +onlyGivenNames _ d3 d4
  have h3 : Kept d0 d3 := .releaseHeld h2
  have h4 : Kept d0 d4 := .foldl (fun _ _ h4 => .ite (.syncZone h4) h4) h3
  exact .ite (.needMet (.putCmd h4)) (.putCmd h4)
theorem execZoneOffline_acts {t nsid} : Acts (execZoneOffline t nsid) := .doesIn fun _ _ h => .io (fun _ h1 => .ioNs (fun _ => .finish h1) h1) h
theorem execSetZoneDescExt_acts {t} : Acts (execSetZoneDescExt t) := .doesIn fun _ _ h => .io (fun _ h1 => .finish h1) h
theorem execExtendedReportZones_acts {t} : Acts (execExtendedReportZones t) := .doesIn fun _ _ h => .io (fun _ h1 => .finish h1) h
theorem execReportZones_acts {t nsid slba opt part len} : Acts (execReportZones t nsid slba opt part len) := by
  refine .doesIn fun d0 _ h => ?_
  refine .io (fun _ h1 => ?_) h
  refine .ioNs (fun _ => ?_) h1
  split
  · exact .finish h1
  · exact .ite (.finish h1) (.reply (.bump h1))
theorem execJournalHalfSwitch_acts : Acts execJournalHalfSwitch := .doesIn fun _ _ h => .ite (.jswitch h) h

/-! ### The commands of Machine/Decoder.lean -/

theorem execDecBlockAccept_acts {n flip} : Acts (execDecBlockAccept n flip) := by
  refine .doesIn fun d0 d h => ?_
  split
  · exact h
  · refine .ite h ?_
    extract_lets t b0 d1 d2
    have h2 : Kept d0 d2 := .ite (.bump (.setPool h)) (.fault (.bump (.setPool h)))
    split
    next he =>
    have h3 := Kept.ofS he (.injectBlock (.rest h2))
    split
    · next hc =>
      split at hc
      · exact .freeSlot (.combine h3 hc)
      · contradiction
    · exact .setDec h3
theorem execDecoderSlotTake_acts {k} : Acts (execDecoderSlotTake k) := by
  refine .doesIn fun d0 _ h => ?_
  refine .ite h ?_
  split
  · exact .setSlot (.setDec h)
  · refine .ite (.takeParked h) ?_
    split
    · exact h
    · exact .freeSlot (.setSlot (.setDec h))
theorem execParkedRedecode_acts {k} : Acts (execParkedRedecode k) := .doesIn fun _ _ h => .ite (.takeParked h) h
theorem execDecodeEnd_acts {k} : Acts (execDecodeEnd k) := by
  refine .doesIn fun d0 _ h => ?_
  split
  · exact h
  · split
    extract_lets +onlyGivenNames d1
    have h1 : Kept d0 d1 := .bump h
    split
    · exact .slotFails h1
    · exact .ite (.landSector (.setSlot h1)) (.slotFails h1)
theorem execDecSectorWriteResponse_acts : Acts execDecSectorWriteResponse := by
  refine .doesIn fun d0 _ h => ?_
  split
  · exact h
  · split
    · exact h
    · next he =>
      have h1 := Kept.bufTake h he
      exact .ite (.report (.event (.setSlotBusy (.rest h1)))) (.report (.rest h1))
theorem execDecInjectArm_acts {v who} : Acts (execDecInjectArm v who) := .doesIn fun _ _ h => .regWrite h

/-! ### The commands of Machine/Servo.lean -/

theorem execServoWedgeAccept_acts {n flip pair mismatch ns} : Acts (execServoWedgeAccept n flip pair mismatch ns) := by
  refine .doesIn fun d0 _ h => ?_
  split
  · exact h
  next b d1 he =>
  have h1 : Kept d0 d1 := .acceptFrom h he
  extract_lets k t r bad d2 d3 a d4 d5
  have h2 : Kept d0 d2 := .ite (.event (.bump h1)) h1
  have h4 : Kept d0 d4 := .takeDue (.inhibitEval h2)
  have h5 : Kept d0 d5 := .ite h4 (.latency (.onPair (fun _ h => .microWedge h) (.countWedge (.injMissing h4))))
  exact .reacquire (.contribute h5)
theorem execGatherClose_acts {a pair mismatch ns} : Acts (execGatherClose a pair mismatch ns) :=
  .doesIn fun _ _ h => .ite h (.ite (.takeDue (.rest (.setGathers h))) (.latency (.onPair (fun _ h4 => .combWedge h4) (.countWedge (.takeDue (.rest (.setGathers h)))))))
theorem execServoTick_acts {a pair mismatch} : Acts (execServoTick a pair mismatch) := by
  refine .doesIn fun d0 _ h => ?_
  extract_lets +onlyGivenNames _ _ _
  refine .ite h ?_
  extract_lets +onlyGivenNames d1 _ d2
  have h1 : Kept d0 d1 := .countWedge (.setLp h)
  have h2 : Kept d0 d2 := .onPair (fun _ h2 => .tickLoop h2) h1
  exact .ite (.orderDone (.down (.setLp h2))) (.setLp h2)
theorem execLoopFaultInnov_acts {k} : Acts (execLoopFaultInnov k) := .doesIn fun _ _ h => .takeFault h
theorem execLoopFaultLost_acts {k} : Acts (execLoopFaultLost k) := .doesIn fun _ _ h => .takeFault h
theorem execLoopFaultSat_acts {k} : Acts (execLoopFaultSat k) := .doesIn fun _ _ h => .takeFault h
theorem execIntegratorClampWarn_acts {k} : Acts (execIntegratorClampWarn k) := .doesIn fun _ _ h => .ite (.loopEvent (.setLp h)) h
theorem execFetchTmo_acts {a} : Acts (execFetchTmo a) := .doesIn fun _ _ h => .takeFault h
theorem execSitTmo_acts {k} : Acts (execSitTmo k) := .doesIn fun _ _ h => .takeFault h
theorem execLoadTmo_acts {a} : Acts (execLoadTmo a) := .doesIn fun _ _ h => .ite (.loopFault h) h
theorem execReacqTmo_acts {a} : Acts (execReacqTmo a) := .doesIn fun _ _ h => .ite (.loopFault h) h
theorem execUnloadTmo_acts {a} : Acts (execUnloadTmo a) := .doesIn fun _ _ h => .ite (.loopFault h) h
theorem execServoLoadOrder_acts {j flip} : Acts (execServoLoadOrder j flip) := .doesIn fun _ _ h => .acceptOrder (fun _ _ h1 => .takeOrder (fun _ h2 => .loadVcm h2) h1) h
theorem execServoFetchOrder_acts {j flip} : Acts (execServoFetchOrder j flip) := .doesIn fun _ _ h => .acceptOrder (fun _ _ h1 => .fetchOrder (.takeDue h1)) h
theorem execServoStayOrder_acts {j flip} : Acts (execServoStayOrder j flip) := .doesIn fun _ _ h => .acceptOrder (fun _ _ h1 => .stayOrder (.takeDue h1)) h
theorem execServoUnloadOrder_acts {j retract flip} : Acts (execServoUnloadOrder j retract flip) :=
  .doesIn fun _ _ h => .ite (.ite (.setFunc (.unloadVcm h)) h) (.acceptOrder (fun _ _ h1 => .unloadOrder (.takeDue h1)) h)
theorem execServoOffsetOrder_acts {j flip} : Acts (execServoOffsetOrder j flip) := .doesIn fun _ _ h => .acceptOrder (fun _ _ h1 => .offsetOrder (.takeDue h1)) h
theorem execServoOrderRefused_acts {j flip} : Acts (execServoOrderRefused j flip) :=
  .doesIn fun _ _ h => .acceptOrder (fun _ _ h1 => .refuseOrder (.ite (.supersede h1) h1)) h
theorem execCoefMemoryWrite_acts {a v who} : Acts (execCoefMemoryWrite a v who) := .doesIn fun _ _ h => .ite (.coefWrite h) h
theorem execSrvInjectArm_acts {v who} : Acts (execSrvInjectArm v who) := .doesIn fun _ _ h => .rest (.regWrite h)
theorem execAccelSample_acts {b} : Acts (execAccelSample b) := by
  refine .doesIn fun d0 _ h => ?_
  refine .ite h ?_
  extract_lets +onlyGivenNames _ d1
  have h1 : Kept d0 d1 := .rest h
  refine .ite (.ite (.event (.setFld (.bump (.rest h1)))) (.bump (.rest h1))) ?_
  extract_lets +onlyGivenNames _ d2
  have h2 : Kept d0 d2 := .rest h1
  refine .ite ?_ h2
  extract_lets +onlyGivenNames _ _ d3
  have h3 : Kept d0 d3 := .foldl (fun _ _ h3 => .shockTrip h3) h2
  exact .ite h3 (.event h3)

/-! ### The commands of Machine/Write.lean -/

theorem execAlinkCommandSend_acts {a} : Acts (execAlinkCommandSend a) := by
  refine .doesIn fun d0 _ h => ?_
  extract_lets +onlyGivenNames _
  split
  · exact .ite h (.driveFrame (.setAlink h))
  · exact h
theorem execAlinkReplyReceive_acts {a wave} : Acts (execAlinkReplyReceive a wave) := by
  refine .doesIn fun d0 _ h => ?_
  extract_lets +onlyGivenNames _ _ _ _ d1
  have h1 : Kept d0 d1 := .setAlink h
  split
  · exact h1
  · exact .ite (.resendFrame h1) (.ite h1 (.ite (.resendFrame h1) (.ite (.goodReply h1) (.badReply h1))))
theorem execAlinkReplyTimeout_acts {a} : Acts (execAlinkReplyTimeout a) := by
  refine .doesIn fun d0 _ h => ?_
  split
  · exact h
  · exact .ite h (.resendFrame h)
theorem execPreampFaultInput_acts {a low} : Acts (execPreampFaultInput a low) := by
  refine .doesIn fun d0 _ h => ?_
  extract_lets +onlyGivenNames _ _ d1
  have h1 : Kept d0 d1 := .setAlink h
  refine .ite h1 ?_
  extract_lets +onlyGivenNames d2
  have h2 : Kept d0 d2 := .foldl (fun _ _ h2 => .modRun (.cutGate (.gateNow h2))) (.bump h1)
  split
  · exact .ite (.event h2) (.linkAsk h2)
  · exact .event h2
theorem execArmLinkBringup_acts {a} : Acts (execArmLinkBringup a) := .doesIn fun _ _ h => .ite h (.linkAsk (.setAlink h))
theorem execWriteRunOrder_acts {n nsid lba count} : Acts (execWriteRunOrder n nsid lba count) := by
  refine .doesIn fun d0 _ h => ?_
  split
  · exact h
  · exact .ite h (.writeOrder (.newTag h))
theorem execHeaterNotice_acts {n nsid lba count} : Acts (execHeaterNotice n nsid lba count) := by
  refine .doesIn fun d0 _ h => ?_
  split
  · exact h
  · exact .ite h (.heaterNotice (.newTag h))
theorem execHeaterPreheatDone_acts {n} : Acts (execHeaterPreheatDone n) := by
  refine .doesIn fun d0 _ h => ?_
  extract_lets +onlyGivenNames _
  split
  · exact h
  · refine .ite h ?_
    extract_lets +onlyGivenNames d1
    have h1 : Kept d0 d1 := .runReport (.setWhead h)
    split
    · exact .heatTo h1
    · exact h1
theorem execWrpSectorData_acts {n} : Acts (execWrpSectorData n) := by
  refine .doesIn fun d0 _ h => ?_
  split
  · exact h
  · extract_lets +onlyGivenNames _ d1
    have h1 : Kept d0 d1 := .rest h
    split
    · exact h1
    · exact .ite h1 (.askAll (.modRun h1))
theorem execWriteSectorStart_acts {n} : Acts (execWriteSectorStart n) := by
  refine .doesIn fun d0 _ h => ?_
  extract_lets +onlyGivenNames d1
  have h1 : Kept d0 d1 := .gateNow h
  split
  · exact h1
  · extract_lets +onlyGivenNames _
    split
    · extract_lets +onlyGivenNames _
      split
      · exact h1
      · exact .ite h1 (.ite (.drivePart h1) (.bump (.notWritten (.ite (.inhEvent h1) h1))))
    · refine .ite h1 ?_
      extract_lets +onlyGivenNames _
      split
      extract_lets +onlyGivenNames d2 d3
      have h2 : Kept d0 d2 := .ite (.inhEvent h1) h1
      have h3 : Kept d0 d3 := .ite (.injStart h2) h2
      refine .ite (.raiseGate h3) ?_
      extract_lets +onlyGivenNames d4
      have h4 : Kept d0 d4 := .ite (.bump h3) h3
      exact .notWritten (.ite (.bump (.ite (.bump h4) h4)) (.ite (.bump h4) h4))
theorem execWriteGateDrop_acts {n} : Acts (execWriteGateDrop n) := by
  refine .doesIn fun d0 _ h => ?_
  extract_lets +onlyGivenNames d1
  have h1 : Kept d0 d1 := .gateNow h
  split
  · exact h1
  · split
    · exact h1
    · exact .ite h1 (.cutGate (.ite (.inhEvent h1) h1))
theorem execWriteRunEnd_acts {n} : Acts (execWriteRunEnd n) := by
  refine .doesIn fun d0 _ h => ?_
  extract_lets +onlyGivenNames d1
  have h1 : Kept d0 d1 := .gateNow h
  split
  · exact .ite (.endWrite h1) h1
  · exact h1
theorem execShockComparatorTrip_acts {a mv} : Acts (execShockComparatorTrip a mv) :=
  .doesIn fun _ _ h => .ite h (.ite (.ite (.rest h) h) (.ite h (.ite (.rest h) (.ite (.shockTrip (.rest h)) (.event (.shockTrip (.rest h)))))))
theorem execShockInhibitRelease_acts {a} : Acts (execShockInhibitRelease a) := by
  refine .doesIn fun d0 _ h => ?_
  split
  · exact h
  · exact .ite h (.ite (.rest h) (.rest h))
theorem execWrpInjectArm_acts {v who} : Acts (execWrpInjectArm v who) := .doesIn fun _ _ h => .ite (.setWhead (.regWrite h)) (.regWrite h)

/-! ### The commands of Machine/Media.lean -/

theorem execRetryLadderStep_acts {nsid lba} : Acts (execRetryLadderStep nsid lba) := by
  refine .doesIn fun d0 _ h => ?_
  split
  · exact h
  · extract_lets +onlyGivenNames _
    refine .ite ?_ (.ite (.endLadder h) (.ite h (.ladderGo h)))
    split
    · exact .setLadder (.rest h)
    · exact h
theorem execSectorReportReceive_acts {a} : Acts (execSectorReportReceive a) := by
  refine .doesIn fun d0 _ h => ?_
  split
  · exact .takeReport (.rest h)
  · split
    · exact .rest h
    · exact h
theorem execWriteRetry_acts {a} : Acts (execWriteRetry a) := by
  refine .doesIn fun d0 _ h => ?_
  split
  · exact h
  · extract_lets +onlyGivenNames _ _ _ _ _ _ _ _ _ d1
    have h1 : Kept d0 d1 := .rest h
    exact .ite h1 (.ite (.holdLost h1) (.ite (.destageFails h1) (.ite h (.foldl (fun _ _ h4 => .writeOrder (.newTag h4)) (.rest (.ite (.bump h1) h1))))))

/-! ### The commands of Machine/Ring.lean -/

theorem execRingLinkUp_acts {p skew first} : Acts (execRingLinkUp p skew first) := .doesPort fun _ _ h => .ite (.startJoin (.event (.modRport (.clearPort h)))) h
theorem execRingFrameCrcFail_acts {p a b} : Acts (execRingFrameCrcFail p a b) := .doesPort fun _ _ h => .ite h (.ite (.sendAck (.bumpPort h)) (.modRport h))
theorem execRingFrameForward_acts {p f} : Acts (execRingFrameForward p f) := .doesPort fun _ _ h => .ite (.ringReceive h) h
theorem execIdleFrame_acts {p} : Acts (execIdleFrame p) := .doesPort fun _ _ h => .ite (.bumpPort h) (.ite (.modRport (.setRstate h)) h)
theorem execAckFrame_acts {p ackseq held cret again} : Acts (execAckFrame p ackseq held cret again) :=
  .doesPort fun _ _ h => .ite h (.ite (.resend (.setRport (.bumpPort h))) (.setRport (.bumpPort h)))
theorem execAckTimer_acts {p} : Acts (execAckTimer p) := .doesPort fun _ _ h => .ite (.sendAck h) h
theorem execFrameResendTimeout_acts {p} : Acts (execFrameResendTimeout p) := .doesPort fun _ _ h => .ite (.resend h) h
theorem execRingPortFailed_acts {p why} : Acts (execRingPortFailed p why) := .doesPort fun _ _ h => .ite (.failRing h) h
theorem execRingPortRetrain_acts {p} : Acts (execRingPortRetrain p) := by
  refine .doesPort fun d0 _ h => ?_
  split
  · exact .ite (.modRport (.setRstate h)) h
  · exact h
theorem execJoinChalFrame_acts {p f} : Acts (execJoinChalFrame p f) := .doesPort fun _ _ h => .ite (.ringReceive h) h
theorem execJoinRespFrame_acts {p f} : Acts (execJoinRespFrame p f) := .doesPort fun _ _ h => .ite (.ringReceive h) h
theorem execJoinConfFrame_acts {p f} : Acts (execJoinConfFrame p f) := .doesPort fun _ _ h => .ite (.ringReceive h) h
theorem execJoinTimeout_acts {p} : Acts (execJoinTimeout p) := by
  refine .doesPort fun d0 _ h => ?_
  split
  · exact .ite (.refuseJoin h) h
  · exact h
theorem execJoinBackoffExpiry_acts {p} : Acts (execJoinBackoffExpiry p) := by
  refine .doesPort fun d0 _ h => ?_
  split
  · exact .ite (.ite (.setRstate (.modRport h)) (.modRport h)) h
  · exact h
theorem execBlockTagFail_acts {p f} : Acts (execBlockTagFail p f) := .doesPort fun _ _ h => .ite (.tagFail (.bumpPort h)) h
theorem execHelloFrame_acts {p f} : Acts (execHelloFrame p f) := .doesPort fun _ _ h => .ite (.ringReceive h) h
theorem execEnumQuietExpiry_acts : Acts execEnumQuietExpiry := by
  refine .doesIn fun d0 _ h => ?_
  refine .ringDo (fun _ h1 => ?_) h
  refine .ite ?_ h1
  extract_lets +onlyGivenNames _ _ _ d2
  have h2 : Kept d0 d2 := .ite (.setFld (.ite (.setFld h1) h1)) (.ite (.setFld h1) h1)
  exact .raiseAenAll (.ite (.event (.setFld h2)) (.event (.setFld (.setFld h2))))
theorem execRreqFrame_acts {p f} : Acts (execRreqFrame p f) := .doesPort fun _ _ h => .ite (.ringReceive h) h
theorem execRdataFrame_acts {p f} : Acts (execRdataFrame p f) := .doesPort fun _ _ h => .ite (.ringReceive h) h
theorem execJobStartFrame_acts {p f} : Acts (execJobStartFrame p f) := .doesPort fun _ _ h => .ite (.ringReceive h) h
theorem execAccFrame_acts {p f} : Acts (execAccFrame p f) := .doesPort fun _ _ h => .ite (.ringReceive h) h
theorem execJcreditFrame_acts {p f} : Acts (execJcreditFrame p f) := .doesPort fun _ _ h => .ite (.ringReceive h) h
theorem execJendFrame_acts {p f} : Acts (execJendFrame p f) := .doesPort fun _ _ h => .ite (.ringReceive h) h
theorem execEceFold_acts {own tgt job b edc mism} : Acts (execEceFold own tgt job b edc mism) := by
  refine .doesIn fun d0 _ h => ?_
  refine .ringDo (fun _ h1 => ?_) h
  refine .ite ?_ ?_
  · split
    · exact .ite (.combineBlock h1) h1
    · exact h1
  · split
    · exact .ite (.foldPart h1) h1
    · exact h1
theorem execJobTimeout_acts {job} : Acts (execJobTimeout job) := by
  refine .doesIn fun d0 _ h => ?_
  refine .ringDo (fun _ h1 => ?_) h
  split
  · exact h1
  · exact .ite (.failJob h1) h1
theorem execParticipantTimeout_acts {tgt job} : Acts (execParticipantTimeout tgt job) := by
  refine .doesIn fun d0 _ h => ?_
  refine .ringDo (fun _ h1 => ?_) h
  split
  · exact h1
  · exact .ite (.pruneOrders (.showJobs (.sendJend (.modRng h1)))) h1
theorem execRingAdminStatus_acts {t len} : Acts (execRingAdminStatus t len) := .doesIn fun _ _ h => .host (fun _ h1 => .reply (.unmaskPage h1)) h
theorem execRingAdminSetKey_acts {t data} : Acts (execRingAdminSetKey t data) := .doesIn fun _ _ h => .host (fun _ h1 => .finish (.setFlag (.rest h1))) h
theorem execRingAdminPorts_acts {t cdw12} : Acts (execRingAdminPorts t cdw12) :=
  .doesIn fun _ _ h => .host (fun _ h1 => .ringDo (fun _ h2 => .finish (.ringPorts (.setFld (.setFld h2)))) h1) h
theorem execRingAdminExport_acts {t nsid on} : Acts (execRingAdminExport t nsid on) := .doesIn fun _ _ h => .host (fun _ h1 => .ite (.finish h1) (.finish (.setFld h1))) h
theorem execRingAdminReconstruct_acts {t len dptr desc buf} : Acts (execRingAdminReconstruct t len dptr desc buf) := by
  refine .doesIn fun d0 _ h => ?_
  refine .host (fun _ h1 => ?_) h
  refine .ringDo (fun _ h2 => ?_) h1
  extract_lets +onlyGivenNames _ _ _ _ _ _ _ _ _ _
  refine .ite (.finish h2) ?_
  refine .ite (.finish h2) ?_
  split
  · exact .finish h2
  · refine .ite (.finish h2) ?_
    extract_lets +onlyGivenNames _ _ _
    refine .ite (.issueJob (.putCmd h2)) ?_
    split
    · exact .finish h2
    · extract_lets +onlyGivenNames _
      refine .ite (.finish h2) ?_
      refine .ite h2 ?_
      extract_lets +onlyGivenNames d3
      have h3 : Kept d0 d3 := .bump h2
      split
      · exact .finish h3
      · exact .issueJob (.syncZone (.modZne (.putCmd (.clearGranules (.reserve (.bump h3))))))
theorem execRingAdminRemoteRead_acts {t node nlb nsid slba segs} : Acts (execRingAdminRemoteRead t node nlb nsid slba segs) := by
  refine .doesIn fun d0 _ h => ?_
  refine .host (fun _ h1 => ?_) h
  refine .ringDo (fun _ h2 => ?_) h1
  extract_lets +onlyGivenNames _
  refine .ite (.finish h2) ?_
  refine .ite (.finish h2) ?_
  split
  · exact .finish h2
  · split
    · exact .finish h2
    · exact .originate (.bump (.modRng (.putCmd h2)))
theorem execRingAdminWhistle_acts {t cdw12} : Acts (execRingAdminWhistle t cdw12) :=
  .doesIn fun _ _ h => .host (fun _ h1 => .ringDo (fun _ h2 => .finish (.ite (.sendWhistle (.ite (.sendWhistle h2) h2)) (.ite (.sendWhistle h2) h2))) h1) h
theorem execRingAdminInvalid_acts {t} : Acts (execRingAdminInvalid t) := .doesIn fun _ _ h => .host (fun _ h1 => .finish h1) h
theorem execWhistleGoWrite_acts {v who} : Acts (execWhistleGoWrite v who) := .doesIn fun _ _ h => .whistleWrite h
theorem execRngInjectArm_acts {v who} : Acts (execRngInjectArm v who) := .doesIn fun _ _ h => .regWrite h
theorem execEceInjectArm_acts {v who} : Acts (execEceInjectArm v who) := .doesIn fun _ _ h => .regWrite h
theorem execRingLinkDown_acts {p} : Acts (execRingLinkDown p) := .doesIn fun _ _ h => .ringDo (fun _ h1 => .ite (.dropLink h1) h1) h
theorem execWhistleEnd_acts {p} : Acts (execWhistleEnd p) := by
  refine .doesIn fun d0 _ h => ?_
  split
  · exact .ite (.modRport (.setRstate h)) h
  · exact h

/-! ### The commands of Machine/Spindle.lean -/

theorem execSpnDemandWrite_acts {v who} : Acts (execSpnDemandWrite v who) := .doesIn fun _ _ h => .demandWrite h
theorem execResolverSample_acts {sn cs} : Acts (execResolverSample sn cs) :=
  .doesIn fun _ _ h => .followSpeed (.ite (.resolverInj (.resolverTake (.observe h))) (.resolverTake (.observe h)))
theorem execRevolutionComplete_acts : Acts execRevolutionComplete := by
  refine .doesIn fun d0 _ h => ?_
  refine .ite h ?_
  extract_lets +onlyGivenNames _ _ _ _ _ d1
  have h1 : Kept d0 d1 := .setSpn (.bump h)
  exact .ite (.ite (.lockLost h1) h1) (.ite (.ite (.ite (.event (.modSpn (.setFld (.setSpn h1)))) (.setSpn (.event (.modSpn (.setFld (.setSpn h1)))))) (.setSpn h1))
      (.setSpn h1))
theorem execLockTimeout_acts : Acts execLockTimeout := .doesIn fun _ _ h => .ite (.event (.setSpn h)) h
theorem execPwmPeriod_acts {cu cv cw} : Acts (execPwmPeriod cu cv cw) :=
  .doesIn fun _ _ h => .ite (.currents h) (.ite (.ite (.modSpn (.shortBrake (.setSpn (.moveTarget h)))) (.foc (.setSpn (.moveTarget h)))) (.ite (.foc (.setSpn h)) (.ite
    (.moveTarget h) h)))
theorem execStartMeasureDone_acts : Acts execStartMeasureDone := by
  refine .doesIn fun d0 _ h => ?_
  split
  · exact h
  · exact .ite h (.ite (.enterRun (.bump (.bump (.event (.setSpn h))))) (.ite (.modSpn (.spin (.bump (.event (.setSpn h))))) (.modSpn (.shortBrake (.bump (.bump (.event
        (.setSpn h))))))))
theorem execAlignDone_acts : Acts execAlignDone := .doesIn fun _ _ h => .ite h (.ite (.enterRun h) (.event (.bump (.gatesOff h))))
theorem execSpindleStopped_acts : Acts execSpindleStopped :=
  .doesIn fun _ _ h => .ite h (.ite (.gatesOff h) (.ite (.ite (.startMeasure (.gatesOff h)) (.gatesOff h)) (.ite (.gatesOff h) h)))
theorem execVbusSample_acts {c} : Acts (execVbusSample c) := by
  refine .doesIn fun d0 _ h => ?_
  split
  · exact h
  · extract_lets +onlyGivenNames _ _ d1 _ _ d2 _ d3 d4 d5 d6 d7
    have h1 : Kept d0 d1 := .ite (.setSpn h) h
    have h2 : Kept d0 d2 := .ite (.setSpn (.setFlag h1)) h1
    have h3 : Kept d0 d3 := .setFld h2
    have h4 : Kept d0 d4 := .ite (.setFld h3) h3
    have h5 : Kept d0 d5 := .chop h4
    have h6 : Kept d0 d6 := .ite (.overVoltage h5) h5
    have h7 : Kept d0 d7 := .ite (.powerFail h6) h6
    exact .ite (.ite (.setSpn h7) (.ite (.spinRanked (.setSpn (.setFld h7))) (.ite (.setSpn h7) h7))) h7
theorem execChopperWindowEnd_acts : Acts execChopperWindowEnd := by
  refine .doesIn fun d0 _ h => ?_
  split
  · exact h
  · refine .ite h ?_
    extract_lets +onlyGivenNames _ _ _ _ _ d1
    have h1 : Kept d0 d1 := .setSpn h
    exact .ite h1 (.event (.ite (.modSpn (.shortBrake (.setSpn (.setFld (.ite (.setFlag h1) h1))))) (.setSpn (.setFld (.ite (.setFlag h1) h1)))))
theorem execOvHoldEnd_acts : Acts execOvHoldEnd := by
  refine .doesIn fun d0 _ h => ?_
  split
  · exact h
  · refine .ite h ?_
    extract_lets +onlyGivenNames _ d1
    have h1 : Kept d0 d1 := .setSpn (.setFld h)
    exact .ite (.spinRanked h1) (.ite (.ite (.gatesOff h1) h1) (.ite (.enterRun h1) (.startMeasure h1)))
theorem execRegenEnd_acts : Acts execRegenEnd := .doesIn fun _ _ h => .ite (.event (.setFunc (.modSpn (.spin h)))) h
theorem execSpnInjectArm_acts {v who} : Acts (execSpnInjectArm v who) := .doesIn fun _ _ h => .modSpn (.regWrite h)

/-! ### The commands of Machine/Mdc.lean -/

theorem execMdcLineRead_acts {tag stream line sram tags bad} : Acts (execMdcLineRead tag stream line sram tags bad) := .doesIn fun _ _ h => .mask h
theorem execMdcLineWrite_acts {tag stream line mask data sram tags bad} : Acts (execMdcLineWrite tag stream line mask data sram tags bad) := .doesIn fun _ _ h => .mask h
theorem execMdcBadOp_acts {tag} : Acts (execMdcBadOp tag) := .doesIn fun _ _ h => .mresp h
theorem execMdcFillLand_acts : Acts execMdcFillLand := by
  refine .doesIn fun d0 d h => ?_
  cases he : d.mbuf with
  | none => exact h
  | some p =>
    have h1 := Kept.mbuf h he
    refine .mretry (.mrun ?_)
    split
    · exact .mland h1
    · exact .mpassed h1
    · exact .mwbBack h1
theorem execMopFetch_acts {who} : Acts (execMopFetch who) := .doesIn fun _ _ h => .mopCmd h
theorem execMopZero_acts {who} : Acts (execMopZero who) := .doesIn fun _ _ h => .mopCmd h
theorem execMopClean_acts {who} : Acts (execMopClean who) := .doesIn fun _ _ h => .mopCmd h
theorem execMopInval_acts {who} : Acts (execMopInval who) := .doesIn fun _ _ h => .mopCmd h
theorem execMopCleanInval_acts {who} : Acts (execMopCleanInval who) := .doesIn fun _ _ h => .mopCmd h
theorem execMopReserved_acts {op who} : Acts (execMopReserved op who) := .doesIn fun _ _ h => .mopCmd h
theorem execMopDone_acts : Acts execMopDone := by
  refine .doesIn fun d0 _ h => ?_
  extract_lets +onlyGivenNames d1
  have h1 : Kept d0 d1 := .mrun h
  split
  · exact h1
  · exact .ite h1 (.event (.setFld (.setFld (.setFld (.modMdc h1)))))
theorem execMdcInjectArm_acts {v who} : Acts (execMdcInjectArm v who) := .doesIn fun _ _ h => .regWrite h

/-! ### The commands of Machine/Vendor.lean -/

theorem execControlSpaceReadCmd_acts {t a} : Acts (execControlSpaceReadCmd t a) :=
  .doesIn fun _ _ h => .host (fun _ h1 => .ite (.finish (.access h1)) (.finish (.access h1))) h
theorem execCommitCmd_acts {t cdw10} : Acts (execCommitCmd t cdw10) := by
  refine .doesIn fun d0 _ h => ?_
  refine .host (fun _ h1 => ?_) h
  extract_lets +onlyGivenNames _ _ _
  refine .ite (.ite (.finish h1) (.ite (.finish (.commitDomain h1)) (.endCommit (.commitDomain h1)))) ?_
  refine .ite (.ite (.finish (.commitDomain (.drawNat h1))) (.endCommit (.commitMembers (.drawNat h1)))) ?_
  split
  · exact .finish h1
  · exact .ite (.finish (.refuseGo h1)) (.endCommit (.commitBlock h1))
theorem execBlockCommit_acts {b who} : Acts (execBlockCommit b who) := .doesIn fun _ _ h => .commitBlock h
theorem execDomainCommit_acts {i who} : Acts (execDomainCommit i who) := .doesIn fun _ _ h => .commitDomain h

/-! ### The commands of Machine/Control.lean -/

theorem execRegisterWrite_acts {a v who} : Acts (execRegisterWrite a v who) := .does fun _ _ h => .controlWrite h
theorem execControlSpaceWriteCmd_acts {t a v} : Acts (execControlSpaceWriteCmd t a v) :=
  .doesIn fun _ _ h => .host (fun _ h1 => .ite (.finish (.controlWrite h1)) (.finish (.controlWrite h1))) h
theorem execBar2Access_acts {c a size wr} : Acts (execBar2Access c a size wr) := by
  refine .doesIn fun d0 _ h => ?_
  refine .ite h ?_
  extract_lets +onlyGivenNames _
  refine .ite (.ite h (.sendTx h)) ?_
  refine .ite h ?_
  refine .ite (.ite (.event h) (.sendTx (.event h))) ?_
  split
  · exact .ite (.controlWrite h) (.sendTx (.controlWrite h))
  · exact .ite (.access h) (.sendTx (.access h))

/-! ### The commands of Machine/Dma.lean -/

theorem execDmaPost_acts {seq post} : Acts (execDmaPost seq post) := .doesIn fun _ _ h => .ite (.dmaPost h) h
theorem execDmaBurstIssue_acts {e} : Acts (execDmaBurstIssue e) := .doesIn fun _ _ h => .ringSettle (.dmaGrant h)
theorem execDmaReadData_acts {sram} : Acts (execDmaReadData sram) := by
  refine .doesIn fun d0 _ h => .ringSettle ?_
  split
  · exact h
  · split
    · exact h
    · next he =>
      have h1 := Kept.stageRead (sram := sramRead sram) (.bufTake h he)
      exact .ite (.stageData h1) (.stageData h1)
theorem execDmaWriteResponse_acts {e} : Acts (execDmaWriteResponse e) := by
  refine .doesIn fun d0 _ h => .ringSettle (.ite ?_ ?_)
  · split
    · exact .burstAcked h
    · exact h
  · split
    · exact h
    · split
      · exact h
      · next he =>
        have h1 := Kept.bufTake h he
        split
        · exact h1
        · exact .ite (.descError (.freeStage h1)) (.burstAcked h1)
theorem execDmaStop_acts {x who} : Acts (execDmaStop x who) := .doesIn fun _ _ h => .ringSettle (.dmaCtrlWrite h)
theorem execDmaResume_acts {x who} : Acts (execDmaResume x who) := .doesIn fun _ _ h => .dmaCtrlWrite h
theorem execDmaDoorbell_acts {x who} : Acts (execDmaDoorbell x who) := .doesIn fun _ _ h => .dmaCtrlWrite h
theorem execDmaHostDescriptorFetched_acts {x desc} : Acts (execDmaHostDescriptorFetched x desc) :=
  .doesIn fun _ _ h => .ite h (.ite (.setDch (.rest h)) (.ite (.fetchDesc (.setDch (.rest h))) (.setDch (.rest h))))
theorem execDmaInjectArm_acts {v who} : Acts (execDmaInjectArm v who) := .doesIn fun _ _ h => .regWrite h

/-! ### The commands of Machine/Firmware.lean -/

theorem execFirmwareImageDownload_acts {t ofs piece} : Acts (execFirmwareImageDownload t ofs piece) :=
  .doesIn fun _ _ h => .host (fun _ h1 => .ite (.finish h1) (.ite (.finish h1) (.ite h1 (.finish (.programPiece (.rest (.ite (.foldl
    (fun _ _ h2 => .eraseSector h2) h1) h1))))))) h
theorem execFirmwareCommitCa0_acts {t fs} : Acts (execFirmwareCommitCa0 t fs) := .doesIn fun _ _ h => .host (fun _ h1 => .fwCommit h1) h
theorem execFirmwareCommitCa1_acts {t fs} : Acts (execFirmwareCommitCa1 t fs) := .doesIn fun _ _ h => .host (fun _ h1 => .fwCommit h1) h
theorem execFirmwareCommitCa2_acts {t fs} : Acts (execFirmwareCommitCa2 t fs) := .doesIn fun _ _ h => .host (fun _ h1 => .fwCommit h1) h
theorem execFirmwareCommitOther_acts {t ca} : Acts (execFirmwareCommitOther t ca) := .doesIn fun _ _ h => .host (fun _ h1 => .ite h1 (.finish h1)) h

/-! ### The commands of Machine/Host.lean -/

theorem execSqTailDoorbell_acts {c q v} : Acts (execSqTailDoorbell c q v) := by
  refine .doesIn fun d0 _ h => ?_
  refine .ite h ?_
  split
  · exact .badDoorbell h
  · exact .ite (.badDoorbell h) (.setSq h)
theorem execCqHeadDoorbell_acts {c q v} : Acts (execCqHeadDoorbell c q v) := by
  refine .doesIn fun d0 _ h => ?_
  refine .ite h ?_
  split
  · exact .badDoorbell h
  · exact .ite (.badDoorbell h) (.setCq h)
theorem execSqEntryFetch_acts {c cids} : Acts (execSqEntryFetch c cids) := by
  refine .doesIn fun d0 _ h => ?_
  extract_lets +onlyGivenNames _ _
  refine .ite h ?_
  split
  · exact h
  · refine .ite (.miTurn (.modCtrl h)) ?_
    split
    · exact h
    · extract_lets +onlyGivenNames _ d1 _ d2 d3
      have h1 : Kept d0 d1 := .modCtrl (.setSq h)
      have h2 : Kept d0 d2 := .setPool h1
      have h3 : Kept d0 d3 := .foldl (fun _ _ h3 => .putCmd h3) h2
      exact .ite (.bindCtx (.bump h3)) (.foldl (fun _ _ h5 => .finish h5) (.bindCtx (.bump h3)))
theorem execCqEntryPost_acts {c q} : Acts (execCqEntryPost c q) := by
  refine .doesIn fun d0 _ h => ?_
  extract_lets +onlyGivenNames _ _
  split
  · exact .ite h (.bindCtx (.announce (.setCq (.bump (.sendTx (.modHst h))))))
  · exact h
theorem execCoalesceTimeout_acts {c v} : Acts (execCoalesceTimeout c v) := .doesIn fun _ _ h => .ite h (.interrupt (.modCtrl h))
theorem execHostReadCompletion_acts {id res} : Acts (execHostReadCompletion id res) := by
  refine .doesIn fun d0 _ h => ?_
  split
  · exact h
  · extract_lets +onlyGivenNames d1 _ d2
    have h1 : Kept d0 d1 := .modHst h
    have h2 : Kept d0 d2 := .ite (.setFlag h1) h1
    split
    · exact .stageData h2
    · exact h2
    · exact .hostReadFails (.bump h2)
    · exact .hostReadFails (.bump h2)
    · exact .hostReadFails (.bump h2)
theorem execHostCompletionTimeout_acts {id} : Acts (execHostCompletionTimeout id) := by
  refine .doesIn fun d0 _ h => ?_
  split
  · exact h
  · exact .hostReadFails (.bump (.modHst h))
theorem execHostWritePoisoned_acts {c} : Acts (execHostWritePoisoned c) := .doesIn fun _ _ h => .ite (.sendTx h) h
theorem execCcEnable_acts {c cc aqa asq acq cfg} : Acts (execCcEnable c cc aqa asq acq cfg) :=
  .doesIn fun _ _ h => .ite h (.ite (.event (.setCtrl h)) (.ite (.setCtrl h) (.raiseAen (.setCtrl h))))
theorem execControllerReset_acts {c} : Acts (execControllerReset c) := .doesIn fun _ _ h => .ite (.resetCtrl h) h
theorem execFunctionLevelReset_acts {c} : Acts (execFunctionLevelReset c) := .doesIn fun _ _ h => .ite (.cfgDefaults (.resetCtrl h)) h
theorem execPortHotReset_acts {p perst} : Acts (execPortHotReset p perst) := by
  refine .doesIn fun d0 _ h => ?_
  refine .ite h ?_
  extract_lets +onlyGivenNames d1
  have h1 : Kept d0 d1 := .linkDefaults (.cfgDefaults (.resetCtrl h))
  exact .ite (.voted (.modCtrl h1)) h1
theorem execShutdownNotify_acts {c} : Acts (execShutdownNotify c) := .doesIn fun _ _ h => .ite h (.endShutdown (.releaseHeld (.modCtrl h)))
theorem execLinkUp_acts {p speed width flit} : Acts (execLinkUp p speed width flit) :=
  .doesIn fun _ _ h => .ite h (.event (.voted (.modCtrl (.setFlag (.setFld (.setFld (.setFld (.setFld h))))))))
theorem execPortDlDown_acts {p} : Acts (execPortDlDown p) := .doesIn fun _ _ h => .ite (.failPort h) h
theorem execLinkRecoveryTimeout_acts {p} : Acts (execLinkRecoveryTimeout p) := .doesIn fun _ _ h => .ite (.failPort h) h
theorem execLinkRetrained_acts {p us} : Acts (execLinkRetrained p us) := .doesIn fun _ _ h => .ite (.event (.bump (.incSat h))) h
theorem execMiMessage_acts {msg} : Acts (execMiMessage msg) := .doesIn fun _ _ h => .ite (.sendTx h) (.bump (.modHst h))
theorem execBmcBasicRead_acts : Acts execBmcBasicRead := .doesIn fun _ _ h => .ite h (.sendTx h)
theorem execDiagChallenge_acts {t} : Acts (execDiagChallenge t) := .doesIn fun _ _ h => .host (fun _ h1 => .reply (.modHst (.drawBytes (n := 32) h1))) h
theorem execDiagUnlock_acts {t answer} : Acts (execDiagUnlock t answer) :=
  .doesIn fun _ _ h => .host (fun _ h1 => .ite (.finish (.event (.setFld (.modHst h1)))) (.finish (.event (.modHst h1)))) h
theorem execDiagLock_acts {t} : Acts (execDiagLock t) := .doesIn fun _ _ h => .host (fun _ h1 => .finish (.closeDiag h1)) h

/-! ### The commands of Machine/Image.lean -/

theorem execImageLoad_acts : Acts execImageLoad := by
  refine .doesIn fun d0 _ h => ?_
  refine .ite h ?_
  extract_lets +onlyGivenNames _ _ _ d1
  have h1 : Kept d0 d1 := h
  split
  rename_i d2 why ok he
  have h2 : Kept d0 d2 := .ofF he (.tryCopies h)
  exact .modPwr (.ite (.relayWhistle (.loadKeys (.loadRingKey (.event (.drawNat (.drawNat (.drawNat (.setFld (.setFld h2))))))))) (.minimalStart (.setFld (.setFld h2))))

/-! ### The commands of Machine/Logbook.lean -/

theorem execLogEventAccept_acts {bad sram} : Acts (execLogEventAccept bad sram) := by
  refine .does fun d0 _ h => ?_
  split
  · exact h
  · exact .ite h (.poolEvent (.ite (.fault (.rest h)) (.rest h)))
theorem execBucketRefill_acts {b} : Acts (execBucketRefill b) :=
  .does fun _ _ h => .ite (.ite (.setBucket (.setFld h)) (.bump (.writeRecord (.setFld (.setBucket (.setFld h)))))) h
theorem execLogFlushBatch_acts : Acts execLogFlushBatch := by
  refine .does fun d0 _ h => ?_
  split
  · exact h
  · exact .ite h (.ite (.rest (.grantBg h)) (.flushBatch (.grantBg h)))
theorem execLogEpochScan_acts : Acts execLogEpochScan := by
  refine .does fun d0 _ h => .ite h ?_
  extract_lets +onlyGivenNames _ _ _ _ _ _ _ _ d1
  have h1 : Kept d0 d1 := .setFlushWp (.setFlushWp h)
  split
  next he => exact .event (.setFld (.setFlag (.rest (.ofF he (.flushWords h1)))))
theorem execLogbookRead_acts {t cdw10 numr first len} : Acts (execLogbookRead t cdw10 numr first len) :=
  .does fun _ _ h => .host (fun _ h1 => .ite (.finish h1) (.finish (.sendData (.ite (.unmaskPage (.unmaskPage h1)) h1)))) h
theorem execLogInjectArm_acts {v who} : Acts (execLogInjectArm v who) := .does fun _ _ h => .regWrite h

/-! ### The commands of Machine/Namespace.lean -/

theorem execNamespaceLayout_acts {t w10 w11 w12} : Acts (execNamespaceLayout t w10 w11 w12) := by
  refine .doesIn fun d0 _ h => ?_
  refine .host (fun _ h1 => ?_) h
  extract_lets +onlyGivenNames _
  split
  · exact .finish h1
  · exact .finish (.modCtrl h1)
theorem execNamespaceCreate_acts {t nsze ncap} : Acts (execNamespaceCreate t nsze ncap) := by
  refine .doesIn fun d0 _ h => ?_
  refine .host (fun _ h1 => ?_) h
  split
  · exact .finish h1
  · extract_lets +onlyGivenNames d2 _ _
    have h2 : Kept d0 d2 := .modCtrl h1
    refine .ite (.finish h2) ?_
    split
    · exact .finish h2
    · exact .finish h2
    · exact .ite (.finish h2) (.finish (.event (.emptyZones (.newGen (.ite (.event (.drawKey (.modZne h2))) (.modZne h2))))))
theorem execNamespaceDelete_acts {t nsid} : Acts (execNamespaceDelete t nsid) := by
  refine .doesIn fun d0 _ h => ?_
  refine .host (fun _ h1 => ?_) h
  split
  · exact .finish h1
  · refine .ite (.finish h1) ?_
    extract_lets +onlyGivenNames d2 d3
    have h2 : Kept d0 d2 := .putCmd h1
    have h3 : Kept d0 d3 := .setNs h2
    exact .drainNs (.ite (.nsChanged (.ite (.nsChanged h3) h3)) (.ite (.nsChanged h3) h3))
theorem execNamespaceAttach_acts {t nsid ids} : Acts (execNamespaceAttach t nsid ids) := .doesIn fun _ _ h => .host (fun _ h1 => .nsAttach h1) h
theorem execNamespaceDetach_acts {t nsid ids} : Acts (execNamespaceDetach t nsid ids) := .doesIn fun _ _ h => .host (fun _ h1 => .nsAttach h1) h
theorem execCryptoErase_acts {t nsid} : Acts (execCryptoErase t nsid) := by
  refine .doesIn fun d0 _ h => ?_
  refine .host (fun _ h1 => ?_) h
  split
  · exact .finish h1
  · exact .ite (.finish h1) (.drainNs (.setNs (.putCmd h1)))
theorem execKeyStateReceive_acts {t len} : Acts (execKeyStateReceive t len) := .doesIn fun _ _ h => .host (fun _ h1 => .reply h1) h
theorem execSecurityProtocolList_acts {t len} : Acts (execSecurityProtocolList t len) := .doesIn fun _ _ h => .host (fun _ h1 => .reply h1) h

/-! ### The commands of Machine/Power.lean -/

theorem execPowerMoveStep_acts : Acts execPowerMoveStep := .does fun _ _ h => .ite (.countMs h) (.moveStep (.showVotes (.ite (.startMove (.countMs h)) (.countMs h))))
theorem execSpindleStopTimeout_acts : Acts execSpindleStopTimeout := by
  refine .does fun d0 _ h => ?_
  split
  · exact .ite (.afterDown (.event h)) h
  · exact h
theorem execHeadRequestRead_acts {n who} : Acts (execHeadRequestRead n who) := .does fun _ _ h => .headreqWrite h
theorem execHeadRequestWrite_acts {n who} : Acts (execHeadRequestWrite n who) := .does fun _ _ h => .headreqWrite h
theorem execHeadRelease_acts {n who} : Acts (execHeadRelease n who) := .does fun _ _ h => .headreqWrite h
theorem execVcoreThresholdCross_acts {meas} : Acts (execVcoreThresholdCross meas) := .does fun _ _ h => .govern (.setFld h)
theorem execPadReleaseWrite_acts {v who} : Acts (execPadReleaseWrite v who) := .does fun _ _ h => .padrelWrite h
theorem execWakeSource_acts {src} : Acts (execWakeSource src) := .does fun _ _ h => .wakeSource h
theorem execSmbusAddressMatch_acts {addr} : Acts (execSmbusAddressMatch addr) := .does fun _ _ h => .ite (.wakeSource h) h
theorem execWhistleDetected_acts {p periods} : Acts (execWhistleDetected p periods) := .does fun _ _ h => .ite h (.ite (.wakeSource h) (.ite h (.govern (.setDomains h))))
theorem execPowerFailSequence_acts {vb} : Acts (execPowerFailSequence vb) := by
  refine .does fun d0 _ h => ?_
  split
  · exact .ite (.pfEnd h) h
  · exact .ite (.pfBegin (.countMs h)) h
theorem execPwrInjectArm_acts {v who} : Acts (execPwrInjectArm v who) := .does fun _ _ h => .regWrite h
theorem execKennelSupplySwitch_acts {vaux} : Acts (execKennelSupplySwitch vaux) := .does fun _ _ h => .modPwr h
theorem execCorePgRise_acts : Acts execCorePgRise := .does fun _ _ h => .ite h (.ite (.endRestart (.modPwr h)) (.afterReset (.modPwr h)))
theorem execCorePgLate_acts : Acts execCorePgLate := .does fun _ _ h => .ite (.event (.modPwr h)) h
theorem execCorePgFall_acts : Acts execCorePgFall := by
  refine .does fun d0 _ h => ?_
  refine .ite ?_ h
  extract_lets +onlyGivenNames d1 d2
  have h1 : Kept d0 d1 := .setFld (.domainOff h)
  have h2 : Kept d0 d2 := by
    unfold d2
    split
    · exact .batchOver h1
    · exact h1
  exact .event (.modPwr (.setFld h2))
theorem execOverTempRise_acts {tj sensor} : Acts (execOverTempRise tj sensor) := .does fun _ _ h => .ite (.event (.critWarn (.modPwr (.setTj h)))) (.setTj h)
theorem execOverTempFall_acts {tj} : Acts (execOverTempFall tj) := by
  refine .does fun d0 _ h => ?_
  extract_lets +onlyGivenNames d1
  have h1 : Kept d0 d1 := .setTj h
  split
  · exact .ite (.event (.modPwr (.rest h1))) h1
  · exact h1
theorem execPerstRelease_acts {p} : Acts (execPerstRelease p) := .does fun _ _ h => .ite h (.voted (.perstHigh h))
theorem execPciPowerStateWrite_acts {c d3 pme} : Acts (execPciPowerStateWrite c d3 pme) := .doesIn fun _ _ h => .ite h (.voted (.modPwr (.modCtrl h)))
theorem execNvmSubsystemReset_acts : Acts execNvmSubsystemReset := by
  refine .doesIn fun d0 _ h => ?_
  extract_lets +onlyGivenNames d1
  have h1 : Kept d0 d1 := .ite h (.releaseHeld (.modHst h))
  exact .ite (.nssrEnd h1) h1
theorem execNssrDestageLimit_acts : Acts execNssrDestageLimit := by
  refine .doesIn fun d0 _ h => ?_
  split
  · exact .ite (.nssrEnd h) h
  · exact h

/-! ### The commands of Machine/Seq.lean -/

theorem execUwordWaitUntil_acts {q t f} : Acts (execUwordWaitUntil q t f) := .doesIn fun _ _ h => .uword h
theorem execUwordWaitWhile_acts {q t f} : Acts (execUwordWaitWhile q t f) := .doesIn fun _ _ h => .uword h
theorem execUwordBranch_acts {q t f} : Acts (execUwordBranch q t f) := .doesIn fun _ _ h => .uword h
theorem execUwordJump_acts {q t f} : Acts (execUwordJump q t f) := .doesIn fun _ _ h => .uword h
theorem execUwordCall_acts {q t f} : Acts (execUwordCall q t f) := .doesIn fun _ _ h => .uword h
theorem execUwordReturn_acts {q t f} : Acts (execUwordReturn q t f) := .doesIn fun _ _ h => .uword h
theorem execUwordMov_acts {q t f} : Acts (execUwordMov q t f) := .doesIn fun _ _ h => .uword h
theorem execUwordAdd_acts {q t f} : Acts (execUwordAdd q t f) := .doesIn fun _ _ h => .uword h
theorem execUwordSub_acts {q t f} : Acts (execUwordSub q t f) := .doesIn fun _ _ h => .uword h
theorem execUwordAnd_acts {q t f} : Acts (execUwordAnd q t f) := .doesIn fun _ _ h => .uword h
theorem execUwordOr_acts {q t f} : Acts (execUwordOr q t f) := .doesIn fun _ _ h => .uword h
theorem execUwordXor_acts {q t f} : Acts (execUwordXor q t f) := .doesIn fun _ _ h => .uword h
theorem execUwordShl_acts {q t f} : Acts (execUwordShl q t f) := .doesIn fun _ _ h => .uword h
theorem execUwordShr_acts {q t f} : Acts (execUwordShr q t f) := .doesIn fun _ _ h => .uword h
theorem execUwordCmp_acts {q t f} : Acts (execUwordCmp q t f) := .doesIn fun _ _ h => .uword h
theorem execUwordLdc_acts {q t f} : Acts (execUwordLdc q t f) := .doesIn fun _ _ h => .uword h
theorem execUwordStc_acts {q t f} : Acts (execUwordStc q t f) := .doesIn fun _ _ h => .uword h
theorem execUwordMin_acts {q t f} : Acts (execUwordMin q t f) := .doesIn fun _ _ h => .uword h
theorem execUwordMax_acts {q t f} : Acts (execUwordMax q t f) := .doesIn fun _ _ h => .uword h
theorem execUwordSendq_acts {q t f} : Acts (execUwordSendq q t f) := .doesIn fun _ _ h => .uword h
theorem execUwordSend_acts {q t f} : Acts (execUwordSend q t f) := .doesIn fun _ _ h => .uword h
theorem execUwordRecv_acts {q t f} : Acts (execUwordRecv q t f) := .doesIn fun _ _ h => .uword h
theorem execUwordCsrRd_acts {q t f} : Acts (execUwordCsrRd q t f) := .doesIn fun _ _ h => .uword h
theorem execUwordCsrWr_acts {q t f} : Acts (execUwordCsrWr q t f) := .doesIn fun _ _ h => .uword h
theorem execUwordLock_acts {q t f} : Acts (execUwordLock q t f) := .doesIn fun _ _ h => .uword h
theorem execUwordCommit_acts {q t f} : Acts (execUwordCommit q t f) := .doesIn fun _ _ h => .uword h
theorem execUwordDrop_acts {q t f} : Acts (execUwordDrop q t f) := .doesIn fun _ _ h => .uword h
theorem execRoutineDispatch_acts {q a} : Acts (execRoutineDispatch q a) := by
  refine .doesIn fun d0 _ h => ?_
  refine .ite h ?_
  split
  · exact .dispatch h
  · exact .ite (.setThread h) h
theorem execContextInterrupt_acts {q c entry victim} : Acts (execContextInterrupt q c entry victim) := .doesIn fun _ _ h => .ite h (.ite (.modSeq h) (.ctxInterrupt h))
theorem execThreadTimerExpiry_acts {q t} : Acts (execThreadTimerExpiry q t) := by
  refine .doesIn fun d0 _ h => ?_
  extract_lets +onlyGivenNames _
  split
  · exact .ite (.setThread h) h
  · exact h
theorem execMutexClaimWrite_acts {m who} : Acts (execMutexClaimWrite m who) := .doesIn fun _ _ h => .mutexWrite h
theorem execMutexReleaseWrite_acts {m who} : Acts (execMutexReleaseWrite m who) := .doesIn fun _ _ h => .mutexWrite h
theorem execFlagSetWrite_acts {q v who} : Acts (execFlagSetWrite q v who) := .doesIn fun _ _ h => .controlWrite h
theorem execFlagClearWrite_acts {q v who} : Acts (execFlagClearWrite q v who) := .doesIn fun _ _ h => .controlWrite h
theorem execSeqInjectArm_acts {v who} : Acts (execSeqInjectArm v who) := .doesIn fun _ _ h => .regWrite h

/-! ### The commands of Machine/ZoneRec.lean -/

theorem execZoneContextRequest_acts {ctx tag put stream sram tags} : Acts (execZoneContextRequest ctx tag put stream sram tags) :=
  .doesIn fun _ _ h => .ite h (.mrequest (.bump h))
theorem execZoneRecovery_acts {ends} : Acts (execZoneRecovery ends) := by
  refine .doesIn fun d0 _ h => ?_
  refine .ite h ?_
  extract_lets +onlyGivenNames _ _ _ _ _ _ _ _ d1
  have h1 : Kept d0 d1 := .ite h (.event h)
  refine .ite (.setFlag h1) ?_
  extract_lets +onlyGivenNames _ d2 d3 d4
  have h2 : Kept d0 d2 := .modZne h1
  have h3 : Kept d0 d3 := .setFld h2
  have h4 : Kept d0 d4 := .foldl (fun _ _ h4 => .foldl (fun _ _ h5 => .recoverZone h5) h4) h3
  exact .setFld (.setFlag (.ite h4 (.raiseAenAll h4)))
theorem execZneInjectArm_acts {v who} : Acts (execZneInjectArm v who) := .doesIn fun _ _ h => .regWrite h

/-! ### One step -/

/-- Every command but the two that switch the kennel's power is an effect on the device that keeps what `Kept` names. -/
theorem exec_acts (i : Instr) (hon : i ≠ .kennelPowerOn) (hoff : i ≠ .kennelPowerLost) : Acts (exec i) := by
  cases i with
  | registerWrite => exact execRegisterWrite_acts
  | tokenSend => exact execTokenSend_acts
  | tokenAccept => exact execTokenAccept_acts
  | creditReturn => exact execCreditReturn_acts
  | eventOffer => exact execEventOffer_acts
  | eventCreditRegained => exact execEventCreditRegained_acts
  | backgroundPromotion => exact execBackgroundPromotion_acts
  | stallDetected => exact execStallDetected_acts
  | registerParitySweep => exact execRegisterParitySweep_acts
  | tbaseDupMismatch => exact execTbaseDupMismatch_acts
  | xtalLost => exact execXtalLost_acts
  | tbaseLoRead => exact execTbaseLoRead_acts
  | rollCallRequest => exact execRollCallRequest_acts
  | rollTokenAtBank => exact execRollTokenAtBank_acts
  | rollCallComplete => exact execRollCallComplete_acts
  | rollPeriodDue => exact execRollPeriodDue_acts
  | rollCallCmd => exact execRollCallCmd_acts
  | wedgeDemodulated => exact execWedgeDemodulated_acts
  | samWindowMiss => exact execSamWindowMiss_acts
  | sectorRunOrder => exact execSectorRunOrder_acts
  | sectorStart => exact execSectorStart_acts
  | thermalAsperity => exact execThermalAsperity_acts
  | pllLockLost => exact execPllLockLost_acts
  | loopUpdateBlock => exact execLoopUpdateBlock_acts
  | softBlockSend => exact execSoftBlockSend_acts
  | chRunEnd => exact execChRunEnd_acts
  | decBlockAccept => exact execDecBlockAccept_acts
  | decoderSlotTake => exact execDecoderSlotTake_acts
  | decodeEnd => exact execDecodeEnd_acts
  | parkedRedecode => exact execParkedRedecode_acts
  | decSectorWriteResponse => exact execDecSectorWriteResponse_acts
  | sectorReportReceive => exact execSectorReportReceive_acts
  | retryLadderStep => exact execRetryLadderStep_acts
  | decInjectArm => exact execDecInjectArm_acts
  | alinkCommandSend => exact execAlinkCommandSend_acts
  | alinkReplyReceive => exact execAlinkReplyReceive_acts
  | alinkReplyTimeout => exact execAlinkReplyTimeout_acts
  | preampFaultInput a low => exact execPreampFaultInput_acts (a := a) (low := low)
  | armLinkBringup => exact execArmLinkBringup_acts
  | writeRunOrder => exact execWriteRunOrder_acts
  | heaterNotice => exact execHeaterNotice_acts
  | heaterPreheatDone => exact execHeaterPreheatDone_acts
  | wrpSectorData => exact execWrpSectorData_acts
  | writeSectorStart => exact execWriteSectorStart_acts
  | writeGateDrop => exact execWriteGateDrop_acts
  | writeRunEnd => exact execWriteRunEnd_acts
  | writeRetry => exact execWriteRetry_acts
  | shockComparatorTrip => exact execShockComparatorTrip_acts
  | shockInhibitRelease => exact execShockInhibitRelease_acts
  | wrpInjectArm => exact execWrpInjectArm_acts
  | servoWedgeAccept => exact execServoWedgeAccept_acts
  | gatherClose => exact execGatherClose_acts
  | servoTick => exact execServoTick_acts
  | loopFaultInnov => exact execLoopFaultInnov_acts
  | loopFaultLost => exact execLoopFaultLost_acts
  | loopFaultSat => exact execLoopFaultSat_acts
  | integratorClampWarn => exact execIntegratorClampWarn_acts
  | fetchTmo => exact execFetchTmo_acts
  | sitTmo => exact execSitTmo_acts
  | loadTmo => exact execLoadTmo_acts
  | reacqTmo => exact execReacqTmo_acts
  | unloadTmo => exact execUnloadTmo_acts
  | servoLoadOrder => exact execServoLoadOrder_acts
  | servoFetchOrder => exact execServoFetchOrder_acts
  | servoStayOrder => exact execServoStayOrder_acts
  | servoUnloadOrder => exact execServoUnloadOrder_acts
  | servoOffsetOrder => exact execServoOffsetOrder_acts
  | servoOrderRefused => exact execServoOrderRefused_acts
  | coefMemoryWrite => exact execCoefMemoryWrite_acts
  | srvInjectArm => exact execSrvInjectArm_acts
  | actSetFrame => exact execActSetFrame_acts
  | actReplyReceive => exact execActReplyReceive_acts
  | actReplyTimeout => exact execActReplyTimeout_acts
  | actFaultInput => exact execActFaultInput_acts
  | powerStageDiscovery => exact execPowerStageDiscovery_acts
  | functionChannelRefresh => exact execFunctionChannelRefresh_acts
  | actInjectArm => exact execActInjectArm_acts
  | accelSample => exact execAccelSample_acts
  | resolverSample => exact execResolverSample_acts
  | revolutionComplete => exact execRevolutionComplete_acts
  | lockTimeout => exact execLockTimeout_acts
  | pwmPeriod => exact execPwmPeriod_acts
  | spnDemandWrite => exact execSpnDemandWrite_acts
  | startMeasureDone => exact execStartMeasureDone_acts
  | alignDone => exact execAlignDone_acts
  | spindleStopped => exact execSpindleStopped_acts
  | vbusSample => exact execVbusSample_acts
  | chopperWindowEnd => exact execChopperWindowEnd_acts
  | ovHoldEnd => exact execOvHoldEnd_acts
  | regenEnd => exact execRegenEnd_acts
  | spnInjectArm => exact execSpnInjectArm_acts
  | bufferBringup => exact execBufferBringup_acts
  | trainingDone => exact execTrainingDone_acts
  | bufRequestGrant => exact execBufRequestGrant_acts
  | fillTrackerTimeout => exact execFillTrackerTimeout_acts
  | bufPeriodicRetrain => exact execBufPeriodicRetrain_acts
  | vclrCntWrite => exact execVclrCntWrite_acts
  | vclrDone => exact execVclrDone_acts
  | tbufConfigWrite => exact execTbufConfigWrite_acts
  | tbclrWrite => exact execTbclrWrite_acts
  | markDeviceDead => exact execMarkDeviceDead_acts
  | markDeviceAlive => exact execMarkDeviceAlive_acts
  | resilverGranule => exact execResilverGranule_acts
  | scrubSlot => exact execScrubSlot_acts
  | scrubPassOverrun => exact execScrubPassOverrun_acts
  | bufInjectArm => exact execBufInjectArm_acts
  | mdcLineRead => exact execMdcLineRead_acts
  | mdcLineWrite => exact execMdcLineWrite_acts
  | mdcBadOp => exact execMdcBadOp_acts
  | mdcFillLand => exact execMdcFillLand_acts
  | mopFetch => exact execMopFetch_acts
  | mopZero => exact execMopZero_acts
  | mopClean => exact execMopClean_acts
  | mopInval => exact execMopInval_acts
  | mopCleanInval => exact execMopCleanInval_acts
  | mopReserved => exact execMopReserved_acts
  | mopDone => exact execMopDone_acts
  | mdcInjectArm => exact execMdcInjectArm_acts
  | dmaPost => exact execDmaPost_acts
  | dmaBurstIssue => exact execDmaBurstIssue_acts
  | dmaReadData => exact execDmaReadData_acts
  | dmaWriteResponse => exact execDmaWriteResponse_acts
  | dmaStop => exact execDmaStop_acts
  | dmaResume => exact execDmaResume_acts
  | dmaDoorbell => exact execDmaDoorbell_acts
  | dmaHostDescriptorFetched => exact execDmaHostDescriptorFetched_acts
  | dmaInjectArm => exact execDmaInjectArm_acts
  | sqTailDoorbell => exact execSqTailDoorbell_acts
  | cqHeadDoorbell => exact execCqHeadDoorbell_acts
  | sqEntryFetch => exact execSqEntryFetch_acts
  | cqEntryPost => exact execCqEntryPost_acts
  | coalesceTimeout => exact execCoalesceTimeout_acts
  | hostReadCompletion => exact execHostReadCompletion_acts
  | hostCompletionTimeout => exact execHostCompletionTimeout_acts
  | hostWritePoisoned => exact execHostWritePoisoned_acts
  | bar2Access => exact execBar2Access_acts
  | ccEnable => exact execCcEnable_acts
  | controllerReset => exact execControllerReset_acts
  | functionLevelReset => exact execFunctionLevelReset_acts
  | portHotReset => exact execPortHotReset_acts
  | shutdownNotify => exact execShutdownNotify_acts
  | nvmSubsystemReset => exact execNvmSubsystemReset_acts
  | linkUp => exact execLinkUp_acts
  | portDlDown => exact execPortDlDown_acts
  | linkRecoveryTimeout => exact execLinkRecoveryTimeout_acts
  | linkRetrained => exact execLinkRetrained_acts
  | miMessage => exact execMiMessage_acts
  | bmcBasicRead => exact execBmcBasicRead_acts
  | diagChallenge => exact execDiagChallenge_acts
  | diagUnlock => exact execDiagUnlock_acts
  | diagLock => exact execDiagLock_acts
  | createIoSq => exact execCreateIoSq_acts
  | createIoCq => exact execCreateIoCq_acts
  | deleteIoSq => exact execDeleteIoSq_acts
  | deleteIoCq => exact execDeleteIoCq_acts
  | invalidOpcode => exact execInvalidOpcode_acts
  | identify => exact execIdentify_acts
  | getLogErrorInfo => exact execGetLogErrorInfo_acts
  | getLogSmartHealth => exact execGetLogSmartHealth_acts
  | getLogFirmwareSlot => exact execGetLogFirmwareSlot_acts
  | getLogChangedNs => exact execGetLogChangedNs_acts
  | getLogCmdEffects => exact execGetLogCmdEffects_acts
  | getLogWpRecovery => exact execGetLogWpRecovery_acts
  | getLogFormatTables => exact execGetLogFormatTables_acts
  | getLogBufferHealth => exact execGetLogBufferHealth_acts
  | getLogHeldRuns => exact execGetLogHeldRuns_acts
  | getLogInvalid => exact execGetLogInvalid_acts
  | getFeatures => exact execGetFeatures_acts
  | setFeatureArbitration => exact execSetFeatureArbitration_acts
  | setFeaturePowerMgmt => exact execSetFeaturePowerMgmt_acts
  | setFeatureTempThreshold => exact execSetFeatureTempThreshold_acts
  | setFeatureWriteCache => exact execSetFeatureWriteCache_acts
  | setFeatureNumQueues => exact execSetFeatureNumQueues_acts
  | setFeatureIntCoalescing => exact execSetFeatureIntCoalescing_acts
  | setFeatureIntVectorCfg => exact execSetFeatureIntVectorCfg_acts
  | setFeatureAsyncEventCfg => exact execSetFeatureAsyncEventCfg_acts
  | setFeatureHostBehavior => exact execSetFeatureHostBehavior_acts
  | setFeatureOrderedQueue => exact execSetFeatureOrderedQueue_acts
  | asyncEventRequest => exact execAsyncEventRequest_acts
  | abort => exact execAbort_acts
  | contextInterrupt => exact execContextInterrupt_acts
  | namespaceLayout => exact execNamespaceLayout_acts
  | namespaceCreate => exact execNamespaceCreate_acts
  | namespaceDelete => exact execNamespaceDelete_acts
  | namespaceAttach => exact execNamespaceAttach_acts
  | namespaceDetach => exact execNamespaceDetach_acts
  | nvmRead => exact execNvmRead_acts
  | nvmWrite => exact execNvmWrite_acts
  | writeZeroes => exact execWriteZeroes_acts
  | zoneAppend => exact execZoneAppend_acts
  | nvmFlush => exact execNvmFlush_acts
  | zoneContextRequest => exact execZoneContextRequest_acts
  | journalHalfSwitch => exact execJournalHalfSwitch_acts
  | destageOrder => exact execDestageOrder_acts
  | mediaOrder t q => exact execMediaOrder_acts (_q := q)
  | zoneClose => exact execZoneClose_acts
  | zoneFinish => exact execZoneFinish_acts
  | zoneOpen => exact execZoneOpen_acts
  | zoneReset => exact execZoneReset_acts
  | zoneOffline => exact execZoneOffline_acts
  | setZoneDescExt => exact execSetZoneDescExt_acts
  | reportZones => exact execReportZones_acts
  | extendedReportZones => exact execExtendedReportZones_acts
  | controlSpaceReadCmd => exact execControlSpaceReadCmd_acts
  | controlSpaceWriteCmd => exact execControlSpaceWriteCmd_acts
  | commitCmd => exact execCommitCmd_acts
  | blockCommit => exact execBlockCommit_acts
  | domainCommit => exact execDomainCommit_acts
  | bufferDeviceStateCmd => exact execBufferDeviceStateCmd_acts
  | cryptoErase => exact execCryptoErase_acts
  | keyStateReceive => exact execKeyStateReceive_acts
  | securityProtocolList => exact execSecurityProtocolList_acts
  | zoneRecovery => exact execZoneRecovery_acts
  | zneInjectArm => exact execZneInjectArm_acts
  | ringLinkUp => exact execRingLinkUp_acts
  | ringFrameCrcFail => exact execRingFrameCrcFail_acts
  | ringFrameForward => exact execRingFrameForward_acts
  | idleFrame => exact execIdleFrame_acts
  | ackFrame => exact execAckFrame_acts
  | ackTimer => exact execAckTimer_acts
  | frameResendTimeout => exact execFrameResendTimeout_acts
  | ringPortFailed => exact execRingPortFailed_acts
  | ringPortRetrain => exact execRingPortRetrain_acts
  | joinChalFrame => exact execJoinChalFrame_acts
  | joinRespFrame => exact execJoinRespFrame_acts
  | joinConfFrame => exact execJoinConfFrame_acts
  | joinTimeout => exact execJoinTimeout_acts
  | joinBackoffExpiry => exact execJoinBackoffExpiry_acts
  | blockTagFail => exact execBlockTagFail_acts
  | helloFrame => exact execHelloFrame_acts
  | enumQuietExpiry => exact execEnumQuietExpiry_acts
  | rreqFrame => exact execRreqFrame_acts
  | rdataFrame => exact execRdataFrame_acts
  | jobStartFrame => exact execJobStartFrame_acts
  | accFrame => exact execAccFrame_acts
  | jcreditFrame => exact execJcreditFrame_acts
  | jendFrame => exact execJendFrame_acts
  | eceFold => exact execEceFold_acts
  | jobTimeout => exact execJobTimeout_acts
  | participantTimeout => exact execParticipantTimeout_acts
  | ringAdminStatus => exact execRingAdminStatus_acts
  | ringAdminSetKey => exact execRingAdminSetKey_acts
  | ringAdminPorts => exact execRingAdminPorts_acts
  | ringAdminExport => exact execRingAdminExport_acts
  | ringAdminReconstruct => exact execRingAdminReconstruct_acts
  | ringAdminRemoteRead => exact execRingAdminRemoteRead_acts
  | ringAdminWhistle => exact execRingAdminWhistle_acts
  | ringAdminInvalid => exact execRingAdminInvalid_acts
  | whistleGoWrite => exact execWhistleGoWrite_acts
  | whistleDetected => exact execWhistleDetected_acts
  | rngInjectArm => exact execRngInjectArm_acts
  | eceInjectArm => exact execEceInjectArm_acts
  | routineDispatch => exact execRoutineDispatch_acts
  | uwordWaitUntil => exact execUwordWaitUntil_acts
  | uwordWaitWhile => exact execUwordWaitWhile_acts
  | uwordBranch => exact execUwordBranch_acts
  | uwordJump => exact execUwordJump_acts
  | uwordCall => exact execUwordCall_acts
  | uwordReturn => exact execUwordReturn_acts
  | uwordMov => exact execUwordMov_acts
  | uwordAdd => exact execUwordAdd_acts
  | uwordSub => exact execUwordSub_acts
  | uwordAnd => exact execUwordAnd_acts
  | uwordOr => exact execUwordOr_acts
  | uwordXor => exact execUwordXor_acts
  | uwordShl => exact execUwordShl_acts
  | uwordShr => exact execUwordShr_acts
  | uwordCmp => exact execUwordCmp_acts
  | uwordLdc => exact execUwordLdc_acts
  | uwordStc => exact execUwordStc_acts
  | uwordMin => exact execUwordMin_acts
  | uwordMax => exact execUwordMax_acts
  | uwordSendq => exact execUwordSendq_acts
  | uwordSend => exact execUwordSend_acts
  | uwordRecv => exact execUwordRecv_acts
  | uwordCsrRd => exact execUwordCsrRd_acts
  | uwordCsrWr => exact execUwordCsrWr_acts
  | uwordLock => exact execUwordLock_acts
  | uwordCommit => exact execUwordCommit_acts
  | uwordDrop => exact execUwordDrop_acts
  | threadTimerExpiry => exact execThreadTimerExpiry_acts
  | mutexClaimWrite => exact execMutexClaimWrite_acts
  | mutexReleaseWrite => exact execMutexReleaseWrite_acts
  | flagSetWrite => exact execFlagSetWrite_acts
  | flagClearWrite => exact execFlagClearWrite_acts
  | seqInjectArm => exact execSeqInjectArm_acts
  | flashRead => exact execFlashRead_acts
  | flashProgram => exact execFlashProgram_acts
  | flashErase => exact execFlashErase_acts
  | flashSuspend => exact execFlashSuspend_acts
  | flashResume => exact execFlashResume_acts
  | flashBadOp => exact execFlashBadOp_acts
  | flashProgramVerify => exact execFlashProgramVerify_acts
  | flashEraseVerify => exact execFlashEraseVerify_acts
  | flashAutoSuspend => exact execFlashAutoSuspend_acts
  | flashAutoResume => exact execFlashAutoResume_acts
  | flashIntentScan => exact execFlashIntentScan_acts
  | flashExecStart => exact execFlashExecStart_acts
  | flashExecStop => exact execFlashExecStop_acts
  | flashExecFetch => exact execFlashExecFetch_acts
  | flcInjectArm => exact execFlcInjectArm_acts
  | imageLoad => exact execImageLoad_acts
  | firmwareImageDownload => exact execFirmwareImageDownload_acts
  | firmwareCommitCa0 => exact execFirmwareCommitCa0_acts
  | firmwareCommitCa1 => exact execFirmwareCommitCa1_acts
  | firmwareCommitCa2 => exact execFirmwareCommitCa2_acts
  | firmwareCommitOther => exact execFirmwareCommitOther_acts
  | powerMoveStep => exact execPowerMoveStep_acts
  | spindleStopTimeout => exact execSpindleStopTimeout_acts
  | headRequestRead => exact execHeadRequestRead_acts
  | headRequestWrite => exact execHeadRequestWrite_acts
  | headRelease => exact execHeadRelease_acts
  | vcoreThresholdCross => exact execVcoreThresholdCross_acts
  | padReleaseWrite => exact execPadReleaseWrite_acts
  | wakeSource => exact execWakeSource_acts
  | smbusAddressMatch => exact execSmbusAddressMatch_acts
  | powerFailSequence => exact execPowerFailSequence_acts
  | pwrInjectArm => exact execPwrInjectArm_acts
  | logEventAccept => exact execLogEventAccept_acts
  | bucketRefill => exact execBucketRefill_acts
  | logFlushBatch => exact execLogFlushBatch_acts
  | logEpochScan => exact execLogEpochScan_acts
  | logbookRead => exact execLogbookRead_acts
  | logInjectArm => exact execLogInjectArm_acts
  | kennelPowerOn => exact absurd rfl hon
  | kennelSupplySwitch => exact execKennelSupplySwitch_acts
  | corePgRise => exact execCorePgRise_acts
  | corePgLate => exact execCorePgLate_acts
  | corePgFall => exact execCorePgFall_acts
  | overTempRise => exact execOverTempRise_acts
  | overTempFall => exact execOverTempFall_acts
  | ringLinkDown => exact execRingLinkDown_acts
  | whistleEnd => exact execWhistleEnd_acts
  | perstRelease => exact execPerstRelease_acts
  | pciPowerStateWrite => exact execPciPowerStateWrite_acts
  | kennelPowerLost => exact absurd rfl hoff
  | nssrDestageLimit => exact execNssrDestageLimit_acts

/-- From `d0` to `d` the variant stays as it is, and a register map in canonical form stays in it. -/
def Canonical (d0 d : Dev) : Prop := (d0.regsOk = true → d.regsOk = true) ∧ d.v = d0.v

theorem Kept.canonical {d0 d : Dev} (h : Kept d0 d) : Canonical d0 d := ⟨h.regsOk, h.v⟩

/-- Power that comes on sets TBASE to 0 and writes two fields (R543). -/
theorem Dev.powerOn_canonical (d : Dev) : Canonical d d.powerOn := by
  have h : Kept { d with tbase := 0 } (((({ d with tbase := 0 } : Dev).setFld F.KNL_TBASE_STAT_RUNNING 1).setFld F.PWR_STAT_ON 1).modPwr fun p =>
      { p with kennel := true, coreEn := true, enAt := 0, pgAt := none, late := false, msAt := 0, xtal := true
               vid := ((({ d with tbase := 0 } : Dev).setFld F.KNL_TBASE_STAT_RUNNING 1).setFld F.PWR_STAT_ON 1).fld F.KNL_VCORE_VSET_HI }) :=
    .modPwr (.setFld (.setFld (.refl _)))
  unfold Dev.powerOn
  split
  · exact ⟨id, rfl⟩
  · exact ⟨h.regsOk, h.v⟩

/-- Power that goes leaves of the register map what `Dev.wipe` leaves, and PWR STAT (R538). -/
theorem execKennelPowerLost_canonical {s t : State} (h : execKennelPowerLost s = .next t) : Canonical s.dev t.dev := by
  obtain rfl : { s with dev := _ } = t := Host.Outcome.next.inj h
  dsimp only
  split
  · have hw : Kept s.dev (s.dev.wipe (fun _ => false) false) := .wipe (.refl _)
    have hs : Kept { s.dev.wipe (fun _ => false) false with tbase := 0, log := {} } _ :=
      .modPwr (f := fun _ => { kennel := false, coreEn := false, vid := 0, pgAt := none }) (.setFld (f := F.PWR_STAT_ON) (v := 0) (.refl _))
    exact ⟨fun h0 => hs.regsOk (hw.regsOk h0), hs.v.trans hw.v⟩
  · exact ⟨id, rfl⟩

theorem exec_canonical {i : Instr} {s t : State} (h : exec i s = .next t) : Canonical s.dev t.dev := by
  by_cases hon : i = .kennelPowerOn
  · subst hon
    obtain rfl : { s with dev := s.dev.powerOn } = t := Host.Outcome.next.inj h
    exact s.dev.powerOn_canonical
  by_cases hoff : i = .kennelPowerLost
  · subst hoff
    exact execKennelPowerLost_canonical h
  obtain ⟨k, f, he, hf⟩ := exec_acts i hon hoff
  obtain rfl : { s with dev := if s.dev.live k then f s.dev else s.dev } = t := Host.Outcome.next.inj ((he s).symm.trans h)
  exact (Kept.ite (hf _ _ (.refl _)) (.refl _)).canonical

/-- A step of time counts TBASE on; what ends with it keeps the rest. -/
theorem Dev.tick_canonical (d : Dev) : Canonical d d.tick := by
  unfold Dev.tick
  split
  · exact ⟨id, rfl⟩
  · extract_lets d1 d2 d3
    have h1 : Kept { d with tbase := d.tbase + 4 } d1 := .driveVid (.countMs (.refl _))
    have h2 : Kept { d with tbase := d.tbase + 4 } d2 := .ite (.setFld h1) h1
    have h3 : Kept { d with tbase := d.tbase + 4 } d3 := .bindAll (.drainAll (.rollGrant (.ringSettle (.drainNs h2))))
    have h4 : Kept { d with tbase := d.tbase + 4 } (if d3.hst.nssr.isSome && d3.shutdownDone then d3.nssrEnd else d3) := .ite (.nssrEnd h3) h3
    have h5 := Kept.ite (c := (!d2.live 1) = true) h2 h4
    exact ⟨h5.regsOk, h5.v⟩

/-- Settles O60: every operation of the device writes registers through `Dev.setWord` or drops whole blocks of them, which both keep the canonical form. -/
theorem stepKeepsRegistersCanonical : Obligations.StepKeepsRegistersCanonical := by
  intro s t h0 hs
  obtain ⟨hr, hv⟩ : Canonical s.dev t.dev := by
    unfold step at hs
    split at hs
    · obtain rfl : { s with dev := s.dev.tick } = t := Host.Outcome.next.inj hs
      exact s.dev.tick_canonical
    · next c rest _ => exact exec_canonical (s := { s with pending := rest }) hs
  exact ⟨hr h0, hv⟩

end Sys2Proof.Machine
end

section
/-! SUPPORT. What a plain write of a control-space word does (R13, R14), and how a host command ends: the rules that settle the register statements. -/
namespace Sys2Proof.Machine

/-! ### A plain write of a control-space word, taken apart (R13, R14) -/

/-- A write's effect on the register word itself: RW bits take the value, W1C bits written as 1 go to 0. -/
def Dev.putAcc (d : Dev) (m : Acc) (a v : Nat) : Dev :=
  if m.rw ||| m.w1c = 0 then d else d.setWord a (BitVec.ofNat 32 (((d.word a).toNat &&& (0xFFFFFFFF ^^^ (m.rw ||| (m.w1c &&& v)))) ||| (v &&& m.rw)))

/-- A write's effect on the memory-error page of a present block. -/
def Dev.clearPage (d : Dev) (b : Blk) (o v : Nat) : Dev := if blkAbsent d.v b then d else d.memPageClear b o v

/-- The event of a write that sets RES bits. -/
def Dev.resEvent (d : Dev) (b : Blk) (a v who : Nat) : Dev := if v &&& (accOf d.v a).res ≠ 0 then d.resWrite b a v who else d

/-- A located write is the event of its RES bits, then its effect on the word, on the memory-error page and on the staged set. -/
theorem Dev.regWrite_eq (d : Dev) {a : Nat} {b : Blk} {o : Nat} (h4 : a % 4 = 0) (hl : locate a = some (b, o)) (v who : Nat) :
    d.regWrite a v who =
      (let e := ((d.resEvent b a v who).putAcc (accOf d.v a) a v).clearPage b o v
       if (accOf d.v a).ws = 0 then e else e.stage b a (accOf d.v a).ws v, false) := by
  unfold Dev.regWrite
  rw [if_neg (by simpa using h4), hl]
  rfl

/-- With no WS bit at the address nothing is staged. -/
theorem Dev.regWrite_unstaged (d : Dev) {a : Nat} {b : Blk} {o : Nat} (h4 : a % 4 = 0) (hl : locate a = some (b, o)) (hw : (accOf d.v a).ws = 0) (v who : Nat) :
    (d.regWrite a v who).1 = ((d.resEvent b a v who).putAcc (accOf d.v a) a v).clearPage b o v := by
  rw [Dev.regWrite_eq d h4 hl]; exact if_pos hw

theorem Dev.regWrite_staged (d : Dev) {a : Nat} {b : Blk} {o : Nat} (h4 : a % 4 = 0) (hl : locate a = some (b, o)) (hw : (accOf d.v a).ws ≠ 0) (v who : Nat) :
    (d.regWrite a v who).1 = (((d.resEvent b a v who).putAcc (accOf d.v a) a v).clearPage b o v).stage b a (accOf d.v a).ws v := by
  rw [Dev.regWrite_eq d h4 hl]; exact if_neg hw

theorem Dev.putAcc_frame (d : Dev) (m : Acc) (a v : Nat) : d.putAcc m a v = { d with regs := (d.putAcc m a v).regs } := by
  unfold Dev.putAcc; split <;> rfl

theorem Dev.putAcc_word_ne (d : Dev) (m : Acc) {a y : Nat} (v : Nat) (hy : y ≠ a) : (d.putAcc m a v).word y = d.word y := by
  unfold Dev.putAcc; split
  · rfl
  · exact Dev.word_setWord_ne d _ hy

/-- Table 0.6, bit by bit. -/
theorem Dev.putAcc_testBit (d : Dev) (m : Acc) (a v : Nat) {i : Nat} (hi : i < 32) :
    ((d.putAcc m a v).word a).toNat.testBit i = if m.rw.testBit i then v.testBit i else (d.word a).toNat.testBit i && !(m.w1c.testBit i && v.testBit i) := by
  have h32 : (0xFFFFFFFF : Nat).testBit i = true := by
    rw [show (0xFFFFFFFF : Nat) = 2 ^ 32 - 1 by rfl, Nat.testBit_two_pow_sub_one]; simpa using hi
  unfold Dev.putAcc
  split
  · next h0 =>
    have hz : (m.rw ||| m.w1c).testBit i = false := by rw [h0]; exact Nat.zero_testBit i
    rw [Nat.testBit_or, Bool.or_eq_false_iff] at hz
    simp [hz.1, hz.2]
  · rw [Dev.word_setWord_same, BitVec.toNat_ofNat, Nat.testBit_mod_two_pow]
    simp only [hi, decide_true, Bool.true_and, Nat.testBit_or, Nat.testBit_and, Nat.testBit_xor, h32]
    cases m.rw.testBit i <;> cases m.w1c.testBit i <;> simp

theorem Dev.memPageClear_frame (d : Dev) (b : Blk) (o v : Nat) : d.memPageClear b o v = { d with mem := (d.memPageClear b o v).mem } := by
  unfold Dev.memPageClear; dsimp only
  split
  · rfl
  · split
    · rfl
    · split <;> rfl

theorem Dev.clearPage_frame (d : Dev) (b : Blk) (o v : Nat) : d.clearPage b o v = { d with mem := (d.clearPage b o v).mem } := by
  unfold Dev.clearPage; split
  · rfl
  · exact Dev.memPageClear_frame d b o v

theorem Dev.clearPage_word (d : Dev) (b : Blk) (o v y : Nat) : (d.clearPage b o v).word y = d.word y := by
  rw [Dev.clearPage_frame]; rfl

/-- Below the memory-error page a write clears nothing of it. -/
theorem Dev.clearPage_below (d : Dev) (b : Blk) {o : Nat} (v : Nat) (ho : o < 0xFE00) : d.clearPage b o v = d := by
  unfold Dev.clearPage Dev.memPageClear
  dsimp only
  rw [if_neg (show ¬o = 0xFE08 by omega), if_neg (show ¬(0xFE40 ≤ o ∧ o < 0xFF40 ∧ o % 16 = 0 ∧ 0x80000000 ≤ v) by omega)]
  simp only [ite_self]

theorem Dev.resEvent_none (d : Dev) (b : Blk) {a v : Nat} (who : Nat) (h : v &&& (accOf d.v a).res = 0) : d.resEvent b a v who = d := if_neg (by simpa using h)

theorem Dev.resEvent_frame (d : Dev) (b : Blk) (a v who : Nat) :
    d.resEvent b a v who = { d with regs := (d.resEvent b a v who).regs, log := (d.resEvent b a v who).log, lost := (d.resEvent b a v who).lost
                                    hst := (d.resEvent b a v who).hst } := by
  unfold Dev.resEvent; split
  · exact Dev.event_frame _ _ _ _ _ _ _
  · rfl

theorem Dev.resEvent_word (d : Dev) (b : Blk) (a v who : Nat) {y : Nat} (hy : y ≠ 0x0A000060) : (d.resEvent b a v who).word y = d.word y := by
  unfold Dev.resEvent; split
  · exact Dev.event_word _ _ _ _ _ _ _ hy
  · rfl

theorem Dev.stage_frame (d : Dev) (b : Blk) (a ws v : Nat) : d.stage b a ws v = { d with regs := (d.stage b a ws v).regs, staged := (d.stage b a ws v).staged } := rfl

theorem Dev.stage_staged (d : Dev) (b : Blk) (a ws v : Nat) : (d.stage b a ws v).staged = d.staged.set (fun _ => none) a (some (BitVec.ofNat 32 (v &&& ws))) := rfl

theorem Dev.stage_flag (d : Dev) (b : Blk) (a ws v : Nat) : (d.stage b a ws v).flag (fCSTAGED (if b = .ece then .rng else b)) = true :=
  Dev.flag_setFlag_same _ _ true (show 29 + 1 ≤ 32 by decide) (show 0 < 1 by decide)

/-! ### What a write does where no WS bit is -/

section
variable {d : Dev} {a : Nat} {b : Blk} {o : Nat} (h4 : a % 4 = 0) (hl : locate a = some (b, o)) (hw : (accOf d.v a).ws = 0) (v who : Nat)
include h4 hl hw

/-- Every bit acts by its access code; at LOG.INJECT the event of a RES write may first use up the armed injection. -/
theorem Dev.regWrite_testBit {i : Nat} (hi : i < 32) :
    ((d.regWrite a v who).1.word a).toNat.testBit i = if (accOf d.v a).rw.testBit i then v.testBit i else
      ((d.resEvent b a v who).word a).toNat.testBit i && !((accOf d.v a).w1c.testBit i && v.testBit i) := by
  rw [Dev.regWrite_unstaged d h4 hl hw, Dev.clearPage_word]
  exact Dev.putAcc_testBit _ _ _ _ hi

theorem Dev.regWrite_word_ne {y : Nat} (hy : y ≠ a) (hz : y ≠ 0x0A000060) : (d.regWrite a v who).1.word y = d.word y := by
  rw [Dev.regWrite_unstaged d h4 hl hw, Dev.clearPage_word, Dev.putAcc_word_ne _ _ _ hy, Dev.resEvent_word _ _ _ _ _ hz]

theorem Dev.regWrite_unstaged_frame : (d.regWrite a v who).1 =
    { d with regs := (d.regWrite a v who).1.regs, mem := (d.regWrite a v who).1.mem, log := (d.regWrite a v who).1.log, lost := (d.regWrite a v who).1.lost
             hst := (d.regWrite a v who).1.hst } := by
  rw [Dev.regWrite_unstaged d h4 hl hw, Dev.clearPage_frame, Dev.putAcc_frame, Dev.resEvent_frame]

section
variable {v} (hr : v &&& (accOf d.v a).res = 0)
include hr

theorem Dev.regWrite_quiet_word_ne {y : Nat} (hy : y ≠ a) : (d.regWrite a v who).1.word y = d.word y := by
  rw [Dev.regWrite_unstaged d h4 hl hw, Dev.clearPage_word, Dev.putAcc_word_ne _ _ _ hy, Dev.resEvent_none _ _ _ hr]

theorem Dev.regWrite_quiet_frame : (d.regWrite a v who).1 = { d with regs := (d.regWrite a v who).1.regs, mem := (d.regWrite a v who).1.mem } := by
  rw [Dev.regWrite_unstaged d h4 hl hw, Dev.resEvent_none _ _ _ hr, Dev.clearPage_frame, Dev.putAcc_frame]
end

end

/-! ### Host commands: where they begin and how they end -/

theorem Dev.host_minimal {d : Dev} (h : d.load.minimal = true) (t : Tag) (f : Dev → Dev) : d.host t false f = d.finish t stSequence := by
  unfold Dev.host; rw [h]; rfl

theorem Dev.host_loaded {d : Dev} (h : d.load.minimal = false) (t : Tag) (ok : Bool) (f : Dev → Dev) : d.host t ok f = f d := by
  unfold Dev.host; rw [h]; rfl

/-- The controller of a command in flight was reset, so that nothing is posted for it (R315). -/
def Dev.silentOf (d : Dev) (t : Tag) : Bool := match d.cmd? t with | some c => c.silent | none => false

theorem Dev.silentOf_eq_false {d : Dev} {t : Tag} (hs : ∀ c, d.cmd? t = some c → c.silent = false) : d.silentOf t = false := by
  unfold Dev.silentOf
  cases hc : d.cmd? t with
  | none => rfl
  | some c => exact hs c hc

/-- How a command ends: its record goes, an Error Information entry is posted where the status asks for one, and its completion entry is handed over (R307, R326). -/
theorem Dev.finish_eq (d : Dev) (t : Tag) (st : Status) (a b : Nat) : ∃ n l, d.finish t st a b =
    if d.silentOf t = true then { d with cmds := d.cmds.filter fun x => decide (x.tag ≠ t) }
    else (if stQuiet st = true then { d with cmds := d.cmds.filter fun x => decide (x.tag ≠ t) }
      else ({ d with cmds := d.cmds.filter fun x => decide (x.tag ≠ t) }).addError t st n l).handOver { tag := t, st := st, dw0 := a, dw1 := b } := by
  unfold Dev.finish Dev.silentOf
  cases d.cmd? t <;> exact ⟨_, _, rfl⟩

/-- A status without an Error Information entry draws no sequence number. -/
theorem Dev.finish_quiet_frame (d : Dev) (t : Tag) {st : Status} (hq : stQuiet st = true) (a b : Nat) :
    d.finish t st a b = { d with hst := (d.finish t st a b).hst, cmds := (d.finish t st a b).cmds } := by
  obtain ⟨n, l, he⟩ := d.finish_eq t st a b
  rw [he, if_pos hq]
  split <;> rfl

theorem Dev.finish_quiet_post (d : Dev) (t : Tag) {st : Status} (hq : stQuiet st = true) (a b : Nat) (hs : ∀ c, d.cmd? t = some c → c.silent = false) :
    (d.finish t st a b).hst.post = d.hst.post ++ [{ tag := t, st := st, dw0 := a, dw1 := b }] := by
  obtain ⟨n, l, he⟩ := d.finish_eq t st a b
  rw [he, if_pos hq, Dev.silentOf_eq_false hs]
  rfl

/-- A command completes with the device that its meaning makes. -/
theorem gives_of_eq {c : Instr} {s : State} {k : Nat} {f : Dev → Dev} {e : Dev} {P : Dev → Prop} (he : exec c s = s.doesIn k f) (hk : s.dev.live k = true) (hf : f s.dev = e) (hP : P e) :
    Gives c s P := State.doesIn_gives he hk (hf ▸ hP)

/-- A command whose meaning is to end with a status changes nothing else. -/
theorem gives_finish {c : Instr} {s : State} {k : Nat} {f : Dev → Dev} {t : Tag} {st : Status} (he : exec c s = s.doesIn k f) (hk : s.dev.live k = true)
    (hf : f s.dev = s.dev.finish t st) : Gives c s fun d => Ended s.dev d t st ∧ d = { s.dev with hst := d.hst, cmds := d.cmds, free := d.free } :=
  gives_of_eq he hk hf ⟨Dev.finish_ended _ _ _ _ _, Dev.finish_frame _ _ _ _ _⟩

end Sys2Proof.Machine
end

section
/-! SUPPORT. The INJECT registers, the register accesses of each requester, a layout on an absent actuator, and the state after reset. -/
namespace Sys2Proof.Machine

/-! ### INJECT registers (R13, R514) -/

/-- The address of a register without WS bits that lies below its block's memory-error page. -/
def plainReg (v : Bool) (a : Nat) : Bool :=
  a % 4 == 0 && (accOf v a).ws == 0 && match locate a with | some (_, o) => decide (o < 0xFE00) | none => false

/-- From `d0` to `d` a write of `v` to register `a` has put `v` into its RW bits and changed no other register; a RES bit that `v` sets is logged beside that. -/
structure PutOnly (d0 d : Dev) (a v : Nat) : Prop where
  value : (d.word a).toNat &&& (accOf d0.v a).rw = v &&& (accOf d0.v a).rw
  others : ∀ y, y ≠ a → y ≠ 0x0A000060 → d.word y = d0.word y
  quiet : v &&& (accOf d0.v a).res = 0 → (∀ y, y ≠ a → d.word y = d0.word y) ∧ d.log = d0.log ∧ d.lost = d0.lost ∧ d.hst = d0.hst
  frame : d = { d0 with regs := d.regs, log := d.log, lost := d.lost, hst := d.hst }

theorem Dev.regWrite_putOnly (d : Dev) {a v : Nat} (who : Nat) (hp : plainReg d.v a = true) (hv : v < 2 ^ 32) : PutOnly d (d.regWrite a v who).1 a v := by
  obtain ⟨b, o, hl, ho⟩ : ∃ b o, locate a = some (b, o) ∧ o < 0xFE00 := by
    unfold plainReg at hp
    cases hl : locate a with
    | none => simp [hl] at hp
    | some p => exact ⟨p.1, p.2, rfl, by simp [hl] at hp; exact hp.2⟩
  obtain ⟨h4, hw⟩ : a % 4 = 0 ∧ (accOf d.v a).ws = 0 := by
    unfold plainReg at hp
    simp only [Bool.and_eq_true, beq_iff_eq] at hp
    exact hp.1
  have hm : (d.regWrite a v who).1 = (d.resEvent b a v who).putAcc (accOf d.v a) a v := by
    rw [Dev.regWrite_unstaged d h4 hl hw, Dev.clearPage_below _ _ _ ho]
  refine ⟨?_, fun y => Dev.regWrite_word_ne h4 hl hw v who, fun hr => ⟨fun y => Dev.regWrite_quiet_word_ne h4 hl hw who hr, ?_⟩, ?_⟩
  · refine Nat.eq_of_testBit_eq fun i => ?_
    rw [Nat.testBit_and, Nat.testBit_and]
    by_cases hi : i < 32
    · rw [Dev.regWrite_testBit h4 hl hw v who hi]
      cases (accOf d.v a).rw.testBit i <;> simp
    · have h2 : 2 ^ 32 ≤ 2 ^ i := Nat.pow_le_pow_right (by decide) (by omega)
      rw [Nat.testBit_lt_two_pow (Nat.lt_of_lt_of_le (BitVec.isLt _) h2), Nat.testBit_lt_two_pow (Nat.lt_of_lt_of_le hv h2)]
  · rw [hm, Dev.putAcc_frame, Dev.resEvent_none _ _ _ hr]; exact ⟨rfl, rfl, rfl⟩
  · rw [hm, Dev.putAcc_frame, Dev.resEvent_frame]

theorem PutOnly.srv {d0 d : Dev} {a v : Nat} (h : PutOnly d0 d a v) : d.srv = d0.srv := by rw [h.frame]
theorem PutOnly.spn {d0 d : Dev} {a v : Nat} (h : PutOnly d0 d a v) : d.spn = d0.spn := by rw [h.frame]
theorem PutOnly.wrp {d0 d : Dev} {a v : Nat} (h : PutOnly d0 d a v) : d.wrp = d0.wrp := by rw [h.frame]

/-- A head record that a write changes is the only one that changes. -/
theorem Dev.whead_setWhead_same (d : Dev) (n : Nat) (h : WHeadS) : (d.setWhead n h).whead n = h := Tab.get_set_same _ _ _ _
theorem Dev.whead_setWhead_ne (d : Dev) {n m : Nat} (h : WHeadS) (hm : m ≠ n) : (d.setWhead n h).whead m = d.whead m := Tab.get_set_ne _ _ _ hm

/-- What the statement says of the command that writes the INJECT register at `x.2.2`. -/
def ArmsAtOnce (x : (Word → Requester → Instr) × Nat × Nat) : Prop :=
  ∀ (s : State) (v : Word) (who : Requester), s.dev.live x.2.1 = true →
    Gives (x.1 v who) s fun d =>
      (d.word x.2.2).toNat &&& (accOf s.dev.v x.2.2).rw = v.toNat &&& (accOf s.dev.v x.2.2).rw ∧
      (∀ a, a ≠ x.2.2 → a ≠ F.LOG_INJECT_ARM.a → d.word a = s.dev.word a) ∧
      (v.toNat &&& (accOf s.dev.v x.2.2).res = 0 → (∀ a, a ≠ x.2.2 → d.word a = s.dev.word a) ∧ d.log = s.dev.log ∧ d.lost = s.dev.lost ∧ d.hst = s.dev.hst) ∧
      (x.2.2 = 0x03000030 → d.srv = { s.dev.srv with injCount := 0 }) ∧ (x.2.2 ≠ 0x03000030 → d.srv = s.dev.srv) ∧
      (x.2.2 = 0x03100030 → d.spn = { s.dev.spn with injUntil := none, injRsv := 0 }) ∧ (x.2.2 ≠ 0x03100030 → d.spn = s.dev.spn) ∧
      (x.2.2 = 0x02100060 → ∀ m : Nat, (m ≠ getBits v 20 5 → d.whead m = s.dev.whead m) ∧ (d.whead m).run = (s.dev.whead m).run ∧ (d.whead m).orders = (s.dev.whead m).orders) ∧
      (x.2.2 ≠ 0x02100060 → d.wrp = s.dev.wrp) ∧
      d = { s.dev with regs := d.regs, srv := d.srv, spn := d.spn, wrp := d.wrp, log := d.log, lost := d.lost, hst := d.hst }

/-- A block whose INJECT register has no effect beside its value. -/
theorem armsAtOnce_plain {i : Word → Requester → Instr} {k a : Nat} (he : ∀ v who s, exec (i v who) s = s.doesIn k fun d => (d.regWrite a v.toNat (reqCode who)).1)
    (hp : ∀ v, plainReg v a = true) (hsrv : a ≠ 0x03000030) (hspn : a ≠ 0x03100030) (hwrp : a ≠ 0x02100060) : ArmsAtOnce (i, k, a) := by
  intro s v who hk
  have h := s.dev.regWrite_putOnly (reqCode who) (hp _) v.isLt
  exact State.doesIn_gives (he v who s) hk ⟨h.value, h.others, h.quiet, fun c => absurd c hsrv, fun _ => h.srv, fun c => absurd c hspn, fun _ => h.spn, fun c => absurd c hwrp, fun _ => h.wrp,
    by rw [h.frame]⟩

/-- SRV also restarts its count of missing wedges (R182). -/
theorem armsAtOnce_srv : ArmsAtOnce (.srvInjectArm, 3, 0x03000030) := by
  intro s v who hk
  have h := s.dev.regWrite_putOnly (a := 0x03000030) (reqCode who) (by cases s.dev.v <;> decide) v.isLt
  have he : exec (.srvInjectArm v who) s = s.doesIn 3 fun d => { (d.regWrite 0x03000030 v.toNat (reqCode who)).1 with
    srv := { (d.regWrite 0x03000030 v.toNat (reqCode who)).1.srv with injCount := 0 } } := rfl
  exact State.doesIn_gives he hk ⟨h.value, h.others, h.quiet, fun _ => by rw [h.srv], fun c => absurd rfl c, fun c => absurd c (by decide), fun _ => h.spn,
    fun c => absurd c (by decide), fun _ => h.wrp, by rw [h.frame]⟩

/-- SPN also restarts what it counts for its injections (R213). -/
theorem armsAtOnce_spn : ArmsAtOnce (.spnInjectArm, 3, 0x03100030) := by
  intro s v who hk
  have h := s.dev.regWrite_putOnly (a := 0x03100030) (reqCode who) (by cases s.dev.v <;> decide) v.isLt
  have he : exec (.spnInjectArm v who) s = s.doesIn 3 fun d => ((d.regWrite 0x03100030 v.toNat (reqCode who)).1).modSpn ({ · with injUntil := none, injRsv := 0 }) := rfl
  exact State.doesIn_gives he hk ⟨h.value, h.others, h.quiet, fun c => absurd c (by decide), fun _ => h.srv, fun _ => by unfold Dev.modSpn; rw [h.spn], fun c => absurd rfl c,
    fun c => absurd c (by decide), fun _ => h.wrp, by unfold Dev.modSpn; rw [h.frame]⟩

/-- WRP also restarts the inhibit of the head that the write names, which keeps its run and its orders (R145). -/
theorem armsAtOnce_wrp : ArmsAtOnce (.wrpInjectArm, 3, 0x02100060) := by
  intro s v who hk
  have h := s.dev.regWrite_putOnly (a := 0x02100060) (reqCode who) (by cases s.dev.v <;> decide) v.isLt
  have hw : ∀ m, (s.dev.regWrite 0x02100060 v.toNat (reqCode who)).1.whead m = s.dev.whead m := fun m => by unfold Dev.whead; rw [h.wrp]
  have he : exec (.wrpInjectArm v who) s = s.doesIn 3 fun d =>
      let e := (d.regWrite 0x02100060 v.toNat (reqCode who)).1
      if getBits v 20 5 < 20 ∧ !d.inhNow (getBits v 20 5) ∧ e.inhNow (getBits v 20 5) then
        e.setWhead (getBits v 20 5) { e.whead (getBits v 20 5) with peak := 0, logged := false } else e := rfl
  refine State.doesIn_gives he hk ?_
  dsimp only
  split
  · refine ⟨h.value, h.others, h.quiet, fun c => absurd c (by decide), fun _ => h.srv, fun c => absurd c (by decide), fun _ => h.spn, fun _ m => ?_, fun c => absurd rfl c,
      by unfold Dev.setWhead; rw [h.frame]⟩
    by_cases hm : m = getBits v 20 5
    · subst hm
      rw [Dev.whead_setWhead_same, hw]
      exact ⟨fun c => absurd rfl c, rfl, rfl⟩
    · rw [Dev.whead_setWhead_ne _ _ hm, hw]
      exact ⟨fun _ => rfl, rfl, rfl⟩
  · exact ⟨h.value, h.others, h.quiet, fun c => absurd c (by decide), fun _ => h.srv, fun c => absurd c (by decide), fun _ => h.spn, fun _ m => by rw [hw]; exact ⟨fun _ => rfl, rfl, rfl⟩,
      fun c => absurd rfl c, by rw [h.frame]⟩

/-- Settles O11: each INJECT register is plain, and what SRV, SPN and WRP do beside lies outside the registers. -/
theorem injectRegistersArmAtOnce : Obligations.InjectRegistersArmAtOnce := by
  have plain : ∀ x ∈ ([(.decInjectArm, 2, 0x02000020), (.actInjectArm, 3, 0x03200020), (.bufInjectArm, 4, 0x04000030), (.mdcInjectArm, 4, 0x04100060), (.dmaInjectArm, 1, 0x05000060),
      (.zneInjectArm, 1, 0x06100060), (.rngInjectArm, 1, 0x07000060), (.eceInjectArm, 1, 0x07100060), (.seqInjectArm, 1, 0x08000060), (.flcInjectArm, 1, 0x09000060),
      (.logInjectArm, 0, 0x0A000060), (.pwrInjectArm, 0, 0x0B000060)] : List ((Word → Requester → Instr) × Nat × Nat)), ArmsAtOnce x := by
    simp only [List.forall_mem_cons, List.not_mem_nil, false_implies, implies_true, and_true]
    and_intros <;> exact armsAtOnce_plain (fun _ _ _ => rfl) (by decide) (by decide) (by decide) (by decide)
  intro x hx
  simp only [List.mem_cons, List.not_mem_nil, or_false] at hx plain
  rcases hx with rfl | rfl | rfl | rfl | hx
  · exact plain _ (.inl rfl)
  · exact armsAtOnce_wrp
  · exact armsAtOnce_srv
  · exact armsAtOnce_spn
  · exact plain x (.inr hx)

/-! ### Control-space accesses (R11, R13) -/

theorem Dev.controlWrite_refused (d : Dev) {a : Nat} (h : a % 4 ≠ 0 ∨ locate a = none) (v who : Nat) : d.controlWrite a v who = (d, true) := by
  unfold Dev.controlWrite
  split
  · rfl
  · next h4 => rw [h.resolve_left h4]

theorem Dev.controlWrite_located (d : Dev) {a : Nat} {b : Blk} {o : Nat} (h4 : a % 4 = 0) (hl : locate a = some (b, o)) (v who : Nat) :
    d.controlWrite a v who = if d.live (blkDom b) = true then (match d.special b o v who with | some e => (e, false) | none => d.regWrite a v who) else (d, false) := by
  unfold Dev.controlWrite
  rw [if_neg (by simpa using h4), hl]
  cases h : d.live (blkDom b) <;> simp [h] <;> rfl

theorem Dev.controlWrite_off (d : Dev) {a : Nat} {b : Blk} {o : Nat} (h4 : a % 4 = 0) (hl : locate a = some (b, o)) (hd : d.live (blkDom b) = false) (v who : Nat) :
    (d.controlWrite a v who).1 = d := by rw [Dev.controlWrite_located d h4 hl, hd]; rfl

theorem Dev.controlWrite_special (d : Dev) {a v who : Nat} {b : Blk} {o : Nat} {e : Dev} (h4 : a % 4 = 0) (hl : locate a = some (b, o)) (hd : d.live (blkDom b) = true)
    (hs : d.special b o v who = some e) : (d.controlWrite a v who).1 = e := by rw [Dev.controlWrite_located d h4 hl, hd, hs]; rfl

theorem Dev.controlWrite_plain (d : Dev) {a v who : Nat} {b : Blk} {o : Nat} (h4 : a % 4 = 0) (hl : locate a = some (b, o)) (hd : d.live (blkDom b) = true)
    (hs : d.special b o v who = none) : d.controlWrite a v who = d.regWrite a v who := by rw [Dev.controlWrite_located d h4 hl, hd, hs]; rfl

theorem Dev.access_none {d : Dev} {a : Nat} (h : d.readWord a = none) : d.access a = (0, true, d) := by unfold Dev.access; rw [h]
theorem Dev.access_some {d : Dev} {a : Nat} {w : Word} (h : d.readWord a = some w) : d.access a = (w.toNat, false, d.readEffect a) := by unfold Dev.access; rw [h]

theorem Dev.readEffect_frame (d : Dev) (a : Nat) : d.readEffect a = { d with regs := (d.readEffect a).regs } := by
  unfold Dev.readEffect
  split
  · rfl
  split
  · rfl
  split <;> rfl

/-! ### REGISTER_WRITE -/

theorem exec_registerWrite (a v : Word) (who : Requester) (s : State) :
    exec (.registerWrite a v who) s = s.doesIn 0 fun d => (d.controlWrite a.toNat v.toNat (reqCode who)).1 := rfl

section
variable {s : State} {a v : Word} {who : Requester} {b : Blk} {o : Nat} (h0 : s.dev.live 0 = true) (h4 : a.toNat % 4 = 0) (hl : locate a.toNat = some (b, o))
  (hd : s.dev.live (blkDom b) = true) (hs : s.dev.special b o v.toNat (reqCode who) = none)
include h0 h4 hl hd hs

/-- A write that has no action of its own is the plain write of the word. -/
theorem gives_registerWrite_plain {P : Dev → Prop} (hP : P (s.dev.regWrite a.toNat v.toNat (reqCode who)).1) : Gives (.registerWrite a v who) s P :=
  State.doesIn_gives (exec_registerWrite a v who s) h0 (by rw [Dev.controlWrite_plain _ h4 hl hd hs]; exact hP)

/-- WS bits are staged (R14, R471). -/
theorem gives_registerWrite_staged (hw : (accOf s.dev.v a.toNat).ws ≠ 0) : Gives (.registerWrite a v who) s fun d =>
    d.staged.get (fun _ => none) a.toNat = some (BitVec.ofNat 32 (v.toNat &&& (accOf s.dev.v a.toNat).ws)) ∧
    (∀ y, y ≠ a.toNat → d.staged.get (fun _ => none) y = s.dev.staged.get (fun _ => none) y) ∧ d.flag (fCSTAGED (if b = .ece then .rng else b)) = true ∧
    d = { s.dev with regs := d.regs, mem := d.mem, staged := d.staged, log := d.log, lost := d.lost, hst := d.hst } := by
  refine gives_registerWrite_plain h0 h4 hl hd hs ?_
  rw [Dev.regWrite_staged _ h4 hl hw]
  refine ⟨?_, fun y hy => ?_, Dev.stage_flag _ _ _ _ _, ?_⟩
  · rw [Dev.stage_staged]; exact Tab.get_set_same _ _ _ _
  · rw [Dev.stage_staged, Tab.get_set_ne _ _ _ hy, Dev.clearPage_frame, Dev.putAcc_frame, Dev.resEvent_frame]
  · rw [Dev.stage_frame, Dev.clearPage_frame, Dev.putAcc_frame, Dev.resEvent_frame]
end

/-! ### The Control Space commands (R350, R470) -/

theorem exec_controlSpaceReadCmd (t : Tag) (a : Word) (s : State) : exec (.controlSpaceReadCmd t a) s =
    s.doesIn 1 fun d => d.host t false fun d => if (d.access a.toNat).2.1 then (d.access a.toNat).2.2.finish t (stOf 7 0xC0) else (d.access a.toNat).2.2.finish t stOk (d.access a.toNat).1 0 := rfl

theorem exec_controlSpaceWriteCmd (t : Tag) (a v : Word) (s : State) : exec (.controlSpaceWriteCmd t a v) s =
    s.doesIn 1 fun d => d.host t false fun d =>
      if (d.controlWrite a.toNat v.toNat (9 + t.ctrl.val)).2 then (d.controlWrite a.toNat v.toNat (9 + t.ctrl.val)).1.finish t (stOf 7 0xC0)
      else (d.controlWrite a.toNat v.toNat (9 + t.ctrl.val)).1.finish t stOk := rfl

/-- A read that R11 allows ends with Success and returns the word; it may capture the upper half of a counter (R28, R526). -/
theorem gives_controlSpaceRead {s : State} {t : Tag} {a w : Word} (h1 : s.dev.live 1 = true) (hm : s.dev.load.minimal = false) (hr : s.dev.readWord a.toNat = some w) :
    Gives (.controlSpaceReadCmd t a) s fun d => Ended s.dev d t stOk ∧ ((∀ c, s.dev.cmd? t = some c → c.silent = false) → ∃ c ∈ d.hst.post, c.tag = t ∧ c.dw0 = w.toNat) ∧
      d = { s.dev with hst := d.hst, cmds := d.cmds, regs := d.regs } := by
  refine State.doesIn_gives (exec_controlSpaceReadCmd t a s) h1 ?_
  rw [Dev.host_loaded hm, Dev.access_some hr, if_neg Bool.false_ne_true]
  have hf := Dev.finish_quiet_frame (s.dev.readEffect a.toNat) t (st := stOk) (by decide) w.toNat 0
  have he := Dev.finish_ended (s.dev.readEffect a.toNat) t stOk w.toNat 0
  have hp := Dev.finish_quiet_post (s.dev.readEffect a.toNat) t (st := stOk) (by decide) w.toNat 0
  rw [Dev.readEffect_frame] at hf he hp
  rw [Dev.readEffect_frame]
  exact ⟨he, fun hs => ⟨{ tag := t, st := stOk, dw0 := w.toNat, dw1 := 0 }, by rw [hp hs]; exact List.mem_append_right _ (List.mem_singleton.2 rfl), rfl, rfl⟩, by rw [hf]⟩

/-- Settles O39: `Dev.controlWrite` by its branches, and the write of a word bit by bit. -/
theorem registerWritesFollowAccessCodes : Obligations.RegisterWritesFollowAccessCodes := by
  refine ⟨fun s a v who h0 => ⟨fun h => ?_, fun b o h4 hl => ⟨fun hd => ?_, fun e hd hs => ?_, fun hd hs => ⟨fun hr hw => ?_, fun _ ha hw => ?_, fun hw => ?_⟩⟩⟩, fun s t a v h1 =>
    ⟨fun hm => ⟨?_, ?_⟩, fun hm => ⟨fun hr => ?_, fun w hr => gives_controlSpaceRead h1 hm hr, fun h => ?_, fun hb => ?_⟩⟩⟩
  · exact State.doesIn_gives (exec_registerWrite a v who s) h0 (by rw [Dev.controlWrite_refused _ h])
  · exact State.doesIn_gives (exec_registerWrite a v who s) h0 (Dev.controlWrite_off _ h4 hl hd _ _)
  · exact State.doesIn_gives (exec_registerWrite a v who s) h0 (Dev.controlWrite_special _ h4 hl hd hs)
  · refine gives_registerWrite_plain h0 h4 hl hd hs ⟨fun i hi => ?_, fun y => Dev.regWrite_quiet_word_ne h4 hl hw _ hr, Dev.regWrite_quiet_frame h4 hl hw _ hr⟩
    rw [Dev.regWrite_testBit h4 hl hw _ _ hi, Dev.resEvent_none _ _ _ hr]
  · refine gives_registerWrite_plain h0 h4 hl hd hs ⟨fun i hi => ?_, fun y => Dev.regWrite_word_ne h4 hl hw _ _, Dev.regWrite_unstaged_frame h4 hl hw _ _⟩
    rw [Dev.regWrite_testBit h4 hl hw _ _ hi, Dev.resEvent_word _ _ _ _ _ ha]
  · exact gives_registerWrite_staged h0 h4 hl hd hs hw
  · exact gives_finish (exec_controlSpaceReadCmd t a s) h1 (Dev.host_minimal hm _ _)
  · exact gives_finish (exec_controlSpaceWriteCmd t a v s) h1 (Dev.host_minimal hm _ _)
  · exact gives_finish (exec_controlSpaceReadCmd t a s) h1 (by rw [Dev.host_loaded hm, Dev.access_none hr]; rfl)
  · exact gives_finish (exec_controlSpaceWriteCmd t a v s) h1 (by rw [Dev.host_loaded hm, Dev.controlWrite_refused _ h]; rfl)
  · refine State.doesIn_gives (exec_controlSpaceWriteCmd t a v s) h1 ?_
    rw [Dev.host_loaded hm, hb]
    exact ⟨Dev.finish_ended _ _ _ _ _, Dev.finish_quiet_frame _ _ (by decide) _ _⟩

/-! ### Namespace Layout on an absent actuator (R4) -/

/-- An Error Information entry leaves every controller's staged layout as it is. -/
theorem Dev.addError_layout (d : Dev) (t : Tag) (st : Status) (n l : Nat) (c : Fin 2) : ((d.addError t st n l).ctrl c).layout = (d.ctrl c).layout := by
  unfold Dev.addError Dev.setCtrl
  by_cases ht : t.ctrl = 0 <;> by_cases hc : c = 0 <;> simp [Dev.ctrl, Dev.drawNat, ht, hc]

/-- Ending a command leaves every controller's staged layout as it is. -/
theorem Dev.finish_layout (d : Dev) (t : Tag) (st : Status) (a b : Nat) (c : Fin 2) : ((d.finish t st a b).ctrl c).layout = (d.ctrl c).layout := by
  have hand (e : Dev) (x : Cpl) : ((e.handOver x).ctrl c).layout = (e.ctrl c).layout := by
    unfold Dev.handOver Dev.ctrl
    split <;> rfl
  obtain ⟨n, l, he⟩ := d.finish_eq t st a b
  rw [he]
  split
  · rfl
  · rw [hand]
    split
    · rfl
    · exact Dev.addError_layout _ _ _ _ _ _

theorem Dev.layoutCheck_absent {d : Dev} {r : Region} (hv : d.v = true) (ha : r.a = 1) (w10 : Nat) : d.layoutCheck w10 r = some stInvalidField := by
  unfold Dev.layoutCheck
  rw [hv, ha]
  rfl

/-- Bit 0 of CDW10 names actuator 1. -/
theorem regionOf_a_of_testBit {w10 : Nat} (h : w10.testBit 0 = true) (w11 w12 : Nat) : (regionOf w10 w11 w12).a = 1 := by
  have h2 : w10 % 2 = 1 := by simpa [Nat.testBit_zero] using h
  simpa [regionOf, bitsAt, onesAt] using h2

theorem exec_namespaceLayout (t : Tag) (w10 w11 w12 : Word) (s : State) : exec (.namespaceLayout t w10 w11 w12) s =
    s.doesIn 1 fun d => d.host t false fun d =>
      match d.layoutCheck w10.toNat (regionOf w10.toNat w11.toNat w12.toNat) with
      | some st => d.finish t st
      | none => (d.modCtrl t.ctrl fun x => { x with layout := some (regionOf w10.toNat w11.toNat w12.toNat) }).finish t stOk (d.zonesIn (regionOf w10.toNat w11.toNat w12.toNat)) := rfl

/-- Settles O30: the check for an absent actuator is the first of a layout's. -/
theorem layoutOnAnAbsentActuatorFails : Obligations.LayoutOnAnAbsentActuatorFails := by
  intro s t w10 w11 w12 h1 hm hv hb
  have hf := s.dev.finish_frame t stInvalidField 0 0
  refine gives_of_eq (exec_namespaceLayout t w10 w11 w12 s) h1 ((Dev.host_loaded hm _ _ _).trans ?_) ⟨Dev.finish_ended _ _ _ _ _, by rw [hf], Dev.finish_layout _ _ _ _ _ _, hf⟩
  rw [Dev.layoutCheck_absent hv (regionOf_a_of_testBit hb _ _)]

/-! ### The state after reset (R13, R482, R539) -/

/-- With nothing written every control-space word reads its reset value. -/
theorem State.reset_word (a : Nat) : State.reset.dev.word a = resetWord State.reset.dev.v a := rfl

/-- Settles O57: nothing is written yet, so that each clause reads a table. -/
theorem resetLeavesTheTableValues : Obligations.ResetLeavesTheTableValues := by
  have on : State.reset.dev.fld F.PWR_STAT_ON = 0x1FF := by decide +kernel
  have live : ∀ k, k < 9 → State.reset.dev.live k = true := by
    intro k hk
    have hb : (0x1FF : Nat).testBit k = true := by
      rw [show (0x1FF : Nat) = 2 ^ 9 - 1 by rfl, Nat.testBit_two_pow_sub_one]
      exact decide_eq_true hk
    simp only [Dev.live, Dev.on, on, hb]
    simp [State.reset]
  have vset : State.reset.dev.fld F.KNL_VCORE_VSET_HI = 0x1E := by decide +kernel
  exact ⟨State.reset_word, rfl, rfl, rfl, by decide +kernel, on, live, by decide +kernel, vset, by decide +kernel, rfl, rfl, rfl, rfl⟩

end Sys2Proof.Machine
end

section
/-! SUPPORT. Host reads, links, the side band and BAR2. -/
namespace Sys2Proof.Machine

/-- An address outside HST's window. -/
def offHst (a : Nat) : Bool := Nat.blt a 0x06000000 || Nat.ble 0x06010000 a

/-- A counter other than HST's counters 5 to 8. -/
def offCount (b : Blk) (i : Nat) : Bool := Nat.blt (64 * blkKey b + i) 26629 || Nat.blt 26632 (64 * blkKey b + i)

/-- What a controller reset takes away. -/
def CtrlS.queues (x : CtrlS) : Bool × Tab (Option SqS) × Tab (Option CqS) := (x.rdy, x.sqs, x.cqs)

/-- From `d0` to `d` the work on descriptors, zones, flash and mutexes has gone on: the media blocks, HST's counts of failures and the controllers' queues stay, HST's reads and its transmit
queue only grow, a silent command stays silent, and no burst is made or lengthened. Where `q` holds HST's registers stay too. -/
structure Apart (q : Prop) (d0 d : Dev) : Prop where
  parts : d.ch = d0.ch ∧ d.wrp = d0.wrp ∧ d.srv = d0.srv ∧ d.spn = d0.spn
  words : q → ∀ a, offHst a = false → d.word a = d0.word a
  counts : ∀ i, 5 ≤ i → i ≤ 8 → d.counter .hst i = d0.counter .hst i
  reads : ∃ l, d.hst.reads = d0.hst.reads ++ l
  tx : ∃ l, d.hst.tx = d0.hst.tx ++ l
  queues : ∀ c, (d.ctrl c).queues = (d0.ctrl c).queues
  cmds : ∀ x ∈ d.cmds, ∃ y ∈ d0.cmds, y.tag = x.tag ∧ (y.silent = true → x.silent = true)
  bursts : ∀ x ∈ d.dma.bursts, ∃ y ∈ d0.dma.bursts, y.id = x.id ∧ y.n = x.n

section
variable {q : Prop} {d0 d : Dev}

theorem Apart.refl (d : Dev) : Apart q d d :=
  ⟨⟨rfl, rfl, rfl, rfl⟩, fun _ _ _ => rfl, fun _ _ _ => rfl, ⟨[], by simp⟩, ⟨[], by simp⟩, fun _ => rfl, fun x hx => ⟨x, hx, rfl, id⟩, fun x hx => ⟨x, hx, rfl, rfl⟩⟩

theorem Apart.trans {e : Dev} (h : Apart q d0 d) (g : Apart q d e) : Apart q d0 e := by
  obtain ⟨⟨h1, h2, h3, h4⟩, hw, hn, ⟨l, hl⟩, ⟨t, ht⟩, hq, hc, hb⟩ := h
  obtain ⟨⟨g1, g2, g3, g4⟩, gw, gn, ⟨m, gl⟩, ⟨u, gt⟩, gq, gc, gb⟩ := g
  refine ⟨⟨g1.trans h1, g2.trans h2, g3.trans h3, g4.trans h4⟩, fun c a ha => (gw c a ha).trans (hw c a ha), fun i h5 h8 => (gn i h5 h8).trans (hn i h5 h8), ⟨l ++ m, ?_⟩, ⟨t ++ u, ?_⟩,
    fun c => (gq c).trans (hq c), fun x hx => ?_, fun x hx => ?_⟩
  · rw [gl, hl, List.append_assoc]
  · rw [gt, ht, List.append_assoc]
  · obtain ⟨y, hy, hyt, hys⟩ := gc x hx
    obtain ⟨z, hz, hzt, hzs⟩ := hc y hy
    exact ⟨z, hz, hzt.trans hyt, fun s => hys (hzs s)⟩
  · obtain ⟨y, hy, hyt, hyn⟩ := gb x hx
    obtain ⟨z, hz, hzt, hzn⟩ := hb y hy
    exact ⟨z, hz, hzt.trans hyt, hzn.trans hyn⟩

/-- An update of the parts that the relation does not speak of. -/
theorem Apart.rest {tb st po lo bg sh ro me lg fl ld dl zn se bu sc md de la ms pw rn sq fr} (h : Apart q d0 d) :
    Apart q d0 ⟨d.v, d.regs, st, tb, po, lo, bg, d.cnt, sh, ro, me, lg, fl, ld, dl, d.hst, d.cmds, zn, se, bu, sc, md, d.dma, d.ch, de, d.wrp, d.srv, la, d.spn, ms, pw, rn, sq, fr⟩ :=
  ⟨h.parts, h.words, h.counts, h.reads, h.tx, h.queues, h.cmds, h.bursts⟩

/-- An update of HST that leaves its reads, its transmit queue and the controllers' queues alone. -/
theorem Apart.hst {x : HstS} (hr : x.reads = d.hst.reads) (ht : x.tx = d.hst.tx) (h0 : x.c0.queues = d.hst.c0.queues) (h1 : x.c1.queues = d.hst.c1.queues) (h : Apart q d0 d) :
    Apart q d0 { d with hst := x } :=
  h.trans ⟨⟨rfl, rfl, rfl, rfl⟩, fun _ _ _ => rfl, fun _ _ _ => rfl, ⟨[], by simp [hr]⟩, ⟨[], by simp [ht]⟩, fun c => by unfold Dev.ctrl; split; exacts [h0, h1], fun x hx => ⟨x, hx, rfl, id⟩,
    fun x hx => ⟨x, hx, rfl, rfl⟩⟩

/-- An update of the commands that keeps whose they are and the silent ones silent. -/
theorem Apart.cmdsTo {l : List CmdRec} (hl : ∀ x ∈ l, ∃ y ∈ d0.cmds, y.tag = x.tag ∧ (y.silent = true → x.silent = true)) (h : Apart q d0 d) : Apart q d0 { d with cmds := l } :=
  ⟨h.parts, h.words, h.counts, h.reads, h.tx, h.queues, hl, h.bursts⟩

/-- An update of the DMA engine that makes no burst and lengthens none. -/
theorem Apart.dma {m : DmaS} (hm : ∀ x ∈ m.bursts, ∃ y ∈ d.dma.bursts, y.id = x.id ∧ y.n = x.n) (h : Apart q d0 d) : Apart q d0 { d with dma := m } :=
  h.trans ⟨⟨rfl, rfl, rfl, rfl⟩, fun _ _ _ => rfl, fun _ _ _ => rfl, ⟨[], by simp⟩, ⟨[], by simp⟩, fun _ => rfl, fun x hx => ⟨x, hx, rfl, id⟩, hm⟩

/-- A command in flight was in flight. -/
theorem Apart.ofCmd {t : Tag} {c : CmdRec} (h : Apart q d0 d) (hc : d.cmd? t = some c) : ∃ y ∈ d0.cmds, y.tag = c.tag ∧ (y.silent = true → c.silent = true) :=
  h.cmds c (List.mem_of_find?_eq_some hc)

/-! ### The control flow of a definition -/

theorem Apart.ite {c : Prop} [Decidable c] {a b : Dev} (ha : Apart q d0 a) (hb : Apart q d0 b) : Apart q d0 (if c then a else b) := by
  split
  · exact ha
  · exact hb
theorem Apart.iteS {α : Type} {c : Prop} [Decidable c] {a b : α × Dev} (ha : Apart q d0 a.2) (hb : Apart q d0 b.2) : Apart q d0 (if c then a else b).2 := by
  split
  · exact ha
  · exact hb
theorem Apart.iteF {α : Type} {c : Prop} [Decidable c] {a b : Dev × α} (ha : Apart q d0 a.1) (hb : Apart q d0 b.1) : Apart q d0 (if c then a else b).1 := by
  split
  · exact ha
  · exact hb
theorem Apart.ofS {α : Type} {p : α × Dev} {a : α} (he : p = (a, d)) (h : Apart q d0 p.2) : Apart q d0 d := by subst he; exact h
theorem Apart.ofSS {α β : Type} {p : α × β × Dev} {a : α} {b : β} (he : p = (a, b, d)) (h : Apart q d0 p.2.2) : Apart q d0 d := by subst he; exact h
theorem Apart.foldlMem {α : Type} {f : Dev → α → Dev} {l : List α} (hf : ∀ d, ∀ x ∈ l, Apart q d0 d → Apart q d0 (f d x)) (h : Apart q d0 d) : Apart q d0 (l.foldl f d) := by
  induction l generalizing d with
  | nil => exact h
  | cons x l ih => exact ih (fun d y hy => hf d y (List.mem_cons_of_mem x hy)) (hf d x List.mem_cons_self h)
theorem Apart.foldl {α : Type} {f : Dev → α → Dev} {l : List α} (hf : ∀ d x, Apart q d0 d → Apart q d0 (f d x)) (h : Apart q d0 d) : Apart q d0 (l.foldl f d) :=
  .foldlMem (fun d x _ => hf d x) h

/-! ### Registers, counters, HST -/

theorem offHst_channel {x : Nat} (hx : x < 64) : offHst (0x5001004 + 0x20 * x) = true := by
  unfold offHst
  rw [Bool.or_eq_true, Nat.blt_eq]
  omega

theorem offHst_above {a o : Nat} (ha : 0x06010000 ≤ a) : offHst (a + o) = true := by
  unfold offHst
  rw [Bool.or_eq_true, Nat.ble_eq]
  omega

theorem Apart.setFld {f v} (hf : q → offHst f.a = true) (h : Apart q d0 d) : Apart q d0 (d.setFld f v) :=
  h.trans ⟨⟨rfl, rfl, rfl, rfl⟩, fun c a ha => Dev.word_setFld_ne d f v (fun e => by rw [e, hf c] at ha; cases ha), fun _ _ _ => rfl, ⟨[], by simp⟩, ⟨[], by simp⟩, fun _ => rfl,
    fun x hx => ⟨x, hx, rfl, id⟩, fun x hx => ⟨x, hx, rfl, rfl⟩⟩
theorem Apart.setFlag {f b} (hf : q → offHst f.a = true) (h : Apart q d0 d) : Apart q d0 (d.setFlag f b) := .setFld hf h
theorem Apart.incSat {f n} (hf : q → offHst f.a = true) (h : Apart q d0 d) : Apart q d0 (d.incSat f n) := .setFld hf h
theorem Apart.bump {b i n} (hb : offCount b i = true) (h : Apart q d0 d) : Apart q d0 (d.bump b i n) := by
  refine h.trans ⟨⟨rfl, rfl, rfl, rfl⟩, fun _ _ _ => rfl, fun j h5 h8 => Tab.get_set_ne _ _ _ fun e => ?_, ⟨[], by simp⟩, ⟨[], by simp⟩, fun _ => rfl, fun x hx => ⟨x, hx, rfl, id⟩,
    fun x hx => ⟨x, hx, rfl, rfl⟩⟩
  have hk : 64 * blkKey .hst = 26624 := rfl
  simp only [offCount, Bool.or_eq_true, Nat.blt_eq] at hb
  omega
theorem Apart.handOver {c} (h : Apart q d0 d) : Apart q d0 (d.handOver c) := .hst rfl rfl rfl rfl h
theorem Apart.setCtrl {c x} (hx : x.queues = (d.ctrl c).queues) (h : Apart q d0 d) : Apart q d0 (d.setCtrl c x) := by
  unfold Dev.setCtrl
  unfold Dev.ctrl at hx
  split
  · next hc => rw [if_pos hc] at hx; exact .hst rfl rfl hx rfl h
  · next hc => rw [if_neg hc] at hx; exact .hst rfl rfl rfl hx h
theorem Apart.sendTx {t} (h : Apart q d0 d) : Apart q d0 (d.sendTx t) :=
  h.trans ⟨⟨rfl, rfl, rfl, rfl⟩, fun _ _ _ => rfl, fun _ _ _ => rfl, ⟨[], by simp [Dev.sendTx]⟩, ⟨[t], rfl⟩, fun _ => rfl, fun x hx => ⟨x, hx, rfl, id⟩, fun x hx => ⟨x, hx, rfl, rfl⟩⟩
theorem Apart.hostWrite {ch addr b} (h : Apart q d0 d) : Apart q d0 (d.hostWrite ch addr b) := .bump rfl (.bump rfl (.sendTx h))
theorem Apart.hostRead {burst ofs ch port addr len} (h : Apart q d0 d) : Apart q d0 (d.hostRead burst ofs ch port addr len) :=
  .bump rfl (.bump rfl (.sendTx (h.trans ⟨⟨rfl, rfl, rfl, rfl⟩, fun _ _ _ => rfl, fun _ _ _ => rfl, ⟨_, rfl⟩, ⟨[], by simp⟩, fun _ => rfl, fun x hx => ⟨x, hx, rfl, id⟩,
    fun x hx => ⟨x, hx, rfl, rfl⟩⟩)))

/-! ### Events and errors -/

theorem Apart.raiseAen {c e} (h : Apart q d0 d) : Apart q d0 (d.raiseAen c e) := by
  unfold Dev.raiseAen
  extract_lets +onlyGivenNames _
  refine .ite h ?_
  split
  · exact .handOver (.setCtrl rfl h)
  · exact .setCtrl rfl h
theorem Apart.raiseAenAll {e} (h : Apart q d0 d) : Apart q d0 (d.raiseAenAll e) := .foldl (fun _ _ h1 => .ite (.raiseAen h1) h1) h
theorem Apart.critWarn {bits info} (h : Apart q d0 d) : Apart q d0 (d.critWarn bits info) := .raiseAenAll (.rest h)
theorem Apart.loseEvent {b inj} (h : Apart q d0 d) : Apart q d0 (d.loseEvent b inj) := h.rest
theorem Apart.pushEvent {e} (h : Apart q d0 d) : Apart q d0 (d.pushEvent e) := h.rest
theorem Apart.reportLost {b} (h : Apart q d0 d) : Apart q d0 (d.reportLost b) := .ite (.pushEvent (.rest h)) h
theorem Apart.event {b n p1 p2 p3 src} (h : Apart q d0 d) : Apart q d0 (d.event b n p1 p2 p3 src) :=
  .ite (.loseEvent (.setFlag (fun _ => rfl) (.ite h (.critWarn h)))) (.ite (.pushEvent (.reportLost (.ite h (.critWarn h)))) (.loseEvent (.reportLost (.ite h (.critWarn h)))))
theorem Apart.memError {b m e} (h : Apart q d0 d) : Apart q d0 (d.memError b m e) := h.rest
theorem Apart.flagFault {b cls bit} (hb : q → offHst (blkBase b + 0xFD00) = true) (h : Apart q d0 d) : Apart q d0 (d.flagFault b cls bit) :=
  .incSat hb (.ite (.setFld hb (.setFld hb h)) (.setFld hb h))
theorem Apart.sram {b m r inj} (hb : q → offHst (blkBase b + 0xFD00) = true) (h : Apart q d0 d) : Apart q d0 (d.sram b m r inj) := by
  unfold Dev.sram
  split
  · exact h
  · exact .event (.memError (.ite (.bump rfl h) h))
  · exact .event (.flagFault hb (.memError (.ite (.bump rfl h) h)))

/-! ### Commands -/

theorem Apart.putCmd {c} (hc : ∃ y ∈ d0.cmds, y.tag = c.tag ∧ (y.silent = true → c.silent = true)) (h : Apart q d0 d) : Apart q d0 (d.putCmd c) := by
  refine h.cmdsTo fun x hx => ?_
  rcases List.mem_append.1 hx with hx | hx
  · exact h.cmds x (List.mem_filter.1 hx).1
  · rw [List.mem_singleton.1 hx]; exact hc
theorem Apart.dropCmds {p : CmdRec → Bool} (h : Apart q d0 d) : Apart q d0 { d with cmds := d.cmds.filter p } := h.cmdsTo fun x hx => h.cmds x (List.mem_filter.1 hx).1
theorem Apart.modCmd {t f} (hf : ∀ c : CmdRec, (f c).tag = c.tag ∧ (f c).silent = c.silent) (h : Apart q d0 d) : Apart q d0 (d.modCmd t f) := by
  refine h.cmdsTo fun x hx => ?_
  obtain ⟨y, hy, rfl⟩ := List.mem_map.1 hx
  obtain ⟨z, hz, ht, hs⟩ := h.cmds y hy
  split
  · exact ⟨z, hz, by rw [(hf y).1, ht], fun s => by rw [(hf y).2, hs s]⟩
  · exact ⟨z, hz, ht, hs⟩
theorem Apart.drawNat (h : Apart q d0 d) : Apart q d0 (d.drawNat).2 := h.rest
theorem Apart.addError {t st nsid lba} (h : Apart q d0 d) : Apart q d0 (d.addError t st nsid lba) := .setCtrl rfl (.drawNat h)
theorem Apart.finish {t st dw0 dw1} (h : Apart q d0 d) : Apart q d0 (d.finish t st dw0 dw1) := .ite (.dropCmds h) (.handOver (.ite (.dropCmds h) (.addError (.dropCmds h))))
theorem Apart.dropWork {t} (h : Apart q d0 d) : Apart q d0 (d.dropWork t) := h.rest
theorem Apart.forget {t} (h : Apart q d0 d) : Apart q d0 (d.forget t) := .dropCmds (.dropWork h)

/-! ### Flash -/

theorem Apart.modZne {f} (h : Apart q d0 d) : Apart q d0 (d.modZne f) := h.rest
theorem Apart.mapCache {p f} (h : Apart q d0 d) : Apart q d0 (d.mapCache p f) := .modZne h
theorem Apart.setFword {word w} (h : Apart q d0 d) : Apart q d0 (d.setFword word w) := h.rest
theorem Apart.programWord {word data slot} (h : Apart q d0 d) : Apart q d0 (d.programWord word data slot).1 :=
  .iteF (.bump rfl (.bump rfl (.setFword h))) (.iteF (.event h) (.bump rfl (.event h)))
theorem Apart.jput {r} (h : Apart q d0 d) : Apart q d0 (d.jput r) := .bump rfl (.modZne (.programWord h))
theorem Apart.intentWrite {b ty sector seq} (h : Apart q d0 d) : Apart q d0 (d.intentWrite b ty sector seq) := .ite (.rest (.setFword h)) (.rest (.setFword h))
theorem Apart.eraseWords {x} (h : Apart q d0 d) : Apart q d0 (d.eraseWords x) := h.rest
theorem Apart.slotEnd {slot st pulses} (h : Apart q d0 d) : Apart q d0 (d.slotEnd slot st pulses) :=
  have ho : q → offHst (0x9000108 + 0x40 * slot) = true := fun _ => offHst_above (by decide)
  .ite h (.setFld ho (.setFld ho (.setFld ho (.setFld ho h))))
theorem Apart.flashRefuse {slot st word op} (h : Apart q d0 d) : Apart q d0 (d.flashRefuse slot st word op) := .bump rfl (.event (.slotEnd h))
theorem Apart.tearWords {x} (h : Apart q d0 d) : Apart q d0 (d.tearWords x) := h.rest
theorem Apart.flcStat (h : Apart q d0 d) : Apart q d0 d.flcStat := .setFld (fun _ => rfl) (.setFld (fun _ => rfl) h)
theorem Apart.setBank {k b} (h : Apart q d0 d) : Apart q d0 (d.setBank k b) := .ite (.rest h) (.rest h)
theorem Apart.startOp {o} (h : Apart q d0 d) : Apart q d0 (d.startOp o) :=
  .ite (.flashRefuse h) (.ite (.flashRefuse h) (.ite (.flcStat (.bump rfl (.setBank (.tearWords (.intentWrite (.rest h)))))) (.ite (.bump rfl (.setBank h)) (.event (.slotEnd h)))))
theorem Apart.queueOp {o} (h : Apart q d0 d) : Apart q d0 (d.queueOp o) := .ite (.startOp h) (.setBank h)
theorem Apart.intentRollover {b} (h : Apart q d0 d) : Apart q d0 (d.intentRollover b) := .ite h (.queueOp (.ite (.rest h) (.rest h)))
theorem Apart.eraseSector {x} (h : Apart q d0 d) : Apart q d0 (d.eraseSector x) :=
  have hr {st} : Apart q d0 ((d.event .flc 0x04 st (x * 2048) 2 0xFF).bump .flc 9) := .bump rfl (.event h)
  .ite hr (.ite hr (.ite hr (.intentRollover (.bump rfl (.bump rfl (.intentWrite (.eraseWords (.intentWrite (.rest h)))))))))

/-! ### Zones -/

theorem Apart.jswitch (h : Apart q d0 d) : Apart q d0 d.jswitch := .foldl (fun _ _ h3 => .eraseSector h3) (.foldl (fun _ _ h2 => .jput h2) (.modZne h))
theorem Apart.jwrite {r} (h : Apart q d0 d) : Apart q d0 (d.jwrite r) := .jput (.ite (.jswitch h) h)
theorem Apart.setZctx {i c} (h : Apart q d0 d) : Apart q d0 (d.setZctx i c) :=
  have h1 {f} : Apart q d0 ((d.modZne f).setFld F.ZNE_STAT_ACTIVE (d.modZne f).activeZones.length) := .setFld (fun _ => rfl) (.modZne h)
  .ite (.sram (fun _ => rfl) (.setFlag (fun _ => rfl) h1)) h1
theorem Apart.syncZone {n z} (h : Apart q d0 d) : Apart q d0 (d.syncZone n z) := .setZctx h
theorem Apart.dropCache {p} (h : Apart q d0 d) : Apart q d0 (d.dropCache p).2.2 := by
  dsimp only [Dev.dropCache]
  exact .modZne h
theorem Apart.newGen (h : Apart q d0 d) : Apart q d0 (d.newGen).2 := .iteS (.event (.setFld (fun _ => rfl) h)) (.setFld (fun _ => rfl) h)
theorem Apart.resetZone {n z} (h : Apart q d0 d) : Apart q d0 (d.resetZone n z) := by
  unfold Dev.resetZone
  extract_lets +onlyGivenNames _ _
  refine .ite h ?_
  split
  next d1 he =>
  have h1 : Apart q d0 d1 := .ofSS he (.dropCache h)
  exact .ite (.bump rfl (.jwrite (.setZctx (.newGen h1)))) (.event (.bump rfl (.jwrite (.setZctx (.newGen h1)))))
theorem Apart.finishZone {n z} (h : Apart q d0 d) : Apart q d0 (d.finishZone n z) := .ite h (.setZctx (.bump rfl (.jwrite (.ite (.jwrite h) h))))
theorem Apart.zoneAct {c n zs p f} (hf : ∀ e y1, Apart q d0 e → Apart q d0 (f e y1)) (h : Apart q d0 d) : Apart q d0 (d.zoneAct c n zs p f) := by
  unfold Dev.zoneAct
  exact .ite (.finish (.foldl hf h)) (.modCmd (fun _ => ⟨rfl, rfl⟩) h)
theorem Apart.needMet {c} (h : Apart q d0 d) : Apart q d0 (d.needMet c) := by
  unfold Dev.needMet
  split
  · split
    · exact .zoneAct (fun _ _ h1 => .resetZone h1) h
    · exact .finish h
  · split
    · exact .ite (.finish h) (.zoneAct (fun _ _ h1 => .finishZone h1) h)
    · exact .finish h
  · exact .finish h
theorem Apart.noteSector {key arrived} (h : Apart q d0 d) : Apart q d0 (d.noteSector key arrived) := by
  unfold Dev.noteSector
  extract_lets +onlyGivenNames _ _
  refine .foldl (fun _ _ h1 => ?_) h
  split
  · next hc =>
    have hy := h1.ofCmd hc
    exact .ite (.needMet (.putCmd hy h1)) (.putCmd hy h1)
  · exact h1
theorem Apart.linesArrived {c first n} (h : Apart q d0 d) : Apart q d0 (d.linesArrived c first n) := by
  unfold Dev.linesArrived
  extract_lets +onlyGivenNames _ _ d1 d2
  have h1 : Apart q d0 d1 := .foldl (fun _ _ h1 => .mapCache h1) h
  have h2 : Apart q d0 d2 := by
    unfold d2
    split
    · exact .syncZone h1
    · exact h1
  refine .foldl (fun _ _ h3 => ?_) h2
  split
  · exact .ite (.noteSector h3) h3
  · exact h3
theorem Apart.zeroRest {c} (h : Apart q d0 d) : Apart q d0 (d.zeroRest c).2 := by
  unfold Dev.zeroRest
  extract_lets +onlyGivenNames _ _ d1 d2
  have h1 : Apart q d0 d1 := .mapCache h
  have h2 : Apart q d0 d2 := by
    unfold d2
    split
    · exact .syncZone h1
    · exact h1
  exact .foldl (fun _ _ h3 => .noteSector h3) h2

/-! ### Descriptors -/

theorem Apart.cmdCheck {t} (h : Apart q d0 d) : Apart q d0 (d.cmdCheck t) := by
  unfold Dev.cmdCheck
  split
  · exact h
  next c hc =>
  have hy := h.ofCmd hc
  have hp : Apart q d0 (d.putCmd { c with committed := true }) := .putCmd hy h
  refine .ite h ?_
  split
  · exact .finish h
  split
  case h_1 => exact .ite (.finish h) h
  case h_5 => exact h
  all_goals
    split
    · exact .finish (.zeroRest h)
    · exact .ite (.finish hp) (.ite (.modCmd (fun _ => ⟨rfl, rfl⟩) hp) (.finish hp))
theorem Apart.cmdReport {t first st done} (h : Apart q d0 d) : Apart q d0 (d.cmdReport t first st done) := by
  unfold Dev.cmdReport
  split
  · exact h
  · extract_lets +onlyGivenNames _ _ d1
    have h1 : Apart q d0 d1 := by
      unfold d1
      split
      · exact .linesArrived h
      · exact .linesArrived h
      · exact .rest h
      · exact h
    exact .cmdCheck (.modCmd (fun _ => ⟨rfl, rfl⟩) h1)
/-- A change of the DMA engine's other parts. -/
theorem Apart.modDma {f} (hf : (f d.dma).bursts = d.dma.bursts) (h : Apart q d0 d) : Apart q d0 (d.modDma f) := .dma (fun x hx => ⟨x, hf ▸ hx, rfl, rfl⟩) h
/-- A change of bursts that keeps their numbers and lengths. -/
theorem Apart.mapBursts {g : Burst → Burst} (hg : ∀ b, (g b).id = b.id ∧ (g b).n = b.n) (h : Apart q d0 d) : Apart q d0 (d.modDma fun m => { m with bursts := m.bursts.map g }) := by
  refine .dma (fun x hx => ?_) h
  obtain ⟨y, hy, rfl⟩ := List.mem_map.1 hx
  exact ⟨y, hy, (hg y).1.symm, (hg y).2.symm⟩
theorem Apart.dmaReport {seq x c status done idx} (h : Apart q d0 d) : Apart q d0 (d.dmaReport seq x c status done idx) := by
  unfold Dev.dmaReport
  extract_lets +onlyGivenNames d1
  have h1 : Apart q d0 d1 := .modDma rfl h
  split
  · exact .cmdReport h1
  · exact h1
theorem Apart.setSlotDesc {x i c} (h : Apart q d0 d) : Apart q d0 (d.setSlotDesc x i c) := .modDma rfl h
theorem Apart.bufAsk {r} (h : Apart q d0 d) : Apart q d0 (d.bufAsk r) := .ite (.rest h) (.rest h)
theorem Apart.freeStage {b} (h : Apart q d0 d) : Apart q d0 (d.freeStage b) := by
  unfold Dev.freeStage
  refine .dma (fun x hx => ⟨x, (List.mem_filter.1 hx).1, rfl, rfl⟩) (.setFld (fun _ => ?_) h)
  unfold Dev.stageUsed
  split <;> rfl

section
variable {x : Nat} (hx : q → x < 64)
include hx

theorem Apart.setDch {c} (h : Apart q d0 d) : Apart q d0 (d.setDch x c) := .setFlag (fun c => offHst_channel (hx c)) (.modDma rfl h)
theorem Apart.modRunD {idx f} (h : Apart q d0 d) : Apart q d0 (d.modRunD x idx f) := .setDch hx h
theorem Apart.setHalted {b} (h : Apart q d0 d) : Apart q d0 (d.setHalted x b) :=
  .setFld (fun _ => by dsimp only; split <;> rfl) (.setFlag (fun c => offHst_channel (hx c)) h)
theorem Apart.endDesc {c idx status done inj} (h : Apart q d0 d) : Apart q d0 (d.endDesc x c idx status done inj) := by
  unfold Dev.endDesc
  extract_lets +onlyGivenNames _ d1 d2 _ d3
  have hc (c : q) : offHst (0x5001004 + 0x20 * x) = true := offHst_channel (hx c)
  have h1 : Apart q d0 d1 := .setFld hc (.setFld hc h)
  have h2 : Apart q d0 d2 := .bump (by split; · rfl
                                       · split <;> rfl) h1
  have h3 : Apart q d0 d3 := .ite (.event (.setHalted hx h2)) h2
  exact .ite (.dmaReport (.setSlotDesc h3)) (.ite (.sendTx (.hostWrite h3)) (.hostWrite h3))
theorem Apart.abandonRing {n} (h : Apart q d0 d) : Apart q d0 (d.abandonRing x n) := by
  induction n generalizing d with
  | zero => exact h
  | succ n ih =>
    unfold Dev.abandonRing
    exact .ite (ih (.endDesc hx h)) h
theorem Apart.fetchDesc (h : Apart q d0 d) : Apart q d0 (d.fetchDesc x) := .ite (.setDch hx h) (.ite h (.hostRead (.setDch hx h)))
theorem Apart.settleDma {n} (h : Apart q d0 d) : Apart q d0 (d.settleDma x n) := by
  induction n generalizing d with
  | zero => exact h
  | succ n ih =>
    unfold Dev.settleDma
    extract_lets +onlyGivenNames _
    split
    · exact .ite (.setDch hx (.setHalted hx (.abandonRing hx h))) (.ite (.fetchDesc hx h) h)
    · exact .ite (ih (.endDesc hx (.setDch hx h))) h
theorem Apart.settleCh (h : Apart q d0 d) : Apart q d0 (d.settleCh x) := .settleDma hx h
theorem Apart.descError {idx status k inj} (h : Apart q d0 d) : Apart q d0 (d.descError x idx status k inj) :=
  .settleCh hx (.mapBursts (fun b => by dsimp only; split <;> exact ⟨rfl, rfl⟩) (.modRunD hx h))
theorem Apart.dmaStop (h : Apart q d0 d) : Apart q d0 (d.dmaStop x) := .settleCh hx (.setDch hx h)
end

theorem Apart.sendBurst {r b data} (hx : q → b.ch < 64) (h : Apart q d0 d) : Apart q d0 (d.sendBurst r b data) :=
  have h1 {f} : Apart q d0 ((d.modDma fun m => { m with bursts := m.bursts.map fun q => if q.id = b.id then { q with sent := true, parts := [] } else q }).modRunD b.ch b.idx f) :=
    .modRunD hx (.mapBursts (fun b => by split <;> exact ⟨rfl, rfl⟩) h)
  .ite (.foldl (fun _ _ h4 => .hostWrite h4) (.bump rfl h1)) (.bufAsk (.bump rfl h1))
theorem Apart.abandonDescs {t} (h : Apart q d0 d) : Apart q d0 (d.abandonDescs t) :=
  .foldlMem (fun _ _ hx h2 =>
    have hc : q → _ < 64 := fun _ => Nat.lt_trans (List.mem_range.1 hx) (by decide)
    .ite (.settleCh hc (.setDch hc h2)) h2) (.modDma rfl h)
theorem Apart.abandon {c} (h : Apart q d0 d) : Apart q d0 (d.abandon c) := by
  unfold Dev.abandon
  extract_lets +onlyGivenNames d1
  have h1 : Apart q d0 d1 := .abandonDescs h
  split
  case h_4 => exact h1
  all_goals
    refine .ite h1 ?_
    split
    next he =>
    have h2 := Apart.ofS he (.zeroRest h1)
    split
    · exact .event (.bump rfl h2)
    · exact h2

/-! ### Mutexes, the diagnostic lock, votes -/

theorem Apart.modSeq {f} (h : Apart q d0 d) : Apart q d0 (d.modSeq f) := h.rest
theorem Apart.showMutex {m code} (h : Apart q d0 d) : Apart q d0 (d.showMutex m code) :=
  have ho : q → offHst (0x8000080 + 0x4 * m) = true := fun _ => offHst_above (by decide)
  .setFld ho (.setFlag ho h)
theorem Apart.setThread {s t x} (h : Apart q d0 d) : Apart q d0 (d.setThread s t x) := .modSeq h
theorem Apart.giveMutex {k} (h : Apart q d0 d) : Apart q d0 (d.giveMutex k) := by
  unfold Dev.giveMutex
  extract_lets +onlyGivenNames d1
  have h1 : Apart q d0 d1 := .showMutex (.modSeq h)
  split
  · exact .setThread h1
  · exact h1
theorem Apart.grantMutex {m from_} (h : Apart q d0 d) : Apart q d0 (d.grantMutex m from_) := by
  unfold Dev.grantMutex
  refine .ite h ?_
  split
  · split
    · exact .giveMutex h
    · exact h
  · exact h
theorem Apart.releaseMutex {m code} (h : Apart q d0 d) : Apart q d0 (d.releaseMutex m code) := .ite (.grantMutex (.showMutex (.modSeq h))) h
theorem Apart.dropMutexes {c} (h : Apart q d0 d) : Apart q d0 (d.dropMutexes c) := .foldl (fun _ _ h2 => .releaseMutex h2) (.modSeq h)
theorem Apart.closeDiag (h : Apart q d0 d) : Apart q d0 d.closeDiag :=
  .ite h (.event (.foldlMem (fun _ _ hx h2 => .ite (.dmaStop (fun _ => by have := List.mem_range.1 hx; omega) h2) h2) (.setFld (fun _ => rfl) (.hst rfl rfl rfl rfl h))))
theorem Apart.modPwr {f} (h : Apart q d0 d) : Apart q d0 (d.modPwr f) := h.rest
theorem Apart.showVotes (h : Apart q d0 d) : Apart q d0 d.showVotes := .setFld (fun _ => rfl) (.setFld (fun _ => rfl) (.setFld (fun _ => rfl) h))
theorem Apart.voted {old} (h : Apart q d0 d) : Apart q d0 (d.voted old) := .showVotes (.ite h (.modPwr h))
end

/-! ### HST's events, controllers and counters -/

/-- An event that is not critical leaves HST alone. -/
theorem Dev.event_hst (d : Dev) {b : Blk} {n : Nat} (hn : critOf (blkCls b * 256 + n) = 0) (p1 p2 p3 src : Nat) : (d.event b n p1 p2 p3 src).hst = d.hst := by
  unfold Dev.event
  dsimp only
  rw [if_pos hn]
  split
  · rfl
  split
  · exact Dev.reportLost_hst _ _
  · exact Dev.reportLost_hst _ _

theorem Dev.event_quiet_frame (d : Dev) {b : Blk} {n : Nat} (hn : critOf (blkCls b * 256 + n) = 0) (p1 p2 p3 src : Nat) :
    d.event b n p1 p2 p3 src = { d with regs := (d.event b n p1 p2 p3 src).regs, log := (d.event b n p1 p2 p3 src).log, lost := (d.event b n p1 p2 p3 src).lost } := by
  have h := Dev.event_frame d b n p1 p2 p3 src
  rw [Dev.event_hst d hn] at h
  exact h

theorem Dev.ctrl_modCtrl (d : Dev) (c : Fin 2) (f : CtrlS → CtrlS) : (d.modCtrl c f).ctrl c = f (d.ctrl c) := by
  unfold Dev.modCtrl Dev.setCtrl Dev.ctrl
  by_cases hc : c = 0
  · rw [if_pos hc, if_pos hc, if_pos hc]
  · rw [if_neg hc, if_neg hc, if_neg hc]

theorem Dev.modCtrl_frame (d : Dev) (c : Fin 2) (f : CtrlS → CtrlS) : d.modCtrl c f = { d with hst := (d.modCtrl c f).hst } := by
  unfold Dev.modCtrl Dev.setCtrl; split <;> rfl

theorem Dev.voted_frame (d old : Dev) : d.voted old = { d with regs := (d.voted old).regs, pwr := (d.voted old).pwr } := by
  unfold Dev.voted; dsimp only; split <;> rfl

theorem Dev.counter_bump_same (d : Dev) (b : Blk) (i : Nat) : (d.bump b i).counter b i = d.counter b i + 1 := Tab.get_set_same _ _ _ _

/-- A field written beside another of one word. -/
theorem Dev.fld_setFld_beside (d : Dev) (f g : RF) (v : Nat) (ha : g.a = f.a)
    (h : ((Nat.ble (f.lo + f.n) g.lo || Nat.ble (g.lo + g.n) f.lo) && Nat.ble (g.lo + g.n) 32) = true) : (d.setFld f v).fld g = d.fld g := by
  rw [Bool.and_eq_true, Bool.or_eq_true, Nat.ble_eq, Nat.ble_eq, Nat.ble_eq] at h
  exact Dev.fld_setFld_disjoint d f g v ha h.1 h.2

/-! ### Data of a burst (R286, R288) -/

/-- From `d0` to `d` HST's counts of failures stay, and its reads and its transmit queue only grow. -/
structure HstGrows (d0 d : Dev) : Prop where
  counts : ∀ i, 5 ≤ i → i ≤ 8 → d.counter .hst i = d0.counter .hst i
  reads : ∃ l, d.hst.reads = d0.hst.reads ++ l
  tx : ∃ l, d.hst.tx = d0.hst.tx ++ l

theorem Apart.grows {q : Prop} {d0 d : Dev} (h : Apart q d0 d) : HstGrows d0 d := ⟨h.counts, h.reads, h.tx⟩

theorem Apart.deliver {q : Prop} {d0 d : Dev} {x n : Nat} (hx : q → x < 64) (h : Apart q d0 d) : Apart q d0 (d.deliver x n) := by
  induction n generalizing d with
  | zero => exact h
  | succ n ih =>
    unfold Dev.deliver
    split
    · exact h
    next b hb =>
    have hc : b.ch = x := by
      have := List.find?_some hb
      simp only [Bool.and_eq_true, beq_iff_eq] at this
      exact this.1.1
    split
    · exact .ite (ih (.sendBurst (fun c => hc ▸ hx c) h)) h
    · exact h

theorem Dev.hostWrites_dma {α : Type} (l : List α) (x : Nat) (a : α → Nat) (b : α → Bytes) (d : Dev) : (l.foldl (fun (d : Dev) p => d.hostWrite x (a p) (b p)) d).dma = d.dma := by
  induction l generalizing d with
  | nil => rfl
  | cons p l ih => exact ih _

theorem Dev.bufAsk_dma (d : Dev) (r : BufReq) : (d.bufAsk r).dma = d.dma := by unfold Dev.bufAsk; split <;> rfl

/-- Sending a burst marks it sent and takes its data. -/
theorem Dev.sendBurst_bursts (d : Dev) (r : DRun) (b : Burst) (data : Bytes) :
    (d.sendBurst r b data).dma.bursts = d.dma.bursts.map fun x => if x.id = b.id then { x with sent := true, parts := [] } else x := by
  unfold Dev.sendBurst
  dsimp only
  split
  · rw [Dev.hostWrites_dma]; rfl
  · rw [Dev.bufAsk_dma]; rfl

/-- Burst `k` has been sent, or holds the parts `ps`. -/
def Dev.staged? (d : Dev) (k : Nat) (ps : List (Nat × Bytes)) : Prop := ∃ x ∈ d.dma.bursts, x.id = k ∧ (x.sent = true ∨ x.parts = ps)

theorem Dev.staged?_deliver {d : Dev} {k : Nat} {ps : List (Nat × Bytes)} (x n : Nat) (h : d.staged? k ps) : (d.deliver x n).staged? k ps := by
  induction n generalizing d with
  | zero => exact h
  | succ n ih =>
    unfold Dev.deliver
    split
    · exact h
    split
    · next b _ _ r _ _ =>
      split
      · refine ih ?_
        obtain ⟨y, hy, hk, hp⟩ := h
        refine ⟨_, by rw [Dev.sendBurst_bursts]; exact List.mem_map_of_mem hy, ?_⟩
        split
        · exact ⟨hk, .inl rfl⟩
        · exact ⟨hk, hp⟩
      · exact h
    · exact h

section
variable {d : Dev} {k : Nat} {y : Burst} (hy : (d.dma.bursts.find? fun x => decide (x.id = k)) = some y)
include hy

theorem Dev.stageData_dead (hd : y.dead = true) (ofs : Nat) (data : Bytes) (bad : Option (Nat × Nat)) (inj : Bool) : d.stageData k ofs data bad inj = d.freeStage y := by
  unfold Dev.stageData
  rw [hy]
  exact if_pos hd

theorem Dev.id_of_find : y.id = k := by simpa using List.find?_some hy

/-- Freeing a burst's staging leaves no burst of its number. -/
theorem Dev.freeStage_gone : ∀ x ∈ (d.freeStage y).dma.bursts, x.id ≠ k := by
  intro x hx
  have h : x ∈ d.dma.bursts.filter fun x => decide (x.id ≠ y.id) := hx
  have := (List.mem_filter.1 h).2
  rw [Dev.id_of_find hy] at this
  simpa using this

/-- Data without an error is a part of its burst, which may be sent at once. -/
theorem Dev.stageData_whole (hd : y.dead = false) (ofs : Nat) (data : Bytes) (inj : Bool) : (d.stageData k ofs data none inj).staged? k (y.parts ++ [(ofs, data)]) := by
  unfold Dev.stageData
  rw [hy]
  dsimp only
  rw [if_neg (by simp [hd])]
  refine Dev.staged?_deliver _ _ ⟨_, List.mem_map_of_mem (List.mem_of_find?_eq_some hy), ?_⟩
  have hk := Dev.id_of_find hy
  rw [if_pos hk]
  exact ⟨hk, .inr rfl⟩

/-- Data in error from line `n` on cuts its burst there. -/
theorem Dev.stageData_cut (hd : y.dead = false) (ofs st n : Nat) (data : Bytes) (inj : Bool) : ∀ x ∈ (d.stageData k ofs data (some (st, n)) inj).dma.bursts, x.id = k → x.n ≤ n := by
  unfold Dev.stageData
  rw [hy]
  dsimp only
  rw [if_neg (by simp [hd])]
  split
  · intro x hx hk
    have ha : Apart False (d.freeStage y) ((d.freeStage y).descError y.ch y.idx st y.first inj) := .descError False.elim (.refl _)
    obtain ⟨z, hz, hzk, -⟩ := ha.bursts x hx
    exact absurd (hzk.trans hk) (Dev.freeStage_gone hy z hz)
  · intro x hx hk
    obtain ⟨z, hz, hzk, hzn⟩ := (Apart.deliver False.elim (Apart.descError False.elim (Apart.refl (q := False) _))).bursts x hx
    obtain ⟨w, hw, rfl⟩ := List.mem_map.1 hz
    have hwk : w.id = k := by
      rw [hk] at hzk
      split at hzk
      · assumption
      · exact hzk
    rw [if_pos hwk] at hzn
    exact hzn ▸ Nat.min_le_left _ _
end

theorem Dev.stageData_none {d : Dev} {k : Nat} (hy : (d.dma.bursts.find? fun x => decide (x.id = k)) = none) (ofs : Nat) (data : Bytes) (bad : Option (Nat × Nat)) (inj : Bool) :
    d.stageData k ofs data bad inj = d := by unfold Dev.stageData; rw [hy]

theorem Dev.stageData_grows (d : Dev) (k ofs : Nat) (data : Bytes) (bad : Option (Nat × Nat)) (inj : Bool) : HstGrows d (d.stageData k ofs data bad inj) := by
  have hm (f : DmaS → DmaS) (e : Dev) (h : Apart False (d.modDma f) e) : HstGrows d e := ⟨h.counts, h.reads, h.tx⟩
  unfold Dev.stageData
  split
  · exact (Apart.refl (q := False) d).grows
  split
  · exact (Apart.freeStage (.refl (q := False) d)).grows
  split
  · exact hm _ _ (.deliver False.elim (.refl _))
  · dsimp only
    split
    · exact (Apart.descError False.elim (.freeStage (.refl (q := False) d))).grows
    · exact hm _ _ (.deliver False.elim (.descError False.elim (.refl _)))

/-! ### Host reads (R311) -/

theorem HstGrows.trans {d0 d e : Dev} (h : HstGrows d0 d) (g : HstGrows d e) : HstGrows d0 e := by
  obtain ⟨hn, ⟨l, hl⟩, ⟨t, ht⟩⟩ := h
  obtain ⟨gn, ⟨m, gl⟩, ⟨u, gt⟩⟩ := g
  exact ⟨fun i h5 h8 => (gn i h5 h8).trans (hn i h5 h8), ⟨l ++ m, by rw [gl, hl, List.append_assoc]⟩, ⟨t ++ u, by rw [gt, ht, List.append_assoc]⟩⟩

/-- Host read `r`, out in `d0`, has failed in `d`: counted in counter `i`, reported through AER, its burst cut before its first line. -/
structure ReadFailed (d0 d : Dev) (r : HRead) (i : Nat) : Prop where
  count : d.counter .hst i = d0.counter .hst i + 1
  reads : ∃ l, d.hst.reads = d0.hst.reads.erase r ++ l
  tx : ∃ l, d.hst.tx = d0.hst.tx ++ [.aerReport r.port false] ++ l
  fetch : r.burst = none → (d.dch r.ch).fetching = false ∧ d = { d0 with hst := d.hst, dma := d.dma, regs := d.regs, cnt := d.cnt, log := d.log, lost := d.lost }
  burst : ∀ k y, r.burst = some k → (d0.dma.bursts.find? fun x => decide (x.id = k)) = some y →
    (y.dead = true → ∀ x ∈ d.dma.bursts, x.id ≠ k) ∧ (y.dead = false → ∀ x ∈ d.dma.bursts, x.id = k → x.n ≤ r.ofs / 128)

theorem Dev.dch_setDch (d : Dev) (x : Nat) (c : DChan) : (d.setDch x c).dch x = c := Tab.get_set_same _ _ _ _

/-- The event and the report of a failed read. -/
def Dev.reportRead (e : Dev) (r : HRead) (why : Nat) (inj : Bool) : Dev :=
  (e.event .hst 0x05 r.ch why (e.readTag r + injBit inj) r.port.val).sendTx (.aerReport r.port false)

theorem Dev.reportRead_frame (e : Dev) (r : HRead) (why : Nat) (inj : Bool) : e.reportRead r why inj =
    { e with hst := { e.hst with tx := e.hst.tx ++ [.aerReport r.port false] }, regs := (e.reportRead r why inj).regs, log := (e.reportRead r why inj).log
             lost := (e.reportRead r why inj).lost } := by
  unfold Dev.reportRead Dev.sendTx
  rw [Dev.event_quiet_frame e (b := .hst) (n := 0x05) (by decide)]

theorem Dev.hostReadFails_burst (e : Dev) {r : HRead} {k : Nat} (hk : r.burst = some k) (st why : Nat) (inj : Bool) :
    e.hostReadFails r st why inj = (e.reportRead r why inj).stageData k r.ofs [] (some (st, r.ofs / 128)) inj := by
  unfold Dev.hostReadFails; rw [hk]; rfl

theorem Dev.hostReadFails_fetch (e : Dev) {r : HRead} (hk : r.burst = none) (st why : Nat) (inj : Bool) :
    e.hostReadFails r st why inj = (e.reportRead r why inj).setDch r.ch { (e.reportRead r why inj).dch r.ch with fetching := false, again := false } := by
  unfold Dev.hostReadFails; rw [hk]; rfl

/-- A read that has been taken off the list and counted fails as the rule says. -/
theorem Dev.hostReadFails_failed {d e : Dev} {r : HRead} {i : Nat} (h5 : 5 ≤ i) (h8 : i ≤ 8)
    (he : e = { d with hst := { d.hst with reads := d.hst.reads.erase r }, regs := e.regs, cnt := e.cnt }) (hc : e.counter .hst i = d.counter .hst i + 1) (st why : Nat) (inj : Bool) :
    ReadFailed d (e.hostReadFails r st why inj) r i := by
  have hf := e.reportRead_frame r why inj
  have hr : (e.reportRead r why inj).hst.reads = d.hst.reads.erase r := by rw [hf, he]
  have ht : (e.reportRead r why inj).hst.tx = d.hst.tx ++ [.aerReport r.port false] := by rw [hf, he]
  have hd : (e.reportRead r why inj).dma = d.dma := by rw [hf, he]
  have hn : (e.reportRead r why inj).counter .hst i = d.counter .hst i + 1 := by rw [← hc, hf]; rfl
  cases hk : r.burst with
  | none =>
    rw [Dev.hostReadFails_fetch e hk]
    refine ⟨hn, ⟨[], by rw [List.append_nil]; exact hr⟩, ⟨[], by rw [List.append_nil]; exact ht⟩, fun _ => ⟨by rw [Dev.dch_setDch], ?_⟩, fun k y h => nomatch hk.symm.trans h⟩
    unfold Dev.setDch Dev.setFlag Dev.setFld Dev.setWord Dev.modDma
    rw [hf, he]
  | some k =>
    rw [Dev.hostReadFails_burst e hk]
    obtain ⟨gn, ⟨l, gl⟩, ⟨t, gt⟩⟩ := (e.reportRead r why inj).stageData_grows k r.ofs [] (some (st, r.ofs / 128)) inj
    refine ⟨(gn i h5 h8).trans hn, ⟨l, by rw [gl, hr]⟩, ⟨t, by rw [gt, ht]⟩, fun h => (nomatch hk.symm.trans h), fun k' y h hy => ?_⟩
    obtain rfl : k = k' := Option.some.inj (hk.symm.trans h)
    rw [← hd] at hy
    refine ⟨fun hdead => ?_, fun hlive => Dev.stageData_cut hy hlive _ _ _ _ _⟩
    rw [Dev.stageData_dead hy hdead]
    exact Dev.freeStage_gone hy

/-- An armed injection of KIND 2 aborts the read (Table 10.6). -/
def Dev.readAborted (d : Dev) (r : HRead) : Bool := d.flag F.DMA_INJECT_ARM && d.fld F.DMA_INJECT_KIND = 2 && d.fld F.DMA_INJECT_CH = r.ch

theorem Dev.readAborted_iff (d : Dev) (r : HRead) : d.readAborted r = true ↔ d.flag F.DMA_INJECT_ARM = true ∧ d.fld F.DMA_INJECT_KIND = 2 ∧ d.fld F.DMA_INJECT_CH = r.ch := by
  simp [Dev.readAborted, and_assoc]

/-- The read is off the list; an injection that aborts it is used up. -/
def Dev.readTaken (d : Dev) (r : HRead) : Dev :=
  if d.readAborted r then (d.modHst fun h => { h with reads := h.reads.erase r }).setFlag F.DMA_INJECT_ARM false else d.modHst fun h => { h with reads := h.reads.erase r }

theorem Dev.readTaken_frame (d : Dev) (r : HRead) : d.readTaken r = { d with hst := { d.hst with reads := d.hst.reads.erase r }, regs := (d.readTaken r).regs } := by
  unfold Dev.readTaken; split <;> rfl

/-- What a completion means for a read that is out. -/
def Dev.readEnds (d : Dev) (r : HRead) (res : HostRes) : Dev :=
  match (if d.readAborted r then HostRes.ca else res), r.burst with
  | .ok b, some k => (d.readTaken r).stageData k r.ofs (b.take r.len) (if b.length < r.len then some (3, (r.ofs + b.length) / 128) else none)
  | .ok _, none => d.readTaken r
  | .ur, _ => ((d.readTaken r).bump .hst 6).hostReadFails r 3 1 (d.readAborted r)
  | .ca, _ => ((d.readTaken r).bump .hst 6).hostReadFails r 3 2 (d.readAborted r)
  | .poisoned, _ => ((d.readTaken r).bump .hst 6).hostReadFails r 3 3 (d.readAborted r)

theorem exec_hostReadCompletion (id : Nat) (res : HostRes) (s : State) : exec (.hostReadCompletion id res) s =
    s.doesIn 1 fun d => match d.hst.reads.find? fun r => decide (r.id = id) with | none => d | some r => d.readEnds r res := rfl

theorem exec_hostCompletionTimeout (id : Nat) (s : State) : exec (.hostCompletionTimeout id) s =
    s.doesIn 1 fun d => match d.hst.reads.find? fun r => decide (r.id = id) with
      | none => d
      | some r => ((d.modHst fun h => { h with reads := h.reads.erase r }).bump .hst 5).hostReadFails r 4 0 false := rfl

theorem Dev.readEnds_failed {d : Dev} {r : HRead} {res : HostRes} (h : d.readAborted r = true ∨ ∀ b, res ≠ .ok b) : ReadFailed d (d.readEnds r res) r 6 := by
  have hf (why : Nat) : ReadFailed d (((d.readTaken r).bump .hst 6).hostReadFails r 3 why (d.readAborted r)) r 6 := by
    have ht := d.readTaken_frame r
    refine Dev.hostReadFails_failed (by decide) (by decide) ?_ ?_ 3 why _
    · unfold Dev.bump; rw [ht]
    · rw [Dev.counter_bump_same, ht]; rfl
  unfold Dev.readEnds
  cases ha : d.readAborted r with
  | true => rw [ha] at hf; exact hf 2
  | false =>
    rw [ha] at hf
    cases res with
    | ok b => exact absurd rfl (h.resolve_left (by simp [ha]) b)
    | ur => exact hf 1
    | ca => exact hf 2
    | poisoned => exact hf 3

/-- A read that completes and that no injection aborts: its data goes to the staging of its burst. -/
theorem Dev.readEnds_ok {d : Dev} {r : HRead} (b : Bytes) (ha : d.readAborted r = false) :
    d.readEnds r (.ok b) = match r.burst with
      | some k => ({ d with hst := { d.hst with reads := d.hst.reads.erase r } } : Dev).stageData k r.ofs (b.take r.len) (if b.length < r.len then some (3, (r.ofs + b.length) / 128) else none)
      | none => { d with hst := { d.hst with reads := d.hst.reads.erase r } } := by
  have ht : d.readTaken r = { d with hst := { d.hst with reads := d.hst.reads.erase r } } := by unfold Dev.readTaken; rw [ha]; rfl
  unfold Dev.readEnds
  rw [ha, ht]
  cases r.burst <;> rfl

/-! ### Controller resets and failed ports (R314, R315) -/

/-- From `d0` to `d` controller `c` has been reset: it is not ready and has no queues, its commands are silent; HST's registers, its counts of failures and the media blocks stay. -/
structure CtrlReset (d0 d : Dev) (c : Fin 2) : Prop where
  queues : (d.ctrl c).queues = (false, [], [])
  silent : ∀ x ∈ d.cmds, x.tag.ctrl = c → x.silent = true
  parts : d.ch = d0.ch ∧ d.wrp = d0.wrp ∧ d.srv = d0.srv ∧ d.spn = d0.spn
  words : ∀ a, offHst a = false → d.word a = d0.word a
  counts : ∀ i, 5 ≤ i → i ≤ 8 → d.counter .hst i = d0.counter .hst i

/-- After the work before it a reset still starts from the same registers, counts and media blocks. -/
theorem CtrlReset.after {d0 d e : Dev} {c : Fin 2} (h : CtrlReset d e c) (g : Apart True d0 d) : CtrlReset d0 e c := by
  obtain ⟨hq, hs, ⟨h1, h2, h3, h4⟩, hw, hn⟩ := h
  obtain ⟨g1, g2, g3, g4⟩ := g.parts
  exact ⟨hq, hs, ⟨h1.trans g1, h2.trans g2, h3.trans g3, h4.trans g4⟩, fun a ha => (hw a ha).trans (g.words trivial a ha), fun i h5 h8 => (hn i h5 h8).trans (g.counts i h5 h8)⟩

/-- The work after a reset keeps what it has done. -/
theorem CtrlReset.before {d0 d e : Dev} {c : Fin 2} (h : CtrlReset d0 d c) (g : Apart True d e) : CtrlReset d0 e c := by
  obtain ⟨hq, hs, ⟨h1, h2, h3, h4⟩, hw, hn⟩ := h
  obtain ⟨g1, g2, g3, g4⟩ := g.parts
  refine ⟨(g.queues c).trans hq, fun x hx hc => ?_, ⟨g1.trans h1, g2.trans h2, g3.trans h3, g4.trans h4⟩, fun a ha => (g.words trivial a ha).trans (hw a ha),
    fun i h5 h8 => (g.counts i h5 h8).trans (hn i h5 h8)⟩
  obtain ⟨y, hy, hyt, hys⟩ := g.cmds x hx
  exact hys (hs y hy (by rw [hyt]; exact hc))

theorem Dev.resetCtrl_reset (d : Dev) (c : Fin 2) (cause : Nat) : CtrlReset d (d.resetCtrl c cause) c := by
  unfold Dev.resetCtrl
  extract_lets old mine quit past d1 mute d2 d3 d4 d5 d6
  have h1 : Apart True d d1 := .foldl (fun _ _ h => .forget (.abandon h)) (.refl d)
  have h4 : CtrlReset d1 d4 c := by
    refine ⟨by unfold d4; rw [Dev.ctrl_modCtrl]; rfl, fun x hx hc => ?_, ?_, fun a _ => ?_, fun i _ _ => ?_⟩
    · have hd : d4.cmds = d1.cmds.map mute := by unfold d4; rw [Dev.modCtrl_frame]; rfl
      rw [hd] at hx
      obtain ⟨y, -, rfl⟩ := List.mem_map.1 hx
      unfold mute at hc ⊢
      split
      · rfl
      · next hn => rw [if_neg hn] at hc; exact absurd hc hn
    · unfold d4; rw [Dev.modCtrl_frame]; exact ⟨rfl, rfl, rfl, rfl⟩
    · unfold d4; rw [Dev.modCtrl_frame]; rfl
    · unfold d4; rw [Dev.modCtrl_frame]; rfl
  have h5 : Apart True d4 d5 := .dropMutexes (.ite (.closeDiag (.refl d4)) (.refl d4))
  have h6 : Apart True d4 d6 := .rest h5
  exact (h4.before (.event (.bump rfl (.voted h6)))).after h1

/-- From `d0` to `d` port `p` has failed, and its controller has been reset. -/
structure PortFailed (d0 d : Dev) (p : Fin 2) : Prop where
  failed : d.flag (F.HST_PSTAT_FAILED p.val) = true
  down : d.flag (F.HST_PSTAT_DL_UP p.val) = false
  count : d.counter .hst 8 = d0.counter .hst 8 + 1
  queues : (d.ctrl p).queues = (false, [], [])
  silent : ∀ x ∈ d.cmds, x.tag.ctrl = p → x.silent = true
  parts : d.ch = d0.ch ∧ d.wrp = d0.wrp ∧ d.srv = d0.srv ∧ d.spn = d0.spn

theorem offHst_pstat (p : Fin 2) : offHst (0x6000010 + 0x4 * p.val) = false := by
  match p with
  | 0 => rfl
  | 1 => rfl

/-- PSTAT of port `p` as it is when the port fails. -/
def Dev.markFailed (d : Dev) (p : Fin 2) : Dev := ((d.setFld (F.HST_PSTAT_FAILED p.val) 1).setFld (F.HST_PSTAT_DL_UP p.val) 0).bump .hst 8

theorem Dev.fld_bump (d : Dev) (b : Blk) (i n : Nat) (f : RF) : (d.bump b i n).fld f = d.fld f := rfl

theorem Dev.markFailed_failed (d : Dev) (p : Fin 2) : (d.markFailed p).fld (F.HST_PSTAT_FAILED p.val) = 1 := by
  unfold Dev.markFailed
  rw [Dev.fld_bump, Dev.fld_setFld_beside _ (F.HST_PSTAT_DL_UP p.val) (F.HST_PSTAT_FAILED p.val) 0 rfl rfl, Dev.fld_setFld_same _ _ _ (show 30 + 1 ≤ 32 by decide)]
  rfl

theorem Dev.markFailed_down (d : Dev) (p : Fin 2) : (d.markFailed p).fld (F.HST_PSTAT_DL_UP p.val) = 0 := by
  unfold Dev.markFailed
  rw [Dev.fld_bump, Dev.fld_setFld_same _ _ _ (show 31 + 1 ≤ 32 by decide)]
  rfl

theorem Dev.markFailed_count (d : Dev) (p : Fin 2) : (d.markFailed p).counter .hst 8 = d.counter .hst 8 + 1 := Dev.counter_bump_same _ _ _

theorem Dev.word_modHst (d : Dev) (f : HstS → HstS) (a : Nat) : (d.modHst f).word a = d.word a := rfl
theorem Dev.counter_modHst (d : Dev) (f : HstS → HstS) (b : Blk) (i : Nat) : (d.modHst f).counter b i = d.counter b i := rfl

/-- A word of PSTAT that stays keeps its fields. -/
theorem Dev.fld_congr {d e : Dev} {f : RF} {a : Nat} (ha : f.a = a) (h : d.word a = e.word a) : d.fld f = e.fld f := by
  unfold Dev.fld; rw [ha, h]

theorem Dev.failPort_failed {d : Dev} {p : Fin 2} (hf : d.flag (F.HST_PSTAT_FAILED p.val) = false) (why : Nat) : PortFailed d (d.failPort p why) p := by
  unfold Dev.failPort
  rw [if_neg (by simp [hf])]
  extract_lets n d1 d2 d3 idle d4
  have h3 : Apart True d2 d3 := .foldlMem (fun _ x hx h => .foldl (fun _ _ h => .ite (.descError (fun _ => List.mem_range.1 hx) h) h) h) (.refl d2)
  have h4 : Apart True d2 d4 := .foldl (fun _ _ h => .freeStage h) h3
  have hr := (d4.event .hst 0x02 why n 0 p.val).resetCtrl_reset p 4
  have hd := hr.after (.event h4)
  have hp : ((d4.event .hst 0x02 why n 0 p.val).resetCtrl p 4).word _ = (d.markFailed p).word _ := (hd.words _ (offHst_pstat p)).trans (Dev.word_modHst _ _ _)
  refine ⟨?_, ?_, ?_, hd.queues, hd.silent, hd.parts⟩
  · unfold Dev.flag
    rw [Dev.fld_congr rfl hp, Dev.markFailed_failed]
    rfl
  · unfold Dev.flag
    rw [Dev.fld_congr rfl hp, Dev.markFailed_down]
    rfl
  · rw [hd.counts 8 (by decide) (by decide)]
    exact (Dev.counter_modHst _ _ _ _).trans (d.markFailed_count p)

/-! ### Links (R314) -/

/-- PSTAT of a port that has trained. -/
def Dev.markTrained (d : Dev) (p : Fin 2) (speed : Fin 7) (width : Fin 5) (flit : Bool) : Dev :=
  ((((d.setFld (F.HST_PSTAT_DL_UP p.val) 1).setFld (F.HST_PSTAT_FAILED p.val) 0).setFld (F.HST_PSTAT_SPEED p.val) speed).setFld (F.HST_PSTAT_WIDTH p.val) width).setFld
    (F.HST_PSTAT_FLIT p.val) flit.toNat

/-- What a port that trains does. -/
def Dev.linkTrained (d : Dev) (p : Fin 2) (speed : Fin 7) (width : Fin 5) (flit : Bool) : Dev :=
  (((d.markTrained p speed width flit).modCtrl p fun x => { x with trained := true, pausedAt := none }).voted (d.markTrained p speed width flit)).event .hst 0x01 speed width flit.toNat p.val

theorem exec_linkUp (p : Fin 2) (speed : Fin 7) (width : Fin 5) (flit : Bool) (s : State) : exec (.linkUp p speed width flit) s =
    s.doesIn 5 fun d => if !d.hasCtrl p || (d.ctrl p).perst then d else d.linkTrained p speed width flit := rfl

theorem exec_portDlDown (p : Fin 2) (s : State) : exec (.portDlDown p) s = s.doesIn 5 fun d => if d.hasCtrl p && d.flag (F.HST_PSTAT_DL_UP p.val) then d.failPort p 0 else d := rfl
theorem exec_linkRecoveryTimeout (p : Fin 2) (s : State) :
    exec (.linkRecoveryTimeout p) s = s.doesIn 5 fun d => if d.hasCtrl p && d.flag (F.HST_PSTAT_DL_UP p.val) then d.failPort p 1 else d := rfl

/-- A link back from recovery. -/
def Dev.linkBack (d : Dev) (p : Fin 2) (us : BitVec 32) : Dev :=
  let e := (d.incSat (F.HST_PSTAT_RETRAINS p.val) 1).bump .hst 7
  e.event .hst 0x03 us.toNat (e.fld (F.HST_PSTAT_SPEED p.val)) (e.fld (F.HST_PSTAT_WIDTH p.val)) p.val

theorem exec_linkRetrained (p : Fin 2) (us : BitVec 32) (s : State) : exec (.linkRetrained p us) s =
    s.doesIn 5 fun d => if d.hasCtrl p && d.flag (F.HST_PSTAT_DL_UP p.val) && decide (us.toNat < 1000 * d.fld F.HST_LINK_RECOV_MS) then d.linkBack p us else d := rfl

theorem Dev.word_modCtrl (d : Dev) (c : Fin 2) (f : CtrlS → CtrlS) (a : Nat) : (d.modCtrl c f).word a = d.word a := by rw [Dev.modCtrl_frame]; rfl

section
variable (d : Dev) (p : Fin 2) (speed : Fin 7) (width : Fin 5) (flit : Bool)

theorem Dev.markTrained_fields :
    (d.markTrained p speed width flit).fld (F.HST_PSTAT_DL_UP p.val) = 1 ∧ (d.markTrained p speed width flit).fld (F.HST_PSTAT_FAILED p.val) = 0 ∧
    (d.markTrained p speed width flit).fld (F.HST_PSTAT_SPEED p.val) = speed.val ∧ (d.markTrained p speed width flit).fld (F.HST_PSTAT_WIDTH p.val) = width.val ∧
    (d.markTrained p speed width flit).fld (F.HST_PSTAT_FLIT p.val) = flit.toNat := by
  have flit_ne (e : Dev) (g : Nat → RF) (ha : (g p.val).a = (F.HST_PSTAT_FLIT p.val).a)
      (h : ((Nat.ble 24 (g p.val).lo || Nat.ble ((g p.val).lo + (g p.val).n) 23) && Nat.ble ((g p.val).lo + (g p.val).n) 32) = true) :
      (e.setFld (F.HST_PSTAT_FLIT p.val) flit.toNat).fld (g p.val) = e.fld (g p.val) := Dev.fld_setFld_beside e _ _ _ ha h
  have width_ne (e : Dev) (g : Nat → RF) (ha : (g p.val).a = (F.HST_PSTAT_WIDTH p.val).a)
      (h : ((Nat.ble 27 (g p.val).lo || Nat.ble ((g p.val).lo + (g p.val).n) 24) && Nat.ble ((g p.val).lo + (g p.val).n) 32) = true) :
      (e.setFld (F.HST_PSTAT_WIDTH p.val) width).fld (g p.val) = e.fld (g p.val) := Dev.fld_setFld_beside e _ _ _ ha h
  have speed_ne (e : Dev) (g : Nat → RF) (ha : (g p.val).a = (F.HST_PSTAT_SPEED p.val).a)
      (h : ((Nat.ble 30 (g p.val).lo || Nat.ble ((g p.val).lo + (g p.val).n) 27) && Nat.ble ((g p.val).lo + (g p.val).n) 32) = true) :
      (e.setFld (F.HST_PSTAT_SPEED p.val) speed).fld (g p.val) = e.fld (g p.val) := Dev.fld_setFld_beside e _ _ _ ha h
  unfold Dev.markTrained
  refine ⟨?_, ?_, ?_, ?_, ?_⟩
  · rw [flit_ne _ F.HST_PSTAT_DL_UP rfl rfl, width_ne _ F.HST_PSTAT_DL_UP rfl rfl, speed_ne _ F.HST_PSTAT_DL_UP rfl rfl,
      Dev.fld_setFld_beside _ (F.HST_PSTAT_FAILED p.val) (F.HST_PSTAT_DL_UP p.val) 0 rfl rfl, Dev.fld_setFld_same _ _ _ (show 31 + 1 ≤ 32 by decide)]
    rfl
  · rw [flit_ne _ F.HST_PSTAT_FAILED rfl rfl, width_ne _ F.HST_PSTAT_FAILED rfl rfl, speed_ne _ F.HST_PSTAT_FAILED rfl rfl,
      Dev.fld_setFld_same _ _ _ (show 30 + 1 ≤ 32 by decide)]
    rfl
  · rw [flit_ne _ F.HST_PSTAT_SPEED rfl rfl, width_ne _ F.HST_PSTAT_SPEED rfl rfl, Dev.fld_setFld_same _ _ _ (show 27 + 3 ≤ 32 by decide)]
    exact Nat.mod_eq_of_lt (Nat.lt_trans speed.isLt (show 7 < 2 ^ 3 by decide))
  · rw [flit_ne _ F.HST_PSTAT_WIDTH rfl rfl, Dev.fld_setFld_same _ _ _ (show 24 + 3 ≤ 32 by decide)]
    exact Nat.mod_eq_of_lt (Nat.lt_trans width.isLt (show 5 < 2 ^ 3 by decide))
  · rw [Dev.fld_setFld_same _ _ _ (show 23 + 1 ≤ 32 by decide)]
    exact Nat.mod_eq_of_lt (Bool.toNat_lt flit)

/-- Training shows in PSTAT, and the controller votes (R314, R485). -/
theorem Dev.linkTrained_word : (d.linkTrained p speed width flit).word (0x6000010 + 0x4 * p.val) = (d.markTrained p speed width flit).word (0x6000010 + 0x4 * p.val) := by
  have h : Apart True ((d.markTrained p speed width flit).modCtrl p fun x => { x with trained := true, pausedAt := none }) (d.linkTrained p speed width flit) := .event (.voted (.refl _))
  rw [h.words trivial _ (offHst_pstat p), Dev.word_modCtrl]

theorem Dev.linkTrained_trained : ((d.linkTrained p speed width flit).ctrl p).trained = true := by
  have h : (d.linkTrained p speed width flit).ctrl p = ((d.markTrained p speed width flit).modCtrl p fun x => { x with trained := true, pausedAt := none }).ctrl p := by
    unfold Dev.linkTrained Dev.ctrl
    rw [Dev.event_hst _ (b := .hst) (n := 0x01) (by decide), Dev.voted_frame]
  rw [h, Dev.ctrl_modCtrl]

theorem Dev.linkTrained_frame : d.linkTrained p speed width flit =
    { d with regs := (d.linkTrained p speed width flit).regs, hst := (d.linkTrained p speed width flit).hst, pwr := (d.linkTrained p speed width flit).pwr
             log := (d.linkTrained p speed width flit).log, lost := (d.linkTrained p speed width flit).lost } := by
  unfold Dev.linkTrained
  rw [Dev.event_frame, Dev.voted_frame, Dev.modCtrl_frame]
  rfl
end

theorem Dev.linkBack_frame (d : Dev) (p : Fin 2) (us : BitVec 32) : d.linkBack p us =
    { d with regs := (d.linkBack p us).regs, cnt := (d.linkBack p us).cnt, log := (d.linkBack p us).log, lost := (d.linkBack p us).lost, hst := (d.linkBack p us).hst } := by
  unfold Dev.linkBack
  dsimp only
  rw [Dev.event_frame]
  rfl

theorem Dev.linkBack_count (d : Dev) (p : Fin 2) (us : BitVec 32) : (d.linkBack p us).counter .hst 7 = d.counter .hst 7 + 1 := by
  unfold Dev.linkBack Dev.counter
  dsimp only
  rw [Dev.event_cnt]
  exact Dev.counter_bump_same (d.incSat (F.HST_PSTAT_RETRAINS p.val) 1) .hst 7

/-- The event leaves PSTAT as the count of retrains has made it. -/
theorem Dev.linkBack_fld (d : Dev) (p : Fin 2) (us : BitVec 32) {f : RF} (ha : f.a = 0x6000010 + 0x4 * p.val) :
    (d.linkBack p us).fld f = (d.incSat (F.HST_PSTAT_RETRAINS p.val) 1).fld f := by
  have h : Apart True ((d.incSat (F.HST_PSTAT_RETRAINS p.val) 1).bump .hst 7) (d.linkBack p us) := .event (.refl _)
  rw [Dev.fld_congr ha (h.words trivial _ (offHst_pstat p)), Dev.fld_bump]

theorem Dev.linkBack_retrains (d : Dev) (p : Fin 2) (us : BitVec 32) :
    (d.linkBack p us).fld (F.HST_PSTAT_RETRAINS p.val) = min (d.fld (F.HST_PSTAT_RETRAINS p.val) + 1) (2 ^ (F.HST_PSTAT_RETRAINS p.val).n - 1) := by
  rw [Dev.linkBack_fld d p us rfl]
  unfold Dev.incSat
  rw [Dev.fld_setFld_same _ _ _ (show 0 + 16 ≤ 32 by decide)]
  exact Nat.mod_eq_of_lt (Nat.lt_of_le_of_lt (Nat.min_le_right _ _) (show 2 ^ 16 - 1 < 2 ^ 16 by decide))

theorem Dev.linkBack_up (d : Dev) (p : Fin 2) (us : BitVec 32) : (d.linkBack p us).fld (F.HST_PSTAT_DL_UP p.val) = d.fld (F.HST_PSTAT_DL_UP p.val) := by
  rw [Dev.linkBack_fld d p us rfl]
  exact Dev.fld_setFld_beside d (F.HST_PSTAT_RETRAINS p.val) (F.HST_PSTAT_DL_UP p.val) _ rfl rfl

/-! ### The side band and BAR2 (R299, R318) -/

theorem exec_hostWritePoisoned (c : Fin 2) (s : State) : exec (.hostWritePoisoned c) s = s.doesIn 1 fun d => if d.hasCtrl c then d.sendTx (.aerReport c true) else d := rfl

theorem exec_miMessage (msg : Bytes) (s : State) : exec (.miMessage msg) s =
    s.doesIn 1 fun d => if 4224 < msg.length then d.sendTx (.mi [0x04]) else (d.modHst fun h => { h with mi := h.mi ++ [msg] }).bump .hst 10 := rfl

/-- The seven bytes of the basic read: a length, the flags, the inverted warnings, the temperature, three zeros. -/
def Dev.basicRead (d : Dev) : Bytes :=
  [6] ++ leBytes 1 (0x80 + 0x40 * (!((d.ctrl 0).rdy || (d.ctrl 1).rdy)).toNat + 0x20 + 0x10 + 8 * (d.fld (F.HST_PSTAT_DL_UP 0)) + 4 * (d.fld (F.HST_PSTAT_DL_UP 1))) ++
    leBytes 1 (255 - d.log.crit % 256) ++ leBytes 1 (d.fld F.KNL_TEMP_TJ) ++ [0, 0, 0]

theorem exec_bmcBasicRead (s : State) : exec .bmcBasicRead s = s.doesIn 1 fun d => if !d.flag F.HST_MI_BMC_EN then d else d.sendTx (.mi d.basicRead) := rfl

theorem Dev.basicRead_length (d : Dev) : d.basicRead.length = 7 := by simp [Dev.basicRead, leBytes]

/-- The answer of a BAR2 access: a write that is accepted has none. -/
def Dev.bar2Answer (d : Dev) (c : Fin 2) (wr v : Option Word) : Dev := if wr.isSome && v.isSome then d else d.sendTx (.cpl c v)

/-- An access to BAR2 of a controller that exists. -/
def Dev.bar2 (d : Dev) (c : Fin 2) (a size : Nat) (wr : Option Word) : Dev :=
  if !d.flag F.DMA_DIAG_UNLOCKED then d.bar2Answer c wr (some 0)
  else if !d.canSend .fab 1 then d
  else if size ≠ 4 ∨ a % 4 ≠ 0 ∨ (locate a).isNone then (d.event .hst 0x08 a size 0 c.val).bar2Answer c wr none
  else match wr with
    | some v => (d.controlWrite a v.toNat (9 + c.val)).1.bar2Answer c wr (some 0)
    | none => (d.access a).2.2.bar2Answer c wr (some (BitVec.ofNat 32 (d.access a).1))

theorem exec_bar2Access (c : Fin 2) (a : BitVec 28) (size : Nat) (wr : Option Word) (s : State) : exec (.bar2Access c a size wr) s =
    s.doesIn 5 fun d => if !d.hasCtrl c then d else d.bar2 c a.toNat size wr := by
  cases wr <;> rfl

section
variable {d : Dev} (c : Fin 2) {a size : Nat} (wr : Option Word)

theorem Dev.bar2_locked (hu : d.flag F.DMA_DIAG_UNLOCKED = false) : d.bar2 c a size wr = if wr.isSome then d else d.sendTx (.cpl c (some 0)) := by
  unfold Dev.bar2 Dev.bar2Answer
  rw [hu]
  cases wr <;> rfl

variable (hu : d.flag F.DMA_DIAG_UNLOCKED = true)
include hu

theorem Dev.bar2_unsent (hs : d.canSend .fab 1 = false) : d.bar2 c a size wr = d := by
  unfold Dev.bar2
  rw [hu, hs]
  rfl

variable (hs : d.canSend .fab 1 = true)
include hs

theorem Dev.bar2_refused (h : size ≠ 4 ∨ a % 4 ≠ 0 ∨ locate a = none) : d.bar2 c a size wr = (d.event .hst 0x08 a size 0 c.val).sendTx (.cpl c none) := by
  unfold Dev.bar2 Dev.bar2Answer
  rw [hu, hs, if_neg (by decide), if_neg (by decide), if_pos (by simpa [Option.isNone_iff_eq_none] using h)]
  cases wr <;> rfl

section
variable (h4 : size = 4) (ha : a % 4 = 0) (hl : locate a ≠ none)
include h4 ha hl

theorem Dev.bar2_write (v : Word) : d.bar2 c a size (some v) = (d.controlWrite a v.toNat (9 + c.val)).1 := by
  unfold Dev.bar2
  rw [hu, hs, if_neg (by decide), if_neg (by decide), if_neg (by simp [h4, ha, hl])]
  rfl

theorem Dev.bar2_read {w : Word} (hr : d.readWord a = some w) : d.bar2 c a size none = (d.readEffect a).sendTx (.cpl c (some w)) := by
  unfold Dev.bar2
  rw [hu, hs, if_neg (by decide), if_neg (by decide), if_neg (by simp [h4, ha, hl]), Dev.access_some hr, BitVec.ofNat_toNat, BitVec.setWidth_eq]
  rfl
end
end

/-! ### The clauses of the statement -/

/-- The data of a completed read at its burst: nothing is kept of a dead burst, whole data is staged or sent, short data ends the burst where it stops. -/
theorem Dev.stageData_completed {d : Dev} {r : HRead} {k : Nat} {y : Burst} (hy : (d.dma.bursts.find? fun x => decide (x.id = k)) = some y) (b : Bytes) :
    let e := d.stageData k r.ofs (b.take r.len) (if b.length < r.len then some (3, (r.ofs + b.length) / 128) else none)
    (y.dead = true → ∀ x ∈ e.dma.bursts, x.id ≠ k) ∧
    (y.dead = false → r.len ≤ b.length → ∃ x ∈ e.dma.bursts, x.id = k ∧ (x.sent = true ∨ x.parts = y.parts ++ [(r.ofs, b.take r.len)])) ∧
    (y.dead = false → b.length < r.len → ∀ x ∈ e.dma.bursts, x.id = k → x.n ≤ (r.ofs + b.length) / 128) := by
  refine ⟨fun hdead => ?_, fun hlive hlen => ?_, fun hlive hlen => ?_⟩
  · rw [Dev.stageData_dead hy hdead]
    exact Dev.freeStage_gone hy
  · rw [if_neg (Nat.not_lt.2 hlen)]
    exact Dev.stageData_whole hy hlive _ _ _
  · rw [if_pos hlen]
    exact Dev.stageData_cut hy hlive _ _ _ _ _

section
variable {s : State} {id : Nat} {r : HRead} (h1 : s.dev.live 1 = true) (hr : (s.dev.hst.reads.find? fun r => decide (r.id = id)) = some r)
include h1 hr

theorem gives_readFailed_completion {res : HostRes} (h : s.dev.readAborted r = true ∨ ∀ b, res ≠ .ok b) : Gives (.hostReadCompletion id res) s fun d => ReadFailed s.dev d r 6 :=
  gives_of_eq (exec_hostReadCompletion id res s) h1 (e := s.dev.readEnds r res) (by rw [hr]) (Dev.readEnds_failed h)

theorem gives_readFailed_timeout : Gives (.hostCompletionTimeout id) s fun d => ReadFailed s.dev d r 5 :=
  gives_of_eq (exec_hostCompletionTimeout id s) h1 (e := ((s.dev.modHst fun h => { h with reads := h.reads.erase r }).bump .hst 5).hostReadFails r 4 0 false)
    (by rw [hr]) (Dev.hostReadFails_failed (by decide) (by decide) rfl ((Dev.counter_bump_same _ _ _).trans (congrArg (· + 1) (Dev.counter_modHst _ _ _ _))) 4 0 false)

theorem gives_readCompleted (b : Bytes) (ha : s.dev.readAborted r = false) : Gives (.hostReadCompletion id (.ok b)) s fun d =>
    (∃ l, d.hst.reads = s.dev.hst.reads.erase r ++ l) ∧
    (∀ k y, r.burst = some k → (s.dev.dma.bursts.find? fun x => decide (x.id = k)) = some y →
      (y.dead = true → ∀ x ∈ d.dma.bursts, x.id ≠ k) ∧
      (y.dead = false → r.len ≤ b.length → ∃ x ∈ d.dma.bursts, x.id = k ∧ (x.sent = true ∨ x.parts = y.parts ++ [(r.ofs, b.take r.len)])) ∧
      (y.dead = false → b.length < r.len → ∀ x ∈ d.dma.bursts, x.id = k → x.n ≤ (r.ofs + b.length) / 128)) ∧
    ((∀ k, r.burst = some k → (s.dev.dma.bursts.find? fun x => decide (x.id = k)) = none) → d = { s.dev with hst := { s.dev.hst with reads := s.dev.hst.reads.erase r } }) := by
  have he := Dev.readEnds_ok b ha
  have hx : (match s.dev.hst.reads.find? fun r => decide (r.id = id) with | none => s.dev | some r => s.dev.readEnds r (.ok b)) = s.dev.readEnds r (.ok b) := by rw [hr]
  refine gives_of_eq (exec_hostReadCompletion id (.ok b) s) h1 (hx.trans he) ?_
  cases hk : r.burst with
  | none => exact ⟨⟨[], (List.append_nil _).symm⟩, fun _ _ h => (nomatch h), fun _ => rfl⟩
  | some k =>
    have hg := (Dev.stageData_grows { s.dev with hst := { s.dev.hst with reads := s.dev.hst.reads.erase r } } k r.ofs (b.take r.len)
      (if b.length < r.len then some (3, (r.ofs + b.length) / 128) else none) false).reads
    refine ⟨hg, fun k' y h hy => ?_, fun h => Dev.stageData_none (d := { s.dev with hst := { s.dev.hst with reads := s.dev.hst.reads.erase r } }) (h k rfl) _ _ _ _⟩
    obtain rfl : k = k' := Option.some.inj h
    exact Dev.stageData_completed (d := { s.dev with hst := { s.dev.hst with reads := s.dev.hst.reads.erase r } }) hy b
end

/-- A port that is up and not failed fails, whatever the reason. -/
theorem gives_portFailed {i : Instr} {s : State} {p : Fin 2} {why : Nat} (he : exec i s = s.doesIn 5 fun d => if d.hasCtrl p && d.flag (F.HST_PSTAT_DL_UP p.val) then d.failPort p why else d)
    (h5 : s.dev.live 5 = true) :
    ((s.dev.hasCtrl p = false ∨ s.dev.flag (F.HST_PSTAT_DL_UP p.val) = false ∨ s.dev.flag (F.HST_PSTAT_FAILED p.val) = true) → Gives i s fun d => d = s.dev) ∧
    (s.dev.hasCtrl p = true → s.dev.flag (F.HST_PSTAT_DL_UP p.val) = true → s.dev.flag (F.HST_PSTAT_FAILED p.val) = false → Gives i s fun d =>
      d.flag (F.HST_PSTAT_FAILED p.val) = true ∧ d.flag (F.HST_PSTAT_DL_UP p.val) = false ∧ d.counter .hst 8 = s.dev.counter .hst 8 + 1 ∧
      (d.ctrl p).rdy = false ∧ (d.ctrl p).sqs = [] ∧ (d.ctrl p).cqs = [] ∧ (∀ x ∈ d.cmds, x.tag.ctrl = p → x.silent = true) ∧
      d.ch = s.dev.ch ∧ d.wrp = s.dev.wrp ∧ d.srv = s.dev.srv ∧ d.spn = s.dev.spn) := by
  refine ⟨fun h => State.doesIn_gives he h5 ?_, fun hc hu hf => gives_of_eq he h5 (e := s.dev.failPort p why) (by rw [hc, hu]; rfl) ?_⟩
  · rcases h with h | h | h
    · rw [h]; rfl
    · rw [h, Bool.and_false]; rfl
    · have hs : s.dev.failPort p why = s.dev := by unfold Dev.failPort; exact if_pos h
      rw [hs, ite_self]
  · obtain ⟨h1, h2, h3, hq, h4, h5⟩ := s.dev.failPort_failed hf why
    have hq' := Prod.ext_iff.1 hq
    exact ⟨h1, h2, h3, hq'.1, congrArg Prod.fst hq'.2, congrArg Prod.snd hq'.2, h4, h5⟩

theorem gives_linkUp {s : State} {p : Fin 2} (h5 : s.dev.live 5 = true) (speed : Fin 7) (width : Fin 5) (flit : Bool) (hc : s.dev.hasCtrl p = true) (hp : (s.dev.ctrl p).perst = false) :
    Gives (.linkUp p speed width flit) s fun d =>
      d.fld (F.HST_PSTAT_DL_UP p.val) = 1 ∧ d.fld (F.HST_PSTAT_FAILED p.val) = 0 ∧ d.fld (F.HST_PSTAT_SPEED p.val) = speed.val ∧ d.fld (F.HST_PSTAT_WIDTH p.val) = width.val ∧
      d.flag (F.HST_PSTAT_FLIT p.val) = flit ∧ (d.ctrl p).trained = true ∧ d = { s.dev with regs := d.regs, hst := d.hst, pwr := d.pwr, log := d.log, lost := d.lost } := by
  refine gives_of_eq (exec_linkUp p speed width flit s) h5 (e := s.dev.linkTrained p speed width flit) (by rw [hc, hp]; rfl) ?_
  have hw := s.dev.linkTrained_word p speed width flit
  obtain ⟨hu, hf, hs, hwd, hfl⟩ := s.dev.markTrained_fields p speed width flit
  refine ⟨(Dev.fld_congr rfl hw).trans hu, (Dev.fld_congr rfl hw).trans hf, (Dev.fld_congr rfl hw).trans hs, (Dev.fld_congr rfl hw).trans hwd, ?_, Dev.linkTrained_trained _ _ _ _ _,
    Dev.linkTrained_frame _ _ _ _ _⟩
  unfold Dev.flag
  rw [Dev.fld_congr rfl hw, hfl]
  cases flit <;> rfl

theorem gives_linkRetrained {s : State} {p : Fin 2} (h5 : s.dev.live 5 = true) (us : BitVec 32) :
    let may := s.dev.hasCtrl p = true ∧ s.dev.flag (F.HST_PSTAT_DL_UP p.val) = true ∧ us.toNat < 1000 * s.dev.fld F.HST_LINK_RECOV_MS
    (¬may → Gives (.linkRetrained p us) s fun d => d = s.dev) ∧ (may → Gives (.linkRetrained p us) s fun d => d = s.dev.linkBack p us) := by
  refine ⟨fun h => gives_of_eq (exec_linkRetrained p us s) h5 (if_neg ?_) rfl, fun h => gives_of_eq (exec_linkRetrained p us s) h5 (if_pos ?_) rfl⟩
  · simpa [and_assoc] using h
  · simpa [and_assoc] using h

theorem Gives.mono {c : Instr} {s : State} {P Q : Dev → Prop} (h : Gives c s P) (hpq : ∀ d, P d → Q d) : Gives c s Q := by
  obtain ⟨t, ht, hp, hd⟩ := h
  exact ⟨t, ht, hp, hpq _ hd⟩

/-- Settles O24: reads by what the staging of a burst does, ports by what a controller reset keeps, BAR2 by its branches. -/
theorem hostReadsLinksAndSideBand : Obligations.HostReadsLinksAndSideBand := by
  refine ⟨fun s id res h1 => ⟨fun hn => ⟨?_, ?_⟩, fun r hr => ⟨fun b hi hb => ?_, fun i hi hf => ?_⟩⟩, fun s c h1 => State.doesIn_gives (exec_hostWritePoisoned c s) h1 rfl,
    fun s p h5 => ⟨fun speed width flit => ⟨fun h => ?_, gives_linkUp h5 speed width flit⟩, fun i hi => ?_, fun us => ⟨(gives_linkRetrained h5 us).1, fun h => ?_⟩⟩,
    fun s msg h1 => ⟨fun h => ?_, fun h => ?_, fun h => ?_, fun h => ?_⟩, fun s c a size wr h5 => ⟨fun h => ?_, fun hc => ⟨fun hu => ?_, fun hu hs => ⟨fun h => ?_, fun h4 ha hl => ⟨?_, ?_⟩⟩⟩⟩⟩
  · exact gives_of_eq (exec_hostReadCompletion id res s) h1 (by rw [hn]) rfl
  · exact gives_of_eq (exec_hostCompletionTimeout id s) h1 (by rw [hn]) rfl
  · subst hb
    exact gives_readCompleted h1 hr b (Bool.eq_false_iff.2 fun h => hi ((s.dev.readAborted_iff r).1 h))
  · simp only [List.mem_cons, List.not_mem_nil, or_false] at hi
    rcases hi with rfl | rfl
    · refine (gives_readFailed_completion h1 hr ((hf rfl).imp_left (s.dev.readAborted_iff r).2)).mono fun d h => ?_
      exact ⟨h.count, h.reads, h.tx, h.fetch, h.burst⟩
    · exact (gives_readFailed_timeout h1 hr).mono fun d h => ⟨h.count, h.reads, h.tx, h.fetch, h.burst⟩
  · refine gives_of_eq (exec_linkUp p speed width flit s) h5 (if_pos ?_) rfl
    rcases h with h | h <;> simp [h]
  · simp only [List.mem_cons, List.not_mem_nil, or_false] at hi
    rcases hi with rfl | rfl
    · exact gives_portFailed (exec_portDlDown p s) h5
    · exact gives_portFailed (exec_linkRecoveryTimeout p s) h5
  · refine ((gives_linkRetrained h5 us).2 h).mono fun d hd => ?_
    rw [hd]
    exact ⟨Dev.linkBack_count _ _ _, Dev.linkBack_retrains _ _ _, Dev.linkBack_up _ _ _, Dev.linkBack_frame _ _ _⟩
  · exact gives_of_eq (exec_miMessage msg s) h1 (if_pos h) rfl
  · exact gives_of_eq (exec_miMessage msg s) h1 (if_neg (Nat.not_lt.2 h)) ⟨rfl, Dev.counter_bump_same _ _ _, rfl⟩
  · exact gives_of_eq (exec_bmcBasicRead s) h1 (by rw [h]; rfl) rfl
  · exact gives_of_eq (exec_bmcBasicRead s) h1 (e := s.dev.sendTx (.mi s.dev.basicRead)) (by rw [h]; rfl) ⟨⟨_, Dev.basicRead_length _, rfl⟩, rfl⟩
  · refine gives_of_eq (exec_bar2Access c a size wr s) h5 ?_ rfl
    rcases h with h | ⟨hu, hs⟩
    · rw [h]; rfl
    · rw [Dev.bar2_unsent c wr hu hs, ite_self]
  all_goals have hx : (if (!s.dev.hasCtrl c) = true then s.dev else s.dev.bar2 c a.toNat size wr) = s.dev.bar2 c a.toNat size wr := by rw [hc]; rfl
  · exact gives_of_eq (exec_bar2Access c a size wr s) h5 (hx.trans (Dev.bar2_locked c wr hu)) rfl
  · refine gives_of_eq (exec_bar2Access c a size wr s) h5 (hx.trans (Dev.bar2_refused c wr hu hs h)) ?_
    have hq := Dev.event_quiet_frame s.dev (b := .hst) (n := 0x08) (by decide) a.toNat size 0 c.val
    unfold Dev.sendTx
    rw [hq]
    exact ⟨rfl, rfl⟩
  · rintro v rfl
    exact gives_of_eq (exec_bar2Access c a size (some v) s) h5 (hx.trans (Dev.bar2_write c hu hs h4 ha hl v)) rfl
  · rintro w rfl hr
    refine gives_of_eq (exec_bar2Access c a size none s) h5 (hx.trans (Dev.bar2_read c hu hs h4 ha hl hr)) ?_
    unfold Dev.sendTx
    rw [Dev.readEffect_frame]
    exact ⟨rfl, rfl⟩

end Sys2Proof.Machine
end

section
/-! SUPPORT. The time base: a step of time, the two counters of KNL, and what a detected fault flags. -/
namespace Sys2Proof.Machine

/-! ### A step of time (R24) -/

/-- Without kennel power nothing happens. -/
theorem Dev.tick_unpowered {d : Dev} (hk : d.pwr.kennel = false) : d.tick = d := by
  unfold Dev.tick; rw [hk]; rfl

/-- With kennel power TBASE counts on, and what ends with it keeps the rest. -/
theorem Dev.tick_kept {d : Dev} (hk : d.pwr.kennel = true) : Kept { d with tbase := d.tbase + 4 } d.tick := by
  unfold Dev.tick
  rw [hk, if_neg (by decide)]
  extract_lets d1 d2 d3
  have h1 : Kept { d with tbase := d.tbase + 4 } d1 := .driveVid (.countMs (.refl _))
  have h2 : Kept { d with tbase := d.tbase + 4 } d2 := .ite (.setFld h1) h1
  have h3 : Kept { d with tbase := d.tbase + 4 } d3 := .bindAll (.drainAll (.rollGrant (.ringSettle (.drainNs h2))))
  exact .ite h2 (.ite (.nssrEnd h3) h3)

theorem Dev.tick_tbase (d : Dev) : d.tick.tbase = if d.pwr.kennel then d.tbase + 4 else d.tbase := by
  cases hk : d.pwr.kennel with
  | false => rw [Dev.tick_unpowered hk]; rfl
  | true => exact (Dev.tick_kept hk).tbase

theorem step_idle {s t : State} (hp : s.pending = []) (h : step s = .next t) : t = { s with dev := s.dev.tick } := by
  unfold step at h
  rw [hp] at h
  exact (Host.Outcome.next.inj h).symm.trans (by rw [hp])

theorem step_command {s : State} {c : Instr} {rest : List Instr} (hp : s.pending = c :: rest) : step s = exec c { s with pending := rest } := by
  unfold step; rw [hp]

/-! ### Commands and TBASE (R24) -/

theorem Dev.powerOn_tbase (d : Dev) : d.powerOn.tbase = if d.pwr.kennel then d.tbase else 0 := by
  unfold Dev.powerOn; split <;> rfl

theorem kennelPowerOn_tbase {s t : State} (h : exec .kennelPowerOn s = .next t) : t.dev.tbase = if s.dev.pwr.kennel then s.dev.tbase else 0 := by
  obtain rfl : { s with dev := s.dev.powerOn } = t := Host.Outcome.next.inj h
  exact s.dev.powerOn_tbase

theorem kennelPowerLost_tbase {s t : State} (h : exec .kennelPowerLost s = .next t) : t.dev.tbase = if s.dev.live 0 then 0 else s.dev.tbase := by
  obtain rfl : { s with dev := _ } = t := Host.Outcome.next.inj h
  dsimp only
  split <;> rfl

/-- No command but the two that switch kennel power touches TBASE. -/
theorem exec_tbase {c : Instr} {s t : State} (hon : c ≠ .kennelPowerOn) (hoff : c ≠ .kennelPowerLost) (h : exec c s = .next t) : t.dev.tbase = s.dev.tbase := by
  obtain ⟨k, f, he, hf⟩ := exec_acts c hon hoff
  obtain rfl : { s with dev := if s.dev.live k then f s.dev else s.dev } = t := Host.Outcome.next.inj ((he s).symm.trans h)
  exact (Kept.ite (hf _ _ (.refl _)) (.refl _)).tbase

/-- A command leaves TBASE as it is or sets it to 0. -/
theorem exec_tbase_cases {c : Instr} {s t : State} (h : exec c s = .next t) : t.dev.tbase = s.dev.tbase ∨ t.dev.tbase = 0 := by
  by_cases hon : c = .kennelPowerOn
  · subst hon
    rw [kennelPowerOn_tbase h]
    split
    · exact .inl rfl
    · exact .inr rfl
  by_cases hoff : c = .kennelPowerLost
  · subst hoff
    rw [kennelPowerLost_tbase h]
    split
    · exact .inr rfl
    · exact .inl rfl
  · exact .inl (exec_tbase hon hoff h)

/-- Settles O59: every command keeps TBASE but the two that switch kennel power, which set it to 0, and a step of time adds 4. -/
theorem onlyLossOfKennelPowerResetsTbase : Obligations.OnlyLossOfKennelPowerResetsTbase := by
  refine ⟨fun s t hk h => ?_, fun s t h0 h => ?_, fun s t hp h => ?_, fun c s t hon hoff h => exec_tbase hon hoff h, fun s t h4 h => ?_⟩
  · rw [kennelPowerOn_tbase h, hk]; rfl
  · rw [kennelPowerLost_tbase h, h0]; rfl
  · rw [step_idle hp h]; exact s.dev.tick_tbase
  · cases hp : s.pending with
    | nil =>
      rw [step_idle hp h, Dev.tick_tbase]
      split
      · rw [BitVec.toNat_add]
        have h64 : (4 : BitVec 64).toNat = 4 := rfl
        omega
      · exact h4
    | cons c rest =>
      rw [step_command hp] at h
      rcases exec_tbase_cases h with h | h
      · rw [h]; exact h4
      · rw [h]; rfl

/-! ### A step of time without the core (R507, R539) -/

theorem Dev.countMs_frame (d : Dev) : d.countMs = { d with cnt := d.countMs.cnt, pwr := { d.pwr with msAt := d.countMs.pwr.msAt } } := by
  unfold Dev.countMs; dsimp only; split <;> rfl

theorem Dev.driveVid_frame (d : Dev) : d.driveVid = { d with pwr := { d.pwr with vid := d.driveVid.pwr.vid, vidAt := d.driveVid.pwr.vidAt } } := by
  unfold Dev.driveVid
  dsimp only
  split
  · rfl
  split <;> rfl

/-- With CORE_EN low CORE_VID is 0. -/
theorem Dev.driveVid_off {d : Dev} (h : d.pwr.coreEn = false) : d.driveVid.pwr.vid = 0 := by
  unfold Dev.driveVid; rw [h]; rfl

/-- TBASE, the count of milliseconds and CORE_VID, before anything else of a step of time. -/
def Dev.counted (d : Dev) : Dev := ({ d with tbase := d.tbase + 4 } : Dev).countMs.driveVid

theorem Dev.counted_frame (d : Dev) : d.counted =
    { d with tbase := d.tbase + 4, cnt := d.counted.cnt, pwr := { d.pwr with msAt := d.counted.pwr.msAt, vid := d.counted.pwr.vid, vidAt := d.counted.pwr.vidAt } } := by
  unfold Dev.counted
  rw [Dev.driveVid_frame, Dev.countMs_frame]

/-- RUNNING is 1 while TBASE counts from the crystal (R29). -/
def Dev.running (d : Dev) : Dev := if d.pwr.xtal && !d.flag F.KNL_TBASE_STAT_RUNNING then d.setFld F.KNL_TBASE_STAT_RUNNING 1 else d

theorem Dev.running_frame (d : Dev) : d.running = { d with regs := d.running.regs } := by
  unfold Dev.running; split <;> rfl

theorem Dev.live_congr {d e : Dev} (hw : e.word F.PWR_STAT_ON.a = d.word F.PWR_STAT_ON.a) (hk : e.pwr.kennel = d.pwr.kennel) (hh : e.pwr.held = d.pwr.held) (hl : e.load = d.load) (k : Nat) :
    e.live k = d.live k := by
  unfold Dev.live Dev.on Dev.fld
  rw [hw, hk, hh, hl]

theorem Dev.running_word (d : Dev) {a : Nat} (ha : a ≠ F.KNL_TBASE_STAT_RUNNING.a) : d.running.word a = d.word a := by
  unfold Dev.running; split
  · exact Dev.word_setFld_ne d _ _ ha
  · rfl

theorem Dev.counted_word (d : Dev) (a : Nat) : d.counted.word a = d.word a := by rw [Dev.counted_frame]; rfl

theorem Dev.counted_running_live (d : Dev) (k : Nat) : d.counted.running.live k = d.live k := by
  refine Dev.live_congr ?_ ?_ ?_ ?_ k
  · rw [Dev.running_word _ (by decide), Dev.counted_word]
  all_goals rw [Dev.running_frame, Dev.counted_frame]

/-- The two together, as a change of the device. -/
theorem Dev.counted_running_frame (d : Dev) : d.counted.running =
    { d with tbase := d.tbase + 4, cnt := d.counted.running.cnt
             pwr := { d.pwr with msAt := d.counted.running.pwr.msAt, vid := d.counted.running.pwr.vid, vidAt := d.counted.running.pwr.vidAt }
             regs := if d.pwr.xtal && !d.flag F.KNL_TBASE_STAT_RUNNING then (d.setFld F.KNL_TBASE_STAT_RUNNING 1).regs else d.regs } := by
  have hr : d.counted.running.regs = if d.pwr.xtal && !d.flag F.KNL_TBASE_STAT_RUNNING then (d.setFld F.KNL_TBASE_STAT_RUNNING 1).regs else d.regs := by
    unfold Dev.running
    rw [Dev.counted_frame]
    exact apply_ite Dev.regs _ _ _
  rw [← hr, Dev.running_frame, Dev.counted_frame]

theorem Dev.counted_running_vid (d : Dev) (h : d.pwr.coreEn = false) : d.counted.running.pwr.vid = 0 := by
  rw [Dev.running_frame]
  exact Dev.driveVid_off (by rw [Dev.countMs_frame]; exact h)

/-- Without the core a step of time is no more than that. -/
theorem Dev.tick_coreless {d : Dev} (hk : d.pwr.kennel = true) (h1 : d.live 1 = false) : d.tick = d.counted.running := by
  have h : ¬(!d.pwr.kennel) = true := by rw [hk]; decide
  have h2 : (!d.counted.running.live 1) = true := by rw [Dev.counted_running_live, h1]; rfl
  exact (if_neg h).trans (if_pos h2)

/-- Settles O56: without the core a step of time is `Dev.counted` and then `Dev.running`, by their frames. -/
theorem idleStepLetsTimeGoOn : Obligations.IdleStepLetsTimeGoOn := by
  intro s hp
  have hs : step s = .next { s with dev := s.dev.tick } := by unfold step; rw [hp]
  refine ⟨_, hs, hp, fun hk => by rw [Dev.tick_unpowered hk], fun hk => ⟨(Dev.tick_kept hk).tbase, fun h1 => ?_⟩⟩
  dsimp only
  rw [Dev.tick_coreless hk h1]
  exact ⟨s.dev.counted_running_frame, s.dev.counted_running_vid⟩

/-! ### Detected faults (R54) -/

theorem Dev.fld_setFld_one (d : Dev) (f : RF) (h : f.lo + 1 ≤ 32) (hn : f.n = 1) : (d.setFld f 1).fld f = 1 := by
  rw [Dev.fld_setFld_same d f 1 (by rw [hn]; exact h), hn]; rfl

/-- Flagging a fault touches the block's FSTAT register alone. -/
theorem Dev.flagFault_frame (d : Dev) (b : Blk) (cls bit : Nat) : d.flagFault b cls bit = { d with regs := (d.flagFault b cls bit).regs } := by
  unfold Dev.flagFault; dsimp only; split <;> rfl

theorem Dev.flagFault_word (d : Dev) (b : Blk) (cls bit : Nat) {a : Nat} (ha : a ≠ blkBase b + 0xFD00) : (d.flagFault b cls bit).word a = d.word a := by
  unfold Dev.flagFault Dev.incSat
  dsimp only
  split
  · rw [Dev.word_setFld_ne _ (fCOUNT b) _ ha, Dev.word_setFld_ne _ (fFIRST b) _ ha, Dev.word_setFld_ne _ (fFBIT b bit) _ ha]
  · rw [Dev.word_setFld_ne _ (fCOUNT b) _ ha, Dev.word_setFld_ne _ (fFBIT b bit) _ ha]

section
variable (d : Dev) (b : Blk) {cls bit : Nat}

theorem Dev.flagFault_bit (hb : bit < 8) : (d.flagFault b cls bit).fld (fFBIT b bit) = 1 := by
  have h1 := d.fld_setFld_one (fFBIT b bit) (show bit + 1 ≤ 32 by omega) rfl
  unfold Dev.flagFault Dev.incSat
  dsimp only
  rw [Dev.fld_setFld_disjoint _ (fCOUNT b) (fFBIT b bit) _ rfl (.inr (show bit + 1 ≤ 8 by omega)) (show bit + 1 ≤ 32 by omega)]
  split
  · rw [Dev.fld_setFld_disjoint _ (fFIRST b) (fFBIT b bit) _ rfl (.inr (show bit + 1 ≤ 16 by omega)) (show bit + 1 ≤ 32 by omega)]
    exact h1
  · exact h1

theorem Dev.flagFault_count (hb : bit < 8) : (d.flagFault b cls bit).fld (fCOUNT b) = min (d.fld (fCOUNT b) + 1) 255 := by
  have h1 : (d.setFld (fFBIT b bit) 1).fld (fCOUNT b) = d.fld (fCOUNT b) :=
    Dev.fld_setFld_disjoint d (fFBIT b bit) (fCOUNT b) 1 rfl (.inl (show bit + 1 ≤ 8 by omega)) (show 8 + 8 ≤ 32 by decide)
  have h2 (e : Dev) : (e.incSat (fCOUNT b) 1).fld (fCOUNT b) = min (e.fld (fCOUNT b) + 1) 255 := by
    unfold Dev.incSat
    rw [Dev.fld_setFld_same _ _ _ (show 8 + 8 ≤ 32 by decide)]
    exact Nat.mod_eq_of_lt (Nat.lt_of_le_of_lt (Nat.min_le_right _ 255) (show 255 < 2 ^ 8 by decide))
  unfold Dev.flagFault
  dsimp only
  rw [h2]
  split
  · rw [Dev.fld_setFld_disjoint _ (fFIRST b) (fCOUNT b) _ rfl (.inr (show 8 + 8 ≤ 16 by decide)) (show 8 + 8 ≤ 32 by decide), h1]
  · rw [h1]

theorem Dev.flagFault_first (hb : bit < 8) (hc : cls < 256) :
    (d.flagFault b cls bit).fld (fFIRST b) = if d.fld (fFIRST b) = 0 then cls else d.fld (fFIRST b) := by
  have h1 : (d.setFld (fFBIT b bit) 1).fld (fFIRST b) = d.fld (fFIRST b) :=
    Dev.fld_setFld_disjoint d (fFBIT b bit) (fFIRST b) 1 rfl (.inl (show bit + 1 ≤ 16 by omega)) (show 16 + 8 ≤ 32 by decide)
  unfold Dev.flagFault Dev.incSat
  dsimp only
  rw [Dev.fld_setFld_disjoint _ (fCOUNT b) (fFIRST b) _ rfl (.inl (show 8 + 8 ≤ 16 by decide)) (show 16 + 8 ≤ 32 by decide), h1]
  split
  · rw [Dev.fld_setFld_same _ _ _ (show 16 + 8 ≤ 32 by decide)]
    exact Nat.mod_eq_of_lt hc
  · exact h1
end

/-- No block's FSTAT register is LOG.INJECT. -/
theorem fstat_ne_logInject (b : Blk) : blkBase b + 0xFD00 ≠ 0x0A000060 := by
  cases b <;> simp [blkBase]
  omega

/-- A fault's event leaves what was flagged. -/
theorem Dev.fault_fld (d : Dev) (b : Blk) (cls bit p2 : Nat) {f : RF} (hf : f.a = blkBase b + 0xFD00) : (d.fault b cls bit p2).fld f = (d.flagFault b cls bit).fld f := by
  unfold Dev.fld
  rw [hf]
  exact congrArg (getBits · f.lo f.n) (Dev.event_word _ _ _ _ _ _ _ (fstat_ne_logInject b))

theorem Dev.fault_frame (d : Dev) (b : Blk) (cls bit p2 : Nat) :
    d.fault b cls bit p2 = { d with regs := (d.fault b cls bit p2).regs, log := (d.fault b cls bit p2).log, lost := (d.fault b cls bit p2).lost, hst := (d.fault b cls bit p2).hst } := by
  unfold Dev.fault
  dsimp only
  rw [Dev.event_frame, Dev.flagFault_frame]

/-! ### An event that LOG takes (R42) -/

/-- What raising a critical warning leaves alone. -/
theorem Dev.critWarn_frame (d : Dev) (bits info : Nat) : d.critWarn bits info = { d with log := { d.log with crit := d.log.crit ||| bits }, hst := (d.critWarn bits info).hst } := by
  unfold Dev.critWarn
  rw [Dev.raiseAenAll_frame]

/-- With a credit, no injection armed and nothing lost before, an event goes to the end of LOG's pool. -/
theorem Dev.event_pushed {d : Dev} {b : Blk} (hc : d.logCredit = true) (ha : d.flag F.LOG_INJECT_ARM = false) (hl : (d.lost.get (fun _ => {}) (blkKey b)).count = 0)
    (n p1 p2 p3 src : Nat) : ∃ e, (d.event b n p1 p2 p3 src).log.inq = d.log.inq ++ [e] ∧ e.code = blkCls b * 256 + n ∧ e.p1 = p1 % 2 ^ 32 := by
  have key : ∀ x : Dev, x = { d with log := { d.log with crit := x.log.crit }, hst := x.hst } → ∀ e : Event,
      (if x.flag F.LOG_INJECT_ARM && x.fld F.LOG_INJECT_KIND = 2 then (x.setFlag F.LOG_INJECT_ARM false).loseEvent b true
        else if (x.reportLost b).logCredit then (x.reportLost b).pushEvent e else (x.reportLost b).loseEvent b).log.inq = d.log.inq ++ [e] := by
    intro x hx e
    have h1 : x.flag F.LOG_INJECT_ARM = false := by rw [hx]; exact ha
    have h2 : x.logCredit = true := by rw [hx]; exact hc
    have h3 : x.reportLost b = x := by
      unfold Dev.reportLost
      rw [show x.lost = d.lost by rw [hx]]
      simp [hl]
    rw [h1, h3, h2, if_neg (by simp), if_pos rfl]
    rw [hx]; rfl
  refine ⟨_, key (if critOf (blkCls b * 256 + n) = 0 then d else d.critWarn (critOf (blkCls b * 256 + n)) 0) ?_ _, rfl, rfl⟩
  split
  · rfl
  · rw [Dev.critWarn_frame]

/-- LOG's credit rests on the pool's registers, on READY and on what waits. -/
theorem Dev.logCredit_congr {d e : Dev} (hl : e.log.inq = d.log.inq) (hw : ∀ a ∈ [(fCREDITS .log 0).a, (fFENCED .log 0).a, F.LOG_STAT_READY.a], e.word a = d.word a) :
    e.logCredit = d.logCredit := by
  simp only [List.forall_mem_cons, List.not_mem_nil, false_implies, implies_true, and_true] at hw
  obtain ⟨h1, h2, h3⟩ := hw
  unfold Dev.logCredit Dev.flag
  rw [hl, Dev.fld_congr rfl h1, Dev.fld_congr rfl h2, Dev.fld_congr rfl h3]

/-! ### The two counters of KNL (R26) -/

theorem exec_tbaseDupMismatch (s : State) : exec .tbaseDupMismatch s =
    s.doesIn 0 fun d => if d.flag F.KNL_TBASE_STAT_DUP_MISMATCH then d else (d.setFld F.KNL_TBASE_STAT_DUP_MISMATCH 1).fault .knl 5 4 0 := rfl

/-- Settles O4: the mismatch is a detected fault of class 0x05 (R54), whose flagging `Dev.flagFault` and whose event `Dev.event` describe. -/
theorem counterMismatchIsCountedOnce : Obligations.CounterMismatchIsCountedOnce := by
  intro s h0
  refine ⟨fun hm => gives_of_eq (exec_tbaseDupMismatch s) h0 (if_pos hm) rfl, fun hm => gives_of_eq (exec_tbaseDupMismatch s) h0 (if_neg (by simp [hm])) ?_⟩
  have hw (a : Nat) (ha : a ≠ F.KNL_TBASE_STAT_DUP_MISMATCH.a) : (s.dev.setFld F.KNL_TBASE_STAT_DUP_MISMATCH 1).word a = s.dev.word a := Dev.word_setFld_ne _ _ _ ha
  have hf (f : RF) (hf : f.a = blkBase .knl + 0xFD00) : (s.dev.setFld F.KNL_TBASE_STAT_DUP_MISMATCH 1).fld f = s.dev.fld f := Dev.fld_setFld_addr _ _ _ _ (by rw [hf]; decide)
  refine ⟨?_, ?_, ?_, ?_, fun hc ha hl => ?_, ?_, ?_⟩
  · have h1 := s.dev.fld_setFld_one F.KNL_TBASE_STAT_DUP_MISMATCH (by decide) rfl
    have h2 : ((s.dev.setFld F.KNL_TBASE_STAT_DUP_MISMATCH 1).fault .knl 5 4 0).word F.KNL_TBASE_STAT_DUP_MISMATCH.a = (s.dev.setFld F.KNL_TBASE_STAT_DUP_MISMATCH 1).word F.KNL_TBASE_STAT_DUP_MISMATCH.a :=
      (Dev.event_word _ _ _ _ _ _ _ (by decide)).trans (Dev.flagFault_word _ _ _ _ (by decide))
    unfold Dev.flag
    rw [Dev.fld_congr rfl h2, h1]; rfl
  · rw [Dev.fault_fld _ _ _ _ _ rfl, Dev.flagFault_bit _ _ (by decide)]
  · rw [Dev.fault_fld _ _ _ _ _ rfl, Dev.flagFault_count _ _ (by decide), hf _ rfl]
  · rw [Dev.fault_fld _ _ _ _ _ rfl, Dev.flagFault_first _ _ (by decide) (by decide), hf _ rfl]
  · have hq (a : Nat) (h1 : a ≠ F.KNL_TBASE_STAT_DUP_MISMATCH.a) (h2 : a ≠ blkBase .knl + 0xFD00) :
        ((s.dev.setFld F.KNL_TBASE_STAT_DUP_MISMATCH 1).flagFault .knl 5 4).word a = s.dev.word a := (Dev.flagFault_word _ _ _ _ h2).trans (hw a h1)
    have hl1 : ((s.dev.setFld F.KNL_TBASE_STAT_DUP_MISMATCH 1).flagFault .knl 5 4).lost = s.dev.lost := by rw [Dev.flagFault_frame]; rfl
    have hl2 : ((s.dev.setFld F.KNL_TBASE_STAT_DUP_MISMATCH 1).flagFault .knl 5 4).log = s.dev.log := by rw [Dev.flagFault_frame]; rfl
    rw [← hl1] at hl
    rw [← hl2]
    refine Dev.event_pushed ((Dev.logCredit_congr (congrArg LogS.inq hl2) ?_).trans hc) ?_ hl 0xF9 5 0 _ _
    · simp only [List.forall_mem_cons, List.not_mem_nil, false_implies, implies_true, and_true]
      exact ⟨hq _ (by decide) (by decide), hq _ (by decide) (by decide), hq _ (by decide) (by decide)⟩
    · unfold Dev.flag
      rw [Dev.fld_congr rfl (hq _ (by decide) (by decide))]
      exact ha
  · rw [Dev.fault_frame]; rfl
  · rw [Dev.fault_frame]; rfl
end Sys2Proof.Machine
end

section
/-! SUPPORT. Credit pools: what sending, taking and freeing make of each pool, and the tokens and credits of R16 and R37 to R54. -/
namespace Sys2Proof.Machine

/-! ### One pool after a change of another -/

/-- A pool is found by its key alone. -/
theorem Dev.pool_congr_key (d : Dev) {b b' : Blk} {j j' : Nat} (h : poolKey b' j' = poolKey b j) : d.pool b' j' = d.pool b j := by unfold Dev.pool; rw [h]

theorem Dev.pool_setPool (d : Dev) (b : Blk) (j : Nat) (p : PoolS) (b' : Blk) (j' : Nat) :
    (d.setPool b j p).pool b' j' = if poolKey b' j' = poolKey b j then p else d.pool b' j' := by
  split
  · next h => rw [Dev.pool_congr_key _ h]; exact Tab.get_set_same _ _ _ _
  · next h => exact Tab.get_set_ne _ _ _ h

theorem Dev.pool_setPool_same (d : Dev) (b : Blk) (j : Nat) (p : PoolS) : (d.setPool b j p).pool b j = p := by rw [Dev.pool_setPool, if_pos rfl]

theorem Dev.pool_setPool_ne (d : Dev) {b b' : Blk} {j j' : Nat} (p : PoolS) (h : poolKey b' j' ≠ poolKey b j) : (d.setPool b j p).pool b' j' = d.pool b' j' := by
  rw [Dev.pool_setPool, if_neg h]

theorem Dev.pool_congr {d e : Dev} (hp : e.pools = d.pools) (hv : e.v = d.v) (b : Blk) (j : Nat) : e.pool b j = d.pool b j := by unfold Dev.pool; rw [hp, hv]

theorem poolKey_inj {b : Blk} {j j' : Nat} : poolKey b j = poolKey b j' ↔ j = j' := by unfold poolKey; omega

/-- A hand-off of FAB answers into FAB's pool 2, every other into its own return queue; the pools as they stand do not matter. -/
theorem Dev.backPool_congr {d e : Dev} (hv : e.v = d.v) (b : Blk) (j : Nat) : e.backPool b j = d.backPool b j := by unfold Dev.backPool; rw [hv]

theorem Dev.backPool_setPool (d : Dev) (b : Blk) (j : Nat) (p : PoolS) (b' : Blk) (j' : Nat) : (d.setPool b j p).backPool b' j' = d.backPool b' j' := rfl

/-! ### Sending a token (R16, R39, R40) -/

theorem Dev.sendTo_frame (d : Dev) (b : Blk) (j : Nat) (x : Bytes) : d.sendTo b j x = { d with pools := (d.sendTo b j x).pools } := by
  unfold Dev.sendTo; split <;> rfl

theorem Dev.sendTo_eq (d : Dev) {b : Blk} {j : Nat} {p : PoolCfg} (hp : poolAt d.v b j = some p) (x : Bytes) : d.sendTo b j x = d.setPool b j ((d.pool b j).send (mkToken p.cls x)) := by
  unfold Dev.sendTo; rw [hp]

theorem Dev.backTake_eq (d : Dev) (b : Blk) (j : Nat) :
    d.backTake b j = d.setPool (d.backPool b j).1 (d.backPool b j).2 { d.pool (d.backPool b j).1 (d.backPool b j).2 with reserved := (d.pool (d.backPool b j).1 (d.backPool b j).2).reserved + 1 } := rfl

theorem Dev.backDrop_eq (d : Dev) (b : Blk) (j : Nat) :
    d.backDrop b j = d.setPool (d.backPool b j).1 (d.backPool b j).2 { d.pool (d.backPool b j).1 (d.backPool b j).2 with reserved := (d.pool (d.backPool b j).1 (d.backPool b j).2).reserved - 1 } := rfl

/-- The DATA that travels with a token goes too. -/
def Dev.sendWith (d : Dev) (b : Blk) : Option (Fin 32 × Bytes) → Dev
  | some (jd, x) => d.sendTo b jd x
  | none => d

/-- A token that will provoke a response reserves a slot for it. -/
def Dev.reserveSlot (d : Dev) (b : Blk) (j : Nat) (rsp : Bool) : Dev := if rsp then d.backTake b j else d

theorem exec_tokenSend_forward (b : Blk) (j : Fin 32) (x : Bytes) (data : Option (Fin 32 × Bytes)) (rsp : Bool) (s : State) : exec (.tokenSend b j x data rsp false) s =
    s.doesIn 0 fun d => if d.forwardOk b j data rsp then ((d.sendTo b j x).sendWith b data).reserveSlot b j rsp else d := rfl

theorem exec_tokenSend_back (b : Blk) (j : Fin 32) (x : Bytes) (data : Option (Fin 32 × Bytes)) (rsp : Bool) (s : State) : exec (.tokenSend b j x data rsp true) s =
    s.doesIn 0 fun d => if (d.pool b j).back.length < (d.pool (d.backPool b j).1 (d.backPool b j).2).reserved then
      d.setPool b j { d.pool b j with back := (d.pool b j).back ++ [mkToken .rsp x] } else d := rfl

theorem Dev.sendWith_frame (d : Dev) (b : Blk) (data : Option (Fin 32 × Bytes)) : d.sendWith b data = { d with pools := (d.sendWith b data).pools } := by
  unfold Dev.sendWith
  split
  · exact d.sendTo_frame _ _ _
  · rfl

theorem Dev.reserveSlot_frame (d : Dev) (b : Blk) (j : Nat) (rsp : Bool) : d.reserveSlot b j rsp = { d with pools := (d.reserveSlot b j rsp).pools } := by
  unfold Dev.reserveSlot; split <;> rfl

/-- A reservation counts in its return queue and changes nothing else of any pool. -/
theorem Dev.reserveSlot_pool (d : Dev) (b : Blk) (j : Nat) (rsp : Bool) (b' : Blk) (j' : Nat) :
    (d.reserveSlot b j rsp).pool b' j' = if rsp = true ∧ poolKey b' j' = poolKey (d.backPool b j).1 (d.backPool b j).2
      then { d.pool b' j' with reserved := (d.pool b' j').reserved + 1 } else d.pool b' j' := by
  unfold Dev.reserveSlot
  cases rsp with
  | false => rfl
  | true =>
    rw [if_pos rfl, Dev.backTake_eq, Dev.pool_setPool]
    split
    · next h => rw [if_pos ⟨rfl, h⟩, Dev.pool_congr_key _ h]
    · next h => rw [if_neg fun c => h c.2]

/-- A released reservation counts in its return queue and changes nothing else of any pool. -/
theorem Dev.backDrop_pool (d : Dev) (b : Blk) (j : Nat) (b' : Blk) (j' : Nat) :
    (d.backDrop b j).pool b' j' = if poolKey b' j' = poolKey (d.backPool b j).1 (d.backPool b j).2 then { d.pool b' j' with reserved := (d.pool b' j').reserved - 1 } else d.pool b' j' := by
  rw [Dev.backDrop_eq, Dev.pool_setPool]
  split
  · next h => rw [Dev.pool_congr_key _ h]
  · rfl

/-- A token that may go holds a credit; its DATA goes on another pool with a credit of its own. -/
theorem Dev.forwardOk_credits {d : Dev} {b : Blk} {j : Fin 32} {data : Option (Fin 32 × Bytes)} {rsp : Bool} {p : PoolCfg} (hp : poolAt d.v b j = some p)
    (h : d.forwardOk b j data rsp = true) :
    0 < (d.pool b j).held ∧ ∀ jd x, data = some (jd, x) → ∃ q, poolAt d.v b jd = some q ∧ jd.val ≠ j.val ∧ 0 < (d.pool b jd).held := by
  unfold Dev.forwardOk at h
  rw [hp] at h
  simp only [Bool.and_eq_true] at h
  obtain ⟨⟨hs, hd⟩, -⟩ := h
  have held (i : Nat) (hi : d.canSend b i = true) : 0 < (d.pool b i).held := by
    unfold Dev.canSend at hi
    rw [Bool.and_eq_true] at hi
    exact of_decide_eq_true hi.2
  refine ⟨held j hs, ?_⟩
  rintro jd x rfl
  cases hq : poolAt d.v b jd with
  | none => simp [hq] at hd
  | some q =>
    simp only [hq, Bool.and_eq_true] at hd
    obtain ⟨⟨hw, -⟩, hsd⟩ := hd
    refine ⟨q, rfl, fun e => ?_, held jd hsd⟩
    obtain rfl : q = p := by rw [e, hp] at hq; exact (Option.some.inj hq).symm
    simp [mayWait] at hw

/-- The pools after a token and its DATA have gone. -/
theorem Dev.sendWith_pool {d : Dev} {b : Blk} {j : Fin 32} {p : PoolCfg} {data : Option (Fin 32 × Bytes)} {rsp : Bool} (hp : poolAt d.v b j = some p) (h : d.forwardOk b j data rsp = true)
    (x : Bytes) :
    ((d.sendTo b j x).sendWith b data).pool b j = (d.pool b j).send (mkToken p.cls x) ∧
    (∀ jd y q, data = some (jd, y) → poolAt d.v b jd = some q → ((d.sendTo b j x).sendWith b data).pool b jd = (d.pool b jd).send (mkToken q.cls y)) ∧
    (∀ b' j', poolKey b' j' ≠ poolKey b j → (∀ jd y, data = some (jd, y) → poolKey b' j' ≠ poolKey b jd) → ((d.sendTo b j x).sendWith b data).pool b' j' = d.pool b' j') := by
  have hj : (d.sendTo b j x) = d.setPool b j ((d.pool b j).send (mkToken p.cls x)) := d.sendTo_eq hp x
  obtain ⟨-, hd⟩ := Dev.forwardOk_credits hp h
  cases data with
  | none =>
    refine ⟨?_, fun _ _ _ h => (nomatch h), fun b' j' h1 _ => ?_⟩
    · rw [Dev.sendWith, hj, Dev.pool_setPool_same]
    · rw [Dev.sendWith, hj, Dev.pool_setPool_ne _ _ h1]
  | some y =>
    obtain ⟨jd, y⟩ := y
    obtain ⟨q, hq, hne, -⟩ := hd jd y rfl
    have hk : poolKey b jd ≠ poolKey b j := fun e => hne (poolKey_inj.1 e)
    have hs : (d.sendTo b j x).sendWith b (some (jd, y)) = (d.setPool b j ((d.pool b j).send (mkToken p.cls x))).setPool b jd ((d.pool b jd).send (mkToken q.cls y)) := by
      have he := Dev.sendTo_eq (d.setPool b j ((d.pool b j).send (mkToken p.cls x))) (p := q) hq y
      rw [Dev.pool_setPool_ne _ _ hk] at he
      rw [Dev.sendWith, hj, he]
    rw [hs]
    refine ⟨?_, ?_, fun b' j' h1 h2 => ?_⟩
    · rw [Dev.pool_setPool_ne _ _ hk.symm, Dev.pool_setPool_same]
    · rintro jd' y' q' he hq'
      obtain ⟨rfl, rfl⟩ := Prod.mk.inj (Option.some.inj he)
      obtain rfl := Option.some.inj (hq.symm.trans hq')
      rw [Dev.pool_setPool_same]
    · rw [Dev.pool_setPool_ne _ _ (h2 jd y rfl), Dev.pool_setPool_ne _ _ h1]

theorem gives_tokenSend_forward {s : State} {b : Blk} {j : Fin 32} {payload : Bytes} {data : Option (Fin 32 × Bytes)} {rsp : Bool} {p : PoolCfg} (h0 : s.dev.live 0 = true)
    (hp : poolAt s.dev.v b j = some p) (h : s.dev.forwardOk b j data rsp = true) :
    Gives (.tokenSend b j payload data rsp false) s fun d =>
      (d.pool b j).held + 1 = (s.dev.pool b j).held ∧ (d.pool b j).queue = (s.dev.pool b j).queue ++ [mkToken p.cls payload] ∧
      (d.pool b j).busy = (s.dev.pool b j).busy ∧
      (rsp = true → s.dev.backPool b j = (b, j.val) → (d.pool b j).reserved = (s.dev.pool b j).reserved + 1) ∧
      (rsp = false → (d.pool b j).reserved = (s.dev.pool b j).reserved) ∧
      (∀ jd x q, data = some (jd, x) → poolAt s.dev.v b jd = some q →
        (d.pool b jd).held + 1 = (s.dev.pool b jd).held ∧ (d.pool b jd).queue = (s.dev.pool b jd).queue ++ [mkToken q.cls x]) ∧
      (∀ b' j', poolKey b' j' ≠ poolKey b j → (∀ jd x, data = some (jd, x) → poolKey b' j' ≠ poolKey b jd) →
        (rsp = true → poolKey b' j' ≠ poolKey (s.dev.backPool b j).1 (s.dev.backPool b j).2) → d.pool b' j' = s.dev.pool b' j') ∧
      d = { s.dev with pools := d.pools } := by
  refine gives_of_eq (exec_tokenSend_forward b j payload data rsp s) h0 (if_pos h) ?_
  obtain ⟨hheld, hdata⟩ := Dev.forwardOk_credits hp h
  obtain ⟨hj, hd, ho⟩ := Dev.sendWith_pool hp h payload
  have hf : (s.dev.sendTo b j payload).sendWith b data = { s.dev with pools := ((s.dev.sendTo b j payload).sendWith b data).pools } := by rw [Dev.sendWith_frame, Dev.sendTo_frame]
  generalize (s.dev.sendTo b j payload).sendWith b data = e at hj hd ho hf ⊢
  have hb : e.backPool b j = s.dev.backPool b j := Dev.backPool_congr (by rw [hf]) _ _
  have hr := e.reserveSlot_pool b j rsp
  rw [hb] at hr
  have fld {α : Type} (f : PoolS → α) (hf : ∀ p n, f { p with reserved := n } = f p) (b' : Blk) (j' : Nat) : f ((e.reserveSlot b j rsp).pool b' j') = f (e.pool b' j') := by
    rw [hr]; split
    · exact hf _ _
    · rfl
  refine ⟨?_, ?_, ?_, fun h1 h2 => ?_, fun h1 => ?_, fun jd x q he hq => ⟨?_, ?_⟩, fun b' j' h1 h2 h3 => ?_, ?_⟩
  · rw [fld PoolS.held fun _ _ => rfl, hj]; exact Nat.sub_add_cancel hheld
  · rw [fld PoolS.queue fun _ _ => rfl, hj]; rfl
  · rw [fld PoolS.busy fun _ _ => rfl, hj]; rfl
  · rw [hr, if_pos ⟨h1, by rw [h2]⟩, hj]; rfl
  · rw [hr, if_neg (by simp [h1]), hj]; rfl
  · obtain ⟨-, -, -, hp⟩ := hdata jd x he
    rw [fld PoolS.held fun _ _ => rfl, hd jd x q he hq]; exact Nat.sub_add_cancel hp
  · rw [fld PoolS.queue fun _ _ => rfl, hd jd x q he hq]; rfl
  · rw [hr, if_neg fun c => h3 c.1 c.2]; exact ho b' j' h1 h2
  · rw [Dev.reserveSlot_frame, hf]

theorem gives_tokenSend_back {s : State} (b : Blk) (j : Fin 32) (payload : Bytes) (data : Option (Fin 32 × Bytes)) (rsp : Bool) (h0 : s.dev.live 0 = true) :
    Gives (.tokenSend b j payload data rsp true) s fun d =>
      ((s.dev.pool b j).back.length < (s.dev.pool (s.dev.backPool b j).1 (s.dev.backPool b j).2).reserved →
        d.pool b j = { s.dev.pool b j with back := (s.dev.pool b j).back ++ [mkToken .rsp payload] }) ∧
      (¬(s.dev.pool b j).back.length < (s.dev.pool (s.dev.backPool b j).1 (s.dev.backPool b j).2).reserved → d.pool b j = s.dev.pool b j) ∧
      (∀ b' j', poolKey b' j' ≠ poolKey b j → d.pool b' j' = s.dev.pool b' j') ∧ d = { s.dev with pools := d.pools } := by
  by_cases h : (s.dev.pool b j).back.length < (s.dev.pool (s.dev.backPool b j).1 (s.dev.backPool b j).2).reserved
  · exact gives_of_eq (exec_tokenSend_back b j payload data rsp s) h0 (if_pos h)
      ⟨fun _ => Dev.pool_setPool_same _ _ _ _, fun c => absurd h c, fun b' j' hk => Dev.pool_setPool_ne _ _ hk, rfl⟩
  · exact gives_of_eq (exec_tokenSend_back b j payload data rsp s) h0 (if_neg h) ⟨fun c => absurd c h, fun _ => rfl, fun _ _ _ => rfl, rfl⟩

/-! ### Taking a token (R37, R52, R54) -/

/-- The token's byte parity is checked, and the read of its storage. -/
def Dev.tokenChecked (d : Dev) (b : Blk) (j : Nat) (good : Bool) (sram : SramBits) : Dev := (if good then d else d.fault b 1 0 j).sram b 0 (sramRead sram)

theorem exec_tokenAccept (b : Blk) (j : Fin 32) (flip : Option Nat) (sram : SramBits) (s : State) : exec (.tokenAccept b j false flip sram) s =
    s.doesIn 0 fun d => match (d.pool b j).queue with
      | [] => d
      | t :: _ => if d.flag (fFENCED b j) then d else (d.setPool b j (d.pool b j).take).tokenChecked b j (t.seen flip).good sram := rfl

theorem exec_tokenAccept_back (b : Blk) (j : Fin 32) (flip : Option Nat) (sram : SramBits) (s : State) : exec (.tokenAccept b j true flip sram) s =
    s.doesIn 0 fun d => match (d.pool b j).back with
      | [] => d
      | t :: r => ((d.setPool b j { d.pool b j with back := r }).backDrop b j).tokenChecked b j (t.seen flip).good sram := rfl

theorem Dev.sram_frame (d : Dev) (b : Blk) (m : Nat) (r : SramRead) :
    d.sram b m r = { d with regs := (d.sram b m r).regs, log := (d.sram b m r).log, lost := (d.sram b m r).lost, hst := (d.sram b m r).hst, mem := (d.sram b m r).mem, cnt := (d.sram b m r).cnt } := by
  unfold Dev.sram
  split
  · rfl
  · dsimp only
    rw [Dev.event_frame]
    split <;> rfl
  · dsimp only
    rw [Dev.event_frame, Dev.flagFault_frame]
    split <;> rfl

section
variable (d : Dev) (b : Blk) (j : Nat) (good : Bool) (sram : SramBits)

theorem Dev.tokenChecked_frame : d.tokenChecked b j good sram =
    { d with regs := (d.tokenChecked b j good sram).regs, log := (d.tokenChecked b j good sram).log, lost := (d.tokenChecked b j good sram).lost, hst := (d.tokenChecked b j good sram).hst
             mem := (d.tokenChecked b j good sram).mem, cnt := (d.tokenChecked b j good sram).cnt } := by
  unfold Dev.tokenChecked
  rw [Dev.sram_frame]
  split
  · rfl
  · rw [Dev.fault_frame]

theorem Dev.tokenChecked_pool (b' : Blk) (j' : Nat) : (d.tokenChecked b j good sram).pool b' j' = d.pool b' j' :=
  Dev.pool_congr (by rw [Dev.tokenChecked_frame]) (by rw [Dev.tokenChecked_frame]) _ _

variable {sram} (hs : sramRead sram = .ok)
include hs

theorem Dev.tokenChecked_good : d.tokenChecked b j true sram = d := by unfold Dev.tokenChecked; rw [hs]; rfl

theorem Dev.tokenChecked_bad : d.tokenChecked b j false sram = d.fault b 1 0 j := by unfold Dev.tokenChecked; rw [hs]; rfl
end

/-- A token whose parity does not hold flags the block's parity fault (R54). -/
theorem Dev.parityFault_flags (d : Dev) (b : Blk) (j : Nat) :
    (d.fault b 1 0 j).fld (fFBIT b 0) = 1 ∧ (d.fault b 1 0 j).fld (fCOUNT b) = min (d.fld (fCOUNT b) + 1) 255 ∧ (d.fld (fFIRST b) = 0 → (d.fault b 1 0 j).fld (fFIRST b) = 1) := by
  refine ⟨?_, ?_, fun h => ?_⟩
  · rw [Dev.fault_fld _ _ _ _ _ rfl, Dev.flagFault_bit _ _ (by decide)]
  · rw [Dev.fault_fld _ _ _ _ _ rfl, Dev.flagFault_count _ _ (by decide)]
  · rw [Dev.fault_fld _ _ _ _ _ rfl, Dev.flagFault_first _ _ (by decide) (by decide), if_pos h]

theorem gives_tokenAccept {s : State} {b : Blk} {j : Fin 32} {flip : Option Nat} {sram : SramBits} {t : Token} {r : List Token} (h0 : s.dev.live 0 = true)
    (hq : (s.dev.pool b j).queue = t :: r) (hf : s.dev.flag (fFENCED b j) = false) :
    Gives (.tokenAccept b j false flip sram) s fun d =>
      d.pool b j = { s.dev.pool b j with queue := r, busy := (s.dev.pool b j).busy + 1 } ∧
      (∀ b' j', poolKey b' j' ≠ poolKey b j → d.pool b' j' = s.dev.pool b' j') ∧
      ((t.seen flip).good = true → sramRead sram = .ok → d = { s.dev with pools := d.pools }) ∧
      ((t.seen flip).good = false → sramRead sram = .ok → d.fld (fFBIT b 0) = 1 ∧ d.fld (fCOUNT b) = min (s.dev.fld (fCOUNT b) + 1) 255 ∧
        (s.dev.fld (fFIRST b) = 0 → d.fld (fFIRST b) = 1) ∧ d = { s.dev with pools := d.pools, regs := d.regs, log := d.log, lost := d.lost, hst := d.hst }) ∧
      d = { s.dev with pools := d.pools, regs := d.regs, log := d.log, lost := d.lost, hst := d.hst, mem := d.mem, cnt := d.cnt } := by
  refine gives_of_eq (exec_tokenAccept b j flip sram s) h0 (e := (s.dev.setPool b j (s.dev.pool b j).take).tokenChecked b j (t.seen flip).good sram) ?_ ⟨?_, ?_, ?_, ?_, ?_⟩
  · rw [hq]
    exact if_neg (by simp [hf])
  · rw [Dev.tokenChecked_pool, Dev.pool_setPool_same, PoolS.take, hq]; rfl
  · intro b' j' hk
    rw [Dev.tokenChecked_pool, Dev.pool_setPool_ne _ _ hk]
  · intro hg hs
    rw [hg, Dev.tokenChecked_good _ _ _ hs]; rfl
  · intro hg hs
    obtain ⟨h1, h2, h3⟩ := (s.dev.setPool b j (s.dev.pool b j).take).parityFault_flags b j
    rw [hg, Dev.tokenChecked_bad _ _ _ hs]
    exact ⟨h1, h2, h3, by rw [Dev.fault_frame]; rfl⟩
  · rw [Dev.tokenChecked_frame]; rfl

theorem gives_tokenAccept_back {s : State} {b : Blk} {j : Fin 32} {flip : Option Nat} {t : Token} {r : List Token} (h0 : s.dev.live 0 = true) (hb : (s.dev.pool b j).back = t :: r) :
    Gives (.tokenAccept b j true flip {}) s fun d =>
      (d.pool b j).back = r ∧ (d.pool b j).queue = (s.dev.pool b j).queue ∧
      (d.pool (s.dev.backPool b j).1 (s.dev.backPool b j).2).reserved = (s.dev.pool (s.dev.backPool b j).1 (s.dev.backPool b j).2).reserved - 1 ∧
      ((t.seen flip).good = true → d = { s.dev with pools := d.pools }) ∧
      ((t.seen flip).good = false → d.fld (fFBIT b 0) = 1 ∧ d = { s.dev with pools := d.pools, regs := d.regs, log := d.log, lost := d.lost, hst := d.hst }) := by
  have fld {α : Type} (f : PoolS → α) (hf : ∀ p n, f { p with reserved := n } = f p) (d : Dev) : f ((d.backDrop b j).pool b j) = f (d.pool b j) := by
    rw [Dev.backDrop_pool]
    split
    · exact hf _ _
    · rfl
  refine gives_of_eq (exec_tokenAccept_back b j flip {} s) h0
    (e := ((s.dev.setPool b j { s.dev.pool b j with back := r }).backDrop b j).tokenChecked b j (t.seen flip).good {}) (by rw [hb]) ⟨?_, ?_, ?_, ?_, ?_⟩
  · rw [Dev.tokenChecked_pool, fld PoolS.back fun _ _ => rfl, Dev.pool_setPool_same]
  · rw [Dev.tokenChecked_pool, fld PoolS.queue fun _ _ => rfl, Dev.pool_setPool_same]
  · rw [Dev.tokenChecked_pool, Dev.backDrop_pool, Dev.backPool_setPool, if_pos rfl, Dev.pool_setPool]
    split
    · next h => rw [Dev.pool_congr_key _ h]
    · rfl
  · intro hg
    rw [hg, Dev.tokenChecked_good _ _ _ rfl]; rfl
  · intro hg
    rw [hg, Dev.tokenChecked_bad _ _ _ rfl]
    exact ⟨(Dev.parityFault_flags _ b j).1, by rw [Dev.fault_frame]; rfl⟩

/-! ### Freeing a slot (R38, R44, R52) -/

theorem exec_creditReturn (b : Blk) (j : Fin 32) (s : State) : exec (.creditReturn b j) s = s.doesIn 0 fun d => d.freeSlot b j := rfl

theorem Dev.freeSlot_frame (d : Dev) (b : Blk) (j : Nat) : d.freeSlot b j = { d with pools := (d.freeSlot b j).pools } := by
  unfold Dev.freeSlot; split <;> rfl

theorem Dev.freeSlot_fenced {d : Dev} {b : Blk} {j : Nat} (hf : d.flag (fFENCED b j) = true) : d.freeSlot b j = d := by unfold Dev.freeSlot; rw [if_pos hf]

theorem Dev.freeSlot_open {d : Dev} {b : Blk} {j : Nat} (hf : d.flag (fFENCED b j) = false) : d.freeSlot b j = d.setPool b j ((d.pool b j).free (d.fld (fCREDITS b j))) := by
  unfold Dev.freeSlot; rw [if_neg (by simp [hf])]

theorem PoolS.free_idle {p : PoolS} (hb : p.busy = 0) (c : Nat) : p.free c = p := by unfold PoolS.free; rw [if_pos hb]

theorem PoolS.free_returns {p : PoolS} {c : Nat} (hb : 0 < p.busy) (h : p.out ≤ c) : p.free c = { p with busy := p.busy - 1, held := p.held + 1 } := by
  unfold PoolS.free; rw [if_neg (by omega), if_pos h]

theorem PoolS.free_withholds {p : PoolS} {c : Nat} (hb : 0 < p.busy) (h : c < p.out) : p.free c = { p with busy := p.busy - 1 } := by
  unfold PoolS.free; rw [if_neg (by omega), if_neg (by omega)]

theorem gives_creditReturn {s : State} (b : Blk) (j : Fin 32) (h0 : s.dev.live 0 = true) :
    Gives (.creditReturn b j) s fun d =>
      (s.dev.flag (fFENCED b j) = true ∨ (s.dev.pool b j).busy = 0 → d.pool b j = s.dev.pool b j) ∧
      (s.dev.flag (fFENCED b j) = false → 0 < (s.dev.pool b j).busy → (s.dev.pool b j).out ≤ s.dev.fld (fCREDITS b j) →
        d.pool b j = { s.dev.pool b j with busy := (s.dev.pool b j).busy - 1, held := (s.dev.pool b j).held + 1 }) ∧
      (s.dev.flag (fFENCED b j) = false → 0 < (s.dev.pool b j).busy → s.dev.fld (fCREDITS b j) < (s.dev.pool b j).out →
        d.pool b j = { s.dev.pool b j with busy := (s.dev.pool b j).busy - 1 }) ∧
      (∀ b' j', poolKey b' j' ≠ poolKey b j → d.pool b' j' = s.dev.pool b' j') ∧ d = { s.dev with pools := d.pools } := by
  refine gives_of_eq (exec_creditReturn b j s) h0 rfl ⟨fun h => ?_, fun hf hb hc => ?_, fun hf hb hc => ?_, fun b' j' hk => ?_, Dev.freeSlot_frame _ _ _⟩
  · rcases h with h | h
    · rw [Dev.freeSlot_fenced h]
    · cases hf : s.dev.flag (fFENCED b j) with
      | true => rw [Dev.freeSlot_fenced hf]
      | false => rw [Dev.freeSlot_open hf, Dev.pool_setPool_same, PoolS.free_idle h]
  · rw [Dev.freeSlot_open hf, Dev.pool_setPool_same, PoolS.free_returns hb hc]
  · rw [Dev.freeSlot_open hf, Dev.pool_setPool_same, PoolS.free_withholds hb hc]
  · cases hf : s.dev.flag (fFENCED b j) with
    | true => rw [Dev.freeSlot_fenced hf]
    | false => rw [Dev.freeSlot_open hf, Dev.pool_setPool_ne _ _ hk]

/-- Settles O1: a command each for sending, taking and freeing, by the pools that it changes. -/
theorem creditsCarryTokens : Obligations.CreditsCarryTokens := by
  refine ⟨⟨fun s b j payload data rsp p h0 hp h => gives_tokenSend_forward h0 hp h, fun s b j payload data rsp h0 h => ?_,
      fun s b j payload data rsp h0 => gives_tokenSend_back b j payload data rsp h0⟩,
    ⟨fun s b j flip sram t r h0 hq hf => gives_tokenAccept h0 hq hf, fun s b j flip sram h0 h => ?_, fun s b j flip t r h0 hb => gives_tokenAccept_back h0 hb⟩,
    fun s b j h0 => gives_creditReturn b j h0⟩
  · exact gives_of_eq (exec_tokenSend_forward b j payload data rsp s) h0 (if_neg (by simp [h])) rfl
  · refine gives_of_eq (exec_tokenAccept b j flip sram s) h0 (e := s.dev) ?_ rfl
    split
    · rfl
    · next hq => exact if_pos (h.resolve_left (by rw [hq]; exact List.cons_ne_nil _ _))

end Sys2Proof.Machine
end

section
/-! SUPPORT. A lost crystal, the capture of TBASE, and the roll call (R27, R28, R58 to R61). -/
namespace Sys2Proof.Machine

/-- A register word is read from the registers alone. -/
theorem Dev.word_congr {d e : Dev} (hr : e.regs = d.regs) (hv : e.v = d.v) (a : Nat) : e.word a = d.word a := by unfold Dev.word; rw [hr, hv]
theorem Dev.fld_congr_regs {d e : Dev} (hr : e.regs = d.regs) (hv : e.v = d.v) (f : RF) : e.fld f = d.fld f := Dev.fld_congr rfl (Dev.word_congr hr hv f.a)

/-! ### A lost crystal (R27, R93) -/

/-- A channel reports loss of lock, if it is there and has locked. -/
def Dev.unlock (d : Dev) (n : Nat) : Dev :=
  if !d.hasCh n || !d.flag (F.CH_STAT_PLL_LOCK n) then d
  else match (d.chan n).run with
    | some r => match r.cur with
      | some c => d.lockFalls n r c (c.soft.getLastD []).length
      | none => d.setFld (F.CH_STAT_PLL_LOCK n) 0
    | none => d.setFld (F.CH_STAT_PLL_LOCK n) 0

/-- KNL shows the loss and logs it; crystal edges arrive no more. -/
def Dev.crystalLost (d : Dev) : Dev :=
  let e := ((d.setFld F.KNL_TBASE_STAT_XTAL_LOST 1).setFld F.KNL_TBASE_STAT_RUNNING 0).event .knl 0x01
  { e with pwr := { e.pwr with xtal := false } }

theorem exec_xtalLost (s : State) : exec .xtalLost s =
    s.doesIn 0 fun d => if d.flag F.KNL_TBASE_STAT_XTAL_LOST then d else (List.range 20).foldl Dev.unlock d.crystalLost := rfl

theorem Dev.crystalLost_frame (d : Dev) : d.crystalLost =
    { d with regs := d.crystalLost.regs, log := d.crystalLost.log, lost := d.crystalLost.lost, hst := d.crystalLost.hst, pwr := d.crystalLost.pwr } := by
  unfold Dev.crystalLost
  dsimp only
  rw [Dev.event_frame]; rfl

theorem Dev.crystalLost_word (d : Dev) : d.crystalLost.word F.KNL_TBASE_STAT_XTAL_LOST.a = ((d.setFld F.KNL_TBASE_STAT_XTAL_LOST 1).setFld F.KNL_TBASE_STAT_RUNNING 0).word F.KNL_TBASE_STAT_XTAL_LOST.a :=
  Dev.event_word _ _ _ _ _ _ _ (by decide)

theorem Dev.crystalLost_flags (d : Dev) : d.crystalLost.fld F.KNL_TBASE_STAT_XTAL_LOST = 1 ∧ d.crystalLost.fld F.KNL_TBASE_STAT_RUNNING = 0 := by
  rw [Dev.fld_congr (f := F.KNL_TBASE_STAT_XTAL_LOST) rfl d.crystalLost_word, Dev.fld_congr (f := F.KNL_TBASE_STAT_RUNNING) rfl d.crystalLost_word]
  refine ⟨?_, ?_⟩
  · rw [Dev.fld_setFld_beside _ F.KNL_TBASE_STAT_RUNNING F.KNL_TBASE_STAT_XTAL_LOST 0 rfl rfl, Dev.fld_setFld_one _ _ (by decide) rfl]
  · rw [Dev.fld_setFld_same _ _ _ (by decide)]; rfl

/-- A loss of lock touches its channel, that channel's registers and the logbook's pool. -/
theorem Dev.lockFalls_frame (d : Dev) (n : Nat) (r : RunS) (c : SectorS) (pos : Nat) : d.lockFalls n r c pos =
    { d with ch := (d.lockFalls n r c pos).ch, regs := (d.lockFalls n r c pos).regs, log := (d.lockFalls n r c pos).log, lost := (d.lockFalls n r c pos).lost
             hst := (d.lockFalls n r c pos).hst } := by
  unfold Dev.lockFalls
  dsimp only
  rw [Dev.event_frame]; rfl

/-- What a loss of lock shows in the registers is PLL_LOCK. -/
theorem Dev.lockFalls_word (d : Dev) (n : Nat) (r : RunS) (c : SectorS) (pos : Nat) {a : Nat} (ha : a ≠ 0x0A000060) :
    (d.lockFalls n r c pos).word a = (d.setFld (F.CH_STAT_PLL_LOCK n) 0).word a := by
  unfold Dev.lockFalls
  exact Dev.event_word _ _ _ _ _ _ _ ha

theorem Dev.unlock_frame (d : Dev) (n : Nat) : d.unlock n =
    { d with ch := (d.unlock n).ch, regs := (d.unlock n).regs, log := (d.unlock n).log, lost := (d.unlock n).lost, hst := (d.unlock n).hst } := by
  unfold Dev.unlock
  split
  · rfl
  split
  · split
    · exact Dev.lockFalls_frame _ _ _ _ _
    · rfl
  · rfl

/-- A channel that has locked shows loss of lock, and no other register changes. -/
theorem Dev.unlock_word (d : Dev) (n : Nat) {a : Nat} (ha : a ≠ 0x0A000060) :
    (d.unlock n).word a = if !d.hasCh n || !d.flag (F.CH_STAT_PLL_LOCK n) then d.word a else (d.setFld (F.CH_STAT_PLL_LOCK n) 0).word a := by
  unfold Dev.unlock
  split
  · rfl
  split
  · split
    · exact Dev.lockFalls_word _ _ _ _ _ ha
    · rfl
  · rfl

theorem chStat_ne_logInject {n : Nat} (hn : n < 20) : (F.CH_STAT_PLL_LOCK n).a ≠ 0x0A000060 := by
  show 0x1000004 + 0x10000 * n ≠ 0x0A000060
  omega

/-- Once a channel shows no lock, the loss of lock of any channel leaves that so. -/
theorem Dev.unlock_unlocked {d : Dev} {n m : Nat} (hm : m < 20) (h : d.flag (F.CH_STAT_PLL_LOCK m) = false ∨ (n = m ∧ d.hasCh m = true)) :
    (d.unlock n).flag (F.CH_STAT_PLL_LOCK m) = false := by
  unfold Dev.flag at h ⊢
  rw [bne_eq_false_iff_eq] at h ⊢
  unfold Dev.fld at h ⊢
  rw [Dev.unlock_word d n (chStat_ne_logInject hm)]
  by_cases hn : n = m
  · subst hn
    split
    · next hc =>
      rcases h with h | ⟨-, h⟩
      · exact h
      · rw [h] at hc
        simpa [Dev.flag, Dev.fld] using hc
    · exact (Dev.fld_setFld_same d (F.CH_STAT_PLL_LOCK n) 0 (show 30 + 1 ≤ 32 by decide)).trans rfl
  · have h0 := h.resolve_right fun c => hn c.1
    split
    · exact h0
    · rw [Dev.word_setFld_ne _ _ _ (show 0x1000004 + 0x10000 * m ≠ 0x1000004 + 0x10000 * n by omega)]
      exact h0

/-- After the channels of a list have reported loss of lock none of them shows lock. -/
theorem Dev.unlock_all (l : List Nat) (d : Dev) :
    l.foldl Dev.unlock d = { d with ch := (l.foldl Dev.unlock d).ch, regs := (l.foldl Dev.unlock d).regs, log := (l.foldl Dev.unlock d).log, lost := (l.foldl Dev.unlock d).lost
                                    hst := (l.foldl Dev.unlock d).hst } ∧
    ((∀ n ∈ l, n < 20) → (l.foldl Dev.unlock d).word F.KNL_TBASE_STAT_XTAL_LOST.a = d.word F.KNL_TBASE_STAT_XTAL_LOST.a) ∧
    ∀ m, m < 20 → d.hasCh m = true → (m ∈ l ∨ d.flag (F.CH_STAT_PLL_LOCK m) = false) → (l.foldl Dev.unlock d).flag (F.CH_STAT_PLL_LOCK m) = false := by
  induction l generalizing d with
  | nil => exact ⟨rfl, fun _ => rfl, fun m _ _ h => h.resolve_left (List.not_mem_nil)⟩
  | cons n l ih =>
    obtain ⟨hf, hw, hl⟩ := ih (d.unlock n)
    have hu := d.unlock_frame n
    refine ⟨?_, fun hn => ?_, fun m hm hc h => ?_⟩
    · rw [List.foldl_cons, hf, hu]
    · rw [List.foldl_cons, hw fun x hx => hn x (List.mem_cons_of_mem _ hx), Dev.unlock_word _ _ (by decide)]
      split
      · rfl
      · have hn := hn n List.mem_cons_self
        exact Dev.word_setFld_ne _ _ _ (show 0x200018 ≠ 0x1000004 + 0x10000 * n by omega)
    · rw [List.foldl_cons]
      have hc' : (d.unlock n).hasCh m = true := by rw [hu]; exact hc
      by_cases hml : m ∈ l
      · exact hl m hm hc' (.inl hml)
      · refine hl m hm hc' (.inr (Dev.unlock_unlocked hm ?_))
        rcases h with h | h
        · exact .inr ⟨((List.mem_cons.1 h).resolve_right hml).symm, hc⟩
        · exact .inl h

theorem gives_xtalLost {s : State} (h0 : s.dev.live 0 = true) :
    (s.dev.flag F.KNL_TBASE_STAT_XTAL_LOST = true → Gives .xtalLost s fun d => d = s.dev) ∧
    (s.dev.flag F.KNL_TBASE_STAT_XTAL_LOST = false → Gives .xtalLost s fun d =>
      d.flag F.KNL_TBASE_STAT_XTAL_LOST = true ∧ d.flag F.KNL_TBASE_STAT_RUNNING = false ∧ d.tbase = s.dev.tbase ∧
      (∀ n : Fin 20, s.dev.hasCh n = true → d.flag (F.CH_STAT_PLL_LOCK n) = false) ∧
      d = { s.dev with regs := d.regs, log := d.log, lost := d.lost, hst := d.hst, pwr := d.pwr, ch := d.ch }) := by
  refine ⟨fun h => gives_of_eq (exec_xtalLost s) h0 (if_pos h) rfl, fun h => gives_of_eq (exec_xtalLost s) h0 (if_neg (by simp [h])) ?_⟩
  obtain ⟨hf, hw, hl⟩ := Dev.unlock_all (List.range 20) s.dev.crystalLost
  have hc := s.dev.crystalLost_frame
  obtain ⟨hx, hr⟩ := s.dev.crystalLost_flags
  have hw := hw fun n hn => List.mem_range.1 hn
  refine ⟨?_, ?_, ?_, fun n hn => hl n n.isLt (by rw [hc]; exact hn) (.inl (List.mem_range.2 n.isLt)), ?_⟩
  · unfold Dev.flag; rw [Dev.fld_congr rfl hw, hx]; rfl
  · unfold Dev.flag; rw [Dev.fld_congr (f := F.KNL_TBASE_STAT_RUNNING) rfl hw, hr]; rfl
  · rw [hf, hc]
  · rw [hf, hc]

/-! ### The capture of TBASE (R28) -/

theorem exec_tbaseLoRead (s : State) : exec .tbaseLoRead s = s.doesIn 0 fun d => d.setFld F.KNL_TBASE_HI_NS_HI (d.now / 2 ^ 32) := rfl

theorem gives_tbaseLoRead {s : State} (h0 : s.dev.live 0 = true) : Gives .tbaseLoRead s (fun d => d.fld F.KNL_TBASE_HI_NS_HI = s.dev.tbase.toNat / 2 ^ 32 ∧ d = { s.dev with regs := d.regs } ∧
      ∀ a, a ≠ F.KNL_TBASE_HI_NS_HI.a → d.word a = s.dev.word a) := by
  refine gives_of_eq (exec_tbaseLoRead s) h0 rfl ⟨?_, rfl, fun a ha => Dev.word_setFld_ne _ _ _ ha⟩
  rw [Dev.fld_setFld_same _ _ _ (by decide)]
  exact Nat.mod_eq_of_lt (Nat.div_lt_of_lt_mul s.dev.tbase.isLt)

/-! ### Requesting a roll (R59, R60) -/

section
variable (d : Dev) (tags : List Tag)

theorem Dev.startRoll_flags : (d.startRoll tags).fld F.FAB_RC_STAT_BUSY = 1 ∧ (d.startRoll tags).fld F.FAB_RC_STAT_PENDING = 0 := by
  have he := Dev.fld_congr_regs (d := (d.setFld F.FAB_RC_STAT_BUSY 1).setFld F.FAB_RC_STAT_PENDING 0) (e := d.startRoll tags) rfl rfl
  rw [he, he]
  refine ⟨?_, ?_⟩
  · rw [Dev.fld_setFld_beside _ F.FAB_RC_STAT_PENDING F.FAB_RC_STAT_BUSY 0 rfl rfl, Dev.fld_setFld_one _ _ (by decide) rfl]
  · rw [Dev.fld_setFld_same _ _ _ (by decide)]; rfl

theorem Dev.startRoll_word {a : Nat} (ha : a ≠ F.FAB_RC_STAT_BUSY.a) : (d.startRoll tags).word a = d.word a :=
  (Dev.word_congr (d := (d.setFld F.FAB_RC_STAT_BUSY 1).setFld F.FAB_RC_STAT_PENDING 0) rfl rfl a).trans
    ((Dev.word_setFld_ne _ F.FAB_RC_STAT_PENDING _ ha).trans (Dev.word_setFld_ne _ F.FAB_RC_STAT_BUSY _ ha))

theorem Dev.startRoll_roll : (d.startRoll tags).roll =
    { d.roll with epoch := (d.fld F.FAB_RC_EPOCH_EPOCH + 1) % 2 ^ 32, start := d.now, visited := [], serving := tags, waiting := [] } := by
  have he : ((d.setFld F.FAB_RC_STAT_BUSY 1).setFld F.FAB_RC_STAT_PENDING 0).fld F.FAB_RC_EPOCH_EPOCH = d.fld F.FAB_RC_EPOCH_EPOCH := by
    rw [Dev.fld_setFld_addr _ _ _ _ (by decide), Dev.fld_setFld_addr _ _ _ _ (by decide)]
  rw [← he]; rfl

theorem Dev.startRoll_frame : d.startRoll tags = { d with regs := (d.startRoll tags).regs, roll := (d.startRoll tags).roll } := rfl

theorem Dev.requestRoll_idle (h : d.flag F.FAB_RC_STAT_BUSY = false) : d.requestRoll tags = d.startRoll tags := by
  unfold Dev.requestRoll; rw [if_neg (by simp [h])]

theorem Dev.requestRoll_busy (h : d.flag F.FAB_RC_STAT_BUSY = true) :
    d.requestRoll tags = { d.setFld F.FAB_RC_STAT_PENDING 1 with roll := { d.roll with waiting := d.roll.waiting ++ tags } } := by
  unfold Dev.requestRoll; rw [if_pos h]; rfl

theorem Dev.requestRoll_frame : d.requestRoll tags = { d with regs := (d.requestRoll tags).regs, roll := (d.requestRoll tags).roll } := by
  unfold Dev.requestRoll; split <;> rfl

theorem Dev.requestRoll_word {a : Nat} (ha : a ≠ F.FAB_RC_STAT_BUSY.a) : (d.requestRoll tags).word a = d.word a := by
  cases h : d.flag F.FAB_RC_STAT_BUSY with
  | false => rw [Dev.requestRoll_idle _ _ h, Dev.startRoll_word _ _ ha]
  | true =>
    rw [Dev.requestRoll_busy _ _ h]
    exact (Dev.word_congr (d := d.setFld F.FAB_RC_STAT_PENDING 1) rfl rfl a).trans (Dev.word_setFld_ne _ F.FAB_RC_STAT_PENDING _ ha)

/-- A request leaves a roll under way. -/
theorem Dev.requestRoll_isBusy : (d.requestRoll tags).flag F.FAB_RC_STAT_BUSY = true := by
  cases h : d.flag F.FAB_RC_STAT_BUSY with
  | false => rw [Dev.requestRoll_idle _ _ h, Dev.flag, (Dev.startRoll_flags d tags).1]; rfl
  | true =>
    rw [Dev.requestRoll_busy _ _ h]
    refine Eq.trans ?_ h
    exact congrArg (· != 0) ((Dev.fld_congr_regs (d := d.setFld F.FAB_RC_STAT_PENDING 1) rfl rfl _).trans (Dev.fld_setFld_beside d F.FAB_RC_STAT_PENDING F.FAB_RC_STAT_BUSY 1 rfl rfl))

theorem Dev.requestRoll_pending (h : d.flag F.FAB_RC_STAT_BUSY = true) : (d.requestRoll tags).flag F.FAB_RC_STAT_PENDING = true := by
  rw [Dev.requestRoll_busy _ _ h]
  exact congrArg (· != 0) ((Dev.fld_congr_regs (d := d.setFld F.FAB_RC_STAT_PENDING 1) rfl rfl _).trans (Dev.fld_setFld_one d F.FAB_RC_STAT_PENDING (by decide) rfl))

theorem Dev.requestRoll_due : (d.requestRoll tags).roll.due = d.roll.due := by
  unfold Dev.requestRoll; split <;> rfl
end

theorem exec_rollCallRequest (s : State) : exec .rollCallRequest s = s.doesIn 1 fun d => d.requestRoll [] := rfl

theorem gives_rollCallRequest {s : State} (h1 : s.dev.live 1 = true) : Gives .rollCallRequest s fun d =>
      d.flag F.FAB_RC_STAT_BUSY = true ∧
      (s.dev.flag F.FAB_RC_STAT_BUSY = true → d.flag F.FAB_RC_STAT_PENDING = true ∧ d.roll = s.dev.roll) ∧
      (s.dev.flag F.FAB_RC_STAT_BUSY = false → d.roll.epoch = (s.dev.fld F.FAB_RC_EPOCH_EPOCH + 1) % 2 ^ 32 ∧ d.roll.visited = [] ∧
        d.roll.start = s.dev.now ∧ d.roll.serving = []) ∧
      (∀ a, a ≠ F.FAB_RC_STAT_BUSY.a → d.word a = s.dev.word a) ∧ d = { s.dev with regs := d.regs, roll := d.roll } := by
  refine gives_of_eq (exec_rollCallRequest s) h1 rfl ⟨Dev.requestRoll_isBusy _ _, fun h => ⟨Dev.requestRoll_pending _ _ h, ?_⟩, fun h => ?_,
    fun a ha => Dev.requestRoll_word _ _ ha, Dev.requestRoll_frame _ _⟩
  · rw [Dev.requestRoll_busy _ _ h, List.append_nil]
  · rw [Dev.requestRoll_idle _ _ h, Dev.startRoll_roll]
    exact ⟨rfl, rfl, rfl, rfl⟩

/-! ### The token at a bank (R58, R551) -/

/-- The counters of one bank, read by their index in the bank. -/
theorem Tab.get_bank (t : Tab (BitVec 64)) (k : Nat) {i : Nat} (hi : i < 64) :
    Tab.get (fun _ => 0) ((t.filter fun p => decide (p.1 / 64 = k)).map fun p => (p.1 % 64, p.2)) i = Tab.get (fun _ => 0) t (64 * k + i) := by
  induction t with
  | nil => rfl
  | cons p t ih =>
    obtain ⟨x, v⟩ := p
    rw [List.filter_cons]
    split
    · next h =>
      have hk : x / 64 = k := by simpa using h
      rw [List.map_cons, Tab.get, Tab.get, ih]
      have : x % 64 = i ↔ x = 64 * k + i := by omega
      simp only [this]
    · next h =>
      have hk : x / 64 ≠ k := by simpa using h
      rw [Tab.get, if_neg (show x ≠ 64 * k + i by omega), ih]

/-- The bank that the token visits next. -/
def Dev.nextBank (d : Dev) : Option Blk := (banksOf d.v).find? fun x => !d.roll.visited.contains (blkKey x)

/-- A bank's copy of its counters, with the roll's epoch and the stamp. -/
def Dev.bankShadow (d : Dev) (b : Blk) : Shadow :=
  { epoch := d.roll.epoch, stamp := d.now, vals := (d.cnt.filter fun p => decide (p.1 / 64 = blkKey b)).map fun p => (p.1 % 64, p.2) }

/-- The bank takes its copy, and the token has visited it. -/
def Dev.visitBank (d : Dev) (b : Blk) : Dev :=
  { d with shadows := d.shadows.set (fun _ => {}) (2 * blkKey b + d.roll.epoch % 2) (d.bankShadow b), roll := { d.roll with visited := d.roll.visited ++ [blkKey b] } }

theorem exec_rollTokenAtBank (b : Blk) (s : State) : exec (.rollTokenAtBank b) s =
    s.doesIn 1 fun d => if d.flag F.FAB_RC_STAT_BUSY && d.nextBank == some b && d.canSend b (mgtPool b) then
      (if !d.rollSlot.roll.slot then d.rollSlot else d.rollSlot.visitBank b) else d := rfl

theorem Dev.rollSlot_none {d : Dev} (h : d.rollSlot.roll.slot = false) : d.rollSlot = d := by
  unfold Dev.rollSlot at h ⊢
  dsimp only at h ⊢
  split
  · rfl
  · next hs =>
    rw [if_neg hs] at h
    split
    · next hr => rw [if_pos hr] at h; cases h
    · rfl

theorem Dev.rollSlot_frame (d : Dev) : d.rollSlot = { d with pools := d.rollSlot.pools, roll := { d.roll with slot := d.rollSlot.roll.slot } } := by
  unfold Dev.rollSlot
  dsimp only
  split
  · rfl
  split <;> rfl

theorem Dev.bankShadow_vals (d : Dev) (b : Blk) {i : Nat} (hi : i < 64) : Tab.get (fun _ => 0) (d.bankShadow b).vals i = d.counter b i := Tab.get_bank _ _ hi

theorem Dev.visitBank_shadow (d : Dev) (b : Blk) : (d.visitBank b).shadows.get (fun _ => {}) (2 * blkKey b + d.roll.epoch % 2) = d.bankShadow b := Tab.get_set_same _ _ _ _

theorem Dev.visitBank_shadow_ne (d : Dev) (b : Blk) {k : Nat} (hk : k ≠ 2 * blkKey b + d.roll.epoch % 2) :
    (d.visitBank b).shadows.get (fun _ => {}) k = d.shadows.get (fun _ => {}) k := Tab.get_set_ne _ _ _ hk

theorem gives_rollTokenAtBank_not {s : State} (b : Blk) (h1 : s.dev.live 1 = true)
    (h : ¬(s.dev.flag F.FAB_RC_STAT_BUSY = true ∧ (s.dev.rollSlot).roll.slot = true ∧ s.dev.canSend b (mgtPool b) = true)) : Gives (.rollTokenAtBank b) s fun d => d = s.dev := by
  refine gives_of_eq (exec_rollTokenAtBank b s) h1 (e := s.dev) ?_ rfl
  split
  · next hc =>
    simp only [Bool.and_eq_true] at hc
    obtain ⟨⟨hb, -⟩, hs⟩ := hc
    have hn : s.dev.rollSlot.roll.slot = false := Bool.eq_false_iff.2 fun c => h ⟨hb, c, hs⟩
    rw [hn]
    exact Dev.rollSlot_none hn
  · rfl

theorem gives_rollTokenAtBank {s : State} (b : Blk) (h1 : s.dev.live 1 = true) (hb : s.dev.flag F.FAB_RC_STAT_BUSY = true) (hr : (s.dev.rollSlot).roll.slot = true)
    (hs : s.dev.canSend b (mgtPool b) = true) :
    Gives (.rollTokenAtBank b) s fun d =>
      (((banksOf s.dev.v).find? fun x => !s.dev.roll.visited.contains (blkKey x)) = some b →
        (d.shadows.get (fun _ => {}) (2 * blkKey b + s.dev.roll.epoch % 2)).epoch = s.dev.roll.epoch ∧
        (d.shadows.get (fun _ => {}) (2 * blkKey b + s.dev.roll.epoch % 2)).stamp = s.dev.now ∧
        (∀ i, i < 64 → Tab.get (fun _ => 0) (d.shadows.get (fun _ => {}) (2 * blkKey b + s.dev.roll.epoch % 2)).vals i = s.dev.counter b i) ∧
        d.roll.visited = s.dev.roll.visited ++ [blkKey b] ∧ d.roll.slot = true) ∧
      (((banksOf s.dev.v).find? fun x => !s.dev.roll.visited.contains (blkKey x)) ≠ some b → d = s.dev) ∧
      (∀ k, k ≠ 2 * blkKey b + s.dev.roll.epoch % 2 → d.shadows.get (fun _ => {}) k = s.dev.shadows.get (fun _ => {}) k) ∧
      d = { s.dev with shadows := d.shadows, roll := d.roll, pools := d.pools } := by
  by_cases hn : s.dev.nextBank = some b
  · have hf := s.dev.rollSlot_frame
    have he : s.dev.rollSlot.roll.epoch = s.dev.roll.epoch := by rw [hf]
    have hsh := s.dev.rollSlot.visitBank_shadow b
    have hso {k : Nat} (hk : k ≠ 2 * blkKey b + s.dev.roll.epoch % 2) := s.dev.rollSlot.visitBank_shadow_ne b (he.symm ▸ hk)
    rw [he] at hsh
    refine gives_of_eq (exec_rollTokenAtBank b s) h1 (e := s.dev.rollSlot.visitBank b) ?_ ⟨fun _ => ⟨?_, ?_, fun i hi => ?_, ?_, hr⟩, fun c => absurd hn c, fun k hk => ?_, ?_⟩
    · rw [if_pos (by simp [hb, hn, hs]), hr]; rfl
    · rw [hsh]; exact he
    · rw [hsh, hf]; rfl
    · rw [hsh, Dev.bankShadow_vals _ _ hi, hf]; rfl
    · unfold Dev.visitBank; rw [hf]
    · rw [hso hk, hf]
    · unfold Dev.visitBank; rw [hf]
  · exact gives_of_eq (exec_rollTokenAtBank b s) h1 (e := s.dev) (if_neg (by simp [hn])) ⟨fun c => absurd c hn, fun _ => rfl, fun _ _ => rfl, rfl⟩

/-! ### The end of a roll (R59 to R61) -/

/-- The token is consumed; RC_EPOCH takes the epoch, BUSY falls, and the roll's duration is shown. -/
def Dev.rollShown (d : Dev) : Dev :=
  ((d.rollBack.setFld F.FAB_RC_EPOCH_EPOCH d.roll.epoch).setFld F.FAB_RC_STAT_BUSY 0).setFld F.FAB_RC_STAT_DUR_NS (min ((d.now - d.roll.start) / 4) 65535)

/-- The commands served end with the epoch. -/
def Dev.rollServed (d : Dev) (done : List Tag) (e : Nat) : Dev := done.foldl (fun d t => d.finish t stOk e) d

/-- A pending roll starts. -/
def Dev.rollNext (d : Dev) : Dev := if d.flag F.FAB_RC_STAT_PENDING then d.startRoll d.roll.waiting else { d with roll := { d.roll with serving := [], visited := [] } }

theorem exec_rollCallComplete (s : State) : exec .rollCallComplete s =
    s.doesIn 1 fun d => if d.flag F.FAB_RC_STAT_BUSY && (banksOf d.v).all fun b => d.roll.visited.contains (blkKey b) then
      (d.rollShown.rollServed d.roll.serving d.roll.epoch).rollNext else d := rfl

theorem Dev.addError_cmds (d : Dev) (t : Tag) (st : Status) (n l : Nat) : (d.addError t st n l).cmds = d.cmds := by
  unfold Dev.addError Dev.setCtrl; dsimp only; split <;> rfl

/-- Ending a command takes its record away and no other. -/
theorem Dev.finish_cmds (d : Dev) (t : Tag) (st : Status) (a b : Nat) : (d.finish t st a b).cmds = d.cmds.filter fun x => decide (x.tag ≠ t) := by
  obtain ⟨n, l, he⟩ := d.finish_eq t st a b
  rw [he]
  split
  · rfl
  · show (if stQuiet st = true then _ else _ : Dev).cmds = _
    split
    · rfl
    · exact Dev.addError_cmds _ _ _ _ _

/-- A command is looked up by its tag: taking another away changes nothing. -/
theorem find_tag_filter (l : List CmdRec) (t u : Tag) :
    (l.filter fun x => decide (x.tag ≠ t)).find? (fun c => decide (c.tag = u)) = if u = t then none else l.find? fun c => decide (c.tag = u) := by
  split
  · next h =>
    subst h
    refine List.find?_eq_none.2 fun x hx => ?_
    simpa using (List.mem_filter.1 hx).2
  · next h =>
    rw [List.find?_filter]
    refine congrArg (l.find? ·) (funext fun c => ?_)
    by_cases hc : c.tag = u <;> simp [hc, h]

theorem Dev.finish_cmd? (d : Dev) (t : Tag) (st : Status) (a b : Nat) (u : Tag) : (d.finish t st a b).cmd? u = if u = t then none else d.cmd? u := by
  unfold Dev.cmd?
  rw [Dev.finish_cmds, find_tag_filter]

theorem Dev.rollServed_spec (d : Dev) (done : List Tag) (e : Nat) :
    d.rollServed done e = { d with hst := (d.rollServed done e).hst, cmds := (d.rollServed done e).cmds, free := (d.rollServed done e).free } ∧
    ∀ u, (d.rollServed done e).cmd? u = if u ∈ done then none else d.cmd? u := by
  induction done generalizing d with
  | nil => exact ⟨rfl, fun u => by rw [if_neg List.not_mem_nil]; rfl⟩
  | cons t done ih =>
    obtain ⟨hf, hc⟩ := ih (d.finish t stOk e)
    have hs : d.rollServed (t :: done) e = (d.finish t stOk e).rollServed done e := rfl
    refine ⟨?_, fun u => ?_⟩
    · rw [hs, hf, Dev.finish_frame]
    · rw [hs, hc, Dev.finish_cmd?]
      by_cases h1 : u ∈ done
      · rw [if_pos h1, if_pos (List.mem_cons_of_mem _ h1)]
      · by_cases h2 : u = t
        · rw [if_neg h1, if_pos h2, if_pos (by rw [h2]; exact List.mem_cons_self)]
        · rw [if_neg h1, if_neg h2, if_neg (by simp [h1, h2])]

theorem Dev.rollBack_frame (d : Dev) : d.rollBack = { d with pools := d.rollBack.pools, roll := { d.roll with slot := d.rollBack.roll.slot } } := by
  unfold Dev.rollBack; split <;> rfl

theorem Dev.rollShown_frame (d : Dev) : d.rollShown = { d with regs := d.rollShown.regs, pools := d.rollShown.pools, roll := { d.roll with slot := d.rollShown.roll.slot } } := by
  have h : d.rollShown = { d.rollBack with regs := d.rollShown.regs } := rfl
  have hr : d.rollShown.roll.slot = d.rollBack.roll.slot := rfl
  have hp : d.rollShown.pools = d.rollBack.pools := rfl
  rw [hr, hp, h, d.rollBack_frame]

theorem Dev.rollBack_fld (d : Dev) (f : RF) : d.rollBack.fld f = d.fld f := Dev.fld_congr_regs (by rw [Dev.rollBack_frame]) (by rw [Dev.rollBack_frame]) f

theorem Dev.rollShown_flds (d : Dev) (he : d.roll.epoch < 2 ^ 32) :
    d.rollShown.fld F.FAB_RC_EPOCH_EPOCH = d.roll.epoch ∧ d.rollShown.fld F.FAB_RC_STAT_BUSY = 0 ∧ d.rollShown.fld F.FAB_RC_STAT_PENDING = d.fld F.FAB_RC_STAT_PENDING := by
  unfold Dev.rollShown
  refine ⟨?_, ?_, ?_⟩
  · rw [Dev.fld_setFld_addr _ _ _ _ (by decide), Dev.fld_setFld_addr _ _ _ _ (by decide), Dev.fld_setFld_same _ _ _ (by decide)]
    exact Nat.mod_eq_of_lt he
  · rw [Dev.fld_setFld_beside _ F.FAB_RC_STAT_DUR_NS F.FAB_RC_STAT_BUSY _ rfl rfl, Dev.fld_setFld_same _ _ _ (by decide)]; rfl
  · rw [Dev.fld_setFld_beside _ F.FAB_RC_STAT_DUR_NS F.FAB_RC_STAT_PENDING _ rfl rfl, Dev.fld_setFld_beside _ F.FAB_RC_STAT_BUSY F.FAB_RC_STAT_PENDING _ rfl rfl,
      Dev.fld_setFld_addr _ _ _ _ (by decide), Dev.rollBack_fld]

theorem gives_rollCallComplete {s : State} (h1 : s.dev.live 1 = true) (hb : s.dev.flag F.FAB_RC_STAT_BUSY = true) (he : s.dev.roll.epoch < 2 ^ 32)
    (ha : ((banksOf s.dev.v).all fun b => s.dev.roll.visited.contains (blkKey b)) = true) :
    Gives .rollCallComplete s fun d =>
      d.fld F.FAB_RC_EPOCH_EPOCH = s.dev.roll.epoch ∧ (∀ t ∈ s.dev.roll.serving, d.cmd? t = none) ∧ (∀ t, t ∉ s.dev.roll.serving → d.cmd? t = s.dev.cmd? t) ∧
      (s.dev.flag F.FAB_RC_STAT_PENDING = false → d.flag F.FAB_RC_STAT_BUSY = false ∧ d.roll.serving = []) ∧
      (s.dev.flag F.FAB_RC_STAT_PENDING = true → d.flag F.FAB_RC_STAT_BUSY = true ∧ d.flag F.FAB_RC_STAT_PENDING = false ∧ d.roll.serving = s.dev.roll.waiting ∧
        d.roll.epoch = (s.dev.roll.epoch + 1) % 2 ^ 32) ∧
      d = { s.dev with regs := d.regs, roll := d.roll, pools := d.pools, cmds := d.cmds, hst := d.hst, free := d.free } := by
  obtain ⟨hf, hc⟩ := s.dev.rollShown.rollServed_spec s.dev.roll.serving s.dev.roll.epoch
  obtain ⟨s1, s2, s3⟩ := s.dev.rollShown_flds he
  have hsf := s.dev.rollShown_frame
  have hcmd (u : Tag) : s.dev.rollShown.cmd? u = s.dev.cmd? u := by unfold Dev.cmd?; rw [hsf]
  refine gives_of_eq (exec_rollCallComplete s) h1 (if_pos (by rw [hb, ha]; rfl)) ?_
  have hg (f : RF) : (s.dev.rollShown.rollServed s.dev.roll.serving s.dev.roll.epoch).fld f = s.dev.rollShown.fld f := Dev.fld_congr_regs (by rw [hf]) (by rw [hf]) f
  have hroll : (s.dev.rollShown.rollServed s.dev.roll.serving s.dev.roll.epoch).roll = { s.dev.roll with slot := s.dev.rollShown.roll.slot } := by rw [hf, hsf]
  have hfr : s.dev.rollShown.rollServed s.dev.roll.serving s.dev.roll.epoch = { s.dev with
      regs := (s.dev.rollShown.rollServed s.dev.roll.serving s.dev.roll.epoch).regs, roll := (s.dev.rollShown.rollServed s.dev.roll.serving s.dev.roll.epoch).roll
      pools := (s.dev.rollShown.rollServed s.dev.roll.serving s.dev.roll.epoch).pools, cmds := (s.dev.rollShown.rollServed s.dev.roll.serving s.dev.roll.epoch).cmds
      hst := (s.dev.rollShown.rollServed s.dev.roll.serving s.dev.roll.epoch).hst, free := (s.dev.rollShown.rollServed s.dev.roll.serving s.dev.roll.epoch).free } := by
    rw [hf, hsf]
  generalize s.dev.rollShown.rollServed s.dev.roll.serving s.dev.roll.epoch = x at hc hg hroll hfr
  have hcs (u : Tag) (y : Dev) (hy : y.cmds = x.cmds) : y.cmd? u = if u ∈ s.dev.roll.serving then none else s.dev.cmd? u := by
    rw [← hcmd, ← hc]; unfold Dev.cmd?; rw [hy]
  have hp : x.flag F.FAB_RC_STAT_PENDING = s.dev.flag F.FAB_RC_STAT_PENDING := by unfold Dev.flag; rw [hg, s3]
  cases hpend : s.dev.flag F.FAB_RC_STAT_PENDING with
  | false =>
    have hx : x.rollNext = { x with roll := { x.roll with serving := [], visited := [] } } := if_neg (by rw [hp, hpend]; decide)
    have hgx := Dev.fld_congr_regs (d := x) (e := x.rollNext) (by rw [hx]) (by rw [hx])
    refine ⟨?_, fun t ht => ?_, fun t ht => ?_, fun _ => ⟨?_, ?_⟩, fun c => (nomatch c), ?_⟩
    · rw [hgx, hg, s1]
    · rw [hcs t _ (by rw [hx]), if_pos ht]
    · rw [hcs t _ (by rw [hx]), if_neg ht]
    · unfold Dev.flag; rw [hgx, hg, s2]; rfl
    · rw [hx]
    · rw [hx, hfr]
  | true =>
    have hx : x.rollNext = x.startRoll x.roll.waiting := if_pos (by rw [hp, hpend])
    obtain ⟨f1, f2⟩ := x.startRoll_flags x.roll.waiting
    have hr := x.startRoll_roll x.roll.waiting
    refine ⟨?_, fun t ht => ?_, fun t ht => ?_, fun c => (nomatch c), fun _ => ⟨?_, ?_, ?_, ?_⟩, ?_⟩
    · rw [hx, Dev.fld_congr rfl (x.startRoll_word _ (by decide)), hg, s1]
    · rw [hcs t _ (by rw [hx]; rfl), if_pos ht]
    · rw [hcs t _ (by rw [hx]; rfl), if_neg ht]
    · unfold Dev.flag; rw [hx, f1]; rfl
    · unfold Dev.flag; rw [hx, f2]; rfl
    · rw [hx, hr, hroll]
    · rw [hx, hr, hg, s1]
    · rw [hx, x.startRoll_frame, hfr]

/-! ### Scheduled rolls and the Roll Call command (R50, R58, R61) -/

theorem exec_rollPeriodDue (s : State) : exec .rollPeriodDue s =
    s.doesIn 1 fun d => if d.fld F.FAB_RC_PERIOD_PERIOD_MS * 1000000 ≠ 0 ∧ d.roll.due + d.fld F.FAB_RC_PERIOD_PERIOD_MS * 1000000 ≤ d.now then
      (({ d with roll := { d.roll with due := d.now } }).raiseBg .roll).rollGrant else d := rfl

theorem exec_rollCallCmd (t : Tag) (s : State) : exec (.rollCallCmd t) s =
    s.doesIn 1 fun d => d.host t false fun d => (d.putCmd { tag := t, kind := .rollCall, committed := true, started := d.now }).requestRoll [t] := rfl

theorem Dev.rollGrant_frame (d : Dev) : d.rollGrant = { d with regs := d.rollGrant.regs, roll := d.rollGrant.roll, bg := d.rollGrant.bg } := by
  unfold Dev.rollGrant
  split
  · rw [Dev.requestRoll_frame]; rfl
  · rfl

theorem Dev.rollGrant_due (d : Dev) : d.rollGrant.roll.due = d.roll.due := by
  unfold Dev.rollGrant
  split
  · rw [Dev.requestRoll_due]; rfl
  · rfl

/-- A roll request that is raised while nothing waits in FAB's pools is granted at once. -/
theorem Dev.raiseBg_rollGrant {d : Dev} (h0 : (d.pool .fab 0).queue = []) (h1 : (d.pool .fab 1).queue = []) :
    (d.raiseBg .roll).rollGrant.flag F.FAB_RC_STAT_BUSY = true ∧ (d.raiseBg .roll).rollGrant.bg.length = d.bg.length := by
  have hany : ((d.raiseBg .roll).bg.any fun r => decide (r.kind = .roll)) = true := by
    rw [List.any_eq_true]
    exact ⟨{ kind := .roll, raised := d.now }, List.mem_append_right _ (List.mem_singleton.2 rfl), rfl⟩
  have hg : (d.raiseBg .roll).rollGrantable = true := by
    have hp (j : Nat) : (d.raiseBg .roll).pool .fab j = d.pool .fab j := Dev.pool_congr rfl rfl _ _
    unfold Dev.rollGrantable
    rw [hp, hp, h0, h1]
    simp
  have hr : (d.raiseBg .roll).rollGrant = ((d.raiseBg .roll).grantBg .roll).requestRoll [] := if_pos (by rw [hany, hg]; rfl)
  rw [hr]
  refine ⟨Dev.requestRoll_isBusy _ _, ?_⟩
  rw [Dev.requestRoll_frame]
  obtain ⟨r, hm, hk⟩ := List.any_eq_true.1 hany
  show ((d.raiseBg .roll).bg.eraseP fun r => decide (r.kind = .roll)).length = _
  rw [List.length_eraseP_of_mem hm hk]
  exact congrArg Nat.pred (List.length_append (as := d.bg))

theorem gives_rollPeriodDue {s : State} (h1 : s.dev.live 1 = true) : Gives .rollPeriodDue s fun d =>
      (s.dev.fld F.FAB_RC_PERIOD_PERIOD_MS = 0 ∨ s.dev.now < s.dev.roll.due + s.dev.fld F.FAB_RC_PERIOD_PERIOD_MS * 1000000 → d = s.dev) ∧
      (s.dev.fld F.FAB_RC_PERIOD_PERIOD_MS ≠ 0 → s.dev.roll.due + s.dev.fld F.FAB_RC_PERIOD_PERIOD_MS * 1000000 ≤ s.dev.now → d.roll.due = s.dev.now ∧
        ((s.dev.pool .fab 0).queue = [] → (s.dev.pool .fab 1).queue = [] → d.flag F.FAB_RC_STAT_BUSY = true ∧ d.bg.length = s.dev.bg.length)) ∧
      d = { s.dev with regs := d.regs, roll := d.roll, bg := d.bg } := by
  by_cases h : s.dev.fld F.FAB_RC_PERIOD_PERIOD_MS ≠ 0 ∧ s.dev.roll.due + s.dev.fld F.FAB_RC_PERIOD_PERIOD_MS * 1000000 ≤ s.dev.now
  · refine gives_of_eq (exec_rollPeriodDue s) h1 (if_pos ⟨by omega, h.2⟩) ⟨fun c => by omega, fun _ _ => ⟨?_, fun h0 h1 => ?_⟩, ?_⟩
    · rw [Dev.rollGrant_due]; rfl
    · exact Dev.raiseBg_rollGrant (d := { s.dev with roll := { s.dev.roll with due := s.dev.now } }) h0 h1
    · rw [Dev.rollGrant_frame]; rfl
  · exact gives_of_eq (exec_rollPeriodDue s) h1 (if_neg (by omega)) ⟨fun _ => rfl, fun c1 c2 => absurd ⟨c1, c2⟩ h, rfl⟩

/-- A command that is put on record is the one found under its tag; every other tag is looked up as before. -/
theorem Dev.putCmd_cmd? (d : Dev) (c : CmdRec) (u : Tag) : (d.putCmd c).cmd? u = if u = c.tag then some c else d.cmd? u := by
  show (d.cmds.filter (fun x => decide (x.tag ≠ c.tag)) ++ [c]).find? (fun x => decide (x.tag = u)) = _
  rw [List.find?_append, find_tag_filter]
  split
  · next h => simp [h]
  · next h =>
    rw [List.find?_singleton, if_neg (by simpa using fun e => h e.symm)]
    exact Option.or_none

theorem gives_rollCallCmd {s : State} {t : Tag} (h1 : s.dev.live 1 = true) (hm : s.dev.load.minimal = false) : Gives (.rollCallCmd t) s fun d =>
      d.flag F.FAB_RC_STAT_BUSY = true ∧ (∃ c, d.cmd? t = some c ∧ c.kind = .rollCall ∧ c.committed = true) ∧ (∀ u, u ≠ t → d.cmd? u = s.dev.cmd? u) ∧
      (s.dev.flag F.FAB_RC_STAT_BUSY = false → d.roll.serving = [t]) ∧ (s.dev.flag F.FAB_RC_STAT_BUSY = true → d.roll.waiting = s.dev.roll.waiting ++ [t]) ∧
      d = { s.dev with regs := d.regs, roll := d.roll, cmds := d.cmds } := by
  refine gives_of_eq (exec_rollCallCmd t s) h1 (Dev.host_loaded hm _ _ _) ?_
  have hc := s.dev.putCmd_cmd? { tag := t, kind := .rollCall, committed := true, started := s.dev.now }
  generalize hx : s.dev.putCmd { tag := t, kind := .rollCall, committed := true, started := s.dev.now } = x at hc
  have hf : x = { s.dev with cmds := x.cmds } := by rw [← hx]; rfl
  have hcmd (u : Tag) : (x.requestRoll [t]).cmd? u = x.cmd? u := by unfold Dev.cmd?; rw [Dev.requestRoll_frame]
  have hb : x.flag F.FAB_RC_STAT_BUSY = s.dev.flag F.FAB_RC_STAT_BUSY := by rw [hf]; rfl
  refine ⟨Dev.requestRoll_isBusy _ _, ⟨_, by rw [hcmd, hc, if_pos rfl], rfl, rfl⟩, fun u hu => by rw [hcmd, hc, if_neg hu], fun h => ?_, fun h => ?_, ?_⟩
  · rw [Dev.requestRoll_idle _ _ (hb.trans h), Dev.startRoll_roll]
  · rw [Dev.requestRoll_busy _ _ (hb.trans h), hf]
  · rw [Dev.requestRoll_frame, hf]

/-- Settles O5: the loss of the crystal channel by channel, and each stage of a roll call by what it does to FAB's registers and to the roll's own record. -/
theorem timeAndRollCalls : Obligations.TimeAndRollCalls := by
  refine ⟨fun s h0 => ⟨(gives_xtalLost h0).1, (gives_xtalLost h0).2, gives_tbaseLoRead h0⟩, fun s h1 => gives_rollCallRequest h1, fun s b h1 h => gives_rollTokenAtBank_not b h1 h,
    fun s b h1 hb hr hs => gives_rollTokenAtBank b h1 hb hr hs, fun s h1 h => ?_, fun s h1 hb he ha => gives_rollCallComplete h1 hb he ha, fun s h1 => gives_rollPeriodDue h1,
    fun s t h1 hm => gives_rollCallCmd h1 hm⟩
  exact gives_of_eq (exec_rollCallComplete s) h1 (if_neg (by rwa [Bool.and_eq_true])) rfl

end Sys2Proof.Machine
end

section
/-! SUPPORT. A read run from its order through its sectors to its report (R31, R89, R110, R111, R113). -/
namespace Sys2Proof.Machine

/-! ### Channels -/

theorem Dev.chan_congr {d e : Dev} (h : e.ch = d.ch) (n : Nat) : e.chan n = d.chan n := congrArg (Tab.get _ · n) h
theorem Dev.chan_setChan_same (d : Dev) (n : Nat) (c : ChS) : (d.setChan n c).chan n = c := Tab.get_set_same _ _ _ _
theorem Dev.chan_setChan_ne (d : Dev) {n m : Nat} (c : ChS) (h : m ≠ n) : (d.setChan n c).chan m = d.chan m := Tab.get_set_ne _ _ _ h

/-- The readers that an order uses stand in the two AFE words of its channel. -/
theorem Dev.readers_congr {d e : Dev} {n : Nat} (ha : e.word (0x1000010 + 0x10000 * n) = d.word (0x1000010 + 0x10000 * n))
    (hb : e.word (0x1000014 + 0x10000 * n) = d.word (0x1000014 + 0x10000 * n)) (o : RunOrder) : e.readers n o = d.readers n o := by
  unfold Dev.readers Dev.flag
  rw [Dev.fld_congr (f := F.CH_AFE_A_LANE_OFF n) rfl ha, Dev.fld_congr (f := F.CH_AFE_B_LANE_OFF n) rfl hb]

/-! ### Register writes in a row -/

/-- Steps that each write registers write registers together. -/
theorem foldl_regs {α : Type} {f : Dev → α → Dev} (hf : ∀ d x, f d x = { d with regs := (f d x).regs }) (l : List α) (d : Dev) :
    l.foldl f d = { d with regs := (l.foldl f d).regs } := by
  induction l generalizing d with
  | nil => rfl
  | cons x l ih => rw [List.foldl_cons, ih, hf d x]

/-- A word that no step writes stands after all of them. -/
theorem foldl_word {α : Type} {f : Dev → α → Dev} {a : Nat} {l : List α} (hf : ∀ d, ∀ x ∈ l, (f d x).word a = d.word a) (d : Dev) :
    (l.foldl f d).word a = d.word a := by
  induction l generalizing d with
  | nil => rfl
  | cons x l ih => rw [List.foldl_cons, ih fun d y hy => hf d y (List.mem_cons_of_mem _ hy), hf d x List.mem_cons_self]

theorem Dev.putLoops_frame (d : Dev) (n : Nat) (s : Seeds) (a b : Bool) : d.putLoops n s a b = { d with regs := (d.putLoops n s a b).regs } := by
  unfold Dev.putLoops
  dsimp only
  rw [foldl_regs (f := fun d t => Dev.setTap d n t _) (fun _ _ => rfl), foldl_regs (f := fun d k => Dev.setLoopVal d n k _) (fun _ _ => rfl)]

theorem Dev.setLive_frame (d : Dev) (n b : Nat) (s : Seeds) : d.setLive n b s = { d with regs := (d.setLive n b s).regs } := by
  unfold Dev.setLive
  dsimp only
  rw [foldl_regs (f := fun d t => Dev.setLiveHalf d n b (16 + t) _) (fun _ _ => rfl)]
  unfold Dev.setWord
  rw [foldl_regs (f := fun d k => Dev.setLiveHalf d n b k _) (fun _ _ => rfl)]

/-- The live seeds of a channel stand beyond the first words of its window. -/
theorem Dev.setLive_word (d : Dev) (n b : Nat) (s : Seeds) {a : Nat} (ha : a < blkBase (chBlk n) + 0x3000) : (d.setLive n b s).word a = d.word a := by
  have hne (i : Nat) : a ≠ seedAddr n true b i := by unfold seedAddr; rw [if_pos rfl]; omega
  unfold Dev.setLive
  dsimp only
  rw [foldl_word (f := fun d t => Dev.setLiveHalf d n b (16 + t) _) (fun d _ _ => Dev.word_setFld_ne d _ _ (hne _)), Dev.word_setWord_ne _ _ (hne 3),
    foldl_word (f := fun d k => Dev.setLiveHalf d n b k _) (fun d _ _ => Dev.word_setFld_ne d _ _ (hne _))]

theorem blkBase_chBlk {n : Nat} (hn : n < 20) : blkBase (chBlk n) = 0x1000000 + 0x10000 * n := by
  show 0x1000000 + 0x10000 * (n % 20) = _
  rw [Nat.mod_eq_of_lt hn]

/-! ### A run starts (R93, R98) -/

/-- A channel under a run starts no other. -/
theorem Dev.startRun_busy {d : Dev} {n : Nat} (h : (d.chan n).run ≠ none) : d.startRun n = d := by
  obtain ⟨r, hr⟩ := Option.ne_none_iff_exists'.1 h
  unfold Dev.startRun
  simp [hr]

/-- A channel without orders starts nothing. -/
theorem Dev.startRun_idle {d : Dev} {n : Nat} (h : (d.chan n).orders = []) : d.startRun n = d := by
  unfold Dev.startRun
  cases hr : (d.chan n).run <;> simp [hr, h, Dev.dropFaulty]

/-- What the first waiting order of an idle channel finds when it starts. -/
structure Dev.Starts (d e : Dev) (n : Nat) (o : RunOrder) (t : Nat) (l : List (RunOrder × Nat)) : Prop where
  run : ∃ r, (e.chan n).run = some r ∧ r.ord = o ∧ r.accepted = t ∧ r.next = 0 ∧ r.sent = 0 ∧ r.cur = none
  orders : (e.chan n).orders = l
  others : ∀ m, m ≠ n → e.chan m = d.chan m
  frame : e = { d with ch := e.ch, regs := e.regs }

/-- The run of an order as it starts. -/
def Dev.newRun (d : Dev) (n : Nat) (o : RunOrder) (t : Nat) : RunS :=
  { ord := o, accepted := t, img := d.seeds n false o.band, live := d.seeds n true o.band
    rate := sampleRate (d.bitsIv o n) (d.chan n).sam.period ((d.seeds n true o.band).loops.getD 7 0) }

/-- The registers of a channel whose run starts: its loops stand at given seeds, and STAT names the run. -/
def Dev.startRegs (d : Dev) (n tag : Nat) (s : Seeds) (u : Bool × Bool) : Dev :=
  let d := ((d.putLoops n s u.1 u.2).setFld (F.CH_STAT_RUN n) 1).setFld (F.CH_STAT_FROZEN n) 0
  (d.setFld (F.CH_STAT_REVERTS n) 0).setFld (F.CH_STAT_TAG n) tag

theorem Dev.startRegs_frame (d : Dev) (n tag : Nat) (s : Seeds) (u : Bool × Bool) : d.startRegs n tag s u = { d with regs := (d.startRegs n tag s u).regs } := by
  unfold Dev.startRegs
  rw [Dev.putLoops_frame]; rfl

theorem Dev.startRun_eq {d : Dev} {n : Nat} {o : RunOrder} {t : Nat} {l : List (RunOrder × Nat)} (hr : (d.chan n).run = none) (ho : (d.chan n).orders = (o, t) :: l)
    (hu : ((d.readers n o).1 || (d.readers n o).2) = true) : d.startRun n = (d.setChan n { d.chan n with run := some (d.newRun n o t), orders := l }).startRegs n o.tag
      (if o.freezeImg then (d.newRun n o t).img else (d.newRun n o t).live) (d.readers n o) := by
  have hd : d.dropFaulty n ((o, t) :: l) = d := by unfold Dev.dropFaulty; exact if_pos hu
  unfold Dev.startRun
  simp only [hr, ho, Option.isNone_none, if_true, hd]
  rfl

/-- The first waiting order of an idle channel starts, where it has a reader. -/
theorem Dev.startRun_starts {d : Dev} {n : Nat} {o : RunOrder} {t : Nat} {l : List (RunOrder × Nat)} (hr : (d.chan n).run = none) (ho : (d.chan n).orders = (o, t) :: l)
    (hu : ((d.readers n o).1 || (d.readers n o).2) = true) : Dev.Starts d (d.startRun n) n o t l := by
  have he := Dev.startRun_eq hr ho hu
  rw [Dev.startRegs_frame] at he
  have hc (m : Nat) : (d.startRun n).chan m = (d.setChan n { d.chan n with run := some (d.newRun n o t), orders := l }).chan m := Dev.chan_congr (by rw [he]) m
  have hn : (d.startRun n).chan n = { d.chan n with run := some (d.newRun n o t), orders := l } := (hc n).trans (Dev.chan_setChan_same _ _ _)
  exact ⟨⟨d.newRun n o t, by rw [hn], rfl, rfl, rfl, rfl, rfl⟩, by rw [hn], fun m hm => (hc m).trans (Dev.chan_setChan_ne d _ hm), by rw [he]; rfl⟩

/-! ### An order comes (R89, R110) -/

/-- MSQa takes the run of an answered heater notice out of its list. -/
def Dev.dropRun (d : Dev) (r : RunReport) : Dev := { d with msq := { d.msq with runs := d.msq.runs.erase r } }

/-- An order joins the queue of its channel. -/
def Dev.queueOrder (d : Dev) (n : Nat) (o : RunOrder) : Dev := d.setChan n { d.chan n with orders := (d.chan n).orders ++ [(o, d.now)] }

theorem exec_sectorRunOrder (n : Fin 20) (tbuf : BitVec 16) (s : State) : exec (.sectorRunOrder n tbuf) s = s.doesIn 2 fun d =>
    match d.msq.runs.find? fun r => r.notice && r.head == n.val with
    | none => d
    | some r => if d.fld (fCREDITS (chBlk n) 0) ≤ (d.chan n).orders.length then d
      else (d.dropRun r).readOrder n { r.ord with tbufFirst := tbuf.toNat % max r.ord.tbufSize 1 } := rfl

theorem Dev.readOrder_queued {d : Dev} {n : Nat} {o : RunOrder} (hc : (d.chan n).orders.length < d.fld (fCREDITS (chBlk n) 0)) (hh : d.hasCh n = true)
    (ha : (d.fld F.WRP_STAT_AL_FAIL).testBit (actOf n) = false) (hu : ((d.readers n o).1 || (d.readers n o).2) = true) :
    d.readOrder n o = (d.queueOrder n o).startRun n := by
  unfold Dev.readOrder
  simp only [hh, ha, hu]
  rw [if_neg (by simpa using hc), if_neg (by decide)]
  rfl

theorem gives_sectorRunOrder {s : State} {n : Fin 20} (tbuf : BitVec 16) {r : RunReport} {o : RunOrder} (hl : s.dev.live 2 = true)
    (hf : (s.dev.msq.runs.find? fun r => r.notice && r.head == n.val) = some r) (ho : o = { r.ord with tbufFirst := tbuf.toNat % max r.ord.tbufSize 1 })
    (hc : (s.dev.chan n).orders.length < s.dev.fld (fCREDITS (chBlk n) 0)) (hh : s.dev.hasCh n = true)
    (ha : (s.dev.fld F.WRP_STAT_AL_FAIL).testBit (actOf n) = false) (hu : ((s.dev.readers n o).1 || (s.dev.readers n o).2) = true)
    (hq : (s.dev.chan n).run ≠ none ∨ (s.dev.chan n).orders = []) :
    Gives (.sectorRunOrder n tbuf) s fun d =>
        ((s.dev.chan n).run = none →
          ∃ r, (d.chan n).run = some r ∧ r.ord = o ∧ r.accepted = s.dev.now ∧ r.next = 0 ∧ r.sent = 0 ∧ r.cur = none ∧ (d.chan n).orders = []) ∧
        ((s.dev.chan n).run ≠ none → d.chan n = { s.dev.chan n with orders := (s.dev.chan n).orders ++ [(o, s.dev.now)] }) ∧
        d.msq = { s.dev.msq with runs := s.dev.msq.runs.erase r } ∧
        (∀ m, m ≠ n.val → d.chan m = s.dev.chan m) ∧ d = { s.dev with ch := d.ch, regs := d.regs, msq := d.msq } := by
  have hcn : ((s.dev.dropRun r).queueOrder n o).chan n = { s.dev.chan n with orders := (s.dev.chan n).orders ++ [(o, s.dev.now)] } := Dev.chan_setChan_same _ _ _
  have hcm (m : Nat) (hm : m ≠ n.val) : ((s.dev.dropRun r).queueOrder n o).chan m = s.dev.chan m := Dev.chan_setChan_ne (s.dev.dropRun r) _ hm
  refine gives_of_eq (exec_sectorRunOrder n tbuf s) hl (e := ((s.dev.dropRun r).queueOrder n o).startRun n) ?_ ?_
  · rw [hf]
    dsimp only
    rw [if_neg (Nat.not_le.2 hc), ← ho]
    exact Dev.readOrder_queued (d := s.dev.dropRun r) hc hh ha hu
  · by_cases hr : (s.dev.chan n).run = none
    · have hn : ((s.dev.dropRun r).queueOrder n o).chan n = { s.dev.chan n with orders := [(o, s.dev.now)] } := by rw [hcn, hq.resolve_left (not_not.2 hr)]; rfl
      obtain ⟨⟨r', h1, h2, h3, h4, h5, h6⟩, horders, hothers, hframe⟩ :=
        Dev.startRun_starts (d := (s.dev.dropRun r).queueOrder n o) (n := n) (o := o) (t := s.dev.now) (l := []) (by rw [hn]; exact hr) (by rw [hn]) hu
      refine ⟨fun _ => ⟨r', h1, h2, h3, h4, h5, h6, horders⟩, fun c => absurd hr c, ?_, fun m hm => (hothers m hm).trans (hcm m hm), ?_⟩
      · rw [hframe]; rfl
      · rw [hframe]; rfl
    · rw [Dev.startRun_busy (by rw [hcn]; exact hr)]
      exact ⟨fun c => absurd c hr, fun _ => hcn, rfl, hcm, rfl⟩

/-! ### A sector comes (R31, R111) -/

/-- The framing of a sector follows the format and the channel's SYNC word. -/
theorem Dev.frameSector_congr {d e : Dev} {n : Nat} (hl : e.load = d.load) (hw : e.word (0x1000020 + 0x10000 * n) = d.word (0x1000020 + 0x10000 * n)) (o : RunOrder) (i : Nat)
    (v : SectorView) (asp : List (Nat × Nat × Nat)) : e.frameSector n o i v asp = d.frameSector n o i v asp := by
  unfold Dev.frameSector Dev.sectorSplits Dev.sectorPos Dev.fmtOf
  rw [hl, Dev.fld_congr (f := F.CH_SYNC_PSM_WIN n) rfl hw, Dev.fld_congr (f := F.CH_SYNC_PSM_THR n) rfl hw, Dev.fld_congr (f := F.CH_SYNC_SSM_THR n) rfl hw,
    Dev.fld_congr (f := F.CH_SYNC_RSM_THR n) rfl hw, Dev.fld_congr (f := F.CH_SYNC_SSM_WIN n) rfl hw]

theorem Dev.setSlotBusy_frame (d : Dev) (a k : Nat) (b : Bool) : d.setSlotBusy a k b = { d with buf := (d.setSlotBusy a k b).buf, regs := (d.setSlotBusy a k b).regs } := by
  unfold Dev.setSlotBusy Dev.setSlotMap; split <;> rfl

theorem Dev.slotBusy_congr {d e : Dev} (h : e.buf = d.buf) (a k : Nat) : e.slotBusy a k = d.slotBusy a k := by unfold Dev.slotBusy Dev.slotMap; rw [h]

theorem Dev.setSlotBusy_busy (d : Dev) (a k : Nat) : (d.setSlotBusy a k true).slotBusy a k = true := by
  have h : (d.setSlotBusy a k true).slotMap a = (d.slotMap a).set (fun _ => none) k (some 0) := by
    unfold Dev.setSlotBusy Dev.setSlotMap Dev.slotMap
    split <;> rfl
  unfold Dev.slotBusy
  rw [h, Tab.get_set_same]; rfl

theorem Dev.setSlotBusy_word (d : Dev) (a k : Nat) (b : Bool) {x : Nat} (hx : x ≠ (F.BUF_TBSTAT_BUSY a).a) : (d.setSlotBusy a k b).word x = d.word x := by
  unfold Dev.setSlotBusy Dev.setSlotMap
  rw [Dev.word_setFld_ne _ _ _ hx]
  split <;> rfl

/-- The sector may be read: its order is 2 µs old, DEC has a credit, its slot is free, and the governor has granted the head. -/
def Dev.MayRead (d : Dev) (n : Nat) (r : RunS) : Prop :=
  r.accepted + 2000 ≤ d.now ∧ d.canSend .dec n = true ∧ d.tbufSize (actOf n) ≠ 0 ∧ d.slotBusy (actOf n) (runSlot r.ord r.next) = false ∧ d.granted n false = true

/-- The sector that begins at the run's next place. -/
def Dev.newSector (d : Dev) (n : Nat) (v : SectorView) (r : RunS) : SectorS :=
  { index := r.next, tbuf := runSlot r.ord r.next, view := v, frame := d.frameSector n r.ord r.next v [] }

/-- The slot of the run's next sector becomes busy, and its preamble is acquired. -/
def Dev.acquire (d : Dev) (n : Nat) (r : RunS) : Dev := (d.setSlotBusy (actOf n) (runSlot r.ord r.next) true).setFld (F.CH_STAT_PLL_LOCK n) 1

/-- What SECTOR_START does with the run of its channel. -/
def Dev.sectorStart (d : Dev) (n : Nat) (v : SectorView) (r : RunS) : Dev :=
  if r.cur.isSome || decide (r.ord.count ≤ r.next) || !d.atSector n r.ord r.next 0 then d
  else if !((d.readers n r.ord).1 || (d.readers n r.ord).2) then ((d.readsLost n r.ord r.next).event (chBlk n) 0x04 r.ord.tag r.ord.reader).endRun n r 8
  else if decide (d.now < r.accepted + 2000) || !d.canSend .dec n || d.tbufSize (actOf n) == 0 || d.slotBusy (actOf n) (runSlot r.ord r.next) || !d.granted n false then d.slip n r
  else (d.acquire n r).setRun n { r with cur := some ((d.acquire n r).newSector n v r) }

theorem exec_sectorStart (n : Fin 20) (v : SectorView) (s : State) : exec (.sectorStart n v) s =
    s.doesIn 2 fun d => match (d.chan n).run with | none => d | some r => d.sectorStart n v r := rfl

theorem Dev.mayRead_iff (d : Dev) (n : Nat) (r : RunS) : d.MayRead n r ↔
    (decide (d.now < r.accepted + 2000) || !d.canSend .dec n || d.tbufSize (actOf n) == 0 || d.slotBusy (actOf n) (runSlot r.ord r.next) || !d.granted n false) = false := by
  unfold Dev.MayRead
  simp only [Bool.or_eq_false_iff, decide_eq_false_iff_not, Nat.not_lt, Bool.not_eq_false', beq_eq_false_iff_ne, ne_eq, and_assoc]

section
variable {d : Dev} {n : Nat} (v : SectorView) {r : RunS}

theorem Dev.sectorStart_elsewhere (h : ¬(r.cur = none ∧ r.next < r.ord.count ∧ d.atSector n r.ord r.next 0 = true)) : d.sectorStart n v r = d := by
  refine if_pos ?_
  by_contra hc
  simp only [Bool.or_eq_true, decide_eq_true_eq, not_or, Bool.not_eq_true, Option.isSome_eq_false_iff, Option.isNone_iff_eq_none, Nat.not_le, Bool.not_eq_false'] at hc
  exact h ⟨hc.1.1, hc.1.2, hc.2⟩

variable (hh : r.cur = none ∧ r.next < r.ord.count ∧ d.atSector n r.ord r.next 0 = true) (hu : ((d.readers n r.ord).1 || (d.readers n r.ord).2) = true)
include hh hu

theorem Dev.sectorStart_here : d.sectorStart n v r =
    if decide (d.now < r.accepted + 2000) || !d.canSend .dec n || d.tbufSize (actOf n) == 0 || d.slotBusy (actOf n) (runSlot r.ord r.next) || !d.granted n false then d.slip n r
    else (d.acquire n r).setRun n { r with cur := some ((d.acquire n r).newSector n v r) } := by
  obtain ⟨hc, hn, hat⟩ := hh
  unfold Dev.sectorStart
  rw [if_neg (by simp [hc, hat, hn]), hu]
  exact if_neg (by decide)

theorem Dev.sectorStart_slips (hm : ¬d.MayRead n r) : d.sectorStart n v r = d.slip n r := by
  rw [Dev.sectorStart_here v hh hu, if_pos]
  rwa [Dev.mayRead_iff, Bool.not_eq_false] at hm

theorem Dev.sectorStart_reads (hm : d.MayRead n r) : d.sectorStart n v r = (d.acquire n r).setRun n { r with cur := some ((d.acquire n r).newSector n v r) } := by
  rw [Dev.sectorStart_here v hh hu, (Dev.mayRead_iff d n r).1 hm]
  exact if_neg (by decide)
end

theorem actOf_le (n : Nat) : actOf n ≤ 1 := by unfold actOf; split <;> decide

theorem Dev.acquire_frame (d : Dev) (n : Nat) (r : RunS) : d.acquire n r = { d with buf := (d.acquire n r).buf, regs := (d.acquire n r).regs } := by
  unfold Dev.acquire; rw [Dev.setSlotBusy_frame]; rfl

theorem Dev.acquire_busy (d : Dev) (n : Nat) (r : RunS) : (d.acquire n r).slotBusy (actOf n) (runSlot r.ord r.next) = true :=
  (Dev.slotBusy_congr (Dev.setFld_buf _ _ _) _ _).trans (Dev.setSlotBusy_busy d _ _)

theorem Dev.acquire_lock (d : Dev) (n : Nat) (r : RunS) : (d.acquire n r).flag (F.CH_STAT_PLL_LOCK n) = true := by
  unfold Dev.acquire Dev.flag
  rw [Dev.fld_setFld_one _ (F.CH_STAT_PLL_LOCK n) (show 30 + 1 ≤ 32 by decide) rfl]; rfl

theorem Dev.newSector_acquire (d : Dev) (n : Fin 20) (v : SectorView) (r : RunS) : (d.acquire n r).newSector n v r = d.newSector n v r := by
  have ha := actOf_le n
  have hn := n.isLt
  unfold Dev.newSector
  refine congrArg (fun f => SectorS.mk r.next (runSlot r.ord r.next) v f _ _ _ _ _ _ _) (Dev.frameSector_congr ?_ ?_ _ _ _ _)
  · rw [Dev.acquire_frame]
  · exact (Dev.word_setFld_ne _ _ _ (show 0x1000020 + 0x10000 * n.val ≠ 0x1000004 + 0x10000 * n.val by omega)).trans
      (Dev.setSlotBusy_word _ _ _ _ (show 0x1000020 + 0x10000 * n.val ≠ 0x4000090 + 4 * actOf n by omega))

theorem gives_sectorStart {s : State} {n : Fin 20} (v : SectorView) {r : RunS} (hl : s.dev.live 2 = true) (hr : (s.dev.chan n).run = some r) {P : Dev → Prop}
    (hP : P (s.dev.sectorStart n v r)) : Gives (.sectorStart n v) s P :=
  gives_of_eq (exec_sectorStart n v s) hl (by rw [hr]) hP

theorem Dev.setRun_frame (d : Dev) (n : Nat) (r : RunS) : d.setRun n r = { d with ch := (d.setRun n r).ch } := rfl
theorem Dev.chan_setRun_same (d : Dev) (n : Nat) (r : RunS) : (d.setRun n r).chan n = { d.chan n with run := some r } := Dev.chan_setChan_same _ _ _
theorem Dev.chan_setRun_ne (d : Dev) {n m : Nat} (r : RunS) (h : m ≠ n) : (d.setRun n r).chan m = d.chan m := Dev.chan_setChan_ne _ _ h

/-- A sector that is read: its slot is busy and its preamble acquired. -/
theorem Dev.read_spec (d : Dev) (n : Nat) (r r' : RunS) : let e := (d.acquire n r).setRun n r'
    e.chan n = { d.chan n with run := some r' } ∧ e.slotBusy (actOf n) (runSlot r.ord r.next) = true ∧ e.flag (F.CH_STAT_PLL_LOCK n) = true ∧
      e = { d with ch := e.ch, buf := e.buf, regs := e.regs } ∧ ∀ m, m ≠ n → e.chan m = d.chan m := by
  have hf := d.acquire_frame n r
  have hc (m : Nat) : (d.acquire n r).chan m = d.chan m := Dev.chan_congr (by rw [hf]) m
  have hb := d.acquire_busy n r
  have hp := d.acquire_lock n r
  generalize d.acquire n r = x at hf hc hb hp
  have hx := x.setRun_frame n r'
  have hn := x.chan_setRun_same n r'
  have hm (m : Nat) (h : m ≠ n) := x.chan_setRun_ne r' h
  dsimp only
  generalize x.setRun n r' = y at hx hn hm
  refine ⟨by rw [hn, hc], (Dev.slotBusy_congr (by rw [hx]) _ _).trans hb, (congrArg (· != 0) (Dev.fld_congr_regs (d := x) (by rw [hx]) (by rw [hx]) _)).trans hp, by rw [hx, hf],
    fun m h => (hm m h).trans (hc m)⟩

/-- A sector that slips is counted. -/
theorem Dev.slip_spec (d : Dev) (n : Nat) (r : RunS) : let e := d.slip n r
    e.chan n = { d.chan n with run := some { r with next := r.next + 1, slipped := r.slipped + 1, firstSlip := some (r.firstSlip.getD r.next) } } ∧
      e.counter .seq (35 + actOf n) = d.counter .seq (35 + actOf n) + 1 ∧ e = { d with ch := e.ch, cnt := e.cnt } ∧ ∀ m, m ≠ n → e.chan m = d.chan m :=
  ⟨Dev.chan_setRun_same d _ _, Dev.counter_bump_same _ _ _, rfl, fun _ hm => Dev.chan_setRun_ne d _ hm⟩

theorem Dev.sectorStart_spec (d : Dev) (n : Fin 20) (v : SectorView) (r : RunS) :
    let here := r.cur = none ∧ r.next < r.ord.count ∧ d.atSector n r.ord r.next 0 = true
    let e := d.sectorStart n v r
    (¬here → e = d) ∧
      (here → ((d.readers n r.ord).1 || (d.readers n r.ord).2) = true →
        (d.MayRead n r → (∃ c, e.chan n = { d.chan n with run := some { r with cur := some c } } ∧ c.index = r.next ∧ c.tbuf = runSlot r.ord r.next ∧
            c.view = v ∧ c.frame = d.frameSector n r.ord r.next v []) ∧
          e.slotBusy (actOf n) (runSlot r.ord r.next) = true ∧ e.flag (F.CH_STAT_PLL_LOCK n) = true ∧ e = { d with ch := e.ch, buf := e.buf, regs := e.regs }) ∧
        (¬d.MayRead n r → e.chan n = { d.chan n with run := some { r with next := r.next + 1, slipped := r.slipped + 1, firstSlip := some (r.firstSlip.getD r.next) } } ∧
          e.counter .seq (35 + actOf n) = d.counter .seq (35 + actOf n) + 1 ∧ e = { d with ch := e.ch, cnt := e.cnt }) ∧
        (∀ m, m ≠ n.val → e.chan m = d.chan m)) := by
  refine ⟨Dev.sectorStart_elsewhere v, fun hh hu => ?_⟩
  by_cases hm : d.MayRead n r
  · obtain ⟨hn, hb, hp, hf, ho⟩ := d.read_spec n r { r with cur := some (d.newSector n v r) }
    dsimp only
    rw [Dev.sectorStart_reads v hh hu hm, Dev.newSector_acquire]
    exact ⟨fun _ => ⟨⟨d.newSector n v r, hn, rfl, rfl, rfl, rfl⟩, hb, hp, hf⟩, fun c => absurd hm c, ho⟩
  · obtain ⟨hn, hc, hf, ho⟩ := d.slip_spec n r
    dsimp only
    rw [Dev.sectorStart_slips v hh hu hm]
    exact ⟨fun c => absurd c hm, fun _ => ⟨hn, hc, hf⟩, ho⟩

/-! ### A run ends (R100, R113) -/

/-- A clean run is learned at once where every sector sent is reported already. -/
def Dev.learned (d : Dev) (n : Nat) (r : RunS) : Dev :=
  if d.flag (F.CH_CTRL_LEARN n) && !r.reverted && !r.unclean && decide (r.oks = r.sent ∧ 0 < r.sent) then d.setLive n r.ord.band (d.loopsNow n) else d

/-- What a clean run leaves to be learned later. -/
def Dev.learnLater (d : Dev) (n : Nat) (r : RunS) : List Learn :=
  if d.flag (F.CH_CTRL_LEARN n) && !r.reverted && !r.unclean && decide (r.oks < r.sent) then [⟨r.ord.tag, r.ord.band, r.sent - r.oks, (d.learned n r).loopsNow n⟩] else []

/-- The channel is idle again, and MSQa has the run's report. -/
def Dev.reported (d : Dev) (n : Nat) (r : RunS) (extra : Nat) : Dev :=
  (((d.learned n r).setChan n { d.chan n with run := none, learn := (d.chan n).learn ++ d.learnLater n r }).runReport (runReportOf n r extra)).setFld (F.CH_STAT_RUN n) 0

theorem Dev.endRun_eq (d : Dev) (n : Nat) (r : RunS) (extra : Nat) : d.endRun n r extra = (d.reported n r extra).startRun n := rfl

theorem Dev.learned_frame (d : Dev) (n : Nat) (r : RunS) : d.learned n r = { d with regs := (d.learned n r).regs } := by
  unfold Dev.learned
  split
  · exact Dev.setLive_frame _ _ _ _
  · rfl

theorem Dev.learned_word (d : Dev) (n : Nat) (r : RunS) {a : Nat} (ha : a < blkBase (chBlk n) + 0x3000) : (d.learned n r).word a = d.word a := by
  unfold Dev.learned
  split
  · exact Dev.setLive_word _ _ _ _ ha
  · rfl

theorem Dev.reported_frame (d : Dev) (n : Nat) (r : RunS) (extra : Nat) : d.reported n r extra =
    { d with ch := (d.reported n r extra).ch, regs := (d.reported n r extra).regs, msq := { d.msq with runs := d.msq.runs ++ [runReportOf n r extra] } } := by
  unfold Dev.reported
  rw [Dev.learned_frame]; rfl

theorem Dev.reported_chan (d : Dev) (n : Nat) (r : RunS) (extra : Nat) :
    (d.reported n r extra).chan n = { d.chan n with run := none, learn := (d.chan n).learn ++ d.learnLater n r } := Dev.chan_setChan_same (d.learned n r) _ _

theorem Dev.reported_others (d : Dev) {n m : Nat} (r : RunS) (extra : Nat) (hm : m ≠ n) : (d.reported n r extra).chan m = d.chan m :=
  (Dev.chan_setChan_ne (d.learned n r) _ hm).trans (Dev.chan_congr (by rw [Dev.learned_frame]) m)

theorem Dev.reported_readers (d : Dev) (n : Fin 20) (r : RunS) (extra : Nat) (o : RunOrder) : (d.reported n r extra).readers n o = d.readers n o := by
  have hw {a : Nat} (h : a = 0x1000010 + 0x10000 * n.val ∨ a = 0x1000014 + 0x10000 * n.val) : (d.reported n r extra).word a = d.word a := by
    refine (Dev.word_setFld_ne _ _ _ (show a ≠ 0x1000004 + 0x10000 * n.val by omega)).trans ?_
    exact (Dev.word_congr (d := d.learned n r) rfl rfl a).trans (Dev.learned_word d n r (by rw [blkBase_chBlk n.isLt]; omega))
  exact Dev.readers_congr (hw (.inl rfl)) (hw (.inr rfl)) o

theorem exec_chRunEnd (n : Fin 20) (s : State) : exec (.chRunEnd n) s = s.doesIn 2 fun d =>
    match (d.chan n).run with
    | none => d
    | some r => if r.cur.isNone && decide (r.ord.count ≤ r.next) then d.endRun n r 0 else d := rfl

theorem gives_chRunEnd_not {s : State} {n : Fin 20} {r : RunS} (hl : s.dev.live 2 = true) (hr : (s.dev.chan n).run = some r)
    (h : ¬(r.cur = none ∧ r.ord.count ≤ r.next)) : Gives (.chRunEnd n) s fun d => d = s.dev := by
  refine gives_of_eq (exec_chRunEnd n s) hl (e := s.dev) ?_ rfl
  rw [hr]
  exact if_neg (by simpa using h)

theorem gives_chRunEnd {s : State} {n : Fin 20} {r : RunS} (hl : s.dev.live 2 = true) (hr : (s.dev.chan n).run = some r) (hc : r.cur = none) (hn : r.ord.count ≤ r.next)
    (hu : ∀ o t l, (s.dev.chan n).orders = (o, t) :: l → ((s.dev.readers n o).1 || (s.dev.readers n o).2) = true) :
    Gives (.chRunEnd n) s fun d =>
        d.msq = { s.dev.msq with runs := s.dev.msq.runs ++ [runReportOf n r 0] } ∧
        ((s.dev.chan n).orders = [] → (d.chan n).run = none ∧ d.flag (F.CH_STAT_RUN n) = false) ∧
        (∀ o t l, (s.dev.chan n).orders = (o, t) :: l → (d.chan n).orders = l ∧ ∃ r', (d.chan n).run = some r' ∧ r'.ord = o ∧ r'.accepted = t ∧ r'.next = 0) ∧
        (∀ m, m ≠ n.val → d.chan m = s.dev.chan m) ∧ d = { s.dev with ch := d.ch, regs := d.regs, msq := d.msq } := by
  have hf := s.dev.reported_frame n r 0
  have hn' := s.dev.reported_chan n r 0
  have hm (m : Nat) (hm : m ≠ n.val) := s.dev.reported_others r 0 hm
  have hrd := s.dev.reported_readers n r 0
  have hflag : (s.dev.reported n r 0).flag (F.CH_STAT_RUN n) = false := congrArg (· != 0) (Dev.fld_setFld_same _ (F.CH_STAT_RUN n) 0 (show 31 + 1 ≤ 32 by decide))
  refine gives_of_eq (exec_chRunEnd n s) hl (e := (s.dev.reported n r 0).startRun n) ?_ ?_
  · rw [hr]
    exact if_pos (by simp [hc, hn])
  generalize s.dev.reported n r 0 = x at hf hn' hm hrd hflag
  cases ho : (s.dev.chan n).orders with
  | nil =>
    rw [Dev.startRun_idle (by rw [hn']; exact ho)]
    exact ⟨by rw [hf], fun _ => ⟨by rw [hn'], hflag⟩, nofun, hm, by rw [hf]⟩
  | cons p l =>
    obtain ⟨o, t⟩ := p
    obtain ⟨⟨r', h1, h2, h3, h4, -, -⟩, horders, hothers, hframe⟩ :=
      Dev.startRun_starts (d := x) (n := n) (o := o) (t := t) (l := l) (by rw [hn']) (by rw [hn']; exact ho) (by rw [hrd]; exact hu o t l ho)
    refine ⟨by rw [hframe, hf], nofun, fun o' t' l' e => ?_, fun m hm' => (hothers m hm').trans (hm m hm'), by rw [hframe, hf]⟩
    cases e
    exact ⟨horders, r', h1, h2, h3, h4⟩

/-- Settles O7, by what starting a run, beginning a sector and ending a run do to their channel. -/
theorem sectorRunsReadOrSlip : Obligations.SectorRunsReadOrSlip := by
  unfold Obligations.SectorRunsReadOrSlip
  refine ⟨fun s n tbuf r o hl hf ho => ⟨fun hc => ?_, fun hc hh ha hu hq => gives_sectorRunOrder tbuf hl hf ho hc hh ha hu hq⟩, fun s n tbuf hl hf => ?_,
    fun s n v r hl hr => gives_sectorStart v hl hr (s.dev.sectorStart_spec n v r),
    fun s n r hl hr => ⟨gives_chRunEnd_not hl hr, fun hc hn hu => gives_chRunEnd hl hr hc hn hu⟩⟩
  · exact gives_of_eq (exec_sectorRunOrder n tbuf s) hl (e := s.dev) (by rw [hf]; exact if_pos hc) rfl
  · exact gives_of_eq (exec_sectorRunOrder n tbuf s) hl (e := s.dev) (by rw [hf]) rfl

end Sys2Proof.Machine
end

section
/-! SUPPORT. Abort: what its target comes to while its work is abandoned (R33, R349). -/
namespace Sys2Proof.Machine

/-! ### Records under a change of one command -/

theorem Dev.modCmd_cmd? (d : Dev) (t : Tag) {f : CmdRec → CmdRec} (hf : ∀ c, (f c).tag = c.tag) (u : Tag) :
    (d.modCmd t f).cmd? u = (d.cmd? u).map fun c => if c.tag = t then f c else c := by
  have ht (c : CmdRec) : (if c.tag = t then f c else c).tag = c.tag := by
    split
    · exact hf c
    · rfl
  unfold Dev.cmd? Dev.modCmd
  rw [List.find?_map]
  simp only [Function.comp_def, ht]

theorem Dev.cmd?_tag {d : Dev} {t : Tag} {c : CmdRec} (h : d.cmd? t = some c) : c.tag = t := by simpa using List.find?_some h

/-- Ending a command adds to the completion entries, if anything. -/
theorem Dev.finish_post (d : Dev) (t : Tag) (st : Status) (a b : Nat) : ∃ l, (d.finish t st a b).hst.post = d.hst.post ++ l := by
  obtain ⟨n, l, he⟩ := d.finish_eq t st a b
  rw [he]
  split
  · exact ⟨[], (List.append_nil _).symm⟩
  · split
    · exact ⟨_, rfl⟩
    · refine ⟨[{ tag := t, st := st, dw0 := a, dw1 := b }], congrArg (· ++ _) ?_⟩
      unfold Dev.addError Dev.setCtrl
      dsimp only
      split <;> rfl

/-- Command `g` is being abandoned: its records ask for no sector and end with Command Abort Requested, and either its record is there, unsilenced (and without a descriptor where `z` holds), or
it has ended with that status. -/
structure Quits (g : Tag) (z : Prop) (d : Dev) : Prop where
  marked : ∀ x ∈ d.cmds, x.tag = g → x.need = [] ∧ x.quit = some (stAborted, 0)
  ending : (∃ x, d.cmd? g = some x ∧ x.silent = false ∧ (z → x.desc = 0)) ∨ (d.cmd? g = none ∧ ∃ p ∈ d.hst.post, p.tag = g ∧ p.st = stAborted)

section
variable {g : Tag} {z : Prop} {d : Dev}

/-- A change that keeps the commands and adds to the completion entries, if anything. -/
theorem Quits.keep {e : Dev} (h : Quits g z d) (hc : e.cmds = d.cmds) (hp : ∃ l, e.hst.post = d.hst.post ++ l) : Quits g z e := by
  obtain ⟨l, hp⟩ := hp
  have hq (t : Tag) : e.cmd? t = d.cmd? t := congrArg (List.find? _) hc
  refine ⟨fun x hx => h.marked x (hc ▸ hx), ?_⟩
  rw [hq, hp]
  exact h.ending.imp id fun ⟨hn, p, hm, hg⟩ => ⟨hn, p, List.mem_append_left l hm, hg⟩

theorem Quits.rest {v rg st tb po lo bg cn sh ro me lg fl ld dl zn se bu sc md dm ch de wr sr la sp ms pw rn sq fr} (h : Quits g z d) :
    Quits g z ⟨v, rg, st, tb, po, lo, bg, cn, sh, ro, me, lg, fl, ld, dl, d.hst, d.cmds, zn, se, bu, sc, md, dm, ch, de, wr, sr, la, sp, ms, pw, rn, sq, fr⟩ := ⟨h.marked, h.ending⟩

theorem Quits.hst {x : HstS} (hx : x.post = d.hst.post) (h : Quits g z d) : Quits g z { d with hst := x } := h.keep rfl ⟨[], hx.trans (List.append_nil _).symm⟩

/-! ### The control flow of a definition -/

theorem Quits.ite {c : Prop} [Decidable c] {a b : Dev} (ha : Quits g z a) (hb : Quits g z b) : Quits g z (if c then a else b) := by
  split
  · exact ha
  · exact hb
theorem Quits.iteS {α : Type} {c : Prop} [Decidable c] {a b : α × Dev} (ha : Quits g z a.2) (hb : Quits g z b.2) : Quits g z (if c then a else b).2 := by
  split
  · exact ha
  · exact hb
theorem Quits.iteF {α : Type} {c : Prop} [Decidable c] {a b : Dev × α} (ha : Quits g z a.1) (hb : Quits g z b.1) : Quits g z (if c then a else b).1 := by
  split
  · exact ha
  · exact hb
theorem Quits.ofS {α : Type} {p : α × Dev} {a : α} (he : p = (a, d)) (h : Quits g z p.2) : Quits g z d := by subst he; exact h
theorem Quits.ofSS {α β : Type} {p : α × β × Dev} {a : α} {b : β} (he : p = (a, b, d)) (h : Quits g z p.2.2) : Quits g z d := by subst he; exact h
theorem Quits.foldlMem {α : Type} {f : Dev → α → Dev} {l : List α} (hf : ∀ d, ∀ x ∈ l, Quits g z d → Quits g z (f d x)) (h : Quits g z d) : Quits g z (l.foldl f d) := by
  induction l generalizing d with
  | nil => exact h
  | cons x l ih => exact ih (fun d y hy => hf d y (List.mem_cons_of_mem x hy)) (hf d x List.mem_cons_self h)
theorem Quits.foldl {α : Type} {f : Dev → α → Dev} {l : List α} (hf : ∀ d x, Quits g z d → Quits g z (f d x)) (h : Quits g z d) : Quits g z (l.foldl f d) :=
  .foldlMem (fun d x _ => hf d x) h

/-! ### Registers, HST, events -/

theorem Quits.setFld {f v} (h : Quits g z d) : Quits g z (d.setFld f v) := h.rest
theorem Quits.setFlag {f b} (h : Quits g z d) : Quits g z (d.setFlag f b) := h.rest
theorem Quits.bump {b i n} (h : Quits g z d) : Quits g z (d.bump b i n) := h.rest
theorem Quits.handOver {c} (h : Quits g z d) : Quits g z (d.handOver c) := h.keep rfl ⟨[c], rfl⟩
theorem Quits.setCtrl {c x} (h : Quits g z d) : Quits g z (d.setCtrl c x) := .ite (.hst rfl h) (.hst rfl h)
theorem Quits.sendTx {t} (h : Quits g z d) : Quits g z (d.sendTx t) := .hst rfl h
theorem Quits.hostWrite {ch addr b} (h : Quits g z d) : Quits g z (d.hostWrite ch addr b) := .bump (.bump (.sendTx h))
theorem Quits.hostRead {burst ofs ch port addr len} (h : Quits g z d) : Quits g z (d.hostRead burst ofs ch port addr len) := .bump (.bump (.sendTx (.hst rfl h)))
theorem Quits.raiseAen {c e} (h : Quits g z d) : Quits g z (d.raiseAen c e) := by
  unfold Dev.raiseAen
  extract_lets +onlyGivenNames _
  refine .ite h ?_
  split
  · exact .handOver (.setCtrl h)
  · exact .setCtrl h
theorem Quits.critWarn {bits info} (h : Quits g z d) : Quits g z (d.critWarn bits info) := .foldl (fun _ _ h1 => .ite (.raiseAen h1) h1) (.rest h)
theorem Quits.pushEvent {e} (h : Quits g z d) : Quits g z (d.pushEvent e) := h.rest
theorem Quits.loseEvent {b inj} (h : Quits g z d) : Quits g z (d.loseEvent b inj) := h.rest
theorem Quits.reportLost {b} (h : Quits g z d) : Quits g z (d.reportLost b) := .ite (.pushEvent (.rest h)) h
theorem Quits.event {b n p1 p2 p3 src} (h : Quits g z d) : Quits g z (d.event b n p1 p2 p3 src) :=
  .ite (.loseEvent (.setFlag (.ite h (.critWarn h)))) (.ite (.pushEvent (.reportLost (.ite h (.critWarn h)))) (.loseEvent (.reportLost (.ite h (.critWarn h)))))
theorem Quits.sram {b m r inj} (h : Quits g z d) : Quits g z (d.sram b m r inj) := by
  unfold Dev.sram
  split
  · exact h
  · exact .event (.rest (.ite (.bump h) h))
  · exact .event (.setFld (.ite (.setFld (.setFld (.rest (.ite (.bump h) h)))) (.setFld (.rest (.ite (.bump h) h)))))

/-! ### Commands -/

theorem Quits.putCmd {c} (hc : c.tag ≠ g) (h : Quits g z d) : Quits g z (d.putCmd c) := by
  refine ⟨fun x hx hg => ?_, ?_⟩
  · rcases List.mem_append.1 hx with hx | hx
    · exact h.marked x (List.mem_filter.1 hx).1 hg
    · exact absurd (List.mem_singleton.1 hx ▸ hg) hc
  · rw [Dev.putCmd_cmd?, if_neg (Ne.symm hc)]
    exact h.ending

theorem Quits.modCmd {t f} (ht : ∀ c : CmdRec, (f c).tag = c.tag) (hf : t = g → ∀ c, (f c).need = c.need ∧ (f c).quit = c.quit ∧ (f c).silent = c.silent ∧ (c.desc = 0 → (f c).desc = 0))
    (h : Quits g z d) : Quits g z (d.modCmd t f) := by
  refine ⟨fun x hx hg => ?_, ?_⟩
  · obtain ⟨y, hy, rfl⟩ := List.mem_map.1 hx
    split at hg
    · next hyt =>
      rw [ht] at hg
      obtain ⟨hn, hq, -, -⟩ := hf (hyt.symm.trans hg) y
      rw [if_pos hyt, hn, hq]
      exact h.marked y hy hg
    · next hyt =>
      rw [if_neg hyt]
      exact h.marked y hy hg
  · rw [Dev.modCmd_cmd? _ _ ht]
    rcases h.ending with ⟨x, hx, hs, hz⟩ | ⟨hn, hp⟩
    · refine .inl ⟨_, by rw [hx]; rfl, ?_⟩
      dsimp only
      split
      · next hxt =>
        obtain ⟨-, -, hsf, hd⟩ := hf (hxt.symm.trans (Dev.cmd?_tag hx)) x
        exact ⟨hsf.trans hs, fun c => hd (hz c)⟩
      · exact ⟨hs, hz⟩
    · exact .inr ⟨by rw [hn]; rfl, hp⟩

/-- The end of another command. -/
theorem Quits.finish {t st dw0 dw1} (ht : t ≠ g) (h : Quits g z d) : Quits g z (d.finish t st dw0 dw1) := by
  obtain ⟨l, hl⟩ := d.finish_post t st dw0 dw1
  refine ⟨fun x hx => h.marked x ?_, ?_⟩
  · rw [Dev.finish_cmds] at hx
    exact (List.mem_filter.1 hx).1
  · rw [Dev.finish_cmd?, if_neg (Ne.symm ht), hl]
    exact h.ending.imp id fun ⟨hn, p, hm, hg⟩ => ⟨hn, p, List.mem_append_left l hm, hg⟩

/-- The command's own end. -/
theorem Quits.ends {x : CmdRec} (hx : d.cmd? g = some x) (hs : x.silent = false) : Quits g z (d.finish g stAborted) := by
  refine ⟨fun y hy hg => ?_, .inr ⟨by rw [Dev.finish_cmd?, if_pos rfl], { tag := g, st := stAborted, dw0 := 0, dw1 := 0 }, ?_, rfl, rfl⟩⟩
  · rw [Dev.finish_cmds] at hy
    exact absurd hg (of_decide_eq_true (List.mem_filter.1 hy).2)
  · rw [Dev.finish_quiet_post _ _ rfl _ _ fun c hc => by rw [hx] at hc; exact Option.some.inj hc ▸ hs]
    exact List.mem_append_right _ List.mem_cons_self

/-- A record that asks for a sector is another command's. -/
theorem Quits.ne_of_need (h : Quits g z d) {x : CmdRec} (hx : x ∈ d.cmds) (hn : x.need ≠ []) : x.tag ≠ g := fun hg => hn (h.marked x hx hg).1

/-! ### Flash and zones -/

theorem Quits.modZne {f} (h : Quits g z d) : Quits g z (d.modZne f) := h.rest
theorem Quits.setFword {w x} (h : Quits g z d) : Quits g z (d.setFword w x) := h.rest
theorem Quits.programWord {word data slot} (h : Quits g z d) : Quits g z (d.programWord word data slot).1 := .iteF (.bump (.bump (.setFword h))) (.iteF (.event h) (.bump (.event h)))
theorem Quits.jput {r} (h : Quits g z d) : Quits g z (d.jput r) := .bump (.modZne (.programWord h))
theorem Quits.intentWrite {b ty sector seq} (h : Quits g z d) : Quits g z (d.intentWrite b ty sector seq) := .ite (.rest (.setFword h)) (.rest (.setFword h))
theorem Quits.slotEnd {slot st pulses} (h : Quits g z d) : Quits g z (d.slotEnd slot st pulses) := .ite h (.setFld (.setFld (.setFld (.setFld h))))
theorem Quits.flashRefuse {slot st word op} (h : Quits g z d) : Quits g z (d.flashRefuse slot st word op) := .bump (.event (.slotEnd h))
theorem Quits.setBank {k b} (h : Quits g z d) : Quits g z (d.setBank k b) := .ite (.rest h) (.rest h)
theorem Quits.tearWords {x} (h : Quits g z d) : Quits g z (d.tearWords x) := h.rest
theorem Quits.eraseWords {x} (h : Quits g z d) : Quits g z (d.eraseWords x) := h.rest
theorem Quits.startOp {o} (h : Quits g z d) : Quits g z (d.startOp o) :=
  .ite (.flashRefuse h) (.ite (.flashRefuse h) (.ite (.setFld (.setFld (.bump (.setBank (.tearWords (.intentWrite (.rest h))))))) (.ite (.bump (.setBank h)) (.event (.slotEnd h)))))
theorem Quits.queueOp {o} (h : Quits g z d) : Quits g z (d.queueOp o) := .ite (.startOp h) (.setBank h)
theorem Quits.intentRollover {b} (h : Quits g z d) : Quits g z (d.intentRollover b) := .ite h (.queueOp (.ite (.rest h) (.rest h)))
theorem Quits.eraseSector {x} (h : Quits g z d) : Quits g z (d.eraseSector x) :=
  have hr {st} : Quits g z ((d.event .flc 0x04 st (x * 2048) 2 0xFF).bump .flc 9) := .bump (.event h)
  .ite hr (.ite hr (.ite hr (.intentRollover (.bump (.bump (.intentWrite (.eraseWords (.intentWrite (.rest h)))))))))
theorem Quits.jswitch (h : Quits g z d) : Quits g z d.jswitch := .foldl (fun _ _ h3 => .eraseSector h3) (.foldl (fun _ _ h2 => .jput h2) (.modZne h))
theorem Quits.jwrite {r} (h : Quits g z d) : Quits g z (d.jwrite r) := .jput (.ite (.jswitch h) h)
theorem Quits.setZctx {i c} (h : Quits g z d) : Quits g z (d.setZctx i c) :=
  have h1 {f} : Quits g z ((d.modZne f).setFld F.ZNE_STAT_ACTIVE (d.modZne f).activeZones.length) := .setFld (.modZne h)
  .ite (.sram (.setFlag h1)) h1
theorem Quits.newGen (h : Quits g z d) : Quits g z (d.newGen).2 := .iteS (.event (.setFld h)) (.setFld h)
theorem Quits.resetZone {n k} (h : Quits g z d) : Quits g z (d.resetZone n k) := by
  unfold Dev.resetZone
  extract_lets +onlyGivenNames _ _
  refine .ite h ?_
  split
  next d1 he =>
  have h1 : Quits g z d1 := .ofSS he h.rest
  exact .ite (.bump (.jwrite (.setZctx (.newGen h1)))) (.event (.bump (.jwrite (.setZctx (.newGen h1)))))
theorem Quits.finishZone {n k} (h : Quits g z d) : Quits g z (d.finishZone n k) := .ite h (.setZctx (.bump (.jwrite (.ite (.jwrite h) h))))
theorem Quits.zoneAct {c n zs p f} (hc : c.tag ≠ g) (hf : ∀ e k, Quits g z e → Quits g z (f e k)) (h : Quits g z d) : Quits g z (d.zoneAct c n zs p f) :=
  .ite (.finish hc (.foldl hf h)) (.modCmd (fun _ => rfl) (fun e => absurd e hc) h)
theorem Quits.needMet {c} (hc : c.tag ≠ g) (h : Quits g z d) : Quits g z (d.needMet c) := by
  unfold Dev.needMet
  split
  · split
    · exact .zoneAct hc (fun _ _ h1 => .resetZone h1) h
    · exact .finish hc h
  · split
    · exact .ite (.finish hc h) (.zoneAct hc (fun _ _ h1 => .finishZone h1) h)
    · exact .finish hc h
  · exact .finish hc h

/-- What happens to a sector moves other commands only. -/
theorem Quits.noteSector {key arrived} (h : Quits g z d) : Quits g z (d.noteSector key arrived) := by
  unfold Dev.noteSector
  extract_lets +onlyGivenNames hit tags
  refine .foldlMem (fun e t ht h1 => ?_) h
  have hg : t ≠ g := by
    obtain ⟨x, hx, rfl⟩ := List.mem_map.1 ht
    obtain ⟨hx, hh⟩ := List.mem_filter.1 hx
    refine h.ne_of_need hx fun hn => ?_
    have hk : x.need.contains key = true := (Bool.and_eq_true_iff.1 hh).1
    rw [hn] at hk
    cases hk
  split
  · next c hc =>
    have hc : c.tag ≠ g := (Dev.cmd?_tag hc).trans_ne hg
    exact .ite (.needMet hc (.putCmd hc h1)) (.putCmd hc h1)
  · exact h1
theorem Quits.linesArrived {c first n} (h : Quits g z d) : Quits g z (d.linesArrived c first n) := by
  unfold Dev.linesArrived
  extract_lets +onlyGivenNames _ _ d1 d2
  have h1 : Quits g z d1 := .foldl (fun _ _ h1 => .rest h1) h
  have h2 : Quits g z d2 := by
    unfold d2
    split
    · exact .setZctx h1
    · exact h1
  refine .foldl (fun _ _ h3 => ?_) h2
  split
  · exact .ite (.noteSector h3) h3
  · exact h3
theorem Quits.zeroRest {c} (h : Quits g z d) : Quits g z (d.zeroRest c).2 := by
  unfold Dev.zeroRest
  extract_lets +onlyGivenNames _ _ d1 d2
  have h1 : Quits g z d1 := .rest h
  have h2 : Quits g z d2 := by
    unfold d2
    split
    · exact .setZctx h1
    · exact h1
  exact .foldl (fun _ _ h3 => .noteSector h3) h2

/-! ### Descriptors -/

theorem Quits.cmdCheck {t} (h : Quits g z d) : Quits g z (d.cmdCheck t) := by
  unfold Dev.cmdCheck
  split
  · exact h
  next c hc =>
  by_cases hg : t = g
  · subst hg
    have hq := (h.marked c (List.mem_of_find?_eq_some hc) (Dev.cmd?_tag hc)).2
    rcases h.ending with ⟨x, hx, hs, -⟩ | ⟨hn, -⟩
    · rw [hq]
      exact .ite h (.ends hx hs)
    · rw [hn] at hc; cases hc
  · have hp : Quits g z (d.putCmd { c with committed := true }) := .putCmd ((Dev.cmd?_tag hc).trans_ne hg) h
    refine .ite h ?_
    split
    · exact .finish hg h
    split
    case h_1 => exact .ite (.finish hg h) h
    case h_5 => exact h
    all_goals
      split
      · exact .finish hg (.zeroRest h)
      · exact .ite (.finish hg hp) (.ite (.modCmd (fun _ => rfl) (fun e => absurd e hg) hp) (.finish hg hp))
theorem Quits.cmdReport {t first st done} (h : Quits g z d) : Quits g z (d.cmdReport t first st done) := by
  unfold Dev.cmdReport
  split
  · exact h
  · extract_lets +onlyGivenNames _ _ d1
    have h1 : Quits g z d1 := by
      unfold d1
      split
      · exact .linesArrived h
      · exact .linesArrived h
      · exact .rest h
      · exact h
    exact .cmdCheck (.modCmd (fun _ => rfl) (fun _ c => ⟨rfl, rfl, rfl, fun e => by rw [e]⟩) h1)
theorem Quits.dmaReport {seq x c status done idx} (h : Quits g z d) : Quits g z (d.dmaReport seq x c status done idx) := by
  unfold Dev.dmaReport
  extract_lets +onlyGivenNames d1
  have h1 : Quits g z d1 := .rest h
  split
  · exact .cmdReport h1
  · exact h1
theorem Quits.setDch {x c} (h : Quits g z d) : Quits g z (d.setDch x c) := h.rest
theorem Quits.setHalted {x b} (h : Quits g z d) : Quits g z (d.setHalted x b) := h.rest
theorem Quits.endDesc {x c idx status done inj} (h : Quits g z d) : Quits g z (d.endDesc x c idx status done inj) := by
  unfold Dev.endDesc
  extract_lets +onlyGivenNames _ d1 d2 _ d3
  have h1 : Quits g z d1 := .setFld (.setFld h)
  have h2 : Quits g z d2 := .bump h1
  have h3 : Quits g z d3 := .ite (.event (.setHalted h2)) h2
  exact .ite (.dmaReport (.rest h3)) (.ite (.sendTx (.hostWrite h3)) (.hostWrite h3))
theorem Quits.abandonRing {x n} (h : Quits g z d) : Quits g z (d.abandonRing x n) := by
  induction n generalizing d with
  | zero => exact h
  | succ n ih =>
    unfold Dev.abandonRing
    exact .ite (ih (.endDesc h)) h
theorem Quits.fetchDesc {x} (h : Quits g z d) : Quits g z (d.fetchDesc x) := .ite (.setDch h) (.ite h (.hostRead (.setDch h)))
theorem Quits.settleDma {x n} (h : Quits g z d) : Quits g z (d.settleDma x n) := by
  induction n generalizing d with
  | zero => exact h
  | succ n ih =>
    unfold Dev.settleDma
    extract_lets +onlyGivenNames _
    split
    · exact .ite (.setDch (.setHalted (.abandonRing h))) (.ite (.fetchDesc h) h)
    · exact .ite (ih (.endDesc (.setDch h))) h
theorem Quits.abandonDescs {t} (h : Quits g z d) : Quits g z (d.abandonDescs t) := .foldl (fun _ _ h2 => .ite (.settleDma (.setDch h2)) h2) (.rest h)
theorem Quits.abandon {c} (h : Quits g z d) : Quits g z (d.abandon c) := by
  unfold Dev.abandon
  extract_lets +onlyGivenNames d1
  have h1 : Quits g z d1 := .abandonDescs h
  split
  case h_4 => exact h1
  all_goals
    refine .ite h1 ?_
    split
    next he =>
    have h2 := Quits.ofS he (.zeroRest h1)
    split
    · exact .event (.bump h2)
    · exact h2
theorem Quits.dropWork {t} (h : Quits g z d) : Quits g z (d.dropWork t) := h.rest
end

end Sys2Proof.Machine
end

section
/-! SUPPORT. Asynchronous event requests and Abort (R33, R323, R349). -/
namespace Sys2Proof.Machine

/-! ### Event requests -/

/-- A command that the first stage loader knows too is carried out in every state. -/
theorem Dev.host_always (d : Dev) (t : Tag) (f : Dev → Dev) : d.host t true f = f d := by
  unfold Dev.host
  rw [Bool.not_true, Bool.and_false]
  exact if_neg (by decide)

theorem Dev.ctrl_setCtrl (d : Dev) (c : Fin 2) (x : CtrlS) : (d.setCtrl c x).ctrl c = x := by
  unfold Dev.setCtrl Dev.ctrl
  split <;> rfl

theorem Dev.setCtrl_frame (d : Dev) (c : Fin 2) (x : CtrlS) : d.setCtrl c x = { d with hst := (d.setCtrl c x).hst } := by
  unfold Dev.setCtrl
  split <;> rfl

theorem Dev.setCtrl_post (d : Dev) (c : Fin 2) (x : CtrlS) : (d.setCtrl c x).hst.post = d.hst.post := by
  unfold Dev.setCtrl
  split <;> rfl

theorem Dev.addError_aers (d : Dev) (t : Tag) (st : Status) (n l : Nat) (c : Fin 2) : ((d.addError t st n l).ctrl c).aers = (d.ctrl c).aers := by
  unfold Dev.addError Dev.setCtrl Dev.ctrl
  dsimp only
  split <;> split <;> simp_all [Dev.drawNat]

/-- The end of a command leaves the waiting event requests. -/
theorem Dev.finish_aers (d : Dev) (t : Tag) (st : Status) (a b : Nat) (c : Fin 2) : ((d.finish t st a b).ctrl c).aers = (d.ctrl c).aers := by
  obtain ⟨n, l, he⟩ := d.finish_eq t st a b
  rw [he]
  split
  · rfl
  · split
    · rfl
    · exact Dev.addError_aers _ t st n l c

/-- The record of a command goes. -/
def Dev.dropCmd (d : Dev) (t : Tag) : Dev := { d with cmds := d.cmds.filter fun c => decide (c.tag ≠ t) }

theorem Dev.dropCmd_cmd? (d : Dev) (t u : Tag) : (d.dropCmd t).cmd? u = if u = t then none else d.cmd? u := find_tag_filter _ _ _

/-- An event request waits, or takes the event that waits. -/
def Dev.awaitEvent (d : Dev) (t : Tag) : Dev :=
  match (d.ctrl t.ctrl).aens with
  | e :: r => ((d.dropCmd t).setCtrl t.ctrl { d.ctrl t.ctrl with aens := r, masked := e :: (d.ctrl t.ctrl).masked }).handOver { tag := t, st := stOk, dw0 := aenDw0 e }
  | [] => (d.dropCmd t).setCtrl t.ctrl { d.ctrl t.ctrl with aers := (d.ctrl t.ctrl).aers ++ [t] }

theorem Dev.awaitEvent_waits {d : Dev} {t : Tag} (h : (d.ctrl t.ctrl).aens = []) :
    d.awaitEvent t = (d.dropCmd t).setCtrl t.ctrl { d.ctrl t.ctrl with aers := (d.ctrl t.ctrl).aers ++ [t] } := by
  unfold Dev.awaitEvent; rw [h]

theorem Dev.awaitEvent_takes {d : Dev} {t : Tag} {e : Aen} {r : List Aen} (h : (d.ctrl t.ctrl).aens = e :: r) : d.awaitEvent t =
    ((d.dropCmd t).setCtrl t.ctrl { d.ctrl t.ctrl with aens := r, masked := e :: (d.ctrl t.ctrl).masked }).handOver { tag := t, st := stOk, dw0 := aenDw0 e } := by
  unfold Dev.awaitEvent; rw [h]

theorem Dev.handOver_post (d : Dev) (c : Cpl) : (d.handOver c).hst.post = d.hst.post ++ [c] := rfl

theorem exec_asyncEventRequest (t : Tag) (s : State) : exec (.asyncEventRequest t) s =
    s.doesIn 1 fun d => d.host t true fun d => if 8 ≤ (d.ctrl t.ctrl).aers.length then d.finish t (stOf 1 0x05) else d.awaitEvent t := rfl

theorem gives_asyncEventRequest {s : State} {t : Tag} (hl : s.dev.live 1 = true) : let k := s.dev.ctrl t.ctrl
    (8 ≤ k.aers.length → Gives (.asyncEventRequest t) s fun d => Ended s.dev d t (stOf 1 0x05) ∧ (d.ctrl t.ctrl).aers = k.aers ∧ d = { s.dev with hst := d.hst, cmds := d.cmds, free := d.free }) ∧
    (k.aers.length < 8 → k.aens = [] → Gives (.asyncEventRequest t) s fun d => d.ctrl t.ctrl = { k with aers := k.aers ++ [t] } ∧ d.hst.post = s.dev.hst.post ∧ d.cmd? t = none ∧
      d = { s.dev with hst := d.hst, cmds := d.cmds }) ∧
    (∀ e r, k.aers.length < 8 → k.aens = e :: r → Gives (.asyncEventRequest t) s fun d => d.ctrl t.ctrl = { k with aens := r, masked := e :: k.masked } ∧ d.cmd? t = none ∧
      d.hst.post = s.dev.hst.post ++ [{ tag := t, st := stOk, dw0 := e.ty + e.info * 256 + e.page * 65536 }] ∧ d = { s.dev with hst := d.hst, cmds := d.cmds }) := by
  have hd : (s.dev.dropCmd t).cmd? t = none := by rw [Dev.dropCmd_cmd?, if_pos rfl]
  have hx : (s.dev.dropCmd t).hst = s.dev.hst := rfl
  have hcmd (x : CtrlS) : ((s.dev.dropCmd t).setCtrl t.ctrl x).cmd? t = none := by
    rw [← hd]; unfold Dev.cmd?; rw [Dev.setCtrl_frame]
  have hw (h : (s.dev.ctrl t.ctrl).aers.length < 8) {e : Dev} {P : Dev → Prop} (he : s.dev.awaitEvent t = e) (hP : P e) : Gives (.asyncEventRequest t) s P :=
    gives_of_eq (exec_asyncEventRequest t s) hl ((Dev.host_always s.dev t _).trans ((if_neg (Nat.not_le.2 h)).trans he)) hP
  refine ⟨fun h => ?_, fun h he => ?_, fun e r h he => ?_⟩
  · exact gives_of_eq (exec_asyncEventRequest t s) hl ((Dev.host_always _ _ _).trans (if_pos h)) ⟨Dev.finish_ended _ _ _ _ _, Dev.finish_aers _ _ _ _ _ _, Dev.finish_frame _ _ _ _ _⟩
  · refine hw h (Dev.awaitEvent_waits he) ⟨Dev.ctrl_setCtrl _ _ _, (Dev.setCtrl_post _ _ _).trans (by rw [hx]), hcmd _, ?_⟩
    rw [Dev.setCtrl_frame]; rfl
  · refine hw h (Dev.awaitEvent_takes he) ⟨Dev.ctrl_setCtrl (s.dev.dropCmd t) _ _, hcmd _, ?_, ?_⟩
    · rw [Dev.handOver_post, Dev.setCtrl_post, hx]; rfl
    · unfold Dev.handOver
      rw [Dev.setCtrl_frame]; rfl

/-! ### Abort -/

/-- The target of an Abort. -/
def abortTarget (t : Tag) (sqid cid : BitVec 16) : Tag := ⟨t.ctrl, sqid.toNat, cid.toNat⟩

/-- The Aborts of a controller whose completion waits for that of their target. -/
def Dev.abortsOut (d : Dev) (t : Tag) : Nat := (d.hst.post.filter fun p => decide (p.tag.ctrl = t.ctrl) && p.after.isSome).length

/-- What Abort does with its target. -/
def Dev.abort (d : Dev) (t g : Tag) : Dev :=
  if 4 ≤ d.abortsOut t then d.finish t (stOf 1 0x03)
  else match d.cmd? g with
    | some c =>
      if g = t ∨ c.silent then d.finish t stOk 1
      else if c.isCommitted then d.endAbort t 1 g
      else (d.quit g stAborted 0 fun d => (d.abandon c).dropWork g).endAbort t 0 g
    | none => if (d.hst.post.any fun p => decide (p.tag = g)) then d.endAbort t 1 g else d.finish t stOk 1

theorem exec_abort (t : Tag) (sqid cid : BitVec 16) (s : State) : exec (.abort t sqid cid) s =
    s.doesIn 1 fun d => d.host t false fun d => d.abort t (abortTarget t sqid cid) := rfl

theorem gives_abort {s : State} {t : Tag} {sqid cid : BitVec 16} {e : Dev} {P : Dev → Prop} (hl : s.dev.live 1 = true) (hm : s.dev.load.minimal = false)
    (he : s.dev.abort t (abortTarget t sqid cid) = e) (hP : P e) : Gives (.abort t sqid cid) s P :=
  gives_of_eq (exec_abort t sqid cid s) hl ((Dev.host_loaded hm t false _).trans he) hP

section
variable (d : Dev) (t : Tag) (w : Nat) (g : Tag)

theorem Dev.endAbort_post : (d.endAbort t w g).hst.post = d.hst.post ++ [{ tag := t, st := stOk, dw0 := w, after := some g }] := rfl
theorem Dev.endAbort_cmd? (u : Tag) : (d.endAbort t w g).cmd? u = if u = t then none else d.cmd? u := Dev.dropCmd_cmd? d t u
theorem Dev.endAbort_frame : d.endAbort t w g = { d with hst := (d.endAbort t w g).hst, cmds := (d.endAbort t w g).cmds } := rfl
end

/-- An Abort that its target outlives completes at once with Dword 0 = 1. -/
theorem Dev.finish_shows (d : Dev) (t : Tag) (w : Nat) :
    Ended d (d.finish t stOk w) t stOk ∧ ((∀ c, d.cmd? t = some c → c.silent = false) → ∃ c ∈ (d.finish t stOk w).hst.post, c.tag = t ∧ c.dw0 = w) ∧
      d.finish t stOk w = { d with hst := (d.finish t stOk w).hst, cmds := (d.finish t stOk w).cmds } := by
  refine ⟨Dev.finish_ended _ _ _ _ _, fun hs => ?_, Dev.finish_quiet_frame _ _ rfl _ _⟩
  rw [Dev.finish_quiet_post _ _ rfl _ _ hs]
  exact ⟨_, List.mem_append_right _ List.mem_cons_self, rfl, rfl⟩

/-- The target of an Abort as its work is about to be abandoned. -/
def CmdRec.quits (c : CmdRec) : CmdRec := { c with need := [], quit := some (stAborted, 0) }
def Dev.toQuit (d : Dev) (g : Tag) : Dev := d.modCmd g CmdRec.quits

theorem Dev.toQuit_quits {d : Dev} {g : Tag} {c : CmdRec} (hc : d.cmd? g = some c) (hs : c.silent = false) : Quits g (c.desc = 0) (d.toQuit g) := by
  refine ⟨fun x hx hg => ?_, .inl ⟨c.quits, ?_, hs, id⟩⟩
  · obtain ⟨y, -, rfl⟩ := List.mem_map.1 hx
    split at hg
    · next hy => rw [if_pos hy]; exact ⟨rfl, rfl⟩
    · next hy => exact absurd hg hy
  · unfold Dev.toQuit
    rw [Dev.modCmd_cmd? d g (f := CmdRec.quits) fun _ => rfl, hc, Option.map_some, if_pos (Dev.cmd?_tag hc)]

theorem Dev.quit_eq {d : Dev} {g : Tag} {c : CmdRec} (hc : d.cmd? g = some c) (f : Dev → Dev) : d.quit g stAborted 0 f = (f (d.toQuit g)).cmdCheck g := by
  unfold Dev.quit
  exact if_pos (by rw [hc]; rfl)

/-- An abandoned command without a descriptor ends when it is looked at. -/
theorem Quits.cmdCheck_gone {g : Tag} {z : Prop} {d : Dev} (h : Quits g z d) (hz : z) : (d.cmdCheck g).cmd? g = none := by
  rcases h.ending with ⟨x, hx, -, hd⟩ | ⟨hn, -⟩
  · have hq := (h.marked x (List.mem_of_find?_eq_some hx) (Dev.cmd?_tag hx)).2
    unfold Dev.cmdCheck
    rw [hx]
    dsimp only
    rw [hd hz, hq, if_neg (not_not.2 rfl), Dev.finish_cmd?, if_pos rfl]
  · unfold Dev.cmdCheck
    rw [hn]
    exact hn

/-- The Abort of an uncommitted command: its target ends with Command Abort Requested, at once if it has no descriptor out. -/
theorem Dev.abort_quits {d : Dev} {t g : Tag} {c : CmdRec} (hc : d.cmd? g = some c) (hs : c.silent = false) (hg : g ≠ t) :
    let e := (d.quit g stAborted 0 fun d => (d.abandon c).dropWork g).endAbort t 0 g
    (∃ l, e.hst.post = l ++ [{ tag := t, st := stOk, dw0 := 0, after := some g }]) ∧ e.cmd? t = none ∧ (c.desc = 0 → e.cmd? g = none) ∧
      (e.cmd? g = none → ∃ p ∈ e.hst.post, p.tag = g ∧ p.st = stAborted) ∧ (∀ c', e.cmd? g = some c' → c'.quit = some (stAborted, 0)) ∧
      e.ch = d.ch ∧ e.wrp = d.wrp ∧ e.srv = d.srv ∧ e.spn = d.spn := by
  have h1 := ((Dev.toQuit_quits hc hs).abandon (c := c)).dropWork (t := g)
  have ha : Apart False d (((((d.toQuit g).abandon c).dropWork g).cmdCheck g).endAbort t 0 g) := .handOver (.dropCmds (.cmdCheck (.dropWork (.abandon (.modCmd (fun _ => ⟨rfl, rfl⟩) (.refl d))))))
  rw [Dev.quit_eq hc]
  dsimp only
  generalize ((d.toQuit g).abandon c).dropWork g = x at h1 ha
  have h2 := h1.cmdCheck (t := g)
  have hz := h1.cmdCheck_gone
  generalize x.cmdCheck g = y at h2 hz ha
  have hy : (y.endAbort t 0 g).cmd? g = y.cmd? g := by rw [Dev.endAbort_cmd?, if_neg hg]
  refine ⟨⟨_, Dev.endAbort_post _ _ _ _⟩, by rw [Dev.endAbort_cmd?, if_pos rfl], fun hd => by rw [hy, hz hd], fun hn => ?_, fun c' hc' => ?_, ha.parts⟩
  · rw [hy] at hn
    rcases h2.ending with ⟨x, hx, -⟩ | ⟨-, p, hp, hpg⟩
    · rw [hn] at hx; cases hx
    · exact ⟨p, List.mem_append_left _ hp, hpg⟩
  · rw [hy] at hc'
    exact (h2.marked c' (List.mem_of_find?_eq_some hc') (Dev.cmd?_tag hc')).2

section
variable {d : Dev} {t g : Tag} (ho : d.abortsOut t < 4)
include ho

theorem Dev.abort_missing (hc : d.cmd? g = none) : d.abort t g = if (d.hst.post.any fun p => decide (p.tag = g)) then d.endAbort t 1 g else d.finish t stOk 1 := by
  unfold Dev.abort
  rw [if_neg (Nat.not_le.2 ho), hc]

theorem Dev.abort_found {c : CmdRec} (hc : d.cmd? g = some c) : d.abort t g =
    if g = t ∨ c.silent then d.finish t stOk 1
    else if c.isCommitted then d.endAbort t 1 g else (d.quit g stAborted 0 fun d => (d.abandon c).dropWork g).endAbort t 0 g := by
  unfold Dev.abort
  rw [if_neg (Nat.not_le.2 ho), hc]
end

/-- Settles O29: a command whose work is abandoned keeps the status that Abort gives it until it ends. -/
theorem eventRequestsAndAborts : Obligations.EventRequestsAndAborts := by
  unfold Obligations.EventRequestsAndAborts
  refine ⟨fun s t hl => gives_asyncEventRequest hl, fun s t sqid cid hl => ⟨fun hm => gives_finish (exec_abort t sqid cid s) hl (Dev.host_minimal hm t _),
    fun hm => ⟨fun ho => ?_, fun ho => ⟨fun c hc => ⟨fun h => ?_, fun hg hs => ⟨fun hk => ?_, fun hk => ?_⟩⟩, fun hc => ⟨fun ⟨p, hp, hpg⟩ => ?_, fun hp => ?_⟩⟩⟩⟩⟩
  · exact gives_finish (exec_abort t sqid cid s) hl ((Dev.host_loaded hm t false _).trans (if_pos ho))
  · exact gives_abort hl hm ((Dev.abort_found ho hc).trans (if_pos h)) (s.dev.finish_shows t 1)
  · refine gives_abort hl hm (((Dev.abort_found ho hc).trans (if_neg (by simp [hg, hs]))).trans (if_pos hk)) ⟨Dev.endAbort_post _ _ _ _, ?_, ?_, Dev.endAbort_frame _ _ _ _⟩
    · rw [Dev.endAbort_cmd?, if_neg hg]; exact hc
    · rw [Dev.endAbort_cmd?, if_pos rfl]
  · exact gives_abort hl hm (((Dev.abort_found ho hc).trans (if_neg (by simp [hg, hs]))).trans (if_neg (by simp [hk]))) (Dev.abort_quits hc hs hg)
  · refine gives_abort hl hm ((Dev.abort_missing ho hc).trans (if_pos (List.any_eq_true.2 ⟨p, hp, decide_eq_true hpg⟩))) ⟨Dev.endAbort_post _ _ _ _, ?_, Dev.endAbort_frame _ _ _ _⟩
    rw [Dev.endAbort_cmd?, if_pos rfl]
  · exact gives_abort hl hm ((Dev.abort_missing ho hc).trans (if_neg fun h => by
      obtain ⟨p, hm, hg⟩ := List.any_eq_true.1 h
      exact hp p hm (of_decide_eq_true hg))) (s.dev.finish_shows t 1)

end Sys2Proof.Machine
end

section
/-! SUPPORT. The sequencers' words stay while a command's work is abandoned (R33, R428). -/
namespace Sys2Proof.Machine

/-- An address outside the sequencers' window. -/
def offSeq (a : Nat) : Bool := Nat.blt a 0x08000000 || Nat.ble 0x08010000 a

/-- Word `a` of the sequencers' window reads `w`. -/
structure SeqShows (a : Nat) (w : Word) (d : Dev) : Prop where
  inside : offSeq a = false
  reads : d.word a = w

section
variable {a : Nat} {w : Word} {d : Dev}

/-- A change of anything but the registers. -/
theorem SeqShows.rest {st tb po lo bg cn sh ro me lg fl ld dl hs cm zn se bu sc md dm ch de wr sr la sp ms pw rn sq fr} (h : SeqShows a w d) :
    SeqShows a w ⟨d.v, d.regs, st, tb, po, lo, bg, cn, sh, ro, me, lg, fl, ld, dl, hs, cm, zn, se, bu, sc, md, dm, ch, de, wr, sr, la, sp, ms, pw, rn, sq, fr⟩ := ⟨h.inside, h.reads⟩

/-! ### The control flow of a definition -/

theorem SeqShows.ite {c : Prop} [Decidable c] {x y : Dev} (hx : SeqShows a w x) (hy : SeqShows a w y) : SeqShows a w (if c then x else y) := by
  split
  · exact hx
  · exact hy
theorem SeqShows.iteS {α : Type} {c : Prop} [Decidable c] {x y : α × Dev} (hx : SeqShows a w x.2) (hy : SeqShows a w y.2) : SeqShows a w (if c then x else y).2 := by
  split
  · exact hx
  · exact hy
theorem SeqShows.iteF {α : Type} {c : Prop} [Decidable c] {x y : Dev × α} (hx : SeqShows a w x.1) (hy : SeqShows a w y.1) : SeqShows a w (if c then x else y).1 := by
  split
  · exact hx
  · exact hy
theorem SeqShows.ofS {α : Type} {p : α × Dev} {x : α} (he : p = (x, d)) (h : SeqShows a w p.2) : SeqShows a w d := by subst he; exact h
theorem SeqShows.ofSS {α β : Type} {p : α × β × Dev} {x : α} {y : β} (he : p = (x, y, d)) (h : SeqShows a w p.2.2) : SeqShows a w d := by subst he; exact h
theorem SeqShows.foldlMem {α : Type} {f : Dev → α → Dev} {l : List α} (hf : ∀ d, ∀ x ∈ l, SeqShows a w d → SeqShows a w (f d x)) (h : SeqShows a w d) : SeqShows a w (l.foldl f d) := by
  induction l generalizing d with
  | nil => exact h
  | cons x l ih => exact ih (fun d y hy => hf d y (List.mem_cons_of_mem x hy)) (hf d x List.mem_cons_self h)
theorem SeqShows.foldl {α : Type} {f : Dev → α → Dev} {l : List α} (hf : ∀ d x, SeqShows a w d → SeqShows a w (f d x)) (h : SeqShows a w d) : SeqShows a w (l.foldl f d) :=
  .foldlMem (fun d x _ => hf d x) h

/-! ### Registers, HST, events -/

theorem SeqShows.setFld {f v} (hf : offSeq f.a = true) (h : SeqShows a w d) : SeqShows a w (d.setFld f v) :=
  ⟨h.inside, (Dev.word_setFld_ne d f v fun e => by rw [← e, h.inside] at hf; cases hf).trans h.reads⟩
theorem SeqShows.setFlag {f b} (hf : offSeq f.a = true) (h : SeqShows a w d) : SeqShows a w (d.setFlag f b) := .setFld hf h
theorem SeqShows.bump {b i n} (h : SeqShows a w d) : SeqShows a w (d.bump b i n) := h.rest
theorem SeqShows.modZne {f} (h : SeqShows a w d) : SeqShows a w (d.modZne f) := h.rest
theorem SeqShows.modDma {f} (h : SeqShows a w d) : SeqShows a w (d.modDma f) := h.rest
theorem SeqShows.modCmd {t f} (h : SeqShows a w d) : SeqShows a w (d.modCmd t f) := h.rest
theorem SeqShows.putCmd {c} (h : SeqShows a w d) : SeqShows a w (d.putCmd c) := h.rest
theorem SeqShows.sendTx {t} (h : SeqShows a w d) : SeqShows a w (d.sendTx t) := h.rest
theorem SeqShows.hostWrite {ch addr b} (h : SeqShows a w d) : SeqShows a w (d.hostWrite ch addr b) := .bump (.bump (.sendTx h))
theorem SeqShows.hostRead {burst ofs ch port addr len} (h : SeqShows a w d) : SeqShows a w (d.hostRead burst ofs ch port addr len) := .bump (.bump (.sendTx h.rest))
theorem SeqShows.event {b n p1 p2 p3 src} (h : SeqShows a w d) : SeqShows a w (d.event b n p1 p2 p3 src) :=
  ⟨h.inside, (Dev.event_word d b n p1 p2 p3 src fun e => by rw [e] at h; exact absurd h.inside (by decide)).trans h.reads⟩
theorem SeqShows.sram {b m r inj} (hb : offSeq (blkBase b + 0xFD00) = true) (h : SeqShows a w d) : SeqShows a w (d.sram b m r inj) := by
  unfold Dev.sram
  split
  · exact h
  · exact .event (.rest (.ite (.bump h) h))
  · have h1 {x : MemEntry} : SeqShows a w ((if b = .buf then d.bump .buf 23 else d).memError b m x) := .rest (.ite (.bump h) h)
    exact .event (.setFld hb (.ite (.setFld hb (.setFld hb h1)) (.setFld hb h1)))
theorem SeqShows.finish {t st dw0 dw1} (h : SeqShows a w d) : SeqShows a w (d.finish t st dw0 dw1) := by
  rw [Dev.finish_frame]
  exact h.rest

/-! ### Flash and zones -/

theorem SeqShows.setFword {x y} (h : SeqShows a w d) : SeqShows a w (d.setFword x y) := h.rest
theorem SeqShows.programWord {word data slot} (h : SeqShows a w d) : SeqShows a w (d.programWord word data slot).1 :=
  .iteF (.bump (.bump (.setFword h))) (.iteF (.event h) (.bump (.event h)))
theorem SeqShows.jput {r} (h : SeqShows a w d) : SeqShows a w (d.jput r) := .bump (.modZne (.programWord h))
theorem SeqShows.intentWrite {b ty sector seq} (h : SeqShows a w d) : SeqShows a w (d.intentWrite b ty sector seq) := .ite (.rest (.setFword h)) (.rest (.setFword h))
theorem offSeq_above {x o : Nat} (hx : 0x08010000 ≤ x) : offSeq (x + o) = true := by
  unfold offSeq
  rw [Bool.or_eq_true, Nat.ble_eq]
  omega
theorem SeqShows.slotEnd {slot st pulses} (h : SeqShows a w d) : SeqShows a w (d.slotEnd slot st pulses) :=
  have ho : offSeq (0x9000108 + 0x40 * slot) = true := offSeq_above (by decide)
  .ite h (.setFld ho (.setFld ho (.setFld ho (.setFld ho h))))
theorem SeqShows.flashRefuse {slot st word op} (h : SeqShows a w d) : SeqShows a w (d.flashRefuse slot st word op) := .bump (.event (.slotEnd h))
theorem SeqShows.setBank {k b} (h : SeqShows a w d) : SeqShows a w (d.setBank k b) := .ite h.rest h.rest
theorem SeqShows.tearWords {x} (h : SeqShows a w d) : SeqShows a w (d.tearWords x) := h.rest
theorem SeqShows.eraseWords {x} (h : SeqShows a w d) : SeqShows a w (d.eraseWords x) := h.rest
theorem SeqShows.startOp {o} (h : SeqShows a w d) : SeqShows a w (d.startOp o) :=
  .ite (.flashRefuse h) (.ite (.flashRefuse h) (.ite (.setFld rfl (.setFld rfl (.bump (.setBank (.tearWords (.intentWrite h.rest)))))) (.ite (.bump (.setBank h)) (.event (.slotEnd h)))))
theorem SeqShows.queueOp {o} (h : SeqShows a w d) : SeqShows a w (d.queueOp o) := .ite (.startOp h) (.setBank h)
theorem SeqShows.intentRollover {b} (h : SeqShows a w d) : SeqShows a w (d.intentRollover b) := .ite h (.queueOp (.ite h.rest h.rest))
theorem SeqShows.eraseSector {x} (h : SeqShows a w d) : SeqShows a w (d.eraseSector x) :=
  have hr {st} : SeqShows a w ((d.event .flc 0x04 st (x * 2048) 2 0xFF).bump .flc 9) := .bump (.event h)
  .ite hr (.ite hr (.ite hr (.intentRollover (.bump (.bump (.intentWrite (.eraseWords (.intentWrite h.rest))))))))
theorem SeqShows.jswitch (h : SeqShows a w d) : SeqShows a w d.jswitch := .foldl (fun _ _ h3 => .eraseSector h3) (.foldl (fun _ _ h2 => .jput h2) (.modZne h))
theorem SeqShows.jwrite {r} (h : SeqShows a w d) : SeqShows a w (d.jwrite r) := .jput (.ite (.jswitch h) h)
theorem SeqShows.setZctx {i c} (h : SeqShows a w d) : SeqShows a w (d.setZctx i c) :=
  have h1 {f} : SeqShows a w ((d.modZne f).setFld F.ZNE_STAT_ACTIVE (d.modZne f).activeZones.length) := .setFld rfl (.modZne h)
  .ite (.sram rfl (.setFlag rfl h1)) h1
theorem SeqShows.newGen (h : SeqShows a w d) : SeqShows a w (d.newGen).2 := .iteS (.event (.setFld rfl h)) (.setFld rfl h)
theorem SeqShows.resetZone {n k} (h : SeqShows a w d) : SeqShows a w (d.resetZone n k) := by
  unfold Dev.resetZone
  extract_lets +onlyGivenNames _ _
  refine .ite h ?_
  split
  next d1 he =>
  have h1 : SeqShows a w d1 := .ofSS he h.rest
  exact .ite (.bump (.jwrite (.setZctx (.newGen h1)))) (.event (.bump (.jwrite (.setZctx (.newGen h1)))))
theorem SeqShows.finishZone {n k} (h : SeqShows a w d) : SeqShows a w (d.finishZone n k) := .ite h (.setZctx (.bump (.jwrite (.ite (.jwrite h) h))))
theorem SeqShows.zoneAct {c n zs p f} (hf : ∀ e k, SeqShows a w e → SeqShows a w (f e k)) (h : SeqShows a w d) : SeqShows a w (d.zoneAct c n zs p f) :=
  .ite (.finish (.foldl hf h)) (.modCmd h)
theorem SeqShows.needMet {c} (h : SeqShows a w d) : SeqShows a w (d.needMet c) := by
  unfold Dev.needMet
  split
  · split
    · exact .zoneAct (fun _ _ h1 => .resetZone h1) h
    · exact .finish h
  · split
    · exact .ite (.finish h) (.zoneAct (fun _ _ h1 => .finishZone h1) h)
    · exact .finish h
  · exact .finish h
theorem SeqShows.noteSector {key arrived} (h : SeqShows a w d) : SeqShows a w (d.noteSector key arrived) := by
  unfold Dev.noteSector
  extract_lets +onlyGivenNames _ _
  refine .foldl (fun _ _ h1 => ?_) h
  split
  · exact .ite (.needMet (.putCmd h1)) (.putCmd h1)
  · exact h1
theorem SeqShows.linesArrived {c first n} (h : SeqShows a w d) : SeqShows a w (d.linesArrived c first n) := by
  unfold Dev.linesArrived
  extract_lets +onlyGivenNames _ _ d1 d2
  have h1 : SeqShows a w d1 := .foldl (fun _ _ h1 => h1.rest) h
  have h2 : SeqShows a w d2 := by
    unfold d2
    split
    · exact .setZctx h1
    · exact h1
  refine .foldl (fun _ _ h3 => ?_) h2
  split
  · exact .ite (.noteSector h3) h3
  · exact h3
theorem SeqShows.zeroRest {c} (h : SeqShows a w d) : SeqShows a w (d.zeroRest c).2 := by
  unfold Dev.zeroRest
  extract_lets +onlyGivenNames _ _ d1 d2
  have h1 : SeqShows a w d1 := h.rest
  have h2 : SeqShows a w d2 := by
    unfold d2
    split
    · exact .setZctx h1
    · exact h1
  exact .foldl (fun _ _ h3 => .noteSector h3) h2

/-! ### Descriptors -/

theorem SeqShows.cmdCheck {t} (h : SeqShows a w d) : SeqShows a w (d.cmdCheck t) := by
  unfold Dev.cmdCheck
  split
  · exact h
  refine .ite h ?_
  split
  · exact .finish h
  split
  case h_1 => exact .ite (.finish h) h
  case h_5 => exact h
  all_goals
    split
    · exact .finish (.zeroRest h)
    · exact .ite (.finish (.putCmd h)) (.ite (.modCmd (.putCmd h)) (.finish (.putCmd h)))
theorem SeqShows.cmdReport {t first st done} (h : SeqShows a w d) : SeqShows a w (d.cmdReport t first st done) := by
  unfold Dev.cmdReport
  split
  · exact h
  · extract_lets +onlyGivenNames _ _ d1
    have h1 : SeqShows a w d1 := by
      unfold d1
      split
      · exact .linesArrived h
      · exact .linesArrived h
      · exact h.rest
      · exact h
    exact .cmdCheck (.modCmd h1)
theorem SeqShows.dmaReport {seq x c status done idx} (h : SeqShows a w d) : SeqShows a w (d.dmaReport seq x c status done idx) := by
  unfold Dev.dmaReport
  extract_lets +onlyGivenNames d1
  have h1 : SeqShows a w d1 := .modDma h
  split
  · exact .cmdReport h1
  · exact h1

section
variable {x : Nat} (hx : x < 64)
include hx

theorem offSeq_channel : offSeq (0x5001004 + 0x20 * x) = true := by
  unfold offSeq
  rw [Bool.or_eq_true, Nat.blt_eq]
  omega
theorem SeqShows.setDch {c} (h : SeqShows a w d) : SeqShows a w (d.setDch x c) := .setFlag (offSeq_channel hx) (.modDma h)
theorem SeqShows.setHalted {b} (h : SeqShows a w d) : SeqShows a w (d.setHalted x b) := .setFld (by dsimp only; split <;> rfl) (.setFlag (offSeq_channel hx) h)
theorem SeqShows.endDesc {c idx status done inj} (h : SeqShows a w d) : SeqShows a w (d.endDesc x c idx status done inj) := by
  unfold Dev.endDesc
  extract_lets +onlyGivenNames _ d1 d2 _ d3
  have hc : offSeq (0x5001004 + 0x20 * x) = true := offSeq_channel hx
  have h1 : SeqShows a w d1 := .setFld hc (.setFld hc h)
  have h2 : SeqShows a w d2 := .bump h1
  have h3 : SeqShows a w d3 := .ite (.event (.setHalted hx h2)) h2
  exact .ite (.dmaReport (.modDma h3)) (.ite (.sendTx (.hostWrite h3)) (.hostWrite h3))
theorem SeqShows.abandonRing {n} (h : SeqShows a w d) : SeqShows a w (d.abandonRing x n) := by
  induction n generalizing d with
  | zero => exact h
  | succ n ih =>
    unfold Dev.abandonRing
    exact .ite (ih (.endDesc hx h)) h
theorem SeqShows.fetchDesc (h : SeqShows a w d) : SeqShows a w (d.fetchDesc x) := .ite (.setDch hx h) (.ite h (.hostRead (.setDch hx h)))
theorem SeqShows.settleDma {n} (h : SeqShows a w d) : SeqShows a w (d.settleDma x n) := by
  induction n generalizing d with
  | zero => exact h
  | succ n ih =>
    unfold Dev.settleDma
    extract_lets +onlyGivenNames _
    split
    · exact .ite (.setDch hx (.setHalted hx (.abandonRing hx h))) (.ite (.fetchDesc hx h) h)
    · exact .ite (ih (.endDesc hx (.setDch hx h))) h
end

theorem SeqShows.abandonDescs {t} (h : SeqShows a w d) : SeqShows a w (d.abandonDescs t) :=
  .foldlMem (fun _ _ hx h2 =>
    have hc : _ < 64 := Nat.lt_trans (List.mem_range.1 hx) (by decide)
    .ite (.settleDma hc (.setDch hc h2)) h2) (.modDma h)
theorem SeqShows.abandon {c} (h : SeqShows a w d) : SeqShows a w (d.abandon c) := by
  unfold Dev.abandon
  extract_lets +onlyGivenNames d1
  have h1 : SeqShows a w d1 := .abandonDescs h
  split
  case h_4 => exact h1
  all_goals
    refine .ite h1 ?_
    split
    next he =>
    have h2 := SeqShows.ofS he (.zeroRest h1)
    split
    · exact .event (.bump h2)
    · exact h2
theorem SeqShows.quit {t st k f} (hf : ∀ e, SeqShows a w e → SeqShows a w (f e)) (h : SeqShows a w d) : SeqShows a w (d.quit t st k f) :=
  .ite (.cmdCheck (hf _ (.modCmd h))) (.finish (hf _ h))
end

end Sys2Proof.Machine
end

section
/-! SUPPORT. One microword: its fetch, its thread, its faults (R415, R417, R425 to R428). -/
namespace Sys2Proof.Machine

/-! ### Threads -/

theorem Dev.thread_setThread (d : Dev) (s t : Nat) (x : ThreadS) (s' t' : Nat) : (d.setThread s t x).thread s' t' = if 32 * s' + t' = 32 * s + t then x else d.thread s' t' := by
  split
  · next h => exact (congrArg _ h).trans (Tab.get_set_same _ _ _ _)
  · next h => exact Tab.get_set_ne _ _ _ h

theorem Dev.thread_setThread_same (d : Dev) (s t : Nat) (x : ThreadS) : (d.setThread s t x).thread s t = x := by rw [Dev.thread_setThread, if_pos rfl]

theorem Dev.thread_congr {d e : Dev} (h : e.seq.threads = d.seq.threads) (s t : Nat) : e.thread s t = d.thread s t := congrArg (Tab.get _ · _) h

/-- From `d0` to `d` thread t of sequencer q has come to stand at `y`, no other thread has moved, nor the turn. -/
structure OwnThread (d0 d : Dev) (q t : Nat) (y : ThreadS) : Prop where
  own : d.thread q t = y
  others : ∀ q' t', 32 * q' + t' ≠ 32 * q + t → d.thread q' t' = d0.thread q' t'
  turn : d.seq.turn = d0.seq.turn

section
variable {d0 d e : Dev} {q t : Nat} {x : ThreadS}

theorem OwnThread.setThread (h : OwnThread d0 d q t x) (y : ThreadS) : OwnThread d0 (d.setThread q t y) q t y :=
  ⟨Dev.thread_setThread_same _ _ _ _, fun q' t' hn => by rw [Dev.thread_setThread, if_neg hn]; exact h.others q' t' hn, h.turn⟩

theorem OwnThread.congr (h : OwnThread d0 d q t x) (ht : e.seq.threads = d.seq.threads) (hn : e.seq.turn = d.seq.turn) : OwnThread d0 e q t x :=
  ⟨(Dev.thread_congr ht _ _).trans h.own, fun q' t' hq => (Dev.thread_congr ht _ _).trans (h.others q' t' hq), hn.trans h.turn⟩

/-- The word of the thread is issued. -/
theorem OwnThread.issued (h : OwnThread d0 d q t x) : (d.issued q t).thread q t = x ∧ Issued d0 (d.issued q t) q t :=
  ⟨h.own, Tab.get_set_same _ _ _ _, fun i hi => (Tab.get_set_ne _ _ _ hi).trans (congrArg (Tab.get _ · i) h.turn), h.others⟩
end

/-! ### The fetch -/

/-- The word is fetched; one from patch SRAM is counted. -/
def Dev.fetched (d : Dev) (q t : Nat) : Dev := if (d.thread q t).waiting.isNone && (d.patchIndex q (d.thread q t).pc).isSome then d.bump .seq 34 else d

/-- The thread as its word begins: it waits no more. -/
def Dev.begun (d : Dev) (q t : Nat) : Dev := (d.fetched q t).setThread q t { d.thread q t with waiting := none }

theorem Dev.fetched_frame (d : Dev) (q t : Nat) : d.fetched q t = { d with cnt := (d.fetched q t).cnt } := by unfold Dev.fetched; split <;> rfl

theorem Dev.begun_frame (d : Dev) (q t : Nat) : d.begun q t = { d with seq := { d.seq with threads := (d.begun q t).seq.threads }, cnt := (d.begun q t).cnt } := by
  unfold Dev.begun
  rw [Dev.fetched_frame]; rfl

theorem OwnThread.begun (d : Dev) (q t : Nat) : OwnThread d (d.begun q t) q t { d.thread q t with waiting := none } :=
  OwnThread.setThread (x := d.thread q t) ⟨by rw [Dev.fetched_frame]; rfl, fun _ _ _ => by rw [Dev.fetched_frame]; rfl, by rw [Dev.fetched_frame]⟩ _

theorem Dev.begun_thread (d : Dev) (q t : Nat) : (d.begun q t).thread q t = { d.thread q t with waiting := none } := (OwnThread.begun d q t).own

theorem Dev.counter_bump_ne (d : Dev) {b b' : Blk} {i j : Nat} (h : 64 * blkKey b' + j ≠ 64 * blkKey b + i) (n : Nat) : (d.bump b i n).counter b' j = d.counter b' j := Tab.get_set_ne _ _ _ h

theorem Dev.begun_counter (d : Dev) (q t : Nat) {i : Nat} (hi : i ≠ 34) : (d.begun q t).counter .seq i = d.counter .seq i := by
  show (d.fetched q t).counter .seq i = _
  unfold Dev.fetched
  split
  · exact Dev.counter_bump_ne _ (by omega) _
  · rfl

theorem Dev.fetchWord_eq {d : Dev} {q t : Nat} {f : Fetch} {w : BitVec 128} (h : Fetches d q t f w) : d.fetchWord q t f = (some w, d.fetched q t) := by
  obtain ⟨-, -, -, ⟨since, hw⟩ | ⟨hw, hi, hp, hr, hs, hg, rfl⟩⟩ := h
  · unfold Dev.fetchWord Dev.fetched
    simp only [hw]
    rfl
  · unfold Dev.fetchWord Dev.fetched
    simp only [hw, hi, hs, hg, Nat.not_le.2 hp, Bool.false_and, Dev.sram, Option.isNone_none, Bool.true_and, if_false]
    cases hx : d.patchIndex q (d.thread q t).pc with
    | none => simp [hr hx]
    | some i => simp

/-! ### The word -/

/-- IO, MARK and FLOW of a word that neither waits nor computes. -/
def Dev.wordStep (d : Dev) (q t : Nat) (u : UWord) (ctx : SramBits) : Dev :=
  match d.ioStep q t u with
  | (some k, _) => d.microFault q t k
  | (none, e) => e.markStep q t u true ctx

theorem Dev.wordStep_fault {d e : Dev} {q t : Nat} {u : UWord} {ctx : SramBits} {k : Nat} (h : d.ioStep q t u = (some k, e)) : d.wordStep q t u ctx = d.microFault q t k := by
  unfold Dev.wordStep; rw [h]

theorem Dev.wordStep_mark {d e : Dev} {q t : Nat} {u : UWord} {ctx : SramBits} (h : d.ioStep q t u = (none, e)) : d.wordStep q t u ctx = e.markStep q t u true ctx := by
  unfold Dev.wordStep; rw [h]

/-- A word without MARK and FLOW goes on to the next. -/
theorem Dev.wordStep_next {d e : Dev} {q t : Nat} {u : UWord} {ctx : SramBits} (h : d.ioStep q t u = (none, e)) (hm : u.mark = 0) (hf : u.flow = 0) :
    d.wordStep q t u ctx = e.setThread q t { e.thread q t with pc := ((e.thread q t).pc + 1) % 65536 } := by
  rw [Dev.wordStep_mark h]
  unfold Dev.markStep
  simp only [hm, hf]
  rfl

theorem Dev.mustWait_of_go (d : Dev) (q t : Nat) {u : UWord} (h : u.wmode = 0) : d.mustWait q t u = false := by
  unfold Dev.mustWait; rw [h]; rfl

theorem Dev.runWord_eq (d : Dev) (q t : Nat) (w : BitVec 128) (ctx : SramBits) (hw : (Machine.uword w).wmode = 0) (ha : (Machine.uword w).alu = 0) :
    (d.fetched q t).runWord q t w ctx = (d.begun q t).wordStep q t (Machine.uword w) ctx := by
  have ht : (d.fetched q t).thread q t = d.thread q t := by rw [Dev.fetched_frame]; rfl
  unfold Dev.runWord Dev.aluStep
  simp only [Dev.mustWait_of_go _ _ _ hw, ha, ht, hw]
  rfl

/-- A thread whose turn it is executes its word, if it is of the kind that the command names and has the credit that its IO needs. -/
theorem Dev.uword_eq {d : Dev} {q : Fin 8} {t : Fin 32} {f : Fetch} {w : BitVec 128} {kind : UWord → Bool} (h : Fetches d q t f w) (hw : (Machine.uword w).wmode = 0) (ha : (Machine.uword w).alu = 0)
    (hk : kind (Machine.uword w) = true) : d.uword q t f kind = if d.ioReady q (Machine.uword w) then ((d.begun q t).wordStep q t (Machine.uword w) f.ctx).issued q t else d := by
  have hr : (d.fetched q t).ioReady q (Machine.uword w) = d.ioReady q (Machine.uword w) := by rw [Dev.fetched_frame]; rfl
  have he := Dev.fetchWord_eq h
  obtain ⟨-, hrun, hturn, -⟩ := h
  unfold Dev.uword
  rw [he, hrun, hturn]
  simp only [hk, hr, Dev.mustWait_of_go _ _ _ hw, Dev.runWord_eq d q t w f.ctx hw ha, bne_self_eq_false, Bool.not_true, Bool.or_self, Bool.true_and, Bool.false_or]
  rfl

section
variable {s : State} {q : Fin 8} {t : Fin 32} {f : Fetch} {w : BitVec 128} {c : Instr} {kind : UWord → Bool} (he : exec c s = s.doesIn 1 fun d => d.uword q t f kind)
  (hF : Fetches s.dev q t f w) (hw : (Machine.uword w).wmode = 0) (ha : (Machine.uword w).alu = 0) (hk : kind (Machine.uword w) = true)
include he hF hw ha hk

theorem gives_waits (hr : s.dev.ioReady q (Machine.uword w) = false) : Gives c s fun d => d = s.dev :=
  gives_of_eq he hF.1 ((Dev.uword_eq hF hw ha hk).trans (if_neg (by rw [hr]; decide))) rfl

theorem gives_word (hr : s.dev.ioReady q (Machine.uword w) = true) {e : Dev} (hs : (s.dev.begun q t).wordStep q t (Machine.uword w) f.ctx = e) {P : Dev → Prop} (hP : P (e.issued q t)) : Gives c s P :=
  gives_of_eq he hF.1 ((Dev.uword_eq hF hw ha hk).trans (if_pos hr)) (hs ▸ hP)

/-- A word without MARK and FLOW has done its IO, and the thread goes on to the next. -/
theorem gives_next (hm : (Machine.uword w).mark = 0) (hf : (Machine.uword w).flow = 0) (hr : s.dev.ioReady q (Machine.uword w) = true) {e : Dev} {y : ThreadS}
    (hs : (s.dev.begun q t).ioStep q t (Machine.uword w) = (none, e)) (ho : OwnThread s.dev e q t y) {P : Dev → Prop}
    (hP : ∀ d, d.thread q t = { y with pc := (y.pc + 1) % 65536 } → d = { e with seq := { e.seq with threads := d.seq.threads, turn := d.seq.turn } } → P d) :
    Gives c s fun d => P d ∧ Issued s.dev d q t := by
  obtain ⟨h1, h2⟩ := (ho.setThread { y with pc := (y.pc + 1) % 65536 }).issued
  refine gives_word he hF hw ha hk hr ((Dev.wordStep_next hs hm hf).trans (by rw [ho.own])) ⟨hP _ h1 rfl, h2⟩
end

/-! ### Locks: what they never change -/

/-- From `d0` to `d` locks have moved: each thread runs what it ran, and registers have changed in bits that show a mutex only. -/
structure LockMoves (d0 d : Dev) : Prop where
  frame : d = { d0 with seq := { d0.seq with threads := d.seq.threads, claims := d.seq.claims, holder := d.seq.holder }, regs := d.regs }
  threads : ∀ s t, { d.thread s t with lock := none, locked := false } = { d0.thread s t with lock := none, locked := false }
  fields : ∀ g : RF, (g.lo + g.n ≤ 24 ∨ (g.lo = 30 ∧ g.n = 1)) → d.fld g = d0.fld g

section
variable {d0 d : Dev}

theorem LockMoves.refl (d : Dev) : LockMoves d d := ⟨rfl, fun _ _ => rfl, fun _ _ => rfl⟩

theorem LockMoves.trans {e : Dev} (h : LockMoves d0 d) (g : LockMoves d e) : LockMoves d0 e :=
  ⟨by rw [g.frame, h.frame], fun s t => (g.threads s t).trans (h.threads s t), fun f hf => (g.fields f hf).trans (h.fields f hf)⟩

theorem LockMoves.ite {c : Prop} [Decidable c] {a b : Dev} (ha : LockMoves d0 a) (hb : LockMoves d0 b) : LockMoves d0 (if c then a else b) := by
  split
  · exact ha
  · exact hb

theorem LockMoves.setThread {s t : Nat} {x : ThreadS} (hx : { x with lock := none, locked := false } = { d.thread s t with lock := none, locked := false }) (h : LockMoves d0 d) :
    LockMoves d0 (d.setThread s t x) := by
  refine h.trans ⟨rfl, fun s' t' => ?_, fun _ _ => rfl⟩
  rw [Dev.thread_setThread]
  split
  · next he => rw [hx]; exact congrArg (fun i => { d.seq.threads.get (fun _ => {}) i with lock := none, locked := false }) he.symm
  · rfl

theorem LockMoves.claims {l : List Claim} {o : Tab (Option Nat)} (h : LockMoves d0 d) : LockMoves d0 { d with seq := { d.seq with claims := l, holder := o } } :=
  h.trans ⟨rfl, fun _ _ => rfl, fun _ _ => rfl⟩

theorem LockMoves.setFld {f : RF} {v : Nat} (hf : f.lo = 31 ∨ (f.lo = 24 ∧ f.n = 4)) (h : LockMoves d0 d) : LockMoves d0 (d.setFld f v) := by
  refine h.trans ⟨rfl, fun _ _ => rfl, fun g hg => ?_⟩
  by_cases ha : g.a = f.a
  · exact Dev.fld_setFld_disjoint _ _ _ _ ha (by omega) (by omega)
  · exact Dev.fld_setFld_addr _ _ _ _ ha

theorem LockMoves.showMutex {m : Nat} {c : Option Nat} (h : LockMoves d0 d) : LockMoves d0 (d.showMutex m c) := .setFld (.inr ⟨rfl, rfl⟩) (.setFld (.inl rfl) h)

theorem LockMoves.giveMutex {k : Claim} (h : LockMoves d0 d) : LockMoves d0 (d.giveMutex k) := by
  unfold Dev.giveMutex
  extract_lets d1
  have h1 : LockMoves d0 d1 := .showMutex (.claims h)
  split
  · exact .setThread rfl h1
  · exact h1

theorem LockMoves.grantMutex {m i : Nat} (h : LockMoves d0 d) : LockMoves d0 (d.grantMutex m i) := by
  unfold Dev.grantMutex
  refine .ite h ?_
  split
  · split
    · exact .giveMutex h
    · exact h
  · exact h

theorem LockMoves.releaseMutex {m code : Nat} (h : LockMoves d0 d) : LockMoves d0 (d.releaseMutex m code) := .ite (.grantMutex (.showMutex (.claims h))) h

theorem LockMoves.grantCtx {s c i : Nat} (h : LockMoves d0 d) : LockMoves d0 (d.grantCtx s c i) := by
  unfold Dev.grantCtx
  refine .ite h ?_
  split
  · exact .setThread rfl h
  · exact h

theorem LockMoves.releaseLock {s t : Nat} (h : LockMoves d0 d) : LockMoves d0 (d.releaseLock s t) := by
  unfold Dev.releaseLock
  extract_lets x d1
  have h1 : LockMoves d0 d1 := .setThread rfl h
  split
  · exact h1
  · exact .ite (.grantCtx h1) h1
  · exact .ite (.releaseMutex (.claims h1)) (.claims h1)
end

/-- A thread without a lock has none to release. -/
theorem Dev.releaseLock_none {d : Dev} {s t : Nat} (h : (d.thread s t).lock = none) : d.releaseLock s t = d.setThread s t { d.thread s t with lock := none, locked := false } := by
  unfold Dev.releaseLock
  dsimp only
  rw [h]

/-! ### Faults (R426 to R428) -/

theorem Dev.fld_incSat (d : Dev) (f : RF) (n : Nat) (h : f.lo + f.n ≤ 32) : (d.incSat f n).fld f = min (d.fld f + n) (2 ^ f.n - 1) := by
  unfold Dev.incSat
  rw [Dev.fld_setFld_same _ _ _ h]
  have := Nat.two_pow_pos f.n
  exact Nat.mod_eq_of_lt (by omega)

/-- A microcode fault is logged and counted. -/
def Dev.faultCounted (d : Dev) (q t k : Nat) : Dev :=
  (((d.event .seq 0x06 (d.thread q t).pc k t q).incSat (F.SEQ_SSTAT_FAULT_RESTARTS q) 1).bump .seq 32).setThread q t
    { d.thread q t with restarts := (d.thread q t).restarts + 1 }

theorem Dev.microFault_eq (d : Dev) (q t k : Nat) : d.microFault q t k =
    if 3 ≤ (d.thread q t).restarts + 1 then ((d.faultCounted q t k).restart q t).haltSeq q (d.thread q t).pc false else (d.faultCounted q t k).restart q t := by
  have h : (d.event .seq 0x06 (d.thread q t).pc k t q).thread q t = d.thread q t := by rw [Dev.event_frame]; rfl
  unfold Dev.microFault Dev.faultRestart
  dsimp only
  rw [h]; rfl

theorem Dev.faultCounted_frame (d : Dev) (q t k : Nat) : d.faultCounted q t k =
    { d with seq := { d.seq with threads := (d.faultCounted q t k).seq.threads }, cnt := (d.bump .seq 32).cnt, regs := (d.faultCounted q t k).regs
             log := (d.faultCounted q t k).log, lost := (d.faultCounted q t k).lost, hst := (d.faultCounted q t k).hst } := by
  have he := Dev.event_frame d .seq 0x06 (d.thread q t).pc k t q
  unfold Dev.faultCounted
  generalize d.event .seq 0x06 (d.thread q t).pc k t q = e at he
  rw [he]
  rfl

theorem Dev.faultCounted_thread (d : Dev) (q t k : Nat) : (d.faultCounted q t k).thread q t = { d.thread q t with restarts := (d.thread q t).restarts + 1 } :=
  Dev.thread_setThread_same _ _ _ _

theorem Dev.faultCounted_fld (d : Dev) (q t k : Nat) :
    (d.faultCounted q t k).fld (F.SEQ_SSTAT_FAULT_RESTARTS q) = min (d.fld (F.SEQ_SSTAT_FAULT_RESTARTS q) + 1) (2 ^ (F.SEQ_SSTAT_FAULT_RESTARTS q).n - 1) := by
  have hw : (d.event .seq 0x06 (d.thread q t).pc k t q).word (0x8000400 + 0x40 * q) = d.word (0x8000400 + 0x40 * q) := Dev.event_word _ _ _ _ _ _ _ (by omega)
  have hi := (d.event .seq 0x06 (d.thread q t).pc k t q).fld_incSat (F.SEQ_SSTAT_FAULT_RESTARTS q) 1 (show 0 + 16 ≤ 32 by decide)
  rw [Dev.fld_congr (f := F.SEQ_SSTAT_FAULT_RESTARTS q) rfl hw] at hi
  refine Eq.trans ?_ hi
  unfold Dev.faultCounted
  exact Dev.fld_congr_regs rfl rfl _

/-- What a restart makes of a routine. -/
def ThreadS.restarted (x : ThreadS) : ThreadS := { active := true, entry := x.entry, ctx := x.ctx, pc := x.entry, run := x.run + 1, restarts := x.restarts }

theorem ThreadS.restarted_congr {x y : ThreadS} (h : { x with lock := none, locked := false } = { y with lock := none, locked := false }) : x.restarted = y.restarted := by
  have hr (z : ThreadS) : ({ z with lock := none, locked := false } : ThreadS).restarted = z.restarted := rfl
  rw [← hr x, h, hr]

theorem Dev.restart_eq (d : Dev) (q t : Nat) : d.restart q t = ((d.releaseLock q t).setThread q t ((d.releaseLock q t).thread q t).restarted).bump .seq (4 * q + 3) := rfl

theorem Dev.restart_thread (d : Dev) (q t : Nat) : (d.restart q t).thread q t = (d.thread q t).restarted := by
  rw [Dev.restart_eq]
  exact (Dev.thread_setThread_same _ _ _ _).trans (ThreadS.restarted_congr ((LockMoves.refl d).releaseLock.threads q t))

theorem Dev.restart_frame (d : Dev) (q t : Nat) : d.restart q t =
    { d with seq := { d.seq with threads := (d.restart q t).seq.threads, claims := (d.restart q t).seq.claims, holder := (d.restart q t).seq.holder }
             regs := (d.restart q t).regs, cnt := (d.restart q t).cnt } := by
  rw [Dev.restart_eq, ((LockMoves.refl d).releaseLock (s := q) (t := t)).frame]; rfl

theorem Dev.restart_fld (d : Dev) (q t : Nat) {g : RF} (hg : g.lo + g.n ≤ 24 ∨ (g.lo = 30 ∧ g.n = 1)) : (d.restart q t).fld g = d.fld g :=
  ((LockMoves.refl d).releaseLock (s := q) (t := t)).fields g hg

theorem Dev.restart_cnt (d : Dev) (q t : Nat) : (d.restart q t).cnt = (d.bump .seq (4 * q + 3)).cnt := by
  rw [Dev.restart_eq, ((LockMoves.refl d).releaseLock (s := q) (t := t)).frame]; rfl

theorem Dev.counter_congr {d e : Dev} (h : e.cnt = d.cnt) (b : Blk) (i : Nat) : e.counter b i = d.counter b i := congrArg (Tab.get _ · _) h

/-- A fault that does not halt the sequencer restarts the routine (R426, R427). -/
theorem Dev.faultCounted_restarted (d : Dev) (q t k : Nat) : FaultRestarted d ((((d.begun q t).faultCounted q t k).restart q t).issued q t) q t := by
  have hb := d.begun_frame q t
  have hbt := d.begun_thread q t
  have hbc (i : Nat) (hi : i ≠ 34) := d.begun_counter q t hi
  generalize d.begun q t = b at hb hbt hbc
  have hf := b.faultCounted_frame q t k
  have ht := b.faultCounted_thread q t k
  have hw := b.faultCounted_fld q t k
  have hb0 : b.fld (F.SEQ_SSTAT_FAULT_RESTARTS q) = d.fld (F.SEQ_SSTAT_FAULT_RESTARTS q) := Dev.fld_congr_regs (by rw [hb]) (by rw [hb]) _
  rw [hb0] at hw
  generalize b.faultCounted q t k = y at hf ht hw
  have hyc : y.cnt = (b.bump .seq 32).cnt := by rw [hf]
  have hz := y.restart_frame q t
  have hr (i : Nat) : ((y.restart q t).issued q t).counter .seq i = (y.bump .seq (4 * q + 3)).counter .seq i := Dev.counter_congr (y.restart_cnt q t) _ _
  refine ⟨?_, (y.restart_fld q t (.inl (show 0 + 16 ≤ 24 by decide))).trans hw, ?_, ?_, ?_, ?_, ?_⟩
  · refine (y.restart_thread q t).trans ?_
    rw [ht, hbt]; rfl
  · rw [hr, Dev.counter_bump_ne _ (by omega), Dev.counter_congr hyc, Dev.counter_bump_same, hbc 32 (by decide)]
  · rw [hr, Dev.counter_bump_same, Dev.counter_congr hyc, Dev.counter_bump_ne _ (by omega), hbc _ (by omega)]
  · show (y.restart q t).seq.ctx = _
    rw [hz, hf, hb]
  · show (y.restart q t).seq.sent = _
    rw [hz, hf, hb]
  · unfold Dev.issued Dev.modSeq
    rw [hz, hf, hb]

/-! ### The third fault (R428) -/

theorem Dev.endThread_fld (d : Dev) (q t : Nat) {g : RF} (hg : g.lo + g.n ≤ 24 ∨ (g.lo = 30 ∧ g.n = 1)) : (d.endThread q t).fld g = d.fld g :=
  ((LockMoves.refl d).releaseLock (s := q) (t := t)).fields g hg

/-- A field beside the mutexes' bits shows what it showed when threads have ended. -/
theorem Dev.endThreads_fld (l : List Nat) (d : Dev) (q : Nat) {g : RF} (hg : g.lo + g.n ≤ 24 ∨ (g.lo = 30 ∧ g.n = 1)) :
    (l.foldl (fun (d : Dev) t => d.endThread q t) d).fld g = d.fld g := by
  induction l generalizing d with
  | nil => rfl
  | cons t l ih => rw [List.foldl_cons, ih, Dev.endThread_fld _ _ _ hg]

/-- What a halt of the sequencer shows. -/
def Dev.haltShown (d : Dev) (q : Nat) : Dev := (d.setFld (F.SEQ_SSTAT_HALTED q) 1).setFld F.SEQ_STAT_HALTED (d.fld F.SEQ_STAT_HALTED ||| (1 <<< q))

/-- The threads that run a routine. -/
def Dev.busyThreads (d : Dev) (q : Nat) : List Nat := (List.range 32).filter fun t => (d.thread q t).active

/-- A halt shows itself, ends the threads, is logged, and ends the commands with work on the sequencer. -/
theorem Dev.haltSeq_eq (d : Dev) (q pc : Nat) (inj : Bool) : d.haltSeq q pc inj = (d.workOn q).foldl (fun (d : Dev) c => d.quit c.tag stInternal 0 fun d => d.abandon c)
    (((d.busyThreads q).foldl (fun (d : Dev) t => d.endThread q t) (d.haltShown q)).event .seq 0x03 pc (d.busyThreads q).length ((d.workOn q).length + injBit inj) q) := rfl

theorem Dev.haltSeq_fld (d : Dev) (q pc : Nat) (inj : Bool) {g : RF} (ha : offSeq g.a = false) (hg : g.lo + g.n ≤ 24 ∨ (g.lo = 30 ∧ g.n = 1)) :
    (d.haltSeq q pc inj).fld g = (d.haltShown q).fld g := by
  have hl : g.a ≠ 0x0A000060 := fun e => by rw [e] at ha; exact absurd ha (by decide)
  rw [Dev.haltSeq_eq, ← Dev.endThreads_fld (d.busyThreads q) (d.haltShown q) q hg]
  generalize (d.busyThreads q).foldl (fun (d : Dev) t => d.endThread q t) (d.haltShown q) = x
  have hx := Dev.event_word x .seq 0x03 pc (d.busyThreads q).length ((d.workOn q).length + injBit inj) q hl
  generalize x.event .seq 0x03 pc (d.busyThreads q).length ((d.workOn q).length + injBit inj) q = y at hx
  have hy : SeqShows g.a (y.word g.a) ((d.workOn q).foldl (fun (d : Dev) c => d.quit c.tag stInternal 0 fun d => d.abandon c) y) :=
    .foldl (fun _ _ h => .quit (fun _ h => .abandon h) h) ⟨ha, rfl⟩
  exact Dev.fld_congr rfl (hy.reads.trans hx)

theorem offSeq_sstat {q : Nat} (hq : q < 8) : offSeq (0x8000400 + 0x40 * q) = false := by
  unfold offSeq
  rw [Bool.or_eq_false_iff]
  exact ⟨Bool.eq_false_iff.2 fun h => by rw [Nat.blt_eq] at h; omega, Bool.eq_false_iff.2 fun h => by rw [Nat.ble_eq] at h; omega⟩

/-- A sequencer that halts shows it, and runs no more. -/
theorem Dev.haltSeq_halts (d : Dev) {q : Nat} (hq : q < 8) (pc : Nat) (inj : Bool) : let e := d.haltSeq q pc inj
    e.fld (F.SEQ_SSTAT_HALTED q) = 1 ∧ (e.fld F.SEQ_STAT_HALTED).testBit q = true ∧ e.seqRuns q = false := by
  have h1 : (d.haltSeq q pc inj).fld (F.SEQ_SSTAT_HALTED q) = 1 := by
    rw [Dev.haltSeq_fld (g := F.SEQ_SSTAT_HALTED q) _ _ _ _ (offSeq_sstat hq) (.inr ⟨rfl, rfl⟩)]
    refine (Dev.fld_setFld_addr _ _ _ _ (show 0x8000400 + 0x40 * q ≠ 0x8000004 by omega)).trans ?_
    exact Dev.fld_setFld_one d (F.SEQ_SSTAT_HALTED q) (show 30 + 1 ≤ 32 by decide) rfl
  refine ⟨h1, ?_, ?_⟩
  · rw [Dev.haltSeq_fld (g := F.SEQ_STAT_HALTED) _ _ _ _ rfl (.inl (by decide))]
    unfold Dev.haltShown
    rw [Dev.fld_setFld_same _ _ _ (by decide), Nat.testBit_mod_two_pow, Nat.testBit_or, Nat.one_shiftLeft, Nat.testBit_two_pow_self, Bool.or_true, Bool.and_true]
    exact decide_eq_true hq
  · unfold Dev.seqRuns
    rw [h1, show ((1 : Nat) == 0) = false from rfl, Bool.and_false]

end Sys2Proof.Machine
end

section
/-! SUPPORT. The IO microwords, COMMIT and DROP (R16, R417, R421, R422, R427, R428, R435, R551). -/
namespace Sys2Proof.Machine

theorem exec_uwordSendq (q : Fin 8) (t : Fin 32) (f : Fetch) (s : State) : exec (.uwordSendq q t f) s = s.doesIn 1 fun d => d.uword q t f fun u => u.io == 1 := rfl
theorem exec_uwordSend (q : Fin 8) (t : Fin 32) (f : Fetch) (s : State) : exec (.uwordSend q t f) s = s.doesIn 1 fun d => d.uword q t f fun u => u.io == 2 := rfl
theorem exec_uwordRecv (q : Fin 8) (t : Fin 32) (f : Fetch) (s : State) : exec (.uwordRecv q t f) s = s.doesIn 1 fun d => d.uword q t f fun u => u.io == 3 := rfl
theorem exec_uwordCsrRd (q : Fin 8) (t : Fin 32) (f : Fetch) (s : State) : exec (.uwordCsrRd q t f) s = s.doesIn 1 fun d => d.uword q t f fun u => u.io == 4 := rfl
theorem exec_uwordCsrWr (q : Fin 8) (t : Fin 32) (f : Fetch) (s : State) : exec (.uwordCsrWr q t f) s = s.doesIn 1 fun d => d.uword q t f fun u => u.io == 5 := rfl
theorem exec_uwordLock (q : Fin 8) (t : Fin 32) (f : Fetch) (s : State) : exec (.uwordLock q t f) s = s.doesIn 1 fun d => d.uword q t f fun u => u.io == 6 := rfl
theorem exec_uwordCommit (q : Fin 8) (t : Fin 32) (f : Fetch) (s : State) : exec (.uwordCommit q t f) s = s.doesIn 1 fun d => d.uword q t f fun u => u.mark == 1 := rfl
theorem exec_uwordDrop (q : Fin 8) (t : Fin 32) (f : Fetch) (s : State) : exec (.uwordDrop q t f) s = s.doesIn 1 fun d => d.uword q t f fun u => u.mark == 2 := rfl

/-! ### What each IO step does -/

/-- A token joins the outbox, unless that is full. -/
def Dev.addTok (d : Dev) (q t : Nat) (k : OutTok) : Option Nat × Dev :=
  if 8 ≤ (d.thread q t).toks.length then (some 0, d) else (none, d.setThread q t { d.thread q t with toks := (d.thread q t).toks ++ [k] })

section
variable (d : Dev) (q t : Nat) {u : UWord}

theorem Dev.ioStep_none (h : u.io = 0) : d.ioStep q t u = (none, d) := by unfold Dev.ioStep; rw [h]; rfl
theorem Dev.ioStep_sendq (h : u.io = 1) : d.ioStep q t u = (none, d.leave q (.send u.ioq ((d.thread q t).payload u.ioreg))) := by unfold Dev.ioStep; rw [h]; rfl
theorem Dev.ioStep_send (h : u.io = 2) : d.ioStep q t u = d.addTok q t (.send u.ioq ((d.thread q t).payload u.ioreg)) := by unfold Dev.ioStep; rw [h]; rfl
theorem Dev.ioStep_recv_none (h : u.io = 3) (hr : (d.thread q t).resp = []) : d.ioStep q t u = (some 2, d) := by unfold Dev.ioStep; simp only [h, hr]
theorem Dev.ioStep_recv (h : u.io = 3) {ws : List Word} {r : List (List Word)} (hr : (d.thread q t).resp = ws :: r) :
    d.ioStep q t u = (none, d.setThread q t (({ d.thread q t with resp := r }).setRegs d.now u.ioreg ws)) := by unfold Dev.ioStep; simp only [h, hr]
theorem Dev.ioStep_csrRd (h : u.io = 4) : d.ioStep q t u = (none, (d.access ((d.thread q t).reg u.srcA).toNat).2.2.setThread q t
    ((d.thread q t).setReg (d.access ((d.thread q t).reg u.srcA).toNat).2.2.now u.ioreg (BitVec.ofNat 32 (d.access ((d.thread q t).reg u.srcA).toNat).1))) := by unfold Dev.ioStep; rw [h]; rfl
theorem Dev.ioStep_csrWr (h : u.io = 5) : d.ioStep q t u = d.addTok q t (.csr ((d.thread q t).reg u.srcA).toNat ((d.thread q t).reg u.srcB).toNat) := by unfold Dev.ioStep; rw [h]; rfl
theorem Dev.ioStep_locked (h : u.io = 6) (hl : (d.thread q t).locked = true) : d.ioStep q t u = (some 3, d) := by unfold Dev.ioStep; simp [h, hl]
theorem Dev.ioStep_lock (h : u.io = 6) (hl : (d.thread q t).locked = false) :
    d.ioStep q t u = (none, d.askLock q t (if u.immed.testBit 31 then .mutex (u.immed % 8) else .ctx ((d.thread q t).reg u.srcA).toNat)) := by
  unfold Dev.ioStep; simp [h, hl]

/-- Only SENDQ and CSR_RD need a credit of their own. -/
theorem Dev.ioReady_of (h : u.io ≠ 1 ∧ u.io ≠ 4) : d.ioReady q u = true := by unfold Dev.ioReady; rw [if_neg h.1, if_neg h.2]
end

/-! ### Registers of a thread -/

section
variable (x : ThreadS) (now : Nat)

theorem ThreadS.setReg_keeps (i : Nat) (w : Word) :
    (x.setReg now i w).pc = x.pc ∧ (x.setReg now i w).resp = x.resp ∧ (x.setReg now i w).toks = x.toks ∧ (x.setReg now i w).writes = x.writes := by
  unfold ThreadS.setReg
  split
  · exact ⟨rfl, rfl, rfl, rfl⟩
  · dsimp only; split <;> exact ⟨rfl, rfl, rfl, rfl⟩

theorem ThreadS.setReg_reg (i : Nat) (w : Word) (j : Nat) : (x.setReg now i w).reg j = if 1 ≤ j ∧ j = i then w else x.reg j := by
  by_cases hj : j = 0
  · subst hj; rw [if_neg (by omega)]; rfl
  · have hr (y : ThreadS) : y.reg j = y.regs.get (fun _ => 0) j := if_neg hj
    have hs (hi : i ≠ 0) : (x.setReg now i w).regs = x.regs.set (fun _ => 0) i w := by
      unfold ThreadS.setReg
      rw [if_neg hi]
      dsimp only
      split <;> rfl
    rw [hr, hr]
    by_cases hi : j = i
    · rw [if_pos ⟨by omega, hi⟩, hs (by omega), hi, Tab.get_set_same]
    · rw [if_neg (by omega)]
      by_cases h0 : i = 0
      · subst h0; rfl
      · rw [hs h0, Tab.get_set_ne _ _ _ hi]

/-- A register write, the end of the wait and the step to the next word go in any order. -/
theorem ThreadS.setReg_next (i : Nat) (w : Word) :
    { ({ x with waiting := none } : ThreadS).setReg now i w with pc := ((({ x with waiting := none } : ThreadS).setReg now i w).pc + 1) % 65536 } =
      { ({ x with pc := (x.pc + 1) % 65536 } : ThreadS).setReg now i w with waiting := none } := by
  unfold ThreadS.setReg
  split
  · rfl
  · dsimp only; split <;> rfl
end

/-- A response goes into the registers from the named one on; those beyond r31 are not there. -/
theorem ThreadS.setRegs_spec (now : Nat) (x : ThreadS) (i : Nat) (ws : List Word) :
    (x.setRegs now i ws).pc = x.pc ∧ (x.setRegs now i ws).resp = x.resp ∧ (x.setRegs now i ws).toks = x.toks ∧ (x.setRegs now i ws).writes = x.writes ∧
      ∀ j, j < 32 → (x.setRegs now i ws).reg j = if 1 ≤ j ∧ i ≤ j ∧ j < i + ws.length then ws.getD (j - i) 0 else x.reg j := by
  induction ws generalizing x i with
  | nil => exact ⟨rfl, rfl, rfl, rfl, fun j _ => by rw [if_neg (by simp only [List.length_nil]; omega)]; rfl⟩
  | cons w r ih =>
    unfold ThreadS.setRegs
    split
    · next h => exact ⟨rfl, rfl, rfl, rfl, fun j hj => by rw [if_neg (by omega)]⟩
    · obtain ⟨k1, k2, k3, k4⟩ := x.setReg_keeps now i w
      obtain ⟨h1, h2, h3, h4, h5⟩ := ih (x.setReg now i w) (i + 1)
      refine ⟨h1.trans k1, h2.trans k2, h3.trans k3, h4.trans k4, fun j hj => ?_⟩
      rw [h5 j hj, ThreadS.setReg_reg, List.length_cons]
      by_cases hji : j = i
      · subst hji
        rw [if_neg (by omega), Nat.sub_self]
        exact if_congr (by omega) rfl rfl
      · rw [if_neg (show ¬(1 ≤ j ∧ j = i) by omega)]
        by_cases hin : 1 ≤ j ∧ i + 1 ≤ j ∧ j < i + 1 + r.length
        · rw [if_pos hin, if_pos (by omega), show j - i = (j - (i + 1)) + 1 by omega]
          rfl
        · rw [if_neg hin, if_neg (by omega)]

/-! ### Words that fault, and words that move their thread alone -/

section
variable {s : State} {q : Fin 8} {t : Fin 32} {f : Fetch} {w : BitVec 128} {c : Instr} {kind : UWord → Bool} (he : exec c s = s.doesIn 1 fun d => d.uword q t f kind)
  (hF : Fetches s.dev q t f w) (hw : (uword w).wmode = 0) (ha : (uword w).alu = 0) (hk : kind (uword w) = true) (hr : s.dev.ioReady q (uword w) = true)
include he hF hw ha hk hr

/-- A fault of the word restarts the routine. -/
theorem gives_fault {k : Nat} {e : Dev} (hs : (s.dev.begun q t).ioStep q t (uword w) = (some k, e)) (hx : (s.dev.thread q t).restarts < 2) :
    Gives c s fun d => FaultRestarted s.dev d q t := by
  refine gives_word he hF hw ha hk hr ((Dev.wordStep_fault hs).trans ((Dev.microFault_eq _ _ _ _).trans (if_neg ?_))) (s.dev.faultCounted_restarted q t k)
  rw [Dev.begun_thread]
  show ¬3 ≤ (s.dev.thread q t).restarts + 1
  omega

/-- The third fault halts the sequencer. -/
theorem gives_halt {k : Nat} {e : Dev} (hs : (s.dev.begun q t).ioStep q t (uword w) = (some k, e)) (hx : 2 ≤ (s.dev.thread q t).restarts) :
    Gives c s fun d => d.fld (F.SEQ_SSTAT_HALTED q) = 1 ∧ (d.fld F.SEQ_STAT_HALTED).testBit q = true ∧ d.seqRuns q = false := by
  refine gives_word he hF hw ha hk hr ((Dev.wordStep_fault hs).trans ((Dev.microFault_eq _ _ _ _).trans (if_pos ?_))) (Dev.haltSeq_halts _ q.isLt _ _)
  rw [Dev.begun_thread]
  show 3 ≤ (s.dev.thread q t).restarts + 1
  omega

variable (hm : (uword w).mark = 0) (hf : (uword w).flow = 0)
include hm hf

theorem gives_own {y : ThreadS} (hs : (s.dev.begun q t).ioStep q t (uword w) = (none, (s.dev.begun q t).setThread q t y)) :
    Gives c s fun d => (d.thread q t = { y with pc := (y.pc + 1) % 65536 } ∧ d = { s.dev with seq := { s.dev.seq with threads := d.seq.threads, turn := d.seq.turn }, cnt := d.cnt }) ∧
      Issued s.dev d q t :=
  gives_next he hF hw ha hk hm hf hr hs ((OwnThread.begun s.dev q t).setThread y) fun d h hd => ⟨h, by rw [hd, s.dev.begun_frame q t]; rfl⟩
end

/-! ### SENDQ (R16, R421) -/

/-- A token that may go takes one credit. -/
theorem Dev.sendTo_held {d : Dev} {b : Blk} {j : Nat} (h : d.canSend b j = true) (x : Bytes) : ((d.sendTo b j x).pool b j).held + 1 = (d.pool b j).held := by
  obtain ⟨ho, hh⟩ := Bool.and_eq_true_iff.1 h
  obtain ⟨p, hp⟩ := Option.isSome_iff_exists.1 (Bool.and_eq_true_iff.1 ho).1
  rw [Dev.sendTo_eq d hp, Dev.pool_setPool_same]
  exact Nat.sub_add_cancel (of_decide_eq_true hh)

theorem Dev.leave_send (d : Dev) (q ioq : Nat) (ws : List Word) : d.leave q (.send ioq ws) =
    (d.sendTo (ioqOf q ioq).1 (ioqOf q ioq).2 (ws.flatMap fun w => leBytes 4 w.toNat)).modSeq fun x => { x with sent := x.sent ++ [(q, .send ioq ws)] } := rfl

theorem Dev.leave_send_frame (d : Dev) (q ioq : Nat) (ws : List Word) : d.leave q (.send ioq ws) =
    { d with seq := { d.seq with sent := d.seq.sent ++ [(q, .send ioq ws)] }, pools := (d.leave q (.send ioq ws)).pools } := by
  rw [Dev.leave_send, Dev.sendTo_frame]; rfl

theorem Dev.begun_payload (d : Dev) (q t i : Nat) : ((d.begun q t).thread q t).payload i = (d.thread q t).payload i := by rw [Dev.begun_thread]; rfl

section
variable {s : State} {q : Fin 8} {t : Fin 32} {f : Fetch} {w : BitVec 128} (hF : Fetches s.dev q t f w) (hw : (uword w).wmode = 0) (ha : (uword w).alu = 0) (hf : (uword w).flow = 0)
include hF hw ha

theorem gives_sendq_waits (hio : (uword w).io = 1) (h : s.dev.tokGoes q (.send (uword w).ioq ((s.dev.thread q t).payload (uword w).ioreg)) = false) :
    Gives (.uwordSendq q t f) s fun d => d = s.dev :=
  gives_waits (exec_uwordSendq q t f s) hF hw ha (beq_iff_eq.2 hio) ((if_pos hio).trans h)

include hf

variable (hm : (uword w).mark = 0)
include hm

theorem gives_sendq (hio : (uword w).io = 1) : let x := s.dev.thread q t
    let k := OutTok.send (uword w).ioq (x.payload (uword w).ioreg)
    s.dev.tokGoes q k = true → Gives (.uwordSendq q t f) s fun d => (d.seq.sent = s.dev.seq.sent ++ [(q.val, k)] ∧ d.thread q t = { x with pc := (x.pc + 1) % 65536, waiting := none } ∧
      (d.pool (ioqOf q (uword w).ioq).1 (ioqOf q (uword w).ioq).2).held + 1 = (s.dev.pool (ioqOf q (uword w).ioq).1 (ioqOf q (uword w).ioq).2).held ∧
      d = { s.dev with seq := d.seq, pools := d.pools, cnt := d.cnt }) ∧ Issued s.dev d q t := by
  intro x k hg
  have hb := s.dev.begun_frame q t
  have hbo := OwnThread.begun s.dev q t
  have hio' := (s.dev.begun q t).ioStep_sendq q t hio
  rw [Dev.begun_payload] at hio'
  have hh : (((s.dev.begun q t).leave q k).pool (ioqOf q (uword w).ioq).1 (ioqOf q (uword w).ioq).2).held + 1 = ((s.dev.begun q t).pool (ioqOf q (uword w).ioq).1 (ioqOf q (uword w).ioq).2).held :=
    Dev.sendTo_held (d := s.dev.begun q t) (by rw [hb]; exact hg) _
  have hf' := (s.dev.begun q t).leave_send_frame q (uword w).ioq (x.payload (uword w).ioreg)
  change (s.dev.begun q t).leave q k = _ at hf'
  refine gives_next (exec_uwordSendq q t f s) hF hw ha (beq_iff_eq.2 hio) hm hf ((if_pos hio).trans hg) hio'
    (hbo.congr (e := (s.dev.begun q t).leave q k) (by rw [hf']) (by rw [hf'])) fun d h hd => ?_
  have hp (b : Blk) (j : Nat) : (s.dev.begun q t).pool b j = s.dev.pool b j := Dev.pool_congr (by rw [hb]) (by rw [hb]) _ _
  rw [hp] at hh
  change d = { (s.dev.begun q t).leave q k with seq := { ((s.dev.begun q t).leave q k).seq with threads := d.seq.threads, turn := d.seq.turn } } at hd
  generalize (s.dev.begun q t).leave q k = e at hh hf' hd
  refine ⟨?_, h, ?_, ?_⟩
  · rw [hd, hf', hb]
  · exact (congrArg (fun p : PoolS => p.held + 1) (Dev.pool_congr (d := e) (by rw [hd]) (by rw [hd]) _ _)).trans hh
  · rw [hd, hf', hb]

end

/-! ### SEND, CSR_WR and CSR_RD (R421, R551) -/

theorem Dev.begun_addTok {d : Dev} {q t : Nat} {k : OutTok} (h : (d.thread q t).toks.length < 8) : (d.begun q t).addTok q t k =
    (none, (d.begun q t).setThread q t { d.thread q t with waiting := none, toks := (d.thread q t).toks ++ [k] }) := by
  unfold Dev.addTok
  rw [Dev.begun_thread]
  exact if_neg (Nat.not_le.2 h)

theorem Dev.begun_addTok_full {d : Dev} {q t : Nat} {k : OutTok} (h : 8 ≤ (d.thread q t).toks.length) : (d.begun q t).addTok q t k = (some 0, d.begun q t) := by
  unfold Dev.addTok
  rw [Dev.begun_thread]
  exact if_pos h

theorem Dev.begun_reg (d : Dev) (q t i : Nat) : ((d.begun q t).thread q t).reg i = (d.thread q t).reg i := by rw [Dev.begun_thread]; rfl

theorem Dev.access_frame (d : Dev) (a : Nat) : (d.access a).2.2 = { d with regs := (d.access a).2.2.regs } := by
  cases h : d.readWord a with
  | none => rw [Dev.access_none h]
  | some w => rw [Dev.access_some h]; exact d.readEffect_frame a

/-- A read of control space gives the word, or zero where none stands. -/
theorem Dev.access_value (d : Dev) (a : Nat) : BitVec.ofNat 32 (d.access a).1 = (d.readWord a).getD 0 := by
  cases h : d.readWord a with
  | none => rw [Dev.access_none h]; rfl
  | some w => rw [Dev.access_some h]; exact BitVec.ofNat_toNat _ _

section
variable {s : State} {q : Fin 8} {t : Fin 32} {f : Fetch} {w : BitVec 128} (hF : Fetches s.dev q t f w) (hw : (uword w).wmode = 0) (ha : (uword w).alu = 0)
include hF hw ha

theorem gives_csrRd_waits (hio : (uword w).io = 4) (h : s.dev.canSend .fab 0 = false) : Gives (.uwordCsrRd q t f) s fun d => d = s.dev := by
  refine gives_waits (exec_uwordCsrRd q t f s) hF hw ha (beq_iff_eq.2 hio) ?_
  unfold Dev.ioReady
  rw [if_neg (by omega), if_pos hio]
  exact h

theorem gives_csrRd (hf : (uword w).flow = 0) (hm : (uword w).mark = 0) (hio : (uword w).io = 4) (h : s.dev.canSend .fab 0 = true) : let x := s.dev.thread q t
    Gives (.uwordCsrRd q t f) s fun d => (d.thread q t = { ({ x with pc := (x.pc + 1) % 65536 } : ThreadS).setReg s.dev.now (uword w).ioreg
        (((s.dev.begun q t).readWord (x.reg (uword w).srcA).toNat).getD 0) with waiting := none } ∧
      d = { s.dev with seq := { s.dev.seq with threads := d.seq.threads, turn := d.seq.turn }, regs := d.regs, cnt := d.cnt }) ∧ Issued s.dev d q t := by
  intro x
  have hio' := (s.dev.begun q t).ioStep_csrRd q t hio
  rw [Dev.begun_reg, Dev.access_value] at hio'
  have hb := s.dev.begun_frame q t
  have hbo := OwnThread.begun s.dev q t
  have hacc := (s.dev.begun q t).access_frame (x.reg (uword w).srcA).toNat
  have hready : s.dev.ioReady q (uword w) = true := by
    unfold Dev.ioReady
    rw [if_neg (by omega), if_pos hio]
    exact h
  change (s.dev.begun q t).ioStep q t (uword w) = (none, ((s.dev.begun q t).access (x.reg (uword w).srcA).toNat).2.2.setThread q t _) at hio'
  generalize ((s.dev.begun q t).access (x.reg (uword w).srcA).toNat).2.2 = e at hacc hio'
  have hnow : e.now = s.dev.now := by rw [hacc, hb]; rfl
  rw [hnow, Dev.begun_thread] at hio'
  refine gives_next (exec_uwordCsrRd q t f s) hF hw ha (beq_iff_eq.2 hio) hm hf hready hio' ((hbo.congr (e := e) (by rw [hacc]) (by rw [hacc])).setThread _) fun d h hd => ⟨h.trans (ThreadS.setReg_next _ _ _ _), ?_⟩
  · rw [hd]
    unfold Dev.setThread Dev.modSeq
    rw [hacc, hb]
end

end Sys2Proof.Machine
end

section
/-! SUPPORT. LOCK, COMMIT and DROP (R417, R422, R435). -/
namespace Sys2Proof.Machine

/-! ### LOCK -/

section
variable {d : Dev} {q t : Nat}

/-- The claim of a mutex by a thread. -/
def threadClaim (q t m : Nat) : Claim := { m := m, code := q, thread := some t }

/-- The thread's lock is granted or waited for. -/
def Dev.asked (d : Dev) (q t : Nat) : LockRef → Dev
  | .ctx c => d.grantCtx q c t
  | .mutex m => d.claimMutex (threadClaim q t m)

/-- The thread asks for a lock, with none before. -/
theorem Dev.askLock_eq (hl : (d.thread q t).lock = none) (hk : (d.thread q t).locked = false) (l : LockRef) : ∃ e : Dev,
    e = { d with seq := { d.seq with threads := e.seq.threads } } ∧ OwnThread d e q t { d.thread q t with lock := some l } ∧
      d.askLock q t l = e.asked q t l := by
  have ho : OwnThread d d q t (d.thread q t) := ⟨rfl, fun _ _ _ => rfl, rfl⟩
  have h1 := ho.setThread { d.thread q t with lock := none, locked := false }
  have h2 := h1.setThread { d.thread q t with lock := some l, locked := false }
  rw [← hk] at h2
  refine ⟨_, rfl, h2, ?_⟩
  unfold Dev.askLock
  rw [Dev.releaseLock_none hl, h1.own, hk]
  cases l <;> rfl

/-- A context mutex is held by another thread if it was. -/
theorem Dev.ctxHeld_own {e : Dev} {y : ThreadS} (h : OwnThread d e q t y) (hy : y.locked = false) (hd : (d.thread q t).locked = false) (c : Nat) :
    e.ctxHeld q c = d.ctxHeld q c := by
  unfold Dev.ctxHeld
  refine congrArg (fun p => (List.range 32).any p) (funext fun t' => ?_)
  by_cases ht : 32 * q + t' = 32 * q + t
  · have ht : t' = t := by omega
    rw [ht, h.own, hy, hd]; rfl
  · rw [h.others q t' ht]

theorem rrFirst_here {p : Nat → Bool} {n i : Nat} (hi : i < n) (hp : p i = true) (f : Nat) : rrFirst p n (f + 1) i = some i := by
  unfold rrFirst
  rw [Nat.mod_eq_of_lt hi, if_pos hp]

/-- A free context mutex goes to the thread that asks for it now. -/
theorem Dev.grantCtx_own {e : Dev} {y : ThreadS} (ht : t < 32) (h : OwnThread d e q t y) (ha : y.active = true) {c : Nat} (hl : y.lock = some (.ctx c)) (hk : y.locked = false)
    (hd : (d.thread q t).locked = false) : OwnThread d (e.grantCtx q c t) q t { y with locked := !d.ctxHeld q c } ∧
      e.grantCtx q c t = { e with seq := { e.seq with threads := (e.grantCtx q c t).seq.threads } } := by
  unfold Dev.grantCtx
  rw [Dev.ctxHeld_own h hk hd]
  cases hc : d.ctxHeld q c with
  | true =>
    rw [if_pos rfl]
    have hy : ({ y with locked := false } : ThreadS) = y := by rw [← hk]
    exact ⟨by rw [Bool.not_true, hy]; exact h, rfl⟩
  | false =>
    rw [if_neg (by decide), rrFirst_here ht (by rw [h.own, ha, hl]; exact beq_self_eq_true _)]
    dsimp only
    rw [h.own]
    exact ⟨h.setThread _, rfl⟩

/-- A claim that finds its mutex held waits in line. -/
theorem Dev.claimMutex_waits {k : Claim} (hh : (d.seq.holder.get (fun _ => none) k.m).isSome = true) (hk : k ∉ d.seq.claims) :
    d.claimMutex k = { d with seq := { d.seq with claims := d.seq.claims ++ [k] } } := by
  unfold Dev.claimMutex Dev.grantMutex
  rw [if_neg (by simpa using hk)]
  exact if_pos hh

/-- A claim of a free mutex that nobody else asks for is granted. -/
theorem Dev.claimMutex_takes {k : Claim} (hc : k.code < 16) (hh : d.seq.holder.get (fun _ => none) k.m = none) (hk : ∀ x ∈ d.seq.claims, x.m ≠ k.m) :
    d.claimMutex k = ({ d with seq := { d.seq with claims := d.seq.claims ++ [k] } } : Dev).giveMutex k := by
  have hn : k ∉ d.seq.claims := fun h => hk k h rfl
  have hf : (d.seq.claims ++ [k]).find? (fun x => x.m == k.m && x.code == k.code) = some k := by
    rw [List.find?_append, List.find?_eq_none.2 fun x hx => by simp [hk x hx]]
    simp
  have ha : (d.seq.claims ++ [k]).any (fun x => x.m == k.m && x.code == k.code) = true := by simp
  have hr : rrFirst (fun c => (d.seq.claims ++ [k]).any fun x => x.m == k.m && x.code == c) 16 16 k.code = some k.code := rrFirst_here hc ha 15
  unfold Dev.claimMutex
  rw [if_neg (by simpa using hn)]
  unfold Dev.grantMutex Dev.modSeq
  dsimp only
  rw [hh, if_neg (by decide), hr]
  dsimp only
  rw [hf]

/-- The mutex shows who holds it. -/
def Dev.mutexTaken (d : Dev) (q t m : Nat) : Dev :=
  ({ d with seq := { d.seq with claims := d.seq.claims.erase (threadClaim q t m), holder := d.seq.holder.set (fun _ => none) m (some q) } } : Dev).showMutex m (some q)

theorem Dev.giveMutex_eq (d : Dev) (q t m : Nat) : d.giveMutex (threadClaim q t m) =
    (d.mutexTaken q t m).setThread q t { (d.mutexTaken q t m).thread q t with locked := true, lock := some (.mutex m) } := rfl

theorem Dev.mutexTaken_frame (d : Dev) (q t m : Nat) : d.mutexTaken q t m =
    { d with seq := { d.seq with claims := d.seq.claims.erase (threadClaim q t m), holder := d.seq.holder.set (fun _ => none) m (some q) }, regs := (d.mutexTaken q t m).regs } := rfl

theorem Dev.setOwner_owner (d : Dev) {q : Nat} (m : Nat) (hq : q < 16) : (d.setFld (F.SEQ_MUTEX_OWNER m) q).fld (F.SEQ_MUTEX_OWNER m) = q := by
  rw [Dev.fld_setFld_same d (F.SEQ_MUTEX_OWNER m) q (show 24 + 4 ≤ 32 by decide), show (F.SEQ_MUTEX_OWNER m).n = 4 from rfl]
  exact Nat.mod_eq_of_lt hq

theorem Dev.setOwner_held (d : Dev) (m q : Nat) : (d.setFld (F.SEQ_MUTEX_OWNER m) q).fld (F.SEQ_MUTEX_HELD m) = d.fld (F.SEQ_MUTEX_HELD m) :=
  Dev.fld_setFld_disjoint _ (F.SEQ_MUTEX_OWNER m) (F.SEQ_MUTEX_HELD m) _ rfl (.inl (show 24 + 4 ≤ 31 by decide)) (show 31 + 1 ≤ 32 by decide)

theorem Dev.showMutex_some (d : Dev) (m q : Nat) : d.showMutex m (some q) = (d.setFlag (F.SEQ_MUTEX_HELD m) true).setFld (F.SEQ_MUTEX_OWNER m) q := rfl

theorem Dev.showMutex_shows (d : Dev) {q : Nat} (m : Nat) (hq : q < 16) : (d.showMutex m (some q)).fld (F.SEQ_MUTEX_OWNER m) = q ∧ (d.showMutex m (some q)).flag (F.SEQ_MUTEX_HELD m) = true := by
  rw [Dev.showMutex_some]
  refine ⟨Dev.setOwner_owner _ _ hq, ?_⟩
  exact (congrArg (· != 0) (Dev.setOwner_held _ _ _)).trans (d.flag_setFlag_same (F.SEQ_MUTEX_HELD m) true (show 31 + 1 ≤ 32 by decide) (show 0 < 1 by decide))

theorem Dev.mutexTaken_shows (d : Dev) {q : Nat} (t m : Nat) (hq : q < 16) : (d.mutexTaken q t m).fld (F.SEQ_MUTEX_OWNER m) = q ∧ (d.mutexTaken q t m).flag (F.SEQ_MUTEX_HELD m) = true := by
  unfold Dev.mutexTaken
  exact Dev.showMutex_shows _ m hq

theorem Dev.flag_congr_regs {d e : Dev} (hr : e.regs = d.regs) (hv : e.v = d.v) (g : RF) : e.flag g = d.flag g := congrArg (· != 0) (Dev.fld_congr_regs hr hv g)

/-- A thread that is given a mutex holds it, and the mutex shows its sequencer. -/
theorem Dev.giveMutex_spec {l : List Claim} {m : Nat} (hq : q < 16) (hn : threadClaim q t m ∉ l) (hl : d.seq.claims = l ++ [threadClaim q t m]) : ∃ e : Dev,
    d.giveMutex (threadClaim q t m) = e ∧ OwnThread d e q t { d.thread q t with locked := true, lock := some (.mutex m) } ∧ e.seq.claims = l ∧
      e.seq.holder.get (fun _ => none) m = some q ∧ e.fld (F.SEQ_MUTEX_OWNER m) = q ∧ e.flag (F.SEQ_MUTEX_HELD m) = true ∧ e = { d with seq := e.seq, regs := e.regs } := by
  have he : d.seq.claims.erase (threadClaim q t m) = l := by rw [hl, List.erase_append_right _ hn, List.erase_cons_head, List.append_nil]
  have ho : OwnThread d d q t (d.thread q t) := ⟨rfl, fun _ _ _ => rfl, rfl⟩
  have hx := d.mutexTaken_frame q t m
  obtain ⟨h1, h2⟩ := d.mutexTaken_shows t m hq
  have hg := d.giveMutex_eq q t m
  rw [he] at hx
  generalize d.mutexTaken q t m = x at hx h1 h2 hg
  have hxo : OwnThread d x q t (d.thread q t) := ho.congr (by rw [hx]) (by rw [hx])
  have hxc : x.seq.claims = l := by rw [hx]
  have hxh : x.seq.holder.get (fun _ => none) m = some q := by rw [hx]; exact Tab.get_set_same (fun _ => (none : Option Nat)) d.seq.holder m (some q)
  have hxf : x = { d with seq := x.seq, regs := x.regs } := by rw [hx]
  clear hx
  rw [hxo.own] at hg
  have hy := hxo.setThread { d.thread q t with locked := true, lock := some (.mutex m) }
  have hs : x.setThread q t { d.thread q t with locked := true, lock := some (.mutex m) } =
    { x with seq := { x.seq with threads := (x.setThread q t { d.thread q t with locked := true, lock := some (.mutex m) }).seq.threads } } := rfl
  generalize x.setThread q t { d.thread q t with locked := true, lock := some (.mutex m) } = e at hg hy hs
  have her : e.regs = x.regs := by rw [hs]
  have hev : e.v = x.v := by rw [hs]
  refine ⟨e, hg, hy, ?_, ?_, ?_, ?_, ?_⟩
  · rw [hs]; exact hxc
  · rw [hs]; exact hxh
  · rw [Dev.fld_congr_regs her hev]; exact h1
  · rw [Dev.flag_congr_regs her hev]; exact h2
  · rw [hs, hxf]
end

/-! ### LOCK, word by word -/

theorem rrFirst_some {p : Nat → Bool} {n f i j : Nat} (h : rrFirst p n f i = some j) : p j = true := by
  induction f generalizing i with
  | zero => exact absurd h (by simp [rrFirst])
  | succ f ih =>
    unfold rrFirst at h
    split at h
    · next hp => rw [← Option.some.inj h]; exact hp
    · exact ih h

/-- A thread whose turn it is runs a routine. -/
theorem Fetches.active {d : Dev} {q t : Nat} {f : Fetch} {w : BitVec 128} (h : Fetches d q t f w) : (d.thread q t).active = true := by
  have hr : d.threadReady q t = true := rrFirst_some h.2.2.1
  unfold Dev.threadReady at hr
  exact (Bool.and_eq_true_iff.1 (Bool.and_eq_true_iff.1 hr).1).1

section
variable {s : State} {q : Fin 8} {t : Fin 32} {f : Fetch} {w : BitVec 128} (hF : Fetches s.dev q t f w) (hw : (uword w).wmode = 0) (ha : (uword w).alu = 0)
  (hio : (uword w).io = 6)

include hio in
/-- LOCK needs no credit. -/
theorem lock_ready : s.dev.ioReady q (uword w) = true := Dev.ioReady_of _ _ (by omega)

include hF hw ha hio

/-- A thread that holds a lock may not ask for another. -/
theorem gives_lock_fault (hl : (s.dev.thread q t).locked = true) (hx : (s.dev.thread q t).restarts < 2) : Gives (.uwordLock q t f) s fun d => FaultRestarted s.dev d q t :=
  gives_fault (exec_uwordLock q t f s) hF hw ha (beq_iff_eq.2 hio) (lock_ready hio) (Dev.ioStep_locked _ _ _ hio (by rw [Dev.begun_thread]; exact hl)) hx

variable (hm : (uword w).mark = 0) (hf : (uword w).flow = 0) (hl : (s.dev.thread q t).lock = none) (hk : (s.dev.thread q t).locked = false)
include hm hf hl hk

/-- A LOCK asks for its lock, then the thread goes on to the next word. -/
theorem gives_lock {l : LockRef} (hr : (if (uword w).immed.testBit 31 then LockRef.mutex ((uword w).immed % 8) else .ctx ((s.dev.thread q t).reg (uword w).srcA).toNat) = l)
    {P : Dev → Prop} (hP : ∀ e : Dev, e = { s.dev with seq := { s.dev.seq with threads := e.seq.threads }, cnt := e.cnt } → OwnThread s.dev e q t { s.dev.thread q t with lock := some l, waiting := none } →
      ∃ (e' : Dev) (y : ThreadS), e.asked q t l = e' ∧ OwnThread s.dev e' q t y ∧
        ∀ d, d.thread q t = { y with pc := (y.pc + 1) % 65536 } → d = { e' with seq := { e'.seq with threads := d.seq.threads, turn := d.seq.turn } } → P d) :
    Gives (.uwordLock q t f) s fun d => P d ∧ Issued s.dev d q t := by
  have hb := s.dev.begun_frame q t
  have hbt := s.dev.begun_thread q t
  have hbo := OwnThread.begun s.dev q t
  have hstep := (s.dev.begun q t).ioStep_lock q t hio (by rw [hbt]; exact hk)
  rw [Dev.begun_reg, hr] at hstep
  obtain ⟨e, he, ho, ha'⟩ := Dev.askLock_eq (d := s.dev.begun q t) (q := q) (t := t) (by rw [hbt]; exact hl) (by rw [hbt]; exact hk) l
  rw [hbt] at ho
  have hoe : OwnThread s.dev e q t { s.dev.thread q t with lock := some l, waiting := none } :=
    ⟨ho.own, fun q' t' hn => (ho.others q' t' hn).trans (hbo.others q' t' hn), ho.turn.trans hbo.turn⟩
  obtain ⟨e', y, h1, h2, h3⟩ := hP e (by rw [he, hb]) hoe
  refine gives_next (exec_uwordLock q t f s) hF hw ha (beq_iff_eq.2 hio) hm hf (lock_ready hio) (hstep.trans ?_) h2 h3
  rw [ha', h1]

/-- A LOCK of a context takes it if it is free, and waits for it if it is not (R422). -/
theorem gives_lock_ctx (hi : (uword w).immed.testBit 31 = false) : let x := s.dev.thread q t
    Gives (.uwordLock q t f) s fun d => (d.thread q t = { x with lock := some (.ctx (x.reg (uword w).srcA).toNat), locked := !s.dev.ctxHeld q (x.reg (uword w).srcA).toNat, pc := (x.pc + 1) % 65536, waiting := none } ∧
      d = { s.dev with seq := { s.dev.seq with threads := d.seq.threads, turn := d.seq.turn }, cnt := d.cnt }) ∧ Issued s.dev d q t := by
  intro x
  refine gives_lock hF hw ha hio hm hf hl hk (l := .ctx (x.reg (uword w).srcA).toNat) (by rw [hi]; rfl) fun e he ho => ?_
  obtain ⟨h1, h2⟩ := Dev.grantCtx_own t.isLt ho (Fetches.active hF) rfl hk hk
  refine ⟨e.grantCtx q (x.reg (uword w).srcA).toNat t, _, rfl, h1, fun d hd hfr => ⟨hd, ?_⟩⟩
  rw [hfr, h2, he]

/-- A LOCK of a free mutex that nobody asks for takes it (R422, R435). -/
theorem gives_lock_free (hi : (uword w).immed.testBit 31 = true) : let x := s.dev.thread q t
    let m := (uword w).immed % 8
    s.dev.seq.holder.get (fun _ => none) m = none → (∀ k ∈ s.dev.seq.claims, k.m ≠ m) → Gives (.uwordLock q t f) s fun d =>
      (d.thread q t = { x with lock := some (.mutex m), locked := true, pc := (x.pc + 1) % 65536, waiting := none } ∧ d.seq.claims = s.dev.seq.claims ∧
        d.seq.holder.get (fun _ => none) m = some q.val ∧ d.fld (F.SEQ_MUTEX_OWNER m) = q.val ∧ d.flag (F.SEQ_MUTEX_HELD m) = true ∧ d = { s.dev with seq := d.seq, regs := d.regs, cnt := d.cnt }) ∧
      Issued s.dev d q t := by
  intro x m hh hc
  refine gives_lock hF hw ha hio hm hf hl hk (l := .mutex m) (by rw [hi]; rfl) fun e he ho => ?_
  have hec : e.seq.claims = s.dev.seq.claims := by rw [he]
  have heh : e.seq.holder = s.dev.seq.holder := by rw [he]
  have ht := Dev.claimMutex_takes (d := e) (k := threadClaim q t m) (Nat.lt_trans q.isLt (by decide)) (by rw [heh]; exact hh) (by rw [hec]; exact hc)
  obtain ⟨e', h0, h1, h2, h3, h4, h5, h6⟩ := Dev.giveMutex_spec (d := { e with seq := { e.seq with claims := e.seq.claims ++ [threadClaim q t m] } }) (q := q) (t := t) (m := m) (l := e.seq.claims)
    (Nat.lt_trans q.isLt (by decide)) (by rw [hec]; exact fun h => hc _ h rfl) rfl
  have h1o : OwnThread s.dev e' q t { x with lock := some (.mutex m), locked := true, waiting := none } := by
    refine ⟨h1.own.trans ?_, fun q' t' hn => (h1.others q' t' hn).trans (ho.others q' t' hn), h1.turn.trans ho.turn⟩
    rw [show ({ e with seq := { e.seq with claims := e.seq.claims ++ [threadClaim q t m] } } : Dev).thread q t = e.thread q t from rfl, ho.own]
  refine ⟨e', _, ht.trans h0, h1o, fun d hd hfr => ?_⟩
  have hr : d.regs = e'.regs := by rw [hfr]
  have hv : d.v = e'.v := by rw [hfr]
  refine ⟨hd, ?_, ?_, ?_, ?_, ?_⟩
  · rw [hfr]; exact h2.trans hec
  · rw [hfr]; exact h3
  · exact (Dev.fld_congr_regs hr hv _).trans h4
  · exact (Dev.flag_congr_regs hr hv _).trans h5
  · rw [hfr, h6, he]

/-- A LOCK of a held mutex waits in line (R422, R435). -/
theorem gives_lock_held (hi : (uword w).immed.testBit 31 = true) : let x := s.dev.thread q t
    let m := (uword w).immed % 8
    (s.dev.seq.holder.get (fun _ => none) m).isSome = true → threadClaim q t m ∉ s.dev.seq.claims → Gives (.uwordLock q t f) s fun d =>
      (d.thread q t = { x with lock := some (.mutex m), pc := (x.pc + 1) % 65536, waiting := none } ∧ d.seq.claims = s.dev.seq.claims ++ [threadClaim q t m] ∧
        d.seq.holder = s.dev.seq.holder ∧ d = { s.dev with seq := d.seq, cnt := d.cnt }) ∧ Issued s.dev d q t := by
  intro x m hh hc
  refine gives_lock hF hw ha hio hm hf hl hk (l := .mutex m) (by rw [hi]; rfl) fun e he ho => ?_
  have hec : e.seq.claims = s.dev.seq.claims := by rw [he]
  have heh : e.seq.holder = s.dev.seq.holder := by rw [he]
  refine ⟨_, _, Dev.claimMutex_waits (d := e) (k := threadClaim q t m) (by rw [heh]; exact hh) (by rw [hec]; exact hc), ho.congr rfl rfl, fun d hd hfr => ⟨hd, ?_, ?_, ?_⟩⟩
  · rw [hfr]; exact congrArg (· ++ [threadClaim q t m]) hec
  · rw [hfr]; exact heh
  · rw [hfr, he]
end

end Sys2Proof.Machine
end

section
/-! SUPPORT. COMMIT and DROP (R417, R421, R423). -/
namespace Sys2Proof.Machine

/-! ### The end of a routine -/

section
variable {d0 d e : Dev} {q t : Nat} {y : ThreadS} (ho : OwnThread d0 d q t y) (hl : y.lock = none)
include ho hl

/-- A routine without a lock ends, and its thread is free for the next. -/
theorem Dev.endThread_own : OwnThread d0 (d.endThread q t) q t { run := y.run + 1 } ∧ d.endThread q t = { d with seq := { d.seq with threads := (d.endThread q t).seq.threads } } := by
  have h1 := ho.setThread { y with lock := none, locked := false }
  have he : d.endThread q t = (d.setThread q t { y with lock := none, locked := false }).setThread q t { run := y.run + 1 } := by
    unfold Dev.endThread
    rw [Dev.releaseLock_none (by rw [ho.own]; exact hl), ho.own]
    dsimp only
    rw [h1.own]
  rw [he]
  exact ⟨h1.setThread _, rfl⟩

/-- DROP ends the routine, and is counted. -/
theorem Dev.dropRoutine_own : OwnThread d0 (d.dropRoutine q t) q t { run := y.run + 1 } ∧
    d.dropRoutine q t = { d with seq := { d.seq with threads := (d.dropRoutine q t).seq.threads }, cnt := (d.bump .seq (4 * q + 2)).cnt } := by
  obtain ⟨h1, h2⟩ := Dev.endThread_own ho hl
  unfold Dev.dropRoutine
  exact ⟨h1.congr rfl rfl, by rw [h2]; rfl⟩
end

/-- The routine has committed: its writes are done, its lock is free, and its tokens drain. -/
def Dev.routineCommitted (d : Dev) (q t : Nat) : Dev :=
  let d := (d.releaseLock q t).bump .seq (4 * q + 1)
  d.setThread q t { d.thread q t with writes := [], draining := true }

section
variable {d0 d e : Dev} {q t : Nat} {y : ThreadS}

theorem Dev.commitRoutine_none (h : (d.thread q t).writes = []) (ctx : SramBits) : d.commitRoutine q t ctx = (d.routineCommitted q t).drainThread q t := by
  unfold Dev.commitRoutine
  rw [h]; rfl

theorem Dev.commitRoutine_one {c i : Nat} {v : Word} (h : (d.thread q t).writes = [(c, i, v)]) {ctx : SramBits} (hc : sramRead ctx = .ok) :
    d.commitRoutine q t ctx = ((d.setCtxWord q c i v).routineCommitted q t).drainThread q t := by
  have hcov : ((List.range 16).all fun j => [(c, i, v)].any fun p => (p.1 == c && p.2.1 / 16 == i / 16) && p.2.1 % 16 == j) = false := by
    rw [List.all_eq_false]
    refine ⟨(i + 1) % 16, List.mem_range.2 (Nat.mod_lt _ (by decide)), ?_⟩
    simp only [List.any_cons, List.any_nil, Bool.or_false, Bool.and_eq_true, beq_iff_eq, not_and]
    omega
  unfold Dev.commitRoutine
  simp only [h, hcov, hc]
  rfl

/-- An outbox that may not leave waits, the routine with it. -/
theorem Dev.drainThread_waits {k : OutTok} {r : List OutTok} (ho : OwnThread d0 e q t y) (h : d.leaveAll q (d.thread q t).toks = (k :: r, e)) :
    OwnThread d0 (d.drainThread q t) q t { y with toks := k :: r } ∧ d.drainThread q t = { e with seq := { e.seq with threads := (d.drainThread q t).seq.threads } } := by
  have he : d.drainThread q t = e.setThread q t { y with toks := k :: r } := by
    unfold Dev.drainThread
    rw [h]
    dsimp only
    rw [if_pos (by simp), ho.own]
  rw [he]
  exact ⟨ho.setThread _, rfl⟩

/-- An outbox that has left ends its routine. -/
theorem Dev.drainThread_ends (ho : OwnThread d0 e q t y) (hl : y.lock = none) (hi : ∀ j ∈ e.seq.intrs, ¬(j.s = q ∧ j.ctx = y.ctx)) (h : d.leaveAll q (d.thread q t).toks = ([], e)) :
    OwnThread d0 (d.drainThread q t) q t { run := y.run + 1 } ∧
      d.drainThread q t = { e with seq := { e.seq with threads := (d.drainThread q t).seq.threads, intrs := (d.drainThread q t).seq.intrs } } := by
  have hn : (e.seq.intrs.filter fun j => decide (j.s = q ∧ j.ctx = y.ctx)) = [] := List.filter_eq_nil_iff.2 fun j hj => by simpa using hi j hj
  have he : d.drainThread q t = (e.endThread q t).modSeq fun x => { x with intrs := x.intrs.filter fun i => !decide (i.s = q ∧ i.ctx = y.ctx) } := by
    unfold Dev.drainThread
    rw [h]
    dsimp only
    rw [if_neg (by simp), ho.own, hn]
    rfl
  obtain ⟨h1, h2⟩ := Dev.endThread_own ho hl
  rw [he]
  refine ⟨h1.congr rfl rfl, ?_⟩
  rw [h2]; rfl

theorem Dev.routineCommitted_own (ho : OwnThread d0 d q t y) (hl : y.lock = none) :
    OwnThread d0 (d.routineCommitted q t) q t { y with locked := false, writes := [], draining := true } ∧
      d.routineCommitted q t = { d with seq := { d.seq with threads := (d.routineCommitted q t).seq.threads }, cnt := (d.bump .seq (4 * q + 1)).cnt } := by
  have h1 := ho.setThread { y with lock := none, locked := false }
  have he : d.routineCommitted q t = ((d.setThread q t { y with lock := none, locked := false }).bump .seq (4 * q + 1)).setThread q t { y with lock := none, locked := false, writes := [], draining := true } := by
    unfold Dev.routineCommitted
    rw [Dev.releaseLock_none (by rw [ho.own]; exact hl), ho.own]
    dsimp only
    rw [(h1.congr (e := (d.setThread q t { y with lock := none, locked := false }).bump .seq (4 * q + 1)) rfl rfl).own]
  rw [he]
  refine ⟨?_, rfl⟩
  have h2 := (h1.congr (e := (d.setThread q t { y with lock := none, locked := false }).bump .seq (4 * q + 1)) rfl rfl).setThread { y with lock := none, locked := false, writes := [], draining := true }
  rw [show ({ y with locked := false, writes := [], draining := true } : ThreadS) = { y with lock := none, locked := false, writes := [], draining := true } by rw [← hl]]
  exact h2

/-- A write into a context that the sequencer has changes that word, when no injection is armed. -/
theorem Dev.setCtxWord_eq {c : Nat} (hc : c < seqContexts q) (ha : d.flag F.SEQ_INJECT_ARM = false) (i : Nat) (v : Word) :
    d.setCtxWord q c i v = { d with seq := { d.seq with ctx := d.seq.ctx.set (fun _ => 0) ((4096 * q + c) * 32 + i) v } } := by
  unfold Dev.setCtxWord
  rw [if_neg (Nat.not_le.2 hc)]
  exact if_neg (by rw [show (d.modSeq _).flag F.SEQ_INJECT_ARM = d.flag F.SEQ_INJECT_ARM from rfl, ha]; simp)
end

/-! ### The outbox leaves (R421) -/

theorem Dev.leaveAll_goes {d : Dev} {q : Nat} {k : OutTok} (h : d.tokGoes q k = true) : d.leaveAll q [k] = ([], d.leave q k) := by
  unfold Dev.leaveAll
  rw [if_pos h]; rfl

theorem Dev.leaveAll_stays {d : Dev} {q : Nat} {k : OutTok} (h : d.tokGoes q k = false) : d.leaveAll q [k] = ([k], d) := by
  unfold Dev.leaveAll
  exact if_neg (by rw [h]; decide)

/-- A routine commits: from `d` to `e` its thread drains, one context word at most has changed, and the commit is counted. -/
structure Commits (d e : Dev) (q t : Nat) (ctx : Tab Word) : Prop where
  own : OwnThread d e q t { d.thread q t with writes := [], draining := true, locked := false, waiting := none }
  frame : e = { d with seq := { d.seq with threads := e.seq.threads, ctx := ctx }, cnt := e.cnt }
  counted : e.counter .seq (4 * q + 1) = d.counter .seq (4 * q + 1) + 1

section
variable {d : Dev} {q t : Nat}

theorem Commits.of_written {b : Dev} (hq : q < 8) (hl : (d.thread q t).lock = none) {ctx : Tab Word} (hb : b = { d.begun q t with seq := { (d.begun q t).seq with ctx := ctx } }) :
    Commits d (b.routineCommitted q t) q t ctx := by
  have hf := d.begun_frame q t
  have ho : OwnThread d b q t { d.thread q t with waiting := none } := (OwnThread.begun d q t).congr (by rw [hb]) (by rw [hb])
  have hc : b.cnt = (d.begun q t).cnt := by rw [hb]
  obtain ⟨h1, h2⟩ := Dev.routineCommitted_own ho hl
  refine ⟨h1, ?_, ?_⟩
  · rw [h2, hb, hf]
  · have he : (b.routineCommitted q t).cnt = (b.bump .seq (4 * q + 1)).cnt := by rw [h2]
    rw [Dev.counter_congr he, Dev.counter_bump_same, Dev.counter_congr hc, Dev.begun_counter _ _ _ (by omega)]

/-- A routine that wrote nothing commits. -/
theorem Commits.empty (hq : q < 8) (hl : (d.thread q t).lock = .none) : Commits d ((d.begun q t).routineCommitted q t) q t d.seq.ctx :=
  .of_written hq hl (by rw [d.begun_frame q t])

/-- A routine that wrote one context word commits. -/
theorem Commits.one (hq : q < 8) (hl : (d.thread q t).lock = .none) {c : Nat} (hc : c < seqContexts q) (ha : d.flag F.SEQ_INJECT_ARM = false) (i : Nat) (v : Word) :
    Commits d (((d.begun q t).setCtxWord q c i v).routineCommitted q t) q t (d.seq.ctx.set (fun _ => 0) ((4096 * q + c) * 32 + i) v) := by
  have hf := d.begun_frame q t
  have hs : (d.begun q t).seq.ctx = d.seq.ctx := by rw [hf]
  have ha' : (d.begun q t).flag F.SEQ_INJECT_ARM = false := (Dev.flag_congr_regs (by rw [hf]) (by rw [hf]) _).trans ha
  exact .of_written hq hl (by rw [Dev.setCtxWord_eq hc ha', hs])

variable {e : Dev} {ctx : Tab Word} (h : Commits d e q t ctx)
include h

theorem Commits.tokGoes (k : OutTok) : e.tokGoes q k = d.tokGoes q k := by rw [h.frame]; rfl

theorem Commits.toks : (e.thread q t).toks = (d.thread q t).toks := by rw [h.own.own]

variable (hl : (d.thread q t).lock = none) (hi : ∀ j ∈ d.seq.intrs, ¬(j.s = q ∧ j.ctx = (d.thread q t).ctx))

include hl hi in
/-- A routine with an empty outbox ends as it commits. -/
theorem Commits.ends (ht : (d.thread q t).toks = []) : OwnThread d (e.drainThread q t) q t { run := (d.thread q t).run + 1 } ∧
    e.drainThread q t = { d with seq := { (e.drainThread q t).seq with ctx := ctx, sent := d.seq.sent }, cnt := e.cnt } := by
  obtain ⟨h1, h2⟩ := Dev.drainThread_ends (d := e) h.own hl (by rw [h.frame]; exact hi) (by rw [h.toks, ht]; rfl)
  refine ⟨h1, ?_⟩
  rw [h2, h.frame]

include hl hi in
/-- A token that may go leaves, and the routine ends. -/
theorem Commits.sends {n : Nat} {ws : List Word} (ht : (d.thread q t).toks = [.send n ws]) (hg : d.tokGoes q (.send n ws) = true) :
    OwnThread d (e.drainThread q t) q t { run := (d.thread q t).run + 1 } ∧
      e.drainThread q t = { d with seq := { (e.drainThread q t).seq with ctx := ctx, sent := d.seq.sent ++ [(q, .send n ws)] }, cnt := e.cnt, pools := (e.drainThread q t).pools } := by
  have hf := e.leave_send_frame q n ws
  have hq := e.leaveAll_goes (q := q) (k := .send n ws) (by rw [h.tokGoes, hg])
  generalize e.leave q (.send n ws) = y at hf hq
  obtain ⟨h1, h2⟩ := Dev.drainThread_ends (d := e) (e := y) (h.own.congr (by rw [hf]) (by rw [hf])) hl (by rw [hf, h.frame]; exact hi) (by rw [h.toks, ht]; exact hq)
  refine ⟨h1, ?_⟩
  rw [h2, hf, h.frame]

/-- A token that may not go waits in the outbox. -/
theorem Commits.waits {k : OutTok} (ht : (d.thread q t).toks = [k]) (hg : d.tokGoes q k = false) :
    OwnThread d (e.drainThread q t) q t { d.thread q t with writes := [], draining := true, locked := false, waiting := none } ∧
      e.drainThread q t = { d with seq := { (e.drainThread q t).seq with ctx := ctx, sent := d.seq.sent }, cnt := e.cnt } := by
  obtain ⟨h1, h2⟩ := Dev.drainThread_waits (d := e) (k := k) (r := []) h.own (by rw [h.toks, ht]; exact Dev.leaveAll_stays (by rw [h.tokGoes, hg]))
  rw [← ht] at h1
  refine ⟨h1, ?_⟩
  rw [h2, h.frame]
end

/-- What is written is read, the other words stand, and the commit is counted. -/
theorem Commits.shows {d e y : Dev} {q t c i : Nat} {v : Word} (h : Commits d e q t (d.seq.ctx.set (fun _ => 0) ((4096 * q + c) * 32 + i) v))
    (hx : y.seq.ctx = d.seq.ctx.set (fun _ => 0) ((4096 * q + c) * 32 + i) v) (hc : y.cnt = e.cnt) :
    y.ctxWord q c i = v ∧ (∀ n : Nat, n ≠ (4096 * q + c) * 32 + i → y.seq.ctx.get (fun _ => 0) n = d.seq.ctx.get (fun _ => 0) n) ∧
      y.counter .seq (4 * q + 1) = d.counter .seq (4 * q + 1) + 1 := by
  unfold Dev.ctxWord
  rw [hx]
  exact ⟨Tab.get_set_same _ _ _ _, fun n hn => Tab.get_set_ne _ _ _ hn, (Dev.counter_congr hc _ _).trans h.counted⟩

/-! ### COMMIT and DROP, word by word -/

section
variable {s : State} {q : Fin 8} {t : Fin 32} {f : Fetch} {w : BitVec 128} (hF : Fetches s.dev q t f w) (hw : (uword w).wmode = 0) (ha : (uword w).alu = 0)
  (hio : (uword w).io = 0) (hl : (s.dev.thread q t).lock = none)
include hF hw ha hio

theorem gives_commit (hm : (uword w).mark = 1) {P : Dev → Prop} (hP : P (((s.dev.begun q t).commitRoutine q t f.ctx).issued q t)) : Gives (.uwordCommit q t f) s P :=
  gives_word (exec_uwordCommit q t f s) hF hw ha (beq_iff_eq.2 hm) (Dev.ioReady_of _ _ (by omega))
    ((Dev.wordStep_mark (Dev.ioStep_none _ _ _ hio)).trans (by unfold Dev.markStep; exact if_pos hm)) hP

include hl

theorem gives_drop (hm : (uword w).mark = 2) : let x := s.dev.thread q t
    Gives (.uwordDrop q t f) s fun d => (d.thread q t = { run := x.run + 1 } ∧ d.seq.ctx = s.dev.seq.ctx ∧ d.seq.sent = s.dev.seq.sent ∧
      d.counter .seq (4 * q + 2) = s.dev.counter .seq (4 * q + 2) + 1 ∧ d = { s.dev with seq := d.seq, cnt := d.cnt }) ∧ Issued s.dev d q t := by
  intro x
  have hb := s.dev.begun_frame q t
  obtain ⟨h1, h2⟩ := Dev.dropRoutine_own (OwnThread.begun s.dev q t) hl
  have hcnt : ((s.dev.begun q t).dropRoutine q t).cnt = ((s.dev.begun q t).bump .seq (4 * q + 2)).cnt := by rw [h2]
  refine gives_word (exec_uwordDrop q t f s) hF hw ha (beq_iff_eq.2 hm) (Dev.ioReady_of _ _ (by omega))
    ((Dev.wordStep_mark (Dev.ioStep_none _ _ _ hio)).trans (by unfold Dev.markStep; rw [if_neg (by omega), if_pos hm])) ⟨⟨h1.issued.1, ?_, ?_, ?_, ?_⟩, h1.issued.2⟩
  · show ((s.dev.begun q t).dropRoutine q t).seq.ctx = _
    rw [h2, hb]
  · show ((s.dev.begun q t).dropRoutine q t).seq.sent = _
    rw [h2, hb]
  · show ((s.dev.begun q t).dropRoutine q t).counter .seq (4 * q + 2) = _
    rw [Dev.counter_congr hcnt, Dev.counter_bump_same, Dev.begun_counter _ _ _ (by omega)]
  · unfold Dev.issued Dev.modSeq
    rw [h2, hb]

variable (hm : (uword w).mark = 1) (hi : ∀ j ∈ s.dev.seq.intrs, ¬(j.s = q.val ∧ j.ctx = (s.dev.thread q t).ctx))
include hm hi

/-- A routine that wrote and sent nothing commits. -/
theorem gives_commit_empty (hws : (s.dev.thread q t).writes = []) (ht : (s.dev.thread q t).toks = []) : let x := s.dev.thread q t
    Gives (.uwordCommit q t f) s fun d => (d.thread q t = { run := x.run + 1 } ∧ d.seq.ctx = s.dev.seq.ctx ∧ d.seq.sent = s.dev.seq.sent ∧ d = { s.dev with seq := d.seq, cnt := d.cnt }) ∧
      Issued s.dev d q t := by
  intro x
  refine gives_commit hF hw ha hio hm ?_
  rw [Dev.commitRoutine_none (by rw [Dev.begun_thread]; exact hws)]
  obtain ⟨h1, h2⟩ := (Commits.empty (Nat.lt_of_lt_of_le q.isLt (by decide)) hl).ends hl hi ht
  generalize ((s.dev.begun q t).routineCommitted q t).drainThread q t = y at h1 h2
  refine ⟨⟨h1.issued.1, ?_, ?_, ?_⟩, h1.issued.2⟩
  · show y.seq.ctx = _
    rw [h2]
  · show y.seq.sent = _
    rw [h2]
  · unfold Dev.issued Dev.modSeq
    rw [h2]

/-- A routine that wrote one word and sends one token commits; it ends when the token may go. -/
theorem gives_commit_one {c i : Nat} {v : Word} {k : Nat} {ws : List Word} (harm : s.dev.flag F.SEQ_INJECT_ARM = false) (hws : (s.dev.thread q t).writes = [(c, i, v)]) (hc : c < seqContexts q)
    (hs : sramRead f.ctx = .ok) (ht : (s.dev.thread q t).toks = [.send k ws]) : let x := s.dev.thread q t
    Gives (.uwordCommit q t f) s fun d => (d.ctxWord q c i = v ∧
      (∀ n : Nat, n ≠ (4096 * q.val + c) * 32 + i → d.seq.ctx.get (fun _ => 0) n = s.dev.seq.ctx.get (fun _ => 0) n) ∧ d.counter .seq (4 * q.val + 1) = s.dev.counter .seq (4 * q.val + 1) + 1 ∧
      (s.dev.tokGoes q (.send k ws) = true → d.thread q t = { run := x.run + 1 } ∧ d.seq.sent = s.dev.seq.sent ++ [(q.val, .send k ws)]) ∧
      (s.dev.tokGoes q (.send k ws) = false → d.thread q t = { x with writes := [], draining := true, locked := false, waiting := none } ∧ d.seq.sent = s.dev.seq.sent) ∧
      d = { s.dev with seq := d.seq, cnt := d.cnt, pools := d.pools }) ∧ Issued s.dev d q t := by
  intro x
  refine gives_commit hF hw ha hio hm ?_
  rw [Dev.commitRoutine_one (by rw [Dev.begun_thread]; exact hws) hs]
  have hcm := Commits.one (t := t) (Nat.lt_of_lt_of_le q.isLt (by decide)) hl hc harm i v
  generalize ((s.dev.begun q t).setCtxWord q c i v).routineCommitted q t = e at hcm
  cases hg : s.dev.tokGoes q (.send k ws) with
  | true =>
    obtain ⟨h1, h2⟩ := hcm.sends hl hi ht hg
    generalize e.drainThread q t = y at h1 h2
    obtain ⟨hv, hn, hc⟩ := hcm.shows (y := y.issued q t) (show y.seq.ctx = _ by rw [h2]) (show y.cnt = _ by rw [h2])
    refine ⟨⟨hv, hn, hc, fun _ => ⟨h1.issued.1, show y.seq.sent = _ by rw [h2]⟩, fun h => absurd h (by decide), ?_⟩, h1.issued.2⟩
    unfold Dev.issued Dev.modSeq
    rw [h2]
  | false =>
    obtain ⟨h1, h2⟩ := hcm.waits ht hg
    generalize e.drainThread q t = y at h1 h2
    obtain ⟨hv, hn, hc⟩ := hcm.shows (y := y.issued q t) (show y.seq.ctx = _ by rw [h2]) (show y.cnt = _ by rw [h2])
    refine ⟨⟨hv, hn, hc, fun h => absurd h (by decide), fun _ => ⟨h1.issued.1, show y.seq.sent = _ by rw [h2]⟩, ?_⟩, h1.issued.2⟩
    unfold Dev.issued Dev.modSeq
    rw [h2]
end

/-! ### Words that move their thread alone -/

/-- A word whose IO is neither SENDQ nor CSR_RD needs no credit. -/
theorem io_ready {d : Dev} {q : Nat} {w : BitVec 128} {n : Nat} (hio : (uword w).io = n) (hn : n ≠ 1 ∧ n ≠ 4) : d.ioReady q (uword w) = true := Dev.ioReady_of _ _ (hio ▸ hn)

section
variable {s : State} {q : Fin 8} {t : Fin 32} {f : Fetch} {w : BitVec 128} (hF : Fetches s.dev q t f w) (hw : (uword w).wmode = 0) (ha : (uword w).alu = 0)
  (hm : (uword w).mark = 0) (hf : (uword w).flow = 0)
include hF hw ha hm hf

/-- RECV takes the first response into the registers (R421). -/
theorem gives_recv (hio : (uword w).io = 3) {ws : List Word} {r : List (List Word)} : let x := s.dev.thread q t
    x.resp = ws :: r → Gives (.uwordRecv q t f) s fun d => ((d.thread q t).resp = r ∧ (d.thread q t).pc = (x.pc + 1) % 65536 ∧ (d.thread q t).toks = x.toks ∧ (d.thread q t).writes = x.writes ∧
      (∀ i, i < 32 → (d.thread q t).reg i = if 1 ≤ i ∧ (uword w).ioreg ≤ i ∧ i < (uword w).ioreg + ws.length then ws.getD (i - (uword w).ioreg) 0 else x.reg i) ∧
      d = { s.dev with seq := { s.dev.seq with threads := d.seq.threads, turn := d.seq.turn }, cnt := d.cnt }) ∧ Issued s.dev d q t := by
  intro x hr
  have hstep := (s.dev.begun q t).ioStep_recv q t hio (ws := ws) (r := r) (by rw [Dev.begun_thread]; exact hr)
  obtain ⟨h1, h2, h3, h4, h5⟩ := ThreadS.setRegs_spec (s.dev.begun q t).now { (s.dev.begun q t).thread q t with resp := r } (uword w).ioreg ws
  refine (gives_own (exec_uwordRecv q t f s) hF hw ha (beq_iff_eq.2 hio) (io_ready hio (by decide)) hm hf hstep).mono ?_
  rintro d ⟨⟨hd, hfr⟩, hI⟩
  rw [Dev.begun_thread] at h1 h2 h3 h4 h5 hd
  rw [hd]
  refine ⟨⟨h2, ?_, h3, h4, h5, hfr⟩, hI⟩
  exact congrArg (fun n => (n + 1) % 65536) h1

/-- SEND and CSR_WR put their token into the outbox (R421). -/
theorem gives_token {c : Instr} {kind : UWord → Bool} (he : exec c s = s.doesIn 1 fun d => d.uword q t f kind) (hk : kind (uword w) = true) (hr : s.dev.ioReady q (uword w) = true) {k : OutTok}
    (hs : (s.dev.begun q t).ioStep q t (uword w) = (s.dev.begun q t).addTok q t k) : let x := s.dev.thread q t
    (x.toks.length < 8 → Gives c s fun d => (d.thread q t = { x with toks := x.toks ++ [k], pc := (x.pc + 1) % 65536, waiting := none } ∧
      d = { s.dev with seq := { s.dev.seq with threads := d.seq.threads, turn := d.seq.turn }, cnt := d.cnt }) ∧ Issued s.dev d q t) ∧
    (8 ≤ x.toks.length → x.restarts < 2 → Gives c s fun d => FaultRestarted s.dev d q t) := by
  intro x
  refine ⟨fun hl => ?_, fun hl hx => ?_⟩
  · exact gives_own he hF hw ha hk hr hm hf (hs.trans (Dev.begun_addTok hl))
  · exact gives_fault he hF hw ha hk hr (hs.trans (Dev.begun_addTok_full hl)) hx
end

/-- Settles O46, word by word: each word is reduced to its IO step and its MARK, and the thread, the locks and the outbox follow. -/
theorem microwordsSendReceiveAndCommit : Obligations.MicrowordsSendReceiveAndCommit := by
  unfold Obligations.MicrowordsSendReceiveAndCommit
  intro s q t f w hF x u next e0 step becomes faults hw ha hf
  refine ⟨fun hm => ⟨fun hio => ⟨gives_sendq_waits hF hw ha hio, fun hg => ?_⟩, fun hio => ?_, fun hio => ?_, fun hio => ?_, fun hio => ?_, fun ws r hio => gives_recv hF hw ha hm hf hio,
    fun hio hr => ?_, fun hio => ⟨gives_csrRd_waits hF hw ha hio, gives_csrRd hF hw ha hf hm hio⟩, fun hio => gives_lock_fault hF hw ha hio,
    fun hio hl hk => gives_lock_ctx hF hw ha hio hm hf hl hk, fun hio hl hk hi => ⟨gives_lock_free hF hw ha hio hm hf hl hk hi, gives_lock_held hF hw ha hio hm hf hl hk hi⟩⟩,
    fun hio hl => ⟨fun c i v k ws hm harm hws hc hs ht hi => gives_commit_one hF hw ha hio hl hm hi harm hws hc hs ht,
      fun hm hws ht hi => gives_commit_empty hF hw ha hio hl hm hi hws ht, gives_drop hF hw ha hio hl⟩⟩
  · exact gives_sendq hF hw ha hf hm hio hg
  · exact (gives_token hF hw ha hm hf (exec_uwordSend q t f s) (beq_iff_eq.2 hio) (io_ready hio (by decide)) ((Dev.ioStep_send _ _ _ hio).trans (by rw [Dev.begun_payload]))).1
  · exact (gives_token hF hw ha hm hf (exec_uwordSend q t f s) (beq_iff_eq.2 hio) (io_ready hio (by decide)) ((Dev.ioStep_send _ _ _ hio).trans rfl)).2
  · exact (gives_token hF hw ha hm hf (exec_uwordCsrWr q t f s) (beq_iff_eq.2 hio) (io_ready hio (by decide)) ((Dev.ioStep_csrWr _ _ _ hio).trans (by rw [Dev.begun_reg, Dev.begun_reg]))).1
  · exact (gives_token hF hw ha hm hf (exec_uwordCsrWr q t f s) (beq_iff_eq.2 hio) (io_ready hio (by decide)) ((Dev.ioStep_csrWr _ _ _ hio).trans rfl)).2
  · have hstep := (s.dev.begun q t).ioStep_recv_none q t hio (by rw [Dev.begun_thread]; exact hr)
    exact ⟨gives_fault (exec_uwordRecv q t f s) hF hw ha (beq_iff_eq.2 hio) (io_ready hio (by decide)) hstep,
      gives_halt (exec_uwordRecv q t f s) hF hw ha (beq_iff_eq.2 hio) (io_ready hio (by decide)) hstep⟩

end Sys2Proof.Machine
end

section
/-! SUPPORT. I/O commands: what they share (R329, R470, R486), and reads (R30, R334). -/
namespace Sys2Proof.Machine

/-! ### What every I/O command shares -/

/-- A host command that needs an image and an operational state. -/
def IsIo (t : Tag) (i : Instr) : Prop := ∃ f : Dev → Dev, ∀ s, exec i s = s.doesIn 1 fun d => d.io t f

/-- An I/O command on a namespace. -/
def IsIoNs (t : Tag) (nsid : Nat) (i : Instr) : Prop := ∃ f : Dev → Ns → Dev, ∀ s, exec i s = s.doesIn 1 fun d => d.io t fun d => d.ioNs t nsid (f d)

theorem IsIoNs.isIo {t : Tag} {nsid : Nat} {i : Instr} (h : IsIoNs t nsid i) : IsIo t i := by
  obtain ⟨f, hf⟩ := h
  exact ⟨_, hf⟩

section
variable (t : Tag) (w : Word) (x : BitVec 64) (y : BitVec 16) (fua all part : Bool) (segs : List (Nat × Nat)) (buf : Nat) (opt : Byte) (len : Word)

theorem isIoNs_commands : ∀ i ∈ [Instr.nvmRead t w x y segs, .nvmWrite t w x y fua segs buf, .writeZeroes t w x y fua, .zoneAppend t w x y fua segs buf, .zoneClose t w x all, .zoneOpen t w x all,
    .zoneReset t w x all, .zoneFinish t w x all, .zoneOffline t w, .reportZones t w x opt part len], IsIoNs t w.toNat i := by
  simp only [List.forall_mem_cons]
  exact ⟨⟨_, fun _ => rfl⟩, ⟨_, fun _ => rfl⟩, ⟨_, fun _ => rfl⟩, ⟨_, fun _ => rfl⟩, ⟨_, fun _ => rfl⟩, ⟨_, fun _ => rfl⟩, ⟨_, fun _ => rfl⟩, ⟨_, fun _ => rfl⟩, ⟨_, fun _ => rfl⟩,
    ⟨_, fun _ => rfl⟩, fun _ h => absurd h List.not_mem_nil⟩

theorem isIo_others : ∀ i ∈ [Instr.nvmFlush t w, .setZoneDescExt t, .extendedReportZones t], IsIo t i := by
  simp only [List.forall_mem_cons]
  exact ⟨⟨_, fun _ => rfl⟩, ⟨_, fun _ => rfl⟩, ⟨_, fun _ => rfl⟩, fun _ h => absurd h List.not_mem_nil⟩

/-- What a Flush does where it may act: for the cached sectors that satisfy a test. -/
def Dev.flushFor (t : Tag) (nsid : Nat) (d : Dev) (p : CacheSec → Bool) : Dev :=
  let covered (c : CacheSec) : Bool := p c && !d.inWrite c
  let need := (d.zne.cache.filter covered).map fun c => secKey c.nsid c.lba
  let d := d.releaseHeld covered
  let d : Dev := d.zne.nss.foldl (fun (d : Dev) n => (List.range n.zones).foldl (fun (d : Dev) z =>
    if (d.zctx (n.ctx + z)).held then d.syncZone n z else d) d) d
  if need = [] then d.finish t stOk
  else d.putCmd { tag := t, kind := .flush, nsid := nsid, need := need, committed := true, started := d.now }

theorem exec_nvmFlush (s : State) : exec (.nvmFlush t w) s = s.doesIn 1 fun d => d.io t fun d =>
    if w.toNat = 0xFFFFFFFF then (if d.flag F.BUF_STAT_READY then d.flushFor t w.toNat fun _ => true else d.finish t (stNotReady false))
    else d.ioNs t w.toNat fun n => d.flushFor t w.toNat fun c => decide (c.nsid = n.nsid) := rfl
end

section
variable {d : Dev} {t : Tag} {f : Dev → Dev}

theorem Dev.io_minimal (h : d.load.minimal = true) : d.io t f = d.finish t stSequence := Dev.host_minimal h _ _

theorem Dev.io_waits (h : d.load.minimal = false) (hp : 2 ≤ d.pstate) : d.io t f = (d.modCtrl t.ctrl fun x => { x with psVote := x.lastOp }).voted d :=
  (Dev.host_loaded h _ _ _).trans (if_pos hp)

theorem Dev.io_acts (h : d.load.minimal = false) (hp : d.pstate < 2) : d.io t f = f d := (Dev.host_loaded h _ _ _).trans (if_neg (Nat.not_le.2 hp))

variable {nsid : Nat} {g : Ns → Dev} {n : Ns}

theorem Dev.ioNs_none (h : d.ns? nsid = none) : d.ioNs t nsid g = d.finish t stInvalidNs := by unfold Dev.ioNs; rw [h]

theorem Dev.ioNs_detached (h : d.ns? nsid = some n) (ha : n.attached t.ctrl = false) : d.ioNs t nsid g = d.finish t stInvalidNs := by
  unfold Dev.ioNs
  rw [h]
  exact if_pos (by rw [ha]; rfl)

theorem Dev.ioNs_unusable (h : d.ns? nsid = some n) (ha : n.attached t.ctrl = true) (hk : n.key = .unusable) : d.ioNs t nsid g = d.finish t (stNotReady true) := by
  unfold Dev.ioNs
  rw [h]
  exact (if_neg (by rw [ha]; decide)).trans (if_pos hk)

theorem Dev.ioNs_notReady (h : d.ns? nsid = some n) (ha : n.attached t.ctrl = true) (hk : n.key ≠ .unusable) (hr : d.flag F.BUF_STAT_READY = false ∨ d.flag F.ZNE_STAT_READY = false) :
    d.ioNs t nsid g = d.finish t (stNotReady false) := by
  unfold Dev.ioNs
  rw [h]
  exact (if_neg (by rw [ha]; decide)).trans ((if_neg hk).trans (if_pos (by simpa using hr)))

theorem IoReady.ioNs (h : IoReady d t nsid n) : d.ioNs t nsid g = g n := by
  obtain ⟨-, -, -, hn, ha, hk, hb, hz⟩ := h
  unfold Dev.ioNs
  rw [hn]
  exact (if_neg (by rw [ha]; decide)).trans ((if_neg hk).trans (if_neg (by rw [hb, hz]; decide)))

theorem IoReady.io (h : IoReady d t nsid n) : d.io t f = f d := Dev.io_acts h.2.1 h.2.2.1
end

/-- A command that waits for an operational state returns the vote of its controller to the last one (R486). -/
theorem gives_io_waits {s : State} {t : Tag} {i : Instr} (h : IsIo t i) (hk : s.dev.live 1 = true) (hl : s.dev.load.minimal = false) (hp : 2 ≤ s.dev.pstate) :
    Gives i s fun d => (d.ctrl t.ctrl).psVote = (s.dev.ctrl t.ctrl).lastOp ∧ d.hst.post = s.dev.hst.post ∧ d = { s.dev with hst := d.hst, pwr := d.pwr, regs := d.regs } := by
  obtain ⟨f, hf⟩ := h
  have hm := s.dev.modCtrl_frame t.ctrl fun x => { x with psVote := x.lastOp }
  have hc := s.dev.ctrl_modCtrl t.ctrl fun x => { x with psVote := x.lastOp }
  have hp' : (s.dev.modCtrl t.ctrl fun x => { x with psVote := x.lastOp }).hst.post = s.dev.hst.post := by
    unfold Dev.modCtrl Dev.setCtrl; split <;> rfl
  refine gives_of_eq (hf s) hk (Dev.io_waits hl hp) ?_
  generalize s.dev.modCtrl t.ctrl _ = e at hm hc hp'
  have hv := e.voted_frame s.dev
  generalize e.voted s.dev = y at hv
  have hh : y.hst = e.hst := by rw [hv]
  refine ⟨?_, ?_, ?_⟩
  · have : y.ctrl t.ctrl = e.ctrl t.ctrl := by unfold Dev.ctrl; rw [hh]
    rw [this, hc]
  · rw [hh, hp']
  · rw [hv, hm]

/-! ### Reads (R30, R334) -/

/-- The record of a read that waits for the sectors of `need`. -/
def readCmd (t : Tag) (nsid slba nlb started : Nat) (segs : List (Nat × Nat)) (need : List Nat) : CmdRec :=
  { tag := t, kind := .read, nsid := nsid, slba := slba, nlb := nlb, segs := segs, started := started, need := need }

/-- A sector of a read from its source. -/
def Dev.readSector (c : CmdRec) (d : Dev) (p : Nat × Source) : Dev :=
  match p.2 with
  | .zeros => d.sendData c.tag (List.replicate 4096 0)
  | .cache s => d.csqPost (csqOf c.tag.sq) c p.1 (s.addr / 128)
  | .media => d

/-- The sectors of a read, with their sources. -/
def Dev.readSrc (d : Dev) (n : Ns) (slba nlb : Nat) : List (Nat × Source) := (List.range nlb).map fun i => (slba + i, d.sourceOf n (slba + i))

/-- The offsets of a read's sectors that lie on the media. -/
def Dev.readMedia (d : Dev) (n : Ns) (slba nlb : Nat) : List Nat := (List.range nlb).filter fun i => d.sourceOf n (slba + i) == .media

/-- A read within the capacity of its namespace. -/
def Dev.readOf (d : Dev) (t : Tag) (slba nlb : Nat) (segs : List (Nat × Nat)) (n : Ns) : Dev :=
  let src := d.readSrc n slba nlb
  let media := (src.filter fun p => p.2 == .media).map Prod.fst
  if 512 < nlb ∨ segLines segs ≠ 32 * nlb then d.finish t stInvalidField
  else if media ≠ [] ∧ d.actuatorFailed n.reg.a then d.finish t (stUnrecovered true)
  else
    let c := readCmd t n.nsid slba nlb d.now segs (media.map fun l => secKey n.nsid l)
    (src.foldl (Dev.readSector c) (d.putCmd c)).cmdCheck t

theorem exec_nvmRead (t : Tag) (nsid : Word) (slba : BitVec 64) (nlb0 : BitVec 16) (segs : List (Nat × Nat)) (s : State) : exec (.nvmRead t nsid slba nlb0 segs) s =
    s.doesIn 1 fun d => d.io t fun d => d.ioNs t nsid.toNat fun n =>
      if n.cap < slba.toNat + (nlb0.toNat + 1) then d.finish t stRange else d.readOf t slba.toNat (nlb0.toNat + 1) segs n := by
  have h (d : Dev) (n : Ns) : d.readSrc n slba.toNat (nlb0.toNat + 1) =
      ((List.range (nlb0.toNat + 1)).map fun i => slba.toNat + i).map fun l => (l, d.sourceOf n l) := by rw [List.map_map]; rfl
  unfold Dev.readOf
  simp only [h]
  rfl

theorem Dev.readSrc_media (d : Dev) (n : Ns) (slba nlb : Nat) :
    ((d.readSrc n slba nlb).filter fun p => p.2 == .media).map Prod.fst = (d.readMedia n slba nlb).map fun i => slba + i := by
  unfold Dev.readSrc Dev.readMedia
  rw [List.filter_map, List.map_map]; rfl

section
variable {d : Dev} {t : Tag} {slba nlb : Nat} {segs : List (Nat × Nat)} {n : Ns}

theorem Dev.readOf_badList (h : 512 < nlb ∨ segLines segs ≠ 32 * nlb) : d.readOf t slba nlb segs n = d.finish t stInvalidField := if_pos h

theorem Dev.readOf_failed (h1 : nlb ≤ 512) (h2 : segLines segs = 32 * nlb) (hm : d.readMedia n slba nlb ≠ []) (ha : d.actuatorFailed n.reg.a = true) :
    d.readOf t slba nlb segs n = d.finish t (stUnrecovered true) := by
  unfold Dev.readOf
  rw [if_neg (by omega), Dev.readSrc_media]
  exact if_pos ⟨by simpa using hm, ha⟩

/-- The record of the read. -/
def Dev.readCmdOf (d : Dev) (t : Tag) (slba nlb : Nat) (segs : List (Nat × Nat)) (n : Ns) : CmdRec :=
  readCmd t n.nsid slba nlb d.now segs ((d.readMedia n slba nlb).map fun i => secKey n.nsid (slba + i))

theorem Dev.readOf_acts (h1 : nlb ≤ 512) (h2 : segLines segs = 32 * nlb) (hm : d.readMedia n slba nlb = [] ∨ d.actuatorFailed n.reg.a = false) :
    d.readOf t slba nlb segs n =
      ((d.readSrc n slba nlb).foldl (Dev.readSector (d.readCmdOf t slba nlb segs n)) (d.putCmd (d.readCmdOf t slba nlb segs n))).cmdCheck t := by
  have hn : ¬((d.readMedia n slba nlb).map (fun i => slba + i) ≠ [] ∧ d.actuatorFailed n.reg.a = true) := by
    rintro ⟨hne, ha⟩
    rcases hm with hm | hm
    · exact hne (by rw [hm]; rfl)
    · rw [hm] at ha; exact absurd ha (by decide)
  unfold Dev.readOf Dev.readCmdOf
  rw [if_neg (by omega), Dev.readSrc_media, List.map_map]
  exact if_neg hn

/-- Units join the transmit queue. -/
def Dev.sends (d : Dev) (l : List Tx) : Dev := { d with hst := { d.hst with tx := d.hst.tx ++ l } }

theorem Dev.sends_nil (d : Dev) : d.sends [] = d := by
  unfold Dev.sends
  rw [List.append_nil]

theorem Dev.sends_sends (d : Dev) (a b : List Tx) : (d.sends a).sends b = d.sends (a ++ b) := by
  unfold Dev.sends
  rw [← List.append_assoc]

theorem Dev.readSector_zeros (c : CmdRec) (d : Dev) (a : Nat) : Dev.readSector c d (a, .zeros) = d.sends [.data c.tag (List.replicate 4096 0)] := rfl

/-- Sectors that are not cached: zeros are sent at once. -/
theorem Dev.readSectors_uncached (c : CmdRec) (l : List (Nat × Source)) (hl : ∀ p ∈ l, ∀ s, p.2 ≠ .cache s) (d : Dev) : l.foldl (Dev.readSector c) d =
    d.sends (List.replicate (l.length - (l.filter fun p => p.2 == .media).length) (.data c.tag (List.replicate 4096 0))) := by
  induction l generalizing d with
  | nil => exact d.sends_nil.symm
  | cons p l ih =>
    rw [List.foldl_cons, ih fun q hq => hl q (List.mem_cons_of_mem _ hq)]
    have hle := l.length_filter_le fun p => p.2 == .media
    obtain ⟨a, src⟩ := p
    cases src with
    | zeros =>
      have hz : ((a, Source.zeros).2 == Source.media) = false := rfl
      rw [List.filter_cons_of_neg (by rw [hz]; decide), List.length_cons, Nat.succ_sub hle, Dev.readSector_zeros, Dev.sends_sends]
      rfl
    | cache s => exact absurd rfl (hl _ List.mem_cons_self s)
    | media => rw [List.filter_cons_of_pos rfl, List.length_cons, List.length_cons, Nat.succ_sub_succ]; rfl

/-- A read with nothing to wait for ends. -/
theorem Dev.cmdCheck_read {c : CmdRec} (hc : d.cmd? t = some c) (hk : c.kind = .read) (hd : c.desc = 0) (hq : c.quit = none) (hf : c.failed = none) (hw : c.dw0 = 0 ∧ c.dw1 = 0) :
    d.cmdCheck t = if c.need = [] then d.finish t stOk else d := by
  unfold Dev.cmdCheck
  simp only [hc, hd, hq, hk, hf, hw.1, hw.2]
  simp

end

/-- The end of a host command sends no data. -/
theorem Dev.finish_tx (d : Dev) (t : Tag) (st : Status) (a b : Nat) : (d.finish t st a b).hst.tx = d.hst.tx := by
  have hc (e : Dev) (c : Fin 2) (x : CtrlS) : (e.setCtrl c x).hst.tx = e.hst.tx := by unfold Dev.setCtrl; split <;> rfl
  have ha (e : Dev) (n l : Nat) : (e.addError t st n l).hst.tx = e.hst.tx := hc _ _ _
  obtain ⟨n, l, he⟩ := d.finish_eq t st a b
  rw [he]
  split
  · rfl
  · have hh (e : Dev) (p : Cpl) : (e.handOver p).hst.tx = e.hst.tx := rfl
    rw [hh]
    split
    · rfl
    · exact ha _ n l

section
variable {s : State} {t : Tag} {nsid : Word} {slba : BitVec 64} {nlb0 : BitVec 16} {segs : List (Nat × Nat)} {n : Ns} (h : IoReady s.dev t nsid.toNat n)
include h

theorem gives_read_range (hc : n.cap < slba.toNat + (nlb0.toNat + 1)) {P : Dev → Prop} (hP : P (s.dev.finish t stRange)) : Gives (.nvmRead t nsid slba nlb0 segs) s P :=
  gives_of_eq (exec_nvmRead t nsid slba nlb0 segs s) h.1 (h.io.trans (h.ioNs.trans (if_pos hc))) hP

theorem gives_read (hc : slba.toNat + (nlb0.toNat + 1) ≤ n.cap) {e : Dev} (he : s.dev.readOf t slba.toNat (nlb0.toNat + 1) segs n = e) {P : Dev → Prop} (hP : P e) :
    Gives (.nvmRead t nsid slba nlb0 segs) s P :=
  gives_of_eq (exec_nvmRead t nsid slba nlb0 segs s) h.1 (h.io.trans (h.ioNs.trans ((if_neg (Nat.not_lt.2 hc)).trans he))) hP

/-- A read of sectors that are not cached sends its zeros, and ends or waits for the media. -/
theorem gives_read_uncached (hc : slba.toNat + (nlb0.toNat + 1) ≤ n.cap) (h1 : nlb0.toNat + 1 ≤ 512) (h2 : segLines segs = 32 * (nlb0.toNat + 1))
    (hm : s.dev.readMedia n slba.toNat (nlb0.toNat + 1) = [] ∨ s.dev.actuatorFailed n.reg.a = false)
    (hu : ∀ i c, i < nlb0.toNat + 1 → s.dev.sourceOf n (slba.toNat + i) ≠ .cache c) : let media := s.dev.readMedia n slba.toNat (nlb0.toNat + 1)
    Gives (.nvmRead t nsid slba nlb0 segs) s fun d =>
      d.hst.tx = s.dev.hst.tx ++ List.replicate (nlb0.toNat + 1 - media.length) (.data t (List.replicate 4096 0)) ∧ (media = [] → Ended s.dev d t stOk) ∧
      (media ≠ [] → d.hst.post = s.dev.hst.post ∧ d.cmd? t = some { tag := t, kind := .read, nsid := n.nsid, slba := slba.toNat, nlb := nlb0.toNat + 1, segs := segs, started := s.dev.now
                                                                    need := media.map fun i => secKey n.nsid (slba.toNat + i) }) ∧ d = { s.dev with hst := d.hst, cmds := d.cmds } := by
  intro media
  have hl : (s.dev.readSrc n slba.toNat (nlb0.toNat + 1)).length = nlb0.toNat + 1 := by unfold Dev.readSrc; rw [List.length_map, List.length_range]
  have hf : ((s.dev.readSrc n slba.toNat (nlb0.toNat + 1)).filter fun p => p.2 == .media).length = media.length := by
    have := congrArg List.length (s.dev.readSrc_media n slba.toNat (nlb0.toNat + 1))
    rwa [List.length_map, List.length_map] at this
  have hun : ∀ p ∈ s.dev.readSrc n slba.toNat (nlb0.toNat + 1), ∀ c, p.2 ≠ .cache c := by
    intro p hp c
    obtain ⟨i, hi, rfl⟩ := List.mem_map.1 hp
    exact hu i c (List.mem_range.1 hi)
  have hr := s.dev.readOf_acts (t := t) (segs := segs) h1 h2 hm
  rw [Dev.readSectors_uncached _ _ hun, hl, hf] at hr
  have hneed : (s.dev.readCmdOf t slba.toNat (nlb0.toNat + 1) segs n).need = [] ↔ media = [] := List.map_eq_nil_iff
  have hcmd : (s.dev.putCmd (s.dev.readCmdOf t slba.toNat (nlb0.toNat + 1) segs n)).cmd? t = some (s.dev.readCmdOf t slba.toNat (nlb0.toNat + 1) segs n) := by
    rw [Dev.putCmd_cmd?]; exact if_pos rfl
  change _ = ((s.dev.putCmd _).sends (List.replicate (nlb0.toNat + 1 - media.length) (.data t (List.replicate 4096 0)))).cmdCheck t at hr
  generalize List.replicate (nlb0.toNat + 1 - media.length) (Tx.data t (List.replicate 4096 0)) = l at hr
  have hcmd' : ((s.dev.putCmd (s.dev.readCmdOf t slba.toNat (nlb0.toNat + 1) segs n)).sends l).cmd? t = some (s.dev.readCmdOf t slba.toNat (nlb0.toNat + 1) segs n) := hcmd
  rw [Dev.cmdCheck_read hcmd' rfl rfl rfl rfl ⟨rfl, rfl⟩] at hr
  by_cases hmed : media = []
  · rw [if_pos (hneed.2 hmed)] at hr
    refine gives_read h hc hr ⟨Dev.finish_tx _ _ _ _ _, fun _ => ?_, fun hn => absurd hmed hn, ?_⟩
    · obtain ⟨he, hp⟩ := Dev.finish_ended ((s.dev.putCmd (s.dev.readCmdOf t slba.toNat (nlb0.toNat + 1) segs n)).sends l) t stOk 0 0
      refine ⟨he, fun _ => hp fun c hc => ?_⟩
      rw [hcmd'] at hc
      rw [← Option.some.inj hc]; rfl
    · rw [Dev.finish_quiet_frame _ _ rfl]; rfl
  · rw [if_neg fun hn => hmed (hneed.1 hn)] at hr
    exact gives_read h hc hr ⟨rfl, fun hn => absurd hn hmed, fun _ => ⟨rfl, hcmd'⟩, rfl⟩
end

/-! ### Posts (R281, R282) -/

/-- A post fills the ring slot at TAIL and moves TAIL on. -/
def Dev.posted (d : Dev) (x : Nat) (c : Desc) : Dev :=
  ((d.setSlotDesc x (d.fld (F.DMA_C_TAIL_TAIL x)) { c with own := true, status := 0, done := 0 }).setFld (F.DMA_C_TAIL_TAIL x)
    ((d.fld (F.DMA_C_TAIL_TAIL x) + 1) % d.ringSize x)).bump .dma 0

section
variable {d : Dev} {seq x : Nat}

/-- A post by the owner of an open channel with a free slot. -/
theorem Dev.dmaPost_accepts (hx : x < 56) (ho : d.fld (F.DMA_C_CFG_OWNER x) = seq) (he : d.flag (F.DMA_C_CFG_EN x) = true)
    (hs : (d.slotDesc x (d.fld (F.DMA_C_TAIL_TAIL x))).own = false) (c : Desc) : d.dmaPost seq x c = d.posted x c := by
  unfold Dev.dmaPost
  dsimp only
  rw [if_neg (by omega), he, if_neg (by decide), hs, if_neg (by decide)]
  rfl

theorem Dev.posted_slot (d : Dev) (x : Nat) (c : Desc) : (d.posted x c).slotDesc x (d.fld (F.DMA_C_TAIL_TAIL x)) = { c with own := true, status := 0, done := 0 } := by
  have hi : (d.posted x c).storeIdx x (d.fld (F.DMA_C_TAIL_TAIL x)) = d.storeIdx x (d.fld (F.DMA_C_TAIL_TAIL x)) :=
    congrArg (fun o => (16 * o + d.fld (F.DMA_C_TAIL_TAIL x)) % 65536)
      (Dev.fld_setFld_addr (d.setSlotDesc x (d.fld (F.DMA_C_TAIL_TAIL x)) { c with own := true, status := 0, done := 0 }) (F.DMA_C_TAIL_TAIL x) (F.DMA_C_CFG_RING_OFS x) _
        (show 0x5001000 + 0x20 * x ≠ 0x5001008 + 0x20 * x by omega))
  unfold Dev.slotDesc
  rw [hi]
  exact Tab.get_set_same _ _ _ _

theorem Dev.posted_frame (d : Dev) (x : Nat) (c : Desc) :
    d.posted x c = { d with dma := { d.dma with store := (d.posted x c).dma.store }, regs := (d.posted x c).regs, cnt := (d.bump .dma 0).cnt } := rfl
end

/-- The descriptor of a post on behalf of a command. -/
def cmdDesc (tag : Nat) (t : Tag) (first src dst lines swin : Nat) : Desc :=
  { src := src, dst := dst, lines := lines, tag := tag, swin := swin, port := t.ctrl, cmd := some (t, first) }

/-- A command has one more descriptor out, under the next tag. -/
def Dev.oneMore (d : Dev) (t : Tag) : Dev := (d.modDma fun m => { m with nextTag := (d.dma.nextTag + 1) % 65536 }).modCmd t fun c => { c with desc := c.desc + 1 }

section
variable {d : Dev} {seq x : Nat}

theorem Dev.postFor_accepts (hp : d.poolOpen .dma seq = true) (hx : x < 56) (ho : d.fld (F.DMA_C_CFG_OWNER x) = seq) (he : d.flag (F.DMA_C_CFG_EN x) = true)
    (hs : (d.slotDesc x (d.fld (F.DMA_C_TAIL_TAIL x))).own = false) (t : Tag) (first src dst lines swin : Nat) :
    d.postFor seq x t first src dst lines swin = (d.oneMore t).posted x (cmdDesc d.dma.nextTag t first src dst lines swin) := by
  refine Eq.trans (b := (d.oneMore t).dmaPost seq x (cmdDesc d.dma.nextTag t first src dst lines swin)) ?_ (Dev.dmaPost_accepts (d := d.oneMore t) hx ho he hs _)
  unfold Dev.postFor
  exact if_neg (by rw [hp]; decide)

/-- A post on behalf of a command fills the slot at TAIL, and the command has one more descriptor out. -/
theorem Dev.postFor_spec (hp : d.poolOpen .dma seq = true) (hx : x < 56) (ho : d.fld (F.DMA_C_CFG_OWNER x) = seq) (he : d.flag (F.DMA_C_CFG_EN x) = true)
    (hs : (d.slotDesc x (d.fld (F.DMA_C_TAIL_TAIL x))).own = false) {t : Tag} {r : CmdRec} (hr : d.cmd? t = some r) (first src dst lines swin : Nat) : ∃ e : Dev,
      d.postFor seq x t first src dst lines swin = e ∧
      e.slotDesc x (d.fld (F.DMA_C_TAIL_TAIL x)) = { cmdDesc d.dma.nextTag t first src dst lines swin with own := true, status := 0, done := 0 } ∧
      e.cmd? t = some { r with desc := r.desc + 1 } ∧ e = { d with dma := e.dma, cmds := e.cmds, regs := e.regs, cnt := e.cnt } := by
  have hc : (d.oneMore t).cmd? t = some { r with desc := r.desc + 1 } := by
    refine (Dev.modCmd_cmd? (d.modDma fun m => { m with nextTag := (d.dma.nextTag + 1) % 65536 }) t (f := fun c => { c with desc := c.desc + 1 }) (fun _ => rfl) t).trans ?_
    rw [show (d.modDma fun m => { m with nextTag := (d.dma.nextTag + 1) % 65536 }).cmd? t = some r from hr]
    exact congrArg some (if_pos (Dev.cmd?_tag hr))
  have hfr := (d.oneMore t).posted_frame x (cmdDesc d.dma.nextTag t first src dst lines swin)
  have hof : d.oneMore t = { d with dma := (d.oneMore t).dma, cmds := (d.oneMore t).cmds } := rfl
  refine ⟨_, Dev.postFor_accepts hp hx ho he hs t first src dst lines swin, (d.oneMore t).posted_slot x _, ?_, ?_⟩
  · refine Eq.trans ?_ hc
    rw [hfr]; rfl
  · rw [hfr, hof]

theorem Dev.freeChan_le (d : Dev) (seq lo : Nat) : d.freeChan seq lo 2 4 ≤ lo + 6 := by
  unfold Dev.freeChan
  dsimp only
  generalize hf : List.find? _ _ = f
  cases f with
  | none => show lo ≤ lo + 6; omega
  | some x =>
    obtain ⟨i, hi, rfl⟩ := List.mem_map.1 (List.mem_of_find?_eq_some hf)
    have := List.mem_range.1 hi
    show lo + 2 * i ≤ lo + 6
    omega

/-- A whole sector is posted at once where its host address is one piece. -/
theorem Dev.postOut_one {c : CmdRec} {a : Nat} (hc : c.segs = [(a, 32)]) (lo line : Nat) :
    d.postOut seq lo 2 4 c c.slba line = d.postFor seq (d.freeChan seq lo 2 4) c.tag 0 (128 * line) a 32 0 := by
  unfold Dev.postOut
  rw [hc, Nat.sub_self]
  rfl
end

/-! ### A read of one cached sector -/

section
variable {s : State} {t : Tag} {nsid : Word} {slba : BitVec 64} {n : Ns} (h : IoReady s.dev t nsid.toNat n)
include h

/-- A read of one cached sector posts its data, and waits for the report. -/
theorem gives_read_cached (hc : slba.toNat + 1 ≤ n.cap) {a x : Nat} {c : CacheSec} (hs : s.dev.sourceOf n slba.toNat = .cache c) (hx : x = s.dev.freeChan (csqOf t.sq) (8 * csqOf t.sq) 2 4)
    (ho : s.dev.fld (F.DMA_C_CFG_OWNER x) = csqOf t.sq) (he : s.dev.flag (F.DMA_C_CFG_EN x) = true) (hf : (s.dev.slotDesc x (s.dev.fld (F.DMA_C_TAIL_TAIL x))).own = false)
    (hp : s.dev.poolOpen .dma (csqOf t.sq) = true) : Gives (.nvmRead t nsid slba 0 [(a, 32)]) s fun d => d.hst.tx = s.dev.hst.tx ∧ d.hst.post = s.dev.hst.post ∧
      (∃ q, d.slotDesc x (s.dev.fld (F.DMA_C_TAIL_TAIL x)) = q ∧ q.own = true ∧ q.src = 128 * (c.addr / 128) ∧ q.dst = a ∧ q.lines = 32) ∧
      (∃ r, d.cmd? t = some r ∧ r.kind = .read ∧ r.need = [] ∧ r.desc = 1) ∧ d = { s.dev with dma := d.dma, cmds := d.cmds, regs := d.regs, cnt := d.cnt } := by
  have hx56 : x < 56 := by
    have h1 := s.dev.freeChan_le (csqOf t.sq) (8 * csqOf t.sq)
    have h2 : csqOf t.sq < 4 := Nat.mod_lt _ (by decide)
    omega
  have hm : s.dev.readMedia n slba.toNat 1 = [] := by
    show List.filter (fun i => s.dev.sourceOf n (slba.toNat + i) == .media) [0] = []
    rw [List.filter_cons_of_neg (by rw [Nat.add_zero, hs]; simp)]; rfl
  have hsrc : s.dev.readSrc n slba.toNat 1 = [(slba.toNat, .cache c)] := by
    show [(slba.toNat + 0, s.dev.sourceOf n (slba.toNat + 0))] = _
    rw [Nat.add_zero, hs]
  have hr := s.dev.readOf_acts (t := t) (slba := slba.toNat) (nlb := 1) (segs := [(a, 32)]) (n := n) (by decide) rfl (.inl hm)
  have hrec : (s.dev.readCmdOf t slba.toNat 1 [(a, 32)] n).need = [] := by unfold Dev.readCmdOf; rw [hm]; rfl
  have hcmd : (s.dev.putCmd (s.dev.readCmdOf t slba.toNat 1 [(a, 32)] n)).cmd? t = some (s.dev.readCmdOf t slba.toNat 1 [(a, 32)] n) := by
    rw [Dev.putCmd_cmd?]; exact if_pos rfl
  generalize hrec' : s.dev.readCmdOf t slba.toNat 1 [(a, 32)] n = rec at hr hrec hcmd
  have hof : s.dev.putCmd rec = { s.dev with cmds := (s.dev.putCmd rec).cmds } := rfl
  have hkeep : (s.dev.putCmd rec).fld = s.dev.fld ∧ (s.dev.putCmd rec).flag = s.dev.flag ∧ (s.dev.putCmd rec).slotDesc = s.dev.slotDesc ∧ (s.dev.putCmd rec).freeChan = s.dev.freeChan ∧
    (s.dev.putCmd rec).poolOpen = s.dev.poolOpen := ⟨rfl, rfl, rfl, rfl, rfl⟩
  have hpo : Dev.readSector rec (s.dev.putCmd rec) (slba.toNat, .cache c) =
      (s.dev.putCmd rec).postFor (csqOf t.sq) ((s.dev.putCmd rec).freeChan (csqOf t.sq) (8 * csqOf t.sq) 2 4) t 0 (128 * (c.addr / 128)) a 32 0 := by
    rw [← hrec']
    exact Dev.postOut_one (c := s.dev.readCmdOf t slba.toNat 1 [(a, 32)] n) (a := a) rfl _ _
  have hk : rec.kind = .read ∧ rec.desc = 0 := by rw [← hrec']; exact ⟨rfl, rfl⟩
  rw [hsrc, List.foldl_cons, List.foldl_nil, hpo] at hr
  generalize s.dev.putCmd rec = y at hr hcmd hof hkeep
  obtain ⟨k1, k2, k3, k4, k5⟩ := hkeep
  rw [k4, ← hx] at hr
  obtain ⟨e, he', h1, h2, h3⟩ := Dev.postFor_spec (d := y) (by rw [k5]; exact hp) hx56 (by rw [k1]; exact ho) (by rw [k2]; exact he) (by rw [k3, k1]; exact hf) hcmd 0 (128 * (c.addr / 128)) a 32 0
  have hcheck : e.cmdCheck t = e := by
    unfold Dev.cmdCheck
    rw [h2]
    exact if_pos (Nat.succ_ne_zero _)
  rw [he', hcheck] at hr
  rw [k1] at h1
  refine gives_read h hc hr ⟨by rw [h3, hof], by rw [h3, hof], ⟨_, h1, rfl, rfl, rfl, rfl⟩, ⟨_, h2, hk.1, hrec, congrArg (· + 1) hk.2⟩, by rw [h3, hof]⟩
end

/-- A sector that is not cached, of a zone that no Finish made Full, is read as zeros at or above WP and from the media below. -/
theorem Dev.sourceOf_uncached {d : Dev} {n : Ns} {lba : Nat} (hn : d.cached n.nsid lba = none) (hz : (d.zctx (n.ctx + lba / n.zs)).finAt = none) :
    d.sourceOf n lba = if (d.zctx (n.ctx + lba / n.zs)).wp ≤ lba % n.zs then .zeros else .media := by
  unfold Dev.sourceOf
  simp only [hn, hz, Option.getD_none, Nat.min_self]

theorem isIoNs_flush {t : Tag} {w : Word} (hw : w.toNat ≠ 0xFFFFFFFF) : IsIoNs t w.toNat (.nvmFlush t w) :=
  ⟨fun d n => d.flushFor t w.toNat fun c => decide (c.nsid = n.nsid), fun s => (exec_nvmFlush t w s).trans (congrArg (fun f => s.doesIn 1 fun d => d.io t f) (funext fun _ => if_neg hw))⟩

/-- Settles O35: what I/O commands share is said once of every command; a read sends, posts or awaits each sector from its source. -/
theorem readsComeFromZerosOrMedia : Obligations.ReadsComeFromZerosOrMedia := by
  unfold Obligations.ReadsComeFromZerosOrMedia
  refine ⟨?_, ?_⟩
  · intro s t w len x y fua all part segs buf opt hk onNs fails
    have hon : ∀ i ∈ onNs, IsIoNs t w.toNat i := by
      intro i hi
      rcases List.mem_append.1 hi with hi | hi
      · exact isIoNs_commands t w x y fua all part segs buf opt len i hi
      · split at hi
        · exact absurd hi List.not_mem_nil
        · next hw => rw [List.mem_singleton.1 hi]; exact isIoNs_flush hw
    have hall : ∀ i ∈ onNs ++ [.nvmFlush t w, .setZoneDescExt t, .extendedReportZones t], IsIo t i := by
      intro i hi
      rcases List.mem_append.1 hi with hi | hi
      · exact (hon i hi).isIo
      · exact isIo_others t w i hi
    refine ⟨fun i hi => ⟨fun hl => ?_, gives_io_waits (hall i hi) hk⟩, fun hl hp i hi => ?_⟩
    · obtain ⟨f, hf⟩ := hall i hi
      exact gives_finish (hf s) hk (Dev.io_minimal hl)
    · obtain ⟨f, hf⟩ := hon i hi
      exact ⟨fun hn => gives_finish (hf s) hk ((Dev.io_acts hl hp).trans (Dev.ioNs_none hn)),
        fun n hn => ⟨fun ha => gives_finish (hf s) hk ((Dev.io_acts hl hp).trans (Dev.ioNs_detached hn ha)),
          fun ha hu => gives_finish (hf s) hk ((Dev.io_acts hl hp).trans (Dev.ioNs_unusable hn ha hu)),
          fun ha hu hr => gives_finish (hf s) hk ((Dev.io_acts hl hp).trans (Dev.ioNs_notReady hn ha hu hr))⟩⟩
  · intro s t nsid slba nlb0 segs n h nlb src wp media fails
    have ends (st : Status) : Ended s.dev (s.dev.finish t st) t st ∧ (s.dev.finish t st).hst.tx = s.dev.hst.tx ∧
        s.dev.finish t st = { s.dev with hst := (s.dev.finish t st).hst, cmds := (s.dev.finish t st).cmds, free := (s.dev.finish t st).free } :=
      ⟨Dev.finish_ended _ _ _ _ _, Dev.finish_tx _ _ _ _ _, Dev.finish_frame _ _ _ _ _⟩
    refine ⟨fun hc => gives_read_range h hc (ends _), fun hc hb => gives_read h hc (Dev.readOf_badList hb) (ends _),
      fun hc h1 h2 => ⟨fun hm ha => gives_read h hc (Dev.readOf_failed h1 h2 hm ha) (ends _), fun hm hu => gives_read_uncached h hc h1 h2 hm hu,
        fun i _ hn hz => Dev.sourceOf_uncached hn hz, ?_⟩⟩
    rintro a c x rfl rfl hs hx ho he hf hp
    exact gives_read_cached h hc hs hx ho he hf hp

end Sys2Proof.Machine
end

section
/-! SUPPORT. Flush, orders, contexts through MDC, the journal's halves and recovery (R148, R331, R344, R355 to R359). -/
namespace Sys2Proof.Machine

/-! ### Zone contexts -/

/-- From `d0` to `d` zone contexts have changed, with what shows them and what an injection in their table reports (R246, R356). -/
def CtxMoves (d0 d : Dev) : Prop := d = { d0 with zne := { d0.zne with ctx := d.zne.ctx }, regs := d.regs, mem := d.mem, log := d.log, lost := d.lost }

section
variable {d0 d : Dev}

theorem CtxMoves.refl (d : Dev) : CtxMoves d d := rfl

/-- A mended bit of ZNE is reported to LOG alone. -/
theorem Dev.sram_mended_frame (d : Dev) (m a b c : Nat) (inj : Bool) :
    d.sram .zne m (.mended a b c) inj = { d with regs := (d.sram .zne m (.mended a b c) inj).regs, mem := (d.sram .zne m (.mended a b c) inj).mem,
                                                 log := (d.sram .zne m (.mended a b c) inj).log, lost := (d.sram .zne m (.mended a b c) inj).lost } := by
  have hs : d.sram .zne m (.mended a b c) inj = (d.memError .zne m { addr := a, loc := b % 64, pattern := c }).event .zne 0xF3 a (8 * b + c) (injBit inj) m := rfl
  have hf := Dev.event_quiet_frame (d.memError .zne m { addr := a, loc := b % 64, pattern := c }) (b := .zne) (n := 0xF3) rfl a (8 * b + c) (injBit inj) m
  rw [← hs] at hf
  generalize d.sram .zne m (.mended a b c) inj = e at hf
  rw [hf]
  rfl

theorem CtxMoves.setZctx {i : Nat} {c : ZCtx} (h : CtxMoves d0 d) : CtxMoves d0 (d.setZctx i c) := by
  unfold CtxMoves at h ⊢
  unfold Dev.setZctx
  dsimp only
  split
  · rw [Dev.sram_mended_frame]
    rw [h]; rfl
  · rw [h]; rfl

theorem CtxMoves.syncZone {n : Ns} {z : Nat} (h : CtxMoves d0 d) : CtxMoves d0 (d.syncZone n z) := .setZctx h

theorem CtxMoves.foldl {α : Type} {f : Dev → α → Dev} (hf : ∀ d a, CtxMoves d0 d → CtxMoves d0 (f d a)) {l : List α} (h : CtxMoves d0 d) : CtxMoves d0 (l.foldl f d) := by
  induction l generalizing d with
  | nil => exact h
  | cons a l ih => exact ih (hf d a h)

theorem CtxMoves.ite {p : Prop} [Decidable p] {a b : Dev} (ha : CtxMoves d0 a) (hb : CtxMoves d0 b) : CtxMoves d0 (if p then a else b) := by split <;> assumption
end

/-! ### Flush (R148, R344) -/

/-- The cached sectors that a Flush covers: those of completed writes that satisfy a test. -/
def Dev.flushes (d : Dev) (p : CacheSec → Bool) (c : CacheSec) : Bool := p c && !d.inWrite c

/-- The zones with held sectors that a Flush gives a fresh try. -/
def Dev.freshTry (d : Dev) : Dev :=
  d.zne.nss.foldl (fun (d : Dev) n => (List.range n.zones).foldl (fun (d : Dev) z => if (d.zctx (n.ctx + z)).held then d.syncZone n z else d) d) d

theorem Dev.freshTry_moves (d : Dev) : CtxMoves d d.freshTry :=
  .foldl (fun _ _ h => .foldl (fun _ _ h => .ite (.syncZone h) h) h) (.refl d)

/-- The record of a Flush that waits for the sectors of `need`. -/
def flushCmd (t : Tag) (nsid started : Nat) (need : List Nat) : CmdRec := { tag := t, kind := .flush, nsid := nsid, need := need, committed := true, started := started }

theorem flushCmd_need (t : Tag) (nsid started : Nat) (need : List Nat) : (flushCmd t nsid started need).need = need := rfl

theorem Dev.flushFor_eq (d : Dev) (t : Tag) (nsid : Nat) (p : CacheSec → Bool) : d.flushFor t nsid p =
    if (d.zne.cache.filter (d.flushes p)).map (fun c => secKey c.nsid c.lba) = [] then (d.releaseHeld (d.flushes p)).freshTry.finish t stOk
    else (d.releaseHeld (d.flushes p)).freshTry.putCmd
      (flushCmd t nsid (d.releaseHeld (d.flushes p)).freshTry.now ((d.zne.cache.filter (d.flushes p)).map fun c => secKey c.nsid c.lba)) := rfl

/-- A Flush that may act covers what it covers, and gives held sectors a fresh try. -/
theorem Dev.flushFor_spec (d : Dev) (t : Tag) (nsid : Nat) (p : CacheSec → Bool) : let e := d.flushFor t nsid p
    ((∀ c ∈ d.zne.cache, d.flushes p c = false) → Ended d e t stOk) ∧
    ((∃ c ∈ d.zne.cache, d.flushes p c = true) → ∃ r, e.cmd? t = some r ∧ r.kind = .flush ∧ ∀ k, k ∈ r.need ↔ ∃ c ∈ d.zne.cache, d.flushes p c = true ∧ k = secKey c.nsid c.lba) ∧
    e.zne.cache = d.zne.cache.map (fun c => if c.held && d.flushes p c then { c with held := false, order := none } else c) ∧
    e = { d with hst := e.hst, cmds := e.cmds, zne := { d.zne with cache := e.zne.cache, ctx := e.zne.ctx }, regs := e.regs, mem := e.mem, log := e.log, lost := e.lost } := by
  intro e
  have hmoves : CtxMoves (d.releaseHeld (d.flushes p)) (d.releaseHeld (d.flushes p)).freshTry := Dev.freshTry_moves _
  have he : e = _ := d.flushFor_eq t nsid p
  generalize (d.releaseHeld (d.flushes p)).freshTry = y at hmoves he
  have hrel : (d.releaseHeld (d.flushes p)) =
    { d with zne := { d.zne with cache := d.zne.cache.map fun c => if c.held && d.flushes p c then { c with held := false, order := none } else c } } := rfl
  rw [CtxMoves, hrel] at hmoves
  have hcmd : y.cmds = d.cmds := by rw [hmoves]
  have hpost : y.hst = d.hst := by rw [hmoves]
  have hcache : y.zne.cache = d.zne.cache.map (fun c => if c.held && d.flushes p c then { c with held := false, order := none } else c) := by rw [hmoves]
  have hnil : (d.zne.cache.filter (d.flushes p)).map (fun c => secKey c.nsid c.lba) = [] ↔ ∀ c ∈ d.zne.cache, d.flushes p c = false := by
    rw [List.map_eq_nil_iff, List.filter_eq_nil_iff]
    exact forall₂_congr fun c _ => by rw [Bool.not_eq_true]
  by_cases hn : ∀ c ∈ d.zne.cache, d.flushes p c = false
  · rw [if_pos (hnil.2 hn)] at he
    have hfr := Dev.finish_quiet_frame y t (st := stOk) rfl 0 0
    rw [← he] at hfr
    have hend := Dev.finish_ended y t stOk 0 0
    rw [← he] at hend
    refine ⟨fun _ => ⟨hend.1, fun hs => ?_⟩, fun ⟨c, hc, hf⟩ => absurd (hn c hc) (by rw [hf]; decide), ?_, ?_⟩
    · rw [← hpost]
      exact hend.2 fun c hc => hs c (by unfold Dev.cmd? at hc ⊢; rwa [hcmd] at hc)
    · rw [hfr]; exact hcache
    · rw [hfr, hmoves]
  · rw [if_neg fun h => hn (hnil.1 h)] at he
    have hr := y.putCmd_cmd? (flushCmd t nsid y.now ((d.zne.cache.filter (d.flushes p)).map fun c => secKey c.nsid c.lba)) t
    rw [← he, if_pos (show t = (flushCmd t nsid y.now _).tag from rfl)] at hr
    refine ⟨fun h => absurd h hn, fun _ => ⟨_, hr, rfl, fun k => ?_⟩, ?_, ?_⟩
    · rw [flushCmd_need, List.mem_map]
      exact ⟨fun ⟨c, hc, hk⟩ => ⟨c, (List.mem_filter.1 hc).1, (List.mem_filter.1 hc).2, hk.symm⟩, fun ⟨c, h1, h2, hk⟩ => ⟨c, List.mem_filter.2 ⟨h1, h2⟩, hk.symm⟩⟩
    · rw [he]; exact hcache
    · rw [he, hmoves]; rfl

/-! ### Orders (R16, R35) -/

/-- The pool of CSQ `csq` at MSQa. -/
def MediaOrder.pool (o : MediaOrder) : Nat := 4 + 2 * o.csq + o.a

/-- An order may be placed: its pool is not fenced, and its CSQ holds a credit. -/
def Dev.orderGoes (d : Dev) (j : Nat) : Prop := d.flag (fFENCED .seq j) = false ∧ 0 < (d.pool .seq j).held

theorem Dev.placeOrder_waits {d : Dev} {o : MediaOrder} (h : ¬d.orderGoes o.pool) : d.placeOrder o = d := by
  unfold Dev.placeOrder
  refine if_pos ?_
  unfold Dev.orderGoes at h
  cases hf : d.flag (fFENCED .seq o.pool) with
  | true => exact .inr hf
  | false => exact .inl (Nat.eq_zero_of_not_pos fun hp => h ⟨hf, hp⟩)

/-- An order placed takes a credit and the next number. -/
theorem Dev.placeOrder_goes {d : Dev} {o : MediaOrder} (h : d.orderGoes o.pool) : ∃ e : Dev, d.placeOrder o = e ∧ e.msq.orders = d.msq.orders ++ [{ o with id := d.msq.nextId }] ∧
    (e.pool .seq o.pool).held + 1 = (d.pool .seq o.pool).held ∧ e = { d with msq := e.msq, pools := e.pools } := by
  obtain ⟨hf, hp⟩ := h
  have he : d.placeOrder o = { d.setPool .seq o.pool { d.pool .seq o.pool with held := (d.pool .seq o.pool).held - 1, busy := (d.pool .seq o.pool).busy + 1 } with
      msq := { d.msq with orders := d.msq.orders ++ [{ o with id := d.msq.nextId }], nextId := d.msq.nextId + 1 } } := by
    unfold Dev.placeOrder
    refine if_neg ?_
    rintro (h | h)
    · exact absurd h (Nat.ne_of_gt hp)
    · exact absurd (hf.symm.trans h) (by decide)
  refine ⟨_, he, rfl, ?_, rfl⟩
  refine Eq.trans ?_ (Nat.sub_add_cancel hp)
  exact congrArg (fun p : PoolS => p.held + 1) (Dev.pool_setPool_same d .seq o.pool _)

/-- What is done on a namespace that exists. -/
def Dev.onNs (d : Dev) (nsid : Nat) (f : Ns → Dev) : Dev :=
  match d.ns? nsid with
  | none => d
  | some x => f x

theorem Dev.onNs_none {d : Dev} {nsid : Nat} (h : d.ns? nsid = none) (f : Ns → Dev) : d.onNs nsid f = d := by unfold Dev.onNs; rw [h]

theorem Dev.onNs_some {d : Dev} {nsid : Nat} {x : Ns} (h : d.ns? nsid = some x) (f : Ns → Dev) : d.onNs nsid f = f x := by unfold Dev.onNs; rw [h]

/-- The sectors of a run that a destage order is for. -/
def inRun (nsid slba n : Nat) (c : CacheSec) : Bool := decide (c.nsid = nsid ∧ slba ≤ c.lba ∧ c.lba < slba + n)

/-- A sector may be destaged: it is in the cache with all its data, and no order holds it. -/
def Dev.destageable (d : Dev) (nsid lba : Nat) : Bool :=
  match d.cached nsid lba with
  | some c => decide (c.lines = 32) && c.order.isNone && !c.held
  | none => false

theorem Dev.destageable_iff (d : Dev) (nsid lba : Nat) : d.destageable nsid lba = true ↔ ∃ c, d.cached nsid lba = some c ∧ c.lines = 32 ∧ c.order = none ∧ c.held = false := by
  unfold Dev.destageable
  cases d.cached nsid lba <;> simp [and_assoc]

/-- A destage order for a run whose sectors may be destaged. -/
def Dev.destage (d : Dev) (nsid slba n : Nat) (o : MediaOrder) : Dev :=
  if d.placeOrder o = d then d.placeOrder o else (d.placeOrder o).mapCache (inRun nsid slba n) fun c => { c with order := some d.msq.nextId }

theorem exec_destageOrder (q : Fin 4) (nsid : Word) (slba : BitVec 64) (n : Nat) (s : State) : exec (.destageOrder q nsid slba n) s = s.doesIn 1 fun d =>
    d.onNs nsid.toNat fun x => if n = 0 ∨ !((List.range n).all fun i => d.destageable x.nsid (slba.toNat + i)) then d
      else d.destage x.nsid slba.toNat n { a := x.reg.a, cmd := none, nsid := x.nsid, slba := slba.toNat, n := n, write := true, csq := q.val } := rfl

/-- A sector is awaited by a command's read, or by one of the ring. -/
def Dev.mediaWanted (d : Dev) (t : Option Tag) (nsid lba : Nat) : Bool :=
  match t with
  | some t => match d.cmd? t with | some c => c.awaitsRead (secKey nsid lba) | none => false
  | none => d.ringAwaits nsid lba

/-- The CSQ of a read order. -/
def readCsq (t : Option Tag) (nsid : Nat) : Nat := match t with | some t => csqOf t.sq | none => nsxOf nsid % 4

theorem exec_mediaOrder (t : Option Tag) (q : Fin 4) (nsid : Word) (slba : BitVec 64) (n : Nat) (s : State) : exec (.mediaOrder t q nsid slba n) s = s.doesIn 1 fun d =>
    d.onNs nsid.toNat fun x => if n = 0 ∨ !((List.range n).all fun i => d.mediaWanted t x.nsid (slba.toNat + i)) then d
      else d.placeOrder { a := x.reg.a, cmd := t, nsid := x.nsid, slba := slba.toNat, n := n, csq := readCsq t x.nsid } := rfl

theorem Dev.mediaWanted_some (d : Dev) (t : Tag) (nsid lba : Nat) : d.mediaWanted (some t) nsid lba = true ↔ ∃ r, d.cmd? t = some r ∧ r.kind = .read ∧ secKey nsid lba ∈ r.need := by
  unfold Dev.mediaWanted CmdRec.awaitsRead
  dsimp only
  generalize d.cmd? t = r
  cases r <;> simp

section
variable {s : State} {q : Fin 4} {nsid : Word} {slba : BitVec 64} {n : Nat} (hk : s.dev.live 1 = true)
include hk

theorem gives_order_none (hn : s.dev.ns? nsid.toNat = none) : Gives (.destageOrder q nsid slba n) s (fun d => d = s.dev) ∧ ∀ o, Gives (.mediaOrder o q nsid slba n) s fun d => d = s.dev :=
  ⟨gives_of_eq (exec_destageOrder q nsid slba n s) hk (Dev.onNs_none hn _) rfl, fun o => gives_of_eq (exec_mediaOrder o q nsid slba n s) hk (Dev.onNs_none hn _) rfl⟩

variable {x : Ns} (hn : s.dev.ns? nsid.toNat = some x)
include hn

/-- A destage order waits for a credit, and for its sectors. -/
theorem gives_destage_waits (h : ¬(n ≠ 0 ∧ (∀ i, i < n → s.dev.destageable x.nsid (slba.toNat + i) = true) ∧ s.dev.orderGoes (4 + 2 * q.val + x.reg.a))) :
    Gives (.destageOrder q nsid slba n) s fun d => d = s.dev := by
  refine gives_of_eq (exec_destageOrder q nsid slba n s) hk ((Dev.onNs_some hn _).trans (ite_eq_left_iff.2 fun hnot => ?_)) rfl
  have hw : ¬s.dev.orderGoes (4 + 2 * q.val + x.reg.a) := fun hg => h ⟨fun h0 => hnot (.inl h0), fun i hi => by
    simp only [not_or, Bool.not_eq_true, Bool.not_eq_false', List.all_eq_true, List.mem_range] at hnot
    exact hnot.2 i hi, hg⟩
  exact (if_pos (Dev.placeOrder_waits (o := { a := x.reg.a, cmd := none, nsid := x.nsid, slba := slba.toNat, n := n, write := true, csq := q.val }) hw)).trans
    (Dev.placeOrder_waits (o := { a := x.reg.a, cmd := none, nsid := x.nsid, slba := slba.toNat, n := n, write := true, csq := q.val }) hw)

/-- A destage order is placed, and holds its sectors. -/
theorem gives_destage (h0 : n ≠ 0) (hs : ∀ i, i < n → s.dev.destageable x.nsid (slba.toNat + i) = true) (hg : s.dev.orderGoes (4 + 2 * q.val + x.reg.a)) :
    Gives (.destageOrder q nsid slba n) s fun d =>
      d.msq.orders = s.dev.msq.orders ++ [{ a := x.reg.a, cmd := none, nsid := x.nsid, slba := slba.toNat, n := n, write := true, csq := q.val, id := s.dev.msq.nextId }] ∧
      (d.pool .seq (4 + 2 * q.val + x.reg.a)).held + 1 = (s.dev.pool .seq (4 + 2 * q.val + x.reg.a)).held ∧
      (∀ c ∈ d.zne.cache, c.nsid = x.nsid → slba.toNat ≤ c.lba → c.lba < slba.toNat + n → c.order = some s.dev.msq.nextId) ∧
      d = { s.dev with msq := d.msq, pools := d.pools, zne := { s.dev.zne with cache := d.zne.cache } } := by
  obtain ⟨e, he, ho, hp, hf⟩ := Dev.placeOrder_goes (o := { a := x.reg.a, cmd := none, nsid := x.nsid, slba := slba.toNat, n := n, write := true, csq := q.val }) hg
  have hne : e ≠ s.dev := fun h => by
    rw [h] at ho
    exact absurd (congrArg List.length ho) (by simp)
  refine gives_of_eq (exec_destageOrder q nsid slba n s) hk ((Dev.onNs_some hn _).trans ((if_neg ?_).trans ?_)) (e := e.mapCache (inRun x.nsid slba.toNat n) fun c => { c with order := some s.dev.msq.nextId })
    ⟨ho, hp, fun c hc h1 h2 h3 => ?_, by rw [hf]; rfl⟩
  · simp only [not_or, Bool.not_eq_true, Bool.not_eq_false', List.all_eq_true, List.mem_range]
    exact ⟨h0, hs⟩
  · unfold Dev.destage
    rw [he, if_neg hne]
  · obtain ⟨y, -, rfl⟩ := List.mem_map.1 hc
    by_cases hy : inRun x.nsid slba.toNat n y = true
    · rw [if_pos hy]
    · rw [if_neg hy] at h1 h2 h3
      exact absurd (decide_eq_true ⟨h1, h2, h3⟩) hy

variable (t : Option Tag)

/-- A read order waits for a credit, or is not placed for sectors that nothing awaits. -/
theorem gives_media_waits (h : ¬(n ≠ 0 ∧ (∀ i, i < n → s.dev.mediaWanted t x.nsid (slba.toNat + i) = true) ∧ s.dev.orderGoes (4 + 2 * readCsq t x.nsid + x.reg.a))) :
    Gives (.mediaOrder t q nsid slba n) s fun d => d = s.dev := by
  refine gives_of_eq (exec_mediaOrder t q nsid slba n s) hk ((Dev.onNs_some hn _).trans (ite_eq_left_iff.2 fun hnot => Dev.placeOrder_waits fun hg => h ⟨fun h0 => hnot (.inl h0), fun i hi => ?_, hg⟩)) rfl
  simp only [not_or, Bool.not_eq_true, Bool.not_eq_false', List.all_eq_true, List.mem_range] at hnot
  exact hnot.2 i hi

/-- A read order is placed. -/
theorem gives_media (h0 : n ≠ 0) (hs : ∀ i, i < n → s.dev.mediaWanted t x.nsid (slba.toNat + i) = true) (hg : s.dev.orderGoes (4 + 2 * readCsq t x.nsid + x.reg.a)) :
    Gives (.mediaOrder t q nsid slba n) s fun d =>
      d.msq.orders = s.dev.msq.orders ++ [{ a := x.reg.a, cmd := t, nsid := x.nsid, slba := slba.toNat, n := n, csq := readCsq t x.nsid, id := s.dev.msq.nextId }] ∧
      (d.pool .seq (4 + 2 * readCsq t x.nsid + x.reg.a)).held + 1 = (s.dev.pool .seq (4 + 2 * readCsq t x.nsid + x.reg.a)).held ∧ d = { s.dev with msq := d.msq, pools := d.pools } := by
  obtain ⟨e, he, ho, hp, hf⟩ := Dev.placeOrder_goes (o := { a := x.reg.a, cmd := t, nsid := x.nsid, slba := slba.toNat, n := n, csq := readCsq t x.nsid }) hg
  refine gives_of_eq (exec_mediaOrder t q nsid slba n s) hk ((Dev.onNs_some hn _).trans ((if_neg ?_).trans he)) ⟨ho, hp, hf⟩
  simp only [not_or, Bool.not_eq_true, Bool.not_eq_false', List.all_eq_true, List.mem_range]
  exact ⟨h0, hs⟩
end

/-! ### Zone contexts through MDC (R331) -/

/-- The data of a write of context `ctx` into its line of the context table. -/
def Dev.ctxData (d : Dev) (ctx : Nat) : Bytes := List.replicate (32 * (ctx % 4)) 0 ++ (d.zctx ctx).bytes ++ List.replicate (96 - 32 * (ctx % 4)) 0

/-- The request for the line of context `ctx`. -/
def Dev.ctxRequest (d : Dev) (ctx tag : Nat) (put stream : Bool) : MReq :=
  { tag := tag, stream := stream, line := 32 * d.fld F.ZNE_CTX_BASE_GRANULE + ctx / 4, write := if put then some ((2 ^ 32 - 1) * 2 ^ (32 * (ctx % 4)), d.ctxData ctx) else none }

theorem exec_zoneContextRequest (ctx : BitVec 18) (tag : BitVec 16) (put stream : Bool) (sram tags : SramBits) (s : State) : exec (.zoneContextRequest ctx tag put stream sram tags) s =
    s.doesIn 1 fun d => if !d.live 4 || !d.mcredit put then d else (d.bump .zne 0).mrequest (d.ctxRequest ctx.toNat tag.toNat put stream) (sramRead sram) (sramRead tags) := rfl

theorem leBytes_length (n x : Nat) : (leBytes n x).length = n := by
  induction n generalizing x with
  | zero => rfl
  | succ n ih => exact congrArg (· + 1) (ih (x / 256))

theorem ZCtx.bytes_length (c : ZCtx) : c.bytes.length = 32 := by
  unfold ZCtx.bytes
  simp only [List.length_append, leBytes_length]

theorem Dev.ctxData_length (d : Dev) (ctx : Nat) : (d.ctxData ctx).length = 128 := by
  unfold Dev.ctxData
  simp only [List.length_append, List.length_replicate, ZCtx.bytes_length]
  have := Nat.mod_lt ctx (show 0 < 4 by decide)
  omega

theorem Dev.mask_takes {d : Dev} {r : MReq} (h : d.mcredit r.write.isSome = true) (sram tags : SramRead) : d.mask r sram tags false = d.mrequest r sram tags := by
  unfold Dev.mask
  rw [h]
  rfl

/-- The command that MDC takes for a request of ZNE. -/
def ctxCommand (d : Dev) (ctx : Nat) (tag : BitVec 16) (put stream : Bool) (sram tags : SramBits) : Instr :=
  if put then .mdcLineWrite tag stream (BitVec.ofNat 27 (32 * d.fld F.ZNE_CTX_BASE_GRANULE + ctx / 4)) (BitVec.ofNat 128 ((2 ^ 32 - 1) * 2 ^ (32 * (ctx % 4)))) (d.ctxData ctx) sram tags false
  else .mdcLineRead tag stream (BitVec.ofNat 27 (32 * d.fld F.ZNE_CTX_BASE_GRANULE + ctx / 4)) sram tags false

theorem exec_mdcLineRead (tag : BitVec 16) (stream : Bool) (line : BitVec 27) (sram tags : SramBits) (bad : Bool) (s : State) : exec (.mdcLineRead tag stream line sram tags bad) s =
    s.doesIn 4 fun d => d.mask { tag := tag.toNat, stream := stream, line := line.toNat } (sramRead sram) (sramRead tags) bad := rfl

theorem exec_mdcLineWrite (tag : BitVec 16) (stream : Bool) (line : BitVec 27) (mask : BitVec 128) (data : Bytes) (sram tags : SramBits) (bad : Bool) (s : State) :
    exec (.mdcLineWrite tag stream line mask data sram tags bad) s = s.doesIn 4 fun d => d.mask { tag := tag.toNat, stream := stream, line := line.toNat
                                                                                                  write := some (mask.toNat, (data ++ List.replicate (128 - data.length) 0).take 128) }
      (sramRead sram) (sramRead tags) bad := rfl

/-- MDC takes the request for a context as it takes the line command. -/
theorem exec_ctxCommand (d : Dev) (ctx : Nat) (tag : BitVec 16) (put stream : Bool) (sram tags : SramBits) (hl : 32 * d.fld F.ZNE_CTX_BASE_GRANULE + ctx / 4 < 2 ^ 27) (s : State) :
    exec (ctxCommand d ctx tag put stream sram tags) s = s.doesIn 4 fun e => e.mask (d.ctxRequest ctx tag.toNat put stream) (sramRead sram) (sramRead tags) false := by
  have hline : (BitVec.ofNat 27 (32 * d.fld F.ZNE_CTX_BASE_GRANULE + ctx / 4)).toNat = 32 * d.fld F.ZNE_CTX_BASE_GRANULE + ctx / 4 := by
    rw [BitVec.toNat_ofNat]; exact Nat.mod_eq_of_lt hl
  have hmask : (BitVec.ofNat 128 ((2 ^ 32 - 1) * 2 ^ (32 * (ctx % 4)))).toNat = (2 ^ 32 - 1) * 2 ^ (32 * (ctx % 4)) := by
    rw [BitVec.toNat_ofNat]
    have hk : 2 ^ (32 * (ctx % 4)) ≤ 2 ^ 96 := Nat.pow_le_pow_right (by decide) (by omega)
    refine Nat.mod_eq_of_lt ?_
    calc (2 ^ 32 - 1) * 2 ^ (32 * (ctx % 4)) ≤ (2 ^ 32 - 1) * 2 ^ 96 := Nat.mul_le_mul_left _ hk
      _ < 2 ^ 128 := by decide
  have hdata : (d.ctxData ctx ++ List.replicate (128 - (d.ctxData ctx).length) 0).take 128 = d.ctxData ctx := by
    rw [d.ctxData_length, Nat.sub_self, List.replicate_zero, List.append_nil, List.take_of_length_le (Nat.le_of_eq (d.ctxData_length ctx))]
  unfold ctxCommand Dev.ctxRequest
  cases put with
  | true => rw [if_pos rfl, exec_mdcLineWrite, hline, hmask, hdata, if_pos rfl]
  | false => rw [if_neg (by decide), exec_mdcLineRead, hline, if_neg (by decide)]

section
variable {s : State} {ctx : BitVec 18} {tag : BitVec 16} {put stream : Bool} {sram tags : SramBits} (hk : s.dev.live 1 = true)
include hk

theorem gives_context_waits (h : s.dev.live 4 = false ∨ s.dev.mcredit put = false) : Gives (.zoneContextRequest ctx tag put stream sram tags) s fun d => d = s.dev :=
  gives_of_eq (exec_zoneContextRequest ctx tag put stream sram tags s) hk (if_pos (by rcases h with h | h <;> simp [h])) rfl

theorem gives_context (h4 : s.dev.live 4 = true) (hc : s.dev.mcredit put = true) (hl : 32 * s.dev.fld F.ZNE_CTX_BASE_GRANULE + ctx.toNat / 4 < 2 ^ 27) :
    Gives (.zoneContextRequest ctx tag put stream sram tags) s fun d =>
      ∀ u, exec (ctxCommand s.dev ctx.toNat tag put stream sram tags) { s with dev := s.dev.bump .zne 0 } = .next u → d = u.dev := by
  refine gives_of_eq (exec_zoneContextRequest ctx tag put stream sram tags s) hk (if_neg (by rw [h4, hc]; decide)) fun u hu => ?_
  have hlive : (s.dev.bump .zne 0).live 4 = true := (Dev.live_congr rfl rfl rfl rfl 4).trans h4
  have hw : (s.dev.ctxRequest ctx.toNat tag.toNat put stream).write.isSome = put := by unfold Dev.ctxRequest; cases put <;> rfl
  have hcr : (s.dev.bump .zne 0).mcredit (s.dev.ctxRequest ctx.toNat tag.toNat put stream).write.isSome = true := by rw [hw]; exact hc
  rw [exec_ctxCommand _ _ _ _ _ _ _ hl, State.doesIn_eq] at hu
  dsimp only at hu
  rw [hlive, if_pos rfl, Dev.mask_takes hcr] at hu
  injection hu with hu
  rw [← hu]
end

/-! ### The journal's halves (R357) -/

/-- From `d0` to `d` the zone engine, the commands, the buffer, DMA and the ring stand as they stood, with the registers of the blocks before HST. -/
structure Beside (d0 d : Dev) : Prop where
  zne : d.zne = d0.zne
  cmds : d.cmds = d0.cmds
  buf : d.buf = d0.buf
  dma : d.dma = d0.dma
  rng : d.rng = d0.rng
  words : ∀ a < 0x6000000, d.word a = d0.word a

section
variable {d0 d : Dev}

theorem Beside.refl (d : Dev) : Beside d d := ⟨rfl, rfl, rfl, rfl, rfl, fun _ _ => rfl⟩

theorem Beside.trans {e : Dev} (h : Beside d0 d) (g : Beside d e) : Beside d0 e :=
  ⟨g.zne.trans h.zne, g.cmds.trans h.cmds, g.buf.trans h.buf, g.dma.trans h.dma, g.rng.trans h.rng, fun a ha => (g.words a ha).trans (h.words a ha)⟩

theorem Beside.ite {p : Prop} [Decidable p] {a b : Dev} (ha : Beside d0 a) (hb : Beside d0 b) : Beside d0 (if p then a else b) := by split <;> assumption

theorem Beside.iteF {p : Prop} [Decidable p] {a b : Dev × Nat} (ha : Beside d0 a.1) (hb : Beside d0 b.1) : Beside d0 (if p then a else b).1 := by split <;> assumption

theorem Beside.foldl {α : Type} {f : Dev → α → Dev} (hf : ∀ d a, Beside d0 d → Beside d0 (f d a)) {l : List α} (h : Beside d0 d) : Beside d0 (l.foldl f d) := by
  induction l generalizing d with
  | nil => exact h
  | cons a l ih => exact ih (hf d a h)

theorem Beside.rest {e : Dev} (h : Beside d0 d) (hz : e.zne = d.zne := by rfl) (hc : e.cmds = d.cmds := by rfl) (hb : e.buf = d.buf := by rfl) (hm : e.dma = d.dma := by rfl)
    (hr : e.rng = d.rng := by rfl) (hw : e.word = d.word := by rfl) : Beside d0 e := h.trans ⟨hz, hc, hb, hm, hr, fun a _ => congrFun hw a⟩

theorem Beside.setFld {f : RF} {v : Nat} (hf : 0x6000000 ≤ f.a) (h : Beside d0 d) : Beside d0 (d.setFld f v) :=
  h.trans ⟨rfl, rfl, rfl, rfl, rfl, fun _ ha => Dev.word_setFld_ne d f v (Nat.ne_of_lt (Nat.lt_of_lt_of_le ha hf))⟩
theorem Beside.bump {b : Blk} {i n : Nat} (h : Beside d0 d) : Beside d0 (d.bump b i n) := h.rest
theorem Beside.event {b : Blk} {n p1 p2 p3 src : Nat} (h : Beside d0 d) : Beside d0 (d.event b n p1 p2 p3 src) := by
  have hf := Dev.event_frame d b n p1 p2 p3 src
  have hw (a : Nat) (ha : a < 0x6000000) : (d.event b n p1 p2 p3 src).word a = d.word a := Dev.event_word d b n p1 p2 p3 src (by omega)
  generalize d.event b n p1 p2 p3 src = e at hf hw
  exact h.trans ⟨by rw [hf], by rw [hf], by rw [hf], by rw [hf], by rw [hf], hw⟩
theorem Beside.setFword {i : Nat} {w : FWord} (h : Beside d0 d) : Beside d0 (d.setFword i w) := h.rest
theorem Beside.setBank {k : Nat} {b : FBank} (h : Beside d0 d) : Beside d0 (d.setBank k b) := .ite (.rest h) (.rest h)
theorem Beside.intentWrite {b ty x q : Nat} (h : Beside d0 d) : Beside d0 (d.intentWrite b ty x q) := .ite h.rest h.rest
theorem Beside.tearWords {x : Nat} (h : Beside d0 d) : Beside d0 (d.tearWords x) := h.rest
theorem Beside.eraseWords {x : Nat} (h : Beside d0 d) : Beside d0 (d.eraseWords x) := h.rest
theorem Beside.slotEnd {k st n : Nat} (h : Beside d0 d) : Beside d0 (d.slotEnd k st n) :=
  have hk : 0x6000000 ≤ 0x9000108 + 0x40 * k := by omega
  .ite h (.setFld hk (.setFld hk (.setFld hk (.setFld hk h))))
theorem Beside.flcStat (h : Beside d0 d) : Beside d0 d.flcStat := .setFld (show 0x6000000 ≤ 0x9000004 by decide) (.setFld (show 0x6000000 ≤ 0x9000004 by decide) h)
theorem Beside.flashRefuse {k st w o : Nat} (h : Beside d0 d) : Beside d0 (d.flashRefuse k st w o) := .bump (.event (.slotEnd h))
theorem Beside.startOp {o : FOp} (h : Beside d0 d) : Beside d0 (d.startOp o) :=
  .ite (.flashRefuse h) (.ite (.flashRefuse h) (.ite (.flcStat (.bump (.setBank (.tearWords (.intentWrite (.rest h)))))) (.ite (.bump (.setBank h)) (.event (.slotEnd h)))))
theorem Beside.queueOp {o : FOp} (h : Beside d0 d) : Beside d0 (d.queueOp o) := .ite (.startOp h) (.setBank h)
theorem Beside.intentRollover {b : Nat} (h : Beside d0 d) : Beside d0 (d.intentRollover b) := .ite h (.queueOp (.ite (.rest h) (.rest h)))

/-- An erase of a sector is FLC's own. -/
theorem Beside.eraseSector {x : Nat} (h : Beside d0 d) : Beside d0 (d.eraseSector x) :=
  have hr {st : Nat} : Beside d0 ((d.event .flc 0x04 st (x * 2048) 2 0xFF).bump .flc 9) := .bump (.event h)
  .ite hr (.ite hr (.ite hr (.intentRollover (.bump (.bump (.intentWrite (.eraseWords (.intentWrite (.rest h)))))))))

/-- So is the programming of a word. -/
theorem Beside.programWord {w : Nat} {b : Bytes} {k : Nat} (h : Beside d0 d) : Beside d0 (d.programWord w b k).1 :=
  .iteF (.bump (.bump (.setFword h))) (.iteF (.event h) (.bump (.event h)))
end

/-- The zone engine's journal has moved on by n records. -/
def ZneS.jadvance (z : ZneS) (n : Nat) : ZneS := { z with jword := z.jword + n, jseq := z.jseq + n }

/-- A record moves the journal on. -/
theorem Dev.jput_beside (d : Dev) (r : JRec) : Beside { d with zne := d.zne.jadvance 1 } (d.jput r) := by
  have h : Beside d (d.programWord (jbase d.zne.half + d.zne.jword) (jrecBytes { r with stamp := d.now, seq := d.zne.jseq % 2 ^ 32 }) 0).1 := .programWord (.refl d)
  have hj : d.jput r = ((d.programWord (jbase d.zne.half + d.zne.jword) (jrecBytes { r with stamp := d.now, seq := d.zne.jseq % 2 ^ 32 }) 0).1.modZne (·.jadvance 1)).bump .zne 10 := rfl
  rw [hj]
  generalize (d.programWord (jbase d.zne.half + d.zne.jword) (jrecBytes { r with stamp := d.now, seq := d.zne.jseq % 2 ^ 32 }) 0).1 = e at h
  exact ⟨congrArg (·.jadvance 1) h.zne, h.cmds, h.buf, h.dma, h.rng, h.words⟩

theorem ZneS.jadvance_jadvance (z : ZneS) (m n : Nat) : (z.jadvance m).jadvance n = z.jadvance (m + n) := by
  unfold ZneS.jadvance
  dsimp only
  rw [Nat.add_assoc, Nat.add_assoc]

theorem Dev.jputs_beside (l : List JRec) (d : Dev) : Beside { d with zne := d.zne.jadvance l.length } (l.foldl (fun d r => d.jput r) d) := by
  induction l generalizing d with
  | nil => exact .refl d
  | cons r l ih =>
    have h1 := d.jput_beside r
    have h2 := ih (d.jput r)
    rw [List.foldl_cons]
    generalize d.jput r = e at h1 h2
    refine .trans (d := { e with zne := e.zne.jadvance l.length }) ⟨?_, h1.cmds, h1.buf, h1.dma, h1.rng, h1.words⟩ h2
    show e.zne.jadvance l.length = d.zne.jadvance (l.length + 1)
    rw [h1.zne, ZneS.jadvance_jadvance, Nat.add_comm]

/-- A switch of halves takes the snapshots into the other half. -/
theorem Dev.jswitch_beside (d : Dev) :
    Beside { d with zne := { d.zne with half := 1 - d.zne.half, jword := d.snapshots.length, jseq := d.zne.jseq + d.snapshots.length } } d.jswitch := by
  have h := Dev.jputs_beside d.snapshots (d.modZne fun z => { z with half := 1 - d.zne.half, jword := 0 })
  refine .foldl (fun _ _ h => .eraseSector h) ⟨h.zne.trans ?_, h.cmds, h.buf, h.dma, h.rng, h.words⟩
  show ({ d.zne with half := 1 - d.zne.half, jword := 0 + d.snapshots.length, jseq := d.zne.jseq + d.snapshots.length } : ZneS) = _
  rw [Nat.zero_add]

/-! ### Recovery (R357 to R359) -/

/-- From `d0` to `d` recovery has been at work: the namespaces, the commands, the buffer and the flash stand as they stood. -/
structure Recovers (d0 d : Dev) : Prop where
  nss : d.zne.nss = d0.zne.nss
  cmds : d.cmds = d0.cmds
  buf : d.buf = d0.buf
  flc : d.flc = d0.flc

section
variable {d0 d : Dev}

theorem Recovers.refl (d : Dev) : Recovers d d := ⟨rfl, rfl, rfl, rfl⟩

theorem Recovers.rest {e : Dev} (h : Recovers d0 d) (hn : e.zne.nss = d.zne.nss := by rfl) (hc : e.cmds = d.cmds := by rfl) (hb : e.buf = d.buf := by rfl) (hf : e.flc = d.flc := by rfl) : Recovers d0 e :=
  ⟨hn.trans h.nss, hc.trans h.cmds, hb.trans h.buf, hf.trans h.flc⟩

theorem Recovers.ite {p : Prop} [Decidable p] {a b : Dev} (ha : Recovers d0 a) (hb : Recovers d0 b) : Recovers d0 (if p then a else b) := by split <;> assumption

theorem Recovers.foldl {α : Type} {f : Dev → α → Dev} (hf : ∀ d a, Recovers d0 d → Recovers d0 (f d a)) {l : List α} (h : Recovers d0 d) : Recovers d0 (l.foldl f d) := by
  induction l generalizing d with
  | nil => exact h
  | cons a l ih => exact ih (hf d a h)

theorem Recovers.setFld {f : RF} {v : Nat} (h : Recovers d0 d) : Recovers d0 (d.setFld f v) := h.rest
theorem Recovers.bump {b : Blk} {i n : Nat} (h : Recovers d0 d) : Recovers d0 (d.bump b i n) := h.rest
theorem Recovers.event {b : Blk} {n p1 p2 p3 src : Nat} (h : Recovers d0 d) : Recovers d0 (d.event b n p1 p2 p3 src) := by
  have hf := Dev.event_frame d b n p1 p2 p3 src
  generalize d.event b n p1 p2 p3 src = e at hf
  exact h.rest (by rw [hf]) (by rw [hf]) (by rw [hf]) (by rw [hf])
theorem Recovers.recoverAt {n : Ns} {z g w : Nat} (h : Recovers d0 d) : Recovers d0 (d.recoverAt n z g w) := by
  have hm : CtxMoves d (d.recoverAt n z g w) := .setZctx (.refl d)
  generalize d.recoverAt n z g w = e at hm
  rw [CtxMoves] at hm
  exact h.rest (by rw [hm]) (by rw [hm]) (by rw [hm]) (by rw [hm])
theorem Recovers.movedBack {n : Ns} {z w : Nat} {p : Option Nat} {r k : Nat} (h : Recovers d0 d) : Recovers d0 (d.movedBack n z w p r k) := .event (.bump h.rest)
theorem Recovers.raiseAen {c : Fin 2} {e : Aen} (h : Recovers d0 d) : Recovers d0 (d.raiseAen c e) := by
  have hc (x : Dev) (y : CtrlS) (hx : Recovers d0 x) : Recovers d0 (x.setCtrl c y) := .ite hx.rest hx.rest
  unfold Dev.raiseAen
  dsimp only
  split
  · exact h
  · split
    · exact (hc _ _ h).rest
    · exact hc _ _ h
theorem Recovers.raiseAenAll {e : Aen} (h : Recovers d0 d) : Recovers d0 (d.raiseAenAll e) := .foldl (fun _ _ h => .ite (.raiseAen h) h) h
theorem Recovers.recoverZone {n : Ns} {z : Nat} {j : JZone} {c p : Option Nat} {ends : List ScanEnd} (h : Recovers d0 d) : Recovers d0 (d.recoverZone n z j c p ends) := by
  have h1 {g w : Nat} : Recovers d0 ((d.bump .zne 11).recoverAt n z g w) := .recoverAt (.bump h)
  unfold Dev.recoverZone
  dsimp only
  split
  · exact .recoverAt h
  · exact .recoverAt h
  · split
    · exact .ite (.recoverAt h) (.movedBack (.recoverAt h))
    · exact .ite (.movedBack h1) h1
end

/-- What the journal says of a zone (R358). -/
def Dev.journalZone (d : Dev) (n : Ns) (z : Nat) : JZone := (d.jrecs d.newestHalf).foldl (fun j r => j.replay (nsxOf n.nsid) (n.ctx + z) r) {}

/-- The stamp of the record with which the journal ends, if it is of a type. -/
def Dev.endStamp (d : Dev) (ty : Nat) : Option Nat := (d.jrecs d.newestHalf).getLast?.bind fun r => if r.ty = ty then some r.stamp else none

/-- The zones whose write pointer a scan must find. -/
def Dev.scans (d : Dev) : List Nat :=
  d.zne.nss.flatMap fun n => ((List.range n.zones).filter fun z => (d.journalZone n z).st == .open_ && !((d.endStamp 8).isSome && (d.journalZone n z).wp.isSome)).map fun z => n.ctx + z

/-- Recovery has begun, and says so once. -/
def Dev.recoveryBegun (d : Dev) : Dev := if d.flag F.ZNE_STAT_RECOVERING then d else d.event .zne 0x03 d.scans.length (d.endStamp 10).isSome.toNat 0 0

/-- The journal is where it was, with no context yet. -/
def Dev.journalFound (d0 d : Dev) : Dev :=
  let h := d0.newestHalf
  let rs := d0.jrecs h
  let gen := rs.foldl (fun g r => if r.ty = 1 ∨ r.ty = 3 ∨ r.ty = 5 then r.gen else if r.ty = 11 then max g r.gen else g) 0
  (d.modZne fun y => { y with half := h, jword := (d.jwords h).foldl (fun m p => max m (p.1 + 1)) 0
                              jseq := match topSeq rs with | some x => x + 1 | none => 0, ctx := [], recov := [] }).setFld F.ZNE_GEN_GEN gen

/-- Every zone is recovered as the journal of `d0` says. -/
def Dev.zonesRecovered (d0 d : Dev) (ends : List ScanEnd) : Dev :=
  d.zne.nss.foldl (fun (d : Dev) n => (List.range n.zones).foldl (fun (d : Dev) z => d.recoverZone n z (d0.journalZone n z) (d0.endStamp 8) (d0.endStamp 10) ends) d) d

/-- Write pointers that have moved back are reported, and ZNE is ready. -/
def Dev.recoveryDone (d : Dev) : Dev :=
  ((if d.zne.recov = [] then d else d.raiseAenAll ⟨7, 0xE1, 0xD1⟩).setFlag F.ZNE_STAT_RECOVERING false).setFld F.ZNE_STAT_READY 1

/-- A scan is missing. -/
def Dev.scanMissing (d : Dev) (ends : List ScanEnd) : Bool := d.scans.any fun i => !ends.any fun e => decide (e.ctx = i)

theorem exec_zoneRecovery (ends : List ScanEnd) (s : State) : exec (.zoneRecovery ends) s = s.doesIn 1 fun d =>
    if d.flag F.ZNE_STAT_READY || !d.load.loaded || !d.flag F.FLC_STAT_READY || !d.live 4 || !d.flag F.BUF_STAT_READY then d
    else if d.scanMissing ends then d.recoveryBegun.setFlag F.ZNE_STAT_RECOVERING true
    else (d.zonesRecovered (d.journalFound d.recoveryBegun) ends).recoveryDone := rfl

section
variable {d : Dev}

theorem Dev.recoveryBegun_recovers (d : Dev) : Recovers d d.recoveryBegun := .ite (.refl d) (.event (.refl d))

theorem Dev.recoveryBegun_zne (d : Dev) : d.recoveryBegun.zne = d.zne := by
  unfold Dev.recoveryBegun
  split
  · rfl
  · rw [Dev.event_frame]

theorem Dev.zonesRecovered_recovers (d0 d : Dev) (ends : List ScanEnd) : Recovers d (d0.zonesRecovered d ends) :=
  .foldl (fun _ _ h => .foldl (fun _ _ h => .recoverZone h) h) (.refl d)

theorem Dev.recoveryDone_recovers (d : Dev) : Recovers d d.recoveryDone := .setFld (.setFld (.ite (.refl d) (.raiseAenAll (.refl d))))

theorem Recovers.trans {d0 e : Dev} (h : Recovers d0 d) (g : Recovers d e) : Recovers d0 e := h.rest g.nss g.cmds g.buf g.flc

theorem Dev.recoveryDone_ready (d : Dev) : d.recoveryDone.flag F.ZNE_STAT_READY = true ∧ d.recoveryDone.flag F.ZNE_STAT_RECOVERING = false := by
  unfold Dev.recoveryDone
  generalize (if d.zne.recov = [] then d else d.raiseAenAll ⟨7, 0xE1, 0xD1⟩) = x
  have h1 := (x.setFlag F.ZNE_STAT_RECOVERING false).fld_setFld_one F.ZNE_STAT_READY (by decide) rfl
  have h2 := (x.setFlag F.ZNE_STAT_RECOVERING false).fld_setFld_beside F.ZNE_STAT_READY F.ZNE_STAT_RECOVERING 1 rfl rfl
  have h3 := x.flag_setFlag_same F.ZNE_STAT_RECOVERING false (by decide) (by decide)
  exact ⟨congrArg (· != 0) h1, (congrArg (· != 0) h2).trans h3⟩

/-- With no namespace there is nothing to recover. -/
theorem Dev.recovered_none {d0 : Dev} (h : d.zne.nss = []) (ends : List ScanEnd) :
    (d0.zonesRecovered (d0.journalFound d) ends).recoveryDone.zne.ctx = [] ∧ (d0.zonesRecovered (d0.journalFound d) ends).recoveryDone.zne.recov = [] := by
  have hz : d0.zonesRecovered (d0.journalFound d) ends = d0.journalFound d := by
    unfold Dev.zonesRecovered
    rw [show (d0.journalFound d).zne.nss = d.zne.nss from rfl, h, List.foldl_nil]
  have hr : (d0.journalFound d).recoveryDone = ((d0.journalFound d).setFlag F.ZNE_STAT_RECOVERING false).setFld F.ZNE_STAT_READY 1 := by
    unfold Dev.recoveryDone
    rw [if_pos (show (d0.journalFound d).zne.recov = [] from rfl)]
  rw [hz, hr]
  exact ⟨rfl, rfl⟩

/-- No scan is missing where every zone has one. -/
theorem Dev.scans_found {ends : List ScanEnd} (h : ∀ n ∈ d.zne.nss, ∀ z, z < n.zones → ∃ e ∈ ends, e.ctx = n.ctx + z) : d.scanMissing ends = false := by
  unfold Dev.scanMissing
  rw [List.any_eq_false]
  intro i hi
  obtain ⟨n, hn, hi⟩ := List.mem_flatMap.1 hi
  obtain ⟨z, hz, rfl⟩ := List.mem_map.1 hi
  obtain ⟨e, he, hc⟩ := h n hn z (List.mem_range.1 (List.mem_filter.1 hz).1)
  rw [Bool.not_eq_true, Bool.not_eq_false', List.any_eq_true]
  exact ⟨e, he, decide_eq_true hc⟩
end

theorem exec_journalHalfSwitch (s : State) : exec .journalHalfSwitch s = s.doesIn 1 fun d => if jlimit ≤ d.zne.jword then d.jswitch else d := rfl

section
variable {s : State} (hk : s.dev.live 1 = true)
include hk

theorem gives_journalHalf : (s.dev.zne.jword < jlimit → Gives .journalHalfSwitch s fun d => d = s.dev) ∧
    (jlimit ≤ s.dev.zne.jword → Gives .journalHalfSwitch s fun d => d.zne = { s.dev.zne with half := 1 - s.dev.zne.half, jword := s.dev.snapshots.length, jseq := s.dev.zne.jseq + s.dev.snapshots.length } ∧
      d.cmds = s.dev.cmds ∧ d.buf = s.dev.buf ∧ d.dma = s.dev.dma) := by
  refine ⟨fun h => gives_of_eq (exec_journalHalfSwitch s) hk (if_neg (Nat.not_le.2 h)) rfl, fun h => gives_of_eq (exec_journalHalfSwitch s) hk (if_pos h) ?_⟩
  have hj := s.dev.jswitch_beside
  exact ⟨hj.zne, hj.cmds, hj.buf, hj.dma⟩

variable {ends : List ScanEnd}

/-- Recovery waits for the image, the flash and the buffer, and is not done twice. -/
theorem gives_recovery_waits (h : ¬(s.dev.flag F.ZNE_STAT_READY = false ∧ s.dev.load.loaded = true ∧ s.dev.flag F.FLC_STAT_READY = true ∧ s.dev.live 4 = true ∧ s.dev.flag F.BUF_STAT_READY = true)) :
    Gives (.zoneRecovery ends) s fun d => d = s.dev := by
  refine gives_of_eq (exec_zoneRecovery ends s) hk (if_pos ?_) rfl
  by_contra hn
  exact h (by simpa [and_assoc] using hn)

/-- Recovery makes ZNE ready when every scan it needs has ended, and RECOVERING before. -/
theorem gives_recovery (h : s.dev.flag F.ZNE_STAT_READY = false ∧ s.dev.load.loaded = true ∧ s.dev.flag F.FLC_STAT_READY = true ∧ s.dev.live 4 = true ∧ s.dev.flag F.BUF_STAT_READY = true) :
    Gives (.zoneRecovery ends) s fun d => d.zne.nss = s.dev.zne.nss ∧
      (d.flag F.ZNE_STAT_READY = true ∨ (d.flag F.ZNE_STAT_RECOVERING = true ∧ d.zne = s.dev.zne)) ∧
      ((∀ n ∈ s.dev.zne.nss, ∀ z, z < n.zones → ∃ e ∈ ends, e.ctx = n.ctx + z) → d.flag F.ZNE_STAT_READY = true ∧ d.flag F.ZNE_STAT_RECOVERING = false) ∧
      (s.dev.zne.nss = [] → d.zne.ctx = [] ∧ d.zne.recov = []) ∧ d.cmds = s.dev.cmds ∧ d.buf = s.dev.buf ∧ d.flc = s.dev.flc := by
  obtain ⟨h1, h2, h3, h4, h5⟩ := h
  have hb := s.dev.recoveryBegun_recovers
  have hz := s.dev.recoveryBegun_zne
  have he := exec_zoneRecovery ends s
  cases hm : s.dev.scanMissing ends with
  | true =>
    refine gives_of_eq he hk ((if_neg (by simp [h1, h2, h3, h4, h5])).trans (if_pos hm)) ⟨hb.nss, .inr ⟨?_, hz⟩, fun hf => ?_, fun hn => ?_, hb.cmds, hb.buf, hb.flc⟩
    · exact s.dev.recoveryBegun.flag_setFlag_same F.ZNE_STAT_RECOVERING true (by decide) (by decide)
    · rw [Dev.scans_found hf] at hm
      exact absurd hm (by decide)
    · rw [Dev.scans_found (by rw [hn]; exact fun n hn => absurd hn List.not_mem_nil)] at hm
      exact absurd hm (by decide)
  | false =>
    have hj : Recovers s.dev (s.dev.journalFound s.dev.recoveryBegun) := hb.rest
    obtain ⟨r1, r2, r3, r4⟩ := (hj.trans (s.dev.zonesRecovered_recovers _ ends)).trans (Dev.recoveryDone_recovers _)
    obtain ⟨hr, hr'⟩ := (s.dev.zonesRecovered (s.dev.journalFound s.dev.recoveryBegun) ends).recoveryDone_ready
    exact gives_of_eq he hk ((if_neg (by simp [h1, h2, h3, h4, h5])).trans (if_neg (by rw [hm]; decide)))
      ⟨r1, .inl hr, fun _ => ⟨hr, hr'⟩, fun hn => Dev.recovered_none (by rw [hz]; exact hn) ends, r2, r3, r4⟩
end

/-! ### The obligation -/

/-- The first half of a Flush's obligation is of one namespace or of all. -/
theorem gives_flush {s : State} {t : Tag} {nsid : Word} {p : CacheSec → Bool} (hk : s.dev.live 1 = true)
    (he : (if nsid.toNat = 0xFFFFFFFF then (if s.dev.flag F.BUF_STAT_READY then s.dev.flushFor t nsid.toNat fun _ => true else s.dev.finish t (stNotReady false))
      else s.dev.ioNs t nsid.toNat fun n => s.dev.flushFor t nsid.toNat fun c => decide (c.nsid = n.nsid)) = s.dev.flushFor t nsid.toNat p)
    (hl : s.dev.load.minimal = false) (hp : s.dev.pstate < 2) : Gives (.nvmFlush t nsid) s fun d =>
      ((∀ c ∈ s.dev.zne.cache, s.dev.flushes p c = false) → Ended s.dev d t stOk) ∧
      ((∃ c ∈ s.dev.zne.cache, s.dev.flushes p c = true) → ∃ r, d.cmd? t = some r ∧ r.kind = .flush ∧ ∀ k, k ∈ r.need ↔ ∃ c ∈ s.dev.zne.cache, s.dev.flushes p c = true ∧ k = secKey c.nsid c.lba) ∧
      d.zne.cache = s.dev.zne.cache.map (fun c => if c.held && s.dev.flushes p c then { c with held := false, order := none } else c) ∧
      d = { s.dev with hst := d.hst, cmds := d.cmds, zne := { s.dev.zne with cache := d.zne.cache, ctx := d.zne.ctx }, regs := d.regs, mem := d.mem, log := d.log, lost := d.lost } :=
  gives_of_eq (exec_nvmFlush t nsid s) hk ((Dev.io_acts hl hp).trans he) (s.dev.flushFor_spec t nsid.toNat p)

/-- Settles O37, from what a Flush covers, what an order takes, what MDC is asked, and what the journal and recovery change. -/
theorem flushesOrdersAndRecovery : Obligations.FlushesOrdersAndRecovery := by
  unfold Obligations.FlushesOrdersAndRecovery
  refine ⟨?_, ?_, ?_, ?_⟩
  · intro s t nsid n hk hl hp all covered
    have hcov : covered = s.dev.flushes fun c => all || decide (c.nsid = n.nsid) := rfl
    refine ⟨fun ha hr => ?_, fun h => ?_⟩
    · refine gives_finish (exec_nvmFlush t nsid s) hk ((Dev.io_acts hl hp).trans ((if_pos (of_decide_eq_true ha)).trans (if_neg (by rw [hr]; decide))))
    · rw [hcov]
      refine gives_flush hk ?_ hl hp
      rcases h with ⟨ha, hr⟩ | ⟨ha, hr⟩
      · have hp : (fun c : CacheSec => all || decide (c.nsid = n.nsid)) = fun _ => true := funext fun c => by rw [ha]; rfl
        rw [hp]
        exact (if_pos (of_decide_eq_true ha)).trans (if_pos hr)
      · have hp : (fun c : CacheSec => all || decide (c.nsid = n.nsid)) = fun c => decide (c.nsid = n.nsid) := funext fun c => by rw [ha]; rfl
        rw [hp]
        exact (if_neg (of_decide_eq_false ha)).trans hr.ioNs
  · intro s q nsid slba n hk
    refine ⟨gives_order_none hk, fun x hx => ⟨⟨fun h => gives_destage_waits hk hx ?_, fun h => ?_⟩, fun o => ?_⟩⟩
    · simp only [Dev.destageable_iff]
      exact h
    · obtain ⟨h0, hs, hg⟩ := h
      exact gives_destage hk hx h0 (fun i hi => (s.dev.destageable_iff _ _).2 (hs i hi)) hg
    · cases o with
      | some t =>
        refine ⟨fun h => gives_media_waits hk hx (some t) ?_, fun ⟨h0, hs, hg⟩ => gives_media hk hx (some t) h0 (fun i hi => (s.dev.mediaWanted_some t _ _).2 (hs i hi)) hg⟩
        simp only [Dev.mediaWanted_some]
        exact h
      | none => exact ⟨gives_media_waits hk hx none, fun ⟨h0, hs, hg⟩ => gives_media hk hx none h0 hs hg⟩
  · intro s ctx tag put stream sram tags hk line k bytes
    exact ⟨gives_context_waits hk, gives_context hk⟩
  · intro s hk
    obtain ⟨h1, h2⟩ := gives_journalHalf hk
    exact ⟨h1, h2, fun ends => ⟨gives_recovery_waits hk, gives_recovery hk⟩⟩

end Sys2Proof.Machine
end

section
/-! SUPPORT. What the report of a descriptor changes beside its command: nothing of DMA, the buffer or the ring (R281, R287). -/
namespace Sys2Proof.Machine

/-- From `d0` to `d` commands have been served: DMA and the buffer stand as they stood, with the registers of the blocks before HST, and the ring where it has no job. -/
structure Serves (d0 d : Dev) : Prop where
  dma : d.dma = d0.dma
  buf : d.buf = d0.buf
  rng : d0.rng.tjobs = [] → d.rng = d0.rng
  words : ∀ a < 0x6000000, d.word a = d0.word a

section
variable {d0 d : Dev}

theorem Serves.refl (d : Dev) : Serves d d := ⟨rfl, rfl, fun _ => rfl, fun _ _ => rfl⟩

theorem Serves.trans {e : Dev} (h : Serves d0 d) (g : Serves d e) : Serves d0 e :=
  ⟨g.dma.trans h.dma, g.buf.trans h.buf, fun hr => (g.rng (by rw [h.rng hr]; exact hr)).trans (h.rng hr), fun a ha => (g.words a ha).trans (h.words a ha)⟩

theorem Serves.rest {e : Dev} (h : Serves d0 d) (hm : e.dma = d.dma := by rfl) (hb : e.buf = d.buf := by rfl) (hr : e.rng = d.rng := by rfl) (hw : e.word = d.word := by rfl) : Serves d0 e :=
  h.trans ⟨hm, hb, fun _ => hr, fun a _ => congrFun hw a⟩

theorem Serves.ite {p : Prop} [Decidable p] {a b : Dev} (ha : Serves d0 a) (hb : Serves d0 b) : Serves d0 (if p then a else b) := by split <;> assumption

theorem Serves.foldl {α : Type} {f : Dev → α → Dev} (hf : ∀ d a, Serves d0 d → Serves d0 (f d a)) {l : List α} (h : Serves d0 d) : Serves d0 (l.foldl f d) := by
  induction l generalizing d with
  | nil => exact h
  | cons a l ih => exact ih (hf d a h)

theorem Serves.beside {e : Dev} (h : Serves d0 d) (g : Beside d e) : Serves d0 e := h.trans ⟨g.dma, g.buf, fun _ => g.rng, g.words⟩

theorem Serves.setFld {f : RF} {v : Nat} (hf : 0x6000000 ≤ f.a) (h : Serves d0 d) : Serves d0 (d.setFld f v) := h.beside (.setFld hf (.refl d))
theorem Serves.bump {b : Blk} {i n : Nat} (h : Serves d0 d) : Serves d0 (d.bump b i n) := h.rest
theorem Serves.event {b : Blk} {n p1 p2 p3 src : Nat} (h : Serves d0 d) : Serves d0 (d.event b n p1 p2 p3 src) := h.beside (.event (.refl d))

/-! ### Commands -/

theorem Serves.finish {t : Tag} {st : Status} {a b : Nat} (h : Serves d0 d) : Serves d0 (d.finish t st a b) := by
  have hf := d.finish_frame t st a b
  generalize d.finish t st a b = e at hf
  rw [hf]
  exact h.rest
theorem Serves.putCmd {c : CmdRec} (h : Serves d0 d) : Serves d0 (d.putCmd c) := h.rest
theorem Serves.modCmd {t : Tag} {f : CmdRec → CmdRec} (h : Serves d0 d) : Serves d0 (d.modCmd t f) := h.rest

/-! ### Zones -/

theorem Serves.modZne {f : ZneS → ZneS} (h : Serves d0 d) : Serves d0 (d.modZne f) := h.rest
theorem Serves.mapCache {p : CacheSec → Bool} {f : CacheSec → CacheSec} (h : Serves d0 d) : Serves d0 (d.mapCache p f) := h.rest
theorem Serves.jput {r : JRec} (h : Serves d0 d) : Serves d0 (d.jput r) :=
  Serves.beside (d := { d with zne := d.zne.jadvance 1 }) h.rest (d.jput_beside r)
theorem Serves.jswitch (h : Serves d0 d) : Serves d0 d.jswitch :=
  Serves.beside (d := { d with zne := { d.zne with half := 1 - d.zne.half, jword := d.snapshots.length, jseq := d.zne.jseq + d.snapshots.length } }) h.rest d.jswitch_beside
theorem Serves.jwrite {r : JRec} (h : Serves d0 d) : Serves d0 (d.jwrite r) := .jput (.ite h.jswitch h)
theorem Serves.memError {b : Blk} {m : Nat} {e : MemEntry} (h : Serves d0 d) : Serves d0 (d.memError b m e) := h.rest
theorem Serves.sramMended {b : Blk} {m i j k : Nat} {inj : Bool} (h : Serves d0 d) : Serves d0 (d.sram b m (.mended i j k) inj) := by
  unfold Dev.sram
  dsimp only
  exact .event (.memError (.ite h.bump h))
theorem Serves.setZctx {i : Nat} {c : ZCtx} (h : Serves d0 d) : Serves d0 (d.setZctx i c) := by
  have hz : 0x6000000 ≤ F.ZNE_STAT_ACTIVE.a ∧ 0x6000000 ≤ F.ZNE_INJECT_ARM.a := by decide
  unfold Dev.setZctx
  dsimp only
  exact .ite (.sramMended (.setFld hz.2 (.setFld hz.1 h.modZne))) (.setFld hz.1 h.modZne)
theorem Serves.syncZone {n : Ns} {z : Nat} (h : Serves d0 d) : Serves d0 (d.syncZone n z) := .setZctx h
theorem Serves.newGen (h : Serves d0 d) : Serves d0 d.newGen.2 := by
  have hz : 0x6000000 ≤ F.ZNE_GEN_GEN.a := by decide
  unfold Dev.newGen
  dsimp only
  split
  · exact .event (.setFld hz h)
  · exact .setFld hz h
theorem Serves.resetZone {n : Ns} {z : Nat} (h : Serves d0 d) : Serves d0 (d.resetZone n z) := by
  have h1 {p : CacheSec → Bool} : Serves d0 (d.dropCache p).2.2 := by
    dsimp only [Dev.dropCache]
    exact h.modZne
  unfold Dev.resetZone
  dsimp only
  exact .ite h (.ite (.bump (.jwrite (.setZctx h1.newGen))) (.event (.bump (.jwrite (.setZctx h1.newGen)))))
theorem Serves.finishZone {n : Ns} {z : Nat} (h : Serves d0 d) : Serves d0 (d.finishZone n z) := .ite h (.setZctx (.bump (.jwrite (.ite (.jwrite h) h))))
theorem Serves.zoneAct {c : CmdRec} {n : Ns} {zs : List Nat} {p : CacheSec → Bool} {f : Dev → Nat → Dev} (hf : ∀ d z, Serves d0 d → Serves d0 (f d z)) (h : Serves d0 d) : Serves d0 (d.zoneAct c n zs p f) :=
  .ite (.finish (.foldl hf h)) h.modCmd
theorem Serves.needMet {c : CmdRec} (h : Serves d0 d) : Serves d0 (d.needMet c) := by
  unfold Dev.needMet
  split
  · split
    · exact .zoneAct (fun _ _ h => .resetZone h) h
    · exact .finish h
  · split
    · exact .ite (.finish h) (.zoneAct (fun _ _ h => .finishZone h) h)
    · exact .finish h
  · exact .finish h
theorem Serves.noteSector {k : Nat} {a : Bool} (h : Serves d0 d) : Serves d0 (d.noteSector k a) := by
  unfold Dev.noteSector
  dsimp only
  refine .foldl (fun d t h => ?_) h
  split
  · exact .ite (.needMet h.putCmd) h.putCmd
  · exact h
theorem Serves.linesArrived {c : CmdRec} {a n : Nat} (h : Serves d0 d) : Serves d0 (d.linesArrived c a n) := by
  have hm {l : List Nat} {p : Nat → CacheSec → Bool} {f : Nat → CacheSec → CacheSec} : Serves d0 (l.foldl (fun d i => d.mapCache (p i) (f i)) d) := .foldl (fun _ _ h => .mapCache h) h
  unfold Dev.linesArrived
  dsimp only
  refine .foldl (fun d i h => ?_) ?_
  · split
    · exact .ite (.noteSector h) h
    · exact h
  · split
    · exact .syncZone hm
    · exact hm
theorem Serves.zeroRest {c : CmdRec} (h : Serves d0 d) : Serves d0 (d.zeroRest c).2 := by
  unfold Dev.zeroRest
  dsimp only
  refine .foldl (fun _ _ h => .noteSector h) ?_
  split
  · exact .syncZone h.mapCache
  · exact h.mapCache

/-! ### Reports -/

theorem Serves.cmdCheck {t : Tag} (h : Serves d0 d) : Serves d0 (d.cmdCheck t) := by
  unfold Dev.cmdCheck
  split
  · exact h
  refine .ite h ?_
  split
  · exact .finish h
  split
  case h_1 => exact .ite (.finish h) h
  case h_5 => exact h
  all_goals
    split
    · exact .finish (.zeroRest h)
    · exact .ite (.finish h.putCmd) (.ite (.modCmd h.putCmd) (.finish h.putCmd))

/-- The jobs of the ring are told of a delivery. -/
theorem Serves.jobs {f : TJob → TJob} (h : Serves d0 d) : Serves d0 { d with rng := { d.rng with tjobs := d.rng.tjobs.map f } } :=
  h.trans ⟨rfl, rfl, fun hr => by rw [hr]; show ({ d.rng with tjobs := [] } : RngS) = _; rw [← hr], fun _ _ => rfl⟩

theorem Serves.cmdReport {t : Tag} {a st n : Nat} (h : Serves d0 d) : Serves d0 (d.cmdReport t a st n) := by
  unfold Dev.cmdReport
  split
  · exact h
  · refine .cmdCheck (.modCmd ?_)
    split
    · exact .linesArrived h
    · exact .linesArrived h
    · exact .jobs h
    · exact h
end

end Sys2Proof.Machine
end

section
/-! SUPPORT. DMA: what the settling of a channel and the delivery of bursts leave alone (R282, R286 to R289). -/
namespace Sys2Proof.Machine

/-- From `d0` to `d` DMA channels have settled: no burst is new, no number and no turn of an engine is taken, the staging shares show what they showed, and the ring stands where it
has no job. Under `k` BUF has answered nothing either. -/
structure Settles (k : Prop) (d0 d : Dev) : Prop where
  rng : d0.rng.tjobs = [] → d.rng = d0.rng
  turns : d.dma.rr0 = d0.dma.rr0 ∧ d.dma.rr1 = d0.dma.rr1
  nextId : d.dma.nextId = d0.dma.nextId
  staging : d.word 0x5000008 = d0.word 0x5000008
  resps : k → d.buf.resps = d0.buf.resps
  ids : ∀ y ∈ d.dma.bursts, ∃ z ∈ d0.dma.bursts, z.id = y.id

section
variable {k : Prop} {d0 d : Dev}

theorem Settles.refl (d : Dev) : Settles k d d := ⟨fun _ => rfl, ⟨rfl, rfl⟩, rfl, rfl, fun _ => rfl, fun y hy => ⟨y, hy, rfl⟩⟩

theorem Settles.trans {e : Dev} (h : Settles k d0 d) (g : Settles k d e) : Settles k d0 e := by
  refine ⟨fun hr => (g.rng (by rw [h.rng hr]; exact hr)).trans (h.rng hr), ⟨g.turns.1.trans h.turns.1, g.turns.2.trans h.turns.2⟩, g.nextId.trans h.nextId, g.staging.trans h.staging,
    fun hk => (g.resps hk).trans (h.resps hk), fun y hy => ?_⟩
  obtain ⟨z, hz, hzy⟩ := g.ids y hy
  obtain ⟨w, hw, hwz⟩ := h.ids z hz
  exact ⟨w, hw, hwz.trans hzy⟩

theorem Settles.serves {e : Dev} (h : Settles k d0 d) (g : Serves d e) : Settles k d0 e :=
  h.trans ⟨g.rng, by rw [g.dma]; exact ⟨rfl, rfl⟩, by rw [g.dma], g.words _ (by decide), fun _ => by rw [g.buf], fun y hy => ⟨y, by rw [← g.dma]; exact hy, rfl⟩⟩

theorem Settles.ite {p : Prop} [Decidable p] {a b : Dev} (ha : Settles k d0 a) (hb : Settles k d0 b) : Settles k d0 (if p then a else b) := by split <;> assumption

theorem Settles.foldl {α : Type} {f : Dev → α → Dev} (hf : ∀ d a, Settles k d0 d → Settles k d0 (f d a)) {l : List α} (h : Settles k d0 d) : Settles k d0 (l.foldl f d) := by
  induction l generalizing d with
  | nil => exact h
  | cons a l ih => exact ih (hf d a h)

theorem Settles.setFld {f : RF} {v : Nat} (hf : 0x5000008 ≠ f.a) (h : Settles k d0 d) : Settles k d0 (d.setFld f v) :=
  h.trans ⟨fun _ => rfl, ⟨rfl, rfl⟩, rfl, Dev.word_setFld_ne d f v hf, fun _ => rfl, fun y hy => ⟨y, hy, rfl⟩⟩
theorem Settles.bump {b : Blk} {i n : Nat} (h : Settles k d0 d) : Settles k d0 (d.bump b i n) := h.serves (.bump (.refl d))
theorem Settles.event {b : Blk} {n p1 p2 p3 src : Nat} (h : Settles k d0 d) : Settles k d0 (d.event b n p1 p2 p3 src) := h.serves (.event (.refl d))
theorem Settles.sendTx {t : Tx} (h : Settles k d0 d) : Settles k d0 (d.sendTx t) := h.serves (Serves.rest (.refl d))
theorem Settles.hostWrite {x a : Nat} {b : Bytes} (h : Settles k d0 d) : Settles k d0 (d.hostWrite x a b) := .bump (.bump (.sendTx h))
theorem Settles.hostRead {u : Option Nat} {o x a n : Nat} {p : Fin 2} (h : Settles k d0 d) : Settles k d0 (d.hostRead u o x p a n) := h.serves (Serves.rest (.refl d))

/-- A change of the DMA engine's other parts. -/
theorem Settles.modDma {f : DmaS → DmaS} (hr : (f d.dma).rr0 = d.dma.rr0 ∧ (f d.dma).rr1 = d.dma.rr1) (hn : (f d.dma).nextId = d.dma.nextId) (hb : (f d.dma).bursts = d.dma.bursts) (h : Settles k d0 d) :
    Settles k d0 (d.modDma f) := h.trans ⟨fun _ => rfl, hr, hn, rfl, fun _ => rfl, fun y hy => ⟨y, hb ▸ hy, rfl⟩⟩
/-- A change of bursts that keeps their numbers. -/
theorem Settles.mapBursts {g : Burst → Burst} (hg : ∀ b, (g b).id = b.id) (h : Settles k d0 d) : Settles k d0 (d.modDma fun m => { m with bursts := m.bursts.map g }) := by
  refine h.trans ⟨fun _ => rfl, ⟨rfl, rfl⟩, rfl, rfl, fun _ => rfl, fun y hy => ?_⟩
  obtain ⟨z, hz, rfl⟩ := List.mem_map.1 hy
  exact ⟨z, hz, (hg z).symm⟩
theorem Settles.setDch {x : Nat} {c : DChan} (h : Settles k d0 d) : Settles k d0 (d.setDch x c) :=
  .setFld (show 0x5000008 ≠ 0x5001004 + 0x20 * x by omega) (.modDma ⟨rfl, rfl⟩ rfl rfl h)
theorem Settles.modRunD {x i : Nat} {f : DRun → DRun} (h : Settles k d0 d) : Settles k d0 (d.modRunD x i f) := .setDch h
theorem Settles.setSlotDesc {x i : Nat} {c : Desc} (h : Settles k d0 d) : Settles k d0 (d.setSlotDesc x i c) := .modDma ⟨rfl, rfl⟩ rfl rfl h
theorem Settles.setHalted {x : Nat} {b : Bool} (h : Settles k d0 d) : Settles k d0 (d.setHalted x b) :=
  .setFld (by dsimp only; split <;> decide) (.setFld (show 0x5000008 ≠ 0x5001004 + 0x20 * x by omega) h)

/-! ### Descriptors -/

theorem Settles.dmaReport {q x st n i : Nat} {c : Desc} (h : Settles k d0 d) : Settles k d0 (d.dmaReport q x c st n i) := by
  have h1 {r : DReport} : Settles k d0 (d.modDma fun m => { m with reports := m.reports ++ [r] }) := .modDma ⟨rfl, rfl⟩ rfl rfl h
  unfold Dev.dmaReport
  dsimp only
  split
  · exact h1.serves (.cmdReport (.refl _))
  · exact h1
theorem Settles.endDesc {x i st n : Nat} {c : Desc} {inj : Bool} (h : Settles k d0 d) : Settles k d0 (d.endDesc x c i st n inj) := by
  have hx : 0x5000008 ≠ 0x5001004 + 0x20 * x := by omega
  unfold Dev.endDesc
  extract_lets +onlyGivenNames _ d1 d2 _ d3
  have h2 : Settles k d0 d2 := .bump (.setFld hx (.setFld hx h))
  have h3 : Settles k d0 d3 := .ite (.event (.setHalted h2)) h2
  exact .ite (.dmaReport (.setSlotDesc h3)) (.ite (.sendTx (.hostWrite h3)) (.hostWrite h3))
theorem Settles.abandonRing {x n : Nat} (h : Settles k d0 d) : Settles k d0 (d.abandonRing x n) := by
  induction n generalizing d with
  | zero => exact h
  | succ n ih =>
    unfold Dev.abandonRing
    exact .ite (ih (.endDesc h)) h
theorem Settles.fetchDesc {x : Nat} (h : Settles k d0 d) : Settles k d0 (d.fetchDesc x) := .ite (.setDch h) (.ite h (.hostRead (.setDch h)))
theorem Settles.settleDma {x n : Nat} (h : Settles k d0 d) : Settles k d0 (d.settleDma x n) := by
  induction n generalizing d with
  | zero => exact h
  | succ n ih =>
    unfold Dev.settleDma
    dsimp only
    split
    · exact .ite (.setDch (.setHalted (.abandonRing h))) (.ite (.fetchDesc h) h)
    · exact .ite (ih (.endDesc (.setDch h))) h
theorem Settles.settleCh {x : Nat} (h : Settles k d0 d) : Settles k d0 (d.settleCh x) := .settleDma h
theorem Settles.descError {x i st n : Nat} {inj : Bool} (h : Settles k d0 d) : Settles k d0 (d.descError x i st n inj) :=
  .settleCh (.mapBursts (fun b => by dsimp only; split <;> rfl) (.modRunD h))
theorem Settles.dmaStop {x : Nat} (h : Settles k d0 d) : Settles k d0 (d.dmaStop x) := .settleCh (.setDch h)

/-! ### Delivery -/

theorem Settles.bufAsk {r : BufReq} (h : Settles False d0 d) : Settles False d0 (d.bufAsk r) :=
  have hr {b : BufS} : Settles False d0 { d with buf := b } := h.trans ⟨fun _ => rfl, ⟨rfl, rfl⟩, rfl, rfl, False.elim, fun y hy => ⟨y, hy, rfl⟩⟩
  .ite hr hr
theorem Settles.sendBurst {r : DRun} {b : Burst} {x : Bytes} (h : Settles False d0 d) : Settles False d0 (d.sendBurst r b x) :=
  have h1 {f : DRun → DRun} : Settles False d0 ((d.modDma fun m => { m with bursts := m.bursts.map fun q => if q.id = b.id then { q with sent := true, parts := [] } else q }).modRunD b.ch b.idx f) :=
    .modRunD (.mapBursts (fun b => by split <;> rfl) h)
  .ite (.foldl (fun _ _ h => .hostWrite h) (.bump h1)) (.bufAsk (.bump h1))
theorem Settles.deliver {x n : Nat} (h : Settles False d0 d) : Settles False d0 (d.deliver x n) := by
  induction n generalizing d with
  | zero => exact h
  | succ n ih =>
    unfold Dev.deliver
    split
    · exact h
    split
    · exact .ite (ih (.sendBurst h)) h
    · exact h
end

/-- Where the ring has neither jobs nor reads it has nothing to settle. -/
theorem Dev.ringSettle_idle {d : Dev} (ht : d.rng.tjobs = []) (hr : d.rng.reads = []) : d.ringSettle = d := by
  unfold Dev.ringSettle
  rw [ht, List.foldl_nil]
  dsimp only
  rw [hr, List.foldl_nil]

theorem Settles.ringSettle {k : Prop} {d0 d : Dev} (h : Settles k d0 d) (ht : d0.rng.tjobs = []) (hr : d0.rng.reads = []) : d.ringSettle = d :=
  Dev.ringSettle_idle (by rw [h.rng ht, ht]) (by rw [h.rng ht, hr])

end Sys2Proof.Machine
end

section
/-! SUPPORT. DMA: posts, bursts, delivery, and the control of channels (R281 to R289). -/
namespace Sys2Proof.Machine

/-! ### Posts (R281, R282) -/

theorem exec_dmaPost (seq : Fin 8) (post : Bytes) (s : State) : exec (.dmaPost seq post) s =
    s.doesIn 1 fun d => if d.canSend .dma seq then d.dmaPost seq (leAt post 32 1 % 64) (descOf post) else d := rfl

/-- A post is reported refused. -/
def Dev.postRefused (d : Dev) (seq x : Nat) (c : Desc) (st : Nat) : Dev := ((d.bump .dma 1).event .dma 0x02 seq st c.tag x).dmaReport seq x c st 0 0xFFFF

section
variable {d : Dev} {seq x : Nat} (c : Desc)

theorem Dev.dmaPost_refuses {st : Nat}
    (h : (st = 9 ∧ (56 ≤ x ∨ d.fld (F.DMA_C_CFG_OWNER x) ≠ seq)) ∨ (st = 0xA ∧ x < 56 ∧ d.fld (F.DMA_C_CFG_OWNER x) = seq ∧ d.flag (F.DMA_C_CFG_EN x) = false) ∨
      (st = 8 ∧ x < 56 ∧ d.fld (F.DMA_C_CFG_OWNER x) = seq ∧ d.flag (F.DMA_C_CFG_EN x) = true ∧ (d.slotDesc x (d.fld (F.DMA_C_TAIL_TAIL x))).own = true)) :
    d.dmaPost seq x c = d.postRefused seq x c st := by
  unfold Dev.dmaPost
  dsimp only
  rcases h with ⟨rfl, h⟩ | ⟨rfl, hx, ho, he⟩ | ⟨rfl, hx, ho, he, hs⟩
  · exact if_pos h
  · rw [if_neg (by omega), he]; rfl
  · rw [if_neg (by omega), he, hs]; rfl

/-- A refused post that serves no command is reported and counted. -/
theorem Dev.postRefused_spec (hc : c.cmd = none) (st : Nat) : let e := d.postRefused seq x c st
    e.dma = { d.dma with reports := d.dma.reports ++ [{ seq := seq, tag := c.tag, ch := x, status := st, done := 0, idx := 0xFFFF }] } ∧
    e.counter .dma 1 = d.counter .dma 1 + 1 ∧ e = { d with dma := e.dma, regs := e.regs, cnt := e.cnt, log := e.log, lost := e.lost, hst := e.hst } := by
  intro e
  have he : e = ((d.bump .dma 1).event .dma 0x02 seq st c.tag x).modDma fun m =>
      { m with reports := m.reports ++ [{ seq := seq, tag := c.tag, ch := x, status := st, done := 0, idx := 0xFFFF }] } := by
    show Dev.dmaReport _ _ _ _ _ _ _ = _
    unfold Dev.dmaReport
    rw [hc]
  have hf := (d.bump .dma 1).event_frame .dma 0x02 seq st c.tag x
  generalize (d.bump .dma 1).event .dma 0x02 seq st c.tag x = y at he hf
  have hcnt : e.cnt = (d.bump .dma 1).cnt := by rw [he, hf]; rfl
  refine ⟨by rw [he, hf]; rfl, (Dev.counter_congr hcnt _ _).trans (Dev.counter_bump_same _ _ _), ?_⟩
  rw [he, hf]; rfl
end

/-- TAIL moves on by one, around the ring. -/
theorem Dev.posted_tail (d : Dev) (x : Nat) (c : Desc) : (d.posted x c).fld (F.DMA_C_TAIL_TAIL x) = (d.fld (F.DMA_C_TAIL_TAIL x) + 1) % d.ringSize x := by
  have hr : d.ringSize x ≤ 2 ^ 16 := by
    have hl : d.fld (F.DMA_C_CFG_RING_LOG2 x) < 2 ^ 4 := Nat.mod_lt _ (Nat.two_pow_pos 4)
    exact Nat.pow_le_pow_right (by decide) (by omega)
  have ht := Dev.fld_setFld_same (d.setSlotDesc x (d.fld (F.DMA_C_TAIL_TAIL x)) { c with own := true, status := 0, done := 0 }) (F.DMA_C_TAIL_TAIL x)
    ((d.fld (F.DMA_C_TAIL_TAIL x) + 1) % d.ringSize x) (show 0 + 16 ≤ 32 by decide)
  exact Eq.trans (b := ((d.setSlotDesc x (d.fld (F.DMA_C_TAIL_TAIL x)) { c with own := true, status := 0, done := 0 }).setFld (F.DMA_C_TAIL_TAIL x)
    ((d.fld (F.DMA_C_TAIL_TAIL x) + 1) % d.ringSize x)).fld (F.DMA_C_TAIL_TAIL x)) rfl (ht.trans (Nat.mod_eq_of_lt (Nat.lt_of_lt_of_le (Nat.mod_lt _ (Nat.two_pow_pos _)) hr)))

section
variable {s : State} {seq : Fin 8} {post : Bytes} {x : Nat} (hk : s.dev.live 1 = true) (hx : x = leAt post 32 1 % 64)
include hk

theorem gives_post_waits (h : s.dev.canSend .dma seq = false) : Gives (.dmaPost seq post) s fun d => d = s.dev :=
  gives_of_eq (exec_dmaPost seq post s) hk (if_neg (by rw [h]; decide)) rfl

variable (h : s.dev.canSend .dma seq = true)
include hx h

theorem gives_post (h56 : x < 56) (ho : s.dev.fld (F.DMA_C_CFG_OWNER x) = seq.val) (he : s.dev.flag (F.DMA_C_CFG_EN x) = true)
    (hs : (s.dev.slotDesc x (s.dev.fld (F.DMA_C_TAIL_TAIL x))).own = false) : Gives (.dmaPost seq post) s fun d =>
      d.slotDesc x (s.dev.fld (F.DMA_C_TAIL_TAIL x)) = { descOf post with own := true, status := 0, done := 0 } ∧
      d.fld (F.DMA_C_TAIL_TAIL x) = (s.dev.fld (F.DMA_C_TAIL_TAIL x) + 1) % s.dev.ringSize x ∧
      d.counter .dma 0 = s.dev.counter .dma 0 + 1 ∧ d = { s.dev with dma := { s.dev.dma with store := d.dma.store }, regs := d.regs, cnt := d.cnt } := by
  subst hx
  exact gives_of_eq (exec_dmaPost seq post s) hk ((if_pos h).trans (Dev.dmaPost_accepts h56 ho he hs _))
    ⟨s.dev.posted_slot _ _, s.dev.posted_tail _ _, Dev.counter_bump_same _ _ _, s.dev.posted_frame _ _⟩

theorem gives_post_refused {st : Nat}
    (hr : (st = 9 ∧ (56 ≤ x ∨ s.dev.fld (F.DMA_C_CFG_OWNER x) ≠ seq.val)) ∨ (st = 0xA ∧ x < 56 ∧ s.dev.fld (F.DMA_C_CFG_OWNER x) = seq.val ∧ s.dev.flag (F.DMA_C_CFG_EN x) = false) ∨
      (st = 8 ∧ x < 56 ∧ s.dev.fld (F.DMA_C_CFG_OWNER x) = seq.val ∧ s.dev.flag (F.DMA_C_CFG_EN x) = true ∧ (s.dev.slotDesc x (s.dev.fld (F.DMA_C_TAIL_TAIL x))).own = true)) :
    Gives (.dmaPost seq post) s fun d =>
      d.dma = { s.dev.dma with reports := s.dev.dma.reports ++ [{ seq := seq, tag := (descOf post).tag, ch := x, status := st, done := 0, idx := 0xFFFF }] } ∧
      d.counter .dma 1 = s.dev.counter .dma 1 + 1 ∧ d = { s.dev with dma := d.dma, regs := d.regs, cnt := d.cnt, log := d.log, lost := d.lost, hst := d.hst } := by
  subst hx
  exact gives_of_eq (exec_dmaPost seq post s) hk ((if_pos h).trans (Dev.dmaPost_refuses _ hr)) (Dev.postRefused_spec (descOf post) rfl st)
end

end Sys2Proof.Machine
end

section
/-! SUPPORT. DMA: the grant of a channel and the issue of a burst (R285). -/
namespace Sys2Proof.Machine

/-! ### What the state of a channel does not bear on -/

section
variable {d e : Dev} {x : Nat} (hx : x < 64) (hw : ∀ a, a ≠ 0x5001004 + 0x20 * x → e.word a = d.word a) (hf : e = { d with dma := e.dma, regs := e.regs })
include hw

theorem fld_of_stat (f : RF) (ha : f.a ≠ 0x5001004 + 0x20 * x) : e.fld f = d.fld f := Dev.fld_congr rfl (hw _ ha)

theorem flag_of_stat (f : RF) (ha : f.a ≠ 0x5001004 + 0x20 * x) : e.flag f = d.flag f := congrArg (· != 0) (fld_of_stat hw f ha)

theorem burstOf_of_stat (n : Nat) (r : DRun) : e.burstOf n x r = d.burstOf n x r := by
  unfold Dev.burstOf
  rw [fld_of_stat hw (F.DMA_C_CFG_BURST x) (show 0x5001000 + 0x20 * x ≠ 0x5001004 + 0x20 * x by omega)]

include hx

theorem dmaEnds_of_stat (n : Nat) (r : DRun) : e.dmaEnds n x r = d.dmaEnds n x r := by
  have h1 : e.portFailed r.desc.port = d.portFailed r.desc.port := flag_of_stat hw (F.HST_PSTAT_FAILED r.desc.port.val) (show 0x6000010 + 0x4 * r.desc.port.val ≠ 0x5001004 + 0x20 * x by omega)
  have h2 : e.granules = d.granules := by
    unfold Dev.granules
    rw [flag_of_stat hw F.BUF_PHY_DENS (show F.BUF_PHY_DENS.a ≠ 0x5001004 + 0x20 * x by unfold F.BUF_PHY_DENS; dsimp only; omega)]
  have h3 := fld_of_stat hw F.DMA_DIAG_LO_FIRST (show 0x5000024 ≠ 0x5001004 + 0x20 * x by omega)
  have h4 := fld_of_stat hw F.DMA_DIAG_HI_LIMIT (show 0x5000028 ≠ 0x5001004 + 0x20 * x by omega)
  unfold Dev.dmaEnds Dev.dmaAddrOk
  rw [h1, h2, h3, h4]

theorem stageFits_of_stat (n : Nat) (r : DRun) : e.stageFits n x r = d.stageFits n x r := by
  have h1 : e.fld (e.stageUsed n) = d.fld (d.stageUsed n) := fld_of_stat hw (d.stageUsed n) (by unfold Dev.stageUsed; split <;> (show 0x5000008 ≠ _; omega))
  have h2 : e.stageShare n = d.stageShare n := fld_of_stat hw _ (by split <;> (show 0x5000004 ≠ _; omega))
  unfold Dev.stageFits
  rw [h1, h2, burstOf_of_stat hw]

include hf

theorem fitsPool_of_stat (b : Blk) (j u n : Nat) (hb : 0x5001804 ≤ blkBase b + 0xFC00 + 8 * j ∨ blkBase b + 0xFC04 + 8 * j < 0x5001004) : e.fitsPool b j u n = d.fitsPool b j u n := by
  have h1 : e.poolOpen b j = d.poolOpen b j := by
    unfold Dev.poolOpen
    rw [flag_of_stat hw (fFENCED b j) (show blkBase b + 0xFC04 + 8 * j ≠ 0x5001004 + 0x20 * x by omega), hf]
  have h2 : e.pool b j = d.pool b j := Dev.pool_congr (by rw [hf]) (by rw [hf]) _ _
  have h3 := fld_of_stat hw (fCREDITS b j) (show blkBase b + 0xFC00 + 8 * j ≠ 0x5001004 + 0x20 * x by omega)
  unfold Dev.fitsPool Dev.credits
  rw [h1, h2, h3]

theorem creditFits_of_stat (n : Nat) (r : DRun) : e.creditFits n x r = d.creditFits n x r := by
  have h1 : e.buf = d.buf := by rw [hf]
  have h2 : e.hst = d.hst := by rw [hf]
  have h3 : e.burstReads n x r = d.burstReads n x r := by
    unfold Dev.burstReads Dev.mrrs Dev.ctrl
    rw [burstOf_of_stat hw, h2]
  unfold Dev.creditFits Dev.hstReads
  dsimp only
  rw [burstOf_of_stat hw, h1, h2, h3, fitsPool_of_stat hx hw hf _ _ _ _ (by decide), fitsPool_of_stat hx hw hf _ _ _ _ (by decide)]
end

/-! ### Grants (R49, R285) -/

/-- The round robin finds one of the `n` it may find. -/
theorem rrFirst_lt {p : Nat → Bool} {n k start x : Nat} (hn : 0 < n) (h : rrFirst p n k start = some x) : x < n := by
  induction k generalizing start with
  | zero => cases h
  | succ k ih =>
    unfold rrFirst at h
    split at h
    · cases h
      exact Nat.mod_lt _ hn
    · exact ih h

/-- The turn of an engine has passed channel `x`. -/
def Dev.passed (d : Dev) (e x : Nat) : Dev := d.modDma fun m => if e = 0 then { m with rr0 := (x + 1) % 64 } else { m with rr1 := (x + 1) % 64 }
/-- A granted descriptor that is new has been begun. -/
def Dev.grantRun (d : Dev) (x : Nat) (r : DRun) (new : Bool) : Dev :=
  if new then d.setDch x { d.dch x with runs := (d.dch x).runs ++ [r], next := ((d.dch x).next + 1) % d.ringSize x } else d
/-- A granted descriptor ends, or issues its next burst. -/
def Dev.grantTakes (d : Dev) (e x : Nat) (r : DRun) : Dev := match d.dmaEnds e x r with | some (st, k) => d.descError x r.idx st k | none => d.issueBurst e x r

theorem Dev.passed_frame (d : Dev) (e x : Nat) : d.passed e x = { d with dma := { d.dma with rr0 := (d.passed e x).dma.rr0, rr1 := (d.passed e x).dma.rr1 } } := by
  unfold Dev.passed Dev.modDma
  split <;> rfl
theorem Dev.passed_turn (d : Dev) (e x : Nat) : (if e = 0 then (d.passed e x).dma.rr0 else (d.passed e x).dma.rr1) = (x + 1) % 64 := by
  unfold Dev.passed Dev.modDma
  split <;> rfl
theorem Dev.dmaNext_passed (d : Dev) (e x y : Nat) : (d.passed e x).dmaNext y = d.dmaNext y := by rw [d.passed_frame]; rfl

section
variable (d : Dev) (x : Nat) (r : DRun) (new : Bool)

theorem Dev.grantRun_frame : let e := d.grantRun x r new
    e = { d with dma := { d.dma with chans := e.dma.chans }, regs := e.regs } ∧ ∀ a, a ≠ 0x5001004 + 0x20 * x → e.word a = d.word a := by
  unfold Dev.grantRun
  cases new
  · exact ⟨rfl, fun _ _ => rfl⟩
  · exact ⟨rfl, fun a ha => Dev.word_setFld_ne _ (F.DMA_C_STAT_BUSY x) _ ha⟩
end

/-- The device in which the grant takes effect differs in a channel's state and its BUSY bit. -/
theorem Dev.grant_frame (d : Dev) (e x : Nat) (r : DRun) (new : Bool) : let b := (d.passed e x).grantRun x r new
    b = { d with dma := { d.dma with chans := b.dma.chans, rr0 := (d.passed e x).dma.rr0, rr1 := (d.passed e x).dma.rr1 }, regs := b.regs } ∧
      ∀ a, a ≠ 0x5001004 + 0x20 * x → b.word a = d.word a := by
  obtain ⟨hf, hw⟩ := (d.passed e x).grantRun_frame x r new
  have hp := d.passed_frame e x
  generalize (d.passed e x).grantRun x r new = b at hf hw
  generalize d.passed e x = p at hf hw hp
  refine ⟨by rw [hf, hp], fun a ha => (hw a ha).trans (by rw [hp]; rfl)⟩

/-- Who gets the grant of an engine, and with which descriptor. -/
structure Granted (d : Dev) (e x : Nat) (r : DRun) (new : Bool) : Prop where
  turn : rrFirst (fun x => d.dmaMay e x) 64 64 (if e = 0 then d.dma.rr0 else d.dma.rr1) = some x
  next : d.dmaNext x = some (r, new)

section
variable {d : Dev} {e x : Nat} {r : DRun} {new : Bool}

theorem Dev.dmaGrant_none (h : rrFirst (fun x => d.dmaMay e x) 64 64 (if e = 0 then d.dma.rr0 else d.dma.rr1) = none) :
    d.dmaGrant e = if d.stageWaits e then d.bump .dma 9 else d := by
  unfold Dev.dmaGrant
  rw [h]

variable (h : Granted d e x r new)
include h

theorem Granted.lt : x < 64 := rrFirst_lt (by decide) h.turn

/-- A descriptor that is granted ends, or its burst has staging and credits. -/
theorem Granted.fits (he : d.dmaEnds e x r = none) : d.stageFits e x r = true ∧ d.creditFits e x r = true := by
  have hm : d.dmaMay e x = true := rrFirst_some h.turn
  unfold Dev.dmaMay at hm
  rw [h.next] at hm
  dsimp only at hm
  rw [he] at hm
  simpa using ((Bool.and_eq_true _ _).mp hm).2

theorem Granted.dmaEnds_begun : ((d.passed e x).grantRun x r new).dmaEnds e x r = d.dmaEnds e x r := by
  obtain ⟨-, hw⟩ := d.grant_frame e x r new
  exact dmaEnds_of_stat h.lt hw _ _

theorem Granted.dmaGrant : d.dmaGrant e = ((d.passed e x).grantRun x r new).grantTakes e x r := by
  unfold Dev.dmaGrant
  rw [h.turn]
  show (match (d.passed e x).dmaNext x with | none => d.passed e x | some (r, new) => ((d.passed e x).grantRun x r new).grantTakes e x r) = _
  rw [d.dmaNext_passed, h.next]

theorem Granted.dmaGrant_ends {st k : Nat} (he : d.dmaEnds e x r = some (st, k)) : d.dmaGrant e = ((d.passed e x).grantRun x r new).descError x r.idx st k := by
  rw [h.dmaGrant]
  unfold Dev.grantTakes
  rw [h.dmaEnds_begun, he]

theorem Granted.dmaGrant_issues (he : d.dmaEnds e x r = none) : d.dmaGrant e = ((d.passed e x).grantRun x r new).issueBurst e x r := by
  rw [h.dmaGrant]
  unfold Dev.grantTakes
  rw [h.dmaEnds_begun, he]
end

/-! ### Bursts (R285) -/

theorem Dev.hostRead_frame (d : Dev) (u : Option Nat) (o x : Nat) (p : Fin 2) (a n : Nat) : let e := d.hostRead u o x p a n
    e = { d with hst := e.hst, cnt := e.cnt } := rfl

theorem Dev.hostReads_frame {α : Type} (u : Option Nat) (x : Nat) (p : Fin 2) (o a n : α → Nat) (l : List α) (d : Dev) :
    let e := l.foldl (fun (d : Dev) q => d.hostRead u (o q) x p (a q) (n q)) d
    e = { d with hst := e.hst, cnt := e.cnt } := by
  induction l generalizing d with
  | nil => rfl
  | cons q l ih =>
    have h1 := d.hostRead_frame u (o q) x p (a q) (n q)
    have h2 := ih (d.hostRead u (o q) x p (a q) (n q))
    dsimp only [List.foldl_cons] at h1 h2 ⊢
    generalize List.foldl _ _ l = y at h2 ⊢
    rw [h2, h1]

theorem Dev.bufAsk_frame (d : Dev) (q : BufReq) : d.bufAsk q = { d with buf := (d.bufAsk q).buf } := by
  unfold Dev.bufAsk
  split <;> rfl

/-- The burst that a descriptor issues next. -/
def Dev.nextBurst (d : Dev) (e x : Nat) (r : DRun) : Burst :=
  { id := d.dma.nextId, ch := x, idx := r.idx, first := r.issued, n := d.burstOf e x r, flits := (d.burstOf e x r + 1) / 2 }

theorem Dev.issueBurst_issues (d : Dev) (e x : Nat) (r : DRun) (hs : d.stageFits e x r = true) (hc : d.creditFits e x r = true) : let o := d.issueBurst e x r
    o = { d with dma := { d.dma with bursts := d.dma.bursts ++ [d.nextBurst e x r], nextId := d.dma.nextId + 1, chans := o.dma.chans }, regs := o.regs, buf := o.buf, hst := o.hst, cnt := o.cnt } := by
  unfold Dev.issueBurst
  extract_lets +onlyGivenNames c n flits used reads id b d1 d2
  rw [hs, hc]
  have h2 : d2 = { d with dma := { d.dma with bursts := d.dma.bursts ++ [d.nextBurst e x r], nextId := d.dma.nextId + 1, chans := d2.dma.chans }, regs := d2.regs } := rfl
  clear_value d2
  rw [if_neg (by decide)]
  split
  · have h3 := d2.bufAsk_frame { client := 2, id := id, line := winAddr c.src c.swin (128 * r.issued) / 128, n := n, op := .read }
    generalize d2.bufAsk _ = y at h3
    rw [h3, h2]
  · have h3 := Dev.hostReads_frame (some id) x c.port Prod.fst (fun p => winAddr c.src c.swin (128 * r.issued + p.1)) Prod.snd reads d2
    dsimp only at h3
    generalize List.foldl _ _ reads = y at h3
    rw [h3, h2]

/-! ### The command -/

/-- The turn of an engine, by its number. -/
theorem turn_val (e : Fin 2) (a b : Nat) : (if e.val = 0 then a else b) = if e = 0 then a else b := if_congr (Fin.ext_iff (b := 0)).symm rfl rfl

theorem exec_dmaBurstIssue (e : Fin 2) (s : State) : exec (.dmaBurstIssue e) s = s.doesIn 1 fun d => (d.dmaGrant e).ringSettle := rfl

section
variable {s : State} {e : Fin 2} (hk : s.dev.live 1 = true) (ht : s.dev.rng.tjobs = []) (hr : s.dev.rng.reads = [])
include hk ht hr

theorem gives_burstIssue_none (h : rrFirst (fun x => s.dev.dmaMay e x) 64 64 (if e = 0 then s.dev.dma.rr0 else s.dev.dma.rr1) = none) : Gives (.dmaBurstIssue e) s fun d =>
    (s.dev.stageWaits e = false → d = s.dev) ∧ (s.dev.stageWaits e = true → d.counter .dma 9 = s.dev.counter .dma 9 + 1) ∧ d = { s.dev with cnt := d.cnt } := by
  have hg : s.dev.dmaGrant e = if s.dev.stageWaits e then s.dev.bump .dma 9 else s.dev := Dev.dmaGrant_none (by rw [turn_val]; exact h)
  cases hw : s.dev.stageWaits e
  · rw [hw, if_neg (by decide)] at hg
    exact gives_of_eq (exec_dmaBurstIssue e s) hk (by rw [hg, Dev.ringSettle_idle ht hr]) ⟨fun _ => rfl, fun h => absurd h (by decide), rfl⟩
  · rw [hw, if_pos rfl] at hg
    exact gives_of_eq (exec_dmaBurstIssue e s) hk (by rw [hg]; exact Dev.ringSettle_idle ht hr) ⟨fun h => absurd h (by decide), fun _ => Dev.counter_bump_same _ _ _, rfl⟩

theorem gives_burstIssue_some {x : Nat} {r : DRun} {new : Bool} (hx : rrFirst (fun x => s.dev.dmaMay e x) 64 64 (if e = 0 then s.dev.dma.rr0 else s.dev.dma.rr1) = some x)
    (hn : s.dev.dmaNext x = some (r, new)) : Gives (.dmaBurstIssue e) s fun d => (if e = 0 then d.dma.rr0 else d.dma.rr1) = (x + 1) % 64 ∧
      (s.dev.dmaEnds e x r = none →
        d.dma.bursts = s.dev.dma.bursts ++ [{ id := s.dev.dma.nextId, ch := x, idx := r.idx, first := r.issued, n := s.dev.burstOf e x r, flits := (s.dev.burstOf e x r + 1) / 2 }] ∧
        d.dma.nextId = s.dev.dma.nextId + 1 ∧ d = { s.dev with dma := d.dma, regs := d.regs, buf := d.buf, hst := d.hst, cnt := d.cnt }) ∧
      (s.dev.dmaEnds e x r ≠ none → d.dma.nextId = s.dev.dma.nextId) := by
  have h : Granted s.dev e x r new := ⟨by rw [turn_val]; exact hx, hn⟩
  have hp := s.dev.passed_turn e x
  obtain ⟨hb, hw⟩ := s.dev.grant_frame e x r new
  have hturn {d : Dev} (h0 : d.dma.rr0 = (s.dev.passed e x).dma.rr0) (h1 : d.dma.rr1 = (s.dev.passed e x).dma.rr1) : (if e = 0 then d.dma.rr0 else d.dma.rr1) = (x + 1) % 64 := by
    rw [h0, h1, ← turn_val]
    exact hp
  cases he : s.dev.dmaEnds e x r with
  | none =>
    obtain ⟨hs, hc⟩ := h.fits he
    have hn : ((s.dev.passed e x).grantRun x r new).nextBurst e x r = s.dev.nextBurst e x r := by
      unfold Dev.nextBurst
      rw [burstOf_of_stat hw, hb]
    have hi := ((s.dev.passed e x).grantRun x r new).issueBurst_issues e x r ((stageFits_of_stat h.lt hw _ _).trans hs) ((creditFits_of_stat h.lt hw (by rw [hb]) _ _).trans hc)
    have hg := h.dmaGrant_issues he
    generalize (s.dev.passed e x).grantRun x r new = b at hb hw hn hi hg
    generalize b.issueBurst e x r = o at hi hg
    refine gives_of_eq (e := o) (exec_dmaBurstIssue e s) hk (by rw [hg, Dev.ringSettle_idle (by rw [hi, hb]; exact ht) (by rw [hi, hb]; exact hr)])
      ⟨hturn (by rw [hi, hb]) (by rw [hi, hb]), fun _ => ⟨by rw [hi, hn, hb]; rfl, by rw [hi, hb], by rw [hi, hb]⟩, fun h => absurd rfl h⟩
  | some q =>
    obtain ⟨st, k⟩ := q
    have hg := h.dmaGrant_ends he
    have hd : Settles True ((s.dev.passed e x).grantRun x r new) (((s.dev.passed e x).grantRun x r new).descError x r.idx st k) := .descError (.refl _)
    generalize (s.dev.passed e x).grantRun x r new = b at hb hw hd hg
    generalize b.descError x r.idx st k = o at hd hg
    refine gives_of_eq (e := o) (exec_dmaBurstIssue e s) hk (by rw [hg, hd.ringSettle (by rw [hb]; exact ht) (by rw [hb]; exact hr)])
      ⟨hturn (hd.turns.1.trans (by rw [hb])) (hd.turns.2.trans (by rw [hb])), fun h => absurd h (Option.some_ne_none _), fun _ => hd.nextId.trans (by rw [hb])⟩
end

end Sys2Proof.Machine
end

section
/-! SUPPORT. DMA: the staging, the delivery and the acknowledgement of bursts (R246, R278, R286 to R288). -/
namespace Sys2Proof.Machine

/-! ### What bears on the credits of HST -/

/-- A quiet event leaves every register field but LOG's injection bit. -/
theorem Dev.event_fld (d : Dev) {b : Blk} {n : Nat} (hn : critOf (blkCls b * 256 + n) = 0) (p1 p2 p3 src : Nat) (f : RF) (hf : f.a ≠ 0x0A000060 ∨ f.lo + f.n ≤ 31) :
    (d.event b n p1 p2 p3 src).fld f = d.fld f := by
  by_cases ha : f.a = 0x0A000060
  · have hf := hf.resolve_left (absurd ha)
    unfold Dev.event
    dsimp only
    rw [if_pos hn]
    split
    · exact Dev.fld_setFld_disjoint d F.LOG_INJECT_ARM f 0 ha (.inr hf) (by omega)
    · rw [d.reportLost_frame b]
      split <;> rfl
  · exact Dev.fld_congr rfl (Dev.event_word d b n p1 p2 p3 src ha)

/-- A reading of staging that loses nothing leaves every register field but LOG's injection bit. -/
theorem Dev.stageSram_fld (d : Dev) {r : SramRead} (hr : ∀ k p, r ≠ .uncorrectable k p) (f : RF) (hf : f.a ≠ 0x0A000060 ∨ f.lo + f.n ≤ 31) : (d.sram .dma 0 r).fld f = d.fld f := by
  cases r with
  | ok => rfl
  | mended k i j => exact Dev.event_fld _ (by decide) _ _ _ _ f hf
  | uncorrectable k p => exact absurd rfl (hr k p)

section
variable {d e : Dev}

theorem Dev.fitsPool_congr {b : Blk} {j : Nat} (hv : e.v = d.v) (hp : e.pools = d.pools) (hf : e.fld (fFENCED b j) = d.fld (fFENCED b j)) (hc : e.fld (fCREDITS b j) = d.fld (fCREDITS b j)) (u n : Nat) :
    e.fitsPool b j u n = d.fitsPool b j u n := by
  have ho : e.poolOpen b j = d.poolOpen b j := by
    unfold Dev.poolOpen Dev.flag
    rw [hv, hf]
  unfold Dev.fitsPool Dev.credits
  rw [ho, Dev.pool_congr hp hv, hc]

theorem Dev.hstWrites_congr (hb : e.dma.bursts = d.dma.bursts) (he : ∀ x, e.fld (F.DMA_C_CFG_ENGINE x) = d.fld (F.DMA_C_CFG_ENGINE x)) : e.hstWrites = d.hstWrites := by
  unfold Dev.hstWrites
  rw [hb]
  exact congrArg (fun p => ((d.dma.bursts.filter p).map Burst.flits).foldl (· + ·) 0) (funext fun b => congrArg (fun n => b.sent && decide (n = 0)) (he b.ch))

/-- The flits that HST holds of sent bursts do not depend on the data of bursts. -/
theorem Dev.hstWrites_mapBursts (d : Dev) (g : Burst → Burst) (hg : ∀ b, (g b).ch = b.ch ∧ (g b).sent = b.sent ∧ (g b).flits = b.flits) :
    (d.modDma fun m => { m with bursts := m.bursts.map g }).hstWrites = d.hstWrites := by
  show (((d.dma.bursts.map g).filter fun b => b.sent && decide (d.fld (F.DMA_C_CFG_ENGINE b.ch) = 0)).map Burst.flits).foldl (· + ·) 0 = _
  rw [List.filter_map, List.map_map]
  have h1 : Burst.flits ∘ g = Burst.flits := funext fun b => (hg b).2.2
  have h2 : (fun b : Burst => b.sent && decide (d.fld (F.DMA_C_CFG_ENGINE b.ch) = 0)) ∘ g = fun b => b.sent && decide (d.fld (F.DMA_C_CFG_ENGINE b.ch) = 0) := funext fun b => by
    dsimp only [Function.comp]
    rw [(hg b).1, (hg b).2.1]
  rw [h1, h2]
  rfl
end

/-! ### The staging of a burst (R278) -/

theorem Dev.freeStage_others (d : Dev) (b : Burst) : ∀ y ∈ (d.freeStage b).dma.bursts, y.id ≠ b.id := fun _ hy => of_decide_eq_true (List.mem_filter.1 hy).2

/-- The staging of a burst is given back to its engine's share. -/
theorem Dev.freeStage_used (d : Dev) (b : Burst) : (d.freeStage b).fld (d.stageUsed (d.fld (F.DMA_C_CFG_ENGINE b.ch))) = d.fld (d.stageUsed (d.fld (F.DMA_C_CFG_ENGINE b.ch))) - b.flits := by
  have hn : (d.stageUsed (d.fld (F.DMA_C_CFG_ENGINE b.ch))).lo + (d.stageUsed (d.fld (F.DMA_C_CFG_ENGINE b.ch))).n ≤ 32 := by unfold Dev.stageUsed; split <;> decide
  have hl : d.fld (d.stageUsed (d.fld (F.DMA_C_CFG_ENGINE b.ch))) < 2 ^ (d.stageUsed (d.fld (F.DMA_C_CFG_ENGINE b.ch))).n := Nat.mod_lt _ (Nat.two_pow_pos _)
  exact (Dev.fld_setFld_same d (d.stageUsed (d.fld (F.DMA_C_CFG_ENGINE b.ch))) _ hn).trans (Nat.mod_eq_of_lt (by omega))

/-- Once the staging of a burst has been freed, channels that settle and deliver do not bring the burst back, and the share stays. -/
theorem Settles.freed {k : Prop} {d e : Dev} {b : Burst} (h : Settles k (d.freeStage b) e) :
    (∀ y ∈ e.dma.bursts, y.id ≠ b.id) ∧ e.fld (d.stageUsed (d.fld (F.DMA_C_CFG_ENGINE b.ch))) = d.fld (d.stageUsed (d.fld (F.DMA_C_CFG_ENGINE b.ch))) - b.flits := by
  refine ⟨fun y hy => ?_, (Dev.fld_congr rfl ?_).trans (d.freeStage_used b)⟩
  · obtain ⟨z, hz, hzy⟩ := h.ids y hy
    rw [← hzy]
    exact d.freeStage_others b z hz
  · unfold Dev.stageUsed
    split <;> exact h.staging

/-! ### Write responses (R287) -/

theorem Settles.burstAcked (d : Dev) (b : Burst) : Settles False (d.freeStage b) (d.burstAcked b) := .foldl (fun _ _ h => .deliver h) (.settleCh (.modRunD (.refl _)))

/-- HST answers the oldest burst that the read engine has sent. -/
def Dev.hstResponds (d : Dev) : Dev := match d.dma.bursts.find? fun b => b.sent && decide (d.fld (F.DMA_C_CFG_ENGINE b.ch) = 0) with
  | some b => d.burstAcked b
  | none => d

/-- BUF's response `r` to the write engine is taken: its burst is in error, or written. -/
def Dev.bufResponds (d : Dev) (r : BufResp) : Dev := match d.dma.bursts.find? fun b => decide (b.id = r.id) with
  | none => d
  | some b => if r.err then (d.freeStage b).descError b.ch b.idx 2 b.first else d.burstAcked b

/-- The next response to a client of BUF is taken, and `f` acts on it. -/
def Dev.withResp (d : Dev) (c : Nat) (f : BufResp → Dev → Dev) : Dev := match d.buf.resps.find? fun r => decide (r.client = c) with
  | none => d
  | some r => match d.bufTake c r.id with
    | none => d
    | some (r, d) => f r d

/-- The response has left BUF. -/
def Dev.respTaken (d : Dev) (r : BufResp) : Dev := { d with buf := { d.buf with resps := d.buf.resps.erase r } }

section
variable {d : Dev} {c : Nat} {f : BufResp → Dev → Dev}

theorem Dev.withResp_none (h : (d.buf.resps.find? fun r => decide (r.client = c)) = none) : d.withResp c f = d := by
  unfold Dev.withResp
  rw [h]

/-- The first response to a client is also the first to it of its number. -/
theorem BufResp.find_first {l : List BufResp} {q : BufResp} (h : (l.find? fun r => decide (r.client = c)) = some q) : (l.find? fun r => decide (r.client = c ∧ r.id = q.id)) = some q := by
  obtain ⟨hc, as, bs, rfl, ha⟩ := List.find?_eq_some_iff_append.1 h
  refine List.find?_eq_some_iff_append.2 ⟨by simpa using hc, as, bs, rfl, fun a ha' => ?_⟩
  have := ha a ha'
  simp_all

theorem Dev.withResp_some {q : BufResp} (h : (d.buf.resps.find? fun r => decide (r.client = c)) = some q) : d.withResp c f = f q (d.respTaken q) := by
  unfold Dev.withResp Dev.bufTake
  rw [h]
  dsimp only
  rw [BufResp.find_first h]
  rfl
end

theorem exec_writeResponse_hst (s : State) : exec (.dmaWriteResponse 0) s = s.doesIn 1 fun d => d.hstResponds.ringSettle := rfl
theorem exec_writeResponse_buf (s : State) : exec (.dmaWriteResponse 1) s = s.doesIn 1 fun d => (d.withResp 3 fun r d => d.bufResponds r).ringSettle := rfl

section
variable {s : State} (hk : s.dev.live 1 = true) (ht : s.dev.rng.tjobs = []) (hr : s.dev.rng.reads = [])
include hk ht hr

theorem gives_writeResponse_hst_none (h : (s.dev.dma.bursts.find? fun b => b.sent && decide (s.dev.fld (F.DMA_C_CFG_ENGINE b.ch) = 0)) = none) : Gives (.dmaWriteResponse 0) s fun d => d = s.dev := by
  refine gives_of_eq (exec_writeResponse_hst s) hk ?_ rfl
  unfold Dev.hstResponds
  rw [h]
  exact Dev.ringSettle_idle ht hr

theorem gives_writeResponse_buf_none (h : (s.dev.buf.resps.find? fun x => decide (x.client = 3)) = none) : Gives (.dmaWriteResponse 1) s fun d => d = s.dev := by
  refine gives_of_eq (exec_writeResponse_buf s) hk ?_ rfl
  rw [Dev.withResp_none h]
  exact Dev.ringSettle_idle ht hr

theorem gives_writeResponse_hst {b : Burst} (h : (s.dev.dma.bursts.find? fun b => b.sent && decide (s.dev.fld (F.DMA_C_CFG_ENGINE b.ch) = 0)) = some b) : Gives (.dmaWriteResponse 0) s fun d =>
    (∀ y ∈ d.dma.bursts, y.id ≠ b.id) ∧ d.fld F.DMA_STAT_RD_USED = s.dev.fld F.DMA_STAT_RD_USED - b.flits := by
  have hs := Settles.burstAcked s.dev b
  have hp := List.find?_some h
  have he : s.dev.fld (F.DMA_C_CFG_ENGINE b.ch) = 0 := of_decide_eq_true ((Bool.and_eq_true _ _).mp hp).2
  have hf := hs.freed
  rw [he] at hf
  refine gives_of_eq (exec_writeResponse_hst s) hk ?_ hf
  unfold Dev.hstResponds
  rw [h]
  exact hs.ringSettle ht hr

theorem gives_writeResponse_buf {q : BufResp} {b : Burst} (h : (s.dev.buf.resps.find? fun x => decide (x.client = 3)) = some q) (hb : (s.dev.dma.bursts.find? fun b => decide (b.id = q.id)) = some b)
    (he : s.dev.fld (F.DMA_C_CFG_ENGINE b.ch) = 1) : Gives (.dmaWriteResponse 1) s fun d =>
      (∀ y ∈ d.dma.bursts, y.id ≠ b.id) ∧ d.fld F.DMA_STAT_WR_USED = s.dev.fld F.DMA_STAT_WR_USED - b.flits := by
  have hs : Settles False ((s.dev.respTaken q).freeStage b) ((s.dev.respTaken q).bufResponds q) := by
    unfold Dev.bufResponds
    rw [show ((s.dev.respTaken q).dma.bursts.find? fun b => decide (b.id = q.id)) = some b from hb]
    exact .ite (.descError (.refl _)) (.burstAcked _ _)
  have hf := hs.freed
  rw [show (s.dev.respTaken q).fld (F.DMA_C_CFG_ENGINE b.ch) = 1 from he] at hf
  refine gives_of_eq (exec_writeResponse_buf s) hk ?_ hf
  rw [Dev.withResp_some h]
  exact hs.ringSettle ht hr
end

end Sys2Proof.Machine
end

section
/-! SUPPORT. DMA: the data of a burst arrives from the buffer and is delivered (R286, R288). -/
namespace Sys2Proof.Machine

/-! ### Delivery of a channel of the read engine -/

theorem Dev.hostWrites_frame {α : Type} (l : List α) (x : Nat) (a : α → Nat) (b : α → Bytes) (d : Dev) : let e := l.foldl (fun (d : Dev) p => d.hostWrite x (a p) (b p)) d
    e = { d with hst := e.hst, cnt := e.cnt } := by
  induction l generalizing d with
  | nil => rfl
  | cons p l ih =>
    have h1 : d.hostWrite x (a p) (b p) = { d with hst := (d.hostWrite x (a p) (b p)).hst, cnt := (d.hostWrite x (a p) (b p)).cnt } := rfl
    have h2 := ih (d.hostWrite x (a p) (b p))
    dsimp only [List.foldl_cons] at h1 h2 ⊢
    generalize List.foldl _ _ l = y at h2 ⊢
    rw [h2, h1]

/-- A burst that goes to the host leaves BUF alone, and the engine of its channel. -/
theorem Dev.sendBurst_read {d : Dev} {b : Burst} (he : d.fld (F.DMA_C_CFG_ENGINE b.ch) = 0) (r : DRun) (data : Bytes) : let e := d.sendBurst r b data
    e.buf = d.buf ∧ e.fld (F.DMA_C_CFG_ENGINE b.ch) = 0 := by
  unfold Dev.sendBurst
  extract_lets +onlyGivenNames x e d1 d2 o d3
  have h3 : d3.buf = d.buf := rfl
  have hw : d3.fld (F.DMA_C_CFG_ENGINE b.ch) = 0 := (Dev.fld_setFld_addr d1 (F.DMA_C_STAT_BUSY b.ch) (F.DMA_C_CFG_ENGINE b.ch) _ (show 0x5001000 + 0x20 * b.ch ≠ 0x5001004 + 0x20 * b.ch by omega)).trans he
  clear_value d3
  rw [if_pos he]
  have hf := Dev.hostWrites_frame (hostPieces (d3.mps r.desc.port) data.length (winAddr r.desc.dst r.desc.dwin o) 0 data.length) x (fun p => winAddr r.desc.dst r.desc.dwin (o + p.1)) (fun p => slice data p.1 p.2) d3
  dsimp only at hf ⊢
  generalize List.foldl _ d3 _ = y at hf ⊢
  rw [hf]
  exact ⟨h3, hw⟩

theorem Dev.deliver_read {d : Dev} {x n : Nat} (he : d.fld (F.DMA_C_CFG_ENGINE x) = 0) : (d.deliver x n).buf = d.buf := by
  induction n generalizing d with
  | zero => rfl
  | succ n ih =>
    unfold Dev.deliver
    split
    · rfl
    next b hb =>
    have hx : b.ch = x := by
      have := List.find?_some hb
      simp_all
    subst hx
    split
    · next data r _ _ =>
      split
      · obtain ⟨h1, h2⟩ := d.sendBurst_read he r data
        exact (ih h2).trans h1
      · rfl
    · rfl

/-- A burst that has been sent stays so while a channel delivers. -/
theorem Dev.deliver_sent {d : Dev} {k : Nat} (x n : Nat) (h : ∃ b ∈ d.dma.bursts, b.id = k ∧ b.sent = true) : ∃ b ∈ (d.deliver x n).dma.bursts, b.id = k ∧ b.sent = true := by
  induction n generalizing d with
  | zero => exact h
  | succ n ih =>
    unfold Dev.deliver
    split
    · exact h
    split
    · next b _ data r _ _ =>
      split
      · refine ih ?_
        rw [Dev.sendBurst_bursts]
        obtain ⟨y, hy, hk, hs⟩ := h
        refine ⟨_, List.mem_map_of_mem hy, ?_⟩
        split
        · exact ⟨hk, rfl⟩
        · exact ⟨hk, hs⟩
      · exact h
    · exact h

/-! ### One part that is all the data of a burst -/

theorem Burst.data_whole {b : Burst} {x : Bytes} (hp : b.parts = [(0, x)]) (hx : x.length = 128 * b.n) : b.data.isSome = true := by
  unfold Burst.data
  rw [hp]
  simp [hx]

section
variable {d : Dev} {b : Burst} {r : DRun} {x n : Nat} {y : Bytes}
  (hb : (d.dma.bursts.find? fun y => y.ch == x && !y.sent && !y.dead) = some b) (hp : b.parts = [(0, y)]) (hy : y.length = 128 * b.n) (hr : ((d.dch x).runs.find? fun r => decide (r.idx = b.idx)) = some r)
include hb hp hy hr

/-- The first burst that a channel has not sent waits for credits. -/
theorem Dev.deliver_waits (hg : d.burstGoes b = false) : d.deliver x n = d := by
  cases n with
  | zero => rfl
  | succ n =>
    obtain ⟨data, hd⟩ := Option.isSome_iff_exists.1 (Burst.data_whole hp hy)
    unfold Dev.deliver
    rw [hb]
    dsimp only
    rw [hd, hr]
    dsimp only
    rw [hg]
    rfl

/-- The first burst that a channel has not sent goes with its credits. -/
theorem Dev.deliver_goes (hg : d.burstGoes b = true) : ∃ z ∈ (d.deliver x (n + 1)).dma.bursts, z.id = b.id ∧ z.sent = true := by
  obtain ⟨data, hd⟩ := Option.isSome_iff_exists.1 (Burst.data_whole hp hy)
  unfold Dev.deliver
  rw [hb]
  dsimp only
  rw [hd, hr]
  dsimp only
  rw [hg]
  refine Dev.deliver_sent _ _ ?_
  rw [Dev.sendBurst_bursts]
  exact ⟨_, List.mem_map_of_mem (List.mem_of_find?_eq_some hb), by rw [if_pos rfl], by rw [if_pos rfl]⟩
end

/-! ### Staging -/

/-- Data from byte `ofs` on becomes a part of burst `k`. -/
def Burst.put (k ofs : Nat) (y : Bytes) (b : Burst) : Burst := if b.id = k then { b with parts := b.parts ++ [(ofs, y)] } else b
def Dev.partPut (d : Dev) (k ofs : Nat) (y : Bytes) : Dev := d.modDma fun m => { m with bursts := m.bursts.map (Burst.put k ofs y) }

section
variable (k ofs : Nat) (y : Bytes)

theorem Burst.put_keeps (b : Burst) : let p := b.put k ofs y
    p.id = b.id ∧ p.ch = b.ch ∧ p.sent = b.sent ∧ p.dead = b.dead ∧ p.flits = b.flits ∧ p.idx = b.idx ∧ p.n = b.n := by
  unfold Burst.put
  split <;> exact ⟨rfl, rfl, rfl, rfl, rfl, rfl, rfl⟩

theorem Dev.burstGoes_partPut (d : Dev) (b : Burst) : (d.partPut k ofs y).burstGoes (b.put k ofs y) = d.burstGoes b := by
  have hw : (d.partPut k ofs y).hstWrites = d.hstWrites := d.hstWrites_mapBursts _ fun b => by
    obtain ⟨-, hc, hs, -, hf, -⟩ := b.put_keeps k ofs y
    exact ⟨hc, hs, hf⟩
  obtain ⟨-, hc, -, -, hf, -⟩ := b.put_keeps k ofs y
  unfold Dev.burstGoes
  rw [hc, hf, hw]
  rfl

/-- The first burst that a channel has not sent is the same with its new data. -/
theorem Dev.partPut_first {d : Dev} {x : Nat} {b : Burst} (hb : (d.dma.bursts.find? fun y => y.ch == x && !y.sent && !y.dead) = some b) :
    ((d.partPut k ofs y).dma.bursts.find? fun y => y.ch == x && !y.sent && !y.dead) = some (b.put k ofs y) := by
  show ((d.dma.bursts.map (Burst.put k ofs y)).find? _) = _
  rw [List.find?_map]
  have h : (fun y : Burst => y.ch == x && !y.sent && !y.dead) ∘ Burst.put k ofs y = fun y => y.ch == x && !y.sent && !y.dead := funext fun z => by
    obtain ⟨-, hc, hs, hd, -⟩ := z.put_keeps k ofs y
    dsimp only [Function.comp]
    rw [hc, hs, hd]
  rw [h, hb]
  rfl
end

section
variable {d : Dev} {k : Nat} {b : Burst} (hk : (d.dma.bursts.find? fun b => decide (b.id = k)) = some b) (hd : b.dead = false) (y : Bytes) (inj : Bool)
include hk hd

theorem Dev.stageData_part : d.stageData k 0 y none inj = (d.partPut k 0 y).deliver b.ch (d.partPut k 0 y).dma.bursts.length := by
  unfold Dev.stageData
  rw [hk]
  dsimp only
  rw [hd]
  rfl

/-- Data that is in error from its first line on discards the burst. -/
theorem Dev.stageData_refused (st : Nat) : d.stageData k 0 y (some (st, 0)) inj = (d.freeStage b).descError b.ch b.idx st b.first inj := by
  unfold Dev.stageData
  rw [hk]
  dsimp only
  rw [hd, Nat.zero_min]
  rfl

variable {r : DRun} (hb : (d.dma.bursts.find? fun y => y.ch == b.ch && !y.sent && !y.dead) = some b) (hp : b.parts = []) (hy : y.length = 128 * b.n) (he : d.fld (F.DMA_C_CFG_ENGINE b.ch) = 0)
  (hr : ((d.dch b.ch).runs.find? fun r => decide (r.idx = b.idx)) = some r)
include hb hp hy he hr

/-- All the data of the burst that is next in its channel. -/
theorem Dev.stageData_next : let e := d.stageData k 0 y none inj
    e.buf = d.buf ∧ (d.burstGoes b = true → ∃ b' ∈ e.dma.bursts, b'.id = b.id ∧ b'.sent = true) ∧
      (d.burstGoes b = false → ∃ b' ∈ e.dma.bursts, b'.id = b.id ∧ b'.sent = false ∧ b'.parts = [(0, y)]) := by
  obtain ⟨hid, hc, hs, hdd, hf, hi, hn⟩ := b.put_keeps k 0 y
  have hput : (b.put k 0 y).parts = [(0, y)] := by
    unfold Burst.put
    rw [if_pos (Dev.id_of_find hk), hp]
    rfl
  have hfirst := d.partPut_first k 0 y hb
  have hmem := List.mem_of_find?_eq_some hfirst
  have hrun : (((d.partPut k 0 y).dch b.ch).runs.find? fun r => decide (r.idx = (b.put k 0 y).idx)) = some r := by rw [hi]; exact hr
  have hlen : y.length = 128 * (b.put k 0 y).n := by rw [hn]; exact hy
  have hgo := d.burstGoes_partPut k 0 y b
  have hsent : b.sent = false := by
    have := List.find?_some hb
    simp_all
  dsimp only
  rw [Dev.stageData_part hk hd]
  refine ⟨Dev.deliver_read he, fun hg => ?_, fun hg => ?_⟩
  · obtain ⟨n, hn⟩ := Nat.exists_eq_succ_of_ne_zero (Nat.ne_of_gt (List.length_pos_of_mem hmem))
    rw [hn, ← hid]
    exact Dev.deliver_goes hfirst hput hlen hrun (hgo.trans hg)
  · rw [Dev.deliver_waits hfirst hput hlen hrun (hgo.trans hg)]
    exact ⟨_, hmem, hid, hs.trans hsent, hput⟩
end

/-! ### The command -/

/-- BUF's response `r` to the read engine is read into staging. -/
def Dev.readArrives (d : Dev) (sram : SramRead) (r : BufResp) : Dev :=
  if (d.stageRead sram).2.1 then (d.stageRead sram).1.stageData r.id 0 r.data (some (6, 0)) (d.stageRead sram).2.2
  else (d.stageRead sram).1.stageData r.id 0 r.data (if r.err then some (2, r.bad.getD 0) else none)

theorem exec_dmaReadData (sram : SramBits) (s : State) : exec (.dmaReadData sram) s = s.doesIn 1 fun d => (d.withResp 2 fun r d => d.readArrives (sramRead sram) r).ringSettle := rfl

/-- Staging that is read without a loss. -/
theorem Dev.readArrives_kept {d : Dev} {sram : SramRead} (ha : d.flag F.DMA_INJECT_ARM = false) (hs : ∀ k p, sram ≠ .uncorrectable k p) (r : BufResp) :
    d.readArrives sram r = (d.sram .dma 0 sram).stageData r.id 0 r.data (if r.err then some (2, r.bad.getD 0) else none) := by
  have h : d.stageRead sram = (d.sram .dma 0 sram, false, false) := by
    unfold Dev.stageRead
    rw [ha]
    cases sram with
    | ok => rfl
    | mended k i j => rfl
    | uncorrectable k p => exact absurd rfl (hs k p)
  unfold Dev.readArrives
  rw [h]
  rfl

section
variable {s : State} {sram : SramBits} (hk : s.dev.live 1 = true) (ht : s.dev.rng.tjobs = []) (hr : s.dev.rng.reads = [])
include hk ht hr

theorem gives_readData_none (h : (s.dev.buf.resps.find? fun x => decide (x.client = 2)) = none) : Gives (.dmaReadData sram) s fun d => d = s.dev := by
  refine gives_of_eq (exec_dmaReadData sram s) hk ?_ rfl
  rw [Dev.withResp_none h]
  exact Dev.ringSettle_idle ht hr

variable {q : BufResp} {b : Burst} (hq : (s.dev.buf.resps.find? fun x => decide (x.client = 2)) = some q) (hb : (s.dev.dma.bursts.find? fun b => decide (b.id = q.id)) = some b) (hd : b.dead = false)
  (ha : s.dev.flag F.DMA_INJECT_ARM = false) (hs : ∀ k p, sramRead sram ≠ .uncorrectable k p)
include hq hb hd ha hs

/-- A response in error from its first line on discards its burst. -/
theorem gives_readData_err (he : q.err = true) (h0 : q.bad.getD 0 = 0) : Gives (.dmaReadData sram) s fun d => d.buf.resps = s.dev.buf.resps.erase q ∧ ∀ y ∈ d.dma.bursts, y.id ≠ b.id := by
  have hf := (s.dev.respTaken q).sram_frame .dma 0 (sramRead sram)
  have hx := Dev.readArrives_kept (d := s.dev.respTaken q) ha hs q
  generalize (s.dev.respTaken q).sram .dma 0 (sramRead sram) = e at hf hx
  rw [he, h0, if_pos rfl, Dev.stageData_refused (by rw [hf]; exact hb) hd] at hx
  have hset : Settles True (e.freeStage b) ((e.freeStage b).descError b.ch b.idx 2 b.first false) := .descError (.refl _)
  have hids := hset.freed.1
  rw [← hx] at hset hids
  refine gives_of_eq (exec_dmaReadData sram s) hk ?_ ⟨(hset.resps trivial).trans ?_, hids⟩
  · rw [Dev.withResp_some hq]
    exact hset.ringSettle (by rw [hf]; exact ht) (by rw [hf]; exact hr)
  · rw [hf]
    rfl

/-- A response that is the whole of the burst that is next in its channel goes to the host, or waits for HST's credits. -/
theorem gives_readData (he : q.err = false) (hf : (s.dev.dma.bursts.find? fun y => y.ch == b.ch && !y.sent && !y.dead) = some b) (hp : b.parts = []) (hy : q.data.length = 128 * b.n)
    (hE : s.dev.fld (F.DMA_C_CFG_ENGINE b.ch) = 0) {r : DRun} (hrun : ((s.dev.dch b.ch).runs.find? fun r => decide (r.idx = b.idx)) = some r) : Gives (.dmaReadData sram) s fun d =>
      d.buf.resps = s.dev.buf.resps.erase q ∧ (s.dev.burstGoes b = true → ∃ b' ∈ d.dma.bursts, b'.id = b.id ∧ b'.sent = true) ∧
      (s.dev.burstGoes b = false → ∃ b' ∈ d.dma.bursts, b'.id = b.id ∧ b'.sent = false ∧ b'.parts = [(0, q.data)]) := by
  have hfr := (s.dev.respTaken q).sram_frame .dma 0 (sramRead sram)
  have hfld := Dev.stageSram_fld (s.dev.respTaken q) hs
  have hx := Dev.readArrives_kept (d := s.dev.respTaken q) ha hs q
  generalize (s.dev.respTaken q).sram .dma 0 (sramRead sram) = e at hfr hfld hx
  have hbit : 30 + 1 ≤ 31 := by decide
  have hg : e.burstGoes b = s.dev.burstGoes b := by
    have hv : e.v = s.dev.v ∧ e.pools = s.dev.pools := by rw [hfr]; exact ⟨rfl, rfl⟩
    have hw : e.hstWrites = s.dev.hstWrites := Dev.hstWrites_congr (by rw [hfr]; rfl) fun x => hfld (F.DMA_C_CFG_ENGINE x) (.inr hbit)
    have hfit {j : Nat} (hj : j < 8) (u n : Nat) : e.fitsPool .hst j u n = s.dev.fitsPool .hst j u n :=
      Dev.fitsPool_congr hv.1 hv.2 (hfld (fFENCED .hst j) (.inl (show 0x6000000 + 0xFC04 + 8 * j ≠ 0x0A000060 by omega))) (hfld (fCREDITS .hst j) (.inl (show 0x6000000 + 0xFC00 + 8 * j ≠ 0x0A000060 by omega))) u n
    unfold Dev.burstGoes
    rw [hfit (by decide), hfit (by decide), hw, hfld (F.DMA_C_CFG_ENGINE b.ch) (.inr hbit)]
    rfl
  have hdata := Dev.stageData_next (d := e) (k := q.id) (b := b) (by rw [hfr]; exact hb) hd q.data false (by rw [hfr]; exact hf) hp hy ((hfld (F.DMA_C_CFG_ENGINE b.ch) (.inr hbit)).trans hE)
    (by rw [hfr]; exact hrun)
  have hset : Settles False (e.partPut q.id 0 q.data) (e.stageData q.id 0 q.data none false) := by
    rw [Dev.stageData_part (by rw [hfr]; exact hb) hd]
    exact .deliver (.refl _)
  rw [he, if_neg (by decide)] at hx
  rw [← hx, hg] at hdata
  rw [← hx] at hset
  obtain ⟨hbuf, hgo, hwait⟩ := hdata
  refine gives_of_eq (exec_dmaReadData sram s) hk ?_ ⟨?_, hgo, hwait⟩
  · rw [Dev.withResp_some hq]
    exact hset.ringSettle (by rw [hfr]; exact ht) (by rw [hfr]; exact hr)
  · rw [hbuf, hfr]
    rfl
end

end Sys2Proof.Machine
end

section
/-! SUPPORT. DMA: STOP, RESUME, doorbells and the descriptors of host channels (R283, R288 to R290). -/
namespace Sys2Proof.Machine

/-! ### The control word of a channel -/

theorem locate_chCtrl : ∀ x : Fin 64, locate (0x500100C + 0x20 * x.val) = some (Blk.dma, 0x100C + 0x20 * x.val) := by decide
theorem accOf_chCtrl : ∀ (v : Bool) (x : Fin 64), (accOf v (0x500100C + 0x20 * x.val)).ws = 0 := by decide

/-- A reserved bit of DMA written to is logged, and is no critical warning. -/
theorem Dev.resEvent_dma_frame (d : Dev) (a v who : Nat) : let e := d.resEvent .dma a v who
    e = { d with regs := e.regs, log := e.log, lost := e.lost } := by
  unfold Dev.resEvent Dev.resWrite
  split
  · exact Dev.event_quiet_frame _ (by split <;> decide) _ _ _ _
  · rfl

/-- The word of a write to CTRL has been written; what it commands has not been done. -/
def Dev.ctrlPut (d : Dev) (x v who : Nat) : Dev := (d.regWrite (F.DMA_C_CTRL_DOOR x).a v who).1

section
variable (d : Dev) (x : Fin 64) (v who : Nat)

theorem Dev.ctrlPut_frame : let e := d.ctrlPut x v who
    e = { d with regs := e.regs, log := e.log, lost := e.lost } := by
  have hs := Dev.regWrite_unstaged d (show (0x500100C + 0x20 * x.val) % 4 = 0 by omega) (locate_chCtrl x) (accOf_chCtrl d.v x) v who
  rw [Dev.clearPage_below _ _ _ (by omega), Dev.putAcc_frame] at hs
  have he := d.resEvent_dma_frame (0x500100C + 0x20 * x.val) v who
  show Dev.ctrlPut d x v who = _
  unfold Dev.ctrlPut
  dsimp only [F.DMA_C_CTRL_DOOR] at he ⊢
  rw [hs, he]

theorem Dev.ctrlPut_word {a : Nat} (h1 : a ≠ 0x500100C + 0x20 * x.val) (h2 : a ≠ 0x0A000060) : (d.ctrlPut x v who).word a = d.word a :=
  Dev.regWrite_word_ne (d := d) (v := v) (who := who) (show (0x500100C + 0x20 * x.val) % 4 = 0 by omega) (locate_chCtrl x) (accOf_chCtrl d.v x) h1 h2

theorem Dev.ctrlPut_flag (f : RF) (h1 : f.a ≠ 0x500100C + 0x20 * x.val) (h2 : f.a ≠ 0x0A000060) : (d.ctrlPut x v who).flag f = d.flag f :=
  congrArg (· != 0) (Dev.fld_congr rfl (d.ctrlPut_word x v who h1 h2))

theorem Dev.ctrlPut_dch (y : Nat) : (d.ctrlPut x v who).dch y = d.dch y := by rw [d.ctrlPut_frame]; rfl

theorem Dev.ctrlPut_hostRing : (d.ctrlPut x v who).hostRing x ((d.ctrlPut x v who).fld (F.DMA_C_STAT_HEAD x)) = d.hostRing x (d.fld (F.DMA_C_STAT_HEAD x)) := by
  have h {f : RF} (h1 : f.a ≠ 0x500100C + 0x20 * x.val) (h2 : f.a ≠ 0x0A000060) : (d.ctrlPut x v who).fld f = d.fld f := Dev.fld_congr rfl (d.ctrlPut_word x v who h1 h2)
  have hlo := h (f := F.DMA_C_RBASE_LO_RBASE x) (by dsimp only [F.DMA_C_RBASE_LO_RBASE]; omega) (by dsimp only [F.DMA_C_RBASE_LO_RBASE]; omega)
  have hhi := h (f := F.DMA_C_RBASE_HI_RBASE x) (by dsimp only [F.DMA_C_RBASE_HI_RBASE]; omega) (by dsimp only [F.DMA_C_RBASE_HI_RBASE]; omega)
  have hhd := h (f := F.DMA_C_STAT_HEAD x) (by dsimp only [F.DMA_C_STAT_HEAD]; omega) (by dsimp only [F.DMA_C_STAT_HEAD]; omega)
  unfold Dev.hostRing
  rw [hlo, hhi, hhd]

theorem Dev.dmaCtrlWrite_stop : d.dmaCtrlWrite x 4 who = (d.ctrlPut x 4 who).dmaStop x := rfl
theorem Dev.dmaCtrlWrite_resume : d.dmaCtrlWrite x 2 who = (d.ctrlPut x 2 who).dmaResume x := rfl
theorem Dev.dmaCtrlWrite_door : d.dmaCtrlWrite x 1 who = if 56 ≤ x.val then (d.ctrlPut x 1 who).fetchDesc x else d.ctrlPut x 1 who := by
  show (if (1 : Nat).testBit 0 = true ∧ 56 ≤ x.val then _ else _) = _
  simp only [Nat.testBit_zero, Nat.one_mod, decide_true, true_and]
  rfl
end

/-! ### HALTED beside BUSY -/

theorem Dev.halted_setDch (d : Dev) (x : Nat) (c : DChan) : (d.setDch x c).flag (F.DMA_C_STAT_HALTED x) = d.flag (F.DMA_C_STAT_HALTED x) :=
  congrArg (· != 0) (Dev.fld_setFld_beside _ (F.DMA_C_STAT_BUSY x) (F.DMA_C_STAT_HALTED x) _ rfl rfl)

theorem Dev.halted_setHalted (d : Dev) {x : Nat} (b : Bool) : (d.setHalted x b).flag (F.DMA_C_STAT_HALTED x) = b := by
  have ha : (F.DMA_C_STAT_HALTED x).a ≠ (if x < 32 then F.DMA_HALT_LO_HALTED.a else F.DMA_HALT_HI_HALTED.a) := by
    dsimp only [F.DMA_C_STAT_HALTED, F.DMA_HALT_LO_HALTED, F.DMA_HALT_HI_HALTED]
    split <;> omega
  exact (congrArg (· != 0) (Dev.fld_setFld_addr (d.setFlag (F.DMA_C_STAT_HALTED x) b) ⟨_, x % 32, 1⟩ (F.DMA_C_STAT_HALTED x) b.toNat ha)).trans (Dev.flag_setFlag_same d (F.DMA_C_STAT_HALTED x) b (show 30 + 1 ≤ 32 by decide) (show 0 < 1 by decide))

/-! ### Descriptors that end keep the channels -/

theorem Dev.dmaReport_chans (d : Dev) (q x : Nat) (c : Desc) (st n i : Nat) : (d.dmaReport q x c st n i).dma.chans = d.dma.chans := by
  unfold Dev.dmaReport
  dsimp only
  split
  · have hd {e : Dev} {t : Tag} {a st n : Nat} : (e.cmdReport t a st n).dma = e.dma := (Serves.cmdReport (.refl e)).dma
    rw [hd]
    rfl
  · rfl

theorem Dev.setHalted_dma (d : Dev) (x : Nat) (b : Bool) : (d.setHalted x b).dma = d.dma := rfl

theorem Dev.endDesc_chans (d : Dev) (x : Nat) (c : Desc) (i st n : Nat) (inj : Bool) : (d.endDesc x c i st n inj).dma.chans = d.dma.chans := by
  unfold Dev.endDesc
  extract_lets +onlyGivenNames _ d1 d2 bad d3
  have h2 : d2.dma = d.dma := rfl
  clear_value d2
  have h3 : d3.dma = d.dma := by
    dsimp only [d3]
    split
    · rw [Dev.event_frame]
      exact h2
    · exact h2
  clear_value d3
  split
  · rw [Dev.dmaReport_chans]
    show d3.dma.chans = _
    rw [h3]
  · dsimp only
    split <;> exact congrArg DmaS.chans h3

theorem Dev.abandonRing_chans (d : Dev) (x n : Nat) : (d.abandonRing x n).dma.chans = d.dma.chans := by
  induction n generalizing d with
  | zero => rfl
  | succ n ih =>
    unfold Dev.abandonRing
    dsimp only
    split
    · exact (ih _).trans (d.endDesc_chans _ _ _ _ _ _)
    · rfl

/-! ### STOP (R289) -/

/-- A descriptor that a STOP finds issuing stops where it stands. -/
def DRun.quit (r : DRun) : DRun := if r.err.isNone ∧ r.issued < r.desc.lines then { r with err := some (7, r.issued) } else r
def Dev.stopped (d : Dev) (x : Nat) : Dev := d.setDch x { d.dch x with stopping := true, runs := (d.dch x).runs.map DRun.quit }

theorem Dev.dmaStop_eq (d : Dev) (x : Nat) : d.dmaStop x = (d.stopped x).settleCh x := rfl
theorem Dev.dch_stopped (d : Dev) (x : Nat) : (d.stopped x).dch x = { d.dch x with stopping := true, runs := (d.dch x).runs.map DRun.quit } := Dev.dch_setDch _ _ _
theorem DRun.quit_idx (r : DRun) : r.quit.idx = r.idx := by
  unfold DRun.quit
  split <;> rfl

section
variable {d : Dev} {x : Nat}

/-- A stopped channel with nothing begun abandons its ring and halts. -/
theorem Dev.settleCh_halts (hr : (d.dch x).runs = []) (hs : (d.dch x).stopping = true) : let e := d.settleCh x
    e.flag (F.DMA_C_STAT_HALTED x) = true ∧ (e.dch x).stopping = false ∧ (e.dch x).runs = [] := by
  have h : d.settleCh x = ((d.abandonRing x (d.ringSize x)).setHalted x true).setDch x
      { ((d.abandonRing x (d.ringSize x)).setHalted x true).dch x with stopping := false, next := ((d.abandonRing x (d.ringSize x)).setHalted x true).fld (F.DMA_C_STAT_HEAD x) } := by
    unfold Dev.settleCh Dev.settleDma
    dsimp only
    rw [hr, hs]
    rfl
  have hc : (((d.abandonRing x (d.ringSize x)).setHalted x true).dch x).runs = [] := by
    unfold Dev.dch
    rw [Dev.setHalted_dma, Dev.abandonRing_chans]
    exact hr
  have hh := (d.abandonRing x (d.ringSize x)).halted_setHalted (x := x) true
  generalize (d.abandonRing x (d.ringSize x)).setHalted x true = a at h hc hh
  dsimp only
  rw [h, Dev.dch_setDch, Dev.halted_setDch]
  exact ⟨hh, rfl, hc⟩

/-- A descriptor with a burst under way keeps its channel from settling. -/
theorem Dev.settleCh_waits {r : DRun} {rest : List DRun} (hr : (d.dch x).runs = r :: rest) (hb : (d.dma.bursts.any fun b => b.ch == x && b.idx == r.idx && !b.dead) = true) : d.settleCh x = d := by
  unfold Dev.settleCh Dev.settleDma
  dsimp only
  rw [hr]
  dsimp only
  refine if_neg ?_
  unfold DRun.finished
  rw [hb, Bool.not_true, Bool.and_false]
  exact Bool.false_ne_true
end

/-! ### Doorbells and fetches (R283) -/

section
variable {d : Dev} {x : Nat}

/-- A host channel may read the descriptor at HEAD. -/
def Dev.mayFetch (d : Dev) (x : Nat) : Prop :=
  d.flag (F.DMA_C_CFG_EN x) = true ∧ d.flag F.DMA_DIAG_UNLOCKED = true ∧ d.flag (F.DMA_C_STAT_HALTED x) = false ∧ (d.dch x).runs = []

/-- A channel reads the descriptor at HEAD. -/
def Dev.fetches (d : Dev) (x : Nat) : Dev := (d.setDch x { d.dch x with fetching := true }).hostRead none 0 x 0 (d.hostRing x (d.fld (F.DMA_C_STAT_HEAD x))) 32

theorem Dev.fetchDesc_again (hf : (d.dch x).fetching = true) : d.fetchDesc x = d.setDch x { d.dch x with again := true } := if_pos hf

theorem Dev.fetchDesc_fetches (hf : (d.dch x).fetching = false) (hm : d.mayFetch x) : d.fetchDesc x = d.fetches x := by
  obtain ⟨he, hu, hh, hr⟩ := hm
  unfold Dev.fetchDesc Dev.fetches
  dsimp only
  rw [if_neg (by rw [hf]; exact Bool.false_ne_true), if_neg (by simp [he, hu, hh, hr])]

theorem Dev.fetchDesc_stays (hf : (d.dch x).fetching = false) (hm : ¬d.mayFetch x) : d.fetchDesc x = d := by
  unfold Dev.fetchDesc
  dsimp only
  rw [if_neg (by rw [hf]; exact Bool.false_ne_true)]
  refine if_pos ?_
  unfold Dev.mayFetch at hm
  generalize d.flag (F.DMA_C_CFG_EN x) = en at hm ⊢
  generalize d.flag F.DMA_DIAG_UNLOCKED = un at hm ⊢
  generalize d.flag (F.DMA_C_STAT_HALTED x) = ha at hm ⊢
  by_contra h
  simp at h
  exact hm ⟨h.2, h.1.2, h.1.1.2, h.1.1.1⟩

theorem Dev.setDch_frame (c : DChan) : let e := d.setDch x c
    e = { d with dma := { d.dma with chans := e.dma.chans }, regs := e.regs } := rfl

/-- The request for a descriptor's 32 bytes goes to the host. -/
theorem Dev.hostRead_reads (d : Dev) (o y : Nat) (p : Fin 2) (a n : Nat) : ∃ r, (d.hostRead none o y p a n).hst.reads = d.hst.reads ++ [r] ∧ r.ch = y ∧ r.len = n ∧ r.addr = a := ⟨_, rfl, rfl, rfl, rfl⟩

theorem Dev.fetches_spec : let e := d.fetches x
    e.dch x = { d.dch x with fetching := true } ∧ e = { d with dma := { d.dma with chans := e.dma.chans }, regs := e.regs, hst := e.hst, cnt := e.cnt } ∧
      e.flag (F.DMA_C_STAT_HALTED x) = d.flag (F.DMA_C_STAT_HALTED x) ∧
      ∃ r, e.hst.reads = d.hst.reads ++ [r] ∧ r.ch = x ∧ r.len = 32 ∧ r.addr = d.hostRing x (d.fld (F.DMA_C_STAT_HEAD x)) := by
  have h1 := d.dch_setDch x { d.dch x with fetching := true }
  have h2 := Dev.setDch_frame (d := d) (x := x) { d.dch x with fetching := true }
  have h3 := d.halted_setDch x { d.dch x with fetching := true }
  unfold Dev.fetches
  generalize d.hostRing x (d.fld (F.DMA_C_STAT_HEAD x)) = a
  generalize d.setDch x { d.dch x with fetching := true } = b at h1 h2 h3 ⊢
  dsimp only
  have h4 := b.hostRead_reads 0 x 0 a 32
  have h5 := b.hostRead_frame none 0 x 0 a 32
  generalize b.hostRead none 0 x 0 a 32 = e at h4 h5
  rw [show b.hst = d.hst by rw [h2]] at h4
  refine ⟨?_, ?_, ?_, h4⟩
  · rw [← h1, h5]; rfl
  · rw [h5, h2]
  · rw [← h3, h5]; rfl

/-- A fetch reads at most, and does not touch HALTED or the bursts. -/
theorem Dev.fetchDesc_spec : let e := d.fetchDesc x
    e = { d with dma := { d.dma with chans := e.dma.chans }, regs := e.regs, hst := e.hst, cnt := e.cnt } ∧ e.flag (F.DMA_C_STAT_HALTED x) = d.flag (F.DMA_C_STAT_HALTED x) ∧
      (e.dch x).runs = (d.dch x).runs ∧ ((d.dch x).fetching = false → (e.dch x).again = (d.dch x).again) := by
  dsimp only
  cases hf : (d.dch x).fetching
  · by_cases hm : d.mayFetch x
    · rw [Dev.fetchDesc_fetches hf hm]
      obtain ⟨h1, h2, h3, -⟩ := Dev.fetches_spec (d := d) (x := x)
      exact ⟨h2, h3, by rw [h1], fun _ => by rw [h1]⟩
    · rw [Dev.fetchDesc_stays hf hm]
      exact ⟨rfl, rfl, rfl, fun _ => rfl⟩
  · rw [Dev.fetchDesc_again hf]
    exact ⟨rfl, d.halted_setDch _ _, by rw [Dev.dch_setDch], fun h => absurd h (by decide)⟩
end

end Sys2Proof.Machine
end

section
/-! SUPPORT. DMA: the commands to channels, and the obligation on DMA (R281 to R289). -/
namespace Sys2Proof.Machine

theorem exec_dmaStop (x : Fin 64) (who : Requester) (s : State) : exec (.dmaStop x who) s = s.doesIn 1 fun d => (d.dmaCtrlWrite x 4 (reqCode who)).ringSettle := rfl
theorem exec_dmaResume (x : Fin 64) (who : Requester) (s : State) : exec (.dmaResume x who) s = s.doesIn 1 fun d => d.dmaCtrlWrite x 2 (reqCode who) := rfl
theorem exec_dmaDoorbell (x : Fin 64) (who : Requester) (s : State) : exec (.dmaDoorbell x who) s = s.doesIn 1 fun d => d.dmaCtrlWrite x 1 (reqCode who) := rfl

/-- The descriptor that a host channel waited for has come. -/
def Dev.descFetched (d : Dev) (x : Nat) (q : Desc) : Dev :=
  if q.own && !(d.dch x).stopping && d.flag F.DMA_DIAG_UNLOCKED && !d.flag (F.DMA_C_STAT_HALTED x) then
    d.setDch x { d.dch x with fetching := false, again := false, runs := [{ idx := d.fld (F.DMA_C_STAT_HEAD x), desc := q }] }
  else if (d.dch x).again then (d.setDch x { d.dch x with fetching := false, again := false }).fetchDesc x else d.setDch x { d.dch x with fetching := false, again := false }

/-- No read of a channel's descriptor is out any more. -/
def Dev.descRead (d : Dev) (x : Nat) : Dev := { d with hst := { d.hst with reads := d.hst.reads.filter fun r => !(r.burst.isNone && r.ch == x) } }

theorem exec_descFetched (x : Fin 64) (desc : Bytes) (s : State) : exec (.dmaHostDescriptorFetched x desc) s =
    s.doesIn 1 fun d => if !(d.dch x).fetching then d else (d.descRead x).descFetched x (descOf desc) := rfl

theorem Dev.descFetched_spec (d : Dev) (x : Nat) (q : Desc) : let e := d.descFetched x q
    let runs := q.own = true ∧ (d.dch x).stopping = false ∧ d.flag F.DMA_DIAG_UNLOCKED = true ∧ d.flag (F.DMA_C_STAT_HALTED x) = false
    (runs → (e.dch x).fetching = false ∧ (e.dch x).again = false ∧ (e.dch x).runs = [{ idx := d.fld (F.DMA_C_STAT_HEAD x), desc := q }]) ∧
    (¬runs → (e.dch x).runs = (d.dch x).runs ∧ (e.dch x).again = false ∧ ((d.dch x).again = false → (e.dch x).fetching = false)) ∧
    e = { d with dma := e.dma, hst := e.hst, regs := e.regs, cnt := e.cnt } := by
  unfold Dev.descFetched
  dsimp only
  split
  case isTrue h =>
    simp only [Bool.and_eq_true, Bool.not_eq_true'] at h
    rw [Dev.dch_setDch]
    exact ⟨fun _ => ⟨rfl, rfl, rfl⟩, fun hn => absurd ⟨h.1.1.1, h.1.1.2, h.1.2, h.2⟩ hn, rfl⟩
  case isFalse h =>
    simp only [Bool.and_eq_true, Bool.not_eq_true'] at h
    refine ⟨fun ⟨ho, hs, hu, hh⟩ => absurd ⟨⟨⟨ho, hs⟩, hu⟩, hh⟩ h, fun _ => ?_, ?_⟩
    · have hc := d.dch_setDch x { d.dch x with fetching := false, again := false }
      cases ha : (d.dch x).again
      · rw [if_neg (by decide), hc]
        exact ⟨rfl, rfl, fun _ => rfl⟩
      · rw [if_pos rfl]
        obtain ⟨-, -, hr, hag⟩ := Dev.fetchDesc_spec (d := d.setDch x { d.dch x with fetching := false, again := false }) (x := x)
        rw [hc] at hr hag
        exact ⟨hr, hag rfl, fun hf => absurd hf (by decide)⟩
    · have hd := Dev.setDch_frame (d := d) (x := x) { d.dch x with fetching := false, again := false }
      generalize d.setDch x { d.dch x with fetching := false, again := false } = b at hd ⊢
      split
      · obtain ⟨hf, -⟩ := Dev.fetchDesc_spec (d := b) (x := x)
        generalize b.fetchDesc x = y at hf ⊢
        rw [hf, hd]
      · rw [hd]

section
variable {s : State} {x : Fin 64} {who : Requester} (hk : s.dev.live 1 = true)
include hk

theorem gives_descFetched (desc : Bytes) : Gives (.dmaHostDescriptorFetched x desc) s fun d =>
    let runs := (descOf desc).own = true ∧ (s.dev.dch x).stopping = false ∧ s.dev.flag F.DMA_DIAG_UNLOCKED = true ∧ s.dev.flag (F.DMA_C_STAT_HALTED x) = false
    ((s.dev.dch x).fetching = false → d = s.dev) ∧
    ((s.dev.dch x).fetching = true → runs → (d.dch x).fetching = false ∧ (d.dch x).again = false ∧ (d.dch x).runs = [{ idx := s.dev.fld (F.DMA_C_STAT_HEAD x), desc := descOf desc }]) ∧
    ((s.dev.dch x).fetching = true → ¬runs → (d.dch x).runs = (s.dev.dch x).runs ∧ (d.dch x).again = false ∧ ((s.dev.dch x).again = false → (d.dch x).fetching = false)) ∧
    d = { s.dev with dma := d.dma, hst := d.hst, regs := d.regs, cnt := d.cnt } := by
  cases hf : (s.dev.dch x).fetching
  · exact gives_of_eq (exec_descFetched x desc s) hk (if_pos (by rw [hf]; rfl)) ⟨fun _ => rfl, fun h => absurd h (by decide), fun h => absurd h (by decide), rfl⟩
  · obtain ⟨h1, h2, h3⟩ := (s.dev.descRead x).descFetched_spec x (descOf desc)
    refine gives_of_eq (exec_descFetched x desc s) hk (if_neg (by rw [hf]; decide)) ⟨fun h => absurd h (by decide), fun _ => h1, fun _ => h2, ?_⟩
    generalize (s.dev.descRead x).descFetched x (descOf desc) = e at h3
    rw [h3]
    rfl

/-- A STOP halts a channel with nothing begun, and waits for the bursts of the first descriptor begun. -/
theorem gives_dmaStop (ht : s.dev.rng.tjobs = []) (hr : s.dev.rng.reads = []) : Gives (.dmaStop x who) s fun d =>
    ((s.dev.dch x).runs = [] → d.flag (F.DMA_C_STAT_HALTED x) = true ∧ (d.dch x).stopping = false ∧ (d.dch x).runs = []) ∧
    (∀ r rest, (s.dev.dch x).runs = r :: rest → (s.dev.dma.bursts.any fun b => b.ch == x.val && b.idx == r.idx && !b.dead) = true →
      (d.dch x).stopping = true ∧ d.flag (F.DMA_C_STAT_HALTED x) = s.dev.flag (F.DMA_C_STAT_HALTED x)) := by
  have hw := s.dev.ctrlPut_frame x 4 (reqCode who)
  have hc := s.dev.ctrlPut_dch x 4 (reqCode who) x
  have hh := s.dev.ctrlPut_flag x 4 (reqCode who) (F.DMA_C_STAT_HALTED x) (by dsimp only [F.DMA_C_STAT_HALTED]; omega) (by dsimp only [F.DMA_C_STAT_HALTED]; omega)
  have he := s.dev.dmaCtrlWrite_stop x (reqCode who)
  generalize s.dev.ctrlPut x 4 (reqCode who) = w at hw hc hh he
  have hd := w.dch_stopped x
  rw [hc] at hd
  have hs : Settles True w (w.dmaStop x) := .dmaStop (.refl _)
  refine gives_of_eq (exec_dmaStop x who s) hk (e := w.dmaStop x) ?_ ⟨fun h0 => ?_, fun r rest hrr hb => ?_⟩
  · rw [he]
    exact hs.ringSettle (by rw [hw]; exact ht) (by rw [hw]; exact hr)
  · rw [Dev.dmaStop_eq]
    exact Dev.settleCh_halts (by rw [hd, h0]; rfl) (by rw [hd])
  · have hst : (w.stopped x).settleCh x = w.stopped x := by
      refine Dev.settleCh_waits (r := r.quit) (rest := rest.map DRun.quit) (by rw [hd, hrr]; rfl) ?_
      rw [DRun.quit_idx, show (w.stopped x).dma.bursts = s.dev.dma.bursts by rw [show (w.stopped x).dma.bursts = w.dma.bursts from rfl, hw]]
      exact hb
    rw [Dev.dmaStop_eq, hst, hd]
    exact ⟨rfl, (w.halted_setDch _ _).trans hh⟩

theorem gives_dmaResume : Gives (.dmaResume x who) s fun d => d.flag (F.DMA_C_STAT_HALTED x) = false ∧ d.dma.bursts = s.dev.dma.bursts ∧ (x.val < 56 → d.dma = s.dev.dma) := by
  have hw := s.dev.ctrlPut_frame x 2 (reqCode who)
  have he := s.dev.dmaCtrlWrite_resume x (reqCode who)
  generalize s.dev.ctrlPut x 2 (reqCode who) = w at hw he
  have hh := w.halted_setHalted (x := x) false
  have hm : (w.setHalted x false).dma = s.dev.dma := by
    rw [Dev.setHalted_dma, hw]
  refine gives_of_eq (exec_dmaResume x who s) hk he ?_
  unfold Dev.dmaResume
  dsimp only
  generalize w.setHalted x false = y at hh hm
  split
  case isTrue h56 =>
    obtain ⟨hf, hfh, -⟩ := Dev.fetchDesc_spec (d := y) (x := x)
    refine ⟨hfh.trans hh, ?_, fun h => absurd h56 (Nat.not_le.2 h)⟩
    generalize y.fetchDesc x = z at hf
    rw [hf, hm]
  case isFalse => exact ⟨hh, by rw [hm], fun _ => hm⟩

theorem gives_doorbell_internal (hx : x.val < 56) : Gives (.dmaDoorbell x who) s fun d => d = { s.dev with regs := d.regs, log := d.log, lost := d.lost, hst := d.hst } := by
  refine gives_of_eq (exec_dmaDoorbell x who s) hk ((s.dev.dmaCtrlWrite_door x (reqCode who)).trans (if_neg (Nat.not_le.2 hx))) ?_
  have hw := s.dev.ctrlPut_frame x 1 (reqCode who)
  generalize s.dev.ctrlPut x 1 (reqCode who) = w at hw
  rw [hw]

theorem gives_doorbell_again (hx : 56 ≤ x.val) (hf : (s.dev.dch x).fetching = true) : Gives (.dmaDoorbell x who) s fun d =>
    (d.dch x).fetching = true ∧ (d.dch x).again = true ∧ (d.dch x).runs = (s.dev.dch x).runs := by
  have hc := s.dev.ctrlPut_dch x 1 (reqCode who) x
  refine gives_of_eq (exec_dmaDoorbell x who s) hk ((s.dev.dmaCtrlWrite_door x (reqCode who)).trans ((if_pos hx).trans (Dev.fetchDesc_again (by rw [hc]; exact hf)))) ?_
  rw [Dev.dch_setDch, hc]
  exact ⟨hf, rfl, rfl⟩

theorem gives_doorbell_host (hx : 56 ≤ x.val) (hf : (s.dev.dch x).fetching = false) :
    let may := s.dev.flag (F.DMA_C_CFG_EN x) = true ∧ s.dev.flag F.DMA_DIAG_UNLOCKED = true ∧ s.dev.flag (F.DMA_C_STAT_HALTED x) = false ∧ (s.dev.dch x).runs = []
    Gives (.dmaDoorbell x who) s fun d =>
      (may → (d.dch x).fetching = true ∧ ∃ r, d.hst.reads = s.dev.hst.reads ++ [r] ∧ r.ch = x.val ∧ r.len = 32 ∧ r.addr = s.dev.hostRing x (s.dev.fld (F.DMA_C_STAT_HEAD x))) ∧
      (¬may → d = { s.dev with regs := d.regs, log := d.log, lost := d.lost, hst := d.hst }) := by
  have hw := s.dev.ctrlPut_frame x 1 (reqCode who)
  have hc := s.dev.ctrlPut_dch x 1 (reqCode who) x
  have ha := s.dev.ctrlPut_hostRing x 1 (reqCode who)
  have hmay : (s.dev.ctrlPut x 1 (reqCode who)).mayFetch x ↔ s.dev.mayFetch x := by
    unfold Dev.mayFetch
    rw [hc, s.dev.ctrlPut_flag x 1 _ (F.DMA_C_CFG_EN x) (by dsimp only [F.DMA_C_CFG_EN]; omega) (by dsimp only [F.DMA_C_CFG_EN]; omega),
      s.dev.ctrlPut_flag x 1 _ F.DMA_DIAG_UNLOCKED (by dsimp only [F.DMA_DIAG_UNLOCKED]; omega) (by decide),
      s.dev.ctrlPut_flag x 1 _ (F.DMA_C_STAT_HALTED x) (by dsimp only [F.DMA_C_STAT_HALTED]; omega) (by dsimp only [F.DMA_C_STAT_HALTED]; omega)]
  have he := (s.dev.dmaCtrlWrite_door x (reqCode who)).trans (if_pos hx)
  generalize s.dev.ctrlPut x 1 (reqCode who) = w at hw hc ha hmay he
  have hwf : (w.dch x).fetching = false := by rw [hc]; exact hf
  by_cases hm : s.dev.mayFetch x
  · obtain ⟨h1, -, -, h4⟩ := Dev.fetches_spec (d := w) (x := x)
    rw [show w.hst = s.dev.hst by rw [hw], ha] at h4
    exact gives_of_eq (exec_dmaDoorbell x who s) hk (he.trans (Dev.fetchDesc_fetches hwf (hmay.2 hm))) ⟨fun _ => ⟨by rw [h1], h4⟩, fun h => absurd hm h⟩
  · exact gives_of_eq (exec_dmaDoorbell x who s) hk (he.trans (Dev.fetchDesc_stays hwf (fun h => hm (hmay.1 h)))) ⟨fun h => absurd h hm, fun _ => by rw [hw]⟩
end

/-- Settles O22: each command of the DMA engine by the cases of its definition; the settling of channels and the ring's jobs change nothing that the clauses speak of. -/
theorem dmaPostsIssuesAndDelivers : Obligations.DmaPostsIssuesAndDelivers := by
  unfold Obligations.DmaPostsIssuesAndDelivers
  refine ⟨fun s seq post x hk hx => ⟨gives_post_waits hk, fun hc h56 ho he hs => gives_post hk hx hc h56 ho he hs, fun st hc hr => gives_post_refused hk hx hc hr⟩,
    fun s e hk ht hr => ⟨gives_burstIssue_none hk ht hr, fun x r new hx hn => gives_burstIssue_some hk ht hr hx hn⟩,
    fun s sram hk ht hr => ⟨gives_readData_none hk ht hr, fun q b r hq hb hd ha hs => ⟨gives_readData_err hk ht hr hq hb hd ha hs, fun he hf hp hy hE hrun => gives_readData hk ht hr hq hb hd ha hs he hf hp hy hE hrun⟩⟩,
    fun s hk ht hr => ⟨gives_writeResponse_hst_none hk ht hr, gives_writeResponse_buf_none hk ht hr, fun b hb => gives_writeResponse_hst hk ht hr hb, fun q b hq hb he => gives_writeResponse_buf hk ht hr hq hb he⟩,
    fun s x who hk => ⟨fun ht hr => gives_dmaStop hk ht hr, gives_dmaResume hk, gives_doorbell_internal hk, gives_doorbell_again hk, gives_doorbell_host hk⟩,
    fun s x desc hk => gives_descFetched hk desc⟩

end Sys2Proof.Machine
end

section
/-! SUPPORT. Runs: no command stops the machine, and the queue loses its front alone (R54). -/
namespace Sys2Proof.Machine

/-! ### Commands and steps -/

/-- Every command completes, and leaves the queue alone: it is an effect on the device. -/
theorem exec_next (c : Instr) (s : State) : ∃ t, exec c s = .next t ∧ t.pending = s.pending := by
  by_cases hon : c = .kennelPowerOn
  · subst hon
    exact ⟨{ s with dev := s.dev.powerOn }, rfl, rfl⟩
  by_cases hoff : c = .kennelPowerLost
  · subst hoff
    exact ⟨_, rfl, rfl⟩
  obtain ⟨k, f, he, -⟩ := exec_acts c hon hoff
  exact ⟨_, he s, rfl⟩

/-- A step loses the front of the queue. -/
theorem step_next (s : State) : ∃ t, step s = .next t ∧ t.pending = s.pending.tail := by
  cases hp : s.pending with
  | nil => exact ⟨{ s with dev := s.dev.tick }, by unfold step; rw [hp], hp⟩
  | cons c rest =>
    rw [step_command hp]
    exact exec_next c _

theorem step_pending {s t : State} (h : step s = .next t) : t.pending = s.pending.tail := by
  obtain ⟨t', h', hp⟩ := step_next s
  obtain rfl : t' = t := Host.Outcome.next.inj (h'.symm.trans h)
  exact hp

theorem step_queueOk {s t : State} (h : step s = .next t) (hq : s.queueOk = true) : t.queueOk = true := by
  unfold State.queueOk at hq ⊢
  rw [step_pending h, List.all_eq_true]
  rw [List.all_eq_true] at hq
  exact fun c hc => hq c (List.mem_of_mem_tail hc)

theorem run_step (M : Host.Core) {k : Nat} {s s' : M.State} (h : M.step s = .next s') : M.run (k + 1) s = M.run k s' := by rw [Host.Core.run, h]

/-- The machine goes on for any number of steps. -/
theorem safeRun (k : Nat) (s : State) : SafeRun k s := by
  induction k generalizing s with
  | zero => exact ⟨s, rfl⟩
  | succ k ih =>
    obtain ⟨s', hs, -⟩ := step_next s
    obtain ⟨t, ht⟩ := ih s'
    exact ⟨t, (run_step core hs).trans ht⟩

/-- Settles O55: every command is an effect on the device, and a step runs the command in front, or time. -/
theorem noCommandStopsTheMachine : Obligations.NoCommandStopsTheMachine :=
  ⟨exec_next, safeRun, fun _ _ h => ⟨step_pending h, step_queueOk h⟩⟩

end Sys2Proof.Machine
end

section
/-! SUPPORT. Events offered to LOG: what is injected, reported, offered and lost (R42, R517). -/
namespace Sys2Proof.Machine

/-! ### Raising an event, taken apart -/

/-- The critical warning of an event's code (R525). -/
def Dev.warned (d : Dev) (code : Nat) : Dev := if critOf code = 0 then d else d.critWarn (critOf code) 0

/-- LOG.INJECT is armed to refuse the next event (Table 18.6). -/
def Dev.refuses (d : Dev) : Prop := d.flag F.LOG_INJECT_ARM = true ∧ d.fld F.LOG_INJECT_KIND = 2

/-- The record of an event as its block hands it over. -/
def Dev.eventOf (d : Dev) (b : Blk) (n p1 p2 p3 src : Nat) : Event :=
  { code := blkCls b * 256 + n, src := src % 65536, p1 := p1 % 2 ^ 32, p2 := p2 % 2 ^ 32, p3 := p3 % 2 ^ 32, stamp := d.now }

theorem Dev.warned_quiet (d : Dev) {code : Nat} (h : critOf code = 0) : d.warned code = d := if_pos h

theorem Dev.warned_parts (d : Dev) (code : Nat) : ∃ c x, d.warned code = { d with log := { d.log with crit := c }, hst := x } := by
  unfold Dev.warned
  split
  · exact ⟨_, _, rfl⟩
  · exact ⟨_, _, Dev.critWarn_frame _ _ _⟩

section
variable (d : Dev) (code : Nat)

theorem Dev.warned_fld (f : RF) : (d.warned code).fld f = d.fld f := by
  obtain ⟨c, x, he⟩ := d.warned_parts code
  rw [he]; rfl

theorem Dev.warned_lost : (d.warned code).lost = d.lost := by
  obtain ⟨c, x, he⟩ := d.warned_parts code
  rw [he]

theorem Dev.warned_inq : (d.warned code).log.inq = d.log.inq := by
  obtain ⟨c, x, he⟩ := d.warned_parts code
  rw [he]

theorem Dev.warned_now : (d.warned code).now = d.now := by
  obtain ⟨c, x, he⟩ := d.warned_parts code
  rw [he]; rfl

theorem Dev.warned_logCredit : (d.warned code).logCredit = d.logCredit := by
  unfold Dev.logCredit Dev.flag
  rw [Dev.warned_inq, Dev.warned_fld, Dev.warned_fld, Dev.warned_fld]

theorem Dev.warned_refuses : (d.warned code).refuses ↔ d.refuses := by
  unfold Dev.refuses Dev.flag
  rw [Dev.warned_fld, Dev.warned_fld]
end

section
variable (d : Dev) (b : Blk) (n p1 p2 p3 src : Nat)

/-- An armed injection makes the event lost, and is used up. -/
theorem Dev.event_refused (h : d.refuses) : d.event b n p1 p2 p3 src = ((d.warned (blkCls b * 256 + n)).setFlag F.LOG_INJECT_ARM false).loseEvent b true := by
  obtain ⟨ha, hk⟩ := (Dev.warned_refuses d (blkCls b * 256 + n)).2 h
  exact if_pos (show ((d.warned _).flag F.LOG_INJECT_ARM && decide ((d.warned _).fld F.LOG_INJECT_KIND = 2)) = true by rw [ha, hk]; rfl)

/-- Without one, what was lost is reported first, and then the event is offered or lost. -/
theorem Dev.event_offered (h : ¬d.refuses) : d.event b n p1 p2 p3 src =
    let e := (d.warned (blkCls b * 256 + n)).reportLost b
    if e.logCredit then e.pushEvent (e.eventOf b n p1 p2 p3 src) else e.loseEvent b := by
  have hn : ¬((d.warned (blkCls b * 256 + n)).flag F.LOG_INJECT_ARM && decide ((d.warned (blkCls b * 256 + n)).fld F.LOG_INJECT_KIND = 2)) = true := by
    rw [Bool.and_eq_true, decide_eq_true_iff]
    exact fun c => h ((Dev.warned_refuses d _).1 c)
  exact if_neg hn
end

/-! ### Events lost before -/

/-- The lost events of a block that are not yet reported. -/
def Dev.lostOf (d : Dev) (b : Blk) : LostS := d.lost.get (fun _ => {}) (blkKey b)

section
variable {d : Dev} {b : Blk}

theorem Dev.reportLost_none (h : d.logCredit = false ∨ (d.lostOf b).count = 0) : d.reportLost b = d := by
  have hn : ¬(d.logCredit && decide (0 < (d.lostOf b).count)) = true := by
    rcases h with h | h <;> simp [h]
  exact if_neg hn

theorem Dev.reportLost_some (hc : d.logCredit = true) (hl : 0 < (d.lostOf b).count) :
    d.reportLost b = ({ d with lost := d.lost.set (fun _ => {}) (blkKey b) {} }).pushEvent
      { code := blkCls b * 256 + 0xFA, src := blkInst b, p1 := (d.lostOf b).count, p2 := (d.lostOf b).first % 2 ^ 32, p3 := injBit (d.lostOf b).inj, stamp := d.now } :=
  if_pos (show (d.logCredit && decide (0 < (d.lostOf b).count)) = true by simp [hc, hl])

theorem Dev.lostOf_congr {e : Dev} (h : e.lost = d.lost) : e.lostOf b = d.lostOf b := congrArg (Tab.get _ · _) h

theorem Dev.reportLost_parts (d : Dev) (b : Blk) : ∃ l q, d.reportLost b = { d with lost := l, log := { d.log with inq := q } } := by
  unfold Dev.reportLost
  dsimp only
  split
  · exact ⟨_, _, rfl⟩
  · exact ⟨_, _, rfl⟩
end

/-- An event that is not refused changes the counts of lost events and the pool, beside its warning. -/
theorem Dev.event_offered_parts (d : Dev) (b : Blk) (n p1 p2 p3 src : Nat) (h : ¬d.refuses) : ∃ l q, d.event b n p1 p2 p3 src =
    { d.warned (blkCls b * 256 + n) with lost := l, log := { (d.warned (blkCls b * 256 + n)).log with inq := q } } := by
  rw [Dev.event_offered _ _ _ _ _ _ _ h]
  obtain ⟨l, q, he⟩ := (d.warned (blkCls b * 256 + n)).reportLost_parts b
  dsimp only
  rw [he]
  split
  · exact ⟨_, _, rfl⟩
  · exact ⟨_, _, rfl⟩

section
variable (d : Dev) (b : Blk) (inj : Bool)

theorem Dev.loseEvent_lostOf : (d.loseEvent b inj).lostOf b =
    { count := (d.lostOf b).count + 1, first := if (d.lostOf b).count = 0 then d.now else (d.lostOf b).first, inj := (d.lostOf b).inj || inj } := by
  unfold Dev.lostOf Dev.loseEvent Tab.modify
  dsimp only
  rw [Tab.get_set_same]

end

/-! ### The two commands -/

theorem exec_eventOffer (b : Blk) (n : Byte) (p1 p2 p3 : Word) (s : State) : exec (.eventOffer b n p1 p2 p3) s =
    s.doesIn 0 fun d => d.event b n.toNat p1.toNat p2.toNat p3.toNat := rfl

theorem exec_eventCreditRegained (b : Blk) (s : State) : exec (.eventCreditRegained b) s = s.doesIn 0 fun d => d.reportLost b := rfl

/-- Parameters, and a block's number, are within the record's fields. -/
theorem Dev.eventOf_words (d : Dev) (b : Blk) (n : Nat) (p1 p2 p3 : Word) : d.eventOf b n p1.toNat p2.toNat p3.toNat (blkInst b) =
    { code := blkCls b * 256 + n, src := blkInst b, p1 := p1.toNat, p2 := p2.toNat, p3 := p3.toNat, stamp := d.now } := by
  have hb : blkInst b % 65536 = blkInst b := by
    cases b <;> simp [blkInst]
    omega
  unfold Dev.eventOf
  rw [hb, Nat.mod_eq_of_lt p1.isLt, Nat.mod_eq_of_lt p2.isLt, Nat.mod_eq_of_lt p3.isLt]

theorem gives_eventOffer_refused {s : State} (b : Blk) (n : Byte) (p1 p2 p3 : Word) (h0 : s.dev.live 0 = true) (h : s.dev.refuses) :
    Gives (.eventOffer b n p1 p2 p3) s fun d => d.flag F.LOG_INJECT_ARM = false ∧ d.log.inq = s.dev.log.inq ∧
      (d.lostOf b).count = (s.dev.lostOf b).count + 1 ∧
      d = { s.dev with regs := d.regs, lost := d.lost, log := { s.dev.log with crit := d.log.crit }, hst := d.hst } := by
  refine gives_of_eq (exec_eventOffer b n p1 p2 p3 s) h0 (Dev.event_refused _ _ _ _ _ _ _ h) ⟨?_, ?_, ?_, ?_⟩
  · exact (Dev.flag_congr_regs (d := (s.dev.warned _).setFlag F.LOG_INJECT_ARM false) rfl rfl _).trans (Dev.flag_setFlag_same _ _ _ (by decide) (by decide))
  · exact Dev.warned_inq s.dev _
  · rw [Dev.loseEvent_lostOf, Dev.lostOf_congr ((Dev.setFlag_lost _ _ _).trans (Dev.warned_lost _ _))]
  · obtain ⟨c, x, he⟩ := s.dev.warned_parts (blkCls b * 256 + n.toNat)
    rw [he]; rfl

theorem gives_eventOffer {s : State} (b : Blk) (n : Byte) (p1 p2 p3 : Word) (h0 : s.dev.live 0 = true) (h : ¬s.dev.refuses) :
    Gives (.eventOffer b n p1 p2 p3) s fun d =>
      (s.dev.logCredit = true → (s.dev.lostOf b).count = 0 → d.lost = s.dev.lost ∧
        d.log.inq = s.dev.log.inq ++ [{ code := blkCls b * 256 + n.toNat, src := blkInst b, p1 := p1.toNat, p2 := p2.toNat, p3 := p3.toNat, stamp := s.dev.now }]) ∧
      (s.dev.logCredit = false → d.log.inq = s.dev.log.inq ∧ (d.lostOf b).count = (s.dev.lostOf b).count + 1 ∧ ((s.dev.lostOf b).count = 0 → (d.lostOf b).first = s.dev.now)) ∧
      (critOf (blkCls b * 256 + n.toNat) = 0 → d = { s.dev with lost := d.lost, log := { s.dev.log with inq := d.log.inq } }) ∧
      d = { s.dev with lost := d.lost, log := { s.dev.log with inq := d.log.inq, crit := d.log.crit }, hst := d.hst } := by
  obtain ⟨l, q, hp⟩ := Dev.event_offered_parts s.dev b n.toNat p1.toNat p2.toNat p3.toNat (blkInst b) h
  have he := Dev.event_offered s.dev b n.toNat p1.toNat p2.toNat p3.toNat (blkInst b) h
  dsimp only at he
  have hc := Dev.warned_logCredit s.dev (blkCls b * 256 + n.toNat)
  have hl := Dev.lostOf_congr (b := b) (Dev.warned_lost s.dev (blkCls b * 256 + n.toNat))
  refine gives_of_eq (exec_eventOffer b n p1 p2 p3 s) h0 rfl ⟨fun h1 h2 => ?_, fun h1 => ?_, fun h1 => ?_, ?_⟩
  · rw [he, Dev.reportLost_none (.inr (hl ▸ h2)), if_pos (hc.trans h1), Dev.eventOf_words, Dev.warned_now]
    exact ⟨Dev.warned_lost _ _, congrArg (· ++ _) (Dev.warned_inq _ _)⟩
  · rw [he, Dev.reportLost_none (.inl (hc.trans h1)), if_neg (by simp [hc, h1]), Dev.loseEvent_lostOf, hl]
    exact ⟨Dev.warned_inq _ _, rfl, fun h2 => (if_pos h2).trans (Dev.warned_now _ _)⟩
  · rw [hp, Dev.warned_quiet _ h1]
  · obtain ⟨c, x, hw⟩ := s.dev.warned_parts (blkCls b * 256 + n.toNat)
    rw [hp, hw]

theorem gives_eventCreditRegained {s : State} {b : Blk} (h0 : s.dev.live 0 = true) (hc : s.dev.logCredit = true) (hl : 0 < (s.dev.lostOf b).count) :
    Gives (.eventCreditRegained b) s fun d => (d.lostOf b).count = 0 ∧
      (∃ e, d.log.inq = s.dev.log.inq ++ [e] ∧ e.code = blkCls b * 256 + 0xFA ∧ e.p1 = (s.dev.lostOf b).count) ∧
      d = { s.dev with lost := d.lost, log := { s.dev.log with inq := d.log.inq } } := by
  refine gives_of_eq (exec_eventCreditRegained b s) h0 (Dev.reportLost_some hc hl) ⟨?_, ⟨_, rfl, rfl, rfl⟩, rfl⟩
  exact congrArg LostS.count (Tab.get_set_same (fun _ => {}) s.dev.lost (blkKey b) {})

/-- Settles O2: an event by the three ways that `Dev.event` goes, and the report of lost events by whether there is one to make. -/
theorem eventsAreOfferedOrCountedLost : Obligations.EventsAreOfferedOrCountedLost :=
  ⟨⟨fun _ b n p1 p2 p3 h0 h => gives_eventOffer_refused b n p1 p2 p3 h0 h, fun _ b n p1 p2 p3 h0 h => gives_eventOffer b n p1 p2 p3 h0 h⟩,
    fun s b h0 h => gives_of_eq (exec_eventCreditRegained b s) h0 (Dev.reportLost_none h) rfl, fun _ _ h0 hc hl => gives_eventCreditRegained h0 hc hl⟩

end Sys2Proof.Machine
end

section
/-! SUPPORT. Promotion of background requests, stall fences, and the parity sweep (R37, R50, R52, R53, R55). -/
namespace Sys2Proof.Machine

/-! ### Promotion (R50) -/

/-- A request of kind k has waited its promotion interval. -/
def Dev.Waited (d : Dev) (k : BgKind) (r : BgReq) : Prop := r.kind = k ∧ r.raised + d.promoteNs k ≤ d.now

/-- The requests of a kind that have waited long enough are promoted. -/
def Dev.promote (d : Dev) (k : BgKind) : Dev := { d with bg := d.bg.map fun r => if r.kind = k ∧ r.raised + d.promoteNs k ≤ d.now then { r with promoted := true } else r }

theorem exec_backgroundPromotion (k : BgKind) (s : State) : exec (.backgroundPromotion k) s =
    s.doesIn 0 fun d => if k = .roll then (d.promote k).rollGrant else d.promote k := rfl

section
variable {d : Dev} {k : BgKind} {i : Nat} {r : BgReq}

theorem Dev.promote_waited (hi : d.bg[i]? = some r) (hr : d.Waited k r) : (d.promote k).bg[i]? = some { r with promoted := true } := by
  rw [Dev.promote, List.getElem?_map, hi, Option.map_some]
  exact congrArg some (if_pos hr)

theorem Dev.promote_other (hi : d.bg[i]? = some r) (hr : ¬d.Waited k r) : (d.promote k).bg[i]? = some r := by
  rw [Dev.promote, List.getElem?_map, hi, Option.map_some]
  exact congrArg some (if_neg hr)

/-- A promoted roll request is granted, whatever waits in FAB's pools. -/
theorem Dev.promote_rollGrant (hm : r ∈ d.bg) (hr : d.Waited .roll r) :
    (d.promote .roll).rollGrant.flag F.FAB_RC_STAT_BUSY = true ∧ (d.promote .roll).rollGrant.bg.length + 1 = d.bg.length := by
  have hp : { r with promoted := true } ∈ (d.promote .roll).bg := List.mem_map.2 ⟨r, hm, if_pos hr⟩
  have hk : decide (r.kind = .roll) = true := decide_eq_true hr.1
  have hany : ((d.promote .roll).bg.any fun r => decide (r.kind = .roll)) = true := List.any_eq_true.2 ⟨_, hp, hk⟩
  have hg : (d.promote .roll).rollGrantable = true := by
    unfold Dev.rollGrantable
    rw [List.any_eq_true.2 ⟨_, hp, by rw [hk]; rfl⟩, Bool.true_or]
  have he : (d.promote .roll).rollGrant = ((d.promote .roll).grantBg .roll).requestRoll [] := if_pos (by rw [hany, hg]; rfl)
  rw [he]
  refine ⟨Dev.requestRoll_isBusy _ _, ?_⟩
  rw [Dev.requestRoll_frame]
  have hl : (d.promote .roll).bg.length = d.bg.length := List.length_map _
  show ((d.promote .roll).bg.eraseP fun r => decide (r.kind = .roll)).length + 1 = _
  rw [List.length_eraseP_of_mem hp hk, ← hl]
  exact Nat.sub_add_cancel (List.length_pos_of_mem hp)
end

theorem gives_backgroundPromotion {s : State} {k : BgKind} (h0 : s.dev.live 0 = true) (hk : k ≠ .roll) :
    Gives (.backgroundPromotion k) s fun d =>
      d.bg.length = s.dev.bg.length ∧
      (∀ (i : Nat) (r : BgReq), s.dev.bg[i]? = some r → s.dev.Waited k r → d.bg[i]? = some { r with promoted := true }) ∧
      (∀ (i : Nat) (r : BgReq), s.dev.bg[i]? = some r → ¬s.dev.Waited k r → d.bg[i]? = some r) ∧ d = { s.dev with bg := d.bg } :=
  gives_of_eq (exec_backgroundPromotion k s) h0 (if_neg hk) ⟨List.length_map _, fun _ _ => Dev.promote_waited, fun _ _ => Dev.promote_other, rfl⟩

theorem gives_backgroundPromotion_roll {s : State} (h0 : s.dev.live 0 = true) :
    Gives (.backgroundPromotion .roll) s fun d =>
      ((∃ r ∈ s.dev.bg, s.dev.Waited .roll r) → d.flag F.FAB_RC_STAT_BUSY = true ∧ d.bg.length + 1 = s.dev.bg.length) ∧
      d = { s.dev with bg := d.bg, regs := d.regs, roll := d.roll } :=
  gives_of_eq (exec_backgroundPromotion .roll s) h0 (if_pos rfl) ⟨fun ⟨_, hm, hr⟩ => Dev.promote_rollGrant hm hr, by rw [Dev.rollGrant_frame]; rfl⟩

/-! ### Stalls (R52, R53) -/

/-- The pool is fenced, and the stall flagged in FSTAT. -/
def Dev.fence (d : Dev) (b : Blk) (j : Nat) : Dev := (d.setFld (fFENCED b j) 1).flagFault b 2 1

/-- The stall is logged, and the sequencer signalled. -/
def Dev.signalStall (d : Dev) (b : Blk) (j : Nat) (c : Cls) : Dev :=
  let e := d.event b 0xF8 j (d.fld (fBOUND b j)) (clsCode c)
  { e with seq := { e.seq with stalls := e.seq.stalls ++ [poolKey b j] } }

/-- The commands of a fenced pool end. -/
def Dev.failAll (d : Dev) (l : List Tag) : Dev := l.foldl (fun (d : Dev) t => d.failFenced t) d

theorem exec_stallDetected (b : Blk) (j : Fin 32) (lane : Bool) (since : BitVec 64) (cmds : List Tag) (s : State) : exec (.stallDetected b j lane since cmds) s =
    s.doesIn 0 fun d => match poolAt d.v b j with
      | none => d
      | some p => if d.flag (fFENCED b j) ∨ d.now < since.toNat + d.stallBound b j lane then d
        else ((d.fence b j).signalStall b j p.cls).failAll (d.cmdsIn b j ++ cmds) := rfl

theorem Dev.failFenced_cmd? (d : Dev) (t u : Tag) : (d.failFenced t).cmd? u = if u = t then none else d.cmd? u := by
  unfold Dev.failFenced
  split
  · exact Dev.finish_cmd? d t _ _ _ u
  · next h =>
    split
    · next hu => rw [hu]; simpa using h
    · rfl

theorem Dev.failFenced_frame (d : Dev) (t : Tag) : d.failFenced t = { d with hst := (d.failFenced t).hst, cmds := (d.failFenced t).cmds, free := (d.failFenced t).free } := by
  unfold Dev.failFenced
  split
  · exact Dev.finish_frame _ _ _ _ _
  · rfl

theorem Dev.failAll_frame (d : Dev) (l : List Tag) : d.failAll l = { d with hst := (d.failAll l).hst, cmds := (d.failAll l).cmds, free := (d.failAll l).free } := by
  induction l generalizing d with
  | nil => rfl
  | cons t l ih =>
    have hs : d.failAll (t :: l) = (d.failFenced t).failAll l := rfl
    rw [hs, ih, Dev.failFenced_frame]

theorem Dev.failAll_cmd? (d : Dev) (l : List Tag) (u : Tag) : (d.failAll l).cmd? u = if u ∈ l then none else d.cmd? u := by
  induction l generalizing d with
  | nil => rw [if_neg List.not_mem_nil]; rfl
  | cons t l ih =>
    have hs : d.failAll (t :: l) = (d.failFenced t).failAll l := rfl
    rw [hs, ih, Dev.failFenced_cmd?]
    by_cases h1 : u ∈ l <;> by_cases h2 : u = t <;> simp [h1, h2]

theorem blkBase_aligned (b : Blk) : blkBase b % 0x10000 = 0 := by
  cases b <;> simp [blkBase]

/-- No word of a fabric page is FSTAT or LOG.INJECT. -/
theorem fenced_addr (b : Blk) (j : Fin 32) : (fFENCED b j).a ≠ blkBase b + 0xFD00 ∧ (fFENCED b j).a ≠ 0x0A000060 := by
  have hb := blkBase_aligned b
  have hj := j.isLt
  simp only [fFENCED]
  omega

section
variable (d : Dev) (b : Blk) (j : Fin 32)

theorem Dev.fence_frame : d.fence b j = { d with regs := (d.fence b j).regs } := by
  unfold Dev.fence
  rw [Dev.flagFault_frame]; rfl

theorem Dev.fence_fenced : (d.fence b j).flag (fFENCED b j) = true := by
  have h : (d.fence b j).fld (fFENCED b j) = 1 :=
    (Dev.fld_congr rfl (Dev.flagFault_word _ b 2 1 (fenced_addr b j).1)).trans (Dev.fld_setFld_one d (fFENCED b j) (show 31 + 1 ≤ 32 by decide) rfl)
  unfold Dev.flag
  rw [h]; rfl

/-- The fault's bit, its count and the first fault: FENCED lies in another word. -/
theorem Dev.fence_flags : (d.fence b j).fld (fFBIT b 1) = 1 ∧ (d.fence b j).fld (fCOUNT b) = min (d.fld (fCOUNT b) + 1) 255 ∧
    (d.fld (fFIRST b) = 0 → (d.fence b j).fld (fFIRST b) = 2) := by
  have hf (f : RF) (hf : f.a = blkBase b + 0xFD00) : (d.setFld (fFENCED b j) 1).fld f = d.fld f :=
    Dev.fld_setFld_addr _ _ _ _ (by rw [hf]; exact (fenced_addr b j).1.symm)
  unfold Dev.fence
  refine ⟨Dev.flagFault_bit _ _ (by decide), ?_, fun h => ?_⟩
  · rw [Dev.flagFault_count _ _ (by decide), hf _ rfl]
  · rw [Dev.flagFault_first _ _ (by decide) (by decide), hf _ rfl, if_pos h]

variable (c : Cls)

theorem Dev.signalStall_frame : d.signalStall b j c = { d with regs := (d.signalStall b j c).regs, log := (d.signalStall b j c).log, lost := (d.signalStall b j c).lost
                                                               hst := (d.signalStall b j c).hst, seq := { d.seq with stalls := d.seq.stalls ++ [poolKey b j] } } := by
  unfold Dev.signalStall
  dsimp only
  rw [Dev.event_frame]

theorem Dev.signalStall_fld {f : RF} (hf : f.a ≠ 0x0A000060) : (d.signalStall b j c).fld f = d.fld f := Dev.fld_congr rfl (Dev.event_word d b 0xF8 _ _ _ _ hf)
end

theorem gives_stallDetected_not {s : State} {b : Blk} {j : Fin 32} {lane : Bool} {since : BitVec 64} {cmds : List Tag} {p : PoolCfg} (h0 : s.dev.live 0 = true)
    (hp : poolAt s.dev.v b j = some p) (h : s.dev.flag (fFENCED b j) = true ∨ s.dev.now < since.toNat + s.dev.stallBound b j lane) :
    Gives (.stallDetected b j lane since cmds) s fun d => d = s.dev :=
  gives_of_eq (exec_stallDetected b j lane since cmds s) h0 (by rw [hp]; exact if_pos h) rfl

theorem gives_stallDetected {s : State} {b : Blk} {j : Fin 32} {lane : Bool} {since : BitVec 64} {cmds : List Tag} {p : PoolCfg} (h0 : s.dev.live 0 = true)
    (hp : poolAt s.dev.v b j = some p) (hf : s.dev.flag (fFENCED b j) = false) (hn : since.toNat + s.dev.stallBound b j lane ≤ s.dev.now) :
    Gives (.stallDetected b j lane since cmds) s fun d =>
      (d.flag (fFENCED b j) = true ∧ d.fld (fFBIT b 1) = 1 ∧ d.fld (fCOUNT b) = min (s.dev.fld (fCOUNT b) + 1) 255 ∧
        (s.dev.fld (fFIRST b) = 0 → d.fld (fFIRST b) = 2) ∧ d.seq = { s.dev.seq with stalls := s.dev.seq.stalls ++ [poolKey b j] } ∧
        (∀ t ∈ s.dev.cmdsIn b j ++ cmds, d.cmd? t = none) ∧ ∀ t, t ∉ s.dev.cmdsIn b j ++ cmds → d.cmd? t = s.dev.cmd? t) ∧
      d = { s.dev with regs := d.regs, log := d.log, lost := d.lost, hst := d.hst, cmds := d.cmds, free := d.free, seq := d.seq } := by
  refine gives_of_eq (e := ((s.dev.fence b j).signalStall b j p.cls).failAll (s.dev.cmdsIn b j ++ cmds)) (exec_stallDetected b j lane since cmds s) h0
    (by rw [hp]; exact if_neg (by simp [hf]; omega)) ?_
  obtain ⟨h1, h2, h3⟩ := s.dev.fence_flags b j
  have hs := (s.dev.fence b j).signalStall_frame b j p.cls
  have hfld (f : RF) (ha : f.a ≠ 0x0A000060) : (((s.dev.fence b j).signalStall b j p.cls).failAll (s.dev.cmdsIn b j ++ cmds)).fld f = (s.dev.fence b j).fld f :=
    (Dev.fld_congr_regs (by rw [Dev.failAll_frame]) (by rw [Dev.failAll_frame]) f).trans ((s.dev.fence b j).signalStall_fld b j p.cls ha)
  have hcmd (t : Tag) : ((s.dev.fence b j).signalStall b j p.cls).cmd? t = s.dev.cmd? t := by unfold Dev.cmd?; rw [hs, Dev.fence_frame]
  refine ⟨⟨?_, ?_, ?_, fun h => ?_, ?_, fun t ht => ?_, fun t ht => ?_⟩, ?_⟩
  · exact (congrArg (· != 0) (hfld (fFENCED b j) (fenced_addr b j).2)).trans (s.dev.fence_fenced b j)
  · exact (hfld _ (fstat_ne_logInject b)).trans h1
  · exact (hfld _ (fstat_ne_logInject b)).trans h2
  · exact (hfld _ (fstat_ne_logInject b)).trans (h3 h)
  · rw [Dev.failAll_frame, hs, Dev.fence_frame]
  · rw [Dev.failAll_cmd?, if_pos ht]
  · rw [Dev.failAll_cmd?, if_neg ht, hcmd]
  · rw [Dev.failAll_frame, hs, Dev.fence_frame]

/-! ### The parity of a word (R37) -/

theorem popcount_flip {n i : Nat} (hi : i < n) (x : Nat) : popcount n (x ^^^ 2 ^ i) % 2 = (popcount n x + 1) % 2 := by
  induction n generalizing i x with
  | zero => omega
  | succ n ih =>
    unfold popcount
    rw [Nat.xor_div_two, Nat.xor_mod_two_eq]
    cases i with
    | zero =>
      rw [pow_zero, show 1 / 2 = 0 by rfl, Nat.xor_zero]
      omega
    | succ i =>
      have hm : 2 ^ (i + 1) % 2 = 0 := by rw [pow_succ]; omega
      have hd : 2 ^ (i + 1) / 2 = 2 ^ i := by rw [pow_succ]; omega
      have := ih (by omega : i < n) (x / 2)
      rw [hd]
      omega

theorem popcount_add (m n x : Nat) : popcount (m + n) x = popcount m x + popcount n (x / 2 ^ m) := by
  induction m generalizing x with
  | zero => simp [popcount]
  | succ m ih =>
    rw [Nat.add_right_comm, popcount, popcount, ih, Nat.div_div_eq_div_mul, ← pow_succ']
    omega

theorem popcount_mod (n x : Nat) : popcount n (x % 2 ^ n) = popcount n x := by
  induction n generalizing x with
  | zero => rfl
  | succ n ih =>
    have h2 : x % 2 ^ (n + 1) % 2 = x % 2 := by rw [pow_succ, Nat.mod_mul_left_mod]
    have hd : x % 2 ^ (n + 1) / 2 = x / 2 % 2 ^ n := by rw [pow_succ', Nat.mod_mul_right_div_self]
    rw [popcount, popcount, h2, hd, ih]

theorem byteParity_ofNat (x : Nat) : byteParity (BitVec.ofNat 8 (x % 256)) = decide (popcount 8 x % 2 = 1) := by
  have h : (BitVec.ofNat 8 (x % 256)).toNat = x % 2 ^ 8 := by rw [BitVec.toNat_ofNat]; omega
  unfold byteParity
  rw [h, popcount_mod]

/-- Words with the same parity bits have as many ones, up to an even number. -/
theorem popcount_of_wordParity {v w : Word} (h : wordParity v = wordParity w) : popcount 32 v.toNat % 2 = popcount 32 w.toNat % 2 := by
  have key (x : Nat) : popcount 32 x = popcount 8 x + popcount 8 (x / 256) + popcount 8 (x / 256 / 256) + popcount 8 (x / 256 / 256 / 256) := by
    rw [show 32 = 8 + (8 + (8 + 8)) by rfl, popcount_add, popcount_add, popcount_add]
    norm_num
    omega
  simp only [wordParity, leBytes, List.map_cons, List.map_nil, byteParity_ofNat, List.cons.injEq, decide_eq_decide, and_true] at h
  obtain ⟨h0, h1, h2, h3⟩ := h
  rw [key, key]
  omega

/-- One flipped bit shows in the parity of its byte. -/
theorem wordParity_flip (w : Word) (i : Fin 32) : wordParity (w ^^^ BitVec.ofNat 32 (2 ^ i.val)) ≠ wordParity w := by
  intro h
  have hp := popcount_of_wordParity h
  have ht : (w ^^^ BitVec.ofNat 32 (2 ^ i.val)).toNat = w.toNat ^^^ 2 ^ i.val := by
    rw [BitVec.toNat_xor, BitVec.toNat_ofNat, Nat.mod_eq_of_lt (Nat.pow_lt_pow_right (by decide) i.isLt)]
  rw [ht] at hp
  have := popcount_flip i.isLt w.toNat
  omega

/-! ### The sweep (R55) -/

/-- A bit that is not reserved flips as it is. -/
theorem flip_unreserved {i : Fin 32} {res : Word} (hr : res.getLsbD i = false) : BitVec.ofNat 32 (2 ^ i.val) &&& ~~~res = BitVec.ofNat 32 (2 ^ i.val) := by
  refine BitVec.eq_of_getLsbD_eq fun k hk => ?_
  rw [BitVec.getLsbD_and, BitVec.getLsbD_not, BitVec.getLsbD_ofNat, Nat.testBit_two_pow]
  by_cases h : i.val = k
  · rw [← h, hr]; simp
  · simp [h]

theorem exec_registerParitySweep (b : Blk) (s : State) : exec (.registerParitySweep b none) s = s.doesIn 0 fun d => d := rfl

theorem exec_registerParitySweep_bad (b : Blk) (a : Word) (i : Fin 32) (s : State) : exec (.registerParitySweep b (some (a, i))) s =
    s.doesIn 0 fun d =>
      let new := d.word a.toNat ^^^ (BitVec.ofNat 32 (2 ^ i.val) &&& ~~~BitVec.ofNat 32 (accOf d.v a.toNat).res)
      if (locate a.toNat).map Prod.fst = some b ∧ wordParity new ≠ wordParity (d.word a.toNat) then (d.setWord a.toNat new).fault b 6 5 a.toNat else d := rfl

theorem gives_registerParitySweep {s : State} {b : Blk} {a : Word} {i : Fin 32} (h0 : s.dev.live 0 = true) (hl : (locate a.toNat).map Prod.fst = some b)
    (hr : (BitVec.ofNat 32 (accOf s.dev.v a.toNat).res).getLsbD i = false) (hf : a.toNat ≠ (fFBIT b 5).a) (hi : a.toNat ≠ F.LOG_INJECT_ARM.a) :
    Gives (.registerParitySweep b (some (a, i))) s fun d =>
      d.word a.toNat = s.dev.word a.toNat ^^^ BitVec.ofNat 32 (2 ^ i.val) ∧
      d.fld (fFBIT b 5) = 1 ∧ d.fld (fCOUNT b) = min (s.dev.fld (fCOUNT b) + 1) 255 ∧ (s.dev.fld (fFIRST b) = 0 → d.fld (fFIRST b) = 6) ∧
      (∀ x, x ≠ a.toNat → x ≠ (fFBIT b 5).a → x ≠ F.LOG_INJECT_ARM.a → d.word x = s.dev.word x) ∧
      d = { s.dev with regs := d.regs, log := d.log, lost := d.lost, hst := d.hst } := by
  refine gives_of_eq (e := (s.dev.setWord a.toNat (s.dev.word a.toNat ^^^ BitVec.ofNat 32 (2 ^ i.val))).fault b 6 5 a.toNat)
    (exec_registerParitySweep_bad b a i s) h0 (by dsimp only; rw [flip_unreserved hr]; exact if_pos ⟨hl, wordParity_flip _ _⟩) ?_
  have hg (f : RF) (hf' : f.a = (fFBIT b 5).a) (x : Word) : (s.dev.setWord a.toNat x).fld f = s.dev.fld f :=
    Dev.fld_congr hf' (Dev.word_setWord_ne _ _ hf.symm)
  have hw (x : Nat) (h1 : x ≠ (fFBIT b 5).a) (h2 : x ≠ F.LOG_INJECT_ARM.a) (d : Dev) : (d.fault b 6 5 a.toNat).word x = d.word x :=
    (Dev.event_word _ _ _ _ _ _ _ h2).trans (Dev.flagFault_word d b 6 5 h1)
  refine ⟨?_, ?_, ?_, fun h => ?_, fun x h1 h2 h3 => ?_, ?_⟩
  · rw [hw _ hf hi, Dev.word_setWord_same]
  · rw [Dev.fault_fld _ _ _ _ _ rfl, Dev.flagFault_bit _ _ (by decide)]
  · rw [Dev.fault_fld _ _ _ _ _ rfl, Dev.flagFault_count _ _ (by decide), hg (fCOUNT b) rfl]
  · rw [Dev.fault_fld _ _ _ _ _ rfl, Dev.flagFault_first _ _ (by decide) (by decide), hg (fFIRST b) rfl, if_pos h]
  · rw [hw _ h2 h3, Dev.word_setWord_ne _ _ h1]
  · rw [Dev.fault_frame]; rfl

/-- Settles O3: promotion by the map over the requests, a stall by its fence, its signal and the commands that end, a sweep by the parity of the flipped byte. -/
theorem promotionsStallsAndSweeps : Obligations.PromotionsStallsAndSweeps := by
  refine ⟨⟨fun s k h0 hk => gives_backgroundPromotion h0 hk, fun s h0 => gives_backgroundPromotion_roll h0⟩, fun s b j lane since cmds p h0 hp => ?_,
    fun s b h0 => ⟨gives_of_eq (exec_registerParitySweep b s) h0 rfl rfl, fun a i hl hr hf hi => gives_registerParitySweep h0 hl hr hf hi⟩⟩
  by_cases h : s.dev.flag (fFENCED b j) = true ∨ s.dev.now < since.toNat + s.dev.stallBound b j lane
  · obtain ⟨t, he, hq, ht⟩ := gives_stallDetected_not (cmds := cmds) h0 hp h
    refine ⟨t, he, hq, fun _ => ht, fun hf hn => ?_, by rw [ht]⟩
    rcases h with h | h
    · rw [hf] at h; cases h
    · exact absurd hn (Nat.not_le_of_lt h)
  · have hf : s.dev.flag (fFENCED b j) = false := Bool.eq_false_iff.2 fun c => h (.inl c)
    obtain ⟨t, he, hq, ht, hd⟩ := gives_stallDetected (cmds := cmds) h0 hp hf (Nat.le_of_not_lt fun c => h (.inr c))
    exact ⟨t, he, hq, fun c => absurd c h, fun _ _ => ht, hd⟩

end Sys2Proof.Machine
end

section
/-! SUPPORT. The decoder pool: its store, its slots and its reports, by what each operation changes (R117 to R121, R553). -/
namespace Sys2Proof.Machine

/-! ### Store, slots, park store -/

theorem Dev.setDec_parts (d : Dev) (x : DecS) : ∃ r, d.setDec x = { d with dec := x, regs := r } := ⟨_, rfl⟩

theorem Dev.setDec_word (d : Dev) (x : DecS) {a : Nat} (ha : a ≠ F.DEC_STAT_STORE.a) : (d.setDec x).word a = d.word a := by
  unfold Dev.setDec
  rw [Dev.word_setFld_ne _ F.DEC_STAT_BUSY _ ha, Dev.word_setFld_ne _ F.DEC_STAT_PARK _ ha, Dev.word_setFld_ne _ _ _ ha]; rfl

theorem Dev.slot?_congr {d e : Dev} (h : e.dec.slots = d.dec.slots) (k : Nat) : e.slot? k = d.slot? k := congrArg (Tab.get _ · k) h

theorem Dev.setSlot_slot? (d : Dev) (k : Nat) (x : Option SlotS) : (d.setSlot k x).slot? k = x := Tab.get_set_same (fun _ => none) d.dec.slots k x

/-- The slots' table with one slot's contents. -/
theorem Dev.setSlot_parts (d : Dev) (k : Nat) (x : Option SlotS) : ∃ t r, d.setSlot k x = { d with dec := { d.dec with slots := t }, regs := r } := ⟨_, _, rfl⟩

theorem Dev.setDec_setSlot_parts (d : Dev) (y : DecS) (k : Nat) (x : Option SlotS) : ∃ t r, (d.setDec y).setSlot k x = { d with dec := { y with slots := t }, regs := r } := by
  obtain ⟨r, hr⟩ := d.setDec_parts y
  obtain ⟨t, g, ht⟩ := (d.setDec y).setSlot_parts k x
  exact ⟨t, g, by rw [ht, hr]⟩

theorem Dev.clearBit_parts (d : Dev) (b : SoftBlock) : ∃ u r, d.clearBit b = { d with buf := u, regs := r } := ⟨_, _, Dev.setSlotBusy_frame _ _ _ _⟩

theorem Dev.clearBit_word (d : Dev) (b : SoftBlock) {a : Nat} (ha : a < 0x4000000) : (d.clearBit b).word a = d.word a :=
  Dev.setSlotBusy_word _ _ _ _ (by simp only [F.BUF_TBSTAT_BUSY]; omega)

theorem Dev.releaseRetained_parts (d : Dev) (b : SoftBlock) : ∃ p u r, d.releaseRetained b = { d with dec := { d.dec with park := p }, buf := u, regs := r } := by
  unfold Dev.releaseRetained
  split
  · next c _ _ =>
    obtain ⟨u, r, he⟩ := (d.dropRetained b).clearBit_parts c
    exact ⟨_, u, r, he⟩
  · exact ⟨_, _, _, rfl⟩

/-- A sector is the same whatever its soft values are. -/
theorem Dev.retained?_congr {d e : Dev} {b c : SoftBlock} (hp : e.dec.park = d.dec.park) (hh : c.head = b.head) (hl : c.lba = b.lba) (ho : c.ord = b.ord) : e.retained? c = d.retained? b := by
  unfold Dev.retained? sameSector
  rw [hp, hh, hl, ho]

/-! ### Reports -/

/-- The report waits at MSQa. -/
def Dev.sectorReported (d : Dev) (r : SecReport) : Dev := { d with msq := { d.msq with reports := d.msq.reports ++ [r] } }

theorem Dev.sectorReported_word (d : Dev) (r : SecReport) (a : Nat) : (d.sectorReported r).word a = d.word a := rfl

theorem Dev.report_parked (d : Dev) {r : SecReport} (h : r.status = rsParked) : d.report r = d.sectorReported r := if_pos h

theorem Dev.noteReport_parts (d : Dev) (n tag : Nat) (ok : Bool) : ∃ c r, d.noteReport n tag ok = { d with ch := c, regs := r } := by
  unfold Dev.noteReport
  dsimp only
  split
  · exact ⟨_, _, rfl⟩
  split
  · exact ⟨_, _, rfl⟩
  split
  · exact ⟨_, _, Dev.setLive_frame _ _ _ _⟩
  · exact ⟨_, _, rfl⟩

theorem Dev.report_parts (d : Dev) (r : SecReport) : ∃ c g, d.report r = { d.sectorReported r with ch := c, regs := g } := by
  unfold Dev.report
  dsimp only
  split
  · exact ⟨_, _, rfl⟩
  · exact Dev.noteReport_parts _ _ _ _

/-! ### A block from its channel (R117, R129, R553) -/

/-- DEC takes the first token of a channel's queue and checks its parity. -/
def Dev.tokenTaken (d : Dev) (n : Nat) (good : Bool) : Dev :=
  let e := (d.setPool .dec n (d.pool .dec n).take).bump .dec n
  if good then e else e.fault .dec 1 0 n

/-- The block is no longer in flight. -/
def Dev.landed (d : Dev) (b : SoftBlock) : Dev := { d with dec := { d.dec with flight := d.dec.flight.erase b } }

/-- The last read of ladder step 7 asks for the decode of what was retained. -/
def Dev.redoDue (d : Dev) (b : SoftBlock) (k : Nat) : Dev :=
  if d.fld F.DEC_RETRY_COMB_READS ≤ k then d.setDec { d.dec with redo := d.dec.redo ++ [{ b with ord := { b.ord with step := 7 } }] } else d

/-- Two reads of a sector as one. -/
def addedRead (c b : SoftBlock) : SoftBlock := { c with vals := addVals c.vals b.vals, inject := if b.inject.isSome then b.inject else c.inject }

theorem Dev.combine_eq (d : Dev) (b : SoftBlock) : d.combine b = match d.retained? b with
    | some (.retained c k) =>
      some ((((d.putRetained (addedRead c b) (k + 1)).clearBit b).report (reportOf b 0 rsParked 0 0 b.frame.reframe)).redoDue (addedRead c b) (k + 1))
    | _ => if d.dec.park.length < 16 then
        some (((d.setDec { d.dec with park := d.dec.park ++ [.retained b 1] }).report (reportOf b 0 rsParked 0 0 b.frame.reframe)).redoDue b 1)
      else none := rfl

/-- A block that has come in goes to the store, unless it is retained or added to a retained one. -/
def Dev.storeBlock (d : Dev) (n : Nat) (b : SoftBlock) : Dev :=
  match if b.ord.step = 7 then d.combine b else none with
  | some e => e.freeSlot .dec n
  | none => d.setDec { d.dec with store := d.dec.store ++ [b] }

/-- An armed injection strikes the block that comes in. -/
def Dev.takeBlock (d : Dev) (n : Nat) (b : SoftBlock) : Dev :=
  let (b, d) := d.injectBlock b
  d.storeBlock n b

theorem exec_decBlockAccept (n : Fin 20) (flip : Option Nat) (s : State) : exec (.decBlockAccept n flip) s =
    s.doesIn 2 fun d => match d.dec.flight.find? fun b => decide (b.head = n.val) with
      | none => d
      | some b =>
        if decide (96 ≤ d.dec.store.length) || d.flag (fFENCED .dec n) then d
        else
          let t := (d.pool .dec n).queue.headD (mkToken .data (blockBytes b))
          ((d.tokenTaken n (t.seen flip).good).landed b).takeBlock n (blockSeen b t flip) := rfl

section
variable (d : Dev) (n : Nat) (good : Bool)

theorem Dev.tokenTaken_parts : ∃ p c r l q h, d.tokenTaken n good = { d with pools := p, cnt := c, regs := r, log := l, lost := q, hst := h } := by
  unfold Dev.tokenTaken
  dsimp only
  split
  · exact ⟨_, _, _, _, _, _, rfl⟩
  · exact ⟨_, _, _, _, _, _, Dev.fault_frame _ _ _ _ _⟩

theorem Dev.tokenTaken_good_parts : ∃ p c, d.tokenTaken n true = { d with pools := p, cnt := c } := ⟨_, _, rfl⟩

theorem Dev.tokenTaken_pool : (d.tokenTaken n good).pool .dec n = (d.pool .dec n).take := by
  unfold Dev.tokenTaken
  dsimp only
  split
  · exact (Dev.pool_congr rfl rfl _ _).trans (Dev.pool_setPool_same d _ _ _)
  · rw [Dev.pool_congr (Dev.fault_pools _ _ _ _ _ _ _) (Dev.fault_v _ _ _ _ _ _ _)]
    exact (Dev.pool_congr rfl rfl _ _).trans (Dev.pool_setPool_same d _ _ _)

theorem Dev.tokenTaken_word {a : Nat} (h1 : a ≠ blkBase .dec + 0xFD00) (h2 : a ≠ 0x0A000060) : (d.tokenTaken n good).word a = d.word a := by
  unfold Dev.tokenTaken
  dsimp only
  split
  · rfl
  · unfold Dev.fault
    rw [Dev.event_word _ _ _ _ _ _ _ h2, Dev.flagFault_word _ _ _ _ h1]; rfl

theorem Dev.tokenTaken_bad : (d.tokenTaken n false).fld (fFBIT .dec 0) = 1 := (Dev.parityFault_flags _ .dec n).1

end

section
variable {d : Dev} {b : SoftBlock} (n : Nat)

theorem Dev.takeBlock_unarmed (h : d.flag F.DEC_INJECT_ARM = false) : d.takeBlock n b = d.storeBlock n b := by
  unfold Dev.takeBlock Dev.injectBlock
  rw [if_neg (by simp [h])]

theorem Dev.storeBlock_store (h : b.ord.step ≠ 7) : d.storeBlock n b = d.setDec { d.dec with store := d.dec.store ++ [b] } := by
  unfold Dev.storeBlock
  rw [if_neg h]

/-- A first read of ladder step 7 is retained, and its slot is freed. -/
theorem Dev.storeBlock_retain (h : b.ord.step = 7) (hr : d.retained? b = none) (hp : d.dec.park.length < 16) : ∃ w r p, d.storeBlock n b =
    { d.sectorReported (reportOf b 0 rsParked 0 0 b.frame.reframe) with dec := { d.dec with park := d.dec.park ++ [.retained b 1], redo := w }, regs := r, pools := p } := by
  have hc : d.combine b = some (((d.setDec { d.dec with park := d.dec.park ++ [.retained b 1] }).sectorReported (reportOf b 0 rsParked 0 0 b.frame.reframe)).redoDue b 1) := by
    rw [Dev.combine_eq, hr]
    dsimp only
    rw [if_pos hp, Dev.report_parked _ rfl]
  obtain ⟨w, r, he⟩ : ∃ w r, ((d.setDec { d.dec with park := d.dec.park ++ [.retained b 1] }).sectorReported (reportOf b 0 rsParked 0 0 b.frame.reframe)).redoDue b 1 =
      { d.sectorReported (reportOf b 0 rsParked 0 0 b.frame.reframe) with dec := { d.dec with park := d.dec.park ++ [.retained b 1], redo := w }, regs := r } := by
    obtain ⟨g, hg⟩ := d.setDec_parts { d.dec with park := d.dec.park ++ [.retained b 1] }
    rw [hg]
    unfold Dev.redoDue
    split
    · exact ⟨_, (Dev.setDec_parts _ _).imp fun _ h => h⟩
    · exact ⟨_, _, rfl⟩
  unfold Dev.storeBlock
  rw [if_pos h, hc, he]
  exact ⟨w, r, _, Dev.freeSlot_frame _ _ _⟩

/-- What a block becomes leaves the registers below BUF's but DEC.STAT. -/
theorem Dev.combine_word {e : Dev} {a : Nat} (h : d.combine b = some e) (h1 : a ≠ F.DEC_STAT_STORE.a) (h2 : a < 0x4000000) : e.word a = d.word a := by
  have due (x : Dev) (c : SoftBlock) (k : Nat) (hx : x.word a = d.word a) : (x.redoDue c k).word a = d.word a := by
    unfold Dev.redoDue
    split
    · rw [Dev.setDec_word _ _ h1, hx]
    · exact hx
  rw [Dev.combine_eq] at h
  split at h
  · rw [← Option.some.inj h]
    refine due _ _ _ ?_
    rw [Dev.report_parked _ rfl, Dev.sectorReported_word, Dev.clearBit_word _ _ h2]
    exact Dev.setDec_word d _ h1
  · split at h
    · rw [← Option.some.inj h]
      refine due _ _ _ ?_
      rw [Dev.report_parked _ rfl, Dev.sectorReported_word]
      exact Dev.setDec_word d _ h1
    · cases h

theorem Dev.storeBlock_word {a : Nat} (h1 : a ≠ F.DEC_STAT_STORE.a) (h2 : a < 0x4000000) : (d.storeBlock n b).word a = d.word a := by
  unfold Dev.storeBlock
  split
  · next e he =>
    have hc : d.combine b = some e := by
      split at he
      · exact he
      · cases he
    rw [Dev.word_congr (Dev.freeSlot_regs _ _ _) (Dev.freeSlot_v _ _ _), Dev.combine_word hc h1 h2]
  · exact Dev.setDec_word _ _ h1
end

section
variable {s : State} {n : Fin 20} {flip : Option Nat} {b : SoftBlock} (h2 : s.dev.live 2 = true) (hb : (s.dev.dec.flight.find? fun x => decide (x.head = n.val)) = some b)
include h2 hb

theorem gives_decBlockAccept_full (h : 96 ≤ s.dev.dec.store.length ∨ s.dev.flag (fFENCED .dec n) = true) : Gives (.decBlockAccept n flip) s fun d => d = s.dev := by
  have hc : (decide (96 ≤ s.dev.dec.store.length) || s.dev.flag (fFENCED .dec n)) = true := by
    rw [Bool.or_eq_true, decide_eq_true_iff]
    exact h
  exact gives_of_eq (e := s.dev) (exec_decBlockAccept n flip s) h2 (by rw [hb]; exact if_pos hc) rfl

theorem gives_decBlockAccept {t : Token} {b' : SoftBlock} (ht : t = (s.dev.pool .dec n).queue.headD (mkToken .data (blockBytes b))) (hb' : b' = blockSeen b t flip)
    (hi : s.dev.flag F.DEC_INJECT_ARM = false) (hr : s.dev.dec.store.length < 96) (hf : s.dev.flag (fFENCED .dec n) = false) : Gives (.decBlockAccept n flip) s fun d =>
      (b.ord.step ≠ 7 → d.dec = { s.dev.dec with store := s.dev.dec.store ++ [b'], flight := s.dev.dec.flight.erase b } ∧ d.msq = s.dev.msq ∧
        d.pool .dec n = (s.dev.pool .dec n).take) ∧
      (b.ord.step = 7 → s.dev.retained? b = none → s.dev.dec.park.length < 16 → d.dec.park = s.dev.dec.park ++ [.retained b' 1] ∧ d.dec.store = s.dev.dec.store ∧
        d.dec.flight = s.dev.dec.flight.erase b ∧ d.msq = { s.dev.msq with reports := s.dev.msq.reports ++ [reportOf b' 0 rsParked 0 0 b.frame.reframe] }) ∧
      ((t.seen flip).good = false → d.fld (fFBIT .dec 0) = 1) ∧
      ((t.seen flip).good = true → b.ord.step ≠ 7 → d = { s.dev with dec := d.dec, pools := d.pools, cnt := d.cnt, regs := d.regs }) := by
  obtain ⟨ho, hh, hl, hm⟩ : b'.ord = b.ord ∧ b'.head = b.head ∧ b'.lba = b.lba ∧ b'.frame = b.frame := by
    rw [hb']; unfold blockSeen; split <;> exact ⟨rfl, rfl, rfl, rfl⟩
  have hj : ((s.dev.tokenTaken n (t.seen flip).good).landed b).flag F.DEC_INJECT_ARM = false :=
    (congrArg (· != 0) (Dev.fld_congr rfl (Dev.tokenTaken_word s.dev n (t.seen flip).good (a := F.DEC_INJECT_ARM.a) (by decide) (by decide)))).trans hi
  refine gives_of_eq (e := ((s.dev.tokenTaken n (t.seen flip).good).landed b).storeBlock n b') (exec_decBlockAccept n flip s) h2 ?_ ?_
  · rw [hb]
    dsimp only
    rw [if_neg (by simp [hf]; omega), ← ht, ← hb', Dev.takeBlock_unarmed _ hj]
  obtain ⟨p, c, r, l, q, x, hp⟩ := s.dev.tokenTaken_parts n (t.seen flip).good
  refine ⟨fun h => ?_, fun h hn hk => ?_, fun h => ?_, fun h h7 => ?_⟩
  · have hq := Dev.tokenTaken_pool s.dev n (t.seen flip).good
    obtain ⟨g, hg⟩ := Dev.setDec_parts ((s.dev.tokenTaken n (t.seen flip).good).landed b) { ((s.dev.tokenTaken n (t.seen flip).good).landed b).dec with
      store := ((s.dev.tokenTaken n (t.seen flip).good).landed b).dec.store ++ [b'] }
    rw [Dev.storeBlock_store _ (by rw [ho]; exact h), hg]
    rw [hp] at hq ⊢
    exact ⟨rfl, rfl, hq⟩
  · obtain ⟨w, g, u, he⟩ := Dev.storeBlock_retain (d := (s.dev.tokenTaken n (t.seen flip).good).landed b) (b := b') n (by rw [ho]; exact h)
      (by rw [Dev.retained?_congr (d := s.dev) (b := b) (by rw [hp]; rfl) hh hl ho]; exact hn) (by rw [hp]; exact hk)
    rw [he, hp, hm]
    exact ⟨rfl, rfl, rfl, rfl⟩
  · rw [h]
    exact (Dev.fld_congr rfl (Dev.storeBlock_word n (by decide) (by decide))).trans ((Dev.fld_congr_regs rfl rfl _).trans (Dev.tokenTaken_bad s.dev n))
  · obtain ⟨p, c, hp⟩ := s.dev.tokenTaken_good_parts n
    obtain ⟨g, hg⟩ := Dev.setDec_parts ((s.dev.tokenTaken n true).landed b) { ((s.dev.tokenTaken n true).landed b).dec with store := ((s.dev.tokenTaken n true).landed b).dec.store ++ [b'] }
    rw [h, Dev.storeBlock_store _ (by rw [ho]; exact h7), hg, hp]
    rfl
end

/-! ### Slots (R117, R118) -/

theorem exec_decoderSlotTake (k : Fin 48) (s : State) : exec (.decoderSlotTake k) s =
    s.doesIn 2 fun d => if (d.slot? k).isSome then d else match d.dec.redo with
      | b :: rest => (d.setDec { d.dec with redo := rest }).setSlot k (some { blk := b, cap := d.fld F.DEC_CTRL_ITER_RETRY, retained := true })
      | [] => if d.parkedDue then d.takeParked k else match d.dec.store with
        | [] => d
        | b :: rest => ((d.setDec { d.dec with store := rest }).setSlot k (some { blk := b, cap := (d.capOf b rest.length).1, press := (d.capOf b rest.length).2 })).freeSlot .dec b.head := rfl

theorem exec_parkedRedecode (k : Fin 48) (s : State) : exec (.parkedRedecode k) s = s.doesIn 2 fun d => if (d.slot? k).isNone && d.parkedDue then d.takeParked k else d := rfl

section
variable {s : State} {k : Fin 48} (h2 : s.dev.live 2 = true)
include h2

theorem gives_slotTake_busy (h : s.dev.slot? k ≠ none) : Gives (.decoderSlotTake k) s (fun d => d = s.dev) ∧ Gives (.parkedRedecode k) s fun d => d = s.dev := by
  have hs : (s.dev.slot? k).isSome = true := Option.isSome_iff_ne_none.2 h
  refine ⟨gives_of_eq (exec_decoderSlotTake k s) h2 (if_pos hs) rfl, gives_of_eq (exec_parkedRedecode k s) h2 (if_neg ?_) rfl⟩
  rw [Option.isNone_eq_false_iff.2 hs]
  simp

variable {b : SoftBlock} {r : List SoftBlock}

theorem gives_decoderSlotTake_redo (h : s.dev.slot? k = none) (hr : s.dev.dec.redo = b :: r) : Gives (.decoderSlotTake k) s fun d => d.dec.redo = r ∧
    d.slot? k = some { blk := b, cap := s.dev.fld F.DEC_CTRL_ITER_RETRY, retained := true } ∧ d.dec.store = s.dev.dec.store ∧ d.dec.park = s.dev.dec.park ∧
    d = { s.dev with dec := d.dec, regs := d.regs } := by
  let x : SlotS := { blk := b, cap := s.dev.fld F.DEC_CTRL_ITER_RETRY, retained := true }
  have hs := (s.dev.setDec { s.dev.dec with redo := r }).setSlot_slot? k (some x)
  obtain ⟨t, g, he⟩ := s.dev.setDec_setSlot_parts { s.dev.dec with redo := r } k (some x)
  rw [he] at hs
  exact gives_of_eq (exec_decoderSlotTake k s) h2 ((if_neg (by simp [h])).trans (by rw [hr]; exact he)) ⟨rfl, hs, rfl, rfl, rfl⟩

theorem gives_decoderSlotTake_store (h : s.dev.slot? k = none) (hr : s.dev.dec.redo = []) (hd : s.dev.parkedDue = false) (hs : s.dev.dec.store = b :: r) :
    Gives (.decoderSlotTake k) s fun d =>
      d.dec.store = r ∧ (∃ x, d.slot? k = some x ∧ x.blk = b ∧ x.retained = false ∧ x.cap = (s.dev.capOf b r.length).1) ∧ d.dec.park = s.dev.dec.park ∧
      d = { s.dev with dec := d.dec, regs := d.regs, pools := d.pools } := by
  let x : SlotS := { blk := b, cap := (s.dev.capOf b r.length).1, press := (s.dev.capOf b r.length).2 }
  have hx := (s.dev.setDec { s.dev.dec with store := r }).setSlot_slot? k (some x)
  obtain ⟨t, g, he⟩ := s.dev.setDec_setSlot_parts { s.dev.dec with store := r } k (some x)
  rw [he] at hx
  refine gives_of_eq (e := ({ s.dev with dec := { s.dev.dec with store := r, slots := t }, regs := g } : Dev).freeSlot .dec b.head) (exec_decoderSlotTake k s) h2
    ((if_neg (by simp [h])).trans (by rw [hr]; exact (if_neg (by simp [hd])).trans (by rw [hs]; exact congrArg (Dev.freeSlot · .dec b.head) he))) ?_
  rw [Dev.freeSlot_frame]
  exact ⟨rfl, ⟨x, hx, rfl, rfl, rfl⟩, rfl, rfl⟩

theorem gives_parkedRedecode (h : s.dev.slot? k = none) (hd : s.dev.parkedDue = true) (hp : s.dev.parkedHead = some b) : Gives (.parkedRedecode k) s fun d =>
    d.slot? k = some { blk := b, cap := s.dev.fld F.DEC_CTRL_ITER_MAX } ∧ d.dec.park = s.dev.dec.park.erase (.parked b) ∧ d.dec.store = s.dev.dec.store ∧
    d = { s.dev with dec := d.dec, regs := d.regs } := by
  let x : SlotS := { blk := b, cap := s.dev.fld F.DEC_CTRL_ITER_MAX }
  have hx := (s.dev.setDec { s.dev.dec with park := s.dev.dec.park.erase (.parked b) }).setSlot_slot? k (some x)
  obtain ⟨t, g, he⟩ := s.dev.setDec_setSlot_parts { s.dev.dec with park := s.dev.dec.park.erase (.parked b) } k (some x)
  rw [he] at hx
  exact gives_of_eq (exec_parkedRedecode k s) h2 ((if_pos (by rw [h, hd]; rfl)).trans (by unfold Dev.takeParked; rw [hp]; exact he)) ⟨hx, rfl, rfl, rfl⟩
end

end Sys2Proof.Machine
end

section
/-! SUPPORT. The end of a decode and of a decoded sector's write (R115, R118 to R122, R553). -/
namespace Sys2Proof.Machine

/-! ### What a slot that stops makes of its block -/

/-- The shift of the report: that of the hypothesis in step 5, else that of the framing. -/
def SlotS.reframe (x : SlotS) : Int := if x.blk.ord.step = 5 then shiftHyp x.shift else x.blk.frame.reframe

theorem SlotS.reframe_framing {x : SlotS} (h : x.blk.ord.step ≠ 5) : x.reframe = x.blk.frame.reframe := if_neg h

section
variable (d : Dev) (k : Nat) (x : SlotS)

/-- A sector that is OK waits for BUF's response under the next number. -/
theorem Dev.landSector_parts (info : Bytes) (iter corr : Nat) : ∃ p c g u l q h, d.landSector k x info iter corr =
    { d with dec := { d.dec with park := p, nextId := d.dec.nextId + 1, writes := d.dec.writes ++ [(d.dec.nextId, reportOf x.blk k rsOK iter corr x.reframe)] }
             cnt := c, regs := g, buf := u, log := l, lost := q, hst := h } := by
  have freed (e : Dev) (c : Tab (BitVec 64)) (he : e = { d with cnt := c }) : ∃ p u g, (if x.retained then e.dropRetained x.blk else e.releaseRetained x.blk) =
      { d with cnt := c, dec := { d.dec with park := p }, buf := u, regs := g } := by
    split
    · obtain ⟨g, hg⟩ := e.setDec_parts { e.dec with park := e.dec.park.filter fun y => match y with | .retained c _ => !sameSector x.blk c | .parked _ => true }
      exact ⟨_, _, _, hg.trans (by rw [he])⟩
    · obtain ⟨p, u, g, hg⟩ := e.releaseRetained_parts x.blk
      exact ⟨_, _, _, hg.trans (by rw [he])⟩
  have counted : ∃ c, (if 0 < x.blk.ord.step then (d.bump .dec 20).bump .dec (25 + x.blk.ord.step) else d.bump .dec 20) = { d with cnt := c } := by
    split
    · exact ⟨_, rfl⟩
    · exact ⟨_, rfl⟩
  obtain ⟨c, hc⟩ := counted
  obtain ⟨p, u, g, hp⟩ := freed _ c hc
  unfold Dev.landSector
  dsimp only
  rw [hp, Dev.bufAsk_frame]
  split
  · rw [Dev.event_frame]
    exact ⟨_, _, _, _, _, _, _, rfl⟩
  · exact ⟨_, _, _, _, _, _, _, rfl⟩

/-- A sector that is not OK is reported; its block is retained, or its slot bit cleared. -/
theorem Dev.failSector_parts (status iter corr : Nat) : ∃ p c g u m, d.failSector k x status iter corr =
    { d.sectorReported (reportOf x.blk k status iter corr x.reframe) with dec := { d.dec with park := p }, cnt := c, regs := g, buf := u, ch := m } := by
  have kept (e : Dev) (c : Tab (BitVec 64)) (he : e = { d with cnt := c }) : ∃ p u g,
      (if x.retained then e else if !x.blk.ord.retain || x.blk.ord.step == 7 then e.clearBit x.blk else match e.retained? x.blk with
        | some (.retained c n) => (e.putRetained x.blk n).clearBit c
        | _ => if e.dec.park.length < 16 then e.setDec { e.dec with park := e.dec.park ++ [.retained x.blk 0] } else e.clearBit x.blk) =
      { d with cnt := c, dec := { d.dec with park := p }, buf := u, regs := g } := by
    obtain ⟨u, g, hb⟩ := e.clearBit_parts x.blk
    split
    · exact ⟨_, _, _, he⟩
    split
    · exact ⟨_, _, _, hb.trans (by rw [he])⟩
    split
    · next c n _ =>
      obtain ⟨u, g, hb⟩ := (e.putRetained x.blk n).clearBit_parts c
      obtain ⟨g', hd⟩ : ∃ g', e.putRetained x.blk n = _ := e.setDec_parts _
      exact ⟨_, _, _, hb.trans (by rw [hd, he])⟩
    · split
      · obtain ⟨g, hg⟩ := e.setDec_parts { e.dec with park := e.dec.park ++ [.retained x.blk 0] }
        exact ⟨_, _, _, hg.trans (by rw [he])⟩
      · exact ⟨_, _, _, hb.trans (by rw [he])⟩
  obtain ⟨p, u, g, hp⟩ := kept (d.bump .dec (if status = rsCrcFail then 23 else 22)) _ rfl
  obtain ⟨m, g', hr⟩ := Dev.report_parts ({ d with cnt := (d.bump .dec (if status = rsCrcFail then 23 else 22)).cnt, dec := { d.dec with park := p }, buf := u, regs := g } : Dev)
    (reportOf x.blk k status iter corr x.reframe)
  refine ⟨p, _, g', u, m, Eq.trans ?_ hr⟩
  exact congrArg (Dev.report · _) hp

/-- A block under pressure is parked while there is room. -/
theorem Dev.parkSector_parts (iter : Nat) (h : d.dec.park.length < 16) : ∃ c g, d.parkSector k x iter =
    { d.sectorReported (reportOf x.blk k rsParked iter 0 x.blk.frame.reframe) with dec := { d.dec with park := d.dec.park ++ [.parked x.blk] }, cnt := c, regs := g } := by
  obtain ⟨g, hg⟩ := d.setDec_parts { d.dec with park := d.dec.park ++ [.parked x.blk] }
  unfold Dev.parkSector
  dsimp only
  rw [if_pos h, Dev.report_parked _ rfl, hg]
  exact ⟨_, _, rfl⟩

section
variable (status iter corr : Nat)

theorem Dev.slotFails_shift (h : x.blk.ord.step = 5) (hs : x.shift < 5) : d.slotFails k x status iter corr = d.setSlot k (some { x with shift := x.shift + 1 }) := if_pos ⟨h, hs⟩

variable {x}

theorem Dev.slotFails_fail (h : x.blk.ord.step ≠ 5) (hp : x.press = false ∨ status ≠ rsNoConverge) : d.slotFails k x status iter corr = (d.setSlot k none).failSector k x status iter corr := by
  unfold Dev.slotFails
  rw [if_neg fun c => h c.1]
  refine if_neg ?_
  rcases hp with hp | hp <;> simp [hp]

theorem Dev.slotFails_park (h : x.blk.ord.step ≠ 5) (hp : x.press = true) : d.slotFails k x rsNoConverge iter corr = (d.setSlot k none).parkSector k x iter := by
  unfold Dev.slotFails
  rw [if_neg fun c => h c.1]
  exact if_pos (by rw [hp]; rfl)
end
end

/-! ### The end of a decode (R115, R118, R121, R122) -/

/-- The bytes that a slot has decoded: an injection of KIND 1 flips bit 0 of the CRC (R129). -/
def SlotS.decodedBytes (x : SlotS) (code : List Bool) : Bytes :=
  if x.blk.inject = some 1 then (bytesOfBits 4100 code).take 4096 ++ leBytes 4 (leAt (bytesOfBits 4100 code) 4096 4 ^^^ 1) else bytesOfBits 4100 code

/-- What a slot's outcome makes of its block. -/
def Dev.decoded (d : Dev) (k : Nat) (x : SlotS) (iter : Nat) : Option (List Bool) → Dev
  | none => d.slotFails k x rsNoConverge iter 0
  | some code =>
    if crcGood x.blk.lba x.blk.ord.nsid (x.decodedBytes code) then (d.setSlot k none).landSector k x (x.decodedBytes code) iter (corrCount (slotVals x) code)
    else d.slotFails k x rsCrcFail iter (corrCount (slotVals x) code)

theorem SlotS.decodedBytes_plain {x : SlotS} (h : x.blk.inject ≠ some 1) (w : List Bool) : x.decodedBytes w = bytesOfBits 4100 w := if_neg h

theorem Dev.decoded_crcFail (d : Dev) (k : Nat) {x : SlotS} (iter : Nat) {w : List Bool} (hi : x.blk.inject ≠ some 1) (hg : crcGood x.blk.lba x.blk.ord.nsid (bytesOfBits 4100 w) = false) :
    d.decoded k x iter (some w) = d.slotFails k x rsCrcFail iter (corrCount (slotVals x) w) :=
  if_neg (by rw [SlotS.decodedBytes_plain hi, hg]; decide)

theorem Dev.decoded_ok (d : Dev) (k : Nat) {x : SlotS} (iter : Nat) {w : List Bool} (hi : x.blk.inject ≠ some 1) (hg : crcGood x.blk.lba x.blk.ord.nsid (bytesOfBits 4100 w) = true) :
    d.decoded k x iter (some w) = (d.setSlot k none).landSector k x (x.decodedBytes w) iter (corrCount (slotVals x) w) :=
  if_pos (by rw [SlotS.decodedBytes_plain hi, hg])

theorem exec_decodeEnd (k : Fin 48) (s : State) : exec (.decodeEnd k) s =
    s.doesIn 2 fun d => match d.slot? k with
      | none => d
      | some x => (d.bump .dec 21 (ldpcDecode x.cap (slotVals x)).1).decoded k x (ldpcDecode x.cap (slotVals x)).1 (ldpcDecode x.cap (slotVals x)).2 := rfl

section
variable {s : State} {k : Fin 48} {x : SlotS} {iter : Nat} {code : Option (List Bool)} (h2 : s.dev.live 2 = true) (hx : s.dev.slot? k = some x)
  (hl : ldpcDecode x.cap (slotVals x) = (iter, code))
include h2 hx hl

theorem gives_decodeEnd {P : Dev → Prop} {e : Dev} (he : (s.dev.bump .dec 21 iter).decoded k x iter code = e) (hP : P e) : Gives (.decodeEnd k) s P :=
  gives_of_eq (exec_decodeEnd k s) h2 (by rw [hx]; dsimp only; rw [hl]; exact he) hP

theorem gives_decodeEnd_shift (hc : code = none) (h5 : x.blk.ord.step = 5) (hs : x.shift < 5) : Gives (.decodeEnd k) s fun d =>
    d.slot? k = some { x with shift := x.shift + 1 } ∧ d.msq = s.dev.msq ∧ d = { s.dev with dec := d.dec, cnt := d.cnt, regs := d.regs } := by
  have hk := (s.dev.bump .dec 21 iter).setSlot_slot? k (some { x with shift := x.shift + 1 })
  obtain ⟨t, g, hp⟩ := (s.dev.bump .dec 21 iter).setSlot_parts k (some { x with shift := x.shift + 1 })
  rw [hp] at hk
  exact gives_decodeEnd h2 hx hl (by rw [hc]; exact (Dev.slotFails_shift _ _ _ _ _ _ h5 hs).trans hp) ⟨hk, rfl, rfl⟩

/-- A sector that is not OK leaves the slot and is reported. -/
theorem gives_decodeEnd_fail {status corr : Nat} (h5 : x.blk.ord.step ≠ 5) (hp : x.press = false ∨ status ≠ rsNoConverge)
    (hd : (s.dev.bump .dec 21 iter).decoded k x iter code = (s.dev.bump .dec 21 iter).slotFails k x status iter corr) : Gives (.decodeEnd k) s fun d => d.slot? k = none ∧
      d.msq = { s.dev.msq with reports := s.dev.msq.reports ++ [reportOf x.blk k status iter corr x.blk.frame.reframe] } ∧ d.dec.writes = s.dev.dec.writes ∧
      d = { s.dev with dec := d.dec, cnt := d.cnt, regs := d.regs, buf := d.buf, msq := d.msq, ch := d.ch } := by
  have hk := (s.dev.bump .dec 21 iter).setSlot_slot? k none
  obtain ⟨t, g, ht⟩ := (s.dev.bump .dec 21 iter).setSlot_parts k none
  rw [ht] at hk
  obtain ⟨p, c, g', u, m, hf⟩ := Dev.failSector_parts ({ s.dev.bump .dec 21 iter with dec := { s.dev.dec with slots := t }, regs := g } : Dev) k x status iter corr
  rw [SlotS.reframe_framing h5] at hf
  exact gives_decodeEnd h2 hx hl (hd.trans ((Dev.slotFails_fail _ _ _ _ _ h5 hp).trans ((congrArg (Dev.failSector · k x status iter corr) ht).trans hf))) ⟨hk, rfl, rfl, rfl⟩

theorem gives_decodeEnd_crcFail {w : List Bool} (hc : code = some w) (h5 : x.blk.ord.step ≠ 5) (hi : x.blk.inject ≠ some 1) (hg : crcGood x.blk.lba x.blk.ord.nsid (bytesOfBits 4100 w) = false) :
    Gives (.decodeEnd k) s fun d => d.slot? k = none ∧ (∃ r, d.msq = { s.dev.msq with reports := s.dev.msq.reports ++ [r] } ∧ r.status = rsCrcFail ∧ r.iter = iter) ∧
      d.dec.writes = s.dev.dec.writes ∧ d = { s.dev with dec := d.dec, cnt := d.cnt, regs := d.regs, buf := d.buf, msq := d.msq, ch := d.ch } := by
  subst hc
  exact (gives_decodeEnd_fail h2 hx hl h5 (.inr (by decide)) (Dev.decoded_crcFail _ _ _ hi hg)).mono fun d ⟨hs, hm, hw, hd⟩ => ⟨hs, ⟨_, hm, rfl, rfl⟩, hw, hd⟩

theorem gives_decodeEnd_park (hc : code = none) (h5 : x.blk.ord.step ≠ 5) (hp : x.press = true) (hr : s.dev.dec.park.length < 16) : Gives (.decodeEnd k) s fun d => d.slot? k = none ∧
    d.dec.park = s.dev.dec.park ++ [.parked x.blk] ∧ d.msq = { s.dev.msq with reports := s.dev.msq.reports ++ [reportOf x.blk k rsParked iter 0 x.blk.frame.reframe] } ∧
    d = { s.dev with dec := d.dec, cnt := d.cnt, regs := d.regs, msq := d.msq } := by
  have hk := (s.dev.bump .dec 21 iter).setSlot_slot? k none
  obtain ⟨t, g, ht⟩ := (s.dev.bump .dec 21 iter).setSlot_parts k none
  rw [ht] at hk
  obtain ⟨c, g', hf⟩ := Dev.parkSector_parts ({ s.dev.bump .dec 21 iter with dec := { s.dev.dec with slots := t }, regs := g } : Dev) k x iter hr
  exact gives_decodeEnd h2 hx hl (Eq.trans (by rw [hc]; exact Dev.slotFails_park _ _ _ _ h5 hp) ((congrArg (Dev.parkSector · k x iter) ht).trans hf)) ⟨hk, rfl, rfl, rfl⟩

theorem gives_decodeEnd_ok {w : List Bool} (hc : code = some w) (hi : x.blk.inject ≠ some 1) (hg : crcGood x.blk.lba x.blk.ord.nsid (bytesOfBits 4100 w) = true) :
    Gives (.decodeEnd k) s fun d => d.slot? k = none ∧
      (∃ r, d.dec.writes = s.dev.dec.writes ++ [(s.dev.dec.nextId, r)] ∧ r.status = rsOK ∧ r.lba = x.blk.lba ∧ r.iter = iter) ∧
      d = { s.dev with dec := d.dec, cnt := d.cnt, regs := d.regs, buf := d.buf, log := d.log, lost := d.lost, hst := d.hst } := by
  have hk := (s.dev.bump .dec 21 iter).setSlot_slot? k none
  obtain ⟨t, g, ht⟩ := (s.dev.bump .dec 21 iter).setSlot_parts k none
  rw [ht] at hk
  obtain ⟨p, c, g', u, l, q, h, hf⟩ := Dev.landSector_parts ({ s.dev.bump .dec 21 iter with dec := { s.dev.dec with slots := t }, regs := g } : Dev) k x (x.decodedBytes w) iter
    (corrCount (slotVals x) w)
  exact gives_decodeEnd h2 hx hl (Eq.trans (by rw [hc]; exact Dev.decoded_ok _ _ _ hi hg) ((congrArg (Dev.landSector · k x _ iter _) ht).trans hf)) ⟨hk, ⟨_, rfl, rfl, rfl, rfl⟩, rfl⟩
end

/-! ### BUF's response to the write of a sector (R119) -/

/-- The sector's report goes to MSQa, with BUF_ERR after an error response. -/
def Dev.decWritten (d : Dev) (id : Nat) (r : SecReport) (err : Bool) : Dev :=
  let d := { d with dec := { d.dec with writes := d.dec.writes.erase (id, r) } }
  if err then ((d.setSlotBusy (actOf r.head) r.tbuf false).event .dec 0x04 r.tag r.index r.tbuf r.head).report { r with status := rsBufErr } else d.report r

theorem exec_decSectorWriteResponse (s : State) : exec .decSectorWriteResponse s =
    s.doesIn 2 fun d => match d.dec.writes.find? fun w => d.buf.resps.any fun r => decide (r.client = 0 ∧ r.id = w.1) with
      | none => d
      | some (id, r) => match d.bufTake 0 id with
        | none => d
        | some (resp, d) => d.decWritten id r resp.err := rfl

theorem Dev.bufTake_some {d : Dev} {c id : Nat} {r : BufResp} (h : (d.buf.resps.find? fun q => decide (q.client = c ∧ q.id = id)) = some r) :
    d.bufTake c id = some (r, { d with buf := { d.buf with resps := d.buf.resps.erase r } }) := by
  unfold Dev.bufTake
  rw [h]

theorem Dev.setSlotBusy_free (d : Dev) (a k : Nat) : (d.setSlotBusy a k false).slotBusy a k = false := by
  have h : (d.setSlotBusy a k false).slotMap a = (d.slotMap a).set (fun _ => none) k none := by
    unfold Dev.setSlotBusy Dev.setSlotMap Dev.slotMap
    split <;> rfl
  unfold Dev.slotBusy
  rw [h, Tab.get_set_same]; rfl

theorem Dev.decWritten_ok (d : Dev) (id : Nat) (r : SecReport) : ∃ m g, d.decWritten id r false =
    { d.sectorReported r with dec := { d.dec with writes := d.dec.writes.erase (id, r) }, ch := m, regs := g } := by
  obtain ⟨m, g, he⟩ := Dev.report_parts ({ d with dec := { d.dec with writes := d.dec.writes.erase (id, r) } } : Dev) r
  exact ⟨m, g, he⟩

theorem Dev.decWritten_err (d : Dev) (id : Nat) (r : SecReport) : ∃ u m g l q h, d.decWritten id r true =
    { d.sectorReported { r with status := rsBufErr } with dec := { d.dec with writes := d.dec.writes.erase (id, r) }, buf := u, ch := m, regs := g, log := l, lost := q, hst := h } ∧
    (d.decWritten id r true).slotBusy (actOf r.head) r.tbuf = false := by
  let e : Dev := { d with dec := { d.dec with writes := d.dec.writes.erase (id, r) } }
  have hb := e.setSlotBusy_free (actOf r.head) r.tbuf
  obtain ⟨u, g, hf⟩ : ∃ u g, e.setSlotBusy (actOf r.head) r.tbuf false = { e with buf := u, regs := g } := ⟨_, _, e.setSlotBusy_frame _ _ _⟩
  obtain ⟨g', l, q, h, hv⟩ : ∃ g' l q h, (e.setSlotBusy (actOf r.head) r.tbuf false).event .dec 0x04 r.tag r.index r.tbuf r.head = { e with buf := u, regs := g', log := l, lost := q, hst := h } := by
    rw [Dev.event_frame, hf]; exact ⟨_, _, _, _, rfl⟩
  obtain ⟨m, g'', he⟩ := Dev.report_parts ({ e with buf := u, regs := g', log := l, lost := q, hst := h } : Dev) { r with status := rsBufErr }
  have hd : d.decWritten id r true = _ := (congrArg (Dev.report · { r with status := rsBufErr }) hv).trans he
  refine ⟨u, m, g'', l, q, h, hd, ?_⟩
  rw [hd, Dev.slotBusy_congr (d := e.setSlotBusy (actOf r.head) r.tbuf false) (by rw [hf]; rfl), hb]

theorem gives_decSectorWriteResponse {s : State} {id : Nat} {r : SecReport} {resp : BufResp} (h2 : s.dev.live 2 = true)
    (hw : (s.dev.dec.writes.find? fun w => s.dev.buf.resps.any fun q => decide (q.client = 0 ∧ q.id = w.1)) = some (id, r))
    (hq : (s.dev.buf.resps.find? fun q => decide (q.client = 0 ∧ q.id = id)) = some resp) : Gives .decSectorWriteResponse s fun d =>
      d.dec = { s.dev.dec with writes := s.dev.dec.writes.erase (id, r) } ∧
      d.msq = { s.dev.msq with reports := s.dev.msq.reports ++ [if resp.err then { r with status := rsBufErr } else r] } ∧
      (resp.err = true → d.slotBusy (actOf r.head) r.tbuf = false) ∧
      d = { s.dev with dec := d.dec, msq := d.msq, buf := d.buf, ch := d.ch, regs := d.regs, log := d.log, lost := d.lost, hst := d.hst } := by
  let e : Dev := { s.dev with buf := { s.dev.buf with resps := s.dev.buf.resps.erase resp } }
  refine gives_of_eq (e := e.decWritten id r resp.err) (exec_decSectorWriteResponse s) h2 (by rw [hw]; dsimp only; rw [Dev.bufTake_some hq]) ?_
  cases hr : resp.err with
  | false =>
    obtain ⟨m, g, he⟩ := e.decWritten_ok id r
    rw [he]
    exact ⟨rfl, rfl, fun c => (Bool.false_ne_true c).elim, rfl⟩
  | true =>
    obtain ⟨u, m, g, l, q, h, he, hb⟩ := e.decWritten_err id r
    rw [he] at hb ⊢
    exact ⟨rfl, rfl, fun _ => hb, rfl⟩

/-! ### The obligation -/

/-- Settles O9: the block's way through the pool, one command after the other, by what each operation of the pool changes. -/
theorem decoderPoolDecodesAndReports : Obligations.DecoderPoolDecodesAndReports :=
  ⟨fun _ _ _ _ _ _ h2 hb ht hb' hi => ⟨gives_decBlockAccept_full h2 hb, gives_decBlockAccept h2 hb ht hb' hi⟩,
    fun _ _ h2 => ⟨gives_slotTake_busy h2, fun _ _ => gives_decoderSlotTake_redo h2, fun _ _ => gives_decoderSlotTake_store h2, fun _ => gives_parkedRedecode h2⟩,
    fun _ _ _ _ _ h2 hx hl => ⟨gives_decodeEnd_shift h2 hx hl,
      fun hc h5 hp => gives_decodeEnd_fail h2 hx hl h5 (.inl hp) (by rw [hc]; rfl),
      gives_decodeEnd_park h2 hx hl,
      fun _ => gives_decodeEnd_ok h2 hx hl,
      fun _ => gives_decodeEnd_crcFail h2 hx hl⟩,
    fun _ _ _ _ => gives_decSectorWriteResponse⟩

end Sys2Proof.Machine
end

section
/-! SUPPORT. What LOG's work of writing records and flushing them leaves as it was (R511, R518 to R520). -/
namespace Sys2Proof.Machine

/-! ### Events grow the pool -/

theorem Dev.reportLost_log (d : Dev) (b : Blk) : ∃ l, (d.reportLost b).log = { d.log with inq := d.log.inq ++ l } := by
  unfold Dev.reportLost
  dsimp only
  split
  · exact ⟨_, rfl⟩
  · exact ⟨[], by rw [List.append_nil]⟩

theorem Dev.pushEvent_log (d : Dev) (e : Event) : (d.pushEvent e).log = { d.log with inq := d.log.inq ++ [e] } := rfl

theorem Dev.event_log (d : Dev) (b : Blk) (n p1 p2 p3 src : Nat) : ∃ l c, (d.event b n p1 p2 p3 src).log = { d.log with inq := d.log.inq ++ l, crit := c } := by
  obtain ⟨c, x, hw⟩ := d.warned_parts (blkCls b * 256 + n)
  by_cases h : d.refuses
  · rw [Dev.event_refused _ _ _ _ _ _ _ h, hw]
    exact ⟨[], c, by rw [List.append_nil]; rfl⟩
  · rw [Dev.event_offered _ _ _ _ _ _ _ h, hw]
    obtain ⟨l, hl⟩ := Dev.reportLost_log ({ d with log := { d.log with crit := c }, hst := x } : Dev) b
    dsimp only
    split
    · rw [Dev.pushEvent_log, hl]
      exact ⟨l ++ [_], c, by rw [← List.append_assoc]⟩
    · exact ⟨l, c, hl⟩

/-! ### The work of LOG and its flash -/

/-- From `d0` to `d` LOG has been at work: its pool has grown, the write points may have moved; its records, its batches and the bucket registers stand, and the other
engines with them. -/
structure Logged (d0 d : Dev) : Prop where
  log : ∃ l c w0 w1, d.log = { d0.log with inq := d0.log.inq ++ l, crit := c, wp0 := w0, wp1 := w1 }
  zne : d.zne = d0.zne
  buf : d.buf = d0.buf
  dma : d.dma = d0.dma
  cmds : d.cmds = d0.cmds
  words : ∀ a, 0xA004000 ≤ a → a < 0xA00C000 → d.word a = d0.word a
  fbit : d0.fld (fFBIT .log 0) = 1 → d.fld (fFBIT .log 0) = 1

section
variable {d0 d e : Dev}

theorem Logged.rest (h : Logged d0 d) (hl : ∃ l c w0 w1, e.log = { d.log with inq := d.log.inq ++ l, crit := c, wp0 := w0, wp1 := w1 }) (hz : e.zne = d.zne := by rfl) (hb : e.buf = d.buf := by rfl)
    (hm : e.dma = d.dma := by rfl) (hc : e.cmds = d.cmds := by rfl) (hw : e.word = d.word := by rfl) : Logged d0 e := by
  obtain ⟨l, c, w0, w1, hd⟩ := h.log
  obtain ⟨l', c', w0', w1', he⟩ := hl
  refine ⟨⟨l ++ l', c', w0', w1', by rw [he, hd, List.append_assoc]⟩, hz.trans h.zne, hb.trans h.buf, hm.trans h.dma, hc.trans h.cmds, fun a h1 h2 => (congrFun hw a).trans (h.words a h1 h2), fun h1 => ?_⟩
  exact (Dev.fld_congr rfl (congrFun hw _)).trans (h.fbit h1)

theorem LogS.stands (g : LogS) : ∃ l c w0 w1, g = { g with inq := g.inq ++ l, crit := c, wp0 := w0, wp1 := w1 } := ⟨[], _, _, _, by rw [List.append_nil]⟩

theorem Logged.refl (d : Dev) : Logged d d := ⟨d.log.stands, rfl, rfl, rfl, rfl, fun _ _ _ => rfl, id⟩

theorem Logged.trans (h : Logged d0 d) (g : Logged d e) : Logged d0 e := by
  obtain ⟨l, c, w0, w1, hd⟩ := h.log
  obtain ⟨l', c', w0', w1', he⟩ := g.log
  exact ⟨⟨l ++ l', c', w0', w1', by rw [he, hd, List.append_assoc]⟩, g.zne.trans h.zne, g.buf.trans h.buf, g.dma.trans h.dma, g.cmds.trans h.cmds,
    fun a h1 h2 => (g.words a h1 h2).trans (h.words a h1 h2), fun h1 => g.fbit (h.fbit h1)⟩

/-- What LOG's own fields do not hold changes freely. -/
theorem Logged.beside (h : Logged d0 d) (hl : e.log = d.log := by rfl) (hz : e.zne = d.zne := by rfl) (hb : e.buf = d.buf := by rfl) (hm : e.dma = d.dma := by rfl) (hc : e.cmds = d.cmds := by rfl)
    (hw : e.word = d.word := by rfl) : Logged d0 e := h.rest (hl ▸ d.log.stands) hz hb hm hc hw

theorem Logged.ite {p : Prop} [Decidable p] {a b : Dev} (ha : Logged d0 a) (hb : Logged d0 b) : Logged d0 (if p then a else b) := by split <;> assumption

theorem Logged.iteF {α : Type} {p : Prop} [Decidable p] {a b : Dev × α} (ha : Logged d0 a.1) (hb : Logged d0 b.1) : Logged d0 (if p then a else b).1 := by split <;> assumption

theorem Logged.foldl {α : Type} {f : Dev → α → Dev} (hf : ∀ d a, Logged d0 d → Logged d0 (f d a)) {l : List α} (h : Logged d0 d) : Logged d0 (l.foldl f d) := by
  induction l generalizing d with
  | nil => exact h
  | cons a l ih => exact ih (hf d a h)

/-- A register below the buckets may change. -/
theorem Logged.setFld {f : RF} {v : Nat} (hf : f.a < 0xA004000) (h : Logged d0 d) : Logged d0 (d.setFld f v) :=
  h.trans ⟨d.log.stands, rfl, rfl, rfl, rfl, fun a h1 _ => Dev.word_setFld_ne d f v (by omega),
    fun h1 => (Dev.fld_setFld_addr d f _ v (by have : (fFBIT .log 0).a = 0xA00FD00 := rfl; omega)).trans h1⟩

theorem Logged.bump {b : Blk} {i n : Nat} (h : Logged d0 d) : Logged d0 (d.bump b i n) := h.beside

theorem Logged.event {b : Blk} {n p1 p2 p3 src : Nat} (h : Logged d0 d) : Logged d0 (d.event b n p1 p2 p3 src) := by
  obtain ⟨l, c, hl⟩ := d.event_log b n p1 p2 p3 src
  have hf := Dev.event_frame d b n p1 p2 p3 src
  have hw {a : Nat} (ha : a ≠ 0x0A000060) : (d.event b n p1 p2 p3 src).word a = d.word a := Dev.event_word d b n p1 p2 p3 src ha
  generalize d.event b n p1 p2 p3 src = e at hl hf hw
  exact h.trans ⟨⟨l, c, _, _, hl⟩, by rw [hf], by rw [hf], by rw [hf], by rw [hf], fun _ _ _ => hw (by omega), fun h1 => (Dev.fld_congr rfl (hw (by decide))).trans h1⟩

theorem Logged.flagFault {cls : Nat} (h : Logged d0 d) : Logged d0 (d.flagFault .log cls 0) := by
  have hf := d.flagFault_frame .log cls 0
  have hb : (d.flagFault .log cls 0).fld (fFBIT .log 0) = 1 := Dev.flagFault_bit _ _ (by decide)
  have hw {a : Nat} (ha : a < 0xA00C000) : (d.flagFault .log cls 0).word a = d.word a := Dev.flagFault_word _ _ _ _ (by have : blkBase .log + 0xFD00 = 0xA00FD00 := rfl; omega)
  generalize d.flagFault .log cls 0 = e at hf hb hw
  exact h.trans ⟨by rw [hf]; exact d.log.stands, by rw [hf], by rw [hf], by rw [hf], by rw [hf], fun _ _ => hw, fun _ => hb⟩

theorem Logged.fault {p2 : Nat} (h : Logged d0 d) : Logged d0 (d.fault .log 1 0 p2) := .event (.flagFault h)

theorem Logged.sram {m : Nat} {r : SramRead} {inj : Bool} (h : Logged d0 d) : Logged d0 (d.sram .log m r inj) := by
  unfold Dev.sram
  split
  · exact h
  · exact .event (.beside (.ite (.bump h) h))
  · exact .event (.flagFault (.beside (.ite (.bump h) h)))

theorem Logged.raiseAenAll {x : Aen} (h : Logged d0 d) : Logged d0 (d.raiseAenAll x) := by
  have hf := d.raiseAenAll_frame x
  generalize d.raiseAenAll x = e at hf
  rw [hf]
  exact h.beside

/-! ### Flash -/

theorem Logged.setBank {k : Nat} {b : FBank} (h : Logged d0 d) : Logged d0 (d.setBank k b) := .ite h.beside h.beside
theorem Logged.intentWrite {b ty x q : Nat} (h : Logged d0 d) : Logged d0 (d.intentWrite b ty x q) := .ite h.beside h.beside
theorem Logged.flcStat (h : Logged d0 d) : Logged d0 d.flcStat := .setFld (show 0x9000004 < 0xA004000 by decide) (.setFld (show 0x9000004 < 0xA004000 by decide) h)

/-- FLC's own operations have no slot registers. -/
theorem Logged.startOp {o : FOp} (ho : o.slot = 9) (h : Logged d0 d) : Logged d0 (d.startOp o) := by
  have hs {e : Dev} {st n : Nat} (he : Logged d0 e) : Logged d0 (e.slotEnd o.slot st n) := by rw [ho]; exact he
  have hr {e : Dev} {st w n : Nat} (he : Logged d0 e) : Logged d0 (e.flashRefuse o.slot st w n) := .bump (.event (hs he))
  have ht {e : Dev} {x : Nat} (he : Logged d0 e) : Logged d0 (e.tearWords x) := he.beside
  exact .ite (hr h) (.ite (hr h) (.ite (.flcStat (.bump (.setBank (ht (.intentWrite h.beside))))) (.ite (.bump (.setBank h)) (.event (hs h)))))

theorem Logged.intentRollover {b : Nat} (h : Logged d0 d) : Logged d0 (d.intentRollover b) := by
  have hq {e : Dev} {o : FOp} (ho : o.slot = 9) (he : Logged d0 e) : Logged d0 (e.queueOp o) := .ite (.startOp ho he) (.setBank he)
  exact .ite h (hq rfl (.ite h.beside h.beside))

theorem Logged.eraseSector {x : Nat} (h : Logged d0 d) : Logged d0 (d.eraseSector x) := by
  have hr {st : Nat} : Logged d0 ((d.event .flc 0x04 st (x * 2048) 2 0xFF).bump .flc 9) := .bump (.event h)
  have he {e : Dev} (he : Logged d0 e) : Logged d0 (e.eraseWords x) := he.beside
  exact .ite hr (.ite hr (.ite hr (.intentRollover (.bump (.bump (.intentWrite (he (.intentWrite h.beside))))))))

theorem Logged.programWord {w : Nat} {b : Bytes} {k : Nat} (h : Logged d0 d) : Logged d0 (d.programWord w b k).1 :=
  .iteF (.bump (.bump h.beside)) (.iteF (.event h) (.bump (.event h)))

theorem Logged.setFlushWp {k w : Nat} (h : Logged d0 d) : Logged d0 (d.setFlushWp k w) :=
  .ite (h.rest ⟨[], _, _, _, by rw [List.append_nil]⟩) (h.rest ⟨[], _, _, _, by rw [List.append_nil]⟩)

theorem Logged.flushWords {k : Nat} {l : List Bytes} (h : Logged d0 d) : Logged d0 (d.flushWords k l).1 := by
  induction l generalizing d with
  | nil => exact h
  | cons w l ih => exact .iteF (ih (.setFlushWp (.programWord h))) (.setFlushWp (.programWord h))

theorem Logged.keepEpoch {k x : Nat} (h : Logged d0 d) : Logged d0 (d.keepEpoch k x).1 := by
  unfold Dev.keepEpoch
  dsimp only
  split
  · exact .iteF (.flushWords h) h
  · exact h

theorem Logged.keepAhead {k : Nat} (h : Logged d0 d) : Logged d0 (d.keepAhead k) :=
  .foldl (fun _ _ h1 => .ite (.ite (.bump (.eraseSector (.keepEpoch h1))) (.keepEpoch h1)) h1) h
end

/-! ### Batches -/

/-- LOG with another open batch, FLUSHED count and request. -/
def Dev.batching (d : Dev) (o : Option OpenBatch) (f : Nat) (q : Option Nat) (t : Nat) : Dev := { d with log := { d.log with opened := o, flushed := f, flushReq := q, reqStamp := t } }

/-- LOG with another open batch. -/
def Dev.withBatch (d : Dev) (o : Option OpenBatch) : Dev := d.batching o d.log.flushed d.log.flushReq d.log.reqStamp

section
variable {d0 d e : Dev}

/-- Work that does not look at the batches does not change them either. -/
theorem Logged.batching (h : Logged d0 d) (o : Option OpenBatch) (f : Nat) (q : Option Nat) (t : Nat) : Logged (d0.batching o f q t) (d.batching o f q t) := by
  obtain ⟨l, c, w0, w1, hl⟩ := h.log
  exact ⟨⟨l, c, w0, w1, congrArg (fun g : LogS => { g with opened := o, flushed := f, flushReq := q, reqStamp := t }) hl⟩, h.zne, h.buf, h.dma, h.cmds, h.words, h.fbit⟩

theorem Logged.log_flushed (h : Logged d0 d) : d.log.flushed = d0.log.flushed := by
  obtain ⟨l, c, w0, w1, hl⟩ := h.log
  rw [hl]

theorem Logged.withBatch (h : Logged d0 d) (o : Option OpenBatch) : Logged (d0.withBatch o) (d.withBatch o) := by
  have hw : d.withBatch o = d.batching o d0.log.flushed d0.log.flushReq d0.log.reqStamp := by
    obtain ⟨l, c, w0, w1, hl⟩ := h.log
    unfold Dev.withBatch
    rw [hl]
  rw [hw]
  exact h.batching _ _ _ _

theorem Dev.batchOver_logged (d : Dev) (k st : Nat) : Logged (d.withBatch none) (d.batchOver k st) := by
  have h : Logged (d.withBatch none) (((d.withBatch none).setFld F.LOG_STAT_FLUSHING 0).setFld F.LOG_STAT_PF_BATCH 0) := .setFld (by decide) (.setFld (by decide) (.refl _))
  exact .ite (.event (.setFld (by decide) h)) h

theorem Logged.batchOver {k st : Nat} (h : Logged d0 d) : Logged (d0.withBatch none) (d.batchOver k st) := (h.withBatch none).trans (d.batchOver_logged k st)

theorem Dev.closeBatch_none (h : d.log.opened = none) : d.closeBatch = d := by
  unfold Dev.closeBatch
  rw [h]

/-- The END word of an open batch, and how its program ends. -/
def Dev.endBatch (d : Dev) (x : OpenBatch) : Dev × Nat :=
  if x.torn then (d, fsOK) else d.flushWords x.slot [endWord (d.log.kepoch * 2 ^ 40 + x.first + x.recs - 1) d.now x.batch x.recs]

/-- FLUSHED after the end of a batch: it moves only with an END word (R518). -/
def Dev.flushedBy (d : Dev) (x : OpenBatch) : Nat := if (d.endBatch x).2 ≠ fsOK ∨ x.torn = true then d.log.flushed else x.first + x.recs

theorem Dev.closeBatch_logged {x : OpenBatch} (h : d.log.opened = some x) : Logged (d.batching none (d.flushedBy x) d.log.flushReq d.log.reqStamp) d.closeBatch := by
  have hd : d.closeBatch = let r := d.endBatch x
      let a := r.1.batchOver x.slot r.2
      let b := if x.cause = 2 then a else (a.keepAhead 0).keepAhead 1
      if r.2 ≠ fsOK ∨ x.torn then b
      else
        let c := ({ b with log := { b.log with flushed := x.first + x.recs } }.bump .log 4).bump .log 5 x.recs
        if x.cause ≠ 2 then c
        else
          let c := (c.bump .log 6).bump .log 7 (x.first - x.oldest)
          if x.oldest < x.first then c.event .log 0x04 (x.first - x.oldest) ((c.log.kepoch * 2 ^ 40 + x.oldest) % 2 ^ 32) else c := by
    unfold Dev.closeBatch
    rw [h]
    rfl
  have h1 : Logged d (d.endBatch x).1 := .iteF (.refl d) (.flushWords (.refl d))
  have h2 : Logged (d.withBatch none) (if x.cause = 2 then (d.endBatch x).1.batchOver x.slot (d.endBatch x).2 else (((d.endBatch x).1.batchOver x.slot (d.endBatch x).2).keepAhead 0).keepAhead 1) :=
    .ite h1.batchOver (.keepAhead (.keepAhead h1.batchOver))
  rw [hd]
  unfold Dev.flushedBy
  dsimp only
  generalize (if x.cause = 2 then (d.endBatch x).1.batchOver x.slot (d.endBatch x).2 else (((d.endBatch x).1.batchOver x.slot (d.endBatch x).2).keepAhead 0).keepAhead 1) = b at h2
  split
  · exact h2
  · have h3 : Logged (d.batching none (x.first + x.recs) d.log.flushReq d.log.reqStamp) { b with log := { b.log with flushed := x.first + x.recs } } := by
      obtain ⟨l, c, w0, w1, hl⟩ := h2.log
      exact ⟨⟨l, c, w0, w1, congrArg (fun g : LogS => { g with flushed := x.first + x.recs }) hl⟩, h2.zne, h2.buf, h2.dma, h2.cmds, h2.words, h2.fbit⟩
    exact .ite (.bump (.bump h3)) (.ite (.event (.bump (.bump (.bump (.bump h3))))) (.bump (.bump (.bump (.bump h3)))))
end

/-! ### Writing records -/

/-- From `d0` to `d` a record may have been written on: the open batch, FLUSHED and the request for a flush may have changed besides. -/
def LogWrites (d0 d : Dev) : Prop := ∃ o f q t, Logged (d0.batching o f q t) d

section
variable {d0 d e : Dev}

theorem LogWrites.refl (d : Dev) : LogWrites d d := ⟨_, _, _, _, Logged.refl d⟩

theorem LogWrites.then (h : LogWrites d0 d) (g : Logged d e) : LogWrites d0 e := by
  obtain ⟨o, f, q, t, h⟩ := h
  exact ⟨o, f, q, t, h.trans g⟩

theorem LogWrites.batching (h : LogWrites d0 d) (o : Option OpenBatch) (f : Nat) (q : Option Nat) (t : Nat) : LogWrites d0 (d.batching o f q t) := by
  obtain ⟨_, _, _, _, h⟩ := h
  exact ⟨o, f, q, t, h.batching o f q t⟩

theorem LogWrites.ite {p : Prop} [Decidable p] {a b : Dev} (ha : LogWrites d0 a) (hb : LogWrites d0 b) : LogWrites d0 (if p then a else b) := by split <;> assumption

theorem LogWrites.closeBatch (h : LogWrites d0 d) : LogWrites d0 d.closeBatch := by
  cases ho : d.log.opened with
  | none => rw [Dev.closeBatch_none ho]; exact h
  | some x => exact (h.batching _ _ _ _).then (Dev.closeBatch_logged ho)

theorem LogWrites.appendBatch {l : List Rec} (h : LogWrites d0 d) : LogWrites d0 (d.appendBatch l) := by
  unfold Dev.appendBatch
  split
  · exact h
  · next x _ =>
    have hw := h.then (.flushWords (.refl d) : Logged d (d.flushWords x.slot (l.map recBytes)).1)
    exact .ite ((hw.batching _ _ _ _).then (Dev.batchOver_logged _ _ _)) (.ite (.closeBatch (hw.batching _ _ _ _)) (hw.batching _ _ _ _))

theorem LogWrites.requestFlush {c : Nat} (h : LogWrites d0 d) : LogWrites d0 (d.requestFlush c) := by
  unfold Dev.requestFlush
  split
  · exact (h.batching d.log.opened d.log.flushed (some c) d.now).then (.beside (.refl _))
  · next k _ => exact h.batching d.log.opened d.log.flushed (some (max k c)) d.log.reqStamp

theorem LogWrites.flushOn {c : Nat} (h : LogWrites d0 d) : LogWrites d0 (d.flushOn c) := .ite h.requestFlush (.ite h.requestFlush h)

theorem LogWrites.aenOn {c : Nat} (h : LogWrites d0 d) : LogWrites d0 (d.aenOn c) := .ite (h.then (.raiseAenAll (.refl d))) h

theorem LogWrites.strikeRecord {k : Nat} (h : LogWrites d0 d) : LogWrites d0 (d.strikeRecord k) := .ite (h.then (.sram (.setFld (by decide) (.refl d)))) h
end

/-- The record in its slot, unless its block cannot be mended (R247). -/
def Dev.recorded (d : Dev) (e : Event) : SramRead → Dev
  | .uncorrectable _ _ => d
  | _ => d.storeRecord e

theorem Dev.writeRecord_writes (d : Dev) (e : Event) (r : SramRead) : LogWrites (d.recorded e r) (d.writeRecord e r) := by
  have hr {x : Rec} : LogWrites (d.storeRecord e) ((((d.storeRecord e).bump .log 0).appendBatch [x]).strikeRecord (d.log.count % 32768)) :=
    .strikeRecord (.appendBatch ((LogWrites.refl _).then (.bump (.refl _))))
  cases r with
  | uncorrectable b p => exact .aenOn (.flushOn ((LogWrites.refl d).then (.sram (.refl d))))
  | ok => exact .aenOn (.flushOn (hr.then (.sram (.refl _))))
  | mended b y i => exact .aenOn (.flushOn (hr.then (.sram (.refl _))))

end Sys2Proof.Machine
end

section
/-! SUPPORT. Admission and suppression of events, and the refill of their buckets (R37, R511, R515, R516). -/
namespace Sys2Proof.Machine

/-! ### What the writing of a record leaves -/

section
variable {d0 d : Dev}

theorem LogWrites.log (h : LogWrites d0 d) : ∃ o f q t l c w0 w1, d.log = { d0.log with opened := o, flushed := f, flushReq := q, reqStamp := t, inq := d0.log.inq ++ l, crit := c, wp0 := w0, wp1 := w1 } := by
  obtain ⟨o, f, q, t, h⟩ := h
  obtain ⟨l, c, w0, w1, hl⟩ := h.log
  exact ⟨o, f, q, t, l, c, w0, w1, hl⟩

theorem LogWrites.fld (h : LogWrites d0 d) {f : RF} (h1 : 0xA004000 ≤ f.a) (h2 : f.a < 0xA00C000) : d.fld f = d0.fld f := by
  obtain ⟨o, q, r, t, h⟩ := h
  exact Dev.fld_congr rfl (h.words f.a h1 h2)

theorem LogWrites.fbit (h : LogWrites d0 d) (hb : d0.fld (fFBIT .log 0) = 1) : d.fld (fFBIT .log 0) = 1 := by
  obtain ⟨o, f, q, t, h⟩ := h
  exact h.fbit hb

theorem Logged.fld (h : Logged d0 d) {f : RF} (h1 : 0xA004000 ≤ f.a) (h2 : f.a < 0xA00C000) : d.fld f = d0.fld f := Dev.fld_congr rfl (h.words f.a h1 h2)
end

theorem bucketOf_lt (code : Nat) : bucketOf code < 4096 := by
  have h : bitsAt code 8 5 < 2 ^ 5 := Nat.mod_lt _ (by decide)
  unfold bucketOf
  omega

/-! ### A quiet record -/

/-- LOG.INJECT is armed to flip a bit of the next record (Table 18.6). -/
def Dev.strikes (d : Dev) : Prop := d.flag F.LOG_INJECT_ARM = true ∧ d.fld F.LOG_INJECT_KIND = 0

section
variable (d : Dev)

theorem Dev.flushOn_parts (code : Nat) : ∃ q t b, d.flushOn code = { d with log := { d.log with flushReq := q, reqStamp := t }, bg := b } := by
  have h (cause : Nat) : ∃ q t b, d.requestFlush cause = { d with log := { d.log with flushReq := q, reqStamp := t }, bg := b } := by
    unfold Dev.requestFlush
    split <;> exact ⟨_, _, _, rfl⟩
  unfold Dev.flushOn
  split
  · exact h _
  split
  · exact h _
  · exact ⟨_, _, _, rfl⟩

theorem Dev.aenOn_parts (code : Nat) : ∃ x, d.aenOn code = { d with hst := x } := by
  unfold Dev.aenOn
  split
  · exact ⟨_, Dev.raiseAenAll_frame _ _⟩
  · exact ⟨_, rfl⟩

/-- With no open batch and nothing armed, a record changes LOG's own state, the requests for background work and the host's events. -/
theorem Dev.writeRecord_quiet_parts (e : Event) (ho : d.log.opened = none) (hi : ¬d.strikes) : ∃ q t c b x, d.writeRecord e .ok =
    { d with log := { (d.storeRecord e).log with flushReq := q, reqStamp := t }, cnt := c, bg := b, hst := x } := by
  have ha (l : List Rec) : ((d.storeRecord e).bump .log 0).appendBatch l = (d.storeRecord e).bump .log 0 := by
    have : ((d.storeRecord e).bump .log 0).log.opened = none := ho
    unfold Dev.appendBatch
    rw [this]
  have hs (k : Nat) : ((d.storeRecord e).bump .log 0).strikeRecord k = (d.storeRecord e).bump .log 0 :=
    if_neg (by rw [Bool.and_eq_true, decide_eq_true_iff]; exact hi)
  obtain ⟨q, t, b, hf⟩ := Dev.flushOn_parts ((d.storeRecord e).bump .log 0) e.code
  obtain ⟨x, hx⟩ := (((d.storeRecord e).bump .log 0).flushOn e.code).aenOn_parts e.code
  refine ⟨q, t, _, b, x, Eq.trans ?_ (hx.trans (by rw [hf]; rfl))⟩
  unfold Dev.writeRecord
  dsimp only
  rw [ha, hs]
  rfl
end

/-! ### Admission -/

/-- LOG takes the first event of its pool and checks the token's parity. -/
def Dev.eventTaken (d : Dev) (r : List Event) (bad : Bool) : Dev :=
  let d := { d with log := { d.log with inq := r } }
  if bad then d.fault .log 1 0 0 else d

/-- An event 0xFA counts. -/
def Dev.lossCounted (d : Dev) (e : Event) : Dev := if e.code % 256 = 0xFA then d.bump .log 3 else d

/-- An admitted event has its token taken, unless it needs none. -/
def Dev.tokenPaid (d : Dev) (e : Event) : Dev := if d.fld (F.LOG_BUCKET_DEPTH (bucketOf e.code)) = 0 ∨ freeCode e.code then d else d.takeToken (bucketOf e.code)

/-- An event that is admitted. -/
def Dev.admitEvent (d : Dev) (e : Event) (r : SramRead) : Dev := ((d.lossCounted e).tokenPaid e).writeRecord e r

theorem exec_logEventAccept (bad : Bool) (sram : SramBits) (s : State) : exec (.logEventAccept bad sram) s =
    s.doesIn 0 fun d => match d.log.inq with
      | [] => d
      | e :: r => if !d.flag F.LOG_STAT_READY || !d.poolOpen .log 0 then d else (d.eventTaken r bad).poolEvent e (sramRead sram) := rfl

section
variable (d : Dev) (e : Event)

theorem Dev.eventTaken_logged (r : List Event) (bad : Bool) : Logged { d with log := { d.log with inq := r } } (d.eventTaken r bad) := .ite (.fault (.refl _)) (.refl _)

/-- The bucket of the event is as it was. -/
theorem Dev.eventTaken_bucket (r : List Event) (bad : Bool) : (d.eventTaken r bad).fld (F.LOG_BUCKET_DEPTH (bucketOf e.code)) = d.fld (F.LOG_BUCKET_DEPTH (bucketOf e.code)) ∧
    (d.eventTaken r bad).fld (F.LOG_BSTAT_TOKENS (bucketOf e.code)) = d.fld (F.LOG_BSTAT_TOKENS (bucketOf e.code)) := by
  have ht := d.eventTaken_logged r bad
  have hb := bucketOf_lt e.code
  exact ⟨ht.fld (show 0xA004000 ≤ 0xA004000 + 4 * bucketOf e.code by omega) (show 0xA004000 + 4 * bucketOf e.code < 0xA00C000 by omega),
    ht.fld (show 0xA004000 ≤ 0xA008000 + 4 * bucketOf e.code by omega) (show 0xA008000 + 4 * bucketOf e.code < 0xA00C000 by omega)⟩

theorem Dev.eventTaken_bad (r : List Event) : (d.eventTaken r true).fld (fFBIT .log 0) = 1 := (Dev.parityFault_flags _ .log 0).1

theorem Dev.lossCounted_parts : ∃ c, d.lossCounted e = { d with cnt := c } := by
  unfold Dev.lossCounted
  split <;> exact ⟨_, rfl⟩

theorem Dev.lossCounted_fld (f : RF) : (d.lossCounted e).fld f = d.fld f := by
  obtain ⟨c, hc⟩ := d.lossCounted_parts e
  rw [hc]; rfl

theorem Dev.takeToken_parts (b : Nat) : ∃ k r, d.takeToken b = { d with log := { d.log with buckets := k }, regs := r } := by
  unfold Dev.takeToken
  dsimp only
  split <;> exact ⟨_, _, rfl⟩

theorem Dev.takeToken_word (b : Nat) {a : Nat} (ha : a ≠ 0xA008000 + 4 * b) : (d.takeToken b).word a = d.word a := by
  unfold Dev.takeToken
  dsimp only
  rw [Dev.word_setFld_ne _ (F.LOG_BSTAT_TOKENS b) _ ha]
  split <;> rfl

theorem Dev.takeToken_tokens {b : Nat} (h : 1 ≤ d.fld (F.LOG_BSTAT_TOKENS b)) : (d.takeToken b).fld (F.LOG_BSTAT_TOKENS b) + 1 = d.fld (F.LOG_BSTAT_TOKENS b) := by
  have hl : d.fld (F.LOG_BSTAT_TOKENS b) < 2 ^ 8 := Nat.mod_lt _ (show 0 < 2 ^ 8 by decide)
  have hm : (d.fld (F.LOG_BSTAT_TOKENS b) - 1) % 2 ^ 8 + 1 = d.fld (F.LOG_BSTAT_TOKENS b) := by omega
  unfold Dev.takeToken
  dsimp only
  rw [Dev.fld_setFld_same _ _ _ (show 0 + 8 ≤ 32 by decide)]
  exact hm

theorem Dev.tokenPaid_parts : ∃ k r, d.tokenPaid e = { d with log := { d.log with buckets := k }, regs := r } := by
  unfold Dev.tokenPaid
  split
  · exact ⟨_, _, rfl⟩
  · exact d.takeToken_parts _

theorem Dev.tokenPaid_word {a : Nat} (ha : a < 0xA008000 ∨ 0xA00C000 ≤ a) : (d.tokenPaid e).word a = d.word a := by
  unfold Dev.tokenPaid
  split
  · rfl
  · have := bucketOf_lt e.code
    exact d.takeToken_word _ (by omega)

theorem Dev.poolEvent_admitted (r : SramRead) (h : d.fld (F.LOG_BUCKET_DEPTH (bucketOf e.code)) = 0 ∨ freeCode e.code = true ∨ 1 ≤ d.fld (F.LOG_BSTAT_TOKENS (bucketOf e.code))) :
    d.poolEvent e r = d.admitEvent e r := by
  have hw (f : RF) := d.lossCounted_fld e f
  have he : d.poolEvent e r = if (d.lossCounted e).fld (F.LOG_BUCKET_DEPTH (bucketOf e.code)) = 0 ∨ freeCode e.code then (d.lossCounted e).writeRecord e r
    else if 1 ≤ (d.lossCounted e).fld (F.LOG_BSTAT_TOKENS (bucketOf e.code)) then ((d.lossCounted e).takeToken (bucketOf e.code)).writeRecord e r
    else (d.lossCounted e).suppress (bucketOf e.code) e := rfl
  rw [he]
  unfold Dev.admitEvent Dev.tokenPaid
  generalize d.lossCounted e = x at hw
  rw [← hw, ← hw] at h
  split
  · rfl
  · next hf => exact if_pos ((h.resolve_left fun c => hf (.inl c)).resolve_left fun c => hf (.inr c))

theorem Dev.poolEvent_suppress (r : SramRead) (hd : d.fld (F.LOG_BUCKET_DEPTH (bucketOf e.code)) ≠ 0) (hf : freeCode e.code = false) (ht : d.fld (F.LOG_BSTAT_TOKENS (bucketOf e.code)) = 0) :
    d.poolEvent e r = (d.lossCounted e).suppress (bucketOf e.code) e := by
  rw [← d.lossCounted_fld e] at hd ht
  exact (if_neg (by rw [hf]; exact fun c => c.elim hd Bool.false_ne_true)).trans (if_neg fun c => absurd (ht ▸ c) (by decide))

theorem Dev.suppress_parts (b : Nat) : ∃ k r c, d.suppress b e = { d with log := { d.log with buckets := k }, regs := r, cnt := c } := ⟨_, _, _, rfl⟩

theorem Dev.suppress_last (b : Nat) : ((d.suppress b e).bucket b).last = e.code := by
  unfold Dev.suppress Dev.setBucket Dev.bucket
  dsimp only [Dev.bump]
  rw [Tab.get_set_same]

theorem Dev.suppress_word {b a : Nat} (ha : a ≠ 0xA008000 + 4 * b) : (d.suppress b e).word a = d.word a := Dev.word_setFld_ne d (F.LOG_BSTAT_SUPPRESSED b) _ ha
end

section
variable (d : Dev) (e : Event) (r : SramRead)

theorem Dev.recorded_not (h : ∃ b p, r = .uncorrectable b p) : d.recorded e r = d := by
  obtain ⟨b, p, rfl⟩ := h
  rfl

theorem Dev.recorded_stores (h : ∀ b p, r ≠ .uncorrectable b p) : d.recorded e r = d.storeRecord e := by
  cases r with
  | uncorrectable b p => exact absurd rfl (h b p)
  | ok => rfl
  | mended _ _ _ => rfl

theorem Dev.recorded_parts : ∃ k n, d.recorded e r = { d with log := { d.log with recs := k, count := n } } := by
  cases r <;> exact ⟨_, _, rfl⟩

theorem Dev.recorded_fld (f : RF) : (d.recorded e r).fld f = d.fld f := by
  obtain ⟨k, n, h⟩ := d.recorded_parts e r
  rw [h]; rfl

theorem Dev.storeRecord_recs : (d.storeRecord e).log.recs.get (fun _ => none) (d.log.count % 32768) = some { seq := d.log.head, ev := e } :=
  Tab.get_set_same (fun _ => none) d.log.recs _ (some { seq := d.log.head, ev := e })
end

section
variable (d : Dev) (e : Event) (r : SramRead)

theorem Dev.admitted_parts : ∃ k g c, (d.lossCounted e).tokenPaid e = { d with log := { d.log with buckets := k }, regs := g, cnt := c } := by
  obtain ⟨c, hc⟩ := d.lossCounted_parts e
  obtain ⟨k, g, hp⟩ := (d.lossCounted e).tokenPaid_parts e
  exact ⟨k, g, c, by rw [hp, hc]⟩

theorem Dev.lossCounted_word (a : Nat) : (d.lossCounted e).word a = d.word a := by
  obtain ⟨c, hc⟩ := d.lossCounted_parts e
  rw [hc]; rfl

theorem Dev.admitEvent_log : (∃ l, (d.admitEvent e r).log.inq = d.log.inq ++ l) ∧
    ((∃ b p, r = .uncorrectable b p) → (d.admitEvent e r).log.recs = d.log.recs ∧ (d.admitEvent e r).log.count = d.log.count) ∧
    ((∀ b p, r ≠ .uncorrectable b p) → (d.admitEvent e r).log.recs.get (fun _ => none) (d.log.count % 32768) = some { seq := d.log.head, ev := e } ∧ (d.admitEvent e r).log.count = d.log.count + 1) := by
  obtain ⟨k, g, c, hp⟩ := d.admitted_parts e
  have hw := ((d.lossCounted e).tokenPaid e).writeRecord_writes e r
  unfold Dev.admitEvent
  rw [hp] at hw ⊢
  obtain ⟨o, f, q, t, l, c, w0, w1, hl⟩ := hw.log
  rw [hl]
  refine ⟨⟨l, ?_⟩, fun h => ?_, fun h => ?_⟩
  · obtain ⟨m, n, hr⟩ := Dev.recorded_parts _ e r
    rw [hr]
  · rw [Dev.recorded_not _ _ _ h]
    exact ⟨rfl, rfl⟩
  · rw [Dev.recorded_stores _ _ _ h]
    exact ⟨Dev.storeRecord_recs _ _, rfl⟩

theorem Dev.admitEvent_fbit (h : d.fld (fFBIT .log 0) = 1) : (d.admitEvent e r).fld (fFBIT .log 0) = 1 := by
  refine (((d.lossCounted e).tokenPaid e).writeRecord_writes e r).fbit ?_
  rw [Dev.recorded_fld]
  exact (Dev.fld_congr rfl (((d.lossCounted e).tokenPaid_word e (.inr (by decide))).trans (d.lossCounted_word e _))).trans h

theorem Dev.admitEvent_tokens (hd : d.fld (F.LOG_BUCKET_DEPTH (bucketOf e.code)) ≠ 0) (hf : freeCode e.code = false) (ht : 1 ≤ d.fld (F.LOG_BSTAT_TOKENS (bucketOf e.code))) :
    (d.admitEvent e r).fld (F.LOG_BSTAT_TOKENS (bucketOf e.code)) + 1 = d.fld (F.LOG_BSTAT_TOKENS (bucketOf e.code)) := by
  have hb := bucketOf_lt e.code
  have ha : (F.LOG_BSTAT_TOKENS (bucketOf e.code)).a = 0xA008000 + 4 * bucketOf e.code := rfl
  have hw := ((((d.lossCounted e).tokenPaid e).writeRecord_writes e r).fld (f := F.LOG_BSTAT_TOKENS (bucketOf e.code)) (by omega) (by omega)).trans (Dev.recorded_fld _ _ _ _)
  have hp : (d.lossCounted e).tokenPaid e = (d.lossCounted e).takeToken (bucketOf e.code) := if_neg fun c => by
    rw [d.lossCounted_fld e, hf] at c
    exact c.elim hd Bool.false_ne_true
  rw [← d.lossCounted_fld e] at ht ⊢
  rw [← (d.lossCounted e).takeToken_tokens ht, ← hp]
  exact congrArg (· + 1) hw

theorem Dev.admitEvent_quiet_parts (ho : d.log.opened = none) (hi : ¬d.strikes) : ∃ g h c b x, d.admitEvent e .ok = { d with log := g, regs := h, cnt := c, bg := b, hst := x } ∧ g.inq = d.log.inq := by
  obtain ⟨k, g, c, hp⟩ := d.admitted_parts e
  have hw : ((d.lossCounted e).tokenPaid e).word F.LOG_INJECT_ARM.a = d.word F.LOG_INJECT_ARM.a := ((d.lossCounted e).tokenPaid_word e (.inl (by decide))).trans (d.lossCounted_word e _)
  have hs : ¬((d.lossCounted e).tokenPaid e).strikes := by
    unfold Dev.strikes Dev.flag
    rw [Dev.fld_congr (f := F.LOG_INJECT_ARM) rfl hw, Dev.fld_congr (f := F.LOG_INJECT_KIND) rfl hw]
    exact hi
  obtain ⟨q, t, c', b, x, hq⟩ := ((d.lossCounted e).tokenPaid e).writeRecord_quiet_parts e (by rw [hp]; exact ho) hs
  unfold Dev.admitEvent
  rw [hq, hp]
  exact ⟨_, _, _, _, _, rfl, rfl⟩

/-- Whatever becomes of an event, LOG's pool grows and a flagged fault stands. -/
theorem Dev.poolEvent_keeps : (∃ l, (d.poolEvent e r).log.inq = d.log.inq ++ l) ∧ (d.fld (fFBIT .log 0) = 1 → (d.poolEvent e r).fld (fFBIT .log 0) = 1) := by
  by_cases h : d.fld (F.LOG_BUCKET_DEPTH (bucketOf e.code)) = 0 ∨ freeCode e.code = true ∨ 1 ≤ d.fld (F.LOG_BSTAT_TOKENS (bucketOf e.code))
  · rw [d.poolEvent_admitted e r h]
    exact ⟨(d.admitEvent_log e r).1, d.admitEvent_fbit e r⟩
  · simp only [not_or, Bool.not_eq_true, Nat.not_le, Nat.lt_one_iff] at h
    obtain ⟨hd, hf, ht⟩ := h
    have hb := bucketOf_lt e.code
    have hw : ((d.lossCounted e).suppress (bucketOf e.code) e).word (fFBIT .log 0).a = d.word (fFBIT .log 0).a :=
      ((d.lossCounted e).suppress_word e (show 0xA00FD00 ≠ 0xA008000 + 4 * bucketOf e.code by omega)).trans (d.lossCounted_word e _)
    obtain ⟨c, hc⟩ := d.lossCounted_parts e
    obtain ⟨k, g, c', hs⟩ := (d.lossCounted e).suppress_parts e (bucketOf e.code)
    rw [d.poolEvent_suppress e r hd hf ht]
    refine ⟨⟨[], ?_⟩, fun h1 => (Dev.fld_congr rfl hw).trans h1⟩
    rw [hs, hc, List.append_nil]
end

section
variable {s : State} {bad : Bool} {sram : SramBits} {e : Event} {r : List Event} (h0 : s.dev.live 0 = true)
include h0

theorem gives_logEventAccept_not (h : s.dev.log.inq = [] ∨ s.dev.flag F.LOG_STAT_READY = false ∨ s.dev.poolOpen .log 0 = false) : Gives (.logEventAccept bad sram) s fun d => d = s.dev := by
  refine gives_of_eq (e := s.dev) (exec_logEventAccept bad sram s) h0 ?_ rfl
  split
  · rfl
  · next e r he =>
    refine if_pos ?_
    rcases h with h | h | h
    · rw [he] at h; cases h
    · rw [h]; rfl
    · rw [h, Bool.not_false, Bool.or_true]

variable (hq : s.dev.log.inq = e :: r) (hr : s.dev.flag F.LOG_STAT_READY = true) (hp : s.dev.poolOpen .log 0 = true)
include hq hr hp

theorem gives_logEventAccept {d : Dev} {P : Dev → Prop} (he : (s.dev.eventTaken r bad).poolEvent e (sramRead sram) = d) (hd : P d) : Gives (.logEventAccept bad sram) s P :=
  gives_of_eq (exec_logEventAccept bad sram s) h0 (by rw [hq]; exact (if_neg (by rw [hr, hp]; decide)).trans he) hd

theorem gives_logEventAccept_bad (hb : bad = true) : Gives (.logEventAccept bad sram) s fun d => d.flag (fFBIT .log 0) = true ∧ ∃ l, d.log.inq = r ++ l := by
  obtain ⟨hl, hf⟩ := (s.dev.eventTaken r bad).poolEvent_keeps e (sramRead sram)
  obtain ⟨l, c, w0, w1, ht⟩ := (s.dev.eventTaken_logged r bad).log
  have h1 := hf (by rw [hb]; exact s.dev.eventTaken_bad r)
  obtain ⟨l', hl⟩ := hl
  exact gives_logEventAccept h0 hq hr hp rfl ⟨by unfold Dev.flag; rw [h1]; rfl, l ++ l', by rw [hl, ht, List.append_assoc]⟩

theorem gives_logEventAccept_admitted (ha : s.dev.fld (F.LOG_BUCKET_DEPTH (bucketOf e.code)) = 0 ∨ freeCode e.code = true ∨ 1 ≤ s.dev.fld (F.LOG_BSTAT_TOKENS (bucketOf e.code))) :
    Gives (.logEventAccept bad sram) s fun d => (∃ l, d.log.inq = r ++ l) ∧
      ((∃ blk pat, sramRead sram = .uncorrectable blk pat) → d.log.recs = s.dev.log.recs ∧ d.log.count = s.dev.log.count) ∧
      ((∀ blk pat, sramRead sram ≠ .uncorrectable blk pat) → d.log.recs.get (fun _ => none) (s.dev.log.count % 32768) = some { seq := s.dev.log.head, ev := e } ∧ d.log.count = s.dev.log.count + 1) ∧
      (s.dev.fld (F.LOG_BUCKET_DEPTH (bucketOf e.code)) ≠ 0 → freeCode e.code = false → d.fld (F.LOG_BSTAT_TOKENS (bucketOf e.code)) + 1 = s.dev.fld (F.LOG_BSTAT_TOKENS (bucketOf e.code))) ∧
      (bad = false ∧ sramRead sram = .ok ∧ ¬s.dev.strikes ∧ s.dev.log.opened = none → d.log.inq = r ∧ d = { s.dev with log := d.log, regs := d.regs, cnt := d.cnt, hst := d.hst, bg := d.bg }) := by
  have ht := s.dev.eventTaken_logged r bad
  obtain ⟨h1, h2⟩ := s.dev.eventTaken_bucket e r bad
  obtain ⟨⟨l', hi⟩, hu, hn⟩ := (s.dev.eventTaken r bad).admitEvent_log e (sramRead sram)
  refine gives_logEventAccept h0 hq hr hp (Dev.poolEvent_admitted _ _ _ (by rw [h1, h2]; exact ha)) ⟨?_, fun h => ?_, fun h => ?_, fun hd hf => ?_, fun ⟨hg, hk, hs, ho⟩ => ?_⟩
  · obtain ⟨l, c, w0, w1, hl⟩ := ht.log
    exact ⟨l ++ l', hi.trans (by rw [hl, List.append_assoc])⟩
  · obtain ⟨l, c, w0, w1, hl⟩ := ht.log
    obtain ⟨hr, hc⟩ := hu h
    exact ⟨hr.trans (by rw [hl]), hc.trans (by rw [hl])⟩
  · obtain ⟨l, c, w0, w1, hl⟩ := ht.log
    have hn := hn h
    rw [hl] at hn
    exact hn
  · rw [← h1] at hd
    have h3 := ((ha.resolve_left (h1 ▸ hd)).resolve_left (by rw [hf]; exact Bool.false_ne_true))
    exact ((s.dev.eventTaken r bad).admitEvent_tokens e _ hd hf (h2 ▸ h3)).trans h2
  · obtain ⟨g, x, c, b, y, hx, hi⟩ := Dev.admitEvent_quiet_parts ({ s.dev with log := { s.dev.log with inq := r } } : Dev) e ho hs
    have hd : (s.dev.eventTaken r false).admitEvent e .ok = _ := hx
    rw [hg, hk, hd]
    exact ⟨hi, rfl⟩

theorem gives_logEventAccept_suppress (hd : s.dev.fld (F.LOG_BUCKET_DEPTH (bucketOf e.code)) ≠ 0) (hf : freeCode e.code = false) (ht : s.dev.fld (F.LOG_BSTAT_TOKENS (bucketOf e.code)) = 0) :
    Gives (.logEventAccept bad sram) s fun d => (∃ l, d.log.inq = r ++ l) ∧ d.log.recs = s.dev.log.recs ∧ d.log.count = s.dev.log.count ∧ (d.bucket (bucketOf e.code)).last = e.code ∧
      (bad = false ∧ sramRead sram = .ok ∧ ¬s.dev.strikes ∧ s.dev.log.opened = none → d.log.inq = r ∧ d = { s.dev with log := d.log, regs := d.regs, cnt := d.cnt }) := by
  have hg := s.dev.eventTaken_logged r bad
  obtain ⟨h1, h2⟩ := s.dev.eventTaken_bucket e r bad
  have hs := ((s.dev.eventTaken r bad).lossCounted e).suppress_last e (bucketOf e.code)
  obtain ⟨c, hc⟩ := (s.dev.eventTaken r bad).lossCounted_parts e
  obtain ⟨k, x, c', hx⟩ := ((s.dev.eventTaken r bad).lossCounted e).suppress_parts e (bucketOf e.code)
  obtain ⟨l, y, w0, w1, hl⟩ := hg.log
  refine gives_logEventAccept h0 hq hr hp (Dev.poolEvent_suppress _ _ _ (by rw [h1]; exact hd) hf (h2.trans ht)) ?_
  rw [hx, hc] at hs ⊢
  refine ⟨⟨l, (congrArg LogS.inq hl :)⟩, (congrArg LogS.recs hl :), (congrArg LogS.count hl :), hs, fun ⟨hb, _⟩ => ?_⟩
  rw [hb]
  exact ⟨rfl, rfl⟩

end

/-! ### The refill of a bucket (R515, R516) -/

/-- When a bucket's next token is due. -/
def Dev.refillDue (d : Dev) (b : Nat) : Nat := (d.bucket b).clock + d.fld (F.LOG_BUCKET_REFILL_MS b) * 1000000

/-- A bucket gains a token. -/
def Dev.tokenGained (d : Dev) (b : Nat) : Dev :=
  (d.setFld (F.LOG_BSTAT_TOKENS b) (d.fld (F.LOG_BSTAT_TOKENS b) + 1)).setBucket b { d.bucket b with clock := d.refillDue b }

/-- The record of n suppressed events. -/
def Dev.suppressedEvent (d : Dev) (b n : Nat) : Event :=
  { code := 0x1301, src := 0, p1 := b * 65536 + (d.bucket b).last, p2 := n, p3 := (d.bucket b).first % 2 ^ 32, stamp := d.now }

/-- It reports what it has suppressed. -/
def Dev.suppressionReported (d : Dev) (b n : Nat) : Dev := (((d.tokenGained b).setFld (F.LOG_BSTAT_SUPPRESSED b) 0).writeRecord (d.suppressedEvent b n)).bump .log 2

theorem exec_bucketRefill (b : Fin 4096) (s : State) : exec (.bucketRefill b) s =
    s.doesIn 0 fun d => if d.fld (F.LOG_BSTAT_TOKENS b) < d.fld (F.LOG_BUCKET_DEPTH b) ∧ d.refillDue b ≤ d.now then
        if d.fld (F.LOG_BSTAT_SUPPRESSED b) = 0 then d.tokenGained b else d.suppressionReported b (d.fld (F.LOG_BSTAT_SUPPRESSED b))
      else d := rfl

section
variable (d : Dev) (b : Nat)

theorem Dev.setBucket_bucket (x : BucketS) : (d.setBucket b x).bucket b = x := Tab.get_set_same _ _ _ _

theorem Dev.setBucket_word (x : BucketS) : (d.setBucket b x).word = d.word := rfl

/-- Only TOKENS changes among the registers. -/
theorem Dev.tokenGained_fld (f : RF) : (d.tokenGained b).fld f = (d.setFld (F.LOG_BSTAT_TOKENS b) (d.fld (F.LOG_BSTAT_TOKENS b) + 1)).fld f :=
  Dev.fld_congr rfl (congrFun (Dev.setBucket_word _ b _) f.a)

theorem Dev.tokenGained_tokens (h : d.fld (F.LOG_BSTAT_TOKENS b) < d.fld (F.LOG_BUCKET_DEPTH b)) : (d.tokenGained b).fld (F.LOG_BSTAT_TOKENS b) = d.fld (F.LOG_BSTAT_TOKENS b) + 1 := by
  have hl : d.fld (F.LOG_BUCKET_DEPTH b) < 2 ^ 8 := Nat.mod_lt _ (show 0 < 2 ^ 8 by decide)
  rw [Dev.tokenGained_fld, Dev.fld_setFld_same _ _ _ (show 0 + 8 ≤ 32 by decide)]
  exact Nat.mod_eq_of_lt (show _ < 2 ^ 8 by omega)

theorem Dev.tokenGained_suppressed : (d.tokenGained b).fld (F.LOG_BSTAT_SUPPRESSED b) = d.fld (F.LOG_BSTAT_SUPPRESSED b) :=
  (d.tokenGained_fld b _).trans (Dev.fld_setFld_disjoint d (F.LOG_BSTAT_TOKENS b) (F.LOG_BSTAT_SUPPRESSED b) _ rfl (.inl (show 0 + 8 ≤ 16 by decide)) (show 16 + 16 ≤ 32 by decide))

theorem Dev.tokenGained_clock : ((d.tokenGained b).bucket b).clock = d.refillDue b := congrArg BucketS.clock (Dev.setBucket_bucket _ b _)

theorem Dev.tokenGained_parts : ∃ k g, d.tokenGained b = { d with log := { d.log with buckets := k }, regs := g } := ⟨_, _, rfl⟩

theorem Dev.tokenGained_word {a : Nat} (ha : a ≠ 0xA008000 + 4 * b) : (d.tokenGained b).word a = d.word a :=
  (congrFun (Dev.setBucket_word _ b _) a).trans (Dev.word_setFld_ne d (F.LOG_BSTAT_TOKENS b) _ ha)
end

/-- A record that LOG writes of its own. -/
theorem Dev.writeRecord_ok (d : Dev) (e : Event) : (d.writeRecord e).log.count = d.log.count + 1 ∧ (d.writeRecord e).log.buckets = d.log.buckets ∧
    (d.writeRecord e).log.recs.get (fun _ => none) (d.log.count % 32768) = some { seq := d.log.head, ev := e } := by
  obtain ⟨o, f, q, t, l, c, w0, w1, hl⟩ := (d.writeRecord_writes e .ok).log
  rw [hl]
  exact ⟨rfl, rfl, d.storeRecord_recs e⟩

section
variable (d : Dev) {b : Nat} (n : Nat) (hb : b < 4096)
include hb

theorem Dev.suppressionReported_bstat (f : RF) (hf : f.a = 0xA008000 + 4 * b) :
    (d.suppressionReported b n).fld f = ((d.tokenGained b).setFld (F.LOG_BSTAT_SUPPRESSED b) 0).fld f := by
  have hw := ((d.tokenGained b).setFld (F.LOG_BSTAT_SUPPRESSED b) 0).writeRecord_writes (d.suppressedEvent b n) .ok
  exact ((hw.then (.bump (.refl _))).fld (by omega) (by omega)).trans (Dev.recorded_fld _ _ _ f)

theorem Dev.suppressionReported_tokens : (d.suppressionReported b n).fld (F.LOG_BSTAT_TOKENS b) = (d.tokenGained b).fld (F.LOG_BSTAT_TOKENS b) :=
  (d.suppressionReported_bstat n hb _ rfl).trans
    (Dev.fld_setFld_disjoint (d.tokenGained b) (F.LOG_BSTAT_SUPPRESSED b) (F.LOG_BSTAT_TOKENS b) 0 rfl (.inr (show 0 + 8 ≤ 16 by decide)) (show 0 + 8 ≤ 32 by decide))

theorem Dev.suppressionReported_suppressed : (d.suppressionReported b n).fld (F.LOG_BSTAT_SUPPRESSED b) = 0 :=
  (d.suppressionReported_bstat n hb _ rfl).trans ((Dev.fld_setFld_same (d.tokenGained b) (F.LOG_BSTAT_SUPPRESSED b) 0 (show 16 + 16 ≤ 32 by decide)).trans (Nat.zero_mod _))

theorem Dev.suppressionReported_quiet (ho : d.log.opened = none) (hs : ¬d.strikes) : ∃ g h c x y, d.suppressionReported b n = { d with log := g, regs := h, cnt := c, bg := x, hst := y } := by
  have hi : ((d.tokenGained b).setFld (F.LOG_BSTAT_SUPPRESSED b) 0).word F.LOG_INJECT_ARM.a = d.word F.LOG_INJECT_ARM.a :=
    (Dev.word_setFld_ne _ _ _ (show 0xA000060 ≠ 0xA008000 + 4 * b by omega)).trans (d.tokenGained_word b (show 0xA000060 ≠ 0xA008000 + 4 * b by omega))
  have hs' : ¬((d.tokenGained b).setFld (F.LOG_BSTAT_SUPPRESSED b) 0).strikes := by
    unfold Dev.strikes Dev.flag
    rw [Dev.fld_congr (f := F.LOG_INJECT_ARM) rfl hi, Dev.fld_congr (f := F.LOG_INJECT_KIND) rfl hi]
    exact hs
  unfold Dev.suppressionReported
  generalize d.suppressedEvent b n = e
  obtain ⟨k, g, hp⟩ := d.tokenGained_parts b
  rw [hp] at hs' ⊢
  obtain ⟨q, t, c, x, y, hx⟩ := Dev.writeRecord_quiet_parts (Dev.setFld ({ d with log := { d.log with buckets := k }, regs := g } : Dev) (F.LOG_BSTAT_SUPPRESSED b) 0) e ho hs'
  rw [hx]
  exact ⟨_, _, _, _, _, rfl⟩
end

theorem Dev.suppressionReported_log (d : Dev) (b n : Nat) : (d.suppressionReported b n).log.count = d.log.count + 1 ∧ ((d.suppressionReported b n).bucket b).clock = d.refillDue b ∧
    (d.suppressionReported b n).log.recs.get (fun _ => none) (d.log.count % 32768) = some { seq := d.log.head, ev := d.suppressedEvent b n } := by
  have hc := d.tokenGained_clock b
  unfold Dev.suppressionReported
  generalize d.suppressedEvent b n = e
  obtain ⟨k, g, hp⟩ := d.tokenGained_parts b
  rw [hp] at hc ⊢
  obtain ⟨h1, h2, h3⟩ := (Dev.setFld ({ d with log := { d.log with buckets := k }, regs := g } : Dev) (F.LOG_BSTAT_SUPPRESSED b) 0).writeRecord_ok e
  exact ⟨h1, (congrArg (fun t => (Tab.get (fun _ => {}) t b).clock) h2).trans hc, h3⟩

theorem gives_bucketRefill_not {s : State} {b : Fin 4096} (h0 : s.dev.live 0 = true)
    (h : s.dev.fld (F.LOG_BUCKET_DEPTH b) ≤ s.dev.fld (F.LOG_BSTAT_TOKENS b) ∨ s.dev.now < s.dev.refillDue b) : Gives (.bucketRefill b) s fun d => d = s.dev :=
  gives_of_eq (exec_bucketRefill b s) h0 (if_neg (by omega)) rfl

theorem gives_bucketRefill {s : State} {b : Fin 4096} (h0 : s.dev.live 0 = true) (ht : s.dev.fld (F.LOG_BSTAT_TOKENS b) < s.dev.fld (F.LOG_BUCKET_DEPTH b)) (hd : s.dev.refillDue b ≤ s.dev.now) :
    Gives (.bucketRefill b) s fun d => d.fld (F.LOG_BSTAT_TOKENS b) = s.dev.fld (F.LOG_BSTAT_TOKENS b) + 1 ∧ d.fld (F.LOG_BSTAT_SUPPRESSED b) = 0 ∧ (d.bucket b).clock = s.dev.refillDue b ∧
      (s.dev.fld (F.LOG_BSTAT_SUPPRESSED b) = 0 → d = { s.dev with log := { s.dev.log with buckets := d.log.buckets }, regs := d.regs }) ∧
      (s.dev.fld (F.LOG_BSTAT_SUPPRESSED b) ≠ 0 → d.log.count = s.dev.log.count + 1 ∧
        (∃ e, d.log.recs.get (fun _ => none) (s.dev.log.count % 32768) = some { seq := s.dev.log.head, ev := e } ∧ e.code = 0x1301 ∧ e.p2 = s.dev.fld (F.LOG_BSTAT_SUPPRESSED b)) ∧
        (s.dev.log.opened = none → ¬s.dev.strikes → d = { s.dev with log := d.log, regs := d.regs, cnt := d.cnt, hst := d.hst, bg := d.bg })) := by
  have hk := s.dev.tokenGained_tokens b ht
  by_cases hn : s.dev.fld (F.LOG_BSTAT_SUPPRESSED b) = 0
  · obtain ⟨k, g, hp⟩ := s.dev.tokenGained_parts b
    refine gives_of_eq (exec_bucketRefill b s) h0 ((if_pos ⟨ht, hd⟩).trans (if_pos hn)) ⟨hk, (s.dev.tokenGained_suppressed b).trans hn, s.dev.tokenGained_clock b, fun _ => ?_, fun h => absurd hn h⟩
    rw [hp]
  · obtain ⟨hc, hl, hr⟩ := s.dev.suppressionReported_log b (s.dev.fld (F.LOG_BSTAT_SUPPRESSED b))
    refine gives_of_eq (exec_bucketRefill b s) h0 ((if_pos ⟨ht, hd⟩).trans (if_neg hn)) ⟨(s.dev.suppressionReported_tokens _ b.isLt).trans hk, s.dev.suppressionReported_suppressed _ b.isLt, hl,
      fun h => absurd h hn, fun _ => ⟨hc, ⟨_, hr, rfl, rfl⟩, fun ho hs => ?_⟩⟩
    obtain ⟨g, h, c, x, y, hq⟩ := s.dev.suppressionReported_quiet (s.dev.fld (F.LOG_BSTAT_SUPPRESSED b)) b.isLt ho hs
    rw [hq]

end Sys2Proof.Machine
end

section
/-! SUPPORT. Flush batches and the scan for the epoch (R518, R519, R522). -/
namespace Sys2Proof.Machine

/-! ### Programming an open flash -/

/-- The flash takes programs in every sector (Table 15.2). -/
structure FlashOpen (d : Dev) : Prop where
  ready : d.flag F.FLC_STAT_READY = true
  whole : d.flag F.FLC_STAT_FAILED = false
  idle : d.flag F.FLC_STAT_EXEC = false
  banks : ∀ k, (d.bank k).suspended = false
  regions : ∀ y, d.xoRegion y = none

section
variable {d e : Dev}

theorem Dev.xoRegion_congr (h : ∀ a, 0x9000000 ≤ a → a < 0x9000100 → e.word a = d.word a) (y : Nat) : e.xoRegion y = d.xoRegion y := by
  unfold Dev.xoRegion
  refine List.find?_congr fun i hi => ?_
  have hi := List.mem_range.1 hi
  have hw : e.word (0x9000040 + 4 * i) = d.word (0x9000040 + 4 * i) := h _ (by omega) (by omega)
  unfold Dev.flag
  rw [Dev.fld_congr (f := F.FLC_XO_EN i) rfl hw, Dev.fld_congr (f := F.FLC_XO_FIRST i) rfl hw, Dev.fld_congr (f := F.FLC_XO_COUNT i) rfl hw]

theorem FlashOpen.congr (h : FlashOpen d) (h0 : e.flc.bank0 = d.flc.bank0) (h1 : e.flc.bank1 = d.flc.bank1) (hw : ∀ a, 0x9000000 ≤ a → a < 0x9000100 → e.word a = d.word a) : FlashOpen e := by
  have hf {f : RF} (ha : f.a = 0x9000004) : e.flag f = d.flag f := congrArg (· != 0) (Dev.fld_congr rfl (hw f.a (by omega) (by omega)))
  refine ⟨(hf rfl).trans h.ready, (hf rfl).trans h.whole, (hf rfl).trans h.idle, fun k => ?_, fun y => (Dev.xoRegion_congr hw y).trans (h.regions y)⟩
  have hb := h.banks k
  unfold Dev.bank at hb ⊢
  rw [h0, h1]
  exact hb

/-- A word is programmed. -/
def Dev.programmed (d : Dev) (w : Nat) (b : Bytes) : Dev := ((d.setFword w (.prog b)).bump .flc 3).bump .flc 4

theorem Dev.programmed_parts (d : Dev) (w : Nat) (b : Bytes) : ∃ c, d.programmed w b = { d with flc := { d.flc with words := d.flc.words.set (fun _ => .erased) w (.prog b) }, cnt := c } := ⟨_, rfl⟩

theorem Dev.programWord_open (h : FlashOpen d) {w : Nat} (he : d.fword w = .erased) (b : Bytes) (k : Nat) : d.programWord w b k = (d.programmed w b, fsOK) := by
  unfold Dev.programWord
  dsimp only
  rw [h.ready, h.whole, h.idle, h.regions, h.banks, he]
  rfl

theorem Dev.programWord_failed (hr : d.flag F.FLC_STAT_READY = true) (hf : d.flag F.FLC_STAT_FAILED = true) (w : Nat) (b : Bytes) (k : Nat) : (d.programWord w b k).2 = fsDieFailed := by
  unfold Dev.programWord
  dsimp only
  rw [hr, hf]
  rfl

theorem Dev.flushWords_failed (hr : d.flag F.FLC_STAT_READY = true) (hf : d.flag F.FLC_STAT_FAILED = true) (k : Nat) (b : Bytes) (l : List Bytes) : (d.flushWords k (b :: l)).2 = fsDieFailed := by
  have hp := Dev.programWord_failed hr hf (ringWord k (d.flushWp k)) b 7
  unfold Dev.flushWords
  dsimp only
  rw [hp]
  rfl

theorem Dev.setFlushWp_flushWp (d : Dev) (k w : Nat) : (d.setFlushWp k w).flushWp k = w % 32768 := by
  unfold Dev.setFlushWp Dev.flushWp
  by_cases hk : k = 0
  · rw [if_pos hk, if_pos hk]
  · rw [if_neg hk, if_neg hk]

theorem Dev.setFlushWp_parts (d : Dev) (k w : Nat) : ∃ p q, d.setFlushWp k w = { d with log := { d.log with wp0 := p, wp1 := q } } := by
  unfold Dev.setFlushWp
  split <;> exact ⟨_, _, rfl⟩

/-- The n words from a flush slot's write point on are erased, in a flash that takes programs. -/
structure BlankAhead (d : Dev) (k n : Nat) : Prop where
  opened : FlashOpen d
  blank : ∀ i < n, d.fword (ringWord k (d.flushWp k + i)) = .erased

theorem BlankAhead.congr {k n : Nat} (h : BlankAhead d k n) (hf : e.flc = d.flc) (h0 : e.log.wp0 = d.log.wp0) (h1 : e.log.wp1 = d.log.wp1)
    (hw : ∀ a, 0x9000000 ≤ a → a < 0x9000100 → e.word a = d.word a) : BlankAhead e k n := by
  refine ⟨h.opened.congr (by rw [hf]) (by rw [hf]) hw, fun i hi => ?_⟩
  have hb := h.blank i hi
  unfold Dev.fword Dev.flushWp at hb ⊢
  rw [hf, h0, h1]
  exact hb

/-- The program of a word at the write point, which moves on. -/
def Dev.flushWord (d : Dev) (k : Nat) (b : Bytes) : Dev := (d.programmed (ringWord k (d.flushWp k)) b).setFlushWp k (d.flushWp k + 1)

theorem Dev.flushWord_parts (d : Dev) (k : Nat) (b : Bytes) : ∃ c p q, d.flushWord k b =
    { d with flc := { d.flc with words := d.flc.words.set (fun _ => .erased) (ringWord k (d.flushWp k)) (.prog b) }, cnt := c, log := { d.log with wp0 := p, wp1 := q } } := by
  obtain ⟨c, hc⟩ := d.programmed_parts (ringWord k (d.flushWp k)) b
  obtain ⟨p, q, hp⟩ := (d.programmed (ringWord k (d.flushWp k)) b).setFlushWp_parts k (d.flushWp k + 1)
  exact ⟨c, p, q, hp.trans (by rw [hc])⟩

theorem BlankAhead.flushWord {k n : Nat} (h : BlankAhead d k (n + 1)) (hn : n + 1 ≤ 32768) (b : Bytes) : BlankAhead (d.flushWord k b) k n := by
  have hwp : (d.flushWord k b).flushWp k = (d.flushWp k + 1) % 32768 := Dev.setFlushWp_flushWp _ _ _
  obtain ⟨c, p, q, hd⟩ := d.flushWord_parts k b
  refine ⟨h.opened.congr (by rw [hd]) (by rw [hd]) fun _ _ _ => by rw [hd]; rfl, fun i hi => ?_⟩
  rw [hwp, hd]
  refine Eq.trans (Tab.get_set_ne (fun _ => FWord.erased) d.flc.words (FWord.prog b) ?_) (Eq.trans ?_ (h.blank (i + 1) (by omega)))
  · unfold ringWord
    omega
  · have hr : ringWord k ((d.flushWp k + 1) % 32768 + i) = ringWord k (d.flushWp k + (i + 1)) := by
      unfold ringWord
      omega
    rw [hr]
    rfl

theorem Dev.flushWords_blank {k m : Nat} (l : List Bytes) (h : BlankAhead d k (l.length + m)) (hn : l.length + m ≤ 32768) : (d.flushWords k l).2 = fsOK ∧ BlankAhead (d.flushWords k l).1 k m := by
  induction l generalizing d with
  | nil => exact ⟨rfl, by rwa [List.length_nil, Nat.zero_add] at h⟩
  | cons b l ih =>
    rw [List.length_cons, Nat.add_right_comm] at h hn
    have hs : d.flushWords k (b :: l) = (d.flushWord k b).flushWords k l := by
      rw [Dev.flushWords, Dev.programWord_open (w := ringWord k (d.flushWp k)) h.opened (h.blank 0 (Nat.succ_pos _))]
      exact if_pos rfl
    rw [hs]
    exact ih (h.flushWord hn b) (by omega)
end

/-! ### A batch from its BEGIN to its END -/

/-- LOG with the next batch's number. -/
def Dev.nextBatch (d : Dev) : Dev := { d with log := { d.log with batch := d.log.batch + 1 } }

section
variable {d e : Dev} {o : Option OpenBatch} {f t : Nat} {q : Option Nat}

theorem Logged.log_opened (h : Logged d e) : e.log.opened = d.log.opened := by
  obtain ⟨l, c, w0, w1, hl⟩ := h.log
  rw [hl]

/-- A batch that is closed is open no more; without its END word FLUSHED stands. -/
theorem Logged.closeBatch (h : Logged (d.batching o f q t) e) : ∃ f', Logged (d.batching none f' q t) e.closeBatch ∧ ((∀ x, o = some x → x.torn = true) → f' = f) := by
  have ho : e.log.opened = o := h.log_opened
  have hf : e.log.flushed = f := h.log_flushed
  cases o with
  | none =>
    rw [Dev.closeBatch_none ho]
    exact ⟨f, h, fun _ => rfl⟩
  | some x =>
    have hq : e.batching none (e.flushedBy x) e.log.flushReq e.log.reqStamp = e.batching none (e.flushedBy x) q t := by
      obtain ⟨l, c, w0, w1, hl⟩ := h.log
      rw [hl]; rfl
    refine ⟨e.flushedBy x, (h.batching none (e.flushedBy x) q t).trans (hq ▸ Dev.closeBatch_logged ho), fun ht => ?_⟩
    unfold Dev.flushedBy
    rw [if_pos (.inr (ht x rfl)), hf]

/-- Records that are appended to a batch leave it open, or end it. -/
theorem Logged.appendBatch {x : OpenBatch} (l : List Rec) (h : Logged (d.batching (some x) f q t) e) :
    ∃ o f', Logged (d.batching o f' q t) (e.appendBatch l) ∧ (∀ y, o = some y → y.torn = x.torn) ∧ (x.torn = true ∨ x.cause ≠ 2 → f' = f) := by
  have hw : Logged (d.batching (some x) f q t) (e.flushWords x.slot (l.map recBytes)).1 := .flushWords h
  unfold Dev.appendBatch
  rw [h.log_opened]
  dsimp only [Dev.batching]
  split
  · exact ⟨none, f, hw.batchOver, by rintro _ ⟨⟩, fun _ => rfl⟩
  · have ho : Logged (d.batching (some { x with recs := x.recs + l.length }) f q t)
        ((e.flushWords x.slot (l.map recBytes)).1.withBatch (some { x with recs := x.recs + l.length })) := hw.withBatch _
    split
    · next hc =>
      obtain ⟨f', hc', hf⟩ := ho.closeBatch
      refine ⟨none, f', hc', by rintro _ ⟨⟩, fun ht => hf fun y hy => ?_⟩
      rw [← Option.some.inj hy]
      exact ht.resolve_right (absurd hc.1)
    · exact ⟨_, f, ho, fun y hy => by rw [← Option.some.inj hy], fun _ => rfl⟩
end

/-- The first record held and not flushed, and the first that a batch of this cause takes (R518, R520). -/
def Dev.oldestHeld (d : Dev) : Nat := max d.log.flushed (d.log.count - 32768)
def Dev.batchFirst (d : Dev) (cause : Nat) : Nat := if cause == 2 then max d.oldestHeld (d.log.count - d.fld F.LOG_FLUSH_PF_MAX) else d.oldestHeld

/-- LOG.INJECT has the END word of the next batch left out (Table 18.6). -/
def Dev.tears (d : Dev) : Bool := d.flag F.LOG_INJECT_ARM && d.fld F.LOG_INJECT_KIND = 1

def Dev.newBatch (d : Dev) (cause : Nat) : OpenBatch :=
  { cause := cause, slot := d.flushSlot (cause == 2), batch := d.log.batch, first := d.batchFirst cause, oldest := d.oldestHeld, torn := d.tears }

/-- LOG as it is about to write BEGIN. -/
def Dev.batchBegun (d : Dev) (cause : Nat) : Dev :=
  let e := if d.tears then d.setFlag F.LOG_INJECT_ARM false else d
  let e : Dev := { e with log := { e.log with batch := e.log.batch + 1, flushReq := none, opened := some (d.newBatch cause) } }
  (e.setFld F.LOG_STAT_FLUSHING 1).setFlag F.LOG_STAT_PF_BATCH (cause == 2)

/-- BEGIN is written. -/
def Dev.batchBegin (d : Dev) (cause : Nat) : Dev × Nat :=
  let e := d.batchBegun cause
  e.flushWords (d.newBatch cause).slot [beginWord (e.log.kepoch * 2 ^ 40 + d.batchFirst cause) e.now cause d.log.batch (e.log.kepoch * 2 ^ 40 + d.oldestHeld)]

section
variable (d : Dev) (cause : Nat)

theorem Dev.openBatch_eq : d.openBatch cause = if (d.batchBegin cause).2 ≠ fsOK then (d.batchBegin cause).1.batchOver (d.newBatch cause).slot (d.batchBegin cause).2
    else (d.batchBegin cause).1.appendBatch ((d.batchBegin cause).1.recRange (d.batchFirst cause) d.log.count) := by
  have ht : (d.flag F.LOG_INJECT_ARM && d.fld F.LOG_INJECT_KIND = 1) = d.tears := rfl
  unfold Dev.openBatch Dev.batchBegin Dev.batchBegun Dev.newBatch
  rw [ht]
  cases d.tears
  · rfl
  · rfl

theorem Dev.batchBegun_word {a : Nat} (h1 : a ≠ 0xA000004) (h2 : a ≠ 0xA000060) : (d.batchBegun cause).word a = d.word a := by
  unfold Dev.batchBegun Dev.setFlag
  dsimp only
  rw [Dev.word_setFld_ne _ F.LOG_STAT_PF_BATCH _ h1, Dev.word_setFld_ne _ F.LOG_STAT_FLUSHING _ h1]
  split
  · exact Dev.word_setFld_ne d F.LOG_INJECT_ARM _ h2
  · rfl

theorem Dev.batchBegun_parts : ∃ g, d.batchBegun cause = { d with log := { d.log with batch := d.log.batch + 1, flushReq := none, opened := some (d.newBatch cause) }, regs := g } := by
  unfold Dev.batchBegun
  dsimp only
  split <;> exact ⟨_, rfl⟩

theorem Dev.batchBegun_logged : Logged (d.nextBatch.batching (some (d.newBatch cause)) d.log.flushed none d.log.reqStamp) (d.batchBegun cause) := by
  obtain ⟨g, hg⟩ := d.batchBegun_parts cause
  have hw {a : Nat} (h : 0xA004000 ≤ a) : (d.batchBegun cause).word a = d.word a := d.batchBegun_word cause (by omega) (by omega)
  refine ⟨?_, by rw [hg]; rfl, by rw [hg]; rfl, by rw [hg]; rfl, by rw [hg]; rfl, fun a ha _ => hw ha, fun h => (Dev.fld_congr rfl (hw (by decide))).trans h⟩
  rw [hg]
  exact LogS.stands _

theorem Dev.batchBegin_logged : Logged (d.nextBatch.batching (some (d.newBatch cause)) d.log.flushed none d.log.reqStamp) (d.batchBegin cause).1 := .flushWords (d.batchBegun_logged cause)

theorem Dev.openBatch_logged : ∃ o f, Logged (d.nextBatch.batching o f none d.log.reqStamp) (d.openBatch cause) ∧ (∀ y, o = some y → y.torn = d.tears) ∧
    (d.tears = true ∨ cause ≠ 2 → f = d.log.flushed) := by
  have h := d.batchBegin_logged cause
  rw [d.openBatch_eq]
  split
  · exact ⟨none, _, h.batchOver, by rintro _ ⟨⟩, fun _ => rfl⟩
  · exact h.appendBatch _

theorem Dev.flushBatch_logged : ∃ o f, Logged (d.nextBatch.batching o f none d.log.reqStamp) (d.flushBatch cause) ∧ (cause ≠ 2 → o = none) ∧ (d.tears = true → f = d.log.flushed) := by
  obtain ⟨o, f, h, ho, hf⟩ := d.openBatch_logged cause
  unfold Dev.flushBatch
  split
  · next hc =>
    rw [hc] at h
    exact ⟨o, f, h, absurd hc, fun ht => hf (.inl ht)⟩
  · obtain ⟨f', hc, hf'⟩ := h.closeBatch
    exact ⟨none, f', hc, fun _ => rfl, fun ht => (hf' fun y hy => (ho y hy).trans ht).trans (hf (.inl ht))⟩
end

end Sys2Proof.Machine
end

section
/-! SUPPORT. The commands that flush, scan and read the logbook (R518, R519, R522, R523). -/
namespace Sys2Proof.Machine

/-! ### A flush that the die refuses, and one that it takes -/

section
variable (d : Dev) {cause : Nat}

theorem Dev.batchOver_failed (k : Nat) : (d.batchOver k fsDieFailed).flag F.LOG_STAT_FLASH_OFF = true := by
  unfold Dev.batchOver
  dsimp only
  split
  · refine (congrArg (· != 0) (Dev.fld_congr (f := F.LOG_STAT_FLASH_OFF) rfl (Dev.event_word _ _ _ _ _ _ _ (by decide)))).trans ?_
    exact Dev.flag_setFlag_same _ F.LOG_STAT_FLASH_OFF true (by decide) (by decide)
  · next h =>
    rw [not_and, Bool.not_eq_true', Bool.not_eq_false] at h
    exact h rfl

variable {d}

theorem Dev.openBatch_failed (hr : d.flag F.FLC_STAT_READY = true) (hf : d.flag F.FLC_STAT_FAILED = true) :
    (d.openBatch cause).flag F.LOG_STAT_FLASH_OFF = true ∧ Logged (d.nextBatch.batching none d.log.flushed none d.log.reqStamp) (d.openBatch cause) := by
  have hw {f : RF} (ha : f.a = 0x9000004) : (d.batchBegun cause).flag f = d.flag f := congrArg (· != 0) (Dev.fld_congr rfl (d.batchBegun_word cause (by omega) (by omega)))
  have hs : (d.batchBegin cause).2 = fsDieFailed := Dev.flushWords_failed ((hw rfl).trans hr) ((hw rfl).trans hf) _ _ _
  rw [d.openBatch_eq, hs, if_pos (by decide)]
  exact ⟨Dev.batchOver_failed _ _, (d.batchBegin_logged cause).batchOver⟩

theorem Dev.flushBatch_failed (hr : d.flag F.FLC_STAT_READY = true) (hf : d.flag F.FLC_STAT_FAILED = true) :
    (d.flushBatch cause).flag F.LOG_STAT_FLASH_OFF = true ∧ (d.flushBatch cause).log.flushed = d.log.flushed := by
  unfold Dev.flushBatch
  split
  · next hc =>
    obtain ⟨ho, hl⟩ := Dev.openBatch_failed (cause := 2) hr hf
    exact ⟨ho, hl.log_flushed⟩
  · obtain ⟨ho, hl⟩ := Dev.openBatch_failed (cause := cause) hr hf
    rw [Dev.closeBatch_none hl.log_opened]
    exact ⟨ho, hl.log_flushed⟩

theorem Dev.recRange_congr {e : Dev} (h : e.log.recs = d.log.recs) (lo hi : Nat) : e.recRange lo hi = d.recRange lo hi := by unfold Dev.recRange; rw [h]

theorem Dev.appendBatch_blank {x : OpenBatch} (l : List Rec) {m : Nat} (hx : d.log.opened = some x) (hc : x.cause ≠ 2) (h : BlankAhead d x.slot (l.length + m)) (hn : l.length + m ≤ 32768) :
    (d.appendBatch l).log.opened = some { x with recs := x.recs + l.length } ∧ BlankAhead (d.appendBatch l) x.slot m := by
  obtain ⟨hs, hb⟩ := Dev.flushWords_blank (l.map recBytes) (m := m) (by rw [List.length_map]; exact h) (by rw [List.length_map]; exact hn)
  have ha : d.appendBatch l = (d.flushWords x.slot (l.map recBytes)).1.withBatch (some { x with recs := x.recs + l.length }) := by
    unfold Dev.appendBatch
    rw [hx]
    dsimp only
    rw [hs, if_neg (by decide), if_neg fun h => hc h.1]
    rfl
  rw [ha]
  exact ⟨rfl, hb.congr rfl rfl rfl fun _ _ _ => rfl⟩

theorem Dev.closeBatch_blank {x : OpenBatch} (hx : d.log.opened = some x) (ht : x.torn = false) (h : BlankAhead d x.slot 1) : d.closeBatch.log.flushed = x.first + x.recs := by
  have ht : ¬x.torn = true := by rw [ht]; decide
  have he : (d.endBatch x).2 = fsOK := by
    unfold Dev.endBatch
    rw [if_neg ht]
    exact (Dev.flushWords_blank [_] (m := 0) h (by rw [List.length_singleton]; decide)).1
  have hf : d.flushedBy x = x.first + x.recs := if_neg fun c => c.elim (fun c => c he) ht
  exact (Dev.closeBatch_logged hx).log_flushed.trans hf

theorem Dev.batchFirst_normal (hc : cause ≠ 2) : d.batchFirst cause = d.oldestHeld := if_neg (by rw [beq_iff_eq]; exact hc)

theorem Dev.batchBegin_blank (hf : FlashOpen d) (he : ∀ w, d.fword w = .erased) {m : Nat} (hm : m ≤ 32767) :
    (d.batchBegin cause).2 = fsOK ∧ BlankAhead (d.batchBegin cause).1 (d.newBatch cause).slot m := by
  obtain ⟨g, hg⟩ := d.batchBegun_parts cause
  refine Dev.flushWords_blank [_] ⟨hf.congr (by rw [hg]) (by rw [hg]) fun a _ _ => d.batchBegun_word cause (by omega) (by omega), fun i _ => ?_⟩ (by rw [List.length_singleton]; omega)
  generalize ringWord (d.newBatch cause).slot ((d.batchBegun cause).flushWp (d.newBatch cause).slot + i) = w
  unfold Dev.fword
  rw [hg]
  exact he w

/-- A normal batch in an erased flash takes every record and ends with its END word. -/
theorem Dev.flushBatch_blank (hc : cause ≠ 2) (ht : d.tears = false) (hf : FlashOpen d) (he : ∀ w, d.fword w = .erased) (hn : (d.recRange d.oldestHeld d.log.count).length ≤ 32766) :
    (d.flushBatch cause).log.flushed = d.oldestHeld + (d.recRange d.oldestHeld d.log.count).length := by
  have hb := d.batchBegin_logged cause
  obtain ⟨hs, h1⟩ := Dev.batchBegin_blank (cause := cause) (m := (d.recRange d.oldestHeld d.log.count).length + 1) hf he (by omega)
  have hr : (d.batchBegin cause).1.recRange (d.batchFirst cause) d.log.count = d.recRange d.oldestHeld d.log.count := by
    obtain ⟨_, _, _, _, hl⟩ := hb.log
    rw [Dev.batchFirst_normal hc]
    exact Dev.recRange_congr (by rw [hl]; rfl) _ _
  obtain ⟨hx, h2⟩ := Dev.appendBatch_blank _ hb.log_opened hc h1 (by omega)
  have ho : d.openBatch cause = (d.batchBegin cause).1.appendBatch (d.recRange d.oldestHeld d.log.count) := by rw [d.openBatch_eq, hs, if_neg (by decide), hr]
  have hd : d.flushBatch cause = (d.openBatch cause).closeBatch := if_neg hc
  rw [← ho] at hx h2
  rw [hd, Dev.closeBatch_blank hx ht h2]
  exact congrArg₂ (· + ·) (Dev.batchFirst_normal hc) (Nat.zero_add _)
end

/-! ### The flush (R50, R518) -/

/-- A flush that may go is carried out, unless flushing has stopped. -/
def Dev.flushGranted (d : Dev) (cause : Nat) : Dev :=
  let d := d.grantBg .flush
  if d.flag F.LOG_STAT_FLASH_OFF then { d with log := { d.log with flushReq := none } } else d.flushBatch cause

theorem exec_logFlushBatch (s : State) : exec .logFlushBatch s =
    s.doesIn 0 fun d => match d.log.flushReq with
      | none => d
      | some cause => if !d.flushGrantable cause || d.log.opened.isSome then d else d.flushGranted cause := rfl

section
variable {s : State} {cause : Nat} (h0 : s.dev.live 0 = true)
include h0

theorem gives_logFlushBatch_none (hq : s.dev.log.flushReq = none) : Gives .logFlushBatch s fun d => d = s.dev := gives_of_eq (e := s.dev) (exec_logFlushBatch s) h0 (by rw [hq]) rfl

variable (hq : s.dev.log.flushReq = some cause)
include hq

theorem gives_logFlushBatch_waits (h : s.dev.flushGrantable cause = false ∨ s.dev.log.opened ≠ none) : Gives .logFlushBatch s fun d => d = s.dev := by
  refine gives_of_eq (e := s.dev) (exec_logFlushBatch s) h0 ?_ rfl
  rw [hq]
  refine if_pos ?_
  rcases h with h | h
  · rw [h]; rfl
  · rw [Option.isSome_iff_ne_none.2 h, Bool.or_true]

variable (hg : s.dev.flushGrantable cause = true) (ho : s.dev.log.opened = none)
include hg ho

theorem gives_logFlushBatch_granted {e : Dev} {P : Dev → Prop} (he : s.dev.flushGranted cause = e) (hP : P e) : Gives .logFlushBatch s P :=
  gives_of_eq (exec_logFlushBatch s) h0 (by rw [hq]; exact (if_neg (by rw [hg, ho]; decide)).trans he) hP

theorem gives_logFlushBatch_off (hf : s.dev.flag F.LOG_STAT_FLASH_OFF = true) :
    Gives .logFlushBatch s fun d => d.log = { s.dev.log with flushReq := none } ∧ d = { s.dev with log := d.log, bg := d.bg } :=
  gives_logFlushBatch_granted h0 hq hg ho (if_pos hf) ⟨rfl, rfl⟩

theorem gives_logFlushBatch (hf : s.dev.flag F.LOG_STAT_FLASH_OFF = false) : Gives .logFlushBatch s fun d =>
    d.log.flushReq = none ∧ d.log.batch = s.dev.log.batch + 1 ∧ d.log.recs = s.dev.log.recs ∧ d.log.count = s.dev.log.count ∧ (cause ≠ 2 → d.log.opened = none) ∧
      (s.dev.flag F.FLC_STAT_READY = true → s.dev.flag F.FLC_STAT_FAILED = true → d.log.flushed = s.dev.log.flushed ∧ d.flag F.LOG_STAT_FLASH_OFF = true) ∧
      (s.dev.flag F.LOG_INJECT_ARM = true → s.dev.fld F.LOG_INJECT_KIND = 1 → d.log.flushed = s.dev.log.flushed) ∧
      (cause ≠ 2 → ¬(s.dev.flag F.LOG_INJECT_ARM = true ∧ s.dev.fld F.LOG_INJECT_KIND = 1) → FlashOpen s.dev → (∀ w, s.dev.fword w = .erased) →
        (s.dev.recRange s.dev.oldestHeld s.dev.log.count).length ≤ 32766 → d.log.flushed = s.dev.oldestHeld + (s.dev.recRange s.dev.oldestHeld s.dev.log.count).length) ∧
      d.zne = s.dev.zne ∧ d.buf = s.dev.buf ∧ d.dma = s.dev.dma ∧ d.cmds = s.dev.cmds := by
  have ht : (s.dev.grantBg .flush).tears = true ↔ s.dev.flag F.LOG_INJECT_ARM = true ∧ s.dev.fld F.LOG_INJECT_KIND = 1 := by
    unfold Dev.tears
    rw [Bool.and_eq_true, decide_eq_true_iff]
    exact Iff.rfl
  obtain ⟨o, f, h, hc, hs⟩ := (s.dev.grantBg .flush).flushBatch_logged cause
  obtain ⟨l, c, w0, w1, hl⟩ := h.log
  refine gives_logFlushBatch_granted h0 hq hg ho (if_neg (by rw [show (s.dev.grantBg .flush).flag F.LOG_STAT_FLASH_OFF = false from hf]; decide))
    ⟨by rw [hl]; rfl, by rw [hl]; rfl, by rw [hl]; rfl, by rw [hl]; rfl, fun h => by rw [hl]; exact hc h, fun h1 h2 => (Dev.flushBatch_failed (d := s.dev.grantBg .flush) h1 h2).symm,
      fun h1 h2 => by rw [hl]; exact hs (ht.2 ⟨h1, h2⟩), fun h1 h2 h3 h4 h5 => ?_, h.zne, h.buf, h.dma, h.cmds⟩
  exact Dev.flushBatch_blank (d := s.dev.grantBg .flush) h1 (Bool.eq_false_iff.2 fun h => h2 (ht.1 h)) (h3.congr rfl rfl fun _ _ _ => rfl) h4 h5
end

/-! ### The scan for the epoch (R522) -/

/-- The epochs found in the flush slots, of epoch words and of records. -/
def Dev.epochsFound (d : Dev) : List Nat :=
  (((d.slotWords 0 ++ d.slotWords 1).filter fun p => leAt p.2 16 2 == 0xFFE7).map fun p => leAt p.2 0 8 / 2 ^ 40) ++ (d.flashRecords 0 ++ d.flashRecords 1).map fun b => leAt b 0 8 / 2 ^ 40

/-- The epoch word is programmed at the write point found. -/
def Dev.epochWritten (d : Dev) : Dev × Nat :=
  ((d.setFlushWp 0 ((d.scanPoint 0).getD 0)).setFlushWp 1 ((d.scanPoint 1).getD 0)).flushWords (if (d.scanPoint 0).isSome then 0 else 1) [epochWord (d.epochsFound.foldl max 0 + 1) d.now]

/-- LOG takes its epoch above every one found, and begins to count. -/
def Dev.epochTaken (d : Dev) (batch : Nat) : Dev :=
  { d.epochWritten.1 with log := { d.epochWritten.1.log with kepoch := d.epochsFound.foldl max 0 + 1, count := 0, flushed := 0, batch := batch } }

/-- The batches in both flush slots, and those of them that are closed. -/
def Dev.batchesFound (d : Dev) : List (Nat × Nat × Option Nat) := batchesOf (d.slotWords 0) ++ batchesOf (d.slotWords 1)
def Dev.batchesClosed (d : Dev) : Nat := (d.batchesFound.filter fun b => b.2.2.isSome).length

/-- LOG is ready and says so. -/
def Dev.epochScanned (d : Dev) : Dev :=
  (((d.epochTaken (d.batchesFound.foldl (fun m b => max m (b.1 + 1)) 0)).setFlag F.LOG_STAT_EPOCH_UNSURE (decide (d.epochWritten.2 ≠ fsOK))).setFld F.LOG_STAT_READY 1).event
    .log 0x02 (d.epochsFound.foldl max 0 + 1) d.batchesClosed (d.batchesFound.length - d.batchesClosed + injBit (decide (d.epochWritten.2 ≠ fsOK)))

theorem exec_logEpochScan (s : State) : exec .logEpochScan s =
    s.doesIn 0 fun d => if !d.flag F.FLC_STAT_READY || d.flag F.LOG_STAT_READY then d else d.epochScanned := rfl

theorem le_foldl_max {l : List Nat} {a : Nat} : a ≤ l.foldl max a ∧ ∀ x ∈ l, x ≤ l.foldl max a := by
  induction l generalizing a with
  | nil => exact ⟨le_rfl, fun _ h => absurd h List.not_mem_nil⟩
  | cons y l ih =>
    obtain ⟨h1, h2⟩ := ih (a := max a y)
    refine ⟨(le_max_left a y).trans h1, fun x hx => ?_⟩
    rcases List.mem_cons.1 hx with rfl | hx
    · exact (le_max_right a x).trans h1
    · exact h2 x hx

section
variable {s : State} (h0 : s.dev.live 0 = true)
include h0

theorem gives_logEpochScan_not (h : s.dev.flag F.FLC_STAT_READY = false ∨ s.dev.flag F.LOG_STAT_READY = true) : Gives .logEpochScan s fun d => d = s.dev := by
  refine gives_of_eq (e := s.dev) (exec_logEpochScan s) h0 (if_pos ?_) rfl
  rcases h with h | h
  · rw [h]; rfl
  · rw [h, Bool.or_true]

theorem gives_logEpochScan (hf : s.dev.flag F.FLC_STAT_READY = true) (hr : s.dev.flag F.LOG_STAT_READY = false) : Gives .logEpochScan s fun d =>
    d.flag F.LOG_STAT_READY = true ∧ d.log.count = 0 ∧ d.log.flushed = 0 ∧ (∀ b ∈ s.dev.flashRecords 0 ++ s.dev.flashRecords 1, leAt b 0 8 / 2 ^ 40 < d.log.kepoch) ∧
      d.zne = s.dev.zne ∧ d.buf = s.dev.buf ∧ d.dma = s.dev.dma ∧ d.cmds = s.dev.cmds := by
  have hw : Logged s.dev s.dev.epochWritten.1 := .flushWords (.setFlushWp (.setFlushWp (.refl _)))
  have ht (n : Nat) : Logged (s.dev.epochTaken n) _ := .event (b := .log) (n := 0x02) (p1 := s.dev.epochsFound.foldl max 0 + 1) (p2 := s.dev.batchesClosed)
    (p3 := s.dev.batchesFound.length - s.dev.batchesClosed + injBit (decide (s.dev.epochWritten.2 ≠ fsOK))) (src := blkInst .log)
    (.setFld (f := F.LOG_STAT_READY) (v := 1) (by decide) (.setFld (f := F.LOG_STAT_EPOCH_UNSURE) (v := (decide (s.dev.epochWritten.2 ≠ fsOK)).toNat) (by decide) (.refl (s.dev.epochTaken n))))
  have ht := ht (s.dev.batchesFound.foldl (fun m b => max m (b.1 + 1)) 0)
  obtain ⟨l, c, w0, w1, hl⟩ := ht.log
  refine gives_of_eq (exec_logEpochScan s) h0 (if_neg (by rw [hf, hr]; decide)) ⟨?_, (congrArg LogS.count hl :), (congrArg LogS.flushed hl :), fun b hb => ?_,
    ht.zne.trans hw.zne, ht.buf.trans hw.buf, ht.dma.trans hw.dma, ht.cmds.trans hw.cmds⟩
  · refine (congrArg (· != 0) (Dev.fld_congr (f := F.LOG_STAT_READY) rfl (Dev.event_word _ _ _ _ _ _ _ (by decide)))).trans ?_
    exact Dev.flag_setFlag_same _ F.LOG_STAT_READY true (by decide) (by decide)
  · have hk : s.dev.epochScanned.log.kepoch = s.dev.epochsFound.foldl max 0 + 1 := congrArg LogS.kepoch hl
    rw [hk]
    exact Nat.lt_succ_of_le (le_foldl_max.2 _ (List.mem_append_right _ (List.mem_map_of_mem hb)))
end

end Sys2Proof.Machine
end

section
/-! SUPPORT. The read of the logbook (R523, R525). -/
namespace Sys2Proof.Machine

/-- The records that a read returns: from SRAM or from the valid batches, from the first wanted on. -/
def Dev.recordsRead (d : Dev) (src n first : Nat) : List Bytes :=
  ((if src = 0 then (d.recRange (d.log.count - 32768) d.log.count).map recBytes
    else (d.flashRecords 0 ++ d.flashRecords 1).foldl (fun l r => insertRec r l) []).filter fun r => decide (first ≤ leAt r 0 8)).take n

/-- The logbook's asynchronous events are unmasked for both controllers. -/
def Dev.unmaskLog (d : Dev) : Dev := (d.unmaskPage 0 fun e => e.info == 0xE0).unmaskPage 1 fun e => e.info == 0xE0

/-- Records are returned, after the events are unmasked where the command asks for it. -/
def Dev.returnRecords (d : Dev) (t : Tag) (clear : Prop) [Decidable clear] (out : List Bytes) : Dev := ((if clear then d.unmaskLog else d).sendData t out.flatten).finish t stOk out.length

theorem exec_logbookRead (t : Tag) (cdw10 numr : Word) (first : BitVec 64) (len : Nat) (s : State) : exec (.logbookRead t cdw10 numr first len) s =
    s.doesIn 0 fun d => d.host t true fun d =>
      if cdw10.toNat / 4 ≠ 0 ∨ numr.toNat = 0 ∨ 32768 < numr.toNat ∨ len < 32 * numr.toNat then d.finish t stInvalidField
      else d.returnRecords t (cdw10.toNat / 2 % 2 = 1) (d.recordsRead (cdw10.toNat % 2) numr.toNat first.toNat) := rfl

section
variable (d : Dev)

theorem Dev.unmaskLog_parts : ∃ x, d.unmaskLog = { d with hst := x } ∧ x.tx = d.hst.tx ∧ x.post = d.hst.post := by
  unfold Dev.unmaskLog Dev.unmaskPage Dev.setCtrl
  exact ⟨_, rfl, rfl, rfl⟩

theorem Dev.unmaskLog_masked (c : Fin 2) : (d.unmaskLog.ctrl c).masked = (d.ctrl c).masked.filter fun e => !(e.info == 0xE0) := by
  match c with
  | 0 => rfl
  | 1 => rfl

theorem Dev.finish_quiet_ctrl (t : Tag) {st : Status} (hq : stQuiet st = true) (a b : Nat) (c : Fin 2) : (d.finish t st a b).ctrl c = d.ctrl c := by
  obtain ⟨n, l, he⟩ := d.finish_eq t st a b
  rw [he, if_pos hq]
  split <;> rfl
end

section
variable (d : Dev) (t : Tag) {clear : Prop} [Decidable clear] (out : List Bytes)

theorem Dev.returnRecords_parts : ∃ x, (if clear then d.unmaskLog else d).sendData t out.flatten = { d with hst := x } ∧ x.tx = d.hst.tx ++ [.data t out.flatten] ∧ x.post = d.hst.post := by
  split
  · obtain ⟨x, hx, ht, hp⟩ := d.unmaskLog_parts
    rw [hx]
    exact ⟨_, rfl, congrArg (· ++ _) ht, hp⟩
  · exact ⟨_, rfl, rfl, rfl⟩

theorem Dev.returnRecords_shows : (d.returnRecords t clear out).hst.tx = d.hst.tx ++ [.data t out.flatten] ∧
    ((∀ c, d.cmd? t = some c → c.silent = false) → ∃ c ∈ (d.returnRecords t clear out).hst.post, c.tag = t ∧ c.st = stOk ∧ c.dw0 = out.length) ∧ Ended d (d.returnRecords t clear out) t stOk ∧
    d.returnRecords t clear out = { d with hst := (d.returnRecords t clear out).hst, cmds := (d.returnRecords t clear out).cmds } := by
  obtain ⟨x, hx, htx, hpost⟩ := d.returnRecords_parts t (clear := clear) out
  unfold Dev.returnRecords
  rw [hx]
  have hp : (∀ c, d.cmd? t = some c → c.silent = false) → _ := Dev.finish_quiet_post ({ d with hst := x } : Dev) t (st := stOk) rfl out.length 0
  have he := Dev.finish_ended ({ d with hst := x } : Dev) t stOk out.length 0
  refine ⟨(Dev.finish_tx _ _ _ _ _).trans htx, fun hs => ?_, ⟨he.1, fun hs => ?_⟩, Dev.finish_quiet_frame ({ d with hst := x } : Dev) t rfl out.length 0⟩
  · rw [hp hs]
    exact ⟨_, List.mem_append_right _ List.mem_cons_self, rfl, rfl, rfl⟩
  · obtain ⟨l, c, hl, hc⟩ := he.2 hs
    exact ⟨l, c, hl.trans (by rw [show ({ d with hst := x } : Dev).hst.post = d.hst.post from hpost]), hc⟩

theorem Dev.returnRecords_unmasks (hc : clear) (c : Fin 2) : ∀ e ∈ ((d.returnRecords t clear out).ctrl c).masked, e.info ≠ 0xE0 := by
  intro e he
  unfold Dev.returnRecords at he
  rw [Dev.finish_quiet_ctrl _ _ rfl, if_pos hc] at he
  have hm : (((d.unmaskLog).sendData t out.flatten).ctrl c).masked = _ := d.unmaskLog_masked c
  rw [hm, List.mem_filter] at he
  simpa using he.2
end

section
variable {s : State} {t : Tag} {cdw10 numr : Word} {first : BitVec 64} {len : Nat} (h0 : s.dev.live 0 = true)
include h0

theorem gives_logbookRead_wrong (h : cdw10.toNat / 4 ≠ 0 ∨ numr.toNat = 0 ∨ 32768 < numr.toNat ∨ len < 32 * numr.toNat) :
    Gives (.logbookRead t cdw10 numr first len) s fun d => Ended s.dev d t stInvalidField ∧ d = { s.dev with hst := d.hst, cmds := d.cmds, free := d.free } :=
  gives_finish (exec_logbookRead t cdw10 numr first len s) h0 ((Dev.host_always _ _ _).trans (if_pos h))

theorem gives_logbookRead (h : ¬(cdw10.toNat / 4 ≠ 0 ∨ numr.toNat = 0 ∨ 32768 < numr.toNat ∨ len < 32 * numr.toNat)) : Gives (.logbookRead t cdw10 numr first len) s fun d =>
    (∃ out : List Bytes, d.hst.tx = s.dev.hst.tx ++ [.data t out.flatten] ∧ out = s.dev.recordsRead (cdw10.toNat % 2) numr.toNat first.toNat ∧
      ((∀ c, s.dev.cmd? t = some c → c.silent = false) → ∃ c ∈ d.hst.post, c.tag = t ∧ c.st = stOk ∧ c.dw0 = out.length)) ∧ Ended s.dev d t stOk ∧
    (cdw10.toNat / 2 % 2 = 1 → ∀ (c : Fin 2), ∀ e ∈ (d.ctrl c).masked, e.info ≠ 0xE0) ∧ d = { s.dev with hst := d.hst, cmds := d.cmds } := by
  obtain ⟨htx, hp, he, hf⟩ := s.dev.returnRecords_shows t (clear := cdw10.toNat / 2 % 2 = 1) (s.dev.recordsRead (cdw10.toNat % 2) numr.toNat first.toNat)
  exact gives_of_eq (exec_logbookRead t cdw10 numr first len s) h0 ((Dev.host_always _ _ _).trans (if_neg h)) ⟨⟨_, htx, rfl, hp⟩, he, fun hc => Dev.returnRecords_unmasks _ _ _ hc, hf⟩
end

/-! ### The obligation -/

/-- Settles O34: the pool and the buckets by what the writing of a record leaves as it was, the flush by the course of its batch, and the read by what it returns. -/
theorem logbookAdmitsFlushesAndReads : Obligations.LogbookAdmitsFlushesAndReads := by
  refine ⟨fun s bad sram h0 => ⟨gives_logEventAccept_not h0, fun e r hq hr hp => ⟨gives_logEventAccept_bad h0 hq hr hp, gives_logEventAccept_admitted h0 hq hr hp,
      gives_logEventAccept_suppress h0 hq hr hp⟩⟩,
    fun s b h0 => ⟨gives_bucketRefill_not h0, gives_bucketRefill h0⟩,
    fun s h0 => ⟨gives_logFlushBatch_none h0, fun cause hq => ⟨gives_logFlushBatch_waits h0 hq, fun hg ho => ⟨gives_logFlushBatch_off h0 hq hg ho, fun hf => ?_⟩⟩,
      gives_logEpochScan h0, gives_logEpochScan_not h0⟩,
    fun s t cdw10 numr first len h0 => ⟨gives_logbookRead_wrong h0, gives_logbookRead h0⟩⟩
  exact (gives_logFlushBatch h0 hq hg ho hf).mono fun d ⟨hreq, hbatch, hrecs, hcount, hopened, hfailed, htorn, hwhole, hrest⟩ =>
    ⟨hreq, hbatch, hrecs, hcount, hopened, hfailed, htorn, fun h1 h2 h3 h4 h5 h6 h7 h8 h9 => hwhole h1 h2 ⟨h3, h4, h5, h6, h7⟩ h8 h9, hrest⟩

end Sys2Proof.Machine
end
